-- ==== Sys2Proof/Word.lean ====
section
/-! DEFINITION. The word types of the XZ-3840 and their plainest arithmetic (00_scope.md R8, R11). -/
namespace Sys2Proof

/-- A byte of a record, packet or memory image. -/
abbrev Byte := BitVec 8
/-- A parameter (R11: at most 64 bits wide). -/
abbrev Word := BitVec 64

/-- `2 ^ n` as a natural number. -/
def pow2 (n : Nat) : Nat := 2 ^ n

/-- The bits [hi:lo] of a natural number (R8: both ends included). -/
def bitsOf (w hi lo : Nat) : Nat := (w / 2 ^ lo) % 2 ^ (hi + 1 - lo)

/-- Bit `i` of a natural number. -/
def bitOf (w i : Nat) : Bool := (w / 2 ^ i) % 2 == 1

/-- One bit as a number. -/
def ofBit (b : Bool) : Nat := if b then 1 else 0

/-- The two's-complement reading of the low `n` bits of `w`. -/
def sext (n w : Nat) : Int :=
  let v := w % 2 ^ n
  if 2 * v < 2 ^ n then (v : Int) else (v : Int) - (2 ^ n : Nat)

/-- The low `n` bits of an integer in two's complement. -/
def trunc (n : Nat) (v : Int) : Nat := (v % ((2 ^ n : Nat) : Int)).toNat

end Sys2Proof
end

