-- ==== Sys2Proof/Syntax.lean ====
section
/-! DEFINITION. The commands of the XZ-3840: one constructor per row of the opcode table, with its operands.
Times `t` are system times in ns at which the environment makes the happening take effect; where the rules fix
the time from the state, the command carries none. -/
namespace Sys2Proof

/-- Which bits a BAR0 write covers (R384): one 32-bit half or the whole 64-bit parameter. -/
inductive Half where
  | low | high | whole
  deriving DecidableEq, Repr

/-- Where a command packet came from (R405, R408). -/
inductive Path where
  | ring | mailbox
  deriving DecidableEq, Repr

/-- How a parameter write reaches the device: a BAR0 write of a half or the whole (R384), or a write of a
Salsol command with its MASK, whose tag was found right or which carried none (R411, R418). -/
inductive WriteOrigin where
  | bar0 (half : Half)
  | salsol (mask : BitVec 64) (auth : Bool)
  deriving DecidableEq, Repr

/-- A host write of one parameter. `coinc`: the W1C bits whose setting by the hardware fell in the cycle of
this write (R13, R484). -/
structure HostWrite where
  t : Nat
  origin : WriteOrigin
  value : BitVec 64
  coinc : BitVec 64
  deriving DecidableEq, Repr
/-- What a configuration write of a PCIe function leaves (Table 17.1, R382, R385, R387): Bus Master Enable, the codes of the
maximum payload, the maximum read request and the completion timeout, MSI-X enable and function mask, and the addresses of
BAR0 and BAR2. -/
structure FnConfig where
  bme : Bool
  maxPayload : Nat
  maxRead : Nat
  timeout : Nat
  msixOn : Bool
  msixMask : Bool
  bar0 : Nat
  bar2 : Nat
  deriving DecidableEq, Repr

/-- The count of a repeat: an immediate or a data register (R142). -/
inductive RepeatCount where
  | imm (n : Nat)
  | reg (d : Nat)
  deriving DecidableEq, Repr

/-- Where a move from an accumulator goes (R141): a data register, or data memory through ADk on port U or V. -/
inductive MoveDest where
  | reg (d : Nat)
  | mem (ad : Nat) (portV : Bool)
  deriving DecidableEq, Repr

/-- One data memory access through ADk: a load into, or a store of, data register `reg` (R140). -/
structure MemAccess where
  ad : Nat
  store : Bool
  reg : Nat
  /-- The word read turns out uncorrectable (R140). -/
  uncorrectable : Bool
  deriving DecidableEq, Repr

/-- What a MAC instruction does beside its first MAC (R137): a second MAC in narrow mode, by accumulator and data registers, and
an access by each data address unit. -/
structure MacRest where
  second : Option (Nat × Nat × Nat)
  u : Option MemAccess
  v : Option MemAccess
  deriving DecidableEq, Repr

/-- Whether a lane's alignment search found the boundary, and whether the peer's BEACON says that it is aligned too (R357). -/
structure LaneAligned where
  own : Bool
  peer : Bool
  deriving DecidableEq, Repr

/-- A register written by an instruction that has no row of its own (Table 6.1, R138): a data, address or step register, a
circular buffer descriptor, or the clearing of a sticky bit of SR. -/
inductive RegWrite where
  | d (k : Nat) (v : BitVec 24)
  | ad (k : Nat) (v : BitVec 16)
  | st (k : Nat) (v : BitVec 16)
  | cb (k : Nat) (v : BitVec 32)
  | clearAv (k : Nat)
  | clearSv
  deriving DecidableEq, Repr

/-- What a fetched word is to the core's decoder, whose encoding the manual does not give (R160): an instruction whose row
follows; one without a row of its own, with the registers it writes; none; or a word in error. -/
inductive FetchVerdict where
  | legal | illegal | uncorrectable
  | other (writes : List RegWrite)
  deriving DecidableEq, Repr
/-- What Farrier measured in a run (R292 to R294): tap delays of a path relative to tap 0 and segment sizes, in any
one unit per list (taps in fs); counts of each raw code; and the timed strobes of an input as coarse ticks since the
launch tick, with the raw code. A path or input left out was not measured. -/
structure CalMeasure where
  taps : List (Nat × List Nat)
  segs : List (Nat × List Nat)
  counts : List (Nat × List Nat)
  strobes : List (Nat × List (Int × Nat))
  deriving DecidableEq, Repr

/-- A path's strobe check of a window (R295): strobes missing of 64, departure of the mean and standard deviation,
in fs. -/
structure StrobeCheck where
  path : Nat
  missing : Nat
  departure : Int
  std : Nat
  deriving DecidableEq, Repr

/-- A unit's comparison of its unassigned spare with this frame's regular path (R295), in fs. -/
structure SpareCompare where
  unit : Nat
  events : Nat
  unpaired : Nat
  mean : Int
  rms : Nat
  deriving DecidableEq, Repr
/-- A slot's entry in a TEAM message (Table 16.6, R373), with what the rules take from the team table. -/
structure TeamEntry where
  slot : Nat
  devId : Nat
  parent : Nat
  state : Nat
  prio : Nat
  gait : Nat
  brId : Nat
  deriving DecidableEq, Repr

/-- The content of a TEAM message. The manual gives its fields, not their layout (notes/assumptions 29). -/
structure TeamBody where
  lead : Nat
  e : Nat
  slots : List TeamEntry
  deriving DecidableEq, Repr

/-- A joining device of a JOIN_REQ (Table 16.6), with its parent in the joined tree and what else the rules take from the team
table. -/
structure JoinEntry where
  devId : Nat
  prio : Nat
  slot : Nat
  parentId : Nat
  gait : Nat
  brId : Nat
  deriving DecidableEq, Repr

/-- The content of a JOIN_REQ: E of the team that joins (R371) and its devices. -/
structure JoinBody where
  e : Nat
  devices : List JoinEntry
  deriving DecidableEq, Repr

/-- The content of a SLOT message: the lead, its φ, and the gait and phase of each slot. -/
structure SlotBody where
  lead : Nat
  phi : Nat
  phases : List (Nat × Nat)
  deriving DecidableEq, Repr

/-- The decrypted content of an EPOCH message: E, S and t_E of the current and the pending epoch. -/
structure EpochBody where
  lead : Nat
  cur : Option (Nat × List Byte × Nat)
  pend : Option (Nat × List Byte × Nat)
  deriving DecidableEq, Repr

/-- An 8b/10b symbol: a control symbol K or a data symbol D, and its value (R351, Table 16.3). -/
structure Sym where
  k : Bool
  v : Byte
  deriving DecidableEq, Repr

/-- A lane word: four symbols, an ordered set or data (R351, R354). -/
abbrev LaneWord := List Sym

/-- The words a link's receiver takes a frame from, as its lanes received them: those of the link's lower lane, and those of the
other lane where both lanes of a bonded link carry it (R352). -/
structure LaneStreams where
  even : List LaneWord
  odd : List LaneWord
  deriving DecidableEq, Repr

/-- One constructor per row of the opcode table (the row's name and rule stand behind each). -/
inductive Instr where
  | columnTrigger                                                          -- COLUMN_TRIGGER (R18)
  | columnSkipTimeout                                                      -- COLUMN_SKIP_TIMEOUT (R246)
  | fireCommand (bank pulse : Nat)                                         -- FIRE_COMMAND (R19)
  | monitorEvent (bank tick code : Nat)                                    -- MONITOR_EVENT (R74)
  | monWinExpiry (bank pulse : Nat)                                        -- MON_WIN_EXPIRY (R21)
  | returnEvent (channel tick code stay : Nat)                             -- RETURN_EVENT (R69)
  | armingDecision (bank pulse : Nat)                                      -- ARMING_DECISION (R77)
  | histogramAccumulate (channel : Nat)                                    -- HISTOGRAM_ACCUMULATE (R87)
  | gateEdge (gate tick code : Nat) (rising : Bool)                        -- GATE_EDGE (R76)
  | syncInEdge (t : Nat)                                                   -- SYNC_IN_EDGE (R46)
  | creditRestore (t : Nat)                                                -- CREDIT_RESTORE (R70)
  | handOff                                                                -- HAND_OFF (R22)
  | statResultComplete (t : Nat)                                           -- STAT_RESULT_COMPLETE (R79)
  | dumpRecord                                                             -- DUMP_RECORD (R104)
  | epochPeriodExpiry (t : Nat)                                            -- EPOCH_PERIOD_EXPIRY (R57)
  | codeKeyDerived (t : Nat)                                               -- CODE_KEY_DERIVED (R52)
  | pipeChannelRead (channel : Nat)                                        -- PIPE_CHANNEL_READ (R27)
  | momentSolve (cluster : Nat)                                            -- MOMENT_SOLVE (R123)
  | columnEndMarker (cluster : Nat)                                        -- COLUMN_END_MARKER (R117)
  | intervalEngineCandidate (t : Nat)                                      -- INTERVAL_ENGINE_CANDIDATE (R319)
  | rowReady (t row : Nat)                                                 -- ROW_READY (R149)
  | columnJobStart (t core : Nat)                                          -- COLUMN_JOB_START (R145)
  | jobDispatch (t core : Nat)                                             -- JOB_DISPATCH (R143)
  | postEntry (t row : Nat) (entry : BitVec 128)                           -- POST_ENTRY (R150)
  | evothInstructionFetch (core pc : Nat) (verdict : FetchVerdict)         -- EVOTH_INSTRUCTION_FETCH (R160)
  | evothRepeat (core : Nat) (count : RepeatCount) (allowed : Bool)        -- EVOTH_REPEAT (R142)
  | evothModeSwitch (core : Nat) (narrow : Bool)                           -- EVOTH_MODE_SWITCH (R139)
  | evothMac (core acc da db : Nat) (rest : MacRest)                       -- EVOTH_MAC (R138)
  | evothAccMove (core acc : Nat) (dest : MoveDest)                        -- EVOTH_ACC_MOVE (R141)
  | evothLoadSc (core : Nat) (value : BitVec 8)                            -- EVOTH_LOAD_SC (R141)
  | evothLoadCbsel (core : Nat) (value : BitVec 24)                        -- EVOTH_LOAD_CBSEL (R136)
  | evothDataAccess (core : Nat) (u v : Option MemAccess)                  -- EVOTH_DATA_ACCESS (R140)
  | bkBlockRepeat (core len count : Nat)                                   -- BK_BLOCK_REPEAT (R147)
  | bkUnsupportedInstruction (core : Nat)                                  -- BK_UNSUPPORTED_INSTRUCTION (R148)
  | intervalTablesDone (t paddock : Nat)                                   -- INTERVAL_TABLES_DONE (R335)
  | evothReloadDone (t region : Nat)                                       -- EVOTH_RELOAD_DONE (R159)
  | releaseDeadline (region : Nat)                                         -- RELEASE_DEADLINE (R29)
  | ringWriteback (t region : Nat)                                         -- RING_WRITEBACK (R178)
  | coalUsExpiry (region : Nat)                                            -- COAL_US_EXPIRY (R178)
  | recorderChange (t levels pulsed : Nat)                                 -- RECORDER_CHANGE (R194)
  | captureEnd (t : Nat)                                                   -- CAPTURE_END (R198)
  | recorderRearm (t : Nat)                                                -- RECORDER_REARM (R200)
  | recDrainCapture (t : Nat)                                              -- REC_DRAIN_CAPTURE (R203)
  | chargerSample (t charger code : Nat) (fltLow : Bool)                   -- CHARGER_SAMPLE (R210)
  | rampTick (t : Nat)                                                     -- RAMP_TICK (R211)
  | chgTimeout (t charger : Nat)                                           -- CHG_TIMEOUT (R216)
  | chgExtFault (t charger : Nat)                                          -- CHG_EXT_FAULT (R216)
  | expSlotEnd (t : Nat)                                                   -- EXP_SLOT_END (R218)
  | currentSample (t : Nat) (code : Int)                                   -- CURRENT_SAMPLE (R229)
  | bridgeStuck (t : Nat) (code : Int)                                     -- BRIDGE_STUCK (R230)
  | bridgeTakeover (code : Int)                                            -- BRIDGE_TAKEOVER (R230)
  | angleSample                                                            -- ANGLE_SAMPLE (R232)
  | angleStale (t : Nat)                                                   -- ANGLE_STALE (R232)
  | positionLoopTick (t : Nat)                                             -- POSITION_LOOP_TICK (R240)
  | outerLoopOverrun (t : Nat)                                             -- OUTER_LOOP_OVERRUN (R241)
  | converterOutput (conv : Nat) (bits : List Bool)                        -- CONVERTER_OUTPUT (R260)
  | overloadDetected (t conv : Nat)                                        -- OVERLOAD_DETECTED (R257)
  | impedanceCheckStart (t conv : Nat)                                     -- IMPEDANCE_CHECK_START (R271)
  | impedanceCheckEnd (conv zp zn : Nat)                                   -- IMPEDANCE_CHECK_END (R273)
  | excComplianceFault (t source : Nat)                                    -- EXC_COMPLIANCE_FAULT (R254)
  | excComplianceRestored (t source : Nat)                                 -- EXC_COMPLIANCE_RESTORED (R254)
  | chopPhase (source : Nat)                                               -- CHOP_PHASE (R252)
  | syncReset (conv : Nat)                                                 -- SYNC_RESET (R258)
  | foutPeriodEnd (t output : Nat)                                         -- FOUT_PERIOD_END (R275)
  | hkConversion (t conv code : Nat)                                       -- HK_CONVERSION (R281)
  | strobeWindowStart (t : Nat) (comps : List SpareCompare)                -- STROBE_WINDOW_START (R291)
  | strobeWindowEnd (t : Nat) (checks : List StrobeCheck)                  -- STROBE_WINDOW_END (R291)
  | calRunStart (t : Nat)                                                  -- CAL_RUN_START (R303)
  | calRunSolved (t : Nat) (meas : CalMeasure)                             -- CAL_RUN_SOLVED (R303)
  | startupRunInstalled (t : Nat)                                          -- STARTUP_RUN_INSTALLED (R305)
  | rerunMaxExpiry (t : Nat)                                               -- RERUN_MAX_EXPIRY (R303)
  | templateEstimate (t cluster : Nat)                                     -- TEMPLATE_ESTIMATE (R299)
  | angleLagEstimate (t : Nat)                                             -- ANGLE_LAG_ESTIMATE (R302)
  | taskTick (t : Nat)                                                     -- TASK_TICK (R510)
  | halterTimeout (t paddock : Nat)                                        -- HALTER_TIMEOUT (R324)
  | turnaroundSelftest (t : Nat) (passed : Bool)                           -- TURNAROUND_SELFTEST (R326)
  | lockstepMismatch (t : Nat)                                             -- LOCKSTEP_MISMATCH (R326)
  | supervisorMemoryError (t : Nat)                                        -- SUPERVISOR_MEMORY_ERROR (R326)
  | safetyClockCheck (t : Nat) (ppm : Int)                                 -- SAFETY_CLOCK_CHECK (R326)
  | tpsPulse (t supply : Nat)                                              -- TPS_PULSE (R329)
  | safetyInputSample (t levels : Nat)                                     -- SAFETY_INPUT_SAMPLE (R330)
  | inFilterExpiry (t input : Nat)                                         -- IN_FILTER_EXPIRY (R330)
  | pairDiscrepancy (t pair : Nat)                                         -- PAIR_DISCREPANCY (R331)
  | soutTestPulse (t output ch : Nat)                                      -- SOUT_TEST_PULSE (R332)
  | soutReadback (t levels : Nat)                                          -- SOUT_READBACK (R332)
  | bridleFrameReceive (t slot off : Nat) (bytes : List Byte)              -- BRIDLE_FRAME_RECEIVE (R341)
  | sourceExpectationExpiry (t entry : Nat)                                -- SOURCE_EXPECTATION_EXPIRY (R343)
  | laneEnable (t lane : Nat)                                              -- LANE_ENABLE (R356)
  | beaconSeen (t lane peerLane : Nat)                                     -- BEACON_SEEN (R356)
  | trainingDone (t lane : Nat)                                            -- TRAINING_DONE (R358)
  | alignSlip (t lane : Nat)                                               -- ALIGN_SLIP (R357)
  | alignmentDone (t lane : Nat) (aligned : LaneAligned)                   -- ALIGNMENT_DONE (R357)
  | adaptationFreeze (t lane : Nat) (frozen : Bool)                        -- ADAPTATION_FREEZE (R358)
  | laneDetach (t lane : Nat)                                              -- LANE_DETACH (R359)
  | hello (t lane : Nat) (wire : LaneStreams)                              -- HELLO (R363)
  | cert (t lane : Nat) (wire : LaneStreams)                                 -- CERT (R363)
  | certVerified (t lane : Nat)                                            -- CERT_VERIFIED (R363)
  | kemCt (t lane : Nat) (wire : LaneStreams)                                -- KEM_CT (R364)
  | finish (t lane : Nat) (wire : LaneStreams)                               -- FINISH (R365)
  | team (t lane : Nat) (even odd : List LaneWord)                       -- TEAM (R369)
  | joinReq (t lane : Nat) (even odd : List LaneWord)                    -- JOIN_REQ (R370)
  | slot (t lane : Nat) (even odd : List LaneWord)                       -- SLOT (R374)
  | epoch (t lane : Nat) (even odd : List LaneWord)                      -- EPOCH (R375)
  | phaseReq (t lane : Nat) (even odd : List LaneWord)                   -- PHASE_REQ (R374)
  | leaveMessage (t lane : Nat) (wire : LaneStreams)                         -- LEAVE_MESSAGE (R359)
  | bridleMessage (t lane : Nat) (wire : LaneStreams)                        -- BRIDLE_MESSAGE (R373)
  | hitchRetryTimeout (t lane kind : Nat)                                  -- HITCH_RETRY_TIMEOUT (R362)
  | handshakeRetry (t lane : Nat)                                          -- HANDSHAKE_RETRY (R366)
  | timeExchangeStart (t stamp : Nat)                                      -- TIME_EXCHANGE_START (R376)
  | tsyncReceive (t lane id rxStamp txStamp : Nat)                         -- TSYNC_RECEIVE (R376)
  | timeRsp (t lane : Nat) (wire : LaneStreams) (stamp : Nat)               -- TIME_RSP (R377)
  | timeExchangeMiss (t : Nat)                                             -- TIME_EXCHANGE_MISS (R376)
  | slotHoldExpiry (t slot : Nat)                                          -- SLOT_HOLD_EXPIRY (R372)
  | eyeScanDone (t errors : Nat)                                           -- EYE_SCAN_DONE (R360)
  | tableWalkComplete (t chan : Nat) (l1 l2 : Option Word)                 -- TABLE_WALK_COMPLETE (R390)
  | stuInvalidationDone (t : Nat)                                          -- STU_INVALIDATION_DONE (R391)
  | retrainDone (t rate : Nat) (x8 : Bool)                                 -- RETRAIN_DONE (R381)
  | linkUp (t rate : Nat) (x8 : Bool)                                      -- LINK_UP (R380)
  | busMasterEnable (t function : Nat) (c : FnConfig)                      -- BUS_MASTER_ENABLE (R387)
  | lowHalfRead (t key : Nat) (half : Half)                                -- LOW_HALF_READ (R14)
  | resultHeaderRead (t slot : Nat) (half : Half)                          -- RESULT_HEADER_READ (R182)
  | recDataRead (t : Nat) (half : Half)                                    -- REC_DATA_READ (R202)
  | bar0ParamWrite (t key : Nat) (half : Half) (value coinc : BitVec 64)   -- BAR0_PARAM_WRITE (R384)
  | sqDoorbell (t value size : Nat)                                        -- SQ_DOORBELL (R404)
  | cqDoorbell (t value size : Nat)                                        -- CQ_DOORBELL (R404)
  | mbGo (t value : Nat) (request : List Byte)                             -- MB_GO (R408)
  | nop (t : Nat) (path : Path)                                            -- NOP (R415)
  | identify (t : Nat) (path : Path)                                       -- IDENTIFY (R415)
  | profileApply (t : Nat) (path : Path) (coinc : List Nat)                -- PROFILE_APPLY (R419)
  | ringsInit (t : Nat) (path : Path)                                      -- RINGS_INIT (R421)
  | setGait (t : Nat) (path : Path)                                        -- SET_GAIT (R40)
  | setField (t : Nat) (path : Path)                                       -- SET_FIELD (R37)
  | histDump (t : Nat) (path : Path)                                       -- HIST_DUMP (R102)
  | streamMode (t : Nat) (path : Path)                                     -- STREAM_MODE (R172)
  | recorder (t : Nat) (path : Path)                                       -- RECORDER (R197)
  | emittersOn (t : Nat) (path : Path)                                     -- EMITTERS_ON (R208)
  | emittersOff (t : Nat) (path : Path)                                    -- EMITTERS_OFF (R208)
  | mirror (t : Nat) (path : Path)                                         -- MIRROR (R237)
  | calibrate (t : Nat) (path : Path)                                      -- CALIBRATE (R303)
  | paddockDefine (t : Nat) (path : Path)                                  -- PADDOCK_DEFINE (R335)
  | paddockEnable (t : Nat) (path : Path)                                  -- PADDOCK_ENABLE (R322)
  | safeReset (t : Nat) (path : Path)                                      -- SAFE_RESET (R327)
  | teamLeave (t : Nat) (path : Path)                                      -- TEAM_LEAVE (R359)
  | paramRead (t : Nat) (path : Path)                                      -- PARAM_READ (R417)
  | paramWrite (t : Nat) (path : Path) (coinc : List Nat)                  -- PARAM_WRITE (R418)
  | faultLogRead (t : Nat) (path : Path)                                   -- FAULT_LOG_READ (R481)
  | evothMsgRead (t : Nat) (path : Path)                                   -- EVOTH_MSG_READ (R422)
  | commandFetch (t : Nat) (bytes : List Byte)                             -- COMMAND_FETCH (R403)
  | replyWrite (t : Nat)                                                   -- REPLY_WRITE (R405)
  | noticeWrite (t : Nat)                                                  -- NOTICE_WRITE (R482)
  | attestStart (t : Nat) (path : Path)                                    -- ATTEST_START (R430)
  | attestReadReport (t : Nat) (path : Path)                               -- ATTEST_READ_REPORT (R430)
  | attestReadRecord (t : Nat) (path : Path)                               -- ATTEST_READ_RECORD (R430)
  | attestReportReady (t : Nat)                                            -- ATTEST_REPORT_READY (R431)
  | tackCommit (t : Nat) (path : Path)                                     -- TACK_COMMIT (R443)
  | fwData (t : Nat) (path : Path)                                         -- FW_DATA (R433)
  | evothLoad (t : Nat) (path : Path)                                      -- EVOTH_LOAD (R158)
  | keyEnroll (t : Nat) (path : Path)                                      -- KEY_ENROLL (R438)
  | keyRetire (t : Nat) (path : Path)                                      -- KEY_RETIRE (R439)
  | powerOnReset                                                           -- POWER_ON_RESET (R490)
  | porRelease (gates : Nat)                                               -- POR_RELEASE (R490)
  | controlWatchdog (t : Nat)                                              -- CONTROL_WATCHDOG (R471)
  | functionReset (t function : Nat)                                       -- FUNCTION_RESET (R474)
  | linkReset (t : Nat)                                                    -- LINK_RESET (R469)
  | thermalTick (t : Nat)                                                  -- THERMAL_TICK (R462)
  | orderlyStop (t : Nat)                                                  -- ORDERLY_STOP (R464)
  | pfdShadowLoad (t : Nat)                                                -- PFD_SHADOW_LOAD (R449)
  | domainSwitchOff (t : Nat)                                              -- DOMAIN_SWITCH_OFF (R511)
  | powerTransitionDone (t : Nat)                                          -- POWER_TRANSITION_DONE (R458)
  | refLost (t : Nat)                                                      -- REF_LOST (R446)
  | refPresent (t : Nat)                                                   -- REF_PRESENT (R446)
  | pllLocked (t : Nat)                                                    -- PLL_LOCKED (R447)
  | dclTransferStart (t : Nat)                                             -- DCL_TRANSFER_START (R497)
  | dclTransferDone (t : Nat) (response : BitVec 32)                       -- DCL_TRANSFER_DONE (R496)
  | frameBoundary                                                          -- FRAME_BOUNDARY (R32)
  | gaitReq (h : HostWrite) -- GAIT_REQ (R40)
  | fieldWrite (h : HostWrite) -- FIELD_WRITE (R37)
  | phaseRequest (h : HostWrite) -- PHASE_REQUEST (R45)
  | cntSel (h : HostWrite) -- CNT_SEL (R75)
  | statStart (h : HostWrite) -- STAT_START (R79)
  | calSel (h : HostWrite) -- CAL_SEL (R84)
  | spareSubstitute (h : HostWrite) -- SPARE_SUBSTITUTE (R83)
  | spareRelease (h : HostWrite) -- SPARE_RELEASE (R83)
  | dumpReq (h : HostWrite) -- DUMP_REQ (R102)
  | freezeSel (h : HostWrite) -- FREEZE_SEL (R107)
  | tplCommit (h : HostWrite) -- TPL_COMMIT (R118)
  | tplSwap (h : HostWrite) -- TPL_SWAP (R120)
  | bgSel (h : HostWrite) -- BG_SEL (R115)
  | evothRestart (h : HostWrite) -- EVOTH_RESTART (R161)
  | keyReq (h : HostWrite) -- KEY_REQ (R173)
  | ringEnable (ring : Nat) (h : HostWrite) -- RING_ENABLE (R175)
  | ringRdWrite (ring : Nat) (h : HostWrite) -- RING_RD_WRITE (R179)
  | envCommit (h : HostWrite) -- ENV_COMMIT (R185)
  | maskRelease (h : HostWrite) -- MASK_RELEASE (R192)
  | maskSel (h : HostWrite) -- MASK_SEL (R205)
  | recEn (h : HostWrite) -- REC_EN (R197)
  | recStop (h : HostWrite) -- REC_STOP (R198)
  | recSwTrig (h : HostWrite) -- REC_SW_TRIG (R196)
  | emitCtrlWrite (h : HostWrite) -- EMIT_CTRL_WRITE (R208)
  | chgSetWrite (charger : Nat) (h : HostWrite) -- CHG_SET_WRITE (R222)
  | chgClear (h : HostWrite) -- CHG_CLEAR (R214)
  | expCfgWrite (h : HostWrite) -- EXP_CFG_WRITE (R220)
  | expBudgetWrite (bank : Nat) (h : HostWrite) -- EXP_BUDGET_WRITE (R220)
  | expSel (h : HostWrite) -- EXP_SEL (R225)
  | mirrorRun (h : HostWrite) -- MIRROR_RUN (R238)
  | mirrorDrvEn (h : HostWrite) -- MIRROR_DRV_EN (R231)
  | mirrorRestart (h : HostWrite) -- MIRROR_RESTART (R237)
  | rcClear (h : HostWrite) -- RC_CLEAR (R244)
  | convCfgWrite (conv : Nat) (h : HostWrite) -- CONV_CFG_WRITE (R251)
  | converterSync (h : HostWrite) -- CONVERTER_SYNC (R258)
  | impClear (h : HostWrite) -- IMP_CLEAR (R273)
  | linCommit (h : HostWrite) -- LIN_COMMIT (R266)
  | accCfgWrite (acc : Nat) (h : HostWrite) -- ACC_CFG_WRITE (R286)
  | accSel (h : HostWrite) -- ACC_SEL (R287)
  | runReq (h : HostWrite) -- RUN_REQ (R303)
  | pdCommit (h : HostWrite) -- PD_COMMIT (R335)
  | paddockEnWrite (paddock : Nat) (h : HostWrite) -- PADDOCK_EN_WRITE (R322)
  | safeResetBit (h : HostWrite) -- SAFE_RESET_BIT (R327)
  | brSrcWrite (entry : Nat) (h : HostWrite) -- BR_SRC_WRITE (R342)
  | hitchSlip (h : HostWrite) -- HITCH_SLIP (R357)
  | leave (h : HostWrite) -- LEAVE (R359)
  | eyeScanStart (h : HostWrite) -- EYE_SCAN_START (R360)
  | retrain (h : HostWrite) -- RETRAIN (R381)
  | stuInv (h : HostWrite) -- STU_INV (R391)
  | dmaResume (h : HostWrite) -- DMA_RESUME (R395)
  | dmaAbort (h : HostWrite) -- DMA_ABORT (R395)
  | confirm (h : HostWrite) -- CONFIRM (R435)
  | pfdModeWrite (h : HostWrite) -- PFD_MODE_WRITE (R449)
  | powerStateRequest (h : HostWrite) -- POWER_STATE_REQUEST (R456)
  | resume (h : HostWrite) -- RESUME (R466)
  | ctrlRestart (h : HostWrite) -- CTRL_RESTART (R471)
  | flagSel (h : HostWrite) -- FLAG_SEL (R485)
  | dclXfer (h : HostWrite) -- DCL_XFER (R497)

  deriving DecidableEq, Repr

end Sys2Proof
end

