-- ==== Sys2Proof/Config.lean ====
section
/-! DEFINITION. What the specification leaves open: free values without a body, so that nothing can be
proved of them, and the published algorithms the manual names without restating (00_scope.md, Standards). -/
namespace Sys2Proof.Config

/-- The `n`-th free value: a value the manual leaves open, or one the device draws from its random bit
source (R57, R412). Notes/assumptions 3. -/
opaque freeBits : Nat → BitVec 512

/-- FIPS 203 ML-KEM-768 decapsulation: the device's secret is in it. Ciphertext to shared secret (R364, R438). -/
opaque mlKemDecaps : List Byte → List Byte
/-- FIPS 203 ML-KEM-768 encapsulation under a peer's key with drawn randomness: ciphertext and secret (R364). -/
opaque mlKemEncaps : List Byte → Nat → List Byte × List Byte
/-- FIPS 205 SLH-DSA-SHA2-192s verification: key, the message as the pure form prepares it, signature (R428, R429). -/
opaque slhVerify : List Byte → List Byte → List Byte → Bool
/-- The Olugo root keys of a generation in the mask ROM: RSA and SLH-DSA (R429). -/
opaque rootKey : Nat → List Byte × List Byte
/-- The RSA-3072 private operation of the device's identity key, in it a secret: the encoded message to the signature as a
number (R428, R431). -/
opaque rsaPrivate : Nat → Nat
/-- FIPS 205 SLH-DSA-SHA2-192s signing with the device's identity key: the message as the pure form prepares it, and the
drawn randomness (R428, R431). -/
opaque slhSign : List Byte → List Byte → List Byte

end Sys2Proof.Config
end

