-- ==== Sys2Proof/Machine/Arith.lean ====
section
/-! DEFINITION. Exact arithmetic and its roundings: the rational numbers the rules compute in before
they round, saturation, little-endian byte lists. -/
namespace Sys2Proof.Machine

/-- `floor (n / d + 1 / 2)`: rounding to nearest, a tie going up. -/
def roundHalfUp (n : Int) (d : Nat) : Int := (2 * n + (d : Int)) / (2 * (d : Int))

/-- Round `n / d` to nearest, a tie going to the even integer. -/
def roundHalfEven (n : Int) (d : Nat) : Int :=
  let q := n / (d : Int)
  let r := n % (d : Int)
  if 2 * r < (d : Int) then q else if 2 * r > (d : Int) then q + 1 else if q % 2 = 0 then q else q + 1

/-- Round `n / d` to nearest, a tie going away from zero. -/
def roundHalfAway (n : Int) (d : Nat) : Int :=
  if 0 ≤ n then roundHalfUp n d else - roundHalfUp (-n) d

/-- `n` held between `lo` and `hi`. -/
def clampI (lo hi n : Int) : Int := if n < lo then lo else if n > hi then hi else n

/-- `n` capped at `hi`. -/
def capN (hi n : Nat) : Nat := if n > hi then hi else n

/-- Add to a counter that stops at `2 ^ w - 1`. -/
def satAdd (w a n : Nat) : Nat := capN (2 ^ w - 1) (a + n)

/-- Add to a counter of `w` bits that wraps. -/
def wrapAdd (w a n : Nat) : Nat := (a + n) % 2 ^ w

/-- The `n` bytes of `v`, byte 0 holding bits [7:0] (R8). -/
def leBytes : Nat → Nat → List Byte
  | 0, _ => []
  | n + 1, v => BitVec.ofNat 8 v :: leBytes n (v / 256)

/-- The number that a little-endian byte list holds (R8). -/
def leNat : List Byte → Nat
  | [] => 0
  | b :: l => b.toNat + 256 * leNat l

/-- A little-endian field of `n` bytes from byte `first` on. -/
def frameField (f : List Byte) (first n : Nat) : Nat := leNat ((f.drop first).take n)

/-- The `n` bytes of `v`, most significant first. -/
def beBytes (n v : Nat) : List Byte := (leBytes n v).reverse

/-- The number that a big-endian byte list holds. -/
def beNat (l : List Byte) : Nat := leNat l.reverse

/-- Fixed-length list: `l` cut or filled with zero bytes to `n`. -/
def padTo (n : Nat) (l : List Byte) : List Byte := (l ++ List.replicate n 0).take n

/-- Integer square root by bitwise search below bit `k`. -/
def isqrtAux : Nat → Nat → Nat → Nat
  | 0, _, r => r
  | k + 1, n, r => let c := r + 2 ^ k; isqrtAux k n (if c * c ≤ n then c else r)

/-- `floor (sqrt n)` for any natural. -/
def isqrt (n : Nat) : Nat := isqrtAux (Nat.log2 n / 2 + 1) n 0

/-- An exact rational; `den` is never 0 in a value the model forms. -/
structure Frac where
  num : Int
  den : Nat
  deriving DecidableEq, Repr

/-- An integer as a rational. -/
def Frac.ofInt (n : Int) : Frac := ⟨n, 1⟩
/-- `n / d`. -/
def Frac.mk' (n : Int) (d : Nat) : Frac :=
  let g := Nat.gcd n.natAbs d
  if g = 0 then ⟨n, d⟩ else ⟨n / (g : Int), d / g⟩
/-- Sum. -/
def Frac.add (a b : Frac) : Frac := Frac.mk' (a.num * b.den + b.num * a.den) (a.den * b.den)
/-- Difference. -/
def Frac.sub (a b : Frac) : Frac := Frac.mk' (a.num * b.den - b.num * a.den) (a.den * b.den)
/-- Product. -/
def Frac.mul (a b : Frac) : Frac := Frac.mk' (a.num * b.num) (a.den * b.den)
/-- Quotient (0 where the divisor is 0; the rules never divide so). -/
def Frac.div (a b : Frac) : Frac :=
  if b.num = 0 then ⟨0, 1⟩
  else if 0 < b.num then Frac.mk' (a.num * b.den) (a.den * b.num.natAbs)
  else Frac.mk' (- (a.num * b.den)) (a.den * b.num.natAbs)
/-- Order. -/
def Frac.le (a b : Frac) : Bool := decide (a.num * b.den ≤ b.num * a.den)
/-- Strict order. -/
def Frac.lt (a b : Frac) : Bool := decide (a.num * b.den < b.num * a.den)
/-- The largest integer not above the value. -/
def Frac.floor (a : Frac) : Int := a.num / (a.den : Int)

end Sys2Proof.Machine
end

