-- ==== Sys2Proof/Machine/Maps.lean ====
section
/-! DEFINITION. Sorted key-and-value lists: how the model holds anything indexed (channels, buffers,
lanes, parameters). Keys strictly rise and no entry equals what an unlisted key reads as. -/
namespace Sys2Proof.Machine

/-- A sparse map as plain data: pairs with strictly rising keys. -/
abbrev SMap (α : Type) := List (Nat × α)

namespace Map

/-- The entry at `k`, if listed. -/
def find? {α : Type} : SMap α → Nat → Option α
  | [], _ => none
  | (k, v) :: m, n => if k = n then some v else find? m n

/-- What key `n` reads as, `d` being what an unlisted key reads as. -/
def get {α : Type} (d : α) (m : SMap α) (n : Nat) : α := (find? m n).getD d

/-- Remove key `n`. -/
def erase {α : Type} : SMap α → Nat → SMap α
  | [], _ => []
  | (k, v) :: m, n => if k = n then erase m n else (k, v) :: erase m n

/-- Put `v` at key `n`, keeping the keys rising. -/
def insert {α : Type} : SMap α → Nat → α → SMap α
  | [], n, x => [(n, x)]
  | (k, v) :: m, n, x =>
    if n < k then (n, x) :: (k, v) :: m
    else if k = n then (n, x) :: m
    else (k, v) :: insert m n x

/-- Write `v` at key `n`; writing the default removes the entry, so equal maps are equal data. -/
def set {α : Type} [DecidableEq α] (d : α) (m : SMap α) (n : Nat) (v : α) : SMap α :=
  if v = d then erase m n else insert m n v

/-- Change the value at key `n`. -/
def modify {α : Type} [DecidableEq α] (d : α) (m : SMap α) (n : Nat) (f : α → α) : SMap α :=
  set d m n (f (get d m n))

/-- Keys strictly rise, all above `lo`. -/
def risesFrom {α : Type} : Nat → SMap α → Bool
  | _, [] => true
  | lo, (k, _) :: m => decide (lo ≤ k) && risesFrom (k + 1) m

/-- The canonical form: keys strictly rise and no listed value is the default. -/
def wf {α : Type} [DecidableEq α] (d : α) (m : SMap α) : Bool :=
  risesFrom 0 m && m.all (fun e => decide (e.2 ≠ d))

end Map

/-- Apply `f` to 0, 1, … n - 1 in order. -/
def forUpto {σ : Type} (n : Nat) (f : Nat → σ → σ) (s : σ) : σ :=
  (List.range n).foldl (fun a i => f i a) s

/-- Apply `f` to every member in order. -/
def forEach {σ ι : Type} (l : List ι) (f : ι → σ → σ) (s : σ) : σ := l.foldl (fun a i => f i a) s

/-- The numbers of the bits set among the low `n` bits of a mask. -/
def maskBits (n mask : Nat) : List Nat := (List.range n).filter (fun i => bitOf mask i)

/-- A list with its `n`-th member replaced. -/
def listSet {α : Type} : List α → Nat → α → List α
  | [], _, _ => []
  | _ :: l, 0, x => x :: l
  | y :: l, n + 1, x => y :: listSet l n x

/-- The last `n` members of a list, oldest first. -/
def lastN {α : Type} (n : Nat) (l : List α) : List α := l.drop (l.length - n)

/-- Sum of a list of naturals. -/
def sumN (l : List Nat) : Nat := l.foldl (· + ·) 0
/-- Sum of a list of integers. -/
def sumI (l : List Int) : Int := l.foldl (· + ·) 0

end Sys2Proof.Machine
end

