-- ==== Sys2Proof/Machine/Params.lean ====
section
/-! DEFINITION. The parameters (00_scope.md R11, R12; 23_parameter_index.md R505, R506): every key of the
field maps, its fields, their access, reset value and range, and the names the meanings use for them.
Written from the field maps of the chapters 02 to 22, one row per parameter or run of like parameters. -/
namespace Sys2Proof.Machine

/-- Table 0.6: the access codes. -/
inductive Access where
  | ro | rw | wo | w1c | rsn
  deriving DecidableEq, Repr

/-- R415, R421: who may write a key. -/
inductive Protection where
  | open | critical | ringsInit
  deriving DecidableEq, Repr

/-- One field of a field map. `range`: the values the map allows. `enumerated`: a value outside is a
reserved encoding (R9, answered BAD_FORMAT), not an out-of-range number (REFUSED). -/
structure FieldSpec where
  name : String
  hi : Nat
  lo : Nat
  access : Access
  reset : Nat
  range : Option (Int × Int)
  enumerated : Bool
  signed : Bool
  deriving DecidableEq, Repr

/-- A parameter, or `first`, `first + step`, … `last` of one field map. -/
structure ParamRow where
  first : Nat
  last : Nat
  step : Nat
  name : String
  protection : Protection
  fields : List FieldSpec
  deriving DecidableEq, Repr

/-- A field of the register file: the key and the bits. -/
structure FieldRef where
  key : Nat
  hi : Nat
  lo : Nat
  deriving DecidableEq, Repr

/-- The same field of the parameter `i` keys on. -/
def FieldRef.idx (f : FieldRef) (i : Nat) : FieldRef := { f with key := f.key + i }
/-- The `i`-th of like fields `step` bits apart in one parameter. -/
def FieldRef.sub (f : FieldRef) (i step : Nat) : FieldRef := { f with hi := f.hi + i * step, lo := f.lo + i * step }
/-- The width of a field. -/
def FieldRef.width (f : FieldRef) : Nat := f.hi + 1 - f.lo

/-- Group 0x02. -/
def paramRows02_0 : List ParamRow := [
  ⟨0x0200, 0x0200, 1, "GAIT", .open,
   [⟨"GAIT_REQ", 33, 32, .rw, 2, none, false, false⟩,
    ⟨"TEAM_WAIT", 5, 5, .ro, 0, none, false, false⟩,
    ⟨"PENDING", 4, 4, .ro, 0, none, false, false⟩,
    ⟨"GAIT_NEXT", 3, 2, .ro, 2, none, false, false⟩,
    ⟨"GAIT_CUR", 1, 0, .ro, 2, none, false, false⟩]⟩,
  ⟨0x0201, 0x0201, 1, "FRAME", .open,
   [⟨"DIR", 32, 32, .rsn, 0, none, false, false⟩,
    ⟨"FRAME_NO", 31, 0, .rsn, 0, none, false, false⟩]⟩,
  ⟨0x0202, 0x0202, 1, "FIELD", .open,
   [⟨"W", 16, 0, .rw, 100000, some (30000, 120000), false, false⟩]⟩,
  ⟨0x0203, 0x0203, 1, "FRAME_SYNC", .open,
   [⟨"GATE_ARM", 35, 34, .rw, 0, some (0, 2), true, false⟩,
    ⟨"SYNC_SRC", 33, 32, .rw, 0, some (0, 1), true, false⟩,
    ⟨"PHASE", 27, 0, .rw, 0, none, false, false⟩]⟩,
  ⟨0x0204, 0x0204, 1, "STAGGER", .critical,
   [⟨"STG", 63, 0, .rw, 0xFEDCBA9876543210, none, false, false⟩]⟩,
  ⟨0x0205, 0x0205, 1, "HOLD", .open,
   [⟨"HOLD_LIMIT", 10, 0, .rw, 500, some (0, 2000), false, false⟩]⟩,
  ⟨0x0206, 0x0206, 1, "COLUMN_COUNTS", .open,
   [⟨"SKIPPED", 63, 32, .rsn, 0, none, false, false⟩,
    ⟨"HELD", 31, 0, .rsn, 0, none, false, false⟩]⟩,
  ⟨0x0207, 0x0207, 1, "CODE_EPOCH", .open,
   [⟨"E_PENDING", 63, 32, .ro, 0, none, false, false⟩,
    ⟨"E_CUR", 31, 0, .ro, 0, none, false, false⟩]⟩,
  ⟨0x0208, 0x0208, 1, "CODE_CONTROL", .open,
   [⟨"UNFIRED_FRAMES", 63, 48, .ro, 0, none, false, false⟩,
    ⟨"LATE_SWITCHES", 47, 32, .ro, 0, none, false, false⟩,
    ⟨"EPOCH_PERIOD", 11, 0, .rw, 60, some (1, 3600), false, false⟩]⟩]

/-- Table 23.1, group 0x02. -/
def paramRows02 : List ParamRow := paramRows02_0

/-- Group 0x03. -/
def paramRows03_0 : List ParamRow := [
  ⟨0x0300, 0x032F, 1, "INPUT_CFG", .open,
   [⟨"EN", 7, 7, .rw, 1, none, false, false⟩,
    ⟨"EN", 15, 15, .rw, 1, none, false, false⟩,
    ⟨"EN", 23, 23, .rw, 1, none, false, false⟩,
    ⟨"EN", 31, 31, .rw, 1, none, false, false⟩,
    ⟨"EN", 39, 39, .rw, 1, none, false, false⟩,
    ⟨"EN", 47, 47, .rw, 1, none, false, false⟩,
    ⟨"EN", 55, 55, .rw, 1, none, false, false⟩,
    ⟨"EN", 63, 63, .rw, 1, none, false, false⟩,
    ⟨"HYS", 6, 5, .rw, 1, some (0, 2), false, false⟩,
    ⟨"HYS", 14, 13, .rw, 1, some (0, 2), false, false⟩,
    ⟨"HYS", 22, 21, .rw, 1, some (0, 2), false, false⟩,
    ⟨"HYS", 30, 29, .rw, 1, some (0, 2), false, false⟩,
    ⟨"HYS", 38, 37, .rw, 1, some (0, 2), false, false⟩,
    ⟨"HYS", 46, 45, .rw, 1, some (0, 2), false, false⟩,
    ⟨"HYS", 54, 53, .rw, 1, some (0, 2), false, false⟩,
    ⟨"HYS", 62, 61, .rw, 1, some (0, 2), false, false⟩,
    ⟨"HOLDOFF", 4, 0, .rw, 4, some (1, 31), false, false⟩,
    ⟨"HOLDOFF", 12, 8, .rw, 4, some (1, 31), false, false⟩,
    ⟨"HOLDOFF", 20, 16, .rw, 4, some (1, 31), false, false⟩,
    ⟨"HOLDOFF", 28, 24, .rw, 4, some (1, 31), false, false⟩,
    ⟨"HOLDOFF", 36, 32, .rw, 4, some (1, 31), false, false⟩,
    ⟨"HOLDOFF", 44, 40, .rw, 4, some (1, 31), false, false⟩,
    ⟨"HOLDOFF", 52, 48, .rw, 4, some (1, 31), false, false⟩,
    ⟨"HOLDOFF", 60, 56, .rw, 4, some (1, 31), false, false⟩]⟩,
  ⟨0x0330, 0x035F, 1, "NEAR", .open,
   [⟨"NEAR_BIN", 7, 0, .rw, 0, some (0, 200), false, false⟩,
    ⟨"NEAR_BIN", 15, 8, .rw, 0, some (0, 200), false, false⟩,
    ⟨"NEAR_BIN", 23, 16, .rw, 0, some (0, 200), false, false⟩,
    ⟨"NEAR_BIN", 31, 24, .rw, 0, some (0, 200), false, false⟩,
    ⟨"NEAR_BIN", 39, 32, .rw, 0, some (0, 200), false, false⟩,
    ⟨"NEAR_BIN", 47, 40, .rw, 0, some (0, 200), false, false⟩,
    ⟨"NEAR_BIN", 55, 48, .rw, 0, some (0, 200), false, false⟩,
    ⟨"NEAR_BIN", 63, 56, .rw, 0, some (0, 200), false, false⟩]⟩,
  ⟨0x0360, 0x038F, 1, "FAR", .open,
   [⟨"FAR16", 7, 0, .rw, 255, none, false, false⟩,
    ⟨"FAR16", 15, 8, .rw, 255, none, false, false⟩,
    ⟨"FAR16", 23, 16, .rw, 255, none, false, false⟩,
    ⟨"FAR16", 31, 24, .rw, 255, none, false, false⟩,
    ⟨"FAR16", 39, 32, .rw, 255, none, false, false⟩,
    ⟨"FAR16", 47, 40, .rw, 255, none, false, false⟩,
    ⟨"FAR16", 55, 48, .rw, 255, none, false, false⟩,
    ⟨"FAR16", 63, 56, .rw, 255, none, false, false⟩]⟩,
  ⟨0x0390, 0x0390, 1, "CNT_SEL", .open,
   [⟨"CHANNEL", 8, 0, .rw, 0, some (0, 383), false, false⟩]⟩,
  ⟨0x0391, 0x0391, 1, "CNT_A", .open,
   [⟨"STRAY", 63, 32, .rsn, 0, none, false, false⟩,
    ⟨"GATED", 31, 0, .rsn, 0, none, false, false⟩]⟩,
  ⟨0x0392, 0x0392, 1, "CNT_B", .open,
   [⟨"DISARMED", 63, 32, .rsn, 0, none, false, false⟩,
    ⟨"RATE_DROPS", 31, 0, .rsn, 0, none, false, false⟩]⟩,
  ⟨0x03A0, 0x03A0, 1, "STAT_CTRL", .open,
   [⟨"N_M1", 47, 32, .rw, 1023, some (1, 65535), false, false⟩,
    ⟨"SRC", 20, 16, .rw, 0, some (0, 19), true, false⟩,
    ⟨"CONT", 1, 1, .rw, 0, none, false, false⟩,
    ⟨"START", 0, 0, .wo, 0, none, false, false⟩]⟩,
  ⟨0x03A1, 0x03A1, 1, "STAT_HDR", .open,
   [⟨"SEQ", 63, 48, .ro, 0, none, false, false⟩,
    ⟨"STATE", 47, 46, .ro, 0, none, false, false⟩,
    ⟨"SRC", 20, 16, .ro, 0, none, false, false⟩,
    ⟨"N_M1", 15, 0, .ro, 0, none, false, false⟩]⟩,
  ⟨0x03A2, 0x03A2, 1, "STAT_MEAN", .open,
   [⟨"MEAN", 47, 0, .ro, 0, none, false, false⟩]⟩,
  ⟨0x03A3, 0x03A3, 1, "STAT_STD", .open,
   [⟨"STD", 31, 0, .ro, 0, none, false, false⟩]⟩,
  ⟨0x03A4, 0x03A5, 1, "STAT_MINMAX", .open,
   [⟨"EXTREME", 39, 0, .ro, 0, none, false, false⟩]⟩,
  ⟨0x03B0, 0x03B1, 1, "GATE_CFG", .open,
   [⟨"ARM_MODE", 43, 42, .rw, 0, some (0, 2), true, false⟩,
    ⟨"POL", 40, 40, .rw, 0, none, false, false⟩,
    ⟨"ARM_LEN", 39, 16, .rw, 1000000, some (1, 16777215), false, false⟩,
    ⟨"BANK_MASK", 15, 0, .rw, 0xFFFF, none, false, false⟩]⟩,
  ⟨0x03C0, 0x03C1, 1, "MON_CFG", .open,
   [⟨"HYS", 6, 5, .rw, 1, some (0, 2), false, false⟩,
    ⟨"HYS", 14, 13, .rw, 1, some (0, 2), false, false⟩,
    ⟨"HYS", 22, 21, .rw, 1, some (0, 2), false, false⟩,
    ⟨"HYS", 30, 29, .rw, 1, some (0, 2), false, false⟩,
    ⟨"HYS", 38, 37, .rw, 1, some (0, 2), false, false⟩,
    ⟨"HYS", 46, 45, .rw, 1, some (0, 2), false, false⟩,
    ⟨"HYS", 54, 53, .rw, 1, some (0, 2), false, false⟩,
    ⟨"HYS", 62, 61, .rw, 1, some (0, 2), false, false⟩,
    ⟨"HOLDOFF", 4, 0, .rw, 4, some (1, 31), false, false⟩,
    ⟨"HOLDOFF", 12, 8, .rw, 4, some (1, 31), false, false⟩,
    ⟨"HOLDOFF", 20, 16, .rw, 4, some (1, 31), false, false⟩,
    ⟨"HOLDOFF", 28, 24, .rw, 4, some (1, 31), false, false⟩,
    ⟨"HOLDOFF", 36, 32, .rw, 4, some (1, 31), false, false⟩,
    ⟨"HOLDOFF", 44, 40, .rw, 4, some (1, 31), false, false⟩,
    ⟨"HOLDOFF", 52, 48, .rw, 4, some (1, 31), false, false⟩,
    ⟨"HOLDOFF", 60, 56, .rw, 4, some (1, 31), false, false⟩]⟩,
  ⟨0x03C2, 0x03C2, 1, "MON_WIN", .open,
   [⟨"MON_WIN", 7, 0, .rw, 64, some (16, 255), false, false⟩]⟩,
  ⟨0x03D0, 0x03D0, 1, "CAL_SEL", .open,
   [⟨"INPUT", 8, 0, .rw, 0, some (0, 399), false, false⟩]⟩,
  ⟨0x03D1, 0x03D1, 1, "CAL_VIEW", .open,
   [⟨"LOST", 23, 23, .rsn, 0, none, false, false⟩,
    ⟨"DEGRADED", 22, 22, .rsn, 0, none, false, false⟩,
    ⟨"PATH", 19, 16, .rsn, 0, none, false, false⟩,
    ⟨"SKEW", 15, 0, .rsn, 0, none, false, false⟩]⟩,
  ⟨0x03D2, 0x03D2, 1, "SPARE_MAP", .open,
   [⟨"LOST_CH", 56, 48, .ro, 0, none, false, false⟩,
    ⟨"IN_USE", 47, 0, .ro, 0, none, false, false⟩]⟩,
  ⟨0x03D3, 0x03D3, 1, "SPARE_FORCE", .open,
   [⟨"ACTION", 49, 48, .wo, 0, some (0, 2), true, false⟩,
    ⟨"FORCE_CANCELLED", 16, 16, .w1c, 0, none, false, false⟩,
    ⟨"UNIT", 15, 10, .rw, 0, some (0, 47), false, false⟩,
    ⟨"CHANNEL", 2, 0, .rw, 0, none, false, false⟩]⟩,
  ⟨0x03D4, 0x03D4, 1, "SPARE_FAILED", .open,
   [⟨"SPARE_FAILED", 47, 0, .ro, 0, none, false, false⟩]⟩]

/-- Table 23.1, group 0x03. -/
def paramRows03 : List ParamRow := paramRows03_0

/-- Group 0x04. -/
def paramRows04_0 : List ParamRow := [
  ⟨0x0400, 0x0400, 1, "HIST_CFG", .open,
   [⟨"SAT_LEN", 4, 0, .rw, 8, some (2, 31), false, false⟩]⟩,
  ⟨0x0401, 0x0401, 1, "HIST_FLAGS", .open,
   [⟨"HIST_FREEZE_LOST", 1, 1, .w1c, 0, none, false, false⟩,
    ⟨"HIST_POISON_SEEN", 0, 0, .w1c, 0, none, false, false⟩]⟩,
  ⟨0x0410, 0x0410, 1, "DUMP_REQ", .open,
   [⟨"FROZEN_SRC", 47, 47, .wo, 0, none, false, false⟩,
    ⟨"ANY_COL", 46, 46, .wo, 0, none, false, false⟩,
    ⟨"COLUMN", 42, 32, .wo, 0, none, false, false⟩,
    ⟨"COUNT", 21, 16, .wo, 0, none, false, false⟩,
    ⟨"CHANNEL", 8, 0, .wo, 0, none, false, false⟩]⟩,
  ⟨0x0411, 0x0411, 1, "DUMP_STATUS", .open,
   [⟨"DUMPS_DONE", 63, 48, .ro, 0, none, false, false⟩,
    ⟨"DROPPED", 47, 32, .ro, 0, none, false, false⟩,
    ⟨"SKIPPED", 21, 16, .ro, 0, none, false, false⟩,
    ⟨"ABORTED", 2, 2, .w1c, 0, none, false, false⟩,
    ⟨"WAITING", 1, 1, .ro, 0, none, false, false⟩,
    ⟨"BUSY", 0, 0, .ro, 0, none, false, false⟩]⟩,
  ⟨0x0420, 0x042B, 1, "ECC_COUNT", .open,
   [⟨"UNCORRECTABLE", 63, 32, .rsn, 0, none, false, false⟩,
    ⟨"CORRECTED", 31, 0, .rsn, 0, none, false, false⟩]⟩,
  ⟨0x0430, 0x0430, 1, "INJECT_SEL", .critical,
   [⟨"ARM", 48, 48, .rw, 0, none, false, false⟩,
    ⟨"BIN", 43, 32, .rw, 0, none, false, false⟩,
    ⟨"CHANNEL", 8, 0, .rw, 0, some (0, 383), false, false⟩]⟩,
  ⟨0x0431, 0x0431, 1, "INJECT_MASK", .critical,
   [⟨"MASK", 63, 0, .rw, 0, none, false, false⟩]⟩,
  ⟨0x0440, 0x0440, 1, "FREEZE_SEL", .open,
   [⟨"CHANNEL", 8, 0, .rw, 0, some (0, 383), false, false⟩]⟩,
  ⟨0x0441, 0x0441, 1, "FREEZE_VIEW", .open,
   [⟨"POISON1", 12, 12, .rsn, 0, none, false, false⟩,
    ⟨"BY_DUMP1", 11, 11, .rsn, 0, none, false, false⟩,
    ⟨"BY_MASK1", 10, 10, .rsn, 0, none, false, false⟩,
    ⟨"STATE1", 9, 8, .rsn, 2, none, false, false⟩,
    ⟨"POISON", 4, 4, .rsn, 0, none, false, false⟩,
    ⟨"BY_DUMP", 3, 3, .rsn, 0, none, false, false⟩,
    ⟨"BY_MASK", 2, 2, .rsn, 0, none, false, false⟩,
    ⟨"STATE", 1, 0, .rsn, 2, none, false, false⟩]⟩,
  ⟨0x0442, 0x0442, 1, "FREEZE_SUMMARY", .open,
   [⟨"BOTH_FROZEN", 24, 16, .ro, 0, none, false, false⟩,
    ⟨"ANY_FROZEN", 8, 0, .ro, 0, none, false, false⟩]⟩]

/-- Table 23.1, group 0x04. -/
def paramRows04 : List ParamRow := paramRows04_0

/-- Group 0x05. -/
def paramRows05_0 : List ParamRow := [
  ⟨0x0500, 0x050B, 1, "FILT_CFG", .open,
   [⟨"BG_SHIFT", 23, 21, .rw, 1, some (0, 4), false, false⟩,
    ⟨"MIN_EVENTS", 20, 16, .rw, 2, some (1, 24), false, false⟩,
    ⟨"RUN_GAP", 11, 8, .rw, 2, none, false, false⟩,
    ⟨"K16", 7, 0, .rw, 64, none, false, false⟩]⟩,
  ⟨0x0510, 0x0513, 1, "TPL_TAPS", .open,
   [⟨"TAP", 11, 0, .rw, 0, none, false, false⟩,
    ⟨"TAP", 27, 16, .rw, 0, none, false, false⟩,
    ⟨"TAP", 43, 32, .rw, 0, none, false, false⟩,
    ⟨"TAP", 59, 48, .rw, 0, none, false, false⟩]⟩,
  ⟨0x0514, 0x0514, 1, "TPL_SHAPE", .open,
   [⟨"SIGMA_REF16", 63, 48, .rw, 40, some (1, 65535), false, false⟩,
    ⟨"WR", 23, 20, .rw, 3, some (0, 7), false, false⟩,
    ⟨"WL", 19, 16, .rw, 3, some (0, 7), false, false⟩,
    ⟨"L", 12, 8, .rw, 5, some (1, 16), false, false⟩,
    ⟨"ANCHOR", 3, 0, .rw, 2, none, false, false⟩]⟩,
  ⟨0x0515, 0x0515, 1, "TPL_COMMIT", .open,
   [⟨"BANK", 17, 16, .wo, 0, some (0, 2), true, false⟩,
    ⟨"CLUSTER_MASK", 11, 0, .wo, 0, none, false, false⟩]⟩,
  ⟨0x0516, 0x0516, 1, "TPL_SWAP", .open,
   [⟨"FADE_COLS", 30, 24, .wo, 0, some (1, 64), false, false⟩,
    ⟨"BANK", 17, 16, .wo, 0, some (0, 2), true, false⟩,
    ⟨"CLUSTER_MASK", 11, 0, .wo, 0, none, false, false⟩]⟩,
  ⟨0x0517, 0x0517, 1, "TPL_CTRL", .open,
   [⟨"TPL_RESTORED", 1, 1, .w1c, 0, none, false, false⟩,
    ⟨"AUTO_TPL", 0, 0, .rw, 1, none, false, false⟩]⟩,
  ⟨0x0520, 0x052B, 1, "TPL_STATE", .open,
   [⟨"LOCKS", 42, 40, .ro, 0, none, false, false⟩,
    ⟨"HELD_COLS", 38, 32, .ro, 0, none, false, false⟩,
    ⟨"HELD_BANK", 26, 25, .ro, 0, none, false, false⟩,
    ⟨"HELD", 24, 24, .ro, 0, none, false, false⟩,
    ⟨"FADE_COLS", 22, 16, .ro, 0, none, false, false⟩,
    ⟨"FADE_POS", 14, 8, .ro, 0, none, false, false⟩,
    ⟨"FADING", 4, 4, .ro, 0, none, false, false⟩,
    ⟨"FADE_FROM", 3, 2, .ro, 0, none, false, false⟩,
    ⟨"ACTIVE", 1, 0, .ro, 0, none, false, false⟩]⟩,
  ⟨0x0540, 0x054B, 1, "CAND_COUNTS", .open,
   [⟨"OVERFLOW", 63, 32, .rsn, 0, none, false, false⟩,
    ⟨"BLIND", 31, 0, .rsn, 0, none, false, false⟩]⟩,
  ⟨0x0550, 0x0550, 1, "BG_SEL", .open,
   [⟨"CHANNEL", 8, 0, .rw, 0, some (0, 383), false, false⟩]⟩,
  ⟨0x0551, 0x0551, 1, "BG_VIEW", .open,
   [⟨"BQ", 19, 0, .rsn, 0, none, false, false⟩]⟩,
  ⟨0x0560, 0x0560, 1, "CLASS_SHAPE", .open,
   [⟨"PART_AR16", 47, 40, .rw, 2, none, false, false⟩,
    ⟨"TRACK_BINS", 35, 32, .rw, 4, some (1, 15), false, false⟩,
    ⟨"PART_BETA8", 31, 16, .rw, 384, none, false, false⟩,
    ⟨"SOFT_BETA8", 15, 0, .rw, 320, none, false, false⟩]⟩,
  ⟨0x0561, 0x0561, 1, "CLASS_RANGE", .open,
   [⟨"MP_RATIO16", 63, 56, .rw, 4, none, false, false⟩,
    ⟨"MP_MM", 41, 32, .rw, 300, some (0, 1000), false, false⟩,
    ⟨"FILM_MM", 21, 12, .rw, 250, some (0, 1000), false, false⟩,
    ⟨"STAB_MM", 9, 0, .rw, 100, some (1, 1000), false, false⟩]⟩,
  ⟨0x0562, 0x0562, 1, "MERGE_INT", .open,
   [⟨"VNOM", 46, 40, .rw, 100, some (1, 120), false, false⟩,
    ⟨"INT_SCALE", 31, 16, .rw, 1024, none, false, false⟩,
    ⟨"MERGE_BINS", 3, 0, .rw, 3, some (0, 8), false, false⟩]⟩,
  ⟨0x0563, 0x0566, 1, "FILM_BASE", .open,
   [⟨"FILM_BASE", 15, 0, .rw, 0, none, false, false⟩,
    ⟨"FILM_BASE", 31, 16, .rw, 0, none, false, false⟩,
    ⟨"FILM_BASE", 47, 32, .rw, 0, none, false, false⟩,
    ⟨"FILM_BASE", 63, 48, .rw, 0, none, false, false⟩]⟩,
  ⟨0x0570, 0x0573, 1, "EXTRACT_COUNTS", .open,
   [⟨"WINDOW_DROPS", 63, 32, .rsn, 0, none, false, false⟩,
    ⟨"MERGES", 31, 0, .rsn, 0, none, false, false⟩]⟩]

/-- Table 23.1, group 0x05. -/
def paramRows05 : List ParamRow := paramRows05_0

/-- Group 0x06. -/
def paramRows06_0 : List ParamRow := [
  ⟨0x0600, 0x0600, 1, "EVOTH_CTRL", .critical,
   [⟨"REFINE_SRC", 48, 48, .rw, 0, none, false, false⟩,
    ⟨"RESTART", 47, 32, .wo, 0, none, false, false⟩,
    ⟨"BG_EN", 15, 0, .rw, 0, none, false, false⟩]⟩,
  ⟨0x0610, 0x061F, 1, "CORE_STATUS", .open,
   [⟨"FAULT_DATA", 63, 32, .ro, 0, none, false, false⟩,
    ⟨"FAULT_PC", 31, 16, .ro, 0, none, false, false⟩,
    ⟨"FAULT_CODE", 15, 8, .ro, 0, none, false, false⟩,
    ⟨"HALTED", 7, 7, .ro, 0, none, false, false⟩,
    ⟨"BG_FAULTED", 6, 6, .ro, 0, none, false, false⟩,
    ⟨"BG_LOADED", 5, 5, .ro, 0, none, false, false⟩,
    ⟨"BG_BK", 4, 4, .ro, 0, none, false, false⟩,
    ⟨"COL_FAULTS", 3, 2, .ro, 0, none, false, false⟩,
    ⟨"LEVEL", 1, 0, .ro, 0, none, false, false⟩]⟩,
  ⟨0x0620, 0x0623, 1, "REGION_TIMING", .open,
   [⟨"OVERRUN_COLS", 63, 32, .rsn, 0, none, false, false⟩,
    ⟨"UNREFINED_ROWS", 31, 0, .rsn, 0, none, false, false⟩]⟩,
  ⟨0x0630, 0x0633, 1, "REGION_POSTS", .open,
   [⟨"LATE_POSTS", 63, 48, .rsn, 0, none, false, false⟩,
    ⟨"POST_ERRORS", 47, 32, .rsn, 0, none, false, false⟩,
    ⟨"MIN_SLACK", 31, 0, .rsn, 0xFFFFFFFF, none, false, false⟩]⟩]

/-- Table 23.1, group 0x06. -/
def paramRows06 : List ParamRow := paramRows06_0

/-- Group 0x07. -/
def paramRows07_0 : List ParamRow := [
  ⟨0x0700, 0x0700, 1, "STREAM_CFG", .open,
   [⟨"KEY_REQ", 32, 32, .wo, 0, none, false, false⟩,
    ⟨"THIN_MODE", 25, 24, .rw, 0, some (0, 2), true, false⟩,
    ⟨"KEY_INTERVAL", 23, 16, .rw, 10, some (1, 255), false, false⟩,
    ⟨"DELTA_EN", 12, 12, .rw, 0, none, false, false⟩,
    ⟨"LOW_WATER", 11, 0, .rw, 64, some (1, 4095), false, false⟩]⟩,
  ⟨0x0701, 0x0701, 1, "DELTA_THR", .open,
   [⟨"DELTA_INT", 25, 16, .rw, 16, some (1, 1023), false, false⟩,
    ⟨"DELTA_MM", 15, 0, .rw, 20, some (1, 65535), false, false⟩]⟩,
  ⟨0x0710, 0x0713, 1, "RING_BASE", .open,
   [⟨"BASE", 47, 12, .rw, 0, none, false, false⟩,
    ⟨"LOG2_SIZE", 4, 0, .rw, 16, some (16, 26), false, false⟩]⟩,
  ⟨0x0714, 0x0717, 1, "RING_NOTIFY", .open,
   [⟨"COAL_COLS", 63, 56, .rw, 16, some (1, 255), false, false⟩,
    ⟨"COAL_US", 55, 48, .rw, 50, some (1, 255), false, false⟩,
    ⟨"WB_ADDR", 47, 6, .rw, 0, none, false, false⟩,
    ⟨"EN", 0, 0, .rw, 0, none, false, false⟩]⟩,
  ⟨0x0718, 0x071B, 1, "RING_RD", .open,
   [⟨"RD_OFF", 63, 0, .rw, 0, none, false, false⟩]⟩,
  ⟨0x071C, 0x071F, 1, "RING_WR", .open,
   [⟨"WR_OFF", 63, 0, .ro, 0, none, false, false⟩]⟩,
  ⟨0x0720, 0x0723, 1, "STREAM_COUNTS", .open,
   [⟨"DROPPED_RECS", 63, 32, .rsn, 0, none, false, false⟩,
    ⟨"DROPPED_COLS", 31, 0, .rsn, 0, none, false, false⟩]⟩,
  ⟨0x0724, 0x0727, 1, "STREAM_LOSS", .open,
   [⟨"THINNED_RECS", 63, 32, .rsn, 0, none, false, false⟩,
    ⟨"LOST_COLS", 31, 0, .rsn, 0, none, false, false⟩]⟩,
  ⟨0x0728, 0x0728, 1, "STREAM_FLAGS", .open,
   [⟨"HISTORY_LOST", 11, 8, .w1c, 0, none, false, false⟩,
    ⟨"RING_LOST", 7, 4, .w1c, 0, none, false, false⟩,
    ⟨"RING_DROP", 3, 0, .w1c, 0, none, false, false⟩]⟩]

/-- Table 23.1, group 0x07. -/
def paramRows07 : List ParamRow := paramRows07_0

/-- Group 0x08. -/
def paramRows08_0 : List ParamRow := [
  ⟨0x0800, 0x0800, 1, "MASK_CFG", .open,
   [⟨"LAST_BUF", 17, 17, .rw, 0, none, false, false⟩,
    ⟨"FREEZE_EN", 16, 16, .rw, 1, none, false, false⟩,
    ⟨"PERSIST", 15, 12, .rw, 1, some (1, 15), false, false⟩,
    ⟨"MIN_BINS", 6, 0, .rw, 4, some (1, 64), false, false⟩]⟩,
  ⟨0x0801, 0x0801, 1, "ENV_COMMIT", .open,
   [⟨"SET", 18, 16, .wo, 0, some (0, 5), true, false⟩,
    ⟨"CLUSTER_MASK", 11, 0, .wo, 0, none, false, false⟩]⟩,
  ⟨0x0802, 0x0802, 1, "MASK_RELEASE", .open,
   [⟨"ALL", 18, 18, .wo, 0, none, false, false⟩,
    ⟨"BUF1", 17, 17, .wo, 0, none, false, false⟩,
    ⟨"BUF0", 16, 16, .wo, 0, none, false, false⟩,
    ⟨"CHANNEL", 8, 0, .wo, 0, some (0, 383), false, false⟩]⟩,
  ⟨0x0803, 0x0803, 1, "MASK_SEL", .open,
   [⟨"CHANNEL", 8, 0, .rw, 0, some (0, 383), false, false⟩]⟩,
  ⟨0x0804, 0x0804, 1, "MASK_VIEW", .open,
   [⟨"FIRST_BIN", 63, 52, .rsn, 0, none, false, false⟩,
    ⟨"NBINS", 51, 44, .rsn, 0, none, false, false⟩,
    ⟨"COLUMN", 43, 33, .rsn, 0, none, false, false⟩,
    ⟨"TEST", 32, 32, .rsn, 0, none, false, false⟩,
    ⟨"UPPER", 31, 31, .rsn, 0, none, false, false⟩,
    ⟨"LOWER", 30, 30, .rsn, 0, none, false, false⟩,
    ⟨"RUN", 29, 26, .rsn, 0, none, false, false⟩,
    ⟨"MASKED", 25, 24, .rsn, 0, none, false, false⟩,
    ⟨"VIOL_CNT", 23, 0, .rsn, 0, none, false, false⟩]⟩,
  ⟨0x0810, 0x081F, 1, "ENV_STAGE", .open,
   [⟨"UP", 13, 8, .rw, 32, some (0, 32), false, false⟩,
    ⟨"UP", 29, 24, .rw, 32, some (0, 32), false, false⟩,
    ⟨"UP", 45, 40, .rw, 32, some (0, 32), false, false⟩,
    ⟨"UP", 61, 56, .rw, 32, some (0, 32), false, false⟩,
    ⟨"LO", 5, 0, .rw, 0, some (0, 32), false, false⟩,
    ⟨"LO", 21, 16, .rw, 0, some (0, 32), false, false⟩,
    ⟨"LO", 37, 32, .rw, 0, some (0, 32), false, false⟩,
    ⟨"LO", 53, 48, .rw, 0, some (0, 32), false, false⟩]⟩,
  ⟨0x0820, 0x082B, 1, "MASK_COUNTS", .open,
   [⟨"FREEZES", 63, 32, .rsn, 0, none, false, false⟩,
    ⟨"VIOLATIONS", 31, 0, .rsn, 0, none, false, false⟩]⟩,
  ⟨0x0840, 0x086F, 1, "CH_MASK", .open,
   [⟨"NEAR_EN", 7, 7, .rw, 0, none, false, false⟩,
    ⟨"NEAR_EN", 15, 15, .rw, 0, none, false, false⟩,
    ⟨"NEAR_EN", 23, 23, .rw, 0, none, false, false⟩,
    ⟨"NEAR_EN", 31, 31, .rw, 0, none, false, false⟩,
    ⟨"NEAR_EN", 39, 39, .rw, 0, none, false, false⟩,
    ⟨"NEAR_EN", 47, 47, .rw, 0, none, false, false⟩,
    ⟨"NEAR_EN", 55, 55, .rw, 0, none, false, false⟩,
    ⟨"NEAR_EN", 63, 63, .rw, 0, none, false, false⟩,
    ⟨"NEAR_SET", 6, 5, .rw, 0, none, false, false⟩,
    ⟨"NEAR_SET", 14, 13, .rw, 0, none, false, false⟩,
    ⟨"NEAR_SET", 22, 21, .rw, 0, none, false, false⟩,
    ⟨"NEAR_SET", 30, 29, .rw, 0, none, false, false⟩,
    ⟨"NEAR_SET", 38, 37, .rw, 0, none, false, false⟩,
    ⟨"NEAR_SET", 46, 45, .rw, 0, none, false, false⟩,
    ⟨"NEAR_SET", 54, 53, .rw, 0, none, false, false⟩,
    ⟨"NEAR_SET", 62, 61, .rw, 0, none, false, false⟩,
    ⟨"FULL_EN", 4, 4, .rw, 0, none, false, false⟩,
    ⟨"FULL_EN", 12, 12, .rw, 0, none, false, false⟩,
    ⟨"FULL_EN", 20, 20, .rw, 0, none, false, false⟩,
    ⟨"FULL_EN", 28, 28, .rw, 0, none, false, false⟩,
    ⟨"FULL_EN", 36, 36, .rw, 0, none, false, false⟩,
    ⟨"FULL_EN", 44, 44, .rw, 0, none, false, false⟩,
    ⟨"FULL_EN", 52, 52, .rw, 0, none, false, false⟩,
    ⟨"FULL_EN", 60, 60, .rw, 0, none, false, false⟩,
    ⟨"FULL_SET", 3, 3, .rw, 0, none, false, false⟩,
    ⟨"FULL_SET", 11, 11, .rw, 0, none, false, false⟩,
    ⟨"FULL_SET", 19, 19, .rw, 0, none, false, false⟩,
    ⟨"FULL_SET", 27, 27, .rw, 0, none, false, false⟩,
    ⟨"FULL_SET", 35, 35, .rw, 0, none, false, false⟩,
    ⟨"FULL_SET", 43, 43, .rw, 0, none, false, false⟩,
    ⟨"FULL_SET", 51, 51, .rw, 0, none, false, false⟩,
    ⟨"FULL_SET", 59, 59, .rw, 0, none, false, false⟩]⟩,
  ⟨0x0880, 0x0880, 1, "REC_CTRL", .open,
   [⟨"DRAIN", 5, 5, .rw, 0, none, false, false⟩,
    ⟨"STOP", 4, 4, .wo, 0, none, false, false⟩,
    ⟨"SW_TRIG", 3, 3, .wo, 0, none, false, false⟩,
    ⟨"MODE", 2, 2, .rw, 0, none, false, false⟩,
    ⟨"EN", 0, 0, .rw, 0, none, false, false⟩]⟩,
  ⟨0x0881, 0x0881, 1, "REC_DEPTH", .open,
   [⟨"POST_TIME", 63, 32, .rw, 0, none, false, false⟩,
    ⟨"POST_DEPTH", 28, 16, .rw, 1024, some (1, 4096), false, false⟩,
    ⟨"PRE_DEPTH", 12, 0, .rw, 1024, some (0, 4096), false, false⟩]⟩,
  ⟨0x0882, 0x0885, 1, "REC_TERM", .open,
   [⟨"CLUSTER_MASK", 27, 16, .rw, 0, none, false, false⟩,
    ⟨"KIND", 15, 12, .rw, 0, some (0, 8), true, false⟩,
    ⟨"SLOT", 4, 0, .rw, 0, none, false, false⟩]⟩,
  ⟨0x0886, 0x088D, 1, "REC_SEL", .open,
   [⟨"EN", 15, 15, .rw, 0, none, false, false⟩,
    ⟨"EN", 31, 31, .rw, 0, none, false, false⟩,
    ⟨"EN", 47, 47, .rw, 0, none, false, false⟩,
    ⟨"EN", 63, 63, .rw, 0, none, false, false⟩,
    ⟨"SEL", 8, 0, .rw, 0, some (0, 433), true, false⟩,
    ⟨"SEL", 24, 16, .rw, 0, some (0, 433), true, false⟩,
    ⟨"SEL", 40, 32, .rw, 0, some (0, 433), true, false⟩,
    ⟨"SEL", 56, 48, .rw, 0, some (0, 433), true, false⟩]⟩,
  ⟨0x088E, 0x088E, 1, "REC_PATTERN", .open,
   [⟨"PAT_MASK", 63, 32, .rw, 0, none, false, false⟩,
    ⟨"PAT_VALUE", 31, 0, .rw, 0, none, false, false⟩]⟩,
  ⟨0x0890, 0x0890, 1, "REC_STATUS", .open,
   [⟨"MISSED", 39, 24, .ro, 0, none, false, false⟩,
    ⟨"STATE", 23, 22, .ro, 0, none, false, false⟩,
    ⟨"UNDERRUN", 21, 21, .w1c, 0, none, false, false⟩,
    ⟨"HEAD_VALID", 19, 16, .ro, 0, none, false, false⟩,
    ⟨"COUNT", 14, 0, .ro, 0, none, false, false⟩]⟩,
  ⟨0x0891, 0x0891, 1, "REC_DATA", .open,
   [⟨"DATA", 63, 0, .ro, 0, none, false, false⟩]⟩,
  ⟨0x0892, 0x0892, 1, "REC_COUNTS", .open,
   [⟨"REC_DROPPED", 63, 48, .ro, 0, none, false, false⟩,
    ⟨"UNDERRUNS", 47, 32, .ro, 0, none, false, false⟩,
    ⟨"CAPTURES", 31, 0, .ro, 0, none, false, false⟩]⟩]

/-- Table 23.1, group 0x08. -/
def paramRows08 : List ParamRow := paramRows08_0

/-- Group 0x09. -/
def paramRows09_0 : List ParamRow := [
  ⟨0x0900, 0x0900, 1, "EMIT_CTRL", .critical,
   [⟨"FIRE_W", 36, 32, .rw, 4, some (2, 31), false, false⟩,
    ⟨"EMIT_EN", 16, 16, .rw, 0, none, false, false⟩,
    ⟨"BANK_EN", 15, 0, .rw, 0xFFFF, none, false, false⟩]⟩,
  ⟨0x0901, 0x0904, 1, "CHG_SET", .critical,
   [⟨"CH_EN", 48, 48, .rw, 0, none, false, false⟩,
    ⟨"SLEW", 40, 32, .rw, 100, some (1, 500), false, false⟩,
    ⟨"BAND", 24, 16, .rw, 100, some (10, 500), false, false⟩,
    ⟨"SETPOINT", 13, 0, .rw, 0, some (0, 12000), false, false⟩]⟩,
  ⟨0x0905, 0x0905, 1, "CHG_LIMITS", .critical,
   [⟨"RUNAWAY_LIMIT", 63, 60, .rw, 4, some (1, 15), false, false⟩,
    ⟨"THERM_CAP", 45, 32, .rw, 8000, some (0, 12000), false, false⟩,
    ⟨"CHG_TIMEOUT", 29, 16, .rw, 2000, some (100, 10000), false, false⟩,
    ⟨"OV_LIMIT", 13, 0, .rw, 12500, some (100, 16000), false, false⟩]⟩,
  ⟨0x0906, 0x0906, 1, "CHG_CLEAR", .critical,
   [⟨"CLEAR", 3, 0, .wo, 0, none, false, false⟩]⟩,
  ⟨0x0908, 0x090B, 1, "CHG_STATUS", .open,
   [⟨"FAULT_CAUSE", 63, 60, .ro, 0, none, false, false⟩,
    ⟨"LATCHED", 59, 59, .ro, 0, none, false, false⟩,
    ⟨"STATE", 58, 56, .ro, 0, none, false, false⟩,
    ⟨"CLAMP_CAUSE", 53, 52, .ro, 0, none, false, false⟩,
    ⟨"TGT", 45, 32, .ro, 0, none, false, false⟩,
    ⟨"REF", 29, 16, .ro, 0, none, false, false⟩,
    ⟨"MEAS", 13, 0, .ro, 0, none, false, false⟩]⟩,
  ⟨0x0910, 0x0910, 1, "EXP_CFG", .critical,
   [⟨"LOCK", 32, 32, .rw, 0, none, false, false⟩,
    ⟨"EXP_SLOT", 19, 0, .rw, 7500, some (100, 1000000), false, false⟩]⟩,
  ⟨0x0911, 0x0920, 1, "EXP_BUDGET", .critical,
   [⟨"BUDGET", 63, 0, .rw, 0, none, false, false⟩]⟩,
  ⟨0x0921, 0x0921, 1, "EXP_SEL", .open,
   [⟨"BANK", 3, 0, .rw, 0, none, false, false⟩]⟩,
  ⟨0x0922, 0x0922, 1, "EXP_VIEW", .open,
   [⟨"ACC", 63, 0, .rsn, 0, none, false, false⟩]⟩,
  ⟨0x0923, 0x0923, 1, "EXP_COUNTS", .open,
   [⟨"INHIBIT_PULSES", 63, 32, .rsn, 0, none, false, false⟩,
    ⟨"INHIBIT_COLS", 31, 0, .rsn, 0, none, false, false⟩]⟩,
  ⟨0x0928, 0x0928, 1, "ADAPT_CFG", .critical,
   [⟨"FIX", 63, 60, .rw, 0, none, false, false⟩,
    ⟨"ADAPT_EN", 59, 56, .rw, 0, none, false, false⟩,
    ⟨"ADAPT_SAT", 55, 48, .rw, 8, some (1, 255), false, false⟩,
    ⟨"ADAPT_HOLD", 47, 42, .rw, 4, some (1, 63), false, false⟩,
    ⟨"ADAPT_NEAR_MM", 39, 28, .rw, 2000, none, false, false⟩,
    ⟨"ADAPT_STEP", 25, 16, .rw, 200, some (1, 1000), false, false⟩]⟩,
  ⟨0x0929, 0x0929, 1, "ADAPT_MIN", .critical,
   [⟨"MIN", 13, 0, .rw, 2000, some (0, 12000), false, false⟩,
    ⟨"MIN", 29, 16, .rw, 2000, some (0, 12000), false, false⟩,
    ⟨"MIN", 45, 32, .rw, 2000, some (0, 12000), false, false⟩,
    ⟨"MIN", 61, 48, .rw, 2000, some (0, 12000), false, false⟩]⟩,
  ⟨0x092A, 0x092A, 1, "ADAPT_VIEW", .open,
   [⟨"A", 13, 0, .ro, 0, none, false, false⟩,
    ⟨"A", 29, 16, .ro, 0, none, false, false⟩,
    ⟨"A", 45, 32, .ro, 0, none, false, false⟩,
    ⟨"A", 61, 48, .ro, 0, none, false, false⟩]⟩,
  ⟨0x0930, 0x0930, 1, "EMIT_FLAGS", .open,
   [⟨"CHG_FAULT", 23, 20, .w1c, 0, none, false, false⟩,
    ⟨"POLICY_CLAMPED", 19, 16, .w1c, 0, none, false, false⟩,
    ⟨"RUNAWAY", 15, 0, .w1c, 0, none, false, false⟩]⟩]

/-- Table 23.1, group 0x09. -/
def paramRows09 : List ParamRow := paramRows09_0

/-- Group 0x0A. -/
def paramRows0A_0 : List ParamRow := [
  ⟨0x0A00, 0x0A00, 1, "MIR_CTRL", .open,
   [⟨"RESTART", 40, 40, .wo, 0, none, false, false⟩,
    ⟨"SPARE_EN", 32, 32, .rw, 0, none, false, false⟩,
    ⟨"RUN", 1, 1, .rw, 0, none, false, false⟩,
    ⟨"DRV_EN", 0, 0, .rw, 0, none, false, false⟩]⟩,
  ⟨0x0A01, 0x0A01, 1, "MIR_CFG", .open,
   [⟨"ANG_CONV", 56, 56, .rw, 0, none, false, false⟩,
    ⟨"STUCK_US", 55, 48, .rw, 20, some (1, 255), false, false⟩,
    ⟨"DEAD_NS", 47, 41, .rw, 20, some (10, 100), false, false⟩,
    ⟨"I_TRIP", 35, 24, .rw, 1536, some (2, 2047), false, false⟩,
    ⟨"IBAND", 23, 12, .rw, 20, some (2, 1024), false, false⟩,
    ⟨"I_LIMIT", 11, 0, .rw, 1024, some (1, 2046), false, false⟩]⟩,
  ⟨0x0A02, 0x0A02, 1, "MIR_GAINS", .open,
   [⟨"KP", 63, 48, .rw, 0, none, false, false⟩,
    ⟨"KI", 47, 32, .rw, 0, none, false, false⟩,
    ⟨"KD", 31, 16, .rw, 0, none, false, false⟩,
    ⟨"KV", 15, 0, .rw, 0, none, false, false⟩]⟩,
  ⟨0x0A03, 0x0A03, 1, "MIR_ACCEL", .open,
   [⟨"KA", 15, 0, .rw, 0, none, false, false⟩]⟩,
  ⟨0x0A04, 0x0A04, 1, "MIR_TRAJ", .open,
   [⟨"AMP_SLEW", 63, 48, .rw, 2000, some (1, 65535), false, false⟩,
    ⟨"ACC_MAX", 47, 32, .rw, 20000, some (1, 65535), false, false⟩,
    ⟨"THETA_MAX", 16, 0, .rw, 65000, some (15000, 90000), false, false⟩]⟩,
  ⟨0x0A05, 0x0A05, 1, "MIR_TOL", .open,
   [⟨"RECOVER_MAX", 63, 56, .rw, 10, some (1, 255), false, false⟩,
    ⟨"STALE_US", 55, 46, .rw, 50, some (10, 1000), false, false⟩,
    ⟨"LOSS_TOL", 31, 16, .rw, 20000, some (1, 65535), false, false⟩,
    ⟨"TRACK_TOL", 15, 0, .rw, 5000, some (1, 65535), false, false⟩]⟩,
  ⟨0x0A06, 0x0A06, 1, "MIR_RC", .open,
   [⟨"RC_EN", 50, 50, .rw, 0, none, false, false⟩,
    ⟨"RC_CLEAR", 49, 49, .wo, 0, none, false, false⟩,
    ⟨"RC_FREEZE", 48, 48, .rw, 0, none, false, false⟩,
    ⟨"LEAD", 47, 40, .rw, 4, none, false, false⟩,
    ⟨"FORGET", 39, 36, .rw, 10, some (4, 15), false, false⟩,
    ⟨"RC_LIMIT", 31, 16, .rw, 512, some (0, 32767), false, false⟩,
    ⟨"KR", 15, 0, .rw, 0, none, false, false⟩]⟩,
  ⟨0x0A08, 0x0A08, 1, "MIR_STATUS", .open,
   [⟨"STATE", 63, 61, .ro, 0, none, false, false⟩,
    ⟨"CAUSE", 60, 56, .ro, 0, none, false, false⟩,
    ⟨"BRIDGE", 55, 55, .ro, 0, none, false, false⟩,
    ⟨"B1_FAILED", 54, 54, .ro, 0, none, false, false⟩,
    ⟨"B0_FAILED", 53, 53, .ro, 0, none, false, false⟩,
    ⟨"H", 48, 32, .ro, 0, none, false, false⟩,
    ⟨"ANGLE", 31, 0, .ro, 0, none, false, false⟩]⟩,
  ⟨0x0A09, 0x0A09, 1, "MIR_FRAME", .open,
   [⟨"MAX_ERR_ACT", 63, 48, .rsn, 0, none, false, false⟩,
    ⟨"MAX_ERR_TURN", 47, 32, .rsn, 0, none, false, false⟩,
    ⟨"PEAK_IREF", 31, 16, .rsn, 0, none, false, false⟩]⟩,
  ⟨0x0A0A, 0x0A0A, 1, "MIR_COUNTS", .open,
   [⟨"OVERRUNS", 63, 48, .rsn, 0, none, false, false⟩,
    ⟨"MISSED_COLS", 47, 32, .rsn, 0, none, false, false⟩,
    ⟨"FAILOVERS", 31, 16, .rsn, 0, none, false, false⟩,
    ⟨"MIR_UNFIRED", 15, 0, .rsn, 0, none, false, false⟩]⟩,
  ⟨0x0A0B, 0x0A0B, 1, "MIR_FLAGS", .open,
   [⟨"RC_CLAMPED", 3, 3, .w1c, 0, none, false, false⟩,
    ⟨"OVERRUN_SEEN", 2, 2, .w1c, 0, none, false, false⟩,
    ⟨"BRIDGE_FAULT", 1, 1, .w1c, 0, none, false, false⟩,
    ⟨"PARKED_BY_FAULT", 0, 0, .w1c, 0, none, false, false⟩]⟩]

/-- Table 23.1, group 0x0A. -/
def paramRows0A : List ParamRow := paramRows0A_0

/-- Group 0x0B, part 1. -/
def paramRows0B_0 : List ParamRow := [
  ⟨0x0B00, 0x0B00, 1, "CONV_CFG", .open,
   [⟨"EN", 32, 32, .rw, 0, none, false, false⟩,
    ⟨"TSRC", 31, 28, .rw, 10, some (0, 10), true, false⟩,
    ⟨"EXC_USE", 27, 26, .rw, 0, none, false, false⟩,
    ⟨"DEMOD", 25, 24, .rw, 0, some (0, 2), true, false⟩,
    ⟨"AUTO", 21, 21, .rw, 0, none, false, false⟩,
    ⟨"RANGE", 19, 18, .rw, 0, none, false, false⟩,
    ⟨"PRESET", 17, 16, .rw, 0, none, false, false⟩,
    ⟨"NPIN", 11, 8, .rw, 1, none, false, false⟩,
    ⟨"PPIN", 3, 0, .rw, 0, none, false, false⟩]⟩,
  ⟨0x0B01, 0x0B01, 1, "CONV_CFG", .open,
   [⟨"EN", 32, 32, .rw, 0, none, false, false⟩,
    ⟨"TSRC", 31, 28, .rw, 10, some (0, 10), true, false⟩,
    ⟨"EXC_USE", 27, 26, .rw, 0, none, false, false⟩,
    ⟨"DEMOD", 25, 24, .rw, 0, some (0, 2), true, false⟩,
    ⟨"AUTO", 21, 21, .rw, 0, none, false, false⟩,
    ⟨"RANGE", 19, 18, .rw, 0, none, false, false⟩,
    ⟨"PRESET", 17, 16, .rw, 0, none, false, false⟩,
    ⟨"NPIN", 11, 8, .rw, 3, none, false, false⟩,
    ⟨"PPIN", 3, 0, .rw, 2, none, false, false⟩]⟩,
  ⟨0x0B02, 0x0B03, 1, "EXC_CFG", .open,
   [⟨"CHOP_HALF", 63, 48, .rw, 50, some (10, 1000), false, false⟩,
    ⟨"CHOP", 33, 33, .rw, 0, none, false, false⟩,
    ⟨"MODE", 32, 32, .rw, 0, none, false, false⟩,
    ⟨"LEVEL", 23, 12, .rw, 0, none, false, false⟩,
    ⟨"SINK_PIN", 11, 8, .rw, 0, none, false, false⟩,
    ⟨"EN", 4, 4, .rw, 0, none, false, false⟩,
    ⟨"SRC_PIN", 3, 0, .rw, 0, none, false, false⟩]⟩,
  ⟨0x0B04, 0x0B04, 1, "BIAS_CFG", .open,
   [⟨"LEVEL1", 59, 48, .rw, 165, some (30, 300), false, false⟩,
    ⟨"EN1", 36, 36, .rw, 0, none, false, false⟩,
    ⟨"PIN1", 35, 32, .rw, 0, none, false, false⟩,
    ⟨"LEVEL0", 27, 16, .rw, 165, some (30, 300), false, false⟩,
    ⟨"EN0", 4, 4, .rw, 0, none, false, false⟩,
    ⟨"PIN0", 3, 0, .rw, 0, none, false, false⟩]⟩,
  ⟨0x0B05, 0x0B05, 1, "FE_CTRL", .open,
   [⟨"IMP_CLEAR", 9, 8, .wo, 0, none, false, false⟩,
    ⟨"SYNC", 1, 0, .wo, 0, none, false, false⟩]⟩,
  ⟨0x0B08, 0x0B09, 1, "THR", .open,
   [⟨"HI", 63, 32, .rw, 0x7F800000, none, false, false⟩,
    ⟨"LO", 31, 0, .rw, 0xFF800000, none, false, false⟩]⟩,
  ⟨0x0B0A, 0x0B0B, 1, "THR_CFG", .open,
   [⟨"HYST", 63, 32, .rw, 0, none, false, false⟩,
    ⟨"EN_HI", 1, 1, .rw, 0, none, false, false⟩,
    ⟨"EN_LO", 0, 0, .rw, 0, none, false, false⟩]⟩,
  ⟨0x0B0C, 0x0B0C, 1, "IMP_CFG", .open,
   [⟨"IMP_PERIOD", 57, 48, .rw, 10, some (1, 1000), false, false⟩,
    ⟨"IMP_CYC", 45, 40, .rw, 8, some (4, 63), false, false⟩,
    ⟨"IMP_AMP", 36, 32, .rw, 10, some (1, 20), false, false⟩,
    ⟨"IMP_FREQ", 23, 16, .rw, 50, some (10, 100), false, false⟩,
    ⟨"IMP_EN", 1, 0, .rw, 3, none, false, false⟩]⟩,
  ⟨0x0B0D, 0x0B0D, 1, "IMP_LIMITS", .open,
   [⟨"IMP_HI", 63, 32, .rw, 100000, none, false, false⟩,
    ⟨"IMP_LO", 31, 0, .rw, 50, none, false, false⟩]⟩,
  ⟨0x0B0E, 0x0B0F, 1, "IMP_RESULT", .open,
   [⟨"Z_N", 63, 32, .rsn, 0, none, false, false⟩,
    ⟨"Z_P", 31, 0, .rsn, 0, none, false, false⟩]⟩,
  ⟨0x0B10, 0x0B12, 2, "RES_HDR", .open,
   [⟨"SEQ", 63, 48, .ro, 0, none, false, false⟩,
    ⟨"STATE", 47, 46, .ro, 0, none, false, false⟩,
    ⟨"CAUSE", 43, 40, .ro, 0, none, false, false⟩,
    ⟨"INVALID", 39, 39, .ro, 0, none, false, false⟩,
    ⟨"RANGE_TRANS", 38, 38, .ro, 0, none, false, false⟩,
    ⟨"UNSETTLED", 37, 37, .ro, 0, none, false, false⟩,
    ⟨"RANGE", 35, 34, .ro, 0, none, false, false⟩,
    ⟨"PRESET", 33, 32, .ro, 0, none, false, false⟩,
    ⟨"T_N", 31, 0, .ro, 0, none, false, false⟩]⟩,
  ⟨0x0B11, 0x0B13, 2, "RES_VAL", .open,
   [⟨"Q", 63, 32, .ro, 0, none, false, false⟩,
    ⟨"CODE", 23, 0, .ro, 0, none, false, false⟩]⟩,
  ⟨0x0B14, 0x0B14, 1, "FE_FLAGS", .open,
   [⟨"THR_SEEN", 23, 20, .w1c, 0, none, false, false⟩,
    ⟨"NONFINITE_SEEN", 19, 18, .w1c, 0, none, false, false⟩,
    ⟨"EXC_FAULT", 17, 16, .w1c, 0, none, false, false⟩,
    ⟨"OVERLOAD_SEEN", 15, 14, .w1c, 0, none, false, false⟩,
    ⟨"IMP_FAULT", 7, 0, .ro, 0, none, false, false⟩]⟩,
  ⟨0x0B15, 0x0B15, 1, "FE_COUNTS", .open,
   [⟨"RANGE_CHANGES1", 63, 48, .rsn, 0, none, false, false⟩,
    ⟨"RANGE_CHANGES0", 47, 32, .rsn, 0, none, false, false⟩,
    ⟨"OVERLOADS1", 31, 16, .rsn, 0, none, false, false⟩,
    ⟨"OVERLOADS0", 15, 0, .rsn, 0, none, false, false⟩]⟩,
  ⟨0x0B22, 0x0B32, 16, "LIN", .open,
   [⟨"C_ODD", 63, 32, .rw, 0, none, false, false⟩,
    ⟨"C_EVEN", 31, 0, .rw, 0x3F800000, none, false, false⟩]⟩,
  ⟨0x0B20, 0x0B21, 1, "LIN", .open,
   [⟨"C_ODD", 63, 32, .rw, 0, none, false, false⟩,
    ⟨"C_EVEN", 31, 0, .rw, 0, none, false, false⟩]⟩,
  ⟨0x0B23, 0x0B2B, 1, "LIN", .open,
   [⟨"C_ODD", 63, 32, .rw, 0, none, false, false⟩,
    ⟨"C_EVEN", 31, 0, .rw, 0, none, false, false⟩]⟩,
  ⟨0x0B30, 0x0B31, 1, "LIN", .open,
   [⟨"C_ODD", 63, 32, .rw, 0, none, false, false⟩,
    ⟨"C_EVEN", 31, 0, .rw, 0, none, false, false⟩]⟩,
  ⟨0x0B33, 0x0B3B, 1, "LIN", .open,
   [⟨"C_ODD", 63, 32, .rw, 0, none, false, false⟩,
    ⟨"C_EVEN", 31, 0, .rw, 0, none, false, false⟩]⟩,
  ⟨0x0B2C, 0x0B2C, 1, "LIN_CTRL", .open,
   [⟨"TCONST", 63, 32, .rw, 0x41C80000, none, false, false⟩,
    ⟨"COMMIT", 1, 0, .wo, 0, none, false, false⟩]⟩]

/-- Group 0x0B, part 2. -/
def paramRows0B_1 : List ParamRow := [
  ⟨0x0B40, 0x0B41, 1, "FOUT_CFG", .open,
   [⟨"OUT1", 63, 48, .rw, 10000, none, false, false⟩,
    ⟨"OUT0", 47, 32, .rw, 100, none, false, false⟩,
    ⟨"CARRIER", 31, 16, .rw, 1000, some (100, 10000), false, false⟩,
    ⟨"PADDOCK", 11, 8, .rw, 0, none, false, false⟩,
    ⟨"SRC", 5, 3, .rw, 0, some (0, 4), true, false⟩,
    ⟨"MODE", 1, 0, .rw, 0, some (0, 1), true, false⟩]⟩,
  ⟨0x0B42, 0x0B43, 1, "FOUT_MAP", .open,
   [⟨"X1", 63, 32, .rw, 5000, none, false, false⟩,
    ⟨"X0", 31, 0, .rw, 0, none, false, false⟩]⟩]

/-- Table 23.1, group 0x0B. -/
def paramRows0B : List ParamRow := paramRows0B_0 ++ paramRows0B_1

/-- Group 0x0C. -/
def paramRows0C_0 : List ParamRow := [
  ⟨0x0C00, 0x0C00, 1, "HK_CTRL", .open,
   [⟨"LP", 11, 8, .rw, 0, none, false, false⟩,
    ⟨"EN3", 3, 3, .ro, 1, none, false, false⟩,
    ⟨"EN", 2, 0, .rw, 0, none, false, false⟩]⟩,
  ⟨0x0C01, 0x0C03, 1, "HK_SEQ", .open,
   [⟨"LEN", 63, 60, .rw, 1, some (1, 12), false, false⟩,
    ⟨"SLOT", 4, 0, .rw, 0, some (0, 27), true, false⟩,
    ⟨"SLOT", 9, 5, .rw, 0, some (0, 27), true, false⟩,
    ⟨"SLOT", 14, 10, .rw, 0, some (0, 27), true, false⟩,
    ⟨"SLOT", 19, 15, .rw, 0, some (0, 27), true, false⟩,
    ⟨"SLOT", 24, 20, .rw, 0, some (0, 27), true, false⟩,
    ⟨"SLOT", 29, 25, .rw, 0, some (0, 27), true, false⟩,
    ⟨"SLOT", 34, 30, .rw, 0, some (0, 27), true, false⟩,
    ⟨"SLOT", 39, 35, .rw, 0, some (0, 27), true, false⟩,
    ⟨"SLOT", 44, 40, .rw, 0, some (0, 27), true, false⟩,
    ⟨"SLOT", 49, 45, .rw, 0, some (0, 27), true, false⟩,
    ⟨"SLOT", 54, 50, .rw, 0, some (0, 27), true, false⟩,
    ⟨"SLOT", 59, 55, .rw, 0, some (0, 27), true, false⟩]⟩,
  ⟨0x0C10, 0x0C18, 1, "ACC_CFG", .open,
   [⟨"HIGH", 63, 48, .rw, 0x7FFF, none, false, false⟩,
    ⟨"LOW", 47, 32, .rw, 0x8000, none, false, false⟩,
    ⟨"HYST", 31, 20, .rw, 0, none, false, false⟩,
    ⟨"LOG2N", 19, 16, .rw, 4, some (0, 10), false, false⟩,
    ⟨"CH", 12, 8, .rw, 0, some (0, 27), true, false⟩,
    ⟨"CONV", 5, 4, .rw, 0, none, false, false⟩,
    ⟨"EN", 0, 0, .ro, 0, none, false, false⟩]⟩,
  ⟨0x0C19, 0x0C4F, 1, "ACC_CFG", .open,
   [⟨"HIGH", 63, 48, .rw, 0x7FFF, none, false, false⟩,
    ⟨"LOW", 47, 32, .rw, 0x8000, none, false, false⟩,
    ⟨"HYST", 31, 20, .rw, 0, none, false, false⟩,
    ⟨"LOG2N", 19, 16, .rw, 4, some (0, 10), false, false⟩,
    ⟨"CH", 12, 8, .rw, 0, some (0, 27), true, false⟩,
    ⟨"CONV", 5, 4, .rw, 0, none, false, false⟩,
    ⟨"EN", 0, 0, .rw, 0, none, false, false⟩]⟩,
  ⟨0x0C50, 0x0C50, 1, "ACC_SEL", .open,
   [⟨"CLR_MINMAX", 8, 8, .wo, 0, none, false, false⟩,
    ⟨"ACC", 5, 0, .rw, 0, none, false, false⟩]⟩,
  ⟨0x0C51, 0x0C51, 1, "ACC_VIEW", .open,
   [⟨"MEAN", 63, 48, .rsn, 0, none, false, false⟩,
    ⟨"MIN", 47, 32, .rsn, 0x7FFF, none, false, false⟩,
    ⟨"MAX", 31, 16, .rsn, 0x8000, none, false, false⟩,
    ⟨"VALID", 15, 15, .rsn, 0, none, false, false⟩,
    ⟨"STATE", 14, 13, .rsn, 0, none, false, false⟩,
    ⟨"LEAVES", 12, 0, .rsn, 0, none, false, false⟩]⟩,
  ⟨0x0C52, 0x0C52, 1, "HK_LEFT", .open,
   [⟨"LEFT", 63, 0, .w1c, 0, none, false, false⟩]⟩]

/-- Table 23.1, group 0x0C. -/
def paramRows0C : List ParamRow := paramRows0C_0

/-- Group 0x0D. -/
def paramRows0D_0 : List ParamRow := [
  ⟨0x0D00, 0x0D00, 1, "CAL_CTRL", .open,
   [⟨"RUN_REQ", 48, 48, .wo, 0, none, false, false⟩,
    ⟨"ANG_EN", 40, 40, .rw, 1, none, false, false⟩,
    ⟨"CD_LOG2", 36, 32, .rw, 20, some (16, 24), false, false⟩,
    ⟨"RERUN_MAX", 31, 20, .rw, 0, some (0, 3600), false, false⟩,
    ⟨"RERUN_DELTA", 12, 8, .rw, 4, some (1, 16), false, false⟩,
    ⟨"AUTO_RERUN", 0, 0, .rw, 1, none, false, false⟩]⟩,
  ⟨0x0D01, 0x0D01, 1, "CAL_LIMITS", .open,
   [⟨"SKEW_STEP", 63, 48, .rw, 64, some (1, 4096), false, false⟩,
    ⟨"FTE_MAX", 47, 40, .rw, 60, some (2, 255), false, false⟩,
    ⟨"FTE_MIN", 39, 32, .rw, 2, none, false, false⟩,
    ⟨"FTE_DEFAULT", 31, 24, .rw, 12, none, false, false⟩,
    ⟨"ANG_EDGES", 23, 8, .rw, 256, some (16, 65535), false, false⟩,
    ⟨"MISSING_MAX", 3, 0, .rw, 2, none, false, false⟩]⟩,
  ⟨0x0D02, 0x0D02, 1, "TPL_CAL", .open,
   [⟨"TPL_REFIT", 41, 32, .rw, 51, some (1, 1024), false, false⟩,
    ⟨"TPL_MIN_N", 20, 16, .rw, 6, some (1, 24), false, false⟩,
    ⟨"TPL_LOG2", 3, 0, .rw, 12, some (8, 15), false, false⟩]⟩,
  ⟨0x0D04, 0x0D04, 1, "CAL_STATUS", .open,
   [⟨"LAST_FRAME", 63, 32, .ro, 0, none, false, false⟩,
    ⟨"RUNS", 31, 16, .ro, 0, none, false, false⟩,
    ⟨"STARTUP_DONE", 4, 4, .ro, 0, none, false, false⟩,
    ⟨"CAUSE", 3, 2, .ro, 0, none, false, false⟩,
    ⟨"PENDING", 1, 1, .ro, 0, none, false, false⟩,
    ⟨"RUNNING", 0, 0, .ro, 0, none, false, false⟩]⟩,
  ⟨0x0D05, 0x0D05, 1, "CAL_FLAGS", .open,
   [⟨"PATH_FAIL", 6, 6, .w1c, 0, none, false, false⟩,
    ⟨"TPL_FAIL", 5, 5, .w1c, 0, none, false, false⟩,
    ⟨"ANG_FAIL", 4, 4, .w1c, 0, none, false, false⟩,
    ⟨"FTE_FAIL", 3, 3, .w1c, 0, none, false, false⟩,
    ⟨"SKEW_FAIL", 2, 2, .w1c, 0, none, false, false⟩,
    ⟨"TDC_FAIL", 1, 1, .w1c, 0, none, false, false⟩,
    ⟨"SEL_FAIL", 0, 0, .w1c, 0, none, false, false⟩]⟩,
  ⟨0x0D06, 0x0D06, 1, "CAL_QUALITY", .open,
   [⟨"TDC_RES", 63, 48, .rsn, 0, none, false, false⟩,
    ⟨"SKEW_RES", 47, 32, .rsn, 0, none, false, false⟩,
    ⟨"ANG_RES", 31, 16, .rsn, 0, none, false, false⟩,
    ⟨"TPL_FIT", 15, 0, .rsn, 0, none, false, false⟩]⟩,
  ⟨0x0D08, 0x0D0B, 1, "FTE_DELAY", .open,
   [⟨"DELAY", 15, 0, .ro, 1536, none, false, false⟩,
    ⟨"DELAY", 31, 16, .ro, 1536, none, false, false⟩,
    ⟨"DELAY", 47, 32, .ro, 1536, none, false, false⟩,
    ⟨"DELAY", 63, 48, .ro, 1536, none, false, false⟩]⟩,
  ⟨0x0D0C, 0x0D0C, 1, "ANG_VIEW", .open,
   [⟨"LAG", 63, 32, .ro, 0, none, false, false⟩,
    ⟨"EDGES", 31, 16, .ro, 0, none, false, false⟩]⟩,
  ⟨0x0D0D, 0x0D0D, 1, "SET_VALID", .open,
   [⟨"VALID", 39, 0, .ro, 0, none, false, false⟩]⟩,
  ⟨0x0D0E, 0x0D0E, 1, "CAL_COUNTS", .open,
   [⟨"ITEM_FAILS", 63, 32, .ro, 0, none, false, false⟩,
    ⟨"PATH_FAILS", 31, 0, .ro, 0, none, false, false⟩]⟩]

/-- Table 23.1, group 0x0D. -/
def paramRows0D : List ParamRow := paramRows0D_0

/-- Group 0x0E. -/
def paramRows0E_0 : List ParamRow := [
  ⟨0x0E00, 0x0E00, 1, "PD_CTRL", .critical,
   [⟨"SAFE_RESET", 48, 48, .wo, 0, none, false, false⟩,
    ⟨"BLIND_COLS", 47, 40, .rw, 160, some (1, 255), false, false⟩,
    ⟨"HALTER_S", 31, 27, .rw, 10, some (1, 30), false, false⟩,
    ⟨"CLEAR_FRAMES", 23, 20, .rw, 2, some (1, 15), false, false⟩,
    ⟨"CMP_FRAMES", 19, 16, .rw, 2, some (1, 15), false, false⟩,
    ⟨"CMP_TOL", 7, 0, .rw, 8, none, false, false⟩]⟩,
  ⟨0x0E01, 0x0E01, 1, "PD_GEOM", .critical,
   [⟨"SPREAD_MAX16", 47, 32, .rw, 0, some (0, 8191), false, false⟩,
    ⟨"MOUNT_Z", 31, 16, .rw, 1000, some (0, 10000), false, false⟩,
    ⟨"PD_NEAR_MM", 9, 0, .rw, 250, some (0, 1000), false, false⟩]⟩,
  ⟨0x0E02, 0x0E02, 1, "SIO_CFG", .critical,
   [⟨"SAFE_VAL", 63, 56, .rw, 0xFF, none, false, false⟩,
    ⟨"PAIR", 55, 52, .rw, 0, none, false, false⟩,
    ⟨"DISC_MS", 40, 32, .rw, 100, some (10, 500), false, false⟩,
    ⟨"TPS_SEL", 31, 16, .rw, 0xFA50, none, false, false⟩,
    ⟨"IN_FILTER", 12, 8, .rw, 3, some (1, 20), false, false⟩,
    ⟨"OUT_TP", 7, 0, .rw, 20, some (10, 30), false, false⟩]⟩,
  ⟨0x0E03, 0x0E03, 1, "SAFETY_STATUS", .open,
   [⟨"IN_VAL", 63, 56, .ro, 0, none, false, false⟩,
    ⟨"IN_FAULT", 55, 48, .ro, 0, none, false, false⟩,
    ⟨"OUT_FAULT", 43, 42, .ro, 0, none, false, false⟩,
    ⟨"OUT_ON", 41, 40, .ro, 0, none, false, false⟩,
    ⟨"SAFE_CAUSE", 37, 32, .ro, 0, none, false, false⟩,
    ⟨"HALTER_MS", 31, 16, .ro, 0xFFFF, none, false, false⟩,
    ⟨"INTERVAL_MERGED", 1, 1, .ro, 0, none, false, false⟩,
    ⟨"DEGRADED_COV", 0, 0, .ro, 0, none, false, false⟩]⟩,
  ⟨0x0E04, 0x0E04, 1, "PD_STATE", .open,
   [⟨"COVERAGE", 3, 2, .ro, 3, none, false, false⟩,
    ⟨"COVERAGE", 7, 6, .ro, 3, none, false, false⟩,
    ⟨"COVERAGE", 11, 10, .ro, 3, none, false, false⟩,
    ⟨"COVERAGE", 15, 14, .ro, 3, none, false, false⟩,
    ⟨"COVERAGE", 19, 18, .ro, 3, none, false, false⟩,
    ⟨"COVERAGE", 23, 22, .ro, 3, none, false, false⟩,
    ⟨"COVERAGE", 27, 26, .ro, 3, none, false, false⟩,
    ⟨"COVERAGE", 31, 30, .ro, 3, none, false, false⟩,
    ⟨"COVERAGE", 35, 34, .ro, 3, none, false, false⟩,
    ⟨"COVERAGE", 39, 38, .ro, 3, none, false, false⟩,
    ⟨"COVERAGE", 43, 42, .ro, 3, none, false, false⟩,
    ⟨"COVERAGE", 47, 46, .ro, 3, none, false, false⟩,
    ⟨"COVERAGE", 51, 50, .ro, 3, none, false, false⟩,
    ⟨"COVERAGE", 55, 54, .ro, 3, none, false, false⟩,
    ⟨"COVERAGE", 59, 58, .ro, 3, none, false, false⟩,
    ⟨"COVERAGE", 63, 62, .ro, 3, none, false, false⟩,
    ⟨"VERDICT", 1, 0, .ro, 3, none, false, false⟩,
    ⟨"VERDICT", 5, 4, .ro, 3, none, false, false⟩,
    ⟨"VERDICT", 9, 8, .ro, 3, none, false, false⟩,
    ⟨"VERDICT", 13, 12, .ro, 3, none, false, false⟩,
    ⟨"VERDICT", 17, 16, .ro, 3, none, false, false⟩,
    ⟨"VERDICT", 21, 20, .ro, 3, none, false, false⟩,
    ⟨"VERDICT", 25, 24, .ro, 3, none, false, false⟩,
    ⟨"VERDICT", 29, 28, .ro, 3, none, false, false⟩,
    ⟨"VERDICT", 33, 32, .ro, 3, none, false, false⟩,
    ⟨"VERDICT", 37, 36, .ro, 3, none, false, false⟩,
    ⟨"VERDICT", 41, 40, .ro, 3, none, false, false⟩,
    ⟨"VERDICT", 45, 44, .ro, 3, none, false, false⟩,
    ⟨"VERDICT", 49, 48, .ro, 3, none, false, false⟩,
    ⟨"VERDICT", 53, 52, .ro, 3, none, false, false⟩,
    ⟨"VERDICT", 57, 56, .ro, 3, none, false, false⟩,
    ⟨"VERDICT", 61, 60, .ro, 3, none, false, false⟩]⟩,
  ⟨0x0E05, 0x0E05, 1, "SAFETY_FLAGS", .critical,
   [⟨"SAFE_SEEN", 43, 43, .w1c, 0, none, false, false⟩,
    ⟨"COMPARE_SEEN", 42, 42, .w1c, 0, none, false, false⟩,
    ⟨"OUT_FAULT_SEEN", 41, 40, .w1c, 0, none, false, false⟩,
    ⟨"IN_FAULT_SEEN", 39, 32, .w1c, 0, none, false, false⟩,
    ⟨"INTRUSION_SEEN", 31, 16, .w1c, 0, none, false, false⟩,
    ⟨"HALTER_SEEN", 15, 0, .w1c, 0, none, false, false⟩]⟩,
  ⟨0x0E06, 0x0E06, 1, "SAFETY_COUNTS", .open,
   [⟨"MISMATCH_FRAMES", 63, 48, .rsn, 0, none, false, false⟩,
    ⟨"HALTER_ENTRIES", 47, 32, .rsn, 0, none, false, false⟩,
    ⟨"SAFE_ENTRIES", 31, 16, .rsn, 0, none, false, false⟩,
    ⟨"SELFTEST_FAILS", 15, 0, .rsn, 0, none, false, false⟩]⟩,
  ⟨0x0E10, 0x0E1F, 1, "PD_CFG", .critical,
   [⟨"Z_HI", 63, 48, .rw, 2500, none, false, false⟩,
    ⟨"Z_LO", 47, 32, .rw, 0, none, false, false⟩,
    ⟨"MIN_POINTS", 31, 24, .rw, 3, some (1, 255), false, false⟩,
    ⟨"NV", 13, 8, .ro, 0, none, false, false⟩,
    ⟨"BUSY", 1, 1, .ro, 0, none, false, false⟩,
    ⟨"EN", 0, 0, .rw, 0, none, false, false⟩]⟩,
  ⟨0x0E20, 0x0E2F, 1, "PD_ACT", .critical,
   [⟨"BANK_MASK", 63, 48, .rw, 0xFFFF, none, false, false⟩,
    ⟨"OUT_MAP", 41, 40, .rw, 1, none, false, false⟩,
    ⟨"ACT_VALUE", 15, 8, .rw, 0, none, false, false⟩,
    ⟨"ACT_MASK", 7, 0, .rw, 0, none, false, false⟩]⟩,
  ⟨0x0E30, 0x0E3F, 1, "VTX_STAGE", .critical,
   [⟨"Y1", 63, 48, .rw, 0, none, false, false⟩,
    ⟨"X1", 47, 32, .rw, 0, none, false, false⟩,
    ⟨"Y0", 31, 16, .rw, 0, none, false, false⟩,
    ⟨"X0", 15, 0, .rw, 0, none, false, false⟩]⟩,
  ⟨0x0E40, 0x0E40, 1, "PD_COMMIT", .critical,
   [⟨"NV", 13, 8, .wo, 0, none, false, false⟩,
    ⟨"PADDOCK", 3, 0, .wo, 0, none, false, false⟩]⟩,
  ⟨0x0E48, 0x0E4B, 1, "PD_NEAR", .open,
   [⟨"NEAR", 15, 0, .rsn, 0xFFFF, none, false, false⟩,
    ⟨"NEAR", 31, 16, .rsn, 0xFFFF, none, false, false⟩,
    ⟨"NEAR", 47, 32, .rsn, 0xFFFF, none, false, false⟩,
    ⟨"NEAR", 63, 48, .rsn, 0xFFFF, none, false, false⟩]⟩,
  ⟨0x0E50, 0x0E5F, 1, "PD_CRC", .open,
   [⟨"CRC", 31, 0, .ro, 0, none, false, false⟩]⟩,
  ⟨0x0E80, 0x0EDF, 1, "ROW_EL", .critical,
   [⟨"EL", 15, 0, .rw, 0, some (-45000, 45000), false, true⟩,
    ⟨"EL", 31, 16, .rw, 0, some (-45000, 45000), false, true⟩,
    ⟨"EL", 47, 32, .rw, 0, some (-45000, 45000), false, true⟩,
    ⟨"EL", 63, 48, .rw, 0, some (-45000, 45000), false, true⟩]⟩]

/-- Table 23.1, group 0x0E. -/
def paramRows0E : List ParamRow := paramRows0E_0

/-- Group 0x0F. -/
def paramRows0F_0 : List ParamRow := [
  ⟨0x0F00, 0x0F00, 1, "BR_CFG", .critical,
   [⟨"BR_ID", 63, 32, .rw, 0, none, false, false⟩,
    ⟨"RECOVER_N", 27, 24, .rw, 2, some (1, 15), false, false⟩,
    ⟨"SEQ_WIN", 23, 16, .rw, 4, some (1, 255), false, false⟩,
    ⟨"AGE_MS", 15, 8, .rw, 10, some (1, 100), false, false⟩]⟩,
  ⟨0x0F01, 0x0F01, 1, "BR_WIN", .critical,
   [⟨"BASE", 63, 12, .rw, 0, none, false, false⟩,
    ⟨"LOG2_SLOTS", 10, 8, .rw, 3, some (3, 7), false, false⟩,
    ⟨"WIN_EN", 0, 0, .rw, 0, none, false, false⟩]⟩,
  ⟨0x0F10, 0x0F10, 1, "BR_SRC", .critical,
   [⟨"ID", 63, 32, .rw, 0, none, false, false⟩,
    ⟨"WDOG_MS", 23, 16, .rw, 50, some (5, 200), false, false⟩,
    ⟨"STATE", 9, 8, .ro, 0, none, false, false⟩,
    ⟨"PATH", 4, 4, .ro, 0, none, false, false⟩,
    ⟨"AUTO", 2, 2, .ro, 0, none, false, false⟩,
    ⟨"TIMED", 1, 1, .rw, 0, none, false, false⟩,
    ⟨"EN", 0, 0, .rw, 0, none, false, false⟩]⟩,
  ⟨0x0F11, 0x0F1F, 1, "BR_SRC", .critical,
   [⟨"ID", 63, 32, .rw, 0, none, false, false⟩,
    ⟨"WDOG_MS", 23, 16, .rw, 50, some (5, 200), false, false⟩,
    ⟨"STATE", 9, 8, .ro, 0, none, false, false⟩,
    ⟨"PATH", 4, 4, .rw, 0, none, false, false⟩,
    ⟨"AUTO", 2, 2, .ro, 0, none, false, false⟩,
    ⟨"TIMED", 1, 1, .rw, 0, none, false, false⟩,
    ⟨"EN", 0, 0, .rw, 0, none, false, false⟩]⟩,
  ⟨0x0F20, 0x0F20, 1, "BR_FLAGS", .open,
   [⟨"RX_ERR_SEEN", 16, 16, .w1c, 0, none, false, false⟩,
    ⟨"SRC_LOST_SEEN", 15, 0, .w1c, 0, none, false, false⟩]⟩,
  ⟨0x0F21, 0x0F21, 1, "BR_RX_COUNTS", .open,
   [⟨"CRC_ERR", 63, 48, .rsn, 0, none, false, false⟩,
    ⟨"ADDR_ERR", 47, 32, .rsn, 0, none, false, false⟩,
    ⟨"FORMAT_ERR", 31, 16, .rsn, 0, none, false, false⟩,
    ⟨"TIME_ERR", 15, 0, .rsn, 0, none, false, false⟩]⟩,
  ⟨0x0F22, 0x0F22, 1, "BR_TX_COUNTS", .open,
   [⟨"SEQ_ERR", 63, 48, .rsn, 0, none, false, false⟩,
    ⟨"DUP", 47, 32, .rsn, 0, none, false, false⟩,
    ⟨"LOST_FRAMES", 31, 16, .rsn, 0, none, false, false⟩,
    ⟨"TX_FRAMES", 15, 0, .rsn, 0, none, false, false⟩]⟩]

/-- Table 23.1, group 0x0F. -/
def paramRows0F : List ParamRow := paramRows0F_0

/-- Group 0x10. -/
def paramRows10_0 : List ParamRow := [
  ⟨0x1000, 0x1000, 1, "HITCH_CTRL", .critical,
   [⟨"LEAD_PRIO", 43, 40, .rw, 8, none, false, false⟩,
    ⟨"MAX_HOPS", 35, 33, .rw, 4, some (1, 7), false, false⟩,
    ⟨"TEAM_AUTH", 32, 32, .rw, 0, none, false, false⟩,
    ⟨"BOND", 19, 16, .rw, 8, none, false, false⟩,
    ⟨"TEAM_EN", 15, 15, .rw, 1, none, false, false⟩,
    ⟨"AUTO_ALIGN", 8, 8, .rw, 1, none, false, false⟩,
    ⟨"LANE_EN", 7, 0, .rw, 0xFF, none, false, false⟩]⟩,
  ⟨0x1001, 0x1001, 1, "HITCH_CMD", .critical,
   [⟨"LEAVE", 16, 16, .wo, 0, none, false, false⟩,
    ⟨"LANE", 10, 8, .wo, 0, none, false, false⟩,
    ⟨"SLIP", 0, 0, .wo, 0, none, false, false⟩]⟩,
  ⟨0x1008, 0x100F, 1, "LANE_STATUS", .open,
   [⟨"DETACHES", 63, 48, .ro, 0, none, false, false⟩,
    ⟨"SLIPS", 47, 42, .ro, 0, none, false, false⟩,
    ⟨"ALIGN_FAILS", 41, 38, .ro, 0, none, false, false⟩,
    ⟨"STANDBY", 37, 37, .ro, 0, none, false, false⟩,
    ⟨"BONDED", 36, 36, .ro, 0, none, false, false⟩,
    ⟨"FROZEN", 35, 35, .ro, 0, none, false, false⟩,
    ⟨"LOCK", 34, 34, .ro, 0, none, false, false⟩,
    ⟨"PEER_LANE", 33, 31, .ro, 0, none, false, false⟩,
    ⟨"PEER_SLOT", 6, 3, .ro, 0, none, false, false⟩,
    ⟨"STATE", 2, 0, .ro, 0, none, false, false⟩]⟩,
  ⟨0x1010, 0x1017, 1, "LANE_CFG", .critical,
   [⟨"ASYM", 63, 48, .rw, 0, none, false, false⟩,
    ⟨"TX_DEEMPH", 11, 8, .rw, 3, some (0, 12), false, false⟩,
    ⟨"TX_SWING", 3, 0, .rw, 8, some (4, 10), false, false⟩]⟩,
  ⟨0x1018, 0x1018, 1, "EYE_CTRL", .open,
   [⟨"DWELL", 37, 32, .rw, 30, some (20, 40), false, false⟩,
    ⟨"PHASE", 21, 16, .rw, 0, none, false, false⟩,
    ⟨"VOLT", 14, 8, .rw, 0, some (-31, 31), false, true⟩,
    ⟨"LANE", 4, 2, .rw, 0, none, false, false⟩,
    ⟨"BUSY", 1, 1, .ro, 0, none, false, false⟩,
    ⟨"START", 0, 0, .wo, 0, none, false, false⟩]⟩,
  ⟨0x1019, 0x1019, 1, "EYE_RESULT", .open,
   [⟨"SEQ", 63, 48, .ro, 0, none, false, false⟩,
    ⟨"STATE", 47, 46, .ro, 0, none, false, false⟩,
    ⟨"FROZEN_MARK", 45, 45, .ro, 0, none, false, false⟩,
    ⟨"DWELL_CUT", 44, 44, .ro, 0, none, false, false⟩,
    ⟨"ERRORS", 39, 0, .ro, 0, none, false, false⟩]⟩,
  ⟨0x1020, 0x1020, 1, "TEAM_STATUS", .open,
   [⟨"ROLE", 63, 62, .ro, 0, none, false, false⟩,
    ⟨"TEAM_SIZE", 56, 52, .ro, 1, none, false, false⟩,
    ⟨"OWN_SLOT", 51, 48, .ro, 0, none, false, false⟩,
    ⟨"HOPS", 47, 45, .ro, 0, none, false, false⟩,
    ⟨"PARENT_LANE", 34, 32, .ro, 0, none, false, false⟩,
    ⟨"LOCKED", 0, 0, .ro, 0, none, false, false⟩]⟩,
  ⟨0x1021, 0x1021, 1, "LEAD_ID", .open,
   [⟨"LEAD_ID", 63, 0, .ro, 0, none, false, false⟩]⟩,
  ⟨0x1030, 0x103F, 1, "SLOT_ID", .open,
   [⟨"DEV_ID", 63, 0, .ro, 0, none, false, false⟩]⟩,
  ⟨0x1040, 0x1040, 1, "SLOT_STATE", .open,
   [⟨"STATE", 31, 0, .ro, 1, none, false, false⟩]⟩,
  ⟨0x1041, 0x1041, 1, "TIME_STATUS", .open,
   [⟨"THETA", 63, 32, .ro, 0, none, false, false⟩,
    ⟨"RATE", 31, 0, .ro, 0, none, false, false⟩]⟩,
  ⟨0x1042, 0x1042, 1, "HITCH_FLAGS", .open,
   [⟨"TEAM_REFUSED", 5, 5, .w1c, 0, none, false, false⟩,
    ⟨"LEAD_CHANGED", 4, 4, .w1c, 0, none, false, false⟩,
    ⟨"TIME_STEPPED", 3, 3, .w1c, 0, none, false, false⟩,
    ⟨"AUTH_FAIL_SEEN", 2, 2, .w1c, 0, none, false, false⟩,
    ⟨"DETACH_SEEN", 1, 1, .w1c, 0, none, false, false⟩,
    ⟨"ADMITTED_SEEN", 0, 0, .w1c, 0, none, false, false⟩]⟩,
  ⟨0x1043, 0x1043, 1, "HITCH_COUNTS", .open,
   [⟨"CRC_ERRS", 63, 48, .rsn, 0, none, false, false⟩,
    ⟨"TAG_ERRS", 47, 32, .rsn, 0, none, false, false⟩,
    ⟨"AUTH_FAILS", 31, 16, .rsn, 0, none, false, false⟩,
    ⟨"TIME_MISSES", 15, 0, .rsn, 0, none, false, false⟩]⟩,
  ⟨0x1044, 0x1044, 1, "HITCH_FORMAT", .open,
   [⟨"FORMAT_ERRS", 15, 0, .rsn, 0, none, false, false⟩]⟩]

/-- Table 23.1, group 0x10. -/
def paramRows10 : List ParamRow := paramRows10_0

/-- Group 0x11. -/
def paramRows11_0 : List ParamRow := [
  ⟨0x1100, 0x1100, 1, "LINK_CTRL", .open,
   [⟨"LINK_UP", 11, 11, .ro, 0, none, false, false⟩,
    ⟨"X8", 10, 10, .ro, 0, none, false, false⟩,
    ⟨"CUR_RATE", 9, 8, .ro, 0, none, false, false⟩,
    ⟨"RETRAIN", 4, 4, .wo, 0, none, false, false⟩,
    ⟨"TARGET_RATE", 1, 0, .rw, 0, none, false, false⟩]⟩,
  ⟨0x1104, 0x1104, 1, "STU_CFG", .critical,
   [⟨"WIN_LO", 47, 21, .rw, 0, none, false, false⟩,
    ⟨"L1_LOG2", 12, 8, .rw, 0, some (0, 16), false, false⟩,
    ⟨"EN", 0, 0, .rw, 0, none, false, false⟩]⟩,
  ⟨0x1105, 0x1105, 1, "STU_L1_BASE", .critical,
   [⟨"L1_BASE", 51, 12, .rw, 0, none, false, false⟩]⟩,
  ⟨0x1106, 0x1106, 1, "STU_INV", .open,
   [⟨"VA", 47, 12, .rw, 0, none, false, false⟩,
    ⟨"BUSY", 2, 2, .ro, 0, none, false, false⟩,
    ⟨"ALL", 1, 1, .rw, 0, none, false, false⟩,
    ⟨"START", 0, 0, .wo, 0, none, false, false⟩]⟩,
  ⟨0x1108, 0x110F, 1, "DMA_STATUS", .open,
   [⟨"REPEATS", 63, 48, .ro, 0, none, false, false⟩,
    ⟨"FAULT_VA", 47, 0, .ro, 0, none, false, false⟩]⟩,
  ⟨0x1110, 0x1110, 1, "DMA_CMD", .open,
   [⟨"ACTION", 9, 8, .wo, 0, some (1, 2), true, false⟩,
    ⟨"CHANNEL", 2, 0, .wo, 0, none, false, false⟩]⟩,
  ⟨0x1111, 0x1111, 1, "DMA_STATE", .open,
   [⟨"CAUSE", 63, 32, .ro, 0, none, false, false⟩,
    ⟨"BM_OFF", 31, 24, .ro, 0, none, false, false⟩,
    ⟨"STALLED", 23, 16, .ro, 0, none, false, false⟩,
    ⟨"XLATE_FAULT", 7, 0, .w1c, 0, none, false, false⟩]⟩,
  ⟨0x1112, 0x1112, 1, "STU_COUNTS", .open,
   [⟨"TLB_MISSES", 63, 32, .rsn, 0, none, false, false⟩,
    ⟨"FAULTS", 31, 0, .rsn, 0, none, false, false⟩]⟩,
  ⟨0x1120, 0x1120, 1, "DUMP_RING", .open,
   [⟨"BASE", 47, 12, .rw, 0, none, false, false⟩,
    ⟨"EN", 5, 5, .rw, 0, none, false, false⟩,
    ⟨"LOG2_SIZE", 4, 0, .rw, 16, some (16, 26), false, false⟩]⟩,
  ⟨0x1124, 0x1124, 1, "REC_RING", .open,
   [⟨"BASE", 47, 12, .rw, 0, none, false, false⟩,
    ⟨"EN", 5, 5, .rw, 0, none, false, false⟩,
    ⟨"LOG2_SIZE", 4, 0, .rw, 17, some (17, 26), false, false⟩]⟩,
  ⟨0x1121, 0x1125, 4, "RING_WB", .open,
   [⟨"WB_ADDR", 63, 6, .rw, 0, none, false, false⟩]⟩,
  ⟨0x1122, 0x1126, 4, "RING_RD", .open,
   [⟨"RD_OFF", 63, 0, .rw, 0, none, false, false⟩]⟩,
  ⟨0x1123, 0x1127, 4, "RING_WR", .open,
   [⟨"WR_OFF", 63, 0, .ro, 0, none, false, false⟩]⟩]

/-- Table 23.1, group 0x11. -/
def paramRows11 : List ParamRow := paramRows11_0

/-- Group 0x12. -/
def paramRows12_0 : List ParamRow := [
  ⟨0x1200, 0x1200, 1, "SQ_CFG", .ringsInit,
   [⟨"BASE", 47, 12, .ro, 0, none, false, false⟩,
    ⟨"EN", 4, 4, .ro, 0, none, false, false⟩,
    ⟨"LOG2_ENTRIES", 3, 0, .ro, 4, none, false, false⟩]⟩,
  ⟨0x1201, 0x1201, 1, "CQ_CFG", .ringsInit,
   [⟨"BASE", 47, 12, .ro, 0, none, false, false⟩,
    ⟨"EN", 4, 4, .ro, 0, none, false, false⟩,
    ⟨"LOG2_ENTRIES", 3, 0, .ro, 6, none, false, false⟩]⟩,
  ⟨0x1202, 0x1202, 1, "CQ_NOTIFY", .ringsInit,
   [⟨"WB_ADDR", 47, 6, .ro, 0, none, false, false⟩]⟩,
  ⟨0x1203, 0x1203, 1, "SQ_POS", .open,
   [⟨"SQ_WR", 63, 32, .ro, 0, none, false, false⟩,
    ⟨"SQ_RD", 31, 0, .ro, 0, none, false, false⟩]⟩,
  ⟨0x1204, 0x1204, 1, "CQ_POS", .open,
   [⟨"CQ_WR", 63, 32, .ro, 0, none, false, false⟩,
    ⟨"CQ_RD", 31, 0, .ro, 0, none, false, false⟩]⟩,
  ⟨0x1205, 0x1205, 1, "SALSOL_STATUS", .open,
   [⟨"EXEC_OPCODE", 63, 48, .ro, 0, none, false, false⟩,
    ⟨"EXEC_TAG", 47, 32, .ro, 0, none, false, false⟩,
    ⟨"OUTSTANDING", 21, 16, .ro, 0, none, false, false⟩,
    ⟨"MB_STATE", 3, 2, .ro, 0, none, false, false⟩,
    ⟨"FROM_MAILBOX", 1, 1, .ro, 0, none, false, false⟩,
    ⟨"EXECUTING", 0, 0, .ro, 0, none, false, false⟩]⟩,
  ⟨0x1206, 0x1206, 1, "BOOT_ID", .open,
   [⟨"BOOT_ID", 63, 0, .ro, 0, none, false, false⟩]⟩,
  ⟨0x1208, 0x120B, 1, "KEY_STATE", .open,
   [⟨"ENROLLED", 32, 32, .ro, 0, none, false, false⟩,
    ⟨"LAST_COUNTER", 31, 0, .ro, 0, none, false, false⟩]⟩,
  ⟨0x120C, 0x120C, 1, "SALSOL_COUNTS", .open,
   [⟨"EXECUTED", 63, 32, .rsn, 0, none, false, false⟩,
    ⟨"ERRORS", 31, 0, .rsn, 0, none, false, false⟩]⟩,
  ⟨0x120D, 0x120D, 1, "SALSOL_FLAGS", .open,
   [⟨"AUTH_FAIL_SEEN", 2, 2, .w1c, 0, none, false, false⟩,
    ⟨"PROTECTED_SEEN", 1, 1, .w1c, 0, none, false, false⟩,
    ⟨"DOORBELL_ERR", 0, 0, .w1c, 0, none, false, false⟩]⟩,
  ⟨0x1210, 0x1210, 1, "EVOTH_XFER", .open,
   [⟨"TOTAL", 63, 32, .ro, 0, none, false, false⟩,
    ⟨"RECEIVED", 31, 0, .ro, 0, none, false, false⟩]⟩]

/-- Table 23.1, group 0x12. -/
def paramRows12 : List ParamRow := paramRows12_0

/-- Group 0x13. -/
def paramRows13_0 : List ParamRow := [
  ⟨0x1300, 0x1300, 1, "DEV_ID", .open,
   [⟨"DEV_ID", 63, 0, .ro, 0, none, false, false⟩]⟩,
  ⟨0x1301, 0x1301, 1, "ID_INFO", .open,
   [⟨"VENDOR_ID", 63, 48, .ro, 0, none, false, false⟩,
    ⟨"STEP", 47, 32, .ro, 0, none, false, false⟩,
    ⟨"ROOT_REVOKED", 11, 8, .ro, 0, none, false, false⟩,
    ⟨"ID_OK", 0, 0, .ro, 0, none, false, false⟩]⟩,
  ⟨0x1302, 0x1302, 1, "SERIAL", .open,
   [⟨"LOT", 63, 32, .ro, 0, none, false, false⟩,
    ⟨"WAFER", 31, 24, .ro, 0, none, false, false⟩,
    ⟨"DIE_X", 23, 16, .ro, 0, none, false, false⟩,
    ⟨"DIE_Y", 15, 8, .ro, 0, none, false, false⟩]⟩,
  ⟨0x1303, 0x1303, 1, "FW_VERSION", .open,
   [⟨"VERSION", 63, 0, .ro, 0, none, false, false⟩]⟩,
  ⟨0x1304, 0x1304, 1, "FW_STATUS", .open,
   [⟨"SVN_A", 63, 56, .ro, 0, none, false, false⟩,
    ⟨"SVN_B", 55, 48, .ro, 0, none, false, false⟩,
    ⟨"ROLLBACK", 47, 40, .ro, 0, none, false, false⟩,
    ⟨"B_BOOTABLE", 9, 9, .ro, 0, none, false, false⟩,
    ⟨"A_BOOTABLE", 8, 8, .ro, 0, none, false, false⟩,
    ⟨"RECOVERY", 4, 4, .ro, 0, none, false, false⟩,
    ⟨"PENDING", 3, 3, .ro, 0, none, false, false⟩,
    ⟨"TRIAL", 2, 2, .ro, 0, none, false, false⟩,
    ⟨"ACTIVE_BANK", 1, 1, .ro, 0, none, false, false⟩,
    ⟨"RUNNING_BANK", 0, 0, .ro, 0, none, false, false⟩]⟩,
  ⟨0x1305, 0x1305, 1, "FW_CTRL", .critical,
   [⟨"CONFIRM", 0, 0, .wo, 0, none, false, false⟩]⟩,
  ⟨0x1306, 0x1306, 1, "TACK_STATUS", .open,
   [⟨"FAIL_ENTRY", 63, 48, .ro, 0xFFFF, none, false, false⟩,
    ⟨"CAUSE", 7, 4, .ro, 0, none, false, false⟩,
    ⟨"TACK_DEFAULTED", 0, 0, .ro, 0, none, false, false⟩]⟩,
  ⟨0x1307, 0x1307, 1, "TACK_LOADED_VER", .open,
   [⟨"VERSION", 63, 0, .ro, 0, none, false, false⟩]⟩,
  ⟨0x1308, 0x1308, 1, "TACK_STORED_VER", .open,
   [⟨"VERSION", 63, 0, .ro, 0, none, false, false⟩]⟩,
  ⟨0x1309, 0x1309, 1, "KEY_SUMMARY", .open,
   [⟨"TEAM_KEY", 8, 8, .ro, 0, none, false, false⟩,
    ⟨"IMAGE_KEYS", 7, 4, .ro, 0, none, false, false⟩,
    ⟨"CMD_KEYS", 3, 0, .ro, 0, none, false, false⟩]⟩,
  ⟨0x130A, 0x130B, 1, "XFER", .open,
   [⟨"TOTAL", 63, 32, .ro, 0, none, false, false⟩,
    ⟨"RECEIVED", 31, 0, .ro, 0, none, false, false⟩]⟩,
  ⟨0x130C, 0x130C, 1, "ID_FLAGS", .open,
   [⟨"TRIAL_FAILED", 1, 1, .w1c, 0, none, false, false⟩,
    ⟨"ENROLL_FAIL_SEEN", 0, 0, .w1c, 0, none, false, false⟩]⟩,
  ⟨0x1310, 0x1310, 1, "ATTEST_HDR", .open,
   [⟨"SEQ", 63, 48, .ro, 0, none, false, false⟩,
    ⟨"STATE", 47, 46, .ro, 0, none, false, false⟩,
    ⟨"REPORT_LEN", 31, 0, .ro, 0, none, false, false⟩]⟩]

/-- Table 23.1, group 0x13. -/
def paramRows13 : List ParamRow := paramRows13_0

/-- Group 0x14. -/
def paramRows14_0 : List ParamRow := [
  ⟨0x1400, 0x1400, 1, "CLK_CTRL", .open,
   [⟨"PFD_MODE", 1, 0, .rw, 0, some (0, 2), true, false⟩]⟩,
  ⟨0x1401, 0x1401, 1, "CLK_STATUS", .open,
   [⟨"HOLD_MS", 63, 32, .ro, 0, none, false, false⟩,
    ⟨"PFD_CUR", 7, 6, .ro, 0, none, false, false⟩,
    ⟨"REF_PRESENT", 5, 5, .ro, 0, none, false, false⟩,
    ⟨"PLL_STATE", 2, 0, .ro, 0, none, false, false⟩]⟩,
  ⟨0x1402, 0x1402, 1, "PWR_CTRL", .open,
   [⟨"HITCH_OFF", 33, 32, .rw, 0, none, false, false⟩,
    ⟨"HK_OFF", 16, 16, .rw, 0, none, false, false⟩,
    ⟨"STATE", 1, 0, .rw, 2, some (0, 2), true, false⟩]⟩,
  ⟨0x1403, 0x1403, 1, "PWR_STATUS", .open,
   [⟨"STATE", 63, 62, .ro, 2, none, false, false⟩,
    ⟨"TRANSITION", 61, 61, .ro, 0, none, false, false⟩,
    ⟨"SRAM_RET", 47, 36, .ro, 0, none, false, false⟩,
    ⟨"DOMAIN_ON", 35, 0, .ro, 0, none, false, false⟩]⟩,
  ⟨0x1408, 0x1408, 1, "THERM_CFG", .critical,
   [⟨"RATE_LIM", 40, 32, .rw, 80, some (8, 320), false, false⟩,
    ⟨"RESUME_TEMP", 23, 16, .rw, 130, some (60, 140), false, false⟩,
    ⟨"RATE_ARM", 15, 8, .rw, 120, some (60, 142), false, false⟩]⟩,
  ⟨0x1409, 0x1409, 1, "THERM_STATUS", .open,
   [⟨"MAX_MEAN", 63, 48, .ro, 0, none, false, false⟩,
    ⟨"HOT_SENSOR", 47, 44, .ro, 0, none, false, false⟩,
    ⟨"MAX_RATE", 31, 16, .ro, 0, none, false, false⟩,
    ⟨"THERM_STATE", 2, 0, .ro, 0, none, false, false⟩]⟩,
  ⟨0x140A, 0x140A, 1, "THERM_CTRL", .critical,
   [⟨"RESUME", 0, 0, .wo, 0, none, false, false⟩]⟩,
  ⟨0x140B, 0x140B, 1, "THERM_LOG", .open,
   [⟨"TIME", 63, 32, .rsn, 0, none, false, false⟩,
    ⟨"CAUSE", 31, 28, .rsn, 0, none, false, false⟩,
    ⟨"SENSOR", 27, 24, .rsn, 0, none, false, false⟩,
    ⟨"MEAN", 23, 8, .rsn, 0, none, false, false⟩]⟩,
  ⟨0x140C, 0x140C, 1, "CLK_THERM_FLAGS", .open,
   [⟨"RELOCKED_SEEN", 5, 5, .w1c, 0, none, false, false⟩,
    ⟨"REF_LOST_SEEN", 4, 4, .w1c, 0, none, false, false⟩,
    ⟨"CUT_SEEN", 3, 3, .w1c, 0, none, false, false⟩,
    ⟨"STOP_SEEN", 2, 2, .w1c, 0, none, false, false⟩,
    ⟨"RATE_SEEN", 1, 1, .w1c, 0, none, false, false⟩,
    ⟨"WARN_SEEN", 0, 0, .w1c, 0, none, false, false⟩]⟩]

/-- Table 23.1, group 0x14. -/
def paramRows14 : List ParamRow := paramRows14_0

/-- Group 0x15. -/
def paramRows15_0 : List ParamRow := [
  ⟨0x1500, 0x1500, 1, "RESET_CTRL", .critical,
   [⟨"CTRL_RESTART", 48, 48, .wo, 0, none, false, false⟩,
    ⟨"FAULTN_MASK", 11, 0, .rw, 0xFFF, none, false, false⟩]⟩,
  ⟨0x1501, 0x1501, 1, "RESET_STATUS", .open,
   [⟨"CTRL_RESTARTS", 63, 48, .ro, 0, none, false, false⟩,
    ⟨"LAST_CAUSE", 35, 34, .ro, 0, none, false, false⟩,
    ⟨"START_LATCH", 32, 32, .ro, 1, none, false, false⟩,
    ⟨"UPTIME_MS", 31, 0, .ro, 0, none, false, false⟩]⟩,
  ⟨0x1502, 0x1502, 1, "FAULT_ACTIVE", .open,
   [⟨"ACTIVE", 11, 0, .ro, 2, none, false, false⟩]⟩,
  ⟨0x1503, 0x1503, 1, "FAULT_LOG_STATUS", .open,
   [⟨"NEXT_SEQ", 63, 32, .ro, 0, none, false, false⟩,
    ⟨"OVERWRITTEN", 31, 16, .ro, 0, none, false, false⟩,
    ⟨"NOTICE_OVERFLOWS", 15, 0, .ro, 0, none, false, false⟩]⟩,
  ⟨0x1508, 0x1508, 1, "EVENT_RING", .open,
   [⟨"BASE", 47, 12, .rw, 0, none, false, false⟩,
    ⟨"EN", 5, 5, .rw, 0, none, false, false⟩,
    ⟨"LOG2_SIZE", 4, 0, .rw, 12, some (12, 20), false, false⟩]⟩,
  ⟨0x1509, 0x1509, 1, "EVENT_WB", .open,
   [⟨"WB_ADDR", 47, 6, .rw, 0, none, false, false⟩]⟩,
  ⟨0x150A, 0x150A, 1, "EVENT_RD", .open,
   [⟨"RD_OFF", 63, 0, .rw, 0, none, false, false⟩]⟩,
  ⟨0x150B, 0x150B, 1, "EVENT_WR", .open,
   [⟨"WR_OFF", 63, 0, .ro, 0, none, false, false⟩]⟩,
  ⟨0x1510, 0x1510, 1, "FLAG_SEL", .open,
   [⟨"BIT", 21, 16, .rw, 0, none, false, false⟩,
    ⟨"KEY", 15, 0, .rw, 0, none, false, false⟩]⟩,
  ⟨0x1511, 0x1511, 1, "FLAG_VIEW", .open,
   [⟨"LEVEL", 32, 32, .rsn, 0, none, false, false⟩,
    ⟨"COINC", 31, 16, .rsn, 0, none, false, false⟩,
    ⟨"SET_COUNT", 15, 0, .rsn, 0, none, false, false⟩]⟩]

/-- Table 23.1, group 0x15. -/
def paramRows15 : List ParamRow := paramRows15_0

/-- Group 0x16. -/
def paramRows16_0 : List ParamRow := [
  ⟨0x1600, 0x1600, 1, "DCL_CFG", .open,
   [⟨"SYNC_TURN", 4, 4, .rw, 1, none, false, false⟩,
    ⟨"EN", 3, 0, .rw, 0, none, false, false⟩]⟩,
  ⟨0x1601, 0x1601, 1, "DCL_XFER", .open,
   [⟨"LANE", 34, 33, .wo, 0, none, false, false⟩,
    ⟨"WRITE", 32, 32, .wo, 0, none, false, false⟩,
    ⟨"ADDR", 29, 16, .wo, 0, none, false, false⟩,
    ⟨"DATA", 15, 0, .wo, 0, none, false, false⟩]⟩,
  ⟨0x1602, 0x1602, 1, "DCL_RESULT", .open,
   [⟨"SEQ", 63, 48, .ro, 0, none, false, false⟩,
    ⟨"STATE", 47, 46, .ro, 0, none, false, false⟩,
    ⟨"ERROR", 45, 45, .ro, 0, none, false, false⟩,
    ⟨"LANE", 34, 33, .ro, 0, none, false, false⟩,
    ⟨"WRITE", 32, 32, .ro, 0, none, false, false⟩,
    ⟨"ADDR", 29, 16, .ro, 0, none, false, false⟩,
    ⟨"DATA", 15, 0, .ro, 0, none, false, false⟩]⟩]

/-- Table 23.1, group 0x16. -/
def paramRows16 : List ParamRow := paramRows16_0

/-- The rows of a group (R505). -/
def paramGroup (g : Nat) : List ParamRow :=
  match g with
  | 0x02 => paramRows02
  | 0x03 => paramRows03
  | 0x04 => paramRows04
  | 0x05 => paramRows05
  | 0x06 => paramRows06
  | 0x07 => paramRows07
  | 0x08 => paramRows08
  | 0x09 => paramRows09
  | 0x0A => paramRows0A
  | 0x0B => paramRows0B
  | 0x0C => paramRows0C
  | 0x0D => paramRows0D
  | 0x0E => paramRows0E
  | 0x0F => paramRows0F
  | 0x10 => paramRows10
  | 0x11 => paramRows11
  | 0x12 => paramRows12
  | 0x13 => paramRows13
  | 0x14 => paramRows14
  | 0x15 => paramRows15
  | 0x16 => paramRows16
  | _ => []

/-- Does a row hold this key? -/
def ParamRow.has (r : ParamRow) (key : Nat) : Bool :=
  decide (r.first ≤ key) && decide (key ≤ r.last) && (key - r.first) % r.step == 0

/-- The field map of a key, none where it is no parameter (R505). -/
def paramRow? (key : Nat) : Option ParamRow := (paramGroup (key / 256)).find? (fun r => r.has key)

/-- The fixed accumulators' channel and converter (12_housekeeping_converters.md, Table 12.7 and R280). -/
def resetField (key : Nat) (f : FieldSpec) : Nat :=
  if 0x0C10 ≤ key ∧ key ≤ 0x0C18 then
    if f.name = "CH" then 14 + (key - 0x0C10) else if f.name = "CONV" then 3 else if f.name = "EN" then 1 else f.reset
  else f.reset

/-- A parameter's value after the power-on reset (R11's Reset column), as a number. -/
def resetWord (key : Nat) : Nat :=
  match paramRow? key with
  | none => 0
  | some r => r.fields.foldl (fun w f => w + resetField key f * 2 ^ f.lo) 0

/-- The key of GAIT (P.0200). -/
def K.GAIT : Nat := 0x0200
def P.GAIT.GAIT_REQ : FieldRef := ⟨0x0200, 33, 32⟩
def P.GAIT.TEAM_WAIT : FieldRef := ⟨0x0200, 5, 5⟩
def P.GAIT.PENDING : FieldRef := ⟨0x0200, 4, 4⟩
def P.GAIT.GAIT_NEXT : FieldRef := ⟨0x0200, 3, 2⟩
def P.GAIT.GAIT_CUR : FieldRef := ⟨0x0200, 1, 0⟩
/-- The key of FRAME (P.0201). -/
def K.FRAME : Nat := 0x0201
def P.FRAME.DIR : FieldRef := ⟨0x0201, 32, 32⟩
def P.FRAME.FRAME_NO : FieldRef := ⟨0x0201, 31, 0⟩
/-- The key of FIELD (P.0202). -/
def K.FIELD : Nat := 0x0202
def P.FIELD.W : FieldRef := ⟨0x0202, 16, 0⟩
/-- The key of FRAME_SYNC (P.0203). -/
def K.FRAME_SYNC : Nat := 0x0203
def P.FRAME_SYNC.GATE_ARM : FieldRef := ⟨0x0203, 35, 34⟩
def P.FRAME_SYNC.SYNC_SRC : FieldRef := ⟨0x0203, 33, 32⟩
def P.FRAME_SYNC.PHASE : FieldRef := ⟨0x0203, 27, 0⟩
/-- The key of STAGGER (P.0204). -/
def K.STAGGER : Nat := 0x0204
def P.STAGGER.STG : FieldRef := ⟨0x0204, 63, 0⟩
/-- The key of HOLD (P.0205). -/
def K.HOLD : Nat := 0x0205
def P.HOLD.HOLD_LIMIT : FieldRef := ⟨0x0205, 10, 0⟩
/-- The key of COLUMN_COUNTS (P.0206). -/
def K.COLUMN_COUNTS : Nat := 0x0206
def P.COLUMN_COUNTS.SKIPPED : FieldRef := ⟨0x0206, 63, 32⟩
def P.COLUMN_COUNTS.HELD : FieldRef := ⟨0x0206, 31, 0⟩
/-- The key of CODE_EPOCH (P.0207). -/
def K.CODE_EPOCH : Nat := 0x0207
def P.CODE_EPOCH.E_PENDING : FieldRef := ⟨0x0207, 63, 32⟩
def P.CODE_EPOCH.E_CUR : FieldRef := ⟨0x0207, 31, 0⟩
/-- The key of CODE_CONTROL (P.0208). -/
def K.CODE_CONTROL : Nat := 0x0208
def P.CODE_CONTROL.UNFIRED_FRAMES : FieldRef := ⟨0x0208, 63, 48⟩
def P.CODE_CONTROL.LATE_SWITCHES : FieldRef := ⟨0x0208, 47, 32⟩
def P.CODE_CONTROL.EPOCH_PERIOD : FieldRef := ⟨0x0208, 11, 0⟩
/-- The key of INPUT_CFG (P.0300). -/
def K.INPUT_CFG : Nat := 0x0300
def P.INPUT_CFG.EN : FieldRef := ⟨0x0300, 7, 7⟩
def P.INPUT_CFG.HYS : FieldRef := ⟨0x0300, 6, 5⟩
def P.INPUT_CFG.HOLDOFF : FieldRef := ⟨0x0300, 4, 0⟩
/-- The key of NEAR (P.0330). -/
def K.NEAR : Nat := 0x0330
def P.NEAR.NEAR_BIN : FieldRef := ⟨0x0330, 7, 0⟩
/-- The key of FAR (P.0360). -/
def K.FAR : Nat := 0x0360
def P.FAR.FAR16 : FieldRef := ⟨0x0360, 7, 0⟩
/-- The key of CNT_SEL (P.0390). -/
def K.CNT_SEL : Nat := 0x0390
def P.CNT_SEL.CHANNEL : FieldRef := ⟨0x0390, 8, 0⟩
/-- The key of CNT_A (P.0391). -/
def K.CNT_A : Nat := 0x0391
def P.CNT_A.STRAY : FieldRef := ⟨0x0391, 63, 32⟩
def P.CNT_A.GATED : FieldRef := ⟨0x0391, 31, 0⟩
/-- The key of CNT_B (P.0392). -/
def K.CNT_B : Nat := 0x0392
def P.CNT_B.DISARMED : FieldRef := ⟨0x0392, 63, 32⟩
def P.CNT_B.RATE_DROPS : FieldRef := ⟨0x0392, 31, 0⟩
/-- The key of STAT_CTRL (P.03A0). -/
def K.STAT_CTRL : Nat := 0x03A0
def P.STAT_CTRL.N_M1 : FieldRef := ⟨0x03A0, 47, 32⟩
def P.STAT_CTRL.SRC : FieldRef := ⟨0x03A0, 20, 16⟩
def P.STAT_CTRL.CONT : FieldRef := ⟨0x03A0, 1, 1⟩
def P.STAT_CTRL.START : FieldRef := ⟨0x03A0, 0, 0⟩
/-- The key of STAT_HDR (P.03A1). -/
def K.STAT_HDR : Nat := 0x03A1
def P.STAT_HDR.SEQ : FieldRef := ⟨0x03A1, 63, 48⟩
def P.STAT_HDR.STATE : FieldRef := ⟨0x03A1, 47, 46⟩
def P.STAT_HDR.SRC : FieldRef := ⟨0x03A1, 20, 16⟩
def P.STAT_HDR.N_M1 : FieldRef := ⟨0x03A1, 15, 0⟩
/-- The key of STAT_MEAN (P.03A2). -/
def K.STAT_MEAN : Nat := 0x03A2
def P.STAT_MEAN.MEAN : FieldRef := ⟨0x03A2, 47, 0⟩
/-- The key of STAT_STD (P.03A3). -/
def K.STAT_STD : Nat := 0x03A3
def P.STAT_STD.STD : FieldRef := ⟨0x03A3, 31, 0⟩
/-- The key of STAT_MINMAX (P.03A4). -/
def K.STAT_MINMAX : Nat := 0x03A4
def P.STAT_MINMAX.EXTREME : FieldRef := ⟨0x03A4, 39, 0⟩
/-- The key of GATE_CFG (P.03B0). -/
def K.GATE_CFG : Nat := 0x03B0
def P.GATE_CFG.ARM_MODE : FieldRef := ⟨0x03B0, 43, 42⟩
def P.GATE_CFG.POL : FieldRef := ⟨0x03B0, 40, 40⟩
def P.GATE_CFG.ARM_LEN : FieldRef := ⟨0x03B0, 39, 16⟩
def P.GATE_CFG.BANK_MASK : FieldRef := ⟨0x03B0, 15, 0⟩
/-- The key of MON_CFG (P.03C0). -/
def K.MON_CFG : Nat := 0x03C0
def P.MON_CFG.HYS : FieldRef := ⟨0x03C0, 6, 5⟩
def P.MON_CFG.HOLDOFF : FieldRef := ⟨0x03C0, 4, 0⟩
/-- The key of MON_WIN (P.03C2). -/
def K.MON_WIN : Nat := 0x03C2
def P.MON_WIN.MON_WIN : FieldRef := ⟨0x03C2, 7, 0⟩
/-- The key of CAL_SEL (P.03D0). -/
def K.CAL_SEL : Nat := 0x03D0
def P.CAL_SEL.INPUT : FieldRef := ⟨0x03D0, 8, 0⟩
/-- The key of CAL_VIEW (P.03D1). -/
def K.CAL_VIEW : Nat := 0x03D1
def P.CAL_VIEW.LOST : FieldRef := ⟨0x03D1, 23, 23⟩
def P.CAL_VIEW.DEGRADED : FieldRef := ⟨0x03D1, 22, 22⟩
def P.CAL_VIEW.PATH : FieldRef := ⟨0x03D1, 19, 16⟩
def P.CAL_VIEW.SKEW : FieldRef := ⟨0x03D1, 15, 0⟩
/-- The key of SPARE_MAP (P.03D2). -/
def K.SPARE_MAP : Nat := 0x03D2
def P.SPARE_MAP.LOST_CH : FieldRef := ⟨0x03D2, 56, 48⟩
def P.SPARE_MAP.IN_USE : FieldRef := ⟨0x03D2, 47, 0⟩
/-- The key of SPARE_FORCE (P.03D3). -/
def K.SPARE_FORCE : Nat := 0x03D3
def P.SPARE_FORCE.ACTION : FieldRef := ⟨0x03D3, 49, 48⟩
def P.SPARE_FORCE.FORCE_CANCELLED : FieldRef := ⟨0x03D3, 16, 16⟩
def P.SPARE_FORCE.UNIT : FieldRef := ⟨0x03D3, 15, 10⟩
def P.SPARE_FORCE.CHANNEL : FieldRef := ⟨0x03D3, 2, 0⟩
/-- The key of SPARE_FAILED (P.03D4). -/
def K.SPARE_FAILED : Nat := 0x03D4
def P.SPARE_FAILED.SPARE_FAILED : FieldRef := ⟨0x03D4, 47, 0⟩
/-- The key of HIST_CFG (P.0400). -/
def K.HIST_CFG : Nat := 0x0400
def P.HIST_CFG.SAT_LEN : FieldRef := ⟨0x0400, 4, 0⟩
/-- The key of HIST_FLAGS (P.0401). -/
def K.HIST_FLAGS : Nat := 0x0401
def P.HIST_FLAGS.HIST_FREEZE_LOST : FieldRef := ⟨0x0401, 1, 1⟩
def P.HIST_FLAGS.HIST_POISON_SEEN : FieldRef := ⟨0x0401, 0, 0⟩
/-- The key of DUMP_REQ (P.0410). -/
def K.DUMP_REQ : Nat := 0x0410
def P.DUMP_REQ.FROZEN_SRC : FieldRef := ⟨0x0410, 47, 47⟩
def P.DUMP_REQ.ANY_COL : FieldRef := ⟨0x0410, 46, 46⟩
def P.DUMP_REQ.COLUMN : FieldRef := ⟨0x0410, 42, 32⟩
def P.DUMP_REQ.COUNT : FieldRef := ⟨0x0410, 21, 16⟩
def P.DUMP_REQ.CHANNEL : FieldRef := ⟨0x0410, 8, 0⟩
/-- The key of DUMP_STATUS (P.0411). -/
def K.DUMP_STATUS : Nat := 0x0411
def P.DUMP_STATUS.DUMPS_DONE : FieldRef := ⟨0x0411, 63, 48⟩
def P.DUMP_STATUS.DROPPED : FieldRef := ⟨0x0411, 47, 32⟩
def P.DUMP_STATUS.SKIPPED : FieldRef := ⟨0x0411, 21, 16⟩
def P.DUMP_STATUS.ABORTED : FieldRef := ⟨0x0411, 2, 2⟩
def P.DUMP_STATUS.WAITING : FieldRef := ⟨0x0411, 1, 1⟩
def P.DUMP_STATUS.BUSY : FieldRef := ⟨0x0411, 0, 0⟩
/-- The key of ECC_COUNT (P.0420). -/
def K.ECC_COUNT : Nat := 0x0420
def P.ECC_COUNT.UNCORRECTABLE : FieldRef := ⟨0x0420, 63, 32⟩
def P.ECC_COUNT.CORRECTED : FieldRef := ⟨0x0420, 31, 0⟩
/-- The key of INJECT_SEL (P.0430). -/
def K.INJECT_SEL : Nat := 0x0430
def P.INJECT_SEL.ARM : FieldRef := ⟨0x0430, 48, 48⟩
def P.INJECT_SEL.BIN : FieldRef := ⟨0x0430, 43, 32⟩
def P.INJECT_SEL.CHANNEL : FieldRef := ⟨0x0430, 8, 0⟩
/-- The key of INJECT_MASK (P.0431). -/
def K.INJECT_MASK : Nat := 0x0431
def P.INJECT_MASK.MASK : FieldRef := ⟨0x0431, 63, 0⟩
/-- The key of FREEZE_SEL (P.0440). -/
def K.FREEZE_SEL : Nat := 0x0440
def P.FREEZE_SEL.CHANNEL : FieldRef := ⟨0x0440, 8, 0⟩
/-- The key of FREEZE_VIEW (P.0441). -/
def K.FREEZE_VIEW : Nat := 0x0441
def P.FREEZE_VIEW.POISON1 : FieldRef := ⟨0x0441, 12, 12⟩
def P.FREEZE_VIEW.BY_DUMP1 : FieldRef := ⟨0x0441, 11, 11⟩
def P.FREEZE_VIEW.BY_MASK1 : FieldRef := ⟨0x0441, 10, 10⟩
def P.FREEZE_VIEW.STATE1 : FieldRef := ⟨0x0441, 9, 8⟩
def P.FREEZE_VIEW.POISON : FieldRef := ⟨0x0441, 4, 4⟩
def P.FREEZE_VIEW.BY_DUMP : FieldRef := ⟨0x0441, 3, 3⟩
def P.FREEZE_VIEW.BY_MASK : FieldRef := ⟨0x0441, 2, 2⟩
def P.FREEZE_VIEW.STATE : FieldRef := ⟨0x0441, 1, 0⟩
/-- The key of FREEZE_SUMMARY (P.0442). -/
def K.FREEZE_SUMMARY : Nat := 0x0442
def P.FREEZE_SUMMARY.BOTH_FROZEN : FieldRef := ⟨0x0442, 24, 16⟩
def P.FREEZE_SUMMARY.ANY_FROZEN : FieldRef := ⟨0x0442, 8, 0⟩
/-- The key of FILT_CFG (P.0500). -/
def K.FILT_CFG : Nat := 0x0500
def P.FILT_CFG.BG_SHIFT : FieldRef := ⟨0x0500, 23, 21⟩
def P.FILT_CFG.MIN_EVENTS : FieldRef := ⟨0x0500, 20, 16⟩
def P.FILT_CFG.RUN_GAP : FieldRef := ⟨0x0500, 11, 8⟩
def P.FILT_CFG.K16 : FieldRef := ⟨0x0500, 7, 0⟩
/-- The key of TPL_TAPS (P.0510). -/
def K.TPL_TAPS : Nat := 0x0510
def P.TPL_TAPS.TAP : FieldRef := ⟨0x0510, 11, 0⟩
/-- The key of TPL_SHAPE (P.0514). -/
def K.TPL_SHAPE : Nat := 0x0514
def P.TPL_SHAPE.SIGMA_REF16 : FieldRef := ⟨0x0514, 63, 48⟩
def P.TPL_SHAPE.WR : FieldRef := ⟨0x0514, 23, 20⟩
def P.TPL_SHAPE.WL : FieldRef := ⟨0x0514, 19, 16⟩
def P.TPL_SHAPE.L : FieldRef := ⟨0x0514, 12, 8⟩
def P.TPL_SHAPE.ANCHOR : FieldRef := ⟨0x0514, 3, 0⟩
/-- The key of TPL_COMMIT (P.0515). -/
def K.TPL_COMMIT : Nat := 0x0515
def P.TPL_COMMIT.BANK : FieldRef := ⟨0x0515, 17, 16⟩
def P.TPL_COMMIT.CLUSTER_MASK : FieldRef := ⟨0x0515, 11, 0⟩
/-- The key of TPL_SWAP (P.0516). -/
def K.TPL_SWAP : Nat := 0x0516
def P.TPL_SWAP.FADE_COLS : FieldRef := ⟨0x0516, 30, 24⟩
def P.TPL_SWAP.BANK : FieldRef := ⟨0x0516, 17, 16⟩
def P.TPL_SWAP.CLUSTER_MASK : FieldRef := ⟨0x0516, 11, 0⟩
/-- The key of TPL_CTRL (P.0517). -/
def K.TPL_CTRL : Nat := 0x0517
def P.TPL_CTRL.TPL_RESTORED : FieldRef := ⟨0x0517, 1, 1⟩
def P.TPL_CTRL.AUTO_TPL : FieldRef := ⟨0x0517, 0, 0⟩
/-- The key of TPL_STATE (P.0520). -/
def K.TPL_STATE : Nat := 0x0520
def P.TPL_STATE.LOCKS : FieldRef := ⟨0x0520, 42, 40⟩
def P.TPL_STATE.HELD_COLS : FieldRef := ⟨0x0520, 38, 32⟩
def P.TPL_STATE.HELD_BANK : FieldRef := ⟨0x0520, 26, 25⟩
def P.TPL_STATE.HELD : FieldRef := ⟨0x0520, 24, 24⟩
def P.TPL_STATE.FADE_COLS : FieldRef := ⟨0x0520, 22, 16⟩
def P.TPL_STATE.FADE_POS : FieldRef := ⟨0x0520, 14, 8⟩
def P.TPL_STATE.FADING : FieldRef := ⟨0x0520, 4, 4⟩
def P.TPL_STATE.FADE_FROM : FieldRef := ⟨0x0520, 3, 2⟩
def P.TPL_STATE.ACTIVE : FieldRef := ⟨0x0520, 1, 0⟩
/-- The key of CAND_COUNTS (P.0540). -/
def K.CAND_COUNTS : Nat := 0x0540
def P.CAND_COUNTS.OVERFLOW : FieldRef := ⟨0x0540, 63, 32⟩
def P.CAND_COUNTS.BLIND : FieldRef := ⟨0x0540, 31, 0⟩
/-- The key of BG_SEL (P.0550). -/
def K.BG_SEL : Nat := 0x0550
def P.BG_SEL.CHANNEL : FieldRef := ⟨0x0550, 8, 0⟩
/-- The key of BG_VIEW (P.0551). -/
def K.BG_VIEW : Nat := 0x0551
def P.BG_VIEW.BQ : FieldRef := ⟨0x0551, 19, 0⟩
/-- The key of CLASS_SHAPE (P.0560). -/
def K.CLASS_SHAPE : Nat := 0x0560
def P.CLASS_SHAPE.PART_AR16 : FieldRef := ⟨0x0560, 47, 40⟩
def P.CLASS_SHAPE.TRACK_BINS : FieldRef := ⟨0x0560, 35, 32⟩
def P.CLASS_SHAPE.PART_BETA8 : FieldRef := ⟨0x0560, 31, 16⟩
def P.CLASS_SHAPE.SOFT_BETA8 : FieldRef := ⟨0x0560, 15, 0⟩
/-- The key of CLASS_RANGE (P.0561). -/
def K.CLASS_RANGE : Nat := 0x0561
def P.CLASS_RANGE.MP_RATIO16 : FieldRef := ⟨0x0561, 63, 56⟩
def P.CLASS_RANGE.MP_MM : FieldRef := ⟨0x0561, 41, 32⟩
def P.CLASS_RANGE.FILM_MM : FieldRef := ⟨0x0561, 21, 12⟩
def P.CLASS_RANGE.STAB_MM : FieldRef := ⟨0x0561, 9, 0⟩
/-- The key of MERGE_INT (P.0562). -/
def K.MERGE_INT : Nat := 0x0562
def P.MERGE_INT.VNOM : FieldRef := ⟨0x0562, 46, 40⟩
def P.MERGE_INT.INT_SCALE : FieldRef := ⟨0x0562, 31, 16⟩
def P.MERGE_INT.MERGE_BINS : FieldRef := ⟨0x0562, 3, 0⟩
/-- The key of FILM_BASE (P.0563). -/
def K.FILM_BASE : Nat := 0x0563
def P.FILM_BASE.FILM_BASE : FieldRef := ⟨0x0563, 15, 0⟩
/-- The key of EXTRACT_COUNTS (P.0570). -/
def K.EXTRACT_COUNTS : Nat := 0x0570
def P.EXTRACT_COUNTS.WINDOW_DROPS : FieldRef := ⟨0x0570, 63, 32⟩
def P.EXTRACT_COUNTS.MERGES : FieldRef := ⟨0x0570, 31, 0⟩
/-- The key of EVOTH_CTRL (P.0600). -/
def K.EVOTH_CTRL : Nat := 0x0600
def P.EVOTH_CTRL.REFINE_SRC : FieldRef := ⟨0x0600, 48, 48⟩
def P.EVOTH_CTRL.RESTART : FieldRef := ⟨0x0600, 47, 32⟩
def P.EVOTH_CTRL.BG_EN : FieldRef := ⟨0x0600, 15, 0⟩
/-- The key of CORE_STATUS (P.0610). -/
def K.CORE_STATUS : Nat := 0x0610
def P.CORE_STATUS.FAULT_DATA : FieldRef := ⟨0x0610, 63, 32⟩
def P.CORE_STATUS.FAULT_PC : FieldRef := ⟨0x0610, 31, 16⟩
def P.CORE_STATUS.FAULT_CODE : FieldRef := ⟨0x0610, 15, 8⟩
def P.CORE_STATUS.HALTED : FieldRef := ⟨0x0610, 7, 7⟩
def P.CORE_STATUS.BG_FAULTED : FieldRef := ⟨0x0610, 6, 6⟩
def P.CORE_STATUS.BG_LOADED : FieldRef := ⟨0x0610, 5, 5⟩
def P.CORE_STATUS.BG_BK : FieldRef := ⟨0x0610, 4, 4⟩
def P.CORE_STATUS.COL_FAULTS : FieldRef := ⟨0x0610, 3, 2⟩
def P.CORE_STATUS.LEVEL : FieldRef := ⟨0x0610, 1, 0⟩
/-- The key of REGION_TIMING (P.0620). -/
def K.REGION_TIMING : Nat := 0x0620
def P.REGION_TIMING.OVERRUN_COLS : FieldRef := ⟨0x0620, 63, 32⟩
def P.REGION_TIMING.UNREFINED_ROWS : FieldRef := ⟨0x0620, 31, 0⟩
/-- The key of REGION_POSTS (P.0630). -/
def K.REGION_POSTS : Nat := 0x0630
def P.REGION_POSTS.LATE_POSTS : FieldRef := ⟨0x0630, 63, 48⟩
def P.REGION_POSTS.POST_ERRORS : FieldRef := ⟨0x0630, 47, 32⟩
def P.REGION_POSTS.MIN_SLACK : FieldRef := ⟨0x0630, 31, 0⟩
/-- The key of STREAM_CFG (P.0700). -/
def K.STREAM_CFG : Nat := 0x0700
def P.STREAM_CFG.KEY_REQ : FieldRef := ⟨0x0700, 32, 32⟩
def P.STREAM_CFG.THIN_MODE : FieldRef := ⟨0x0700, 25, 24⟩
def P.STREAM_CFG.KEY_INTERVAL : FieldRef := ⟨0x0700, 23, 16⟩
def P.STREAM_CFG.DELTA_EN : FieldRef := ⟨0x0700, 12, 12⟩
def P.STREAM_CFG.LOW_WATER : FieldRef := ⟨0x0700, 11, 0⟩
/-- The key of DELTA_THR (P.0701). -/
def K.DELTA_THR : Nat := 0x0701
def P.DELTA_THR.DELTA_INT : FieldRef := ⟨0x0701, 25, 16⟩
def P.DELTA_THR.DELTA_MM : FieldRef := ⟨0x0701, 15, 0⟩
/-- The key of RING_BASE (P.0710). -/
def K.RING_BASE : Nat := 0x0710
def P.RING_BASE.BASE : FieldRef := ⟨0x0710, 47, 12⟩
def P.RING_BASE.LOG2_SIZE : FieldRef := ⟨0x0710, 4, 0⟩
/-- The key of RING_NOTIFY (P.0714). -/
def K.RING_NOTIFY : Nat := 0x0714
def P.RING_NOTIFY.COAL_COLS : FieldRef := ⟨0x0714, 63, 56⟩
def P.RING_NOTIFY.COAL_US : FieldRef := ⟨0x0714, 55, 48⟩
def P.RING_NOTIFY.WB_ADDR : FieldRef := ⟨0x0714, 47, 6⟩
def P.RING_NOTIFY.EN : FieldRef := ⟨0x0714, 0, 0⟩
/-- The key of RING_RD (P.0718). -/
def K.RING_RD : Nat := 0x0718
def P.RING_RD.RD_OFF : FieldRef := ⟨0x0718, 63, 0⟩
/-- The key of RING_WR (P.071C). -/
def K.RING_WR : Nat := 0x071C
def P.RING_WR.WR_OFF : FieldRef := ⟨0x071C, 63, 0⟩
/-- The key of STREAM_COUNTS (P.0720). -/
def K.STREAM_COUNTS : Nat := 0x0720
def P.STREAM_COUNTS.DROPPED_RECS : FieldRef := ⟨0x0720, 63, 32⟩
def P.STREAM_COUNTS.DROPPED_COLS : FieldRef := ⟨0x0720, 31, 0⟩
/-- The key of STREAM_LOSS (P.0724). -/
def K.STREAM_LOSS : Nat := 0x0724
def P.STREAM_LOSS.THINNED_RECS : FieldRef := ⟨0x0724, 63, 32⟩
def P.STREAM_LOSS.LOST_COLS : FieldRef := ⟨0x0724, 31, 0⟩
/-- The key of STREAM_FLAGS (P.0728). -/
def K.STREAM_FLAGS : Nat := 0x0728
def P.STREAM_FLAGS.HISTORY_LOST : FieldRef := ⟨0x0728, 11, 8⟩
def P.STREAM_FLAGS.RING_LOST : FieldRef := ⟨0x0728, 7, 4⟩
def P.STREAM_FLAGS.RING_DROP : FieldRef := ⟨0x0728, 3, 0⟩
/-- The key of MASK_CFG (P.0800). -/
def K.MASK_CFG : Nat := 0x0800
def P.MASK_CFG.LAST_BUF : FieldRef := ⟨0x0800, 17, 17⟩
def P.MASK_CFG.FREEZE_EN : FieldRef := ⟨0x0800, 16, 16⟩
def P.MASK_CFG.PERSIST : FieldRef := ⟨0x0800, 15, 12⟩
def P.MASK_CFG.MIN_BINS : FieldRef := ⟨0x0800, 6, 0⟩
/-- The key of ENV_COMMIT (P.0801). -/
def K.ENV_COMMIT : Nat := 0x0801
def P.ENV_COMMIT.SET : FieldRef := ⟨0x0801, 18, 16⟩
def P.ENV_COMMIT.CLUSTER_MASK : FieldRef := ⟨0x0801, 11, 0⟩
/-- The key of MASK_RELEASE (P.0802). -/
def K.MASK_RELEASE : Nat := 0x0802
def P.MASK_RELEASE.ALL : FieldRef := ⟨0x0802, 18, 18⟩
def P.MASK_RELEASE.BUF1 : FieldRef := ⟨0x0802, 17, 17⟩
def P.MASK_RELEASE.BUF0 : FieldRef := ⟨0x0802, 16, 16⟩
def P.MASK_RELEASE.CHANNEL : FieldRef := ⟨0x0802, 8, 0⟩
/-- The key of MASK_SEL (P.0803). -/
def K.MASK_SEL : Nat := 0x0803
def P.MASK_SEL.CHANNEL : FieldRef := ⟨0x0803, 8, 0⟩
/-- The key of MASK_VIEW (P.0804). -/
def K.MASK_VIEW : Nat := 0x0804
def P.MASK_VIEW.FIRST_BIN : FieldRef := ⟨0x0804, 63, 52⟩
def P.MASK_VIEW.NBINS : FieldRef := ⟨0x0804, 51, 44⟩
def P.MASK_VIEW.COLUMN : FieldRef := ⟨0x0804, 43, 33⟩
def P.MASK_VIEW.TEST : FieldRef := ⟨0x0804, 32, 32⟩
def P.MASK_VIEW.UPPER : FieldRef := ⟨0x0804, 31, 31⟩
def P.MASK_VIEW.LOWER : FieldRef := ⟨0x0804, 30, 30⟩
def P.MASK_VIEW.RUN : FieldRef := ⟨0x0804, 29, 26⟩
def P.MASK_VIEW.MASKED : FieldRef := ⟨0x0804, 25, 24⟩
def P.MASK_VIEW.VIOL_CNT : FieldRef := ⟨0x0804, 23, 0⟩
/-- The key of ENV_STAGE (P.0810). -/
def K.ENV_STAGE : Nat := 0x0810
def P.ENV_STAGE.UP : FieldRef := ⟨0x0810, 13, 8⟩
def P.ENV_STAGE.LO : FieldRef := ⟨0x0810, 5, 0⟩
/-- The key of MASK_COUNTS (P.0820). -/
def K.MASK_COUNTS : Nat := 0x0820
def P.MASK_COUNTS.FREEZES : FieldRef := ⟨0x0820, 63, 32⟩
def P.MASK_COUNTS.VIOLATIONS : FieldRef := ⟨0x0820, 31, 0⟩
/-- The key of CH_MASK (P.0840). -/
def K.CH_MASK : Nat := 0x0840
def P.CH_MASK.NEAR_EN : FieldRef := ⟨0x0840, 7, 7⟩
def P.CH_MASK.NEAR_SET : FieldRef := ⟨0x0840, 6, 5⟩
def P.CH_MASK.FULL_EN : FieldRef := ⟨0x0840, 4, 4⟩
def P.CH_MASK.FULL_SET : FieldRef := ⟨0x0840, 3, 3⟩
/-- The key of REC_CTRL (P.0880). -/
def K.REC_CTRL : Nat := 0x0880
def P.REC_CTRL.DRAIN : FieldRef := ⟨0x0880, 5, 5⟩
def P.REC_CTRL.STOP : FieldRef := ⟨0x0880, 4, 4⟩
def P.REC_CTRL.SW_TRIG : FieldRef := ⟨0x0880, 3, 3⟩
def P.REC_CTRL.MODE : FieldRef := ⟨0x0880, 2, 2⟩
def P.REC_CTRL.EN : FieldRef := ⟨0x0880, 0, 0⟩
/-- The key of REC_DEPTH (P.0881). -/
def K.REC_DEPTH : Nat := 0x0881
def P.REC_DEPTH.POST_TIME : FieldRef := ⟨0x0881, 63, 32⟩
def P.REC_DEPTH.POST_DEPTH : FieldRef := ⟨0x0881, 28, 16⟩
def P.REC_DEPTH.PRE_DEPTH : FieldRef := ⟨0x0881, 12, 0⟩
/-- The key of REC_TERM (P.0882). -/
def K.REC_TERM : Nat := 0x0882
def P.REC_TERM.CLUSTER_MASK : FieldRef := ⟨0x0882, 27, 16⟩
def P.REC_TERM.KIND : FieldRef := ⟨0x0882, 15, 12⟩
def P.REC_TERM.SLOT : FieldRef := ⟨0x0882, 4, 0⟩
/-- The key of REC_SEL (P.0886). -/
def K.REC_SEL : Nat := 0x0886
def P.REC_SEL.EN : FieldRef := ⟨0x0886, 15, 15⟩
def P.REC_SEL.SEL : FieldRef := ⟨0x0886, 8, 0⟩
/-- The key of REC_PATTERN (P.088E). -/
def K.REC_PATTERN : Nat := 0x088E
def P.REC_PATTERN.PAT_MASK : FieldRef := ⟨0x088E, 63, 32⟩
def P.REC_PATTERN.PAT_VALUE : FieldRef := ⟨0x088E, 31, 0⟩
/-- The key of REC_STATUS (P.0890). -/
def K.REC_STATUS : Nat := 0x0890
def P.REC_STATUS.MISSED : FieldRef := ⟨0x0890, 39, 24⟩
def P.REC_STATUS.STATE : FieldRef := ⟨0x0890, 23, 22⟩
def P.REC_STATUS.UNDERRUN : FieldRef := ⟨0x0890, 21, 21⟩
def P.REC_STATUS.HEAD_VALID : FieldRef := ⟨0x0890, 19, 16⟩
def P.REC_STATUS.COUNT : FieldRef := ⟨0x0890, 14, 0⟩
/-- The key of REC_DATA (P.0891). -/
def K.REC_DATA : Nat := 0x0891
def P.REC_DATA.DATA : FieldRef := ⟨0x0891, 63, 0⟩
/-- The key of REC_COUNTS (P.0892). -/
def K.REC_COUNTS : Nat := 0x0892
def P.REC_COUNTS.REC_DROPPED : FieldRef := ⟨0x0892, 63, 48⟩
def P.REC_COUNTS.UNDERRUNS : FieldRef := ⟨0x0892, 47, 32⟩
def P.REC_COUNTS.CAPTURES : FieldRef := ⟨0x0892, 31, 0⟩
/-- The key of EMIT_CTRL (P.0900). -/
def K.EMIT_CTRL : Nat := 0x0900
def P.EMIT_CTRL.FIRE_W : FieldRef := ⟨0x0900, 36, 32⟩
def P.EMIT_CTRL.EMIT_EN : FieldRef := ⟨0x0900, 16, 16⟩
def P.EMIT_CTRL.BANK_EN : FieldRef := ⟨0x0900, 15, 0⟩
/-- The key of CHG_SET (P.0901). -/
def K.CHG_SET : Nat := 0x0901
def P.CHG_SET.CH_EN : FieldRef := ⟨0x0901, 48, 48⟩
def P.CHG_SET.SLEW : FieldRef := ⟨0x0901, 40, 32⟩
def P.CHG_SET.BAND : FieldRef := ⟨0x0901, 24, 16⟩
def P.CHG_SET.SETPOINT : FieldRef := ⟨0x0901, 13, 0⟩
/-- The key of CHG_LIMITS (P.0905). -/
def K.CHG_LIMITS : Nat := 0x0905
def P.CHG_LIMITS.RUNAWAY_LIMIT : FieldRef := ⟨0x0905, 63, 60⟩
def P.CHG_LIMITS.THERM_CAP : FieldRef := ⟨0x0905, 45, 32⟩
def P.CHG_LIMITS.CHG_TIMEOUT : FieldRef := ⟨0x0905, 29, 16⟩
def P.CHG_LIMITS.OV_LIMIT : FieldRef := ⟨0x0905, 13, 0⟩
/-- The key of CHG_CLEAR (P.0906). -/
def K.CHG_CLEAR : Nat := 0x0906
def P.CHG_CLEAR.CLEAR : FieldRef := ⟨0x0906, 3, 0⟩
/-- The key of CHG_STATUS (P.0908). -/
def K.CHG_STATUS : Nat := 0x0908
def P.CHG_STATUS.FAULT_CAUSE : FieldRef := ⟨0x0908, 63, 60⟩
def P.CHG_STATUS.LATCHED : FieldRef := ⟨0x0908, 59, 59⟩
def P.CHG_STATUS.STATE : FieldRef := ⟨0x0908, 58, 56⟩
def P.CHG_STATUS.CLAMP_CAUSE : FieldRef := ⟨0x0908, 53, 52⟩
def P.CHG_STATUS.TGT : FieldRef := ⟨0x0908, 45, 32⟩
def P.CHG_STATUS.REF : FieldRef := ⟨0x0908, 29, 16⟩
def P.CHG_STATUS.MEAS : FieldRef := ⟨0x0908, 13, 0⟩
/-- The key of EXP_CFG (P.0910). -/
def K.EXP_CFG : Nat := 0x0910
def P.EXP_CFG.LOCK : FieldRef := ⟨0x0910, 32, 32⟩
def P.EXP_CFG.EXP_SLOT : FieldRef := ⟨0x0910, 19, 0⟩
/-- The key of EXP_BUDGET (P.0911). -/
def K.EXP_BUDGET : Nat := 0x0911
def P.EXP_BUDGET.BUDGET : FieldRef := ⟨0x0911, 63, 0⟩
/-- The key of EXP_SEL (P.0921). -/
def K.EXP_SEL : Nat := 0x0921
def P.EXP_SEL.BANK : FieldRef := ⟨0x0921, 3, 0⟩
/-- The key of EXP_VIEW (P.0922). -/
def K.EXP_VIEW : Nat := 0x0922
def P.EXP_VIEW.ACC : FieldRef := ⟨0x0922, 63, 0⟩
/-- The key of EXP_COUNTS (P.0923). -/
def K.EXP_COUNTS : Nat := 0x0923
def P.EXP_COUNTS.INHIBIT_PULSES : FieldRef := ⟨0x0923, 63, 32⟩
def P.EXP_COUNTS.INHIBIT_COLS : FieldRef := ⟨0x0923, 31, 0⟩
/-- The key of ADAPT_CFG (P.0928). -/
def K.ADAPT_CFG : Nat := 0x0928
def P.ADAPT_CFG.FIX : FieldRef := ⟨0x0928, 63, 60⟩
def P.ADAPT_CFG.ADAPT_EN : FieldRef := ⟨0x0928, 59, 56⟩
def P.ADAPT_CFG.ADAPT_SAT : FieldRef := ⟨0x0928, 55, 48⟩
def P.ADAPT_CFG.ADAPT_HOLD : FieldRef := ⟨0x0928, 47, 42⟩
def P.ADAPT_CFG.ADAPT_NEAR_MM : FieldRef := ⟨0x0928, 39, 28⟩
def P.ADAPT_CFG.ADAPT_STEP : FieldRef := ⟨0x0928, 25, 16⟩
/-- The key of ADAPT_MIN (P.0929). -/
def K.ADAPT_MIN : Nat := 0x0929
def P.ADAPT_MIN.MIN : FieldRef := ⟨0x0929, 13, 0⟩
/-- The key of ADAPT_VIEW (P.092A). -/
def K.ADAPT_VIEW : Nat := 0x092A
def P.ADAPT_VIEW.A : FieldRef := ⟨0x092A, 13, 0⟩
/-- The key of EMIT_FLAGS (P.0930). -/
def K.EMIT_FLAGS : Nat := 0x0930
def P.EMIT_FLAGS.CHG_FAULT : FieldRef := ⟨0x0930, 23, 20⟩
def P.EMIT_FLAGS.POLICY_CLAMPED : FieldRef := ⟨0x0930, 19, 16⟩
def P.EMIT_FLAGS.RUNAWAY : FieldRef := ⟨0x0930, 15, 0⟩
/-- The key of MIR_CTRL (P.0A00). -/
def K.MIR_CTRL : Nat := 0x0A00
def P.MIR_CTRL.RESTART : FieldRef := ⟨0x0A00, 40, 40⟩
def P.MIR_CTRL.SPARE_EN : FieldRef := ⟨0x0A00, 32, 32⟩
def P.MIR_CTRL.RUN : FieldRef := ⟨0x0A00, 1, 1⟩
def P.MIR_CTRL.DRV_EN : FieldRef := ⟨0x0A00, 0, 0⟩
/-- The key of MIR_CFG (P.0A01). -/
def K.MIR_CFG : Nat := 0x0A01
def P.MIR_CFG.ANG_CONV : FieldRef := ⟨0x0A01, 56, 56⟩
def P.MIR_CFG.STUCK_US : FieldRef := ⟨0x0A01, 55, 48⟩
def P.MIR_CFG.DEAD_NS : FieldRef := ⟨0x0A01, 47, 41⟩
def P.MIR_CFG.I_TRIP : FieldRef := ⟨0x0A01, 35, 24⟩
def P.MIR_CFG.IBAND : FieldRef := ⟨0x0A01, 23, 12⟩
def P.MIR_CFG.I_LIMIT : FieldRef := ⟨0x0A01, 11, 0⟩
/-- The key of MIR_GAINS (P.0A02). -/
def K.MIR_GAINS : Nat := 0x0A02
def P.MIR_GAINS.KP : FieldRef := ⟨0x0A02, 63, 48⟩
def P.MIR_GAINS.KI : FieldRef := ⟨0x0A02, 47, 32⟩
def P.MIR_GAINS.KD : FieldRef := ⟨0x0A02, 31, 16⟩
def P.MIR_GAINS.KV : FieldRef := ⟨0x0A02, 15, 0⟩
/-- The key of MIR_ACCEL (P.0A03). -/
def K.MIR_ACCEL : Nat := 0x0A03
def P.MIR_ACCEL.KA : FieldRef := ⟨0x0A03, 15, 0⟩
/-- The key of MIR_TRAJ (P.0A04). -/
def K.MIR_TRAJ : Nat := 0x0A04
def P.MIR_TRAJ.AMP_SLEW : FieldRef := ⟨0x0A04, 63, 48⟩
def P.MIR_TRAJ.ACC_MAX : FieldRef := ⟨0x0A04, 47, 32⟩
def P.MIR_TRAJ.THETA_MAX : FieldRef := ⟨0x0A04, 16, 0⟩
/-- The key of MIR_TOL (P.0A05). -/
def K.MIR_TOL : Nat := 0x0A05
def P.MIR_TOL.RECOVER_MAX : FieldRef := ⟨0x0A05, 63, 56⟩
def P.MIR_TOL.STALE_US : FieldRef := ⟨0x0A05, 55, 46⟩
def P.MIR_TOL.LOSS_TOL : FieldRef := ⟨0x0A05, 31, 16⟩
def P.MIR_TOL.TRACK_TOL : FieldRef := ⟨0x0A05, 15, 0⟩
/-- The key of MIR_RC (P.0A06). -/
def K.MIR_RC : Nat := 0x0A06
def P.MIR_RC.RC_EN : FieldRef := ⟨0x0A06, 50, 50⟩
def P.MIR_RC.RC_CLEAR : FieldRef := ⟨0x0A06, 49, 49⟩
def P.MIR_RC.RC_FREEZE : FieldRef := ⟨0x0A06, 48, 48⟩
def P.MIR_RC.LEAD : FieldRef := ⟨0x0A06, 47, 40⟩
def P.MIR_RC.FORGET : FieldRef := ⟨0x0A06, 39, 36⟩
def P.MIR_RC.RC_LIMIT : FieldRef := ⟨0x0A06, 31, 16⟩
def P.MIR_RC.KR : FieldRef := ⟨0x0A06, 15, 0⟩
/-- The key of MIR_STATUS (P.0A08). -/
def K.MIR_STATUS : Nat := 0x0A08
def P.MIR_STATUS.STATE : FieldRef := ⟨0x0A08, 63, 61⟩
def P.MIR_STATUS.CAUSE : FieldRef := ⟨0x0A08, 60, 56⟩
def P.MIR_STATUS.BRIDGE : FieldRef := ⟨0x0A08, 55, 55⟩
def P.MIR_STATUS.B1_FAILED : FieldRef := ⟨0x0A08, 54, 54⟩
def P.MIR_STATUS.B0_FAILED : FieldRef := ⟨0x0A08, 53, 53⟩
def P.MIR_STATUS.H : FieldRef := ⟨0x0A08, 48, 32⟩
def P.MIR_STATUS.ANGLE : FieldRef := ⟨0x0A08, 31, 0⟩
/-- The key of MIR_FRAME (P.0A09). -/
def K.MIR_FRAME : Nat := 0x0A09
def P.MIR_FRAME.MAX_ERR_ACT : FieldRef := ⟨0x0A09, 63, 48⟩
def P.MIR_FRAME.MAX_ERR_TURN : FieldRef := ⟨0x0A09, 47, 32⟩
def P.MIR_FRAME.PEAK_IREF : FieldRef := ⟨0x0A09, 31, 16⟩
/-- The key of MIR_COUNTS (P.0A0A). -/
def K.MIR_COUNTS : Nat := 0x0A0A
def P.MIR_COUNTS.OVERRUNS : FieldRef := ⟨0x0A0A, 63, 48⟩
def P.MIR_COUNTS.MISSED_COLS : FieldRef := ⟨0x0A0A, 47, 32⟩
def P.MIR_COUNTS.FAILOVERS : FieldRef := ⟨0x0A0A, 31, 16⟩
def P.MIR_COUNTS.MIR_UNFIRED : FieldRef := ⟨0x0A0A, 15, 0⟩
/-- The key of MIR_FLAGS (P.0A0B). -/
def K.MIR_FLAGS : Nat := 0x0A0B
def P.MIR_FLAGS.RC_CLAMPED : FieldRef := ⟨0x0A0B, 3, 3⟩
def P.MIR_FLAGS.OVERRUN_SEEN : FieldRef := ⟨0x0A0B, 2, 2⟩
def P.MIR_FLAGS.BRIDGE_FAULT : FieldRef := ⟨0x0A0B, 1, 1⟩
def P.MIR_FLAGS.PARKED_BY_FAULT : FieldRef := ⟨0x0A0B, 0, 0⟩
/-- The key of CONV_CFG (P.0B00). -/
def K.CONV_CFG : Nat := 0x0B00
def P.CONV_CFG.EN : FieldRef := ⟨0x0B00, 32, 32⟩
def P.CONV_CFG.TSRC : FieldRef := ⟨0x0B00, 31, 28⟩
def P.CONV_CFG.EXC_USE : FieldRef := ⟨0x0B00, 27, 26⟩
def P.CONV_CFG.DEMOD : FieldRef := ⟨0x0B00, 25, 24⟩
def P.CONV_CFG.AUTO : FieldRef := ⟨0x0B00, 21, 21⟩
def P.CONV_CFG.RANGE : FieldRef := ⟨0x0B00, 19, 18⟩
def P.CONV_CFG.PRESET : FieldRef := ⟨0x0B00, 17, 16⟩
def P.CONV_CFG.NPIN : FieldRef := ⟨0x0B00, 11, 8⟩
def P.CONV_CFG.PPIN : FieldRef := ⟨0x0B00, 3, 0⟩
/-- The key of EXC_CFG (P.0B02). -/
def K.EXC_CFG : Nat := 0x0B02
def P.EXC_CFG.CHOP_HALF : FieldRef := ⟨0x0B02, 63, 48⟩
def P.EXC_CFG.CHOP : FieldRef := ⟨0x0B02, 33, 33⟩
def P.EXC_CFG.MODE : FieldRef := ⟨0x0B02, 32, 32⟩
def P.EXC_CFG.LEVEL : FieldRef := ⟨0x0B02, 23, 12⟩
def P.EXC_CFG.SINK_PIN : FieldRef := ⟨0x0B02, 11, 8⟩
def P.EXC_CFG.EN : FieldRef := ⟨0x0B02, 4, 4⟩
def P.EXC_CFG.SRC_PIN : FieldRef := ⟨0x0B02, 3, 0⟩
/-- The key of BIAS_CFG (P.0B04). -/
def K.BIAS_CFG : Nat := 0x0B04
def P.BIAS_CFG.LEVEL1 : FieldRef := ⟨0x0B04, 59, 48⟩
def P.BIAS_CFG.EN1 : FieldRef := ⟨0x0B04, 36, 36⟩
def P.BIAS_CFG.PIN1 : FieldRef := ⟨0x0B04, 35, 32⟩
def P.BIAS_CFG.LEVEL0 : FieldRef := ⟨0x0B04, 27, 16⟩
def P.BIAS_CFG.EN0 : FieldRef := ⟨0x0B04, 4, 4⟩
def P.BIAS_CFG.PIN0 : FieldRef := ⟨0x0B04, 3, 0⟩
/-- The key of FE_CTRL (P.0B05). -/
def K.FE_CTRL : Nat := 0x0B05
def P.FE_CTRL.IMP_CLEAR : FieldRef := ⟨0x0B05, 9, 8⟩
def P.FE_CTRL.SYNC : FieldRef := ⟨0x0B05, 1, 0⟩
/-- The key of THR (P.0B08). -/
def K.THR : Nat := 0x0B08
def P.THR.HI : FieldRef := ⟨0x0B08, 63, 32⟩
def P.THR.LO : FieldRef := ⟨0x0B08, 31, 0⟩
/-- The key of THR_CFG (P.0B0A). -/
def K.THR_CFG : Nat := 0x0B0A
def P.THR_CFG.HYST : FieldRef := ⟨0x0B0A, 63, 32⟩
def P.THR_CFG.EN_HI : FieldRef := ⟨0x0B0A, 1, 1⟩
def P.THR_CFG.EN_LO : FieldRef := ⟨0x0B0A, 0, 0⟩
/-- The key of IMP_CFG (P.0B0C). -/
def K.IMP_CFG : Nat := 0x0B0C
def P.IMP_CFG.IMP_PERIOD : FieldRef := ⟨0x0B0C, 57, 48⟩
def P.IMP_CFG.IMP_CYC : FieldRef := ⟨0x0B0C, 45, 40⟩
def P.IMP_CFG.IMP_AMP : FieldRef := ⟨0x0B0C, 36, 32⟩
def P.IMP_CFG.IMP_FREQ : FieldRef := ⟨0x0B0C, 23, 16⟩
def P.IMP_CFG.IMP_EN : FieldRef := ⟨0x0B0C, 1, 0⟩
/-- The key of IMP_LIMITS (P.0B0D). -/
def K.IMP_LIMITS : Nat := 0x0B0D
def P.IMP_LIMITS.IMP_HI : FieldRef := ⟨0x0B0D, 63, 32⟩
def P.IMP_LIMITS.IMP_LO : FieldRef := ⟨0x0B0D, 31, 0⟩
/-- The key of IMP_RESULT (P.0B0E). -/
def K.IMP_RESULT : Nat := 0x0B0E
def P.IMP_RESULT.Z_N : FieldRef := ⟨0x0B0E, 63, 32⟩
def P.IMP_RESULT.Z_P : FieldRef := ⟨0x0B0E, 31, 0⟩
/-- The key of RES_HDR (P.0B10). -/
def K.RES_HDR : Nat := 0x0B10
def P.RES_HDR.SEQ : FieldRef := ⟨0x0B10, 63, 48⟩
def P.RES_HDR.STATE : FieldRef := ⟨0x0B10, 47, 46⟩
def P.RES_HDR.CAUSE : FieldRef := ⟨0x0B10, 43, 40⟩
def P.RES_HDR.INVALID : FieldRef := ⟨0x0B10, 39, 39⟩
def P.RES_HDR.RANGE_TRANS : FieldRef := ⟨0x0B10, 38, 38⟩
def P.RES_HDR.UNSETTLED : FieldRef := ⟨0x0B10, 37, 37⟩
def P.RES_HDR.RANGE : FieldRef := ⟨0x0B10, 35, 34⟩
def P.RES_HDR.PRESET : FieldRef := ⟨0x0B10, 33, 32⟩
def P.RES_HDR.T_N : FieldRef := ⟨0x0B10, 31, 0⟩
/-- The key of RES_VAL (P.0B11). -/
def K.RES_VAL : Nat := 0x0B11
def P.RES_VAL.Q : FieldRef := ⟨0x0B11, 63, 32⟩
def P.RES_VAL.CODE : FieldRef := ⟨0x0B11, 23, 0⟩
/-- The key of FE_FLAGS (P.0B14). -/
def K.FE_FLAGS : Nat := 0x0B14
def P.FE_FLAGS.THR_SEEN : FieldRef := ⟨0x0B14, 23, 20⟩
def P.FE_FLAGS.NONFINITE_SEEN : FieldRef := ⟨0x0B14, 19, 18⟩
def P.FE_FLAGS.EXC_FAULT : FieldRef := ⟨0x0B14, 17, 16⟩
def P.FE_FLAGS.OVERLOAD_SEEN : FieldRef := ⟨0x0B14, 15, 14⟩
def P.FE_FLAGS.IMP_FAULT : FieldRef := ⟨0x0B14, 7, 0⟩
/-- The key of FE_COUNTS (P.0B15). -/
def K.FE_COUNTS : Nat := 0x0B15
def P.FE_COUNTS.RANGE_CHANGES1 : FieldRef := ⟨0x0B15, 63, 48⟩
def P.FE_COUNTS.RANGE_CHANGES0 : FieldRef := ⟨0x0B15, 47, 32⟩
def P.FE_COUNTS.OVERLOADS1 : FieldRef := ⟨0x0B15, 31, 16⟩
def P.FE_COUNTS.OVERLOADS0 : FieldRef := ⟨0x0B15, 15, 0⟩
/-- The key of LIN (P.0B22). -/
def K.LIN : Nat := 0x0B22
def P.LIN.C_ODD : FieldRef := ⟨0x0B22, 63, 32⟩
def P.LIN.C_EVEN : FieldRef := ⟨0x0B22, 31, 0⟩
/-- The key of LIN_CTRL (P.0B2C). -/
def K.LIN_CTRL : Nat := 0x0B2C
def P.LIN_CTRL.TCONST : FieldRef := ⟨0x0B2C, 63, 32⟩
def P.LIN_CTRL.COMMIT : FieldRef := ⟨0x0B2C, 1, 0⟩
/-- The key of FOUT_CFG (P.0B40). -/
def K.FOUT_CFG : Nat := 0x0B40
def P.FOUT_CFG.OUT1 : FieldRef := ⟨0x0B40, 63, 48⟩
def P.FOUT_CFG.OUT0 : FieldRef := ⟨0x0B40, 47, 32⟩
def P.FOUT_CFG.CARRIER : FieldRef := ⟨0x0B40, 31, 16⟩
def P.FOUT_CFG.PADDOCK : FieldRef := ⟨0x0B40, 11, 8⟩
def P.FOUT_CFG.SRC : FieldRef := ⟨0x0B40, 5, 3⟩
def P.FOUT_CFG.MODE : FieldRef := ⟨0x0B40, 1, 0⟩
/-- The key of FOUT_MAP (P.0B42). -/
def K.FOUT_MAP : Nat := 0x0B42
def P.FOUT_MAP.X1 : FieldRef := ⟨0x0B42, 63, 32⟩
def P.FOUT_MAP.X0 : FieldRef := ⟨0x0B42, 31, 0⟩
/-- The key of HK_CTRL (P.0C00). -/
def K.HK_CTRL : Nat := 0x0C00
def P.HK_CTRL.LP : FieldRef := ⟨0x0C00, 11, 8⟩
def P.HK_CTRL.EN3 : FieldRef := ⟨0x0C00, 3, 3⟩
def P.HK_CTRL.EN : FieldRef := ⟨0x0C00, 2, 0⟩
/-- The key of HK_SEQ (P.0C01). -/
def K.HK_SEQ : Nat := 0x0C01
def P.HK_SEQ.LEN : FieldRef := ⟨0x0C01, 63, 60⟩
def P.HK_SEQ.SLOT : FieldRef := ⟨0x0C01, 4, 0⟩
/-- The key of ACC_CFG (P.0C10). -/
def K.ACC_CFG : Nat := 0x0C10
def P.ACC_CFG.HIGH : FieldRef := ⟨0x0C10, 63, 48⟩
def P.ACC_CFG.LOW : FieldRef := ⟨0x0C10, 47, 32⟩
def P.ACC_CFG.HYST : FieldRef := ⟨0x0C10, 31, 20⟩
def P.ACC_CFG.LOG2N : FieldRef := ⟨0x0C10, 19, 16⟩
def P.ACC_CFG.CH : FieldRef := ⟨0x0C10, 12, 8⟩
def P.ACC_CFG.CONV : FieldRef := ⟨0x0C10, 5, 4⟩
def P.ACC_CFG.EN : FieldRef := ⟨0x0C10, 0, 0⟩
/-- The key of ACC_SEL (P.0C50). -/
def K.ACC_SEL : Nat := 0x0C50
def P.ACC_SEL.CLR_MINMAX : FieldRef := ⟨0x0C50, 8, 8⟩
def P.ACC_SEL.ACC : FieldRef := ⟨0x0C50, 5, 0⟩
/-- The key of ACC_VIEW (P.0C51). -/
def K.ACC_VIEW : Nat := 0x0C51
def P.ACC_VIEW.MEAN : FieldRef := ⟨0x0C51, 63, 48⟩
def P.ACC_VIEW.MIN : FieldRef := ⟨0x0C51, 47, 32⟩
def P.ACC_VIEW.MAX : FieldRef := ⟨0x0C51, 31, 16⟩
def P.ACC_VIEW.VALID : FieldRef := ⟨0x0C51, 15, 15⟩
def P.ACC_VIEW.STATE : FieldRef := ⟨0x0C51, 14, 13⟩
def P.ACC_VIEW.LEAVES : FieldRef := ⟨0x0C51, 12, 0⟩
/-- The key of HK_LEFT (P.0C52). -/
def K.HK_LEFT : Nat := 0x0C52
def P.HK_LEFT.LEFT : FieldRef := ⟨0x0C52, 63, 0⟩
/-- The key of CAL_CTRL (P.0D00). -/
def K.CAL_CTRL : Nat := 0x0D00
def P.CAL_CTRL.RUN_REQ : FieldRef := ⟨0x0D00, 48, 48⟩
def P.CAL_CTRL.ANG_EN : FieldRef := ⟨0x0D00, 40, 40⟩
def P.CAL_CTRL.CD_LOG2 : FieldRef := ⟨0x0D00, 36, 32⟩
def P.CAL_CTRL.RERUN_MAX : FieldRef := ⟨0x0D00, 31, 20⟩
def P.CAL_CTRL.RERUN_DELTA : FieldRef := ⟨0x0D00, 12, 8⟩
def P.CAL_CTRL.AUTO_RERUN : FieldRef := ⟨0x0D00, 0, 0⟩
/-- The key of CAL_LIMITS (P.0D01). -/
def K.CAL_LIMITS : Nat := 0x0D01
def P.CAL_LIMITS.SKEW_STEP : FieldRef := ⟨0x0D01, 63, 48⟩
def P.CAL_LIMITS.FTE_MAX : FieldRef := ⟨0x0D01, 47, 40⟩
def P.CAL_LIMITS.FTE_MIN : FieldRef := ⟨0x0D01, 39, 32⟩
def P.CAL_LIMITS.FTE_DEFAULT : FieldRef := ⟨0x0D01, 31, 24⟩
def P.CAL_LIMITS.ANG_EDGES : FieldRef := ⟨0x0D01, 23, 8⟩
def P.CAL_LIMITS.MISSING_MAX : FieldRef := ⟨0x0D01, 3, 0⟩
/-- The key of TPL_CAL (P.0D02). -/
def K.TPL_CAL : Nat := 0x0D02
def P.TPL_CAL.TPL_REFIT : FieldRef := ⟨0x0D02, 41, 32⟩
def P.TPL_CAL.TPL_MIN_N : FieldRef := ⟨0x0D02, 20, 16⟩
def P.TPL_CAL.TPL_LOG2 : FieldRef := ⟨0x0D02, 3, 0⟩
/-- The key of CAL_STATUS (P.0D04). -/
def K.CAL_STATUS : Nat := 0x0D04
def P.CAL_STATUS.LAST_FRAME : FieldRef := ⟨0x0D04, 63, 32⟩
def P.CAL_STATUS.RUNS : FieldRef := ⟨0x0D04, 31, 16⟩
def P.CAL_STATUS.STARTUP_DONE : FieldRef := ⟨0x0D04, 4, 4⟩
def P.CAL_STATUS.CAUSE : FieldRef := ⟨0x0D04, 3, 2⟩
def P.CAL_STATUS.PENDING : FieldRef := ⟨0x0D04, 1, 1⟩
def P.CAL_STATUS.RUNNING : FieldRef := ⟨0x0D04, 0, 0⟩
/-- The key of CAL_FLAGS (P.0D05). -/
def K.CAL_FLAGS : Nat := 0x0D05
def P.CAL_FLAGS.PATH_FAIL : FieldRef := ⟨0x0D05, 6, 6⟩
def P.CAL_FLAGS.TPL_FAIL : FieldRef := ⟨0x0D05, 5, 5⟩
def P.CAL_FLAGS.ANG_FAIL : FieldRef := ⟨0x0D05, 4, 4⟩
def P.CAL_FLAGS.FTE_FAIL : FieldRef := ⟨0x0D05, 3, 3⟩
def P.CAL_FLAGS.SKEW_FAIL : FieldRef := ⟨0x0D05, 2, 2⟩
def P.CAL_FLAGS.TDC_FAIL : FieldRef := ⟨0x0D05, 1, 1⟩
def P.CAL_FLAGS.SEL_FAIL : FieldRef := ⟨0x0D05, 0, 0⟩
/-- The key of CAL_QUALITY (P.0D06). -/
def K.CAL_QUALITY : Nat := 0x0D06
def P.CAL_QUALITY.TDC_RES : FieldRef := ⟨0x0D06, 63, 48⟩
def P.CAL_QUALITY.SKEW_RES : FieldRef := ⟨0x0D06, 47, 32⟩
def P.CAL_QUALITY.ANG_RES : FieldRef := ⟨0x0D06, 31, 16⟩
def P.CAL_QUALITY.TPL_FIT : FieldRef := ⟨0x0D06, 15, 0⟩
/-- The key of FTE_DELAY (P.0D08). -/
def K.FTE_DELAY : Nat := 0x0D08
def P.FTE_DELAY.DELAY : FieldRef := ⟨0x0D08, 15, 0⟩
/-- The key of ANG_VIEW (P.0D0C). -/
def K.ANG_VIEW : Nat := 0x0D0C
def P.ANG_VIEW.LAG : FieldRef := ⟨0x0D0C, 63, 32⟩
def P.ANG_VIEW.EDGES : FieldRef := ⟨0x0D0C, 31, 16⟩
/-- The key of SET_VALID (P.0D0D). -/
def K.SET_VALID : Nat := 0x0D0D
def P.SET_VALID.VALID : FieldRef := ⟨0x0D0D, 39, 0⟩
/-- The key of CAL_COUNTS (P.0D0E). -/
def K.CAL_COUNTS : Nat := 0x0D0E
def P.CAL_COUNTS.ITEM_FAILS : FieldRef := ⟨0x0D0E, 63, 32⟩
def P.CAL_COUNTS.PATH_FAILS : FieldRef := ⟨0x0D0E, 31, 0⟩
/-- The key of PD_CTRL (P.0E00). -/
def K.PD_CTRL : Nat := 0x0E00
def P.PD_CTRL.SAFE_RESET : FieldRef := ⟨0x0E00, 48, 48⟩
def P.PD_CTRL.BLIND_COLS : FieldRef := ⟨0x0E00, 47, 40⟩
def P.PD_CTRL.HALTER_S : FieldRef := ⟨0x0E00, 31, 27⟩
def P.PD_CTRL.CLEAR_FRAMES : FieldRef := ⟨0x0E00, 23, 20⟩
def P.PD_CTRL.CMP_FRAMES : FieldRef := ⟨0x0E00, 19, 16⟩
def P.PD_CTRL.CMP_TOL : FieldRef := ⟨0x0E00, 7, 0⟩
/-- The key of PD_GEOM (P.0E01). -/
def K.PD_GEOM : Nat := 0x0E01
def P.PD_GEOM.SPREAD_MAX16 : FieldRef := ⟨0x0E01, 47, 32⟩
def P.PD_GEOM.MOUNT_Z : FieldRef := ⟨0x0E01, 31, 16⟩
def P.PD_GEOM.PD_NEAR_MM : FieldRef := ⟨0x0E01, 9, 0⟩
/-- The key of SIO_CFG (P.0E02). -/
def K.SIO_CFG : Nat := 0x0E02
def P.SIO_CFG.SAFE_VAL : FieldRef := ⟨0x0E02, 63, 56⟩
def P.SIO_CFG.PAIR : FieldRef := ⟨0x0E02, 55, 52⟩
def P.SIO_CFG.DISC_MS : FieldRef := ⟨0x0E02, 40, 32⟩
def P.SIO_CFG.TPS_SEL : FieldRef := ⟨0x0E02, 31, 16⟩
def P.SIO_CFG.IN_FILTER : FieldRef := ⟨0x0E02, 12, 8⟩
def P.SIO_CFG.OUT_TP : FieldRef := ⟨0x0E02, 7, 0⟩
/-- The key of SAFETY_STATUS (P.0E03). -/
def K.SAFETY_STATUS : Nat := 0x0E03
def P.SAFETY_STATUS.IN_VAL : FieldRef := ⟨0x0E03, 63, 56⟩
def P.SAFETY_STATUS.IN_FAULT : FieldRef := ⟨0x0E03, 55, 48⟩
def P.SAFETY_STATUS.OUT_FAULT : FieldRef := ⟨0x0E03, 43, 42⟩
def P.SAFETY_STATUS.OUT_ON : FieldRef := ⟨0x0E03, 41, 40⟩
def P.SAFETY_STATUS.SAFE_CAUSE : FieldRef := ⟨0x0E03, 37, 32⟩
def P.SAFETY_STATUS.HALTER_MS : FieldRef := ⟨0x0E03, 31, 16⟩
def P.SAFETY_STATUS.INTERVAL_MERGED : FieldRef := ⟨0x0E03, 1, 1⟩
def P.SAFETY_STATUS.DEGRADED_COV : FieldRef := ⟨0x0E03, 0, 0⟩
/-- The key of PD_STATE (P.0E04). -/
def K.PD_STATE : Nat := 0x0E04
def P.PD_STATE.COVERAGE : FieldRef := ⟨0x0E04, 3, 2⟩
def P.PD_STATE.VERDICT : FieldRef := ⟨0x0E04, 1, 0⟩
/-- The key of SAFETY_FLAGS (P.0E05). -/
def K.SAFETY_FLAGS : Nat := 0x0E05
def P.SAFETY_FLAGS.SAFE_SEEN : FieldRef := ⟨0x0E05, 43, 43⟩
def P.SAFETY_FLAGS.COMPARE_SEEN : FieldRef := ⟨0x0E05, 42, 42⟩
def P.SAFETY_FLAGS.OUT_FAULT_SEEN : FieldRef := ⟨0x0E05, 41, 40⟩
def P.SAFETY_FLAGS.IN_FAULT_SEEN : FieldRef := ⟨0x0E05, 39, 32⟩
def P.SAFETY_FLAGS.INTRUSION_SEEN : FieldRef := ⟨0x0E05, 31, 16⟩
def P.SAFETY_FLAGS.HALTER_SEEN : FieldRef := ⟨0x0E05, 15, 0⟩
/-- The key of SAFETY_COUNTS (P.0E06). -/
def K.SAFETY_COUNTS : Nat := 0x0E06
def P.SAFETY_COUNTS.MISMATCH_FRAMES : FieldRef := ⟨0x0E06, 63, 48⟩
def P.SAFETY_COUNTS.HALTER_ENTRIES : FieldRef := ⟨0x0E06, 47, 32⟩
def P.SAFETY_COUNTS.SAFE_ENTRIES : FieldRef := ⟨0x0E06, 31, 16⟩
def P.SAFETY_COUNTS.SELFTEST_FAILS : FieldRef := ⟨0x0E06, 15, 0⟩
/-- The key of PD_CFG (P.0E10). -/
def K.PD_CFG : Nat := 0x0E10
def P.PD_CFG.Z_HI : FieldRef := ⟨0x0E10, 63, 48⟩
def P.PD_CFG.Z_LO : FieldRef := ⟨0x0E10, 47, 32⟩
def P.PD_CFG.MIN_POINTS : FieldRef := ⟨0x0E10, 31, 24⟩
def P.PD_CFG.NV : FieldRef := ⟨0x0E10, 13, 8⟩
def P.PD_CFG.BUSY : FieldRef := ⟨0x0E10, 1, 1⟩
def P.PD_CFG.EN : FieldRef := ⟨0x0E10, 0, 0⟩
/-- The key of PD_ACT (P.0E20). -/
def K.PD_ACT : Nat := 0x0E20
def P.PD_ACT.BANK_MASK : FieldRef := ⟨0x0E20, 63, 48⟩
def P.PD_ACT.OUT_MAP : FieldRef := ⟨0x0E20, 41, 40⟩
def P.PD_ACT.ACT_VALUE : FieldRef := ⟨0x0E20, 15, 8⟩
def P.PD_ACT.ACT_MASK : FieldRef := ⟨0x0E20, 7, 0⟩
/-- The key of VTX_STAGE (P.0E30). -/
def K.VTX_STAGE : Nat := 0x0E30
def P.VTX_STAGE.Y1 : FieldRef := ⟨0x0E30, 63, 48⟩
def P.VTX_STAGE.X1 : FieldRef := ⟨0x0E30, 47, 32⟩
def P.VTX_STAGE.Y0 : FieldRef := ⟨0x0E30, 31, 16⟩
def P.VTX_STAGE.X0 : FieldRef := ⟨0x0E30, 15, 0⟩
/-- The key of PD_COMMIT (P.0E40). -/
def K.PD_COMMIT : Nat := 0x0E40
def P.PD_COMMIT.NV : FieldRef := ⟨0x0E40, 13, 8⟩
def P.PD_COMMIT.PADDOCK : FieldRef := ⟨0x0E40, 3, 0⟩
/-- The key of PD_NEAR (P.0E48). -/
def K.PD_NEAR : Nat := 0x0E48
def P.PD_NEAR.NEAR : FieldRef := ⟨0x0E48, 15, 0⟩
/-- The key of PD_CRC (P.0E50). -/
def K.PD_CRC : Nat := 0x0E50
def P.PD_CRC.CRC : FieldRef := ⟨0x0E50, 31, 0⟩
/-- The key of ROW_EL (P.0E80). -/
def K.ROW_EL : Nat := 0x0E80
def P.ROW_EL.EL : FieldRef := ⟨0x0E80, 15, 0⟩
/-- The key of BR_CFG (P.0F00). -/
def K.BR_CFG : Nat := 0x0F00
def P.BR_CFG.BR_ID : FieldRef := ⟨0x0F00, 63, 32⟩
def P.BR_CFG.RECOVER_N : FieldRef := ⟨0x0F00, 27, 24⟩
def P.BR_CFG.SEQ_WIN : FieldRef := ⟨0x0F00, 23, 16⟩
def P.BR_CFG.AGE_MS : FieldRef := ⟨0x0F00, 15, 8⟩
/-- The key of BR_WIN (P.0F01). -/
def K.BR_WIN : Nat := 0x0F01
def P.BR_WIN.BASE : FieldRef := ⟨0x0F01, 63, 12⟩
def P.BR_WIN.LOG2_SLOTS : FieldRef := ⟨0x0F01, 10, 8⟩
def P.BR_WIN.WIN_EN : FieldRef := ⟨0x0F01, 0, 0⟩
/-- The key of BR_SRC (P.0F10). -/
def K.BR_SRC : Nat := 0x0F10
def P.BR_SRC.ID : FieldRef := ⟨0x0F10, 63, 32⟩
def P.BR_SRC.WDOG_MS : FieldRef := ⟨0x0F10, 23, 16⟩
def P.BR_SRC.STATE : FieldRef := ⟨0x0F10, 9, 8⟩
def P.BR_SRC.PATH : FieldRef := ⟨0x0F10, 4, 4⟩
def P.BR_SRC.AUTO : FieldRef := ⟨0x0F10, 2, 2⟩
def P.BR_SRC.TIMED : FieldRef := ⟨0x0F10, 1, 1⟩
def P.BR_SRC.EN : FieldRef := ⟨0x0F10, 0, 0⟩
/-- The key of BR_FLAGS (P.0F20). -/
def K.BR_FLAGS : Nat := 0x0F20
def P.BR_FLAGS.RX_ERR_SEEN : FieldRef := ⟨0x0F20, 16, 16⟩
def P.BR_FLAGS.SRC_LOST_SEEN : FieldRef := ⟨0x0F20, 15, 0⟩
/-- The key of BR_RX_COUNTS (P.0F21). -/
def K.BR_RX_COUNTS : Nat := 0x0F21
def P.BR_RX_COUNTS.CRC_ERR : FieldRef := ⟨0x0F21, 63, 48⟩
def P.BR_RX_COUNTS.ADDR_ERR : FieldRef := ⟨0x0F21, 47, 32⟩
def P.BR_RX_COUNTS.FORMAT_ERR : FieldRef := ⟨0x0F21, 31, 16⟩
def P.BR_RX_COUNTS.TIME_ERR : FieldRef := ⟨0x0F21, 15, 0⟩
/-- The key of BR_TX_COUNTS (P.0F22). -/
def K.BR_TX_COUNTS : Nat := 0x0F22
def P.BR_TX_COUNTS.SEQ_ERR : FieldRef := ⟨0x0F22, 63, 48⟩
def P.BR_TX_COUNTS.DUP : FieldRef := ⟨0x0F22, 47, 32⟩
def P.BR_TX_COUNTS.LOST_FRAMES : FieldRef := ⟨0x0F22, 31, 16⟩
def P.BR_TX_COUNTS.TX_FRAMES : FieldRef := ⟨0x0F22, 15, 0⟩
/-- The key of HITCH_CTRL (P.1000). -/
def K.HITCH_CTRL : Nat := 0x1000
def P.HITCH_CTRL.LEAD_PRIO : FieldRef := ⟨0x1000, 43, 40⟩
def P.HITCH_CTRL.MAX_HOPS : FieldRef := ⟨0x1000, 35, 33⟩
def P.HITCH_CTRL.TEAM_AUTH : FieldRef := ⟨0x1000, 32, 32⟩
def P.HITCH_CTRL.BOND : FieldRef := ⟨0x1000, 19, 16⟩
def P.HITCH_CTRL.TEAM_EN : FieldRef := ⟨0x1000, 15, 15⟩
def P.HITCH_CTRL.AUTO_ALIGN : FieldRef := ⟨0x1000, 8, 8⟩
def P.HITCH_CTRL.LANE_EN : FieldRef := ⟨0x1000, 7, 0⟩
/-- The key of HITCH_CMD (P.1001). -/
def K.HITCH_CMD : Nat := 0x1001
def P.HITCH_CMD.LEAVE : FieldRef := ⟨0x1001, 16, 16⟩
def P.HITCH_CMD.LANE : FieldRef := ⟨0x1001, 10, 8⟩
def P.HITCH_CMD.SLIP : FieldRef := ⟨0x1001, 0, 0⟩
/-- The key of LANE_STATUS (P.1008). -/
def K.LANE_STATUS : Nat := 0x1008
def P.LANE_STATUS.DETACHES : FieldRef := ⟨0x1008, 63, 48⟩
def P.LANE_STATUS.SLIPS : FieldRef := ⟨0x1008, 47, 42⟩
def P.LANE_STATUS.ALIGN_FAILS : FieldRef := ⟨0x1008, 41, 38⟩
def P.LANE_STATUS.STANDBY : FieldRef := ⟨0x1008, 37, 37⟩
def P.LANE_STATUS.BONDED : FieldRef := ⟨0x1008, 36, 36⟩
def P.LANE_STATUS.FROZEN : FieldRef := ⟨0x1008, 35, 35⟩
def P.LANE_STATUS.LOCK : FieldRef := ⟨0x1008, 34, 34⟩
def P.LANE_STATUS.PEER_LANE : FieldRef := ⟨0x1008, 33, 31⟩
def P.LANE_STATUS.PEER_SLOT : FieldRef := ⟨0x1008, 6, 3⟩
def P.LANE_STATUS.STATE : FieldRef := ⟨0x1008, 2, 0⟩
/-- The key of LANE_CFG (P.1010). -/
def K.LANE_CFG : Nat := 0x1010
def P.LANE_CFG.ASYM : FieldRef := ⟨0x1010, 63, 48⟩
def P.LANE_CFG.TX_DEEMPH : FieldRef := ⟨0x1010, 11, 8⟩
def P.LANE_CFG.TX_SWING : FieldRef := ⟨0x1010, 3, 0⟩
/-- The key of EYE_CTRL (P.1018). -/
def K.EYE_CTRL : Nat := 0x1018
def P.EYE_CTRL.DWELL : FieldRef := ⟨0x1018, 37, 32⟩
def P.EYE_CTRL.PHASE : FieldRef := ⟨0x1018, 21, 16⟩
def P.EYE_CTRL.VOLT : FieldRef := ⟨0x1018, 14, 8⟩
def P.EYE_CTRL.LANE : FieldRef := ⟨0x1018, 4, 2⟩
def P.EYE_CTRL.BUSY : FieldRef := ⟨0x1018, 1, 1⟩
def P.EYE_CTRL.START : FieldRef := ⟨0x1018, 0, 0⟩
/-- The key of EYE_RESULT (P.1019). -/
def K.EYE_RESULT : Nat := 0x1019
def P.EYE_RESULT.SEQ : FieldRef := ⟨0x1019, 63, 48⟩
def P.EYE_RESULT.STATE : FieldRef := ⟨0x1019, 47, 46⟩
def P.EYE_RESULT.FROZEN_MARK : FieldRef := ⟨0x1019, 45, 45⟩
def P.EYE_RESULT.DWELL_CUT : FieldRef := ⟨0x1019, 44, 44⟩
def P.EYE_RESULT.ERRORS : FieldRef := ⟨0x1019, 39, 0⟩
/-- The key of TEAM_STATUS (P.1020). -/
def K.TEAM_STATUS : Nat := 0x1020
def P.TEAM_STATUS.ROLE : FieldRef := ⟨0x1020, 63, 62⟩
def P.TEAM_STATUS.TEAM_SIZE : FieldRef := ⟨0x1020, 56, 52⟩
def P.TEAM_STATUS.OWN_SLOT : FieldRef := ⟨0x1020, 51, 48⟩
def P.TEAM_STATUS.HOPS : FieldRef := ⟨0x1020, 47, 45⟩
def P.TEAM_STATUS.PARENT_LANE : FieldRef := ⟨0x1020, 34, 32⟩
def P.TEAM_STATUS.LOCKED : FieldRef := ⟨0x1020, 0, 0⟩
/-- The key of LEAD_ID (P.1021). -/
def K.LEAD_ID : Nat := 0x1021
def P.LEAD_ID.LEAD_ID : FieldRef := ⟨0x1021, 63, 0⟩
/-- The key of SLOT_ID (P.1030). -/
def K.SLOT_ID : Nat := 0x1030
def P.SLOT_ID.DEV_ID : FieldRef := ⟨0x1030, 63, 0⟩
/-- The key of SLOT_STATE (P.1040). -/
def K.SLOT_STATE : Nat := 0x1040
def P.SLOT_STATE.STATE : FieldRef := ⟨0x1040, 31, 0⟩
/-- The key of TIME_STATUS (P.1041). -/
def K.TIME_STATUS : Nat := 0x1041
def P.TIME_STATUS.THETA : FieldRef := ⟨0x1041, 63, 32⟩
def P.TIME_STATUS.RATE : FieldRef := ⟨0x1041, 31, 0⟩
/-- The key of HITCH_FLAGS (P.1042). -/
def K.HITCH_FLAGS : Nat := 0x1042
def P.HITCH_FLAGS.TEAM_REFUSED : FieldRef := ⟨0x1042, 5, 5⟩
def P.HITCH_FLAGS.LEAD_CHANGED : FieldRef := ⟨0x1042, 4, 4⟩
def P.HITCH_FLAGS.TIME_STEPPED : FieldRef := ⟨0x1042, 3, 3⟩
def P.HITCH_FLAGS.AUTH_FAIL_SEEN : FieldRef := ⟨0x1042, 2, 2⟩
def P.HITCH_FLAGS.DETACH_SEEN : FieldRef := ⟨0x1042, 1, 1⟩
def P.HITCH_FLAGS.ADMITTED_SEEN : FieldRef := ⟨0x1042, 0, 0⟩
/-- The key of HITCH_COUNTS (P.1043). -/
def K.HITCH_COUNTS : Nat := 0x1043
def P.HITCH_COUNTS.CRC_ERRS : FieldRef := ⟨0x1043, 63, 48⟩
def P.HITCH_COUNTS.TAG_ERRS : FieldRef := ⟨0x1043, 47, 32⟩
def P.HITCH_COUNTS.AUTH_FAILS : FieldRef := ⟨0x1043, 31, 16⟩
def P.HITCH_COUNTS.TIME_MISSES : FieldRef := ⟨0x1043, 15, 0⟩
/-- The key of HITCH_FORMAT (P.1044). -/
def K.HITCH_FORMAT : Nat := 0x1044
def P.HITCH_FORMAT.FORMAT_ERRS : FieldRef := ⟨0x1044, 15, 0⟩
/-- The key of LINK_CTRL (P.1100). -/
def K.LINK_CTRL : Nat := 0x1100
def P.LINK_CTRL.LINK_UP : FieldRef := ⟨0x1100, 11, 11⟩
def P.LINK_CTRL.X8 : FieldRef := ⟨0x1100, 10, 10⟩
def P.LINK_CTRL.CUR_RATE : FieldRef := ⟨0x1100, 9, 8⟩
def P.LINK_CTRL.RETRAIN : FieldRef := ⟨0x1100, 4, 4⟩
def P.LINK_CTRL.TARGET_RATE : FieldRef := ⟨0x1100, 1, 0⟩
/-- The key of STU_CFG (P.1104). -/
def K.STU_CFG : Nat := 0x1104
def P.STU_CFG.WIN_LO : FieldRef := ⟨0x1104, 47, 21⟩
def P.STU_CFG.L1_LOG2 : FieldRef := ⟨0x1104, 12, 8⟩
def P.STU_CFG.EN : FieldRef := ⟨0x1104, 0, 0⟩
/-- The key of STU_L1_BASE (P.1105). -/
def K.STU_L1_BASE : Nat := 0x1105
def P.STU_L1_BASE.L1_BASE : FieldRef := ⟨0x1105, 51, 12⟩
/-- The key of STU_INV (P.1106). -/
def K.STU_INV : Nat := 0x1106
def P.STU_INV.VA : FieldRef := ⟨0x1106, 47, 12⟩
def P.STU_INV.BUSY : FieldRef := ⟨0x1106, 2, 2⟩
def P.STU_INV.ALL : FieldRef := ⟨0x1106, 1, 1⟩
def P.STU_INV.START : FieldRef := ⟨0x1106, 0, 0⟩
/-- The key of DMA_STATUS (P.1108). -/
def K.DMA_STATUS : Nat := 0x1108
def P.DMA_STATUS.REPEATS : FieldRef := ⟨0x1108, 63, 48⟩
def P.DMA_STATUS.FAULT_VA : FieldRef := ⟨0x1108, 47, 0⟩
/-- The key of DMA_CMD (P.1110). -/
def K.DMA_CMD : Nat := 0x1110
def P.DMA_CMD.ACTION : FieldRef := ⟨0x1110, 9, 8⟩
def P.DMA_CMD.CHANNEL : FieldRef := ⟨0x1110, 2, 0⟩
/-- The key of DMA_STATE (P.1111). -/
def K.DMA_STATE : Nat := 0x1111
def P.DMA_STATE.CAUSE : FieldRef := ⟨0x1111, 63, 32⟩
def P.DMA_STATE.BM_OFF : FieldRef := ⟨0x1111, 31, 24⟩
def P.DMA_STATE.STALLED : FieldRef := ⟨0x1111, 23, 16⟩
def P.DMA_STATE.XLATE_FAULT : FieldRef := ⟨0x1111, 7, 0⟩
/-- The key of STU_COUNTS (P.1112). -/
def K.STU_COUNTS : Nat := 0x1112
def P.STU_COUNTS.TLB_MISSES : FieldRef := ⟨0x1112, 63, 32⟩
def P.STU_COUNTS.FAULTS : FieldRef := ⟨0x1112, 31, 0⟩
/-- The key of DUMP_RING (P.1120). -/
def K.DUMP_RING : Nat := 0x1120
def P.DUMP_RING.BASE : FieldRef := ⟨0x1120, 47, 12⟩
def P.DUMP_RING.EN : FieldRef := ⟨0x1120, 5, 5⟩
def P.DUMP_RING.LOG2_SIZE : FieldRef := ⟨0x1120, 4, 0⟩
/-- The key of REC_RING (P.1124). -/
def K.REC_RING : Nat := 0x1124
def P.REC_RING.BASE : FieldRef := ⟨0x1124, 47, 12⟩
def P.REC_RING.EN : FieldRef := ⟨0x1124, 5, 5⟩
def P.REC_RING.LOG2_SIZE : FieldRef := ⟨0x1124, 4, 0⟩
/-- The key of RING_WB (P.1121). -/
def K.RING_WB : Nat := 0x1121
def P.RING_WB.WB_ADDR : FieldRef := ⟨0x1121, 63, 6⟩
/-- The key of RING_RD (P.1122). -/
def K.RING_RD_11 : Nat := 0x1122
def P.RING_RD_11.RD_OFF : FieldRef := ⟨0x1122, 63, 0⟩
/-- The key of RING_WR (P.1123). -/
def K.RING_WR_11 : Nat := 0x1123
def P.RING_WR_11.WR_OFF : FieldRef := ⟨0x1123, 63, 0⟩
/-- The key of SQ_CFG (P.1200). -/
def K.SQ_CFG : Nat := 0x1200
def P.SQ_CFG.BASE : FieldRef := ⟨0x1200, 47, 12⟩
def P.SQ_CFG.EN : FieldRef := ⟨0x1200, 4, 4⟩
def P.SQ_CFG.LOG2_ENTRIES : FieldRef := ⟨0x1200, 3, 0⟩
/-- The key of CQ_CFG (P.1201). -/
def K.CQ_CFG : Nat := 0x1201
def P.CQ_CFG.BASE : FieldRef := ⟨0x1201, 47, 12⟩
def P.CQ_CFG.EN : FieldRef := ⟨0x1201, 4, 4⟩
def P.CQ_CFG.LOG2_ENTRIES : FieldRef := ⟨0x1201, 3, 0⟩
/-- The key of CQ_NOTIFY (P.1202). -/
def K.CQ_NOTIFY : Nat := 0x1202
def P.CQ_NOTIFY.WB_ADDR : FieldRef := ⟨0x1202, 47, 6⟩
/-- The key of SQ_POS (P.1203). -/
def K.SQ_POS : Nat := 0x1203
def P.SQ_POS.SQ_WR : FieldRef := ⟨0x1203, 63, 32⟩
def P.SQ_POS.SQ_RD : FieldRef := ⟨0x1203, 31, 0⟩
/-- The key of CQ_POS (P.1204). -/
def K.CQ_POS : Nat := 0x1204
def P.CQ_POS.CQ_WR : FieldRef := ⟨0x1204, 63, 32⟩
def P.CQ_POS.CQ_RD : FieldRef := ⟨0x1204, 31, 0⟩
/-- The key of SALSOL_STATUS (P.1205). -/
def K.SALSOL_STATUS : Nat := 0x1205
def P.SALSOL_STATUS.EXEC_OPCODE : FieldRef := ⟨0x1205, 63, 48⟩
def P.SALSOL_STATUS.EXEC_TAG : FieldRef := ⟨0x1205, 47, 32⟩
def P.SALSOL_STATUS.OUTSTANDING : FieldRef := ⟨0x1205, 21, 16⟩
def P.SALSOL_STATUS.MB_STATE : FieldRef := ⟨0x1205, 3, 2⟩
def P.SALSOL_STATUS.FROM_MAILBOX : FieldRef := ⟨0x1205, 1, 1⟩
def P.SALSOL_STATUS.EXECUTING : FieldRef := ⟨0x1205, 0, 0⟩
/-- The key of BOOT_ID (P.1206). -/
def K.BOOT_ID : Nat := 0x1206
def P.BOOT_ID.BOOT_ID : FieldRef := ⟨0x1206, 63, 0⟩
/-- The key of KEY_STATE (P.1208). -/
def K.KEY_STATE : Nat := 0x1208
def P.KEY_STATE.ENROLLED : FieldRef := ⟨0x1208, 32, 32⟩
def P.KEY_STATE.LAST_COUNTER : FieldRef := ⟨0x1208, 31, 0⟩
/-- The key of SALSOL_COUNTS (P.120C). -/
def K.SALSOL_COUNTS : Nat := 0x120C
def P.SALSOL_COUNTS.EXECUTED : FieldRef := ⟨0x120C, 63, 32⟩
def P.SALSOL_COUNTS.ERRORS : FieldRef := ⟨0x120C, 31, 0⟩
/-- The key of SALSOL_FLAGS (P.120D). -/
def K.SALSOL_FLAGS : Nat := 0x120D
def P.SALSOL_FLAGS.AUTH_FAIL_SEEN : FieldRef := ⟨0x120D, 2, 2⟩
def P.SALSOL_FLAGS.PROTECTED_SEEN : FieldRef := ⟨0x120D, 1, 1⟩
def P.SALSOL_FLAGS.DOORBELL_ERR : FieldRef := ⟨0x120D, 0, 0⟩
/-- The key of EVOTH_XFER (P.1210). -/
def K.EVOTH_XFER : Nat := 0x1210
def P.EVOTH_XFER.TOTAL : FieldRef := ⟨0x1210, 63, 32⟩
def P.EVOTH_XFER.RECEIVED : FieldRef := ⟨0x1210, 31, 0⟩
/-- The key of DEV_ID (P.1300). -/
def K.DEV_ID : Nat := 0x1300
def P.DEV_ID.DEV_ID : FieldRef := ⟨0x1300, 63, 0⟩
/-- The key of ID_INFO (P.1301). -/
def K.ID_INFO : Nat := 0x1301
def P.ID_INFO.VENDOR_ID : FieldRef := ⟨0x1301, 63, 48⟩
def P.ID_INFO.STEP : FieldRef := ⟨0x1301, 47, 32⟩
def P.ID_INFO.ROOT_REVOKED : FieldRef := ⟨0x1301, 11, 8⟩
def P.ID_INFO.ID_OK : FieldRef := ⟨0x1301, 0, 0⟩
/-- The key of SERIAL (P.1302). -/
def K.SERIAL : Nat := 0x1302
def P.SERIAL.LOT : FieldRef := ⟨0x1302, 63, 32⟩
def P.SERIAL.WAFER : FieldRef := ⟨0x1302, 31, 24⟩
def P.SERIAL.DIE_X : FieldRef := ⟨0x1302, 23, 16⟩
def P.SERIAL.DIE_Y : FieldRef := ⟨0x1302, 15, 8⟩
/-- The key of FW_VERSION (P.1303). -/
def K.FW_VERSION : Nat := 0x1303
def P.FW_VERSION.VERSION : FieldRef := ⟨0x1303, 63, 0⟩
/-- The key of FW_STATUS (P.1304). -/
def K.FW_STATUS : Nat := 0x1304
def P.FW_STATUS.SVN_A : FieldRef := ⟨0x1304, 63, 56⟩
def P.FW_STATUS.SVN_B : FieldRef := ⟨0x1304, 55, 48⟩
def P.FW_STATUS.ROLLBACK : FieldRef := ⟨0x1304, 47, 40⟩
def P.FW_STATUS.B_BOOTABLE : FieldRef := ⟨0x1304, 9, 9⟩
def P.FW_STATUS.A_BOOTABLE : FieldRef := ⟨0x1304, 8, 8⟩
def P.FW_STATUS.RECOVERY : FieldRef := ⟨0x1304, 4, 4⟩
def P.FW_STATUS.PENDING : FieldRef := ⟨0x1304, 3, 3⟩
def P.FW_STATUS.TRIAL : FieldRef := ⟨0x1304, 2, 2⟩
def P.FW_STATUS.ACTIVE_BANK : FieldRef := ⟨0x1304, 1, 1⟩
def P.FW_STATUS.RUNNING_BANK : FieldRef := ⟨0x1304, 0, 0⟩
/-- The key of FW_CTRL (P.1305). -/
def K.FW_CTRL : Nat := 0x1305
def P.FW_CTRL.CONFIRM : FieldRef := ⟨0x1305, 0, 0⟩
/-- The key of TACK_STATUS (P.1306). -/
def K.TACK_STATUS : Nat := 0x1306
def P.TACK_STATUS.FAIL_ENTRY : FieldRef := ⟨0x1306, 63, 48⟩
def P.TACK_STATUS.CAUSE : FieldRef := ⟨0x1306, 7, 4⟩
def P.TACK_STATUS.TACK_DEFAULTED : FieldRef := ⟨0x1306, 0, 0⟩
/-- The key of TACK_LOADED_VER (P.1307). -/
def K.TACK_LOADED_VER : Nat := 0x1307
def P.TACK_LOADED_VER.VERSION : FieldRef := ⟨0x1307, 63, 0⟩
/-- The key of TACK_STORED_VER (P.1308). -/
def K.TACK_STORED_VER : Nat := 0x1308
def P.TACK_STORED_VER.VERSION : FieldRef := ⟨0x1308, 63, 0⟩
/-- The key of KEY_SUMMARY (P.1309). -/
def K.KEY_SUMMARY : Nat := 0x1309
def P.KEY_SUMMARY.TEAM_KEY : FieldRef := ⟨0x1309, 8, 8⟩
def P.KEY_SUMMARY.IMAGE_KEYS : FieldRef := ⟨0x1309, 7, 4⟩
def P.KEY_SUMMARY.CMD_KEYS : FieldRef := ⟨0x1309, 3, 0⟩
/-- The key of XFER (P.130A). -/
def K.XFER : Nat := 0x130A
def P.XFER.TOTAL : FieldRef := ⟨0x130A, 63, 32⟩
def P.XFER.RECEIVED : FieldRef := ⟨0x130A, 31, 0⟩
/-- The key of ID_FLAGS (P.130C). -/
def K.ID_FLAGS : Nat := 0x130C
def P.ID_FLAGS.TRIAL_FAILED : FieldRef := ⟨0x130C, 1, 1⟩
def P.ID_FLAGS.ENROLL_FAIL_SEEN : FieldRef := ⟨0x130C, 0, 0⟩
/-- The key of ATTEST_HDR (P.1310). -/
def K.ATTEST_HDR : Nat := 0x1310
def P.ATTEST_HDR.SEQ : FieldRef := ⟨0x1310, 63, 48⟩
def P.ATTEST_HDR.STATE : FieldRef := ⟨0x1310, 47, 46⟩
def P.ATTEST_HDR.REPORT_LEN : FieldRef := ⟨0x1310, 31, 0⟩
/-- The key of CLK_CTRL (P.1400). -/
def K.CLK_CTRL : Nat := 0x1400
def P.CLK_CTRL.PFD_MODE : FieldRef := ⟨0x1400, 1, 0⟩
/-- The key of CLK_STATUS (P.1401). -/
def K.CLK_STATUS : Nat := 0x1401
def P.CLK_STATUS.HOLD_MS : FieldRef := ⟨0x1401, 63, 32⟩
def P.CLK_STATUS.PFD_CUR : FieldRef := ⟨0x1401, 7, 6⟩
def P.CLK_STATUS.REF_PRESENT : FieldRef := ⟨0x1401, 5, 5⟩
def P.CLK_STATUS.PLL_STATE : FieldRef := ⟨0x1401, 2, 0⟩
/-- The key of PWR_CTRL (P.1402). -/
def K.PWR_CTRL : Nat := 0x1402
def P.PWR_CTRL.HITCH_OFF : FieldRef := ⟨0x1402, 33, 32⟩
def P.PWR_CTRL.HK_OFF : FieldRef := ⟨0x1402, 16, 16⟩
def P.PWR_CTRL.STATE : FieldRef := ⟨0x1402, 1, 0⟩
/-- The key of PWR_STATUS (P.1403). -/
def K.PWR_STATUS : Nat := 0x1403
def P.PWR_STATUS.STATE : FieldRef := ⟨0x1403, 63, 62⟩
def P.PWR_STATUS.TRANSITION : FieldRef := ⟨0x1403, 61, 61⟩
def P.PWR_STATUS.SRAM_RET : FieldRef := ⟨0x1403, 47, 36⟩
def P.PWR_STATUS.DOMAIN_ON : FieldRef := ⟨0x1403, 35, 0⟩
/-- The key of THERM_CFG (P.1408). -/
def K.THERM_CFG : Nat := 0x1408
def P.THERM_CFG.RATE_LIM : FieldRef := ⟨0x1408, 40, 32⟩
def P.THERM_CFG.RESUME_TEMP : FieldRef := ⟨0x1408, 23, 16⟩
def P.THERM_CFG.RATE_ARM : FieldRef := ⟨0x1408, 15, 8⟩
/-- The key of THERM_STATUS (P.1409). -/
def K.THERM_STATUS : Nat := 0x1409
def P.THERM_STATUS.MAX_MEAN : FieldRef := ⟨0x1409, 63, 48⟩
def P.THERM_STATUS.HOT_SENSOR : FieldRef := ⟨0x1409, 47, 44⟩
def P.THERM_STATUS.MAX_RATE : FieldRef := ⟨0x1409, 31, 16⟩
def P.THERM_STATUS.THERM_STATE : FieldRef := ⟨0x1409, 2, 0⟩
/-- The key of THERM_CTRL (P.140A). -/
def K.THERM_CTRL : Nat := 0x140A
def P.THERM_CTRL.RESUME : FieldRef := ⟨0x140A, 0, 0⟩
/-- The key of THERM_LOG (P.140B). -/
def K.THERM_LOG : Nat := 0x140B
def P.THERM_LOG.TIME : FieldRef := ⟨0x140B, 63, 32⟩
def P.THERM_LOG.CAUSE : FieldRef := ⟨0x140B, 31, 28⟩
def P.THERM_LOG.SENSOR : FieldRef := ⟨0x140B, 27, 24⟩
def P.THERM_LOG.MEAN : FieldRef := ⟨0x140B, 23, 8⟩
/-- The key of CLK_THERM_FLAGS (P.140C). -/
def K.CLK_THERM_FLAGS : Nat := 0x140C
def P.CLK_THERM_FLAGS.RELOCKED_SEEN : FieldRef := ⟨0x140C, 5, 5⟩
def P.CLK_THERM_FLAGS.REF_LOST_SEEN : FieldRef := ⟨0x140C, 4, 4⟩
def P.CLK_THERM_FLAGS.CUT_SEEN : FieldRef := ⟨0x140C, 3, 3⟩
def P.CLK_THERM_FLAGS.STOP_SEEN : FieldRef := ⟨0x140C, 2, 2⟩
def P.CLK_THERM_FLAGS.RATE_SEEN : FieldRef := ⟨0x140C, 1, 1⟩
def P.CLK_THERM_FLAGS.WARN_SEEN : FieldRef := ⟨0x140C, 0, 0⟩
/-- The key of RESET_CTRL (P.1500). -/
def K.RESET_CTRL : Nat := 0x1500
def P.RESET_CTRL.CTRL_RESTART : FieldRef := ⟨0x1500, 48, 48⟩
def P.RESET_CTRL.FAULTN_MASK : FieldRef := ⟨0x1500, 11, 0⟩
/-- The key of RESET_STATUS (P.1501). -/
def K.RESET_STATUS : Nat := 0x1501
def P.RESET_STATUS.CTRL_RESTARTS : FieldRef := ⟨0x1501, 63, 48⟩
def P.RESET_STATUS.LAST_CAUSE : FieldRef := ⟨0x1501, 35, 34⟩
def P.RESET_STATUS.START_LATCH : FieldRef := ⟨0x1501, 32, 32⟩
def P.RESET_STATUS.UPTIME_MS : FieldRef := ⟨0x1501, 31, 0⟩
/-- The key of FAULT_ACTIVE (P.1502). -/
def K.FAULT_ACTIVE : Nat := 0x1502
def P.FAULT_ACTIVE.ACTIVE : FieldRef := ⟨0x1502, 11, 0⟩
/-- The key of FAULT_LOG_STATUS (P.1503). -/
def K.FAULT_LOG_STATUS : Nat := 0x1503
def P.FAULT_LOG_STATUS.NEXT_SEQ : FieldRef := ⟨0x1503, 63, 32⟩
def P.FAULT_LOG_STATUS.OVERWRITTEN : FieldRef := ⟨0x1503, 31, 16⟩
def P.FAULT_LOG_STATUS.NOTICE_OVERFLOWS : FieldRef := ⟨0x1503, 15, 0⟩
/-- The key of EVENT_RING (P.1508). -/
def K.EVENT_RING : Nat := 0x1508
def P.EVENT_RING.BASE : FieldRef := ⟨0x1508, 47, 12⟩
def P.EVENT_RING.EN : FieldRef := ⟨0x1508, 5, 5⟩
def P.EVENT_RING.LOG2_SIZE : FieldRef := ⟨0x1508, 4, 0⟩
/-- The key of EVENT_WB (P.1509). -/
def K.EVENT_WB : Nat := 0x1509
def P.EVENT_WB.WB_ADDR : FieldRef := ⟨0x1509, 47, 6⟩
/-- The key of EVENT_RD (P.150A). -/
def K.EVENT_RD : Nat := 0x150A
def P.EVENT_RD.RD_OFF : FieldRef := ⟨0x150A, 63, 0⟩
/-- The key of EVENT_WR (P.150B). -/
def K.EVENT_WR : Nat := 0x150B
def P.EVENT_WR.WR_OFF : FieldRef := ⟨0x150B, 63, 0⟩
/-- The key of FLAG_SEL (P.1510). -/
def K.FLAG_SEL : Nat := 0x1510
def P.FLAG_SEL.BIT : FieldRef := ⟨0x1510, 21, 16⟩
def P.FLAG_SEL.KEY : FieldRef := ⟨0x1510, 15, 0⟩
/-- The key of FLAG_VIEW (P.1511). -/
def K.FLAG_VIEW : Nat := 0x1511
def P.FLAG_VIEW.LEVEL : FieldRef := ⟨0x1511, 32, 32⟩
def P.FLAG_VIEW.COINC : FieldRef := ⟨0x1511, 31, 16⟩
def P.FLAG_VIEW.SET_COUNT : FieldRef := ⟨0x1511, 15, 0⟩
/-- The key of DCL_CFG (P.1600). -/
def K.DCL_CFG : Nat := 0x1600
def P.DCL_CFG.SYNC_TURN : FieldRef := ⟨0x1600, 4, 4⟩
def P.DCL_CFG.EN : FieldRef := ⟨0x1600, 3, 0⟩
/-- The key of DCL_XFER (P.1601). -/
def K.DCL_XFER : Nat := 0x1601
def P.DCL_XFER.LANE : FieldRef := ⟨0x1601, 34, 33⟩
def P.DCL_XFER.WRITE : FieldRef := ⟨0x1601, 32, 32⟩
def P.DCL_XFER.ADDR : FieldRef := ⟨0x1601, 29, 16⟩
def P.DCL_XFER.DATA : FieldRef := ⟨0x1601, 15, 0⟩
/-- The key of DCL_RESULT (P.1602). -/
def K.DCL_RESULT : Nat := 0x1602
def P.DCL_RESULT.SEQ : FieldRef := ⟨0x1602, 63, 48⟩
def P.DCL_RESULT.STATE : FieldRef := ⟨0x1602, 47, 46⟩
def P.DCL_RESULT.ERROR : FieldRef := ⟨0x1602, 45, 45⟩
def P.DCL_RESULT.LANE : FieldRef := ⟨0x1602, 34, 33⟩
def P.DCL_RESULT.WRITE : FieldRef := ⟨0x1602, 32, 32⟩
def P.DCL_RESULT.ADDR : FieldRef := ⟨0x1602, 29, 16⟩
def P.DCL_RESULT.DATA : FieldRef := ⟨0x1602, 15, 0⟩

end Sys2Proof.Machine
end

