-- ==== Sys2Proof/Machine/State.lean ====
section
/-! DEFINITION. The state of the XZ-3840 as plain data: everything the specification gives the device, the
queue of waiting commands, and the two of the model's own (the free-value counter and the record of what left
the device). Default values are the values after power-on reset; those no rule gives are listed in
notes/assumptions. -/
namespace Sys2Proof.Machine

/-- A fault-log entry or event notice (Table 21.5). -/
structure Record where
  kind : Nat
  cls : Nat
  flags : Nat
  seq : Nat
  time : Nat
  data : List Byte
  deriving DecidableEq, Repr

/-- The record unit of the control complex: the fault log (oldest first, R480), the notice queue of
Table 7.6 and the held count of lost notices (R483). -/
structure RecUnit where
  log : List Record := []
  queue : List Record := []
  held : Nat := 0
  /-- The time of the last record formed, and the KINDs of the records formed in its cycle, in the order of their SEQ (R478). -/
  formedAt : Nat := 0
  formed : List Nat := []
  deriving DecidableEq, Repr

/-- What drives a sense pin (R249, R252, R255, R271): nothing, a level in mV, the return to analogue ground, a current in µA, or
the tone of an impedance check with its peak current in µA, its frequency in 100 Hz and its cycles. -/
inductive SenseDrive where
  | highZ
  | millivolts (n : Nat)
  | ground
  | microamps (n : Nat)
  | tone (amp freq cycles : Nat)
  deriving DecidableEq, Repr

/-- The output pins without the device's own drive (R492): high-impedance with the internal pull-down while VDD_CORE or
VDDIO_18 is below its threshold, else held by the wake domain at their rest levels (R457), SOUT, READY and FAULT_N low. -/
inductive PinDrive where
  | highZ
  | rest
  deriving DecidableEq, Repr

/-- What left the device, newest first in `State.out`. -/
inductive Out where
  /-- Bytes a DMA channel wrote to a host address (R386). -/
  | dma (chan va pa : Nat) (bytes : List Byte)
  /-- A translation-table read (R392). -/
  | tableRead (chan addr : Nat)
  /-- A read of `len` bytes of a command by channel 6 (R386, R402). -/
  | fetch (va pa len : Nat)
  /-- An MSI-X message (Table 17.3): the data its vector's table entry holds, written to the address it holds. -/
  | msix (function vector addr data : Nat)
  /-- A Bridle frame written to the host window by Function 1 (R396). -/
  | bridle (addr : Nat) (bytes : List Byte)
  /-- A pulse on FIRE_P of a bank, from a time, of a width in ns (R206). -/
  | fire (bank at_ width : Nat)
  /-- SYNC_OUT high from a time for a number of ns (R47). -/
  | syncOut (at_ len : Nat)
  /-- Lane words a Hitch lane sent (Table 16.3). A BEACON set is sent again at least every 100 µs, and the closing IDLE set for as
  long as there is nothing to send (R354, R356). -/
  | hitch (lane : Nat) (words : List LaneWord)
  /-- SKIP sets a lane has sent since its last entry of this kind (Table 16.3, R355). -/
  | hitchSkips (lane count : Nat)
  /-- What a BAR0 read of a parameter, or of one half of it, returned to the host (R383). -/
  | read (key : Nat) (half : Half) (value : Nat)
  /-- A sense pin is driven so from a time on. -/
  | sense (pin at_ : Nat) (drive : SenseDrive)
  /-- A channel of a safety output is low from a time to another for its test pulse, and after it as its output then
  stands (R332). -/
  | soutPulse (channel at_ until_ : Nat)
  /-- A frame on a detector control lane: DCL_FRM is high from a time for 32 clocks of 20 ns on DCL_CLK, and DCL_DO carries
  these bits, one a clock in this order (R495). -/
  | dclFrame (lane at_ : Nat) (bits : List Bool)
  /-- A pin or internal line driven to a value at a time. -/
  | pin (name : String) (index at_ value : Nat)
  /-- Every output pin is in power-on reset so from here on (R492). -/
  | allPins (drive : PinDrive)
  deriving DecidableEq, Repr
/-- A code epoch (R51): number, secret, switch time, and its key once derived (R52). -/
structure CodeEpoch where
  e : Nat
  secret : List Byte
  tE : Nat
  key : Option (List Byte)
  deriving DecidableEq, Repr

/-- One pulse of one bank in a column (R19 to R21, R74, R77). Stamps are counts of 7.8125 ps from the
column's epoch. -/
structure Pulse where
  fire : Option Nat := none
  emission : Option Int := none
  nomon : Bool := false
  armed : Option Bool := none
  /-- The gate or the budget kept it from firing (R208, R209, R219). -/
  inhibited : Bool := false
  deriving DecidableEq, Repr

/-- A return event waiting for its window and arming (R70), or a credit drop waiting for its window (R71). -/
structure RetEvent where
  channel : Nat
  stamp : Int
  dropped : Bool
  high : Bool
  deriving DecidableEq, Repr

/-- An accepted event on its way into its bin (R86). -/
structure BinEvent where
  channel : Nat
  pulse : Nat
  bin : Nat
  residual : Nat
  high : Bool
  deriving DecidableEq, Repr

/-- An echo entry a core has posted (Table 6.6). -/
structure Post where
  rangeMm : Nat
  sigma16 : Nat
  echo : Nat
  conf : Nat
  intensity : Nat
  cls : Nat
  degraded : Bool
  saturated : Bool
  bq : Nat
  deriving DecidableEq, Repr

/-- What a row has been posted (R150, R151). -/
structure RowPosts where
  entries : List Post := []
  done : Option Nat := none
  error : Bool := false
  /-- The vendor library's echoes of the row still to post, with its merges and window drops (R125, R126). -/
  todo : Option (List Post × Nat × Nat) := none
  deriving DecidableEq, Repr

/-- A column from its trigger to its release (01_shot_to_point.md). -/
structure Column where
  frame : Nat
  seq : Nat
  index : Nat
  epoch : Nat
  /-- None until the previous column's hand-off is known (R23). -/
  base : Option Nat
  gait : Nat
  reverse : Bool
  held : Bool
  skipped : Bool
  angle : Int
  codeE : Nat
  offsets : List Nat
  /-- Set-point V of each charger at the epoch (R215). -/
  volts : List Nat
  /-- Banks whose exposure reserve failed (R219). -/
  inhibited : Nat
  /-- Keyed 32 x bank + pulse. -/
  pulses : SMap Pulse
  waiting : List RetEvent
  accepted : List BinEvent
  /-- Last bin that received an event, keyed 32 x channel + pulse (R71). -/
  lastBin : SMap Nat
  /-- The hand-off instant once it has passed. -/
  handoff : Option Nat
  /-- Pipe slots done, one bit per channel of a cluster, keyed by cluster (R27). -/
  piped : SMap Nat
  /-- Blind channels and candidates sent, by cluster, and the clusters whose column-end marker is out (R117). -/
  blind : SMap Nat
  sent : SMap Nat
  markers : Nat
  /-- When the last candidate so far left the pipe of a cluster (R117). -/
  lastOut : SMap Nat := []
  /-- The clusters whose pipe has sent the marker, one bit each. -/
  ended : Nat := 0
  /-- Regions that have released it, one bit each. -/
  released : Nat
  /-- Rows complete for their core (R149) and what each has been posted. -/
  ready : SMap Bool
  posts : SMap RowPosts
  /-- Its count among all hand-offs. -/
  ordinal : Nat
  /-- Rows whose points carry the degraded flag (R21, R25, R81), keyed by row. -/
  degraded : SMap Bool
  /-- Those degraded by R25 or R81 (DEGR of Table 6.5). -/
  degr : SMap Bool
  deriving DecidableEq, Repr

/-- The scan timetable: sweep, phase, gait and epoch (02_gaits_and_firing_codes.md). -/
structure Scan where
  /-- Sweep number k of the current grid, any integer (R33). -/
  k : Int := 0
  /-- Next column's sequence number. -/
  seq : Nat := 0
  /-- The frame is fired (R509). -/
  fired : Bool := false
  /-- Hand-off of the previous column of the frame. -/
  lastHandoff : Option Nat := none
  /-- The time of a frame boundary that a write in its instant has been put after; its own row is still to come (R32). -/
  crossed : Option Nat := none
  phaseReq : Option Nat := none
  leadPhase : Option Nat := none
  syncEdge : Option Nat := none
  epochCur : Option CodeEpoch := none
  epochPend : Option CodeEpoch := none
  /-- The current epoch of a new lead, received on joining its team and still to apply (R371, R375). -/
  epochJoin : Option CodeEpoch := none
  /-- When the epoch in force will have lasted its period (R57). -/
  expiry : Option Nat := none
  /-- EPOCH_PERIOD taken up at the last draw (R59). -/
  period : Nat := 60
  /-- Hand-offs so far. -/
  handed : Nat := 0
  /-- Columns in flight, oldest first. -/
  columns : List Column := []
  deriving DecidableEq, Repr
/-- What a return channel keeps (R61, R70, R75, R81, R82). -/
structure Chan where
  stray : Nat := 0
  gated : Nat := 0
  disarmed : Nat := 0
  rateDrops : Nat := 0
  credits : Nat := 8
  /-- Start of the hold-off, in 1/128 ns of system time. -/
  holdFrom : Option Nat := none
  /-- Declared lost after four restorations with no event between (R82). -/
  lost : Bool := false
  /-- Its path failed (R81): the channel counts as degraded. -/
  degraded : Bool := false
  deriving DecidableEq, Repr

/-- An external gate (R76): the level sampled at power-on reset, its stamped edges, newest first, as system time
in LSB and whether the edge rose, and its active edges for frame arming (R78). -/
structure Gate where
  resetLevel : Bool := false
  edges : List (Nat × Bool) := []
  active : List Nat := []
  deriving DecidableEq, Repr

/-- A request on a unit's spare path pending for the boundary (R83). -/
inductive SpareReq where
  | substitute (channel : Nat)
  | release (channel : Nat)
  deriving DecidableEq, Repr

/-- A unit's spare path (R81 to R83). -/
structure Spare where
  channel : Option Nat := none
  byFarrier : Bool := false
  hostReq : Option SpareReq := none
  farrierReq : Option Nat := none
  failed : Bool := false
  deriving DecidableEq, Repr

/-- A run of the statistics block whose N samples are in (R79). -/
structure StatRun where
  src : Nat
  nm1 : Nat
  s1 : Int
  s2 : Int
  lo : Int
  hi : Int
  deriving DecidableEq, Repr

/-- The statistics block (R79). -/
structure StatBlock where
  running : Bool := false
  src : Nat := 0
  nm1 : Nat := 0
  count : Nat := 0
  s1 : Int := 0
  s2 : Int := 0
  lo : Int := 0
  hi : Int := 0
  prev : Option Nat := none
  /-- Does the next sample start a run of its own (CONT)? -/
  again : Bool := false
  /-- Runs whose results are not yet in the slot, oldest first. -/
  done : List StatRun := []
  deriving DecidableEq, Repr

/-- Return inputs, monitors, gates, spare paths and the statistics block (03_return_stamping.md). -/
structure Stamping where
  chans : SMap Chan := []
  /-- Hold-off starts of the monitor inputs, in 1/128 ns. -/
  monHold : SMap Nat := []
  /-- The last restoration of credits (R70). -/
  creditAt : Option Nat := none
  gateA : Gate := {}
  gateB : Gate := {}
  spares : SMap Spare := []
  stat : StatBlock := {}
  /-- Installed tables by path, in 1/16 LSB: paths 9u + p, monitors 432 + b, gates 448 and 449. Entry r of an
  unlisted one is 16 r. -/
  lut : SMap (List Nat) := []
  /-- Installed skews by input (channels, 384 + bank, gates 400 and 401), in 1/16 LSB. -/
  skew : SMap Int := []
  deriving DecidableEq, Repr
/-- A recorder record (Table 8.3). -/
structure RecEntry where
  state : Nat
  pulsed : Nat
  time : Nat
  deriving DecidableEq, Repr

/-- A word of the recorder FIFO: its bytes, how many are valid, and whether it ends a capture (R201). -/
structure FifoWord where
  word : Nat
  valid : Nat
  last : Bool
  deriving DecidableEq, Repr

/-- What the recorder knows of a tick: the levels and the match of the pattern before it, its pulses and the trigger sources that
have fired in it so far, and whether its record is written (R194, R196). -/
structure RecTick where
  at_ : Nat
  old : Nat
  pat : Bool
  pulsed : Nat
  terms : Nat
  recorded : Bool
  deriving DecidableEq, Repr

/-- The event recorder (08_mask_tests_and_recorder.md). Its state is REC_STATUS.STATE. -/
structure Recorder where
  levels : Nat := 0
  pre : List RecEntry := []
  post : List RecEntry := []
  trigTime : Nat := 0
  trigTerms : Nat := 0
  retrig : Nat := 0
  short : Bool := false
  capSeq : Nat := 0
  selVersion : Nat := 0
  /-- (STATE AND PAT_MASK) = PAT_VALUE held at the last tick. -/
  patPrev : Bool := true
  /-- Trigger ticks to come with the sources that fire at them, earliest first: SW_TRIG and kinds 6 to 8 (R196, Table 8.4). -/
  due : List (Nat × Nat) := []
  fifo : List FifoWord := []
  /-- The last tick with a happening. -/
  tick : Option RecTick := none
  /-- The capture has ended, at unloadFrom, and is still to be laid out: ABORTED and TIME_END of its header. -/
  ends : Option (Bool × Bool) := none
  /-- Words of the capture still to enter the FIFO, and the end of the capture moved on by every wait for room, from which a
  halfword per ns has flowed (R200). -/
  unload : List FifoWord := []
  unloadFrom : Nat := 0
  /-- Records of the capture in unload. -/
  unloadRecs : Nat := 0
  waited : Bool := false
  prevWaited : Bool := false
  lastWord : Nat := 0
  deriving DecidableEq, Repr
/-- Table 4.6: buffer states. -/
inductive BufState where
  | filling | handed | read | frozen
  deriving DecidableEq, Repr

/-- The column whose content a buffer holds (Table 4.8). -/
structure BufMeta where
  frame : Nat := 0
  column : Nat := 0
  seq : Nat := 0
  held : Bool := false
  reverse : Bool := false
  gait : Nat := 0
  epoch : Nat := 0
  codeE : Nat := 0
  near : Nat := 0
  far16 : Nat := 0
  armed : Nat := 0
  deriving DecidableEq, Repr

/-- A histogram buffer (R98, R100). -/
structure Buf where
  st : BufState := .read
  poison : Bool := false
  mask : Bool := false
  dump : Bool := false
  /-- When its MASK cause was set (R192, R508). -/
  maskAt : Option Nat := none
  content : BufMeta := {}
  /-- When its last freeze cause cleared (Table 4.7). -/
  freedAt : Option Nat := none
  deriving DecidableEq, Repr

/-- A dump request in progress (R102, R103): channels still to write. -/
structure Dump where
  frozenSrc : Bool
  anyCol : Bool
  column : Nat
  first : Nat
  count : Nat
  asked : Nat
  waiting : Bool
  /-- Channel and buffer of each record still to write, in ascending channel order. -/
  left : List (Nat × Nat)
  /-- A record is in channel 4. -/
  inFlight : Bool := false
  deriving DecidableEq, Repr

/-- The histogram memory (04_moment_histograms.md). -/
structure Histograms where
  /-- Bin words, keyed (2 x channel + buffer) x 4096 + bin; an unlisted word is 0. -/
  words : SMap Word := []
  /-- Valid rows, keyed (2 x channel + buffer) x 256 + row. -/
  rows : SMap Bool := []
  /-- Buffers keyed 2 x channel + buffer. -/
  bufs : SMap Buf := []
  /-- Clusters that found an uncorrectable word in this frame. -/
  poisonSeen : Nat := 0
  /-- Channels with both buffers FROZEN at some moment of this frame (R324). -/
  bothFrozen : SMap Bool := []
  /-- Channels with a buffer FROZEN by MASK at some moment of this frame (R324). -/
  maskSeen : SMap Bool := []
  /-- Clusters whose SRAM lost frozen content with its power, to be flagged at power-up (R106). -/
  frozenLost : Nat := 0
  dump : Option Dump := none
  dumpSeq : Nat := 0
  deriving DecidableEq, Repr
/-- A filter template with its gain and power (R109, R118). -/
structure Template where
  taps : List Int := [1, 3, 4, 3, 1]
  anchor : Nat := 2
  wl : Nat := 3
  wr : Nat := 3
  sigmaRef16 : Nat := 40
  g : Int := 12
  p : Nat := 36
  deriving DecidableEq, Repr

/-- A running cross-fade (R120): `m` columns done of `f`. -/
structure Fade where
  src : Nat
  dst : Nat
  f : Nat
  m : Nat
  /-- Hand-offs from this time on count. -/
  start : Nat
  deriving DecidableEq, Repr

/-- A candidate record (Table 5.2), with its column's frame. -/
structure Cand where
  channel : Nat
  frame : Nat
  seq : Nat
  cand : Nat
  ncand : Nat
  nw : Nat
  peak : Nat
  nomon : Bool
  bank : Nat
  fade : Bool
  overflow : Bool
  poison : Bool
  pile : Bool
  sat : Bool
  n : Nat
  sigmaRef16 : Nat
  s1 : Int
  s2 : Int
  c256 : Nat
  sigma16 : Nat
  rangeMm : Nat
  bq : Nat
  /-- Counts of bins peak - 8 to peak + 7, for Farrier's gathering (R299). -/
  track : List Nat
  deriving DecidableEq, Repr

/-- A column-end marker (Table 5.3), with its column's frame. -/
structure EndMarker where
  cluster : Nat
  frame : Nat
  seq : Nat
  /-- Candidates the cluster sent for the column. -/
  n : Nat
  /-- Blind channels, one bit each. -/
  blind : Nat
  deriving DecidableEq, Repr

/-- What a cluster sends to its region's queue (R117). -/
inductive QueueRec where
  | cand (c : Cand)
  | marker (m : EndMarker)
  deriving DecidableEq, Repr

/-- A mask channel's record (Table 8.13). -/
structure ChanMask where
  run : Nat := 0
  violCnt : Nat := 0
  firstBin : Nat := 0
  nbins : Nat := 0
  column : Nat := 0
  full : Bool := false
  upper : Bool := false
  lower : Bool := false
  deriving DecidableEq, Repr

/-- A cluster's pipe, template banks and envelope sets (05, 08). -/
structure Cluster where
  banks : SMap Template := []
  active : Nat := 0
  fade : Option Fade := none
  /-- Held request: bank and columns (R121). -/
  held : Option (Nat × Nat) := none
  /-- Commits to the active bank, oldest first, each in use from the first hand-off at its time or later (Table 5.4). -/
  commits : List (Template × Nat) := []
  /-- Candidates and markers on their way through the moment solver. -/
  solver : List QueueRec := []
  /-- Envelope sets in use and committed for the boundary: (UP, LO) of 64 entries (R185). -/
  envs : SMap (List (Nat × Nat)) := []
  envPend : SMap (List (Nat × Nat)) := []
  deriving DecidableEq, Repr
/-- Registers of one context of an Evoth core (Table 6.1, R143). -/
structure EvothRegs where
  /-- Accumulators A0 to A3. -/
  acc : SMap (BitVec 56) := []
  /-- Data registers D0 to D7. -/
  d : SMap (BitVec 24) := []
  /-- Address registers AD0 to AD7. -/
  ad : SMap (BitVec 16) := []
  /-- Steps ST0 to ST7. -/
  st : SMap (BitVec 16) := []
  /-- Circular buffer descriptors CB0 to CB3. -/
  cb : SMap (BitVec 32) := []
  cbsel : BitVec 24 := 0
  lc : BitVec 11 := 0
  sc : BitVec 8 := 0
  sr : BitVec 16 := 0
  pc : BitVec 13 := 0
  /-- In BK mode, the halfword of the program word (R146). -/
  half : Bool := false
  /-- MODE at the next instruction, where a mode instruction has been given (R139). -/
  nextMode : Option Bool := none
  deriving DecidableEq, Repr

/-- A block repeat of BK mode (R147): body length in instructions, iterations left, the place in the body, the halfword at
which it starts once known, the repeat cache with the halfword of each instruction it holds, and whether this iteration fills
it. -/
structure BlockRepeat where
  len : Nat
  left : Nat
  pos : Nat := 0
  start : Option Nat := none
  cache : List Nat := []
  filling : Bool := false
  deriving DecidableEq, Repr

/-- Where the BACKGROUND job of a core stands (R143, R144, R160). -/
inductive BgPhase where
  | none | ready | running | preempted | faulted
  deriving DecidableEq, Repr

/-- A program image that passed its checks (Table 6.8). -/
structure EvothImage where
  bk : Bool
  entry : Nat
  prog : List Byte
  data : List Byte
  version : Nat
  /-- The image key slot that signed it (R440), and the SHA-384 of its header, program and data (R431). -/
  keySlot : Nat
  digest : List Byte
  deriving DecidableEq, Repr

/-- What a background job's running repeat holds up (R142, R158, R161). -/
inductive BgDue where
  | restart
  | load (x : EvothImage)
  | drop
  deriving DecidableEq, Repr

/-- One Evoth core. Its status is CORE_STATUS (P.0610). -/
structure EvothCore where
  col : EvothRegs := {}
  bg : EvothRegs := {}
  /-- Program memory by 32-bit word. -/
  prog : SMap (BitVec 32) := []
  /-- Data memory by 32-bit word. -/
  data : SMap (BitVec 32) := []
  /-- Frame and sequence of the column the COLUMN job works on. -/
  job : Option (Nat × Nat) := none
  /-- The last column whose COLUMN job has ended, by finish, deadline or fault. -/
  ended : Option (Nat × Nat) := none
  bgPhase : BgPhase := .none
  block : Option BlockRepeat := none
  /-- Ordinals of the columns with a COLUMN fault, newest first (R160). -/
  colFaults : List Nat := []
  /-- The COLUMN program is to be reloaded before the next column (fault 0x05). -/
  reload : Bool := false
  /-- The column context on the input port of the COLUMN job (Table 6.5). -/
  port : List Byte := []
  /-- The COLUMN job's column is past its deadline; the job ends after its repeat (R142, R152). -/
  endDue : Bool := false
  bgDue : Option BgDue := none
  deriving DecidableEq, Repr

/-- The cores, their region queues and peak stores, and the images in the control complex. -/
structure Evoth where
  cores : SMap EvothCore := []
  /-- Candidate queues by region, in order of arrival (R117, R136). -/
  queues : SMap (List QueueRec) := []
  /-- Peak stores by region: frame, sequence, row, peak (R136). -/
  peaks : SMap (List (Nat × Nat × Nat × Nat)) := []
  /-- The stored REFINE image, and the one in force since the last frame boundary in place of the vendor library. -/
  refine : Option EvothImage := none
  refineOn : Option EvothImage := none
  /-- The key that signed the stored REFINE image has gone since the last frame boundary (R440). -/
  refineGone : Bool := false
  bgImages : SMap EvothImage := []
  /-- Regions whose reload after power-up has not completed (R159), one bit each. -/
  reloading : Nat := 0
  deriving DecidableEq, Repr
/-- A REF history slot (Table 7.4). -/
structure RefSlot where
  range : Nat
  intensity : Nat
  cls : Nat
  saturated : Bool
  degraded : Bool
  deriving DecidableEq, Repr

/-- One region's point stream (07_point_stream.md). -/
structure Stream where
  /-- The slots of the PREV and the REF plane as stored, check byte included, keyed (96 x index + row) x 4 + echo; a slot not
  listed is invalid. HIST_VALID of each plane by index (R169, R170, Table 7.4). -/
  prev : SMap Word := []
  prevValid : SMap Bool := []
  ref : SMap Word := []
  refValid : SMap Bool := []
  stale : SMap Bool := []
  /-- Fired frames since the last keyframe; none before the first. -/
  sinceKey : Nat := 0
  /-- Causes gathered for the next keyframe decision, as KEY_CAUSE; the power-on reset leaves no history (R170, R173). -/
  causes : Nat := 16
  keyframe : Bool := false
  keyCause : Nat := 0
  /-- The frame header due before the first column header of its frame, and headers carried by columns discarded
  at an abort, due before the next item (R163, Table 17.8). -/
  due : List Byte := []
  headers : List (List Byte) := []
  prevDropped : Nat := 0
  prevLost : Nat := 0
  prevUnrefined : Nat := 0
  curDropped : Nat := 0
  curLost : Nat := 0
  curUnrefined : Nat := 0
  lostBefore : Nat := 0
  /-- Columns written since the last message and the time of the first not announced (R178). -/
  cols : Nat := 0
  firstCol : Option Nat := none
  /-- The first drop or loss of the frame has been noted. -/
  dropNoted : Bool := false
  lossNoted : Bool := false
  deriving DecidableEq, Repr
/-- What a charger keeps beside CHG_STATUS (09_emitters_and_chargers.md). -/
structure Charger where
  /-- Ramp reference in 0.1 mV. -/
  refF : Nat := 0
  /-- REF_F is to be loaded at the next 1 µs tick (R213). -/
  loadDue : Bool := false
  /-- Samples with their times, newest first (at most 16). -/
  codes : List (Nat × Nat) := []
  /-- Consecutive samples above OV_LIMIT. -/
  ovRun : Nat := 0
  chgEn : Bool := false
  /-- Since when CHG_EN has been 1. -/
  enSince : Option Nat := none
  /-- The level of CHG_FLT_N is low. -/
  fltLow : Bool := false
  /-- Times of the faults of the last 10 s, newest first (R217). -/
  faultTimes : List Int := []
  /-- When the last fault cause was registered (R214). -/
  lastCause : Option Nat := none
  quiet : Nat := 0
  /-- In FAULT at some moment of this frame (R324). -/
  faultSeen : Bool := false
  /-- Saturated near columns of this frame, and the last column counted (R223). -/
  satCols : Nat := 0
  satLast : Option Nat := none
  deriving DecidableEq, Repr

/-- Chargers and exposure windows. -/
structure Emitters where
  chargers : SMap Charger := []
  /-- Fired weights of a bank by slot, newest first, at most 17 (R218). -/
  windows : SMap (List Nat) := []
  /-- Times of monitor events outside every search interval, by bank (Table 9.6). -/
  strayMon : SMap (List Nat) := []
  /-- Start and end of the last fire command of a bank (R206). -/
  fired : SMap (Nat × Nat) := []
  deriving DecidableEq, Repr
/-- Table 10.2: drive states. -/
inductive Drive where
  | off | pos | neg | brake
  deriving DecidableEq, Repr

/-- An angle sample as the engine uses it (R231): µ°, and the time it refers to. -/
structure AngSample where
  theta : Int
  t : Nat
  arrived : Nat
  deriving DecidableEq, Repr

/-- A transition turnaround (R235): the old grid with its last sweep and the new grid with its first. -/
structure Transition where
  g0 : Nat
  phi0 : Nat
  k0 : Int
  g1 : Nat
  phi1 : Nat
  k1 : Int
  deriving DecidableEq, Repr

/-- A sample that schedules column triggers, with the slope num / den in µ° per ns (R245). -/
structure TrigSample where
  s : AngSample
  num : Int
  den : Nat
  deriving DecidableEq, Repr

/-- The scan mirror's controllers (10_scan_mirror_loop.md). State, cause and bridges are in MIR_STATUS. -/
structure Mirror where
  /-- Amplitude h in µ° (R237). -/
  h : Nat := 0
  /-- Reference p in PARKED, µ°. -/
  p : Int := 0
  iRef : Int := 0
  drive : Drive := .off
  /-- The MIR_HS and MIR_LS commands that are high, one bit per half-bridge, and those to go high after the dead time, with the
  time (R226, R227). -/
  hs : Nat := 0
  ls : Nat := 0
  onAt : Option (Nat × Nat × Nat) := none
  /-- Consecutive overcurrent samples; the current and time at which the drive state began, and how far the current has gone since
  in the driven direction (Table 10.4). -/
  ocRun : Nat := 0
  driveSince : Nat := 0
  driveI : Int := 0
  driveGone : Int := 0
  /-- Bridge 1 becomes active at this time (R230). -/
  takeover : Option Nat := none
  /-- The latest valid sample and the one before. -/
  n : Option AngSample := none
  m : Option AngSample := none
  /-- The last two valid uncorrected samples (R301), newest first. -/
  raw : List (Int × Nat) := []
  /-- Since when every sample has been valid. -/
  validSince : Option Nat := none
  /-- A valid sample has arrived since the previous tick (R243). -/
  freshSample : Bool := false
  ePrev : Int := 0
  sum : Int := 0
  /-- Repetitive tables, keyed 2048 x direction + index. -/
  table : SMap Int := []
  overRun : Nat := 0
  lossRun : Nat := 0
  recoverFrames : Nat := 0
  /-- h = A and abs(e) within TRACK_TOL at every tick of the frame's active part so far. -/
  frameGood : Bool := false
  /-- Outside TRACK at some moment of the frame's active part (R324). -/
  offTrack : Bool := true
  /-- It has left TRACK since the last fired frame (R239). -/
  left : Bool := false
  /-- The emitter gate's park inhibit (R239). -/
  inhibit : Bool := true
  sched : Option TrigSample := none
  /-- Time of the last column trigger, and of the last skip (R246). -/
  lastTrig : Option Nat := none
  lastSkip : Option Nat := none
  transition : Option Transition := none
  /-- The tick of the last write of RUN = 1 (R238). -/
  runAt : Option Nat := none
  /-- A written DRV_EN or RUN waits for the next sample or tick, and the time of the last one (R248). -/
  drvDue : Bool := false
  runDue : Bool := false
  tickAt : Option Nat := none
  /-- When RUN = 0 last led to SPIN_DOWN (R238). -/
  downAt : Option Nat := none
  deriving DecidableEq, Repr
/-- A decimation grid of a converter (R258): modulator sample 0, preset and demodulation in force, the next output,
and where a reset or a stop ended it. -/
structure Grid where
  t0 : Nat
  preset : Nat
  demod : Nat
  n : Nat := 0
  stop : Option Nat := none
  deriving DecidableEq, Repr

/-- A converter output on its way to the motion engine (R260, R267): q as binary32, t_n, group delay, flags. -/
structure AngIn where
  q : Nat
  tn : Nat
  g : Nat
  invalid : Bool
  skipped : Bool
  deriving DecidableEq, Repr

/-- A sigma-delta converter (11_sense_front_end.md). -/
structure Conv where
  /-- Grids with outputs still to deliver, oldest first; the last is the running one. -/
  grids : List Grid := []
  /-- Synchronising resets to come, by time. -/
  syncDue : List Nat := []
  /-- Ranges with the modulator sample from which they are in force, newest first. -/
  ranges : List (Nat × Nat) := []
  /-- Consecutive flag-free samples below the lower auto-ranging level (R261). -/
  lowRun : Nat := 0
  /-- Runs of flagged modulator samples, newest first (R257). -/
  flagged : List (Nat × Nat) := []
  /-- Intervals marked invalid with cause IMP, newest first; the first may be open (R273). -/
  impMarks : List (Nat × Option Nat) := []
  /-- A later check has found both pins within bounds, and when the last new verdict fell. -/
  impGood : Bool := false
  impVerdict : Option Nat := none
  /-- Start and end of the running check, the start of the last check, and a start an overload asked for. -/
  impRun : Option (Nat × Nat) := none
  impFrom : Option Nat := none
  impAsk : Option Nat := none
  /-- Coefficient sets with the output boundaries at which they were copied, newest first, and the time of a COMMIT whose boundary
  is still to come (R266). -/
  coefs : List (Nat × List Nat) := []
  commit : Option Nat := none
  /-- Words of CONV_CFG with the modulator sample from which each is in force, newest first (R277). -/
  cfgs : List (Nat × Word) := []
  /-- The modulator sample at which the last write of RANGE takes effect (R261). -/
  rangeWrite : Option Nat := none
  /-- Threshold states: lower and upper crossed (R270). -/
  loCrossed : Bool := false
  hiCrossed : Bool := false
  /-- Latest valid q, and when it was delivered, with its sample period. -/
  lastQ : Option (Nat × Nat × Nat) := none
  deriving DecidableEq, Repr

/-- An excitation source (R252, R254). -/
structure Exc where
  /-- The first modulator sample of the running enable. -/
  since : Option Nat := none
  second : Bool := false
  nextSwap : Nat := 0
  /-- Exchange times, newest first. -/
  swaps : List Nat := []
  marks : List (Nat × Option Nat) := []
  deriving DecidableEq, Repr

/-- A FOUT output (R274, R275): start, period and high time of the running period; none while held low. -/
structure Fout where
  run : Option (Nat × Nat × Nat) := none
  deriving DecidableEq, Repr

/-- The sense front end. -/
structure FrontEnd where
  convs : SMap Conv := []
  excs : SMap Exc := []
  fouts : SMap Fout := []
  /-- TCONST with the modulator sample from which each value is in force, newest first (R277). -/
  tconsts : List (Nat × Nat) := []
  /-- Outputs of the angle converter due at the motion engine. -/
  angDue : List AngIn := []
  /-- A frame boundary has given the Paddock distances (R275). -/
  padKnown : Bool := false
  deriving DecidableEq, Repr
/-- A housekeeping converter's running round (R278, R279): channels still to convert, and low-power mode. -/
structure HkConv where
  round : List Nat := []
  lp : Bool := false
  deriving DecidableEq, Repr

/-- Table 12.4's states. -/
inductive AccState where
  | in_ | high | low
  deriving DecidableEq, Repr

/-- An accumulator (R281 to R287). -/
structure Acc where
  sum : Int := 0
  n : Nat := 0
  mean : Option Int := none
  valid : Bool := false
  lo : Int := 32767
  hi : Int := -32768
  st : AccState := .in_
  leaves : Nat := 0
  /-- The last single value taken (R284). -/
  last : Int := 0
  deriving DecidableEq, Repr

/-- The housekeeping converters. -/
structure Housekeeping where
  convs : SMap HkConv := []
  accs : SMap Acc := []
  deriving DecidableEq, Repr
/-- A temperature set of a group (R306): its temperature, tables by path, skews by input, and the lag. -/
structure TempSet where
  tau : Int := 0
  luts : SMap (List Nat) := []
  skews : SMap Int := []
  lag : Option Int := none
  deriving DecidableEq, Repr

/-- Health findings of a path (R295, R296). -/
structure PathHealth where
  /-- Consecutive windows with a failed strobe check. -/
  strobeFails : Nat := 0
  /-- Consecutive runs with an implausible table or skew. -/
  runFails : Nat := 0
  failed : Bool := false
  deriving DecidableEq, Repr

/-- Comparisons of a unit's spare with regular paths (R295, Table 13.2): frames of the last failed
comparison by path, of the last passed comparison, and of the spare's last passed strobe check. -/
structure SpareHealth where
  failedWith : SMap Nat := []
  passed : Option Nat := none
  strobePassed : Option Nat := none
  deriving DecidableEq, Repr

/-- A cluster's template gathering (R299). -/
structure TplGather where
  a : List Nat := []
  sigmaSum : Nat := 0
  count : Nat := 0
  /-- TPL_MIN_N, TPL_LOG2 and TPL_REFIT of this gathering (R312). -/
  minN : Nat := 6
  log2 : Nat := 12
  refit : Nat := 51
  /-- Candidates are in and the fit has not been made. -/
  full : Bool := false
  /-- A template that waits for a free bank (R300). -/
  waiting : Option Template := none
  deriving DecidableEq, Repr

/-- What a run solved and checked, waiting for the boundary (R303, R309). -/
structure RunResult where
  luts : SMap (List Nat) := []
  skews : SMap Int := []
  taps : SMap (List Nat) := []
  segs : SMap (List Nat) := []
  /-- Tables and skews that failed plausibility (R307). -/
  badLuts : List Nat := []
  badSkews : List Nat := []
  /-- Temperatures of groups 0 to 3 and 4 at the end of its last window, 1/16 °C. -/
  temps : List Int := []
  tdcRes : Nat := 0
  skewRes : Nat := 0
  deriving DecidableEq, Repr

/-- The Farrier calibration engine (13_farrier_calibration.md). -/
structure Farrier where
  strobe : Bool := false
  /-- The window gathers strobe events on the gate paths too (R291). -/
  gatesToo : Bool := false
  /-- Frame number at the opening of the last window. -/
  winFrame : Nat := 0
  /-- Cause of a run waiting for its first window. -/
  waiting : Option Nat := none
  /-- A window has opened since that cause and the last installation (R303, R304). -/
  runFrom : Bool := false
  /-- A window has closed since the run in progress started. -/
  winEnded : Bool := false
  /-- The clusters whose logic has been on since the run in progress started, one bit each (R308). -/
  runOn : Nat := 0
  startup : Bool := false
  solved : Option RunResult := none
  /-- Region temperatures at the last run, and its time. -/
  runTemps : List Int := []
  lastRun : Int := 0
  /-- CAL_CTRL at the start of the last run (R312): before the first, its reset values. -/
  runCtrl : Word := 0x0000011400000401
  /-- CAL_LIMITS of the run in progress (R312). -/
  runLims : Word := 0
  /-- ANG_EN and ANG_EDGES of the gathering in progress (R312). -/
  angEn : Bool := true
  angEdges : Nat := 256
  /-- Temperatures at the end of the last strobe window, groups 0 to 4. -/
  winTemps : List Int := []
  /-- Phase taps and used segments installed, by path (R292). -/
  taps : SMap (List Nat) := []
  segs : SMap (List Nat) := []
  /-- Temperature sets keyed 8 x group + band. -/
  sets : SMap TempSet := []
  health : SMap PathHealth := []
  spareHealth : SMap SpareHealth := []
  /-- Sum and count of a bank's fire-to-emission samples in this frame (R298). -/
  fteSum : SMap Int := []
  fteCount : SMap Nat := []
  /-- Banks with an installed delay, one bit each. -/
  fteDone : Nat := 0
  gather : SMap TplGather := []
  /-- Forward edges of the last forward frame (row, angle) and pairs collected (R302). -/
  edges : List (Nat × Int) := []
  revEdges : List (Nat × Int) := []
  /-- Range of each row at the previous column index of the sweep. -/
  lastRange : SMap Nat := []
  lastIndex : SMap Nat := []
  pairs : List Int := []
  newLag : Option Int := none
  angRes : Nat := 0
  /-- Fit error of the last template of each cluster (R311). -/
  tplE : SMap Nat := []
  deriving DecidableEq, Repr
/-- A Paddock's geometry and progress (R313, R510, R324). Its verdict and coverage are PD_STATE (P.0E04). -/
structure Paddock where
  /-- Committed vertices, mm. -/
  verts : List (Int × Int) := []
  clear : Nat := 0
  /-- Frame boundary at which HALTER was entered (R325). -/
  halterFrom : Option Int := none
  /-- HALTER_S has passed since; the next task tick makes the coverage SAFE (Table 14.2). -/
  halterDue : Bool := false
  /-- Consecutive fired frames without a lost coverage row. -/
  goodFrames : Nat := 0
  active : Bool := false
  mismatchRun : Nat := 0
  /-- A ray of its tables had more than four intervals (R319). -/
  merged : Bool := false
  /-- When it was last enabled: results of an earlier boundary are not its own. -/
  since : Nat := 0
  deriving DecidableEq, Repr

/-- The results of a frame on their way to the next task tick (R510): counts of enabled Paddocks by both paths,
lost and degraded rows. -/
structure FrameResult where
  boundary : Nat
  fired : Bool
  cEv : SMap Nat
  cSv : SMap Nat
  lostRows : SMap Bool
  degraded : SMap Bool
  deriving DecidableEq, Repr

/-- A safety input (R330, R331). -/
structure SafetyInput where
  /-- Filtered level. -/
  filt : Bool := false
  /-- Level of the last value sample, and since when value samples show a level other than `filt`. -/
  value : Bool := false
  newSince : Option Nat := none
  /-- 20 ms period of an outstanding stuck-high finding, and of outstanding cross-short findings by supply. -/
  stuck : Option Nat := none
  cross : SMap Nat := []
  fault : Bool := false
  deriving DecidableEq, Repr

/-- A channel of a safety output (R332). -/
structure SafetyChannel where
  /-- Start and end of the last test pulse. -/
  pulse : Option (Nat × Nat) := none
  wrong : Nat := 0
  deriving DecidableEq, Repr

/-- The safety supervisor, the cluster evaluators and the interval engine (14_paddocks_and_halter.md). -/
structure Supervisor where
  pads : SMap Paddock := []
  /-- Counts of the running frame by Paddock: cluster evaluators, interval engine, smallest h (R318, R319). -/
  cEv : SMap Nat := []
  cSv : SMap Nat := []
  minH : SMap Nat := []
  /-- The interval engine's input queue: candidate and column index (R320). -/
  engineQ : List (Cand × Nat) := []
  /-- Blind columns of a channel in this frame (R324). -/
  blindCols : SMap Nat := []
  /-- Frame results not yet applied. -/
  result : Option FrameResult := none
  /-- Rows lost in the latest results applied (R327). -/
  lostRows : SMap Bool := []
  /-- Die-level causes present, as SAFE_CAUSE. -/
  present : Nat := 0
  /-- An accepted SAFE_RESET waits for its task tick: the causes, input and output faults it clears. -/
  resetAsked : Option (Nat × Nat × Nat) := none
  inputs : SMap SafetyInput := []
  chans : SMap SafetyChannel := []
  /-- Since when the logical values of a pair's inputs disagree (R331), and since when their filtered levels do. -/
  disagree : SMap Nat := []
  apart : SMap Nat := []
  deriving DecidableEq, Repr
/-- An entry of the Bridle source table beside its parameter (R339 to R343). -/
structure Source where
  synced : Bool := false
  /-- Last accepted SEQ and TIME. -/
  seq : Nat := 0
  time : Option Nat := none
  /-- Start of the running time expectation. -/
  timer : Nat := 0
  /-- Consecutive frames accepted since it was LOST. -/
  recover : Nat := 0
  /-- The expectation has expired; the next task tick makes the source LOST (R343). -/
  expired : Bool := false
  /-- A write waits for the next task tick (R350), and the time of one among them that enabled the entry (R343). -/
  written : Bool := false
  enabledAt : Option Nat := none
  deriving DecidableEq, Repr

/-- Bridle frames (15_bridle_frames.md). -/
structure Bridle where
  srcs : SMap Source := []
  /-- The sequence counters toward the host and toward all team members (R339). -/
  seqHost : Nat := 0
  seqTeam : Nat := 0
  /-- Bytes of the receive slots of Function 1 (Table 15.6). -/
  rx : SMap Byte := []
  /-- Copy of the last STATUS frame, when it was formed and its payload (R346). -/
  last : List Byte := []
  lastAt : Nat := 0
  said : List Byte := []
  /-- Frames formed during a retrain, with their addresses (R381). -/
  waiting : List (Nat × List Byte) := []
  deriving DecidableEq, Repr
/-- Session keys and counters of a SECURE link, from this end (R364, R367). -/
structure Session where
  encTx : List Byte
  encRx : List Byte
  macTx : List Byte
  macRx : List Byte
  /-- CTR of the last message sent and of the last accepted. -/
  txCtr : Nat := 0
  rxCtr : Nat := 0
  deriving DecidableEq, Repr

/-- A message that expects an answer (R362): when it was last sent, how often again, and its body. -/
structure HitchWait where
  sent : Nat
  again : Nat := 0
  body : List Byte := []
  deriving DecidableEq, Repr

/-- What a SECURE link is to the team (Table 16.7). -/
inductive LinkRole where
  | none | parent | child | standby | refused
  deriving DecidableEq, Repr

/-- A Hitch link, kept under its lowest lane (R352, R363 to R369). -/
structure Link where
  helloTx : List Byte := []
  helloRx : List Byte := []
  /-- Certificate pieces received, by offset, and the total length. -/
  pieces : SMap (List Byte) := []
  certTotal : Nat := 0
  /-- The whole certificate is in and being verified; it has verified. -/
  verifying : Bool := false
  certOk : Bool := false
  ctTx : List Byte := []
  ctRx : List Byte := []
  ssTx : List Byte := []
  ssRx : List Byte := []
  finishOk : Bool := false
  session : Option Session := none
  waits : SMap HitchWait := []
  /-- The wait before the next handshake in s, and when it is over (R366). -/
  backoff : Nat := 1
  retryAt : Option Nat := none
  role : LinkRole := .none
  /-- Frame number at which it became SECURE, and a TEAM that waits for links on lower lanes (Table 16.7). -/
  secureIn : Nat := 0
  teamHeld : Option TeamBody := none
  deriving DecidableEq, Repr

/-- What a lane latched at its last entry into BEACON (R379) and since when it is in its state. -/
structure LanePhy where
  since : Nat := 0
  /-- In ALIGN, its own receiver is aligned; its BEACON sets show it (Tables 16.3, 16.4). -/
  aligned : Bool := false
  bond : Bool := false
  /-- The link it belongs to while it is LINKED or SECURE; 8 while it is not (R352). -/
  link : Nat := 8
  /-- LANE_CFG in force. -/
  cfg : Word := 0
  /-- When the transmitter sent its last SKIP set, and when its last frame ends (R355). -/
  txSkip : Nat := 0
  txFree : Nat := 0
  /-- Fill of the receiver's elastic buffer of 16 words, and the time up to which its SKIP sets are counted (R355). -/
  fill : Nat := 8
  rxFrom : Nat := 0
  deriving DecidableEq, Repr

/-- A slot of the team table (R368, R372). `state`: 1 in use, 2 held. -/
structure TeamSlot where
  devId : Nat
  parent : Nat
  state : Nat
  prio : Nat
  brId : Nat
  gait : Nat := 2
  /-- When a held slot's time is over; the task tick of that time frees it (R372). -/
  holdUntil : Nat := 0
  due : Bool := false
  deriving DecidableEq, Repr

/-- An eye scan (R360). -/
structure EyeScan where
  lane : Nat
  start : Nat
  dwell : Nat
  frozen : Bool
  deriving DecidableEq, Repr

/-- A member's time exchange with its parent (R376, R377). Times in 1/16 LSB. -/
structure TimeXfer where
  nextId : Nat := 0
  /-- ID, t1 and start of the exchange under way. -/
  open_ : Option (Nat × Int × Nat) := none
  lastStart : Option Nat := none
  integ : Int := 0
  /-- Consecutive exchanges within 2,048, beyond 8,192 and beyond 2,048,000. -/
  good : Nat := 0
  bad : Nat := 0
  big : Nat := 0
  /-- Thetas of the exchanges of a running time step, oldest first; none when no step is due. -/
  step : Option (List Int) := none
  /-- Theta to subtract at the next frame boundary. -/
  due : Option Int := none
  /-- Fraction of a ns by which the time base is ahead, in 1/16 LSB. -/
  frac : Int := 0
  deriving DecidableEq, Repr

/-- Hitch links and the vehicle team (16_hitch_links.md). -/
structure Hitch where
  lanes : SMap LanePhy := []
  links : SMap Link := []
  /-- The team table by slot; empty while the device is alone. -/
  slots : SMap TeamSlot := []
  /-- A joining device holds no epoch, no phase, or has not stepped its time (R371). -/
  needEpoch : Bool := false
  needPhase : Bool := false
  needStep : Bool := false
  xfer : TimeXfer := {}
  eye : Option EyeScan := none
  /-- The highest E this device knows of a team it has been in: a TEAM of another lead with no higher E is a former lead's
  (R371, R374). -/
  topE : Nat := 0
  deriving DecidableEq, Repr
/-- A cached translation (R391). -/
structure TlbEntry where
  va : Nat
  large : Bool
  pa : Nat
  chMask : Nat
  rd : Bool
  wr : Bool
  deriving DecidableEq, Repr

/-- What follows when every byte of a DMA item has been issued. -/
inductive DmaDone where
  | none
  /-- A column's headers and records reached ring r: RING_WRITEBACK follows (R178). -/
  | column (region frame column : Nat)
  /-- The write-back line of a point ring was issued. -/
  | columnLine (region bytes frame : Nat)
  /-- A dump record of a channel's buffer (R103, R399). -/
  | dumpRecord (channel buf bytes : Nat)
  /-- A recorder capture (R203). -/
  | capture (bytes words : Nat)
  /-- A Salsol reply and its line (R405, R406). -/
  | reply (entries : Nat) (vector : Bool)
  /-- An event notice and its line (R482). -/
  | notice
  deriving DecidableEq, Repr

/-- One item of a DMA channel: its bytes, then, once it is at the head, the stretches of device virtual
addresses they go to, in order.
`hdrs`: the frame headers it carries, to be written again if the item is discarded (Table 17.8). -/
structure DmaItem where
  payload : List Byte
  /-- Its addresses have been laid out. -/
  started : Bool := false
  segs : List (Nat × List Byte) := []
  done : DmaDone
  hdrs : List (List Byte) := []
  colIndex : Nat := 0
  /-- The columns lost whole that its column header's LOST_BEFORE counts (R167), and whether its loss makes the index stale
  (R174). -/
  lost : Nat := 0
  stales : Bool := false
  /-- REF slots the column's records give once they have reached the ring (R172, R174). -/
  refs : List (Nat × Option RefSlot) := []
  deriving DecidableEq, Repr

/-- A table walk under way (R388): its page, whether it is a RESUME's fresh walk, and the level-2 table
address once level 1 has been read. -/
structure Walk where
  va : Nat
  resume : Bool
  write : Bool
  deriving DecidableEq, Repr

/-- One DMA channel (Table 17.4). STALLED, BM_OFF, CAUSE and FAULT_VA are parameters (P.1108 to P.1111). -/
structure DmaChan where
  items : List DmaItem := []
  walk : Option Walk := none
  /-- The fresh walk of a RESUME waits for one of the four walks outstanding to end (R392, R395). -/
  resumeDue : Bool := false
  deriving DecidableEq, Repr

/-- MSI-X of a function (R382, R383, R385): enable and function mask, the words of its table (word 2v the address of vector v,
word 2v + 1 its data, with its mask bit at bit 32) and the pending bits. -/
structure Msix where
  on : Bool := true
  mask : Bool := false
  words : SMap Word := []
  pending : Nat := 0
  deriving DecidableEq, Repr

/-- The UCIe link, the functions' configuration and the stream translation unit. -/
structure HostPort where
  /-- Bus Master Enable of Functions 0 and 1 (R387, R396). -/
  bme0 : Bool := false
  bme1 : Bool := false
  /-- The host's settings for Function 0: maximum payload and read request in bytes, completion timeout code (Table 17.1). -/
  maxPayload : Nat := 256
  maxRead : Nat := 512
  timeout : Nat := 0
  /-- Addresses of the BARs, keyed 4 x function + BAR (R382). -/
  bars : SMap Nat := []
  msix0 : Msix := {}
  msix1 : Msix := {}
  /-- A retrain runs (R381). -/
  retraining : Bool := false
  /-- The point ring whose turn is next (R180). -/
  turn : Nat := 0
  tlb : List TlbEntry := []
  chans : SMap DmaChan := []
  /-- Bytes of a command fetch already received (channel 6, Table 17.8). -/
  fetchPart : List Byte := []
  deriving DecidableEq, Repr
/-- A reply waiting in its slot (R405). -/
structure Reply where
  bytes : List Byte
  quiet : Bool
  deriving DecidableEq, Repr

/-- A command whose execution has begun and not ended (PADDOCK_DEFINE waits for BUSY, Table 18.8). -/
structure Executing where
  path : Path
  cmd : List Byte
  paddock : Nat
  deriving DecidableEq, Repr

/-- An image transfer in pieces (R420). -/
structure Xfer where
  total : Nat := 0
  bytes : List Byte := []
  deriving DecidableEq, Repr

/-- The Salsol engine. -/
structure Salsol where
  /-- Commands fetched and not yet executed, oldest first. -/
  fetched : List (List Byte) := []
  /-- Replies waiting for room, oldest first. -/
  replies : List Reply := []
  /-- The reply of a ring command that ended while RINGS_INIT waited for it, which discards it where it passes its checks (R421). -/
  heldReply : Option Reply := none
  executing : Option Executing := none
  /-- The request and reply areas of BAR0 (R408). -/
  mbRequest : List Byte := []
  mbReply : List Byte := []
  /-- The mailbox command copied at MB_GO. -/
  mbCmd : Option (List Byte) := none
  evoth : Xfer := {}
  fw : Xfer := {}
  tack : Xfer := {}
  deriving DecidableEq, Repr
/-- Factory constants of the identity record that act on values (Table 19.3): sensor gains and offsets,
strobe delays in 1/16 LSB by input, Hitch receive and transmit latencies. -/
structure Identity where
  /-- DEV_ID in the OTP (never 0, Table 19.2), the PCI Vendor ID and SERIAL. -/
  devId : Nat := 0x0B172C405D6E0193
  vendor : Nat := 0
  serial : Nat := 0
  /-- The identity and Hitch certificates (sections 1 and 2). -/
  idCert : List Byte := []
  hitchCert : List Byte := []
  /-- The SHA-384 of the identity record in the OTP (R425); `none` is that of the record held here (notes/assumptions 10). -/
  otpHash : Option (List Byte) := none
  step : Nat := 0
  tsGain : SMap Int := []
  tsOff : SMap Int := []
  strobeDly : SMap Int := []
  rxLat : SMap Int := []
  txLat : SMap Int := []
  /-- Factory tables by path and skews by input (section 4); entry r of an unlisted table is 16 r. -/
  lut : SMap (List Nat) := []
  skew : SMap Int := []
  deriving DecidableEq, Repr
/-- A firmware bank: its image's header fields, digest and whether it verifies (R429, R432), and the image itself. -/
structure FwBank where
  svn : Nat
  rootGen : Nat
  version : Nat
  revoke : Nat
  digest : List Byte
  verifies : Bool
  image : List Byte
  deriving DecidableEq, Repr

/-- The non-volatile memory and OTP beside the identity record (R425). -/
structure NvStore where
  bankA : Option FwBank := some ⟨0, 1, 0, 0, [], true, []⟩
  bankB : Option FwBank := none
  activeB : Bool := false
  /-- The bank that is PENDING, and the bank that runs in TRIAL; `true` is bank B (R433, R434). -/
  pending : Option Bool := none
  trial : Option Bool := none
  rollback : Nat := 0
  /-- Revoked root generations, bit g - 1. -/
  revoked : Nat := 0
  /-- The stored Tack image; empty when none. -/
  tack : List Byte := []
  /-- The time of the last TACK_COMMIT that stored an image: its write may still be under way (R443). -/
  tackWrite : Option Nat := none
  /-- A power loss has torn the stored image: the CAUSE it is defaulted with, and its VERSION as it reads (R443). -/
  tackTorn : Option (Nat × Nat) := none
  /-- SHA-384 of the image loaded at the last start; empty when defaulted (R431). -/
  tackLoaded : List Byte := []
  cmdKeys : SMap (List Byte) := []
  /-- RSA modulus and SLH-DSA key of an image key slot. -/
  imageKeys : SMap (List Byte × List Byte) := []
  teamKey : Option (List Byte) := none
  deriving DecidableEq, Repr

/-- The attestation slot (R430, R431): a report in generation (its NONCE and START time), and the finished one. -/
structure Attest where
  running : Option (List Byte × Nat) := none
  report : List Byte := []
  deriving DecidableEq, Repr
/-- An orderly stop (R464): decision time, causes as THERM_LOG, deciding sensor, its mean, frame and sequence number
of the column in progress at the decision, and whether it has begun. -/
structure OrderlyStop where
  decided : Nat
  causes : Nat
  sensor : Nat
  mean : Int
  col : Option (Nat × Nat) := none
  begun : Bool := false
  deriving DecidableEq, Repr

/-- What PFD_MODE sets: its mode, and of the main and the system PLL the comparison frequency in kHz that the reference divider
gives and the feedback divider N (Table 20.4). -/
structure PllDividers where
  mode : Nat
  mainRef : Nat
  mainN : Nat
  systemRef : Nat
  systemN : Nat
  deriving DecidableEq, Repr

/-- Table 20.4. -/
def pfdDividers (mode : Nat) : PllDividers :=
  match mode with
  | 0 => ⟨0, 25000, 160, 25000, 192⟩
  | 1 => ⟨1, 50000, 80, 50000, 96⟩
  | m => ⟨m, 12500, 320, 12500, 384⟩

/-- Clocks, power and temperature (20_clocks_power_thermal.md). -/
structure Power where
  /-- The state asked for while a transition runs. -/
  target : Option Nat := none
  /-- Region and cluster logic wait for the ranging chain to empty (R511). -/
  draining : Bool := false
  stop : Option OrderlyStop := none
  /-- The first of a frame's columns that are released untriggered, and the regions that have yet to do so, one bit
  each (R464, R511). -/
  rest : Option Column := none
  restLeft : Nat := 0
  /-- The warning state is entered (R461). -/
  warn : Bool := false
  /-- Recorded means of the last 128 ticks by sensor, newest first (R462), and consecutive ticks with both
  conditions. -/
  record : SMap (List Int) := []
  trips : SMap Nat := []
  /-- The dividers of both PLLs in force, their shadows once PFD_MODE is written, and whether the boundary that the shadows
  wait for has passed (R449). -/
  dividers : PllDividers := pfdDividers 0
  pfdPend : Option PllDividers := none
  pfdDue : Bool := false
  /-- Last loss of the reference. -/
  lostAt : Option Int := none
  deriving DecidableEq, Repr
/-- The control complex (21_startup_and_faults.md). -/
structure Control where
  /-- Power-on reset is asserted. -/
  por : Bool := true
  /-- READY (R476). -/
  ready : Bool := false
  /-- A control restart that a write or a firmware load has asked for, with its cause as LAST_CAUSE (R471). -/
  asked : Option Nat := none
  /-- The cause of a control restart under way that waits for the ranging chain to empty (R471, R511). -/
  restart : Option Nat := none
  /-- When it began (R471, step 3). -/
  restartAt : Nat := 0
  /-- When the firmware wrote its heartbeat last (R471). -/
  beat : Nat := 0
  /-- The last reset of either kind (UPTIME_MS). -/
  upFrom : Int := 0
  /-- The link has trained since power-on reset (Table 17.1). -/
  linked : Bool := false
  deriving DecidableEq, Repr
/-- A detector control transfer (R497). -/
structure DclXfer where
  lane : Nat
  write : Bool
  addr : Nat
  data : Nat
  asked : Nat
  started : Bool := false
  /-- When its first frame began. -/
  startAt : Nat := 0
  deriving DecidableEq, Repr

/-- No command of this device stops the model with a fault: every happening the manual describes has an
effect, and ordinary data never ends a run. The one constructor is raised by no meaning; it stands for a device
outside its supply or temperature ratings (22_package_and_electrical.md), of which the manual gives no
behaviour. Safe. -/
inductive Fault where
  | outsideRatings
  deriving DecidableEq, Repr

/-- Why a command may have no meaning. -/
inductive Refusal where
  /-- Raised by an arm of `exec` whose row has no meaning yet. Safe: nothing can be proved of what follows. -/
  | notModelled (mnemonic : String)
  deriving DecidableEq, Repr

/-- The device. -/
structure State where
  /-- System time, ns (R10). -/
  now : Nat := 0
  /-- The MODEL's own counter of free values drawn; no rule names it and no statement rests on it. -/
  fresh : Nat := 0
  /-- What the host reads and writes in each parameter; an unlisted key holds its reset value (R11, R506). -/
  regs : SMap Word := []
  /-- The running counts behind the RSN fields taken at a frame boundary. -/
  live : SMap Word := []
  /-- The values in force of the parameters that take effect at a frame boundary (R32). -/
  force : SMap Word := []
  /-- SET_COUNT and COINC of each W1C bit, keyed 64 x key + bit (R484). -/
  flagCnt : SMap (Nat × Nat) := []
  /-- The shadows of the low-half reads, keyed 2 x key + function (R14, R183). -/
  shadows : SMap (BitVec 32) := []
  /-- The record unit (R478 to R483). -/
  recs : RecUnit := {}
  /-- What left the device, newest first. -/
  out : List Out := []
  /-- Commands waiting, first in first out. -/
  pending : List Instr := []
  /-- The scan timetable and the columns in flight (01, 02). -/
  scan : Scan := {}
  /-- Inputs and stamping (03). -/
  stamp : Stamping := {}
  /-- The histogram memory (04). -/
  hist : Histograms := {}
  /-- The twelve clusters (05, 08). -/
  clusters : SMap Cluster := []
  /-- Backgrounds bq by channel, 1/256 count (R115). -/
  bq : SMap Nat := []
  /-- Mask-test records by channel (R189, Table 8.13). -/
  masks : SMap ChanMask := []
  /-- The Evoth cores (06). -/
  evoth : Evoth := {}
  /-- The four point streams by region (07). -/
  streams : SMap Stream := []
  /-- The event recorder (08). -/
  recorder : Recorder := {}
  /-- Chargers and exposure windows (09). -/
  emit_ : Emitters := {}
  /-- The scan mirror (10). -/
  mirror : Mirror := {}
  /-- The sense front end (11). -/
  fe : FrontEnd := {}
  /-- Housekeeping (12). -/
  hk : Housekeeping := {}
  /-- Farrier (13). -/
  farrier : Farrier := {}
  /-- The Paddock function (14). -/
  sup : Supervisor := {}
  /-- Bridle frames (15). -/
  bridle : Bridle := {}
  /-- Hitch links and the team (16). -/
  hitch : Hitch := {}
  /-- The link, the translation unit and the DMA channels (17_ucie_and_memory.md). -/
  host : HostPort := {}
  /-- The Salsol command engine (18_salsol_commands.md). -/
  salsol : Salsol := {}
  /-- Factory constants (19). -/
  ident : Identity := {}
  /-- Non-volatile memory and OTP (19). -/
  nv : NvStore := {}
  attest : Attest := {}
  /-- Clocks, power and temperature (20). -/
  power : Power := {}
  /-- Reset and start-up (21). -/
  ctl : Control := {}
  /-- The detector control transfer pending (22). -/
  dcl : Option DclXfer := none
  deriving DecidableEq, Repr

/-- The device right after power-on reset: every field at the value the rules state, or the one
notes/assumptions names. -/
def State.reset : State := {}

end Sys2Proof.Machine
end

