-- ==== Sys2Proof/Machine/Regs.lean ====
section
/-! DEFINITION. Time, the register file and its planes, free values: the operations
every meaning is built from. -/
namespace Sys2Proof.Machine

/-- The outcome of every meaning of this device. -/
abbrev Result := Host.Outcome State Fault Refusal


/-- A system time is a 64-bit unsigned count of ns (R10): what a count that runs on reads as. -/
def sysTime (t : Nat) : Nat := t % 2 ^ 64

/-- Let system time reach `t` (R10). -/
def State.at_ (s : State) (t : Nat) : State := { s with now := Nat.max s.now (sysTime t) }

/-- Something leaves the device. -/
def State.emit (s : State) (o : Out) : State := { s with out := o :: s.out }

/-- Draw a free value of `w` bits (notes/assumptions 3). -/
def State.draw (s : State) (w : Nat) : Nat × State :=
  ((Config.freeBits s.fresh).toNat % 2 ^ w, { s with fresh := s.fresh + 1 })

/-- A parameter's word in a plane; an unlisted key holds its reset value. -/
def planeGet (m : SMap Word) (key : Nat) : Word := (Map.find? m key).getD (BitVec.ofNat 64 (resetWord key))

/-- Write a parameter's word in a plane, keeping the canonical form. -/
def planeSet (m : SMap Word) (key : Nat) (w : Word) : SMap Word :=
  if w = BitVec.ofNat 64 (resetWord key) then Map.erase m key else Map.insert m key w

/-- A field of a word. -/
def wordFld (w : Word) (f : FieldRef) : Nat := bitsOf w.toNat f.hi f.lo

/-- A word with one field replaced (the value is cut to the field's width). -/
def wordSet (w : Word) (f : FieldRef) (v : Nat) : Word :=
  let n := w.toNat
  BitVec.ofNat 64 (n - bitsOf n f.hi f.lo * 2 ^ f.lo + (v % 2 ^ f.width) * 2 ^ f.lo)

/-- The parameter as the host has written it or the device reports it. -/
def State.reg (s : State) (key : Nat) : Word := planeGet s.regs key
/-- Replace a parameter. -/
def State.setReg (s : State) (key : Nat) (w : Word) : State := { s with regs := planeSet s.regs key w }
/-- A field of a parameter. -/
def State.fld (s : State) (f : FieldRef) : Nat := wordFld (s.reg f.key) f
/-- A one-bit field of a parameter. -/
def State.bit (s : State) (f : FieldRef) : Bool := s.fld f == 1
/-- A signed field of a parameter. -/
def State.fldI (s : State) (f : FieldRef) : Int := sext f.width (s.fld f)
/-- Replace a field of a parameter. -/
def State.setFld (s : State) (f : FieldRef) (v : Nat) : State := s.setReg f.key (wordSet (s.reg f.key) f v)
/-- Replace a signed field of a parameter. -/
def State.setFldI (s : State) (f : FieldRef) (v : Int) : State := s.setFld f (trunc f.width v)
/-- Add to a field that wraps. -/
def State.addWrap (s : State) (f : FieldRef) (n : Nat) : State := s.setFld f (wrapAdd f.width (s.fld f) n)
/-- Add to a field that saturates. -/
def State.addSat (s : State) (f : FieldRef) (n : Nat) : State := s.setFld f (satAdd f.width (s.fld f) n)

/-- A running count behind an RSN field. -/
def State.liveFld (s : State) (f : FieldRef) : Nat := wordFld (planeGet s.live f.key) f
/-- Replace a running count. -/
def State.setLive (s : State) (f : FieldRef) (v : Nat) : State :=
  { s with live := planeSet s.live f.key (wordSet (planeGet s.live f.key) f v) }
/-- Add to a running count that wraps. -/
def State.liveWrap (s : State) (f : FieldRef) (n : Nat) : State := s.setLive f (wrapAdd f.width (s.liveFld f) n)
/-- Add to a running count that saturates. -/
def State.liveSat (s : State) (f : FieldRef) (n : Nat) : State := s.setLive f (satAdd f.width (s.liveFld f) n)

/-- A field in force since the last frame boundary (R32). -/
def State.forceFld (s : State) (f : FieldRef) : Nat := wordFld (planeGet s.force f.key) f
/-- A one-bit field in force. -/
def State.forceBit (s : State) (f : FieldRef) : Bool := s.forceFld f == 1
/-- A signed field in force. -/
def State.forceI (s : State) (f : FieldRef) : Int := sext f.width (s.forceFld f)
/-- Bring a parameter into force. -/
def State.takeForce (s : State) (key : Nat) : State := { s with force := planeSet s.force key (s.reg key) }
/-- Take the snapshot of an RSN parameter (R12). -/
def State.snapshot (s : State) (key : Nat) : State := s.setReg key (planeGet s.live key)

end Sys2Proof.Machine
end

