-- ==== Sys2Proof/Machine/Flags.lean ====
section
/-! DEFINITION. The W1C flags: setting, clearing, and the counters behind each (00_scope.md R13,
21_startup_and_faults.md R484, R485). -/
namespace Sys2Proof.Machine

/-- Bit `i` of a W1C field of several bits. -/
def FieldRef.bitAt (f : FieldRef) (i : Nat) : FieldRef := ⟨f.key, f.lo + i, f.lo + i⟩

/-- How often a flag has been set, and set while being cleared (R484). `k`: 64 × key + bit. -/
def State.flagCounts (s : State) (k : Nat) : Nat × Nat := Map.get (0, 0) s.flagCnt k

/-- The hardware sets a W1C bit: the bit and SET_COUNT (R484). -/
def State.setFlag (s : State) (f : FieldRef) : State :=
  let k := 64 * f.key + f.lo
  let c := s.flagCounts k
  let s := s.setFld f 1
  { s with flagCnt := Map.set (0, 0) s.flagCnt k (wrapAdd 16 c.1 1, c.2) }

/-- A W1C bit is written 1: cleared, unless the hardware sets it in the same cycle, when it stays set and COINC counts
(R13, R484). -/
def State.clearFlag (s : State) (key bit : Nat) (coinc : Bool) : State :=
  let f : FieldRef := ⟨key, bit, bit⟩
  if coinc then
    let k := 64 * key + bit
    let s := s.setFlag f
    let c := s.flagCounts k
    { s with flagCnt := Map.set (0, 0) s.flagCnt k (c.1, wrapAdd 16 c.2 1) }
  else s.setFld f 0

/-- FLAG_SEL copies a flag's level and counters (R485). -/
def State.flagView (s : State) : State :=
  let k := s.fld P.FLAG_SEL.KEY
  let b := s.fld P.FLAG_SEL.BIT
  let c := s.flagCounts (64 * k + b)
  let s := s.setFld P.FLAG_VIEW.LEVEL (ofBit (bitOf (s.reg k).toNat b))
  (s.setFld P.FLAG_VIEW.SET_COUNT c.1).setFld P.FLAG_VIEW.COINC c.2

end Sys2Proof.Machine
end

