-- ==== Sys2Proof/Machine/Recorder.lean ====
section
/-! DEFINITION. The event recorder: captures, triggers, unloading and the FIFO
(08_mask_tests_and_recorder.md R193 to R204). -/
namespace Sys2Proof.Machine

/-- Replace the recorder. -/
def State.withRec (s : State) (f : Recorder → Recorder) : State := { s with recorder := f s.recorder }
/-- Recorder state (P.0890: 0 IDLE, 1 ARMED, 2 POST, 3 UNLOAD). -/
def State.recSt (s : State) : Nat := s.fld P.REC_STATUS.STATE
/-- Enter a recorder state. -/
def State.setRecSt (s : State) (v : Nat) : State := s.setFld P.REC_STATUS.STATE v

/-- The enabled slots (R193). -/
def State.recEnabled (s : State) : Nat :=
  sumN ((List.range 32).map (fun k => if s.bit ((P.REC_SEL.EN.idx (k / 4)).sub (k % 4) 16) then 2 ^ k else 0))

/-- The level of a source that the device itself drives, at a tick: fire commands, test-pulse supplies and safety outputs (Table
8.2, R206, R329, R332); none for the comparators and the pins, whose levels come from outside. -/
def State.sourceLevel (s : State) (sel t : Nat) : Option Bool :=
  if 400 ≤ sel ∧ sel < 416 then
    some ((Map.find? s.emit_.fired (sel - 400)).any (fun p => decide (p.1 ≤ t ∧ t < p.2)))
  else if 424 ≤ sel ∧ sel < 428 then
    some (!decide ((t + 20000000 - 5000000 * (sel - 424)) % 20000000 < 400000))
  else if 428 ≤ sel ∧ sel < 432 then
    let c := sel - 428
    some (bitOf (s.fld P.SAFETY_STATUS.OUT_ON) (c / 2) &&
      !((Map.get {} s.sup.chans c).pulse.any (fun p => decide (p.1 ≤ t ∧ t < p.2))))
  else none

/-- STATE at a tick: the levels of the enabled slots, from the device where it drives the source, else as `given` (R193).
DESIGN CHOICE (notes/assumptions 46): a tick whose change is known is reported by RECORDER_CHANGE, whoever drives the source. -/
def State.slotState (s : State) (given t : Nat) : Nat :=
  sumN ((List.range 32).map (fun k =>
    let on := s.bit ((P.REC_SEL.EN.idx (k / 4)).sub (k % 4) 16)
    let b := (s.sourceLevel (s.fld ((P.REC_SEL.SEL.idx (k / 4)).sub (k % 4) 16)) t).getD (bitOf given k)
    if on && b then 2 ^ k else 0))

/-- Does a state match the pattern of KIND 5 (Table 8.5)? -/
def State.patOf (s : State) (state : Nat) : Bool := (state &&& s.fld P.REC_PATTERN.PAT_MASK) == s.fld P.REC_PATTERN.PAT_VALUE

/-- COUNT and HEAD_VALID follow the FIFO (R201). -/
def State.recShow (s : State) : State :=
  let f := s.recorder.fifo
  (s.setFld P.REC_STATUS.COUNT f.length).setFld P.REC_STATUS.HEAD_VALID (match f with
    | [] => 0
    | w :: _ => w.valid)

/-- The 14 bytes of a record (Table 8.3). -/
def RecEntry.bytes (e : RecEntry) : List Byte := leBytes 4 e.state ++ leBytes 4 e.pulsed ++ leBytes 6 e.time

/-- Capture bytes as FIFO words; the last is padded and ends the capture (R201). -/
def fifoWords : Nat → List Byte → List FifoWord
  | 0, _ => []
  | f + 1, l =>
    if l.length ≤ 8 then [⟨leNat (padTo 8 l), l.length, true⟩]
    else ⟨leNat (l.take 8), 8, false⟩ :: fifoWords f (l.drop 8)

/-- The 32-byte capture header (Table 8.7). -/
def State.capHeader (s : State) (aborted timeEnd : Bool) : List Byte :=
  let r := s.recorder
  leBytes 4 0x50414352 ++ leBytes 2 r.capSeq ++
  leBytes 1 (ofBit r.short + 2 * ofBit aborted + 4 * ofBit timeEnd + 8 * ofBit r.prevWaited) ++ leBytes 1 r.trigTerms ++
  leBytes 8 r.trigTime ++ leBytes 2 r.pre.length ++ leBytes 2 r.post.length ++
  leBytes 2 (s.fld P.REC_STATUS.MISSED) ++ leBytes 2 r.retrig ++ leBytes 2 r.selVersion ++ leBytes 6 0

/-- Lay out the capture that has ended, once the tick of its end is over: its header, then its records in time order (R200). -/
def State.recLayout (s : State) : State :=
  match s.recorder.ends with
  | none => s
  | some (aborted, timeEnd) =>
    let r := s.recorder
    let recs := r.pre ++ r.post
    let bytes := s.capHeader aborted timeEnd ++ (recs.map RecEntry.bytes).flatten
    (s.withRec fun r => { r with
      unload := fifoWords (bytes.length + 1) bytes, unloadRecs := recs.length, pre := [], post := [], retrig := 0,
      capSeq := wrapAdd 16 r.capSeq 1, prevWaited := false, waited := false, ends := none }).setFld P.REC_STATUS.MISSED 0

/-- Words of the capture flow into the FIFO, one halfword per ns, as long as there is room (R200, R201). DESIGN CHOICE
(notes/assumptions 46): a word is readable as soon as its last halfword is written, as R201 says; the 2 to 8 ns of Table 8.4 are
left out; and a word begins to be written only with room for it. -/
def State.recFlow (s : State) (t : Nat) : State :=
  if s.recSt = 3 ∧ s.recorder.unloadFrom < t then
    let s := s.recLayout
    let r := s.recorder
    let halves := 16 + 7 * r.unloadRecs
    let total := (halves + 3) / 4
    let past := total - r.unload.length
    let have_ := if r.unloadFrom + halves ≤ t then total else (t - r.unloadFrom) / 4
    let room := 16384 - r.fifo.length
    let n := Nat.min (have_ - past) room
    -- where the next word would begin, and whether it waits there
    let start := r.unloadFrom + 4 * (past + n)
    let waits := decide (n = room) && decide (past + n < total) && decide (start < t)
    (s.withRec fun r => { r with
      fifo := r.fifo ++ r.unload.take n, unload := r.unload.drop n,
      unloadFrom := if waits then t - 4 * (past + n) else r.unloadFrom,
      waited := r.waited || waits }).recShow
  else s

/-- The capture ends at `e` and UNLOAD begins (R198, R200). -/
def State.recEnd (s : State) (e : Nat) (aborted timeEnd : Bool) : State :=
  if s.recSt = 2 then
    let s := s.withRec fun r => { r with ends := some (aborted, timeEnd), unloadFrom := e, unload := [] }
    (s.addWrap P.REC_COUNTS.CAPTURES 1).setRecSt 3
  else s

/-- A record after the trigger; POST_DEPTH ends the capture (R198). -/
def State.recPost (s : State) (e : RecEntry) : State :=
  let s := s.withRec fun r => { r with post := r.post ++ [e] }
  if s.fld P.REC_DEPTH.POST_DEPTH ≤ s.recorder.post.length then s.recEnd e.time false false else s

/-- A trigger in ARMED starts a capture (R196, R197, R199): `e` is the record of the trigger tick. -/
def State.recTrigger (s : State) (terms : Nat) (e : RecEntry) : State :=
  let depth := s.fld P.REC_DEPTH.PRE_DEPTH
  let s := s.withRec fun r => { r with
    pre := lastN depth r.pre, trigTime := e.time, trigTerms := terms, retrig := 0,
    short := decide (r.pre.length < depth), post := [] }
  (s.setRecSt 2).recPost e

/-- The levels of the enabled slots are those of `state`. -/
def State.recLevels (s : State) (given state : Nat) : State :=
  s.withRec fun r => { r with levels := (given % 2 ^ 32 &&& (2 ^ 32 - 1 - s.recEnabled)) ||| state }

/-- Enter ARMED at `e`: a record of the current levels begins the pre-trigger history (R199). -/
def State.recArm (s : State) (e : Nat) : State :=
  let state := s.slotState s.recorder.levels e
  ((s.recLevels s.recorder.levels state).withRec fun r =>
    { r with pre := [⟨state, 0, e⟩], post := [], tick := none, patPrev := s.patOf state }).setRecSt 1

/-- Put a trigger tick in its place among those to come. -/
def insertDue (x : Nat × Nat) : List (Nat × Nat) → List (Nat × Nat)
  | [] => [x]
  | y :: l => if x.1 < y.1 then x :: y :: l else y :: insertDue x l

/-- The sources outside the slots that fire at a tick, as TRIG_TERMS: several form one trigger (R196). -/
def Recorder.dueAt (r : Recorder) (t : Nat) : Nat := (r.due.filter (fun d => d.1 == t)).foldl (fun n d => n ||| d.2) 0

/-- A trigger source outside the slots: a mask violation of a cluster (kind 6), a safety output entering its
safe state (7), a fault-log entry (8). It reaches the trigger tick 8 to 40 ns after the event, at a time the
manual leaves open (Table 8.4; notes/assumptions 24). -/
def State.recEvent (s : State) (kind cluster : Nat) : State :=
  let hit := fun i => decide (s.fld (P.REC_TERM.KIND.idx i) = kind) &&
    (decide (kind ≠ 6) || bitOf (s.fld (P.REC_TERM.CLUSTER_MASK.idx i)) cluster)
  let terms := sumN ((List.range 4).map (fun i => if hit i then 2 ^ i else 0))
  if terms = 0 then s
  else
    let (d, s) := s.draw 16
    s.withRec fun r => { r with due := insertDue (s.now + 8 + d % 33, terms) r.due }

/-- Do the slot terms fire at a tick, from its old and new levels, its pulses and the match of the pattern before it
(Table 8.5)? -/
def State.recTerms (s : State) (old new pulsed : Nat) (pat : Bool) : Nat :=
  let one := fun i =>
    let k := s.fld (P.REC_TERM.SLOT.idx i)
    let a := bitOf old k
    let b := bitOf new k
    match s.fld (P.REC_TERM.KIND.idx i) with
    | 1 => !a && b
    | 2 => a && !b
    | 3 => a != b
    | 4 => bitOf pulsed k
    | 5 => s.patOf new && !pat
    | _ => false
  sumN ((List.range 4).map (fun i => if one i then 2 ^ i else 0))

/-- The tick as it stands before a happening at `t`: the one already begun, or a new one. -/
def State.recTickAt (s : State) (t : Nat) : RecTick :=
  let new : RecTick := ⟨t, s.recorder.levels &&& s.recEnabled, s.recorder.patPrev, 0, 0, false⟩
  match s.recorder.tick with
  | some k => if k.at_ = t then k else new
  | none => new

/-- The record of a tick already written takes what has happened since (R194). -/
def setLast (e : RecEntry) (l : List RecEntry) : List RecEntry := l.dropLast ++ [e]

/-- What a tick does in POST, or in the tick that has ended its capture: its trigger is one of RETRIG unless it is the
capture's own, and its record is written once (R194, R196, R197). -/
def State.recInPost (s : State) (k : RecTick) (terms : Nat) (e : RecEntry) : State :=
  let s := s.withRec fun r =>
    if r.trigTime = e.time then { r with trigTerms := terms }
    else if terms ≠ 0 ∧ k.terms = 0 then { r with retrig := satAdd 16 r.retrig 1 } else r
  if k.recorded then s.withRec fun r => { r with post := setLast e r.post }
  else if (e.state ≠ k.old ∨ e.pulsed ≠ 0) ∧ s.recSt = 2 then s.recPost e
  else s

/-- What happens at a tick: levels and pulses of the slots, and the sources outside them. All of one tick are one record and one
trigger (R194, R196). -/
def State.recAct (s : State) (t given new pulsed sources : Nat) : State :=
  let k := s.recTickAt t
  let pu := k.pulsed ||| pulsed
  let terms := k.terms ||| s.recTerms k.old new pu k.pat ||| sources
  let e : RecEntry := ⟨new, pu, t⟩
  let changed := decide (new ≠ k.old) || decide (pu ≠ 0)
  let s := (s.recLevels given new).withRec fun r => { r with
    patPrev := s.patOf new
    tick := some ⟨t, k.old, k.pat, pu, terms,
      k.recorded || (changed && decide (s.recSt = 1 ∨ s.recSt = 2)) || decide (terms ≠ 0 ∧ s.recSt = 1)⟩ }
  match s.recSt with
  | 1 =>
    if terms ≠ 0 then (if k.recorded then s.withRec fun r => { r with pre := r.pre.dropLast } else s).recTrigger terms e
    else if k.recorded then s.withRec fun r => { r with pre := setLast e r.pre }
    else if changed then s.withRec fun r => { r with pre := lastN 4097 (r.pre ++ [e]) }
    else s
  | 2 => s.recInPost k terms e
  | 3 =>
    if s.recorder.ends.isSome ∧ s.recorder.unloadFrom = t then s.recInPost k terms e
    else if terms ≠ 0 ∧ k.terms = 0 then s.addSat P.REC_STATUS.MISSED 1
    else s
  | _ => s

/-- The trigger ticks before `lim`, in their order. -/
def State.recDue (lim : Nat) : Nat → State → State
  | 0, s => s
  | n + 1, s => match s.recorder.due with
    | [] => s
    | (d, _) :: _ =>
      if lim ≤ d then s
      else
        let terms := s.recorder.dueAt d
        let s := (s.recFlow d).withRec fun r => { r with due := r.due.filter (fun x => x.1 != d) }
        State.recDue lim n (s.recAct d s.recorder.levels (s.slotState s.recorder.levels d) 0 terms)

/-- The recorder comes to the tick `t`: trigger ticks before `lim` have acted, and the FIFO has what has flowed. -/
def State.recTo (s : State) (lim t : Nat) : State := (State.recDue lim s.recorder.due.length s).recFlow t

/-- RECORDER_CHANGE: levels and pulses of a tick (R194, R196). All sources that fire in it form one trigger. -/
def execRecorderChange (t levels pulsed : Nat) (s : State) : Result :=
  if s.ctl.por then .next s else
  let s := (s.at_ t).recTo t t
  let sources := s.recorder.dueAt t
  let s := s.withRec fun r => { r with due := r.due.filter (fun x => x.1 != t) }
  .next (s.recAct t levels (s.slotState levels t) (pulsed % 2 ^ 32 &&& s.recEnabled) sources)

/-- CAPTURE_END: POST_TIME has passed since the trigger tick (R198). -/
def execCaptureEnd (t : Nat) (s : State) : Result :=
  if s.ctl.por then .next s else
  let s := s.at_ t
  let lim := s.fld P.REC_DEPTH.POST_TIME
  let e := s.recorder.trigTime + lim
  let s := s.recTo e t
  if s.recSt = 2 ∧ lim ≠ 0 ∧ e ≤ t then .next (s.recEnd e false true) else .next s

/-- RECORDER_REARM: unloading is complete, 48 + 7 R ns after the end of the capture and all waits for room (R200). -/
def execRecorderRearm (t : Nat) (s : State) : Result :=
  if s.ctl.por then .next s else
  let s := (s.at_ t).recFlow t
  let e := s.recorder.unloadFrom + 48 + 7 * s.recorder.unloadRecs
  if s.recSt = 3 ∧ s.recorder.unload.isEmpty ∧ e ≤ t then
    let s := s.recTo e t
    let s := s.withRec fun r => { r with prevWaited := r.waited, waited := false, unloadRecs := 0 }
    if s.bit P.REC_CTRL.EN ∧ s.bit P.REC_CTRL.MODE then .next (s.recArm e) else .next (s.setRecSt 0)
  else .next s

/-- Remove and return the head word, or underrun (R202, R203). -/
def State.recRead (s : State) : Word × State :=
  let s := s.recTo (s.now + 1) s.now
  match (if s.bit P.REC_CTRL.DRAIN then [] else s.recorder.fifo) with
  | [] => (BitVec.ofNat 64 s.recorder.lastWord, (s.setFlag P.REC_STATUS.UNDERRUN).addWrap P.REC_COUNTS.UNDERRUNS 1)
  | w :: rest => (BitVec.ofNat 64 w.word, (s.withRec fun r => { r with fifo := rest, lastWord := w.word }).recShow)

/-- A write of REC_CTRL that covers EN: EN = 1 arms, EN = 0 ends a capture in POST or returns to IDLE
(R197, R198, R204). -/
def State.recEnable (s : State) (on : Bool) : State :=
  let s := s.recTo (s.now + 1) s.now
  if on then (if s.recSt = 0 then s.recArm s.now else s)
  else match s.recSt with
    | 1 => (s.withRec fun r => { r with pre := [] }).setRecSt 0
    | 2 => s.recEnd s.now true false
    | _ => s

/-- SW_TRIG: a trigger source at this tick (R196). -/
def State.recSwTrig (s : State) : State :=
  let s := s.recTo (s.now + 1) s.now
  s.recAct s.now s.recorder.levels (s.slotState s.recorder.levels s.now) 0 16

/-- STOP ends a capture in POST (R198). -/
def State.recStop (s : State) : State :=
  let s := s.recTo (s.now + 1) s.now
  s.recEnd s.now true false

/-- A write of REC_SEL or REC_PATTERN: what the pattern finds in the present levels is nothing new (Table 8.5). -/
def State.recPattern (s : State) : State :=
  let state := s.slotState s.recorder.levels s.now
  (s.recLevels s.recorder.levels state).withRec fun r => { r with patPrev := s.patOf state }

end Sys2Proof.Machine
end

