-- ==== Sys2Proof/Machine/Ops.lean ====
section
/-! DEFINITION. Records and notices, gait figures and the sweep grid, messages to the host: operations shared by
the meanings of many chapters. -/
namespace Sys2Proof.Machine

/-- Is a record one of the `n` whose SEQ begins at `seq`? -/
def Record.among (seq n : Nat) (r : Record) : Bool := decide (wrapAdd 32 r.seq (2 ^ 32 - seq) < n)

/-- The `n` records whose SEQ begins at `seq` move on by one (R478). -/
def renumber (seq n : Nat) (l : List Record) : List Record :=
  l.map (fun x => if x.among seq n then { x with seq := wrapAdd 32 x.seq 1 } else x)

/-- Put a record among records in the order of their SEQ, before the `n` that follow it (R478). -/
def insertRecord (r : Record) (n : Nat) (l : List Record) : List Record :=
  l.filter (fun x => !x.among (wrapAdd 32 r.seq 1) n) ++ r :: l.filter (fun x => x.among (wrapAdd 32 r.seq 1) n)

/-- Put a record into the notice queue, or count it as lost where the queue is full (R483). -/
def State.queueNotice (s : State) (r : Record) (n : Nat) : State :=
  if s.recs.queue.length < 64 then { s with recs := { s.recs with queue := insertRecord r n s.recs.queue } }
  else { s with recs := { s.recs with held := s.recs.held + 1 } }

/-- Put a record into the fault log, overwriting the oldest of 64 (R480). -/
def State.logRecord (s : State) (r : Record) (n : Nat) : State :=
  if s.recs.log.length < 64 then { s with recs := { s.recs with log := insertRecord r n s.recs.log } }
  else
    let s := { s with recs := { s.recs with log := (insertRecord r n s.recs.log).drop 1 } }
    s.addWrap P.FAULT_LOG_STATUS.OVERWRITTEN 1

/-- The KINDs of the records formed so far in the present cycle of the record unit, in the order of their SEQ. DESIGN CHOICE
(notes/assumptions 50): causes of one system time reach the record unit in one cycle of its clock (R478, R508). -/
def State.formedNow (s : State) : List Nat := if s.recs.formedAt = s.now then s.recs.formed else []

/-- The records formed so far keep their SEQ: the next one is of another cycle. -/
def State.seqFixed (s : State) : State := { s with recs := { s.recs with formed := [] } }

/-- Form one record and send it where Table 21.6 says. Its SEQ is the next one, but before that of the records of its cycle with
greater KIND (R478). -/
def State.record (s : State) (kind cls : Nat) (log notice : Bool) (data : List Byte) : State :=
  let same := s.formedNow
  let next := s.fld P.FAULT_LOG_STATUS.NEXT_SEQ
  let n := (same.filter (fun k => decide (kind < k))).length
  let r : Record := ⟨kind, cls, 2 * ofBit log + ofBit notice, wrapAdd 32 next (2 ^ 32 - n), s.now, padTo 16 data⟩
  let s := s.setFld P.FAULT_LOG_STATUS.NEXT_SEQ (wrapAdd 32 next 1)
  let s := { s with recs := { s.recs with
    formedAt := s.now, formed := same.filter (fun k => decide (k ≤ kind)) ++ kind :: same.filter (fun k => decide (kind < k))
    log := renumber r.seq n s.recs.log, queue := renumber r.seq n s.recs.queue } }
  let s := if log then (s.logRecord r n).recEvent 8 0 else s
  if notice then s.queueNotice r n else s

/-- Form the NOTICE_OVERFLOW record as soon as the queue has room (R483). -/
def State.flushHeld (s : State) : State :=
  let n := s.recs.held
  if n = 0 ∨ 64 ≤ s.recs.queue.length then s
  else
    let s := { s with recs := { s.recs with held := 0 } }
    let s := s.addWrap P.FAULT_LOG_STATUS.NOTICE_OVERFLOWS n
    s.record 0x1501 13 false true (leBytes 4 n)

/-- Discard every waiting notice; they count as overflowed (R421, R472, R474, R483). -/
def State.dropNotices (s : State) : State :=
  let n := s.recs.queue.length
  ({ s with recs := { s.recs with queue := [], held := s.recs.held + n } }).flushHeld

/-- The 32 bytes of a record (Table 21.5). -/
def Record.bytes (r : Record) : List Byte :=
  leBytes 2 r.kind ++ leBytes 1 r.cls ++ leBytes 1 r.flags ++ leBytes 4 r.seq ++ leBytes 8 r.time ++ padTo 16 r.data

/-- Gait figures (Table 0.3): frame rate in Hz. -/
def gaitF (g : Nat) : Nat := match g with | 0 => 10 | 1 => 20 | 2 => 30 | _ => 60
/-- Columns per frame. -/
def gaitC (g : Nat) : Nat := match g with | 3 => 1200 | _ => 1600
/-- Pulses per point. -/
def gaitN (g : Nat) : Nat := match g with | 0 => 24 | 1 => 12 | 2 => 8 | _ => 5
/-- Column period in ns (R19). -/
def gaitT (g : Nat) : Nat := match g with | 0 => 56250 | 1 => 28125 | 2 => 18750 | _ => 12500
/-- Longest turnaround in ns (Table 2.1). -/
def gaitTau (g : Nat) : Nat := match g with | 0 => 10000000 | 1 => 5000000 | 2 => 3333334 | _ => 1666667
/-- One more than the largest frame phase (R34). -/
def gaitPhi (g : Nat) : Nat := 2000000000 / gaitF g
/-- The nominal start t_k of sweep `k`, any integer (R33). -/
def sweepStartI (g phi : Nat) (k : Int) : Int := (phi : Int) + k * 1000000000 / (gaitF g : Int)
/-- The same as a system time: no sweep of a device starts before time 0. -/
def sweepStart (g phi : Nat) (k : Int) : Nat := (sweepStartI g phi k).toNat
/-- The sweep whose nominal start is the last at or before `t` (R33). -/
def sweepAt (g phi : Nat) (t : Int) : Int := ((t - phi + 1) * gaitF g - 1) / 1000000000
/-- The end of the active part of sweep `k` (R32). -/
def sweepEnd (g phi : Nat) (k : Int) : Nat := sweepStart g phi k + gaitC g * gaitT g

/-- The gait of the current frame. -/
def State.gait (s : State) : Nat := s.fld P.GAIT.GAIT_CUR
/-- The frame phase in use (R45: PHASE reads the φ in use). -/
def State.phi (s : State) : Nat := s.fld P.FRAME_SYNC.PHASE
/-- The nominal start of the current sweep. -/
def State.tk (s : State) : Nat := sweepStart s.gait s.phi s.scan.k
/-- The frame number as it runs. -/
def State.frameNo (s : State) : Nat := s.liveFld P.FRAME.FRAME_NO
/-- The device identity. -/
def State.devId (s : State) : Nat := s.fld P.DEV_ID.DEV_ID

/-- Is the link able to move TLPs (R380, R381)? -/
def State.linkUp (s : State) : Bool := s.bit P.LINK_CTRL.LINK_UP && !s.host.retraining

/-- Is a switched domain on (Table 20.6)? -/
def State.domOn (s : State) (b : Nat) : Bool := bitOf (s.fld P.PWR_STATUS.DOMAIN_ON) b

/-- The column that accumulates: the oldest not handed off. -/
def State.openCol (s : State) : Option Column := s.scan.columns.find? (fun c => c.handoff.isNone)

/-- Has an orderly stop begun, or does it begin now: at the hand-off of the column that was in progress at the decision,
or at once where none was (R464)? -/
def State.stopBegun (s : State) : Bool :=
  match s.power.stop with
  | some x => x.begun || x.col.isNone || (s.openCol.map fun c => (c.frame, c.seq)) != x.col
  | none => false

/-- Is THERMAL present: a stop has begun or a cut is decided, and RESUME has not been given (R464 to R466)? -/
def State.thermalPresent (s : State) : Bool := decide (3 ≤ s.fld P.THERM_STATUS.THERM_STATE) || s.stopBegun

/-- A computation of a result slot starts: READY stays (Table 7.7). -/
def State.slotStart (s : State) (hdr : Nat) : State :=
  if s.fld ⟨hdr, 47, 46⟩ = 2 then s.setFld ⟨hdr, 47, 46⟩ 0 else s
/-- A result slot completes: SEQ + 1, READY (Table 7.7). -/
def State.slotDone (s : State) (hdr : Nat) : State := (s.addWrap ⟨hdr, 63, 48⟩ 1).setFld ⟨hdr, 47, 46⟩ 1
/-- The header of a result slot is read (Table 7.7). -/
def State.slotRead (s : State) (hdr : Nat) : State :=
  if s.fld ⟨hdr, 47, 46⟩ = 1 then s.setFld ⟨hdr, 47, 46⟩ 2 else s

/-- MSI-X of a function. -/
def State.msixOf (s : State) (fn : Nat) : Msix := if fn = 0 then s.host.msix0 else s.host.msix1
/-- Replace it. -/
def State.setMsix (s : State) (fn : Nat) (m : Msix) : State :=
  { s with host := if fn = 0 then { s.host with msix0 := m } else { s.host with msix1 := m } }
/-- May a vector's message leave now: TLPs move, and neither the function nor the vector is masked (R381, R385)? PRESUMED
(notes/assumptions 51): the meaning of the table's words and of the masks is that of the PCIe standard. -/
def State.msixFree (s : State) (fn vec : Nat) : Bool :=
  let m := s.msixOf fn
  s.linkUp && m.on && !m.mask && !bitOf (Map.get 0 m.words (2 * vec + 1)).toNat 32
/-- The message of a vector. -/
def Msix.message (m : Msix) (fn vec : Nat) : Out :=
  .msix fn vec (Map.get 0 m.words (2 * vec)).toNat ((Map.get 0 m.words (2 * vec + 1)).toNat % 2 ^ 32)
/-- A vector has a cause (R385): its message goes out, or is pending until it may; the host sees nothing while the link is
down. -/
def State.msix (s : State) (fn vec : Nat) : State :=
  let m := s.msixOf fn
  if !s.bit P.LINK_CTRL.LINK_UP then s
  else if s.msixFree fn vec then s.emit (m.message fn vec)
  else s.setMsix fn { m with pending := m.pending ||| 2 ^ vec }
/-- Messages that were pending go out, where they may now. -/
def State.msixFlush (s : State) (fn : Nat) : State :=
  forEach (maskBits 64 (s.msixOf fn).pending) (fun v s =>
    if s.msixFree fn v then
      let m := s.msixOf fn
      (s.setMsix fn { m with pending := m.pending - 2 ^ v }).emit (m.message fn v)
    else s) s

/-- Count a column of region `r` lost whole (R174, R176, Table 7.14, R178, Table 21.6). `stales`: its index becomes stale. -/
def State.columnLost (s : State) (r frame column : Nat) (stales : Bool) : State :=
  let g := Map.get {} s.streams r
  let s := s.liveWrap (P.STREAM_LOSS.LOST_COLS.idx r) 1
  let first := !g.lossNoted
  let g := { g with lostBefore := satAdd 16 g.lostBefore 1, curLost := g.curLost + 1, lossNoted := true,
                    stale := if stales then Map.set false g.stale column true else g.stale }
  let s := { s with streams := Map.set {} s.streams r g }
  if first then
    (s.setFlag (P.STREAM_FLAGS.RING_LOST.bitAt r)).record 0x0702 13 false true
      (leBytes 1 r ++ leBytes 4 frame ++ leBytes 2 column)
  else s

end Sys2Proof.Machine
end

