-- ==== Sys2Proof/Machine/Buffers.lean ====
section
/-! DEFINITION. The histogram buffers: bin words and their check byte, states and freeze causes
(04_moment_histograms.md R85 to R100). -/
namespace Sys2Proof.Machine

/-- The 8-bit values with exactly three bits set, in increasing order (R92, Table 4.4). -/
def checkColumns : List Nat := (List.range 256).filter (fun v => (maskBits 8 v).length == 3)

/-- The check byte of data bits [55:0] (R92). -/
def checkByte (data : Nat) : Nat :=
  (List.zipWith (fun d h => if bitOf data d then h else 0) (List.range 56) checkColumns).foldl (· ^^^ ·) 0

/-- What reading a stored word gives (Table 4.5). -/
inductive Decoded where
  | clean (data : Nat)
  | corrected (data : Nat)
  | uncorrectable
  deriving DecidableEq, Repr

/-- Decode a stored word by its syndrome (R93). -/
def decodeWord (w : Word) : Decoded :=
  let data := w.toNat % 2 ^ 56
  let syn := checkByte data ^^^ (w.toNat / 2 ^ 56)
  let ones := (maskBits 8 syn).length
  if syn = 0 then .clean data
  else if ones = 1 then .corrected data
  else if ones = 3 then
    match (checkColumns.take 56).idxOf? syn with
    | some d => .corrected (data ^^^ 2 ^ d)
    | none => .uncorrectable
  else .uncorrectable

/-- A word with a fresh check byte. -/
def encodeWord (data : Nat) : Word := BitVec.ofNat 64 (data % 2 ^ 56 + checkByte (data % 2 ^ 56) * 2 ^ 56)

/-- Fields of a bin word (Table 4.1). -/
def binCount (d : Nat) : Nat := bitsOf d 11 0
/-- Sum of residuals. -/
def binRsum (d : Nat) : Nat := bitsOf d 29 12
/-- Sum of squared residuals. -/
def binQsum (d : Nat) : Nat := bitsOf d 53 30
/-- Saturation mark. -/
def binSat (d : Nat) : Bool := bitOf d 54
/-- Credit-drop mark. -/
def binPile (d : Nat) : Bool := bitOf d 55
/-- The data bits of a bin word. -/
def binData (count rsum qsum : Nat) (sat pile : Bool) : Nat :=
  count + rsum * 2 ^ 12 + qsum * 2 ^ 30 + ofBit sat * 2 ^ 54 + ofBit pile * 2 ^ 55

/-- A buffer, keyed 2 x channel + buffer. -/
def State.buf (s : State) (k : Nat) : Buf := Map.get {} s.hist.bufs k
/-- Replace a buffer's record. -/
def State.setBuf (s : State) (k : Nat) (b : Buf) : State :=
  { s with hist := { s.hist with bufs := Map.set {} s.hist.bufs k b } }

/-- Is the row of a bin valid (R99)? -/
def State.rowValid (s : State) (k bin : Nat) : Bool := Map.get false s.hist.rows (256 * k + bin / 16)

/-- The stored word of a bin, an invalid row reading as empty (R99). -/
def State.binWord (s : State) (k bin : Nat) : Word :=
  if s.rowValid k bin then Map.get 0 s.hist.words (4096 * k + bin) else 0

/-- Write a bin word; into an invalid row it first writes the other 15 words empty (R99). -/
def State.setBinWord (s : State) (k bin : Nat) (w : Word) : State :=
  let base := 4096 * k + 16 * (bin / 16)
  let words :=
    if s.rowValid k bin then s.hist.words
    else s.hist.words.filter (fun e => decide (e.1 < base ∨ base + 16 ≤ e.1))
  { s with hist := { s.hist with words := Map.set 0 words (4096 * k + bin) w,
                                 rows := Map.set false s.hist.rows (256 * k + bin / 16) true } }

/-- The fill start of a buffer for a column (R98): from READ it clears its valid bits and POISON mark. A
buffer whose last freeze cause cleared in the same cycle waits for its next fill start (Table 4.7). -/
def State.fillStart (s : State) (k t : Nat) (m : BufMeta) : State :=
  let b := s.buf k
  if b.st = .read ∧ b.freedAt ≠ some t then
    let s := { s with hist := { s.hist with
      words := s.hist.words.filter (fun e => decide (e.1 / 4096 ≠ k)),
      rows := s.hist.rows.filter (fun e => decide (e.1 / 256 ≠ k)) } }
    s.setBuf k { st := .filling, content := m }
  else s

/-- Set a freeze cause: the buffer is FROZEN while either cause is set (R100). -/
def State.freeze (s : State) (k : Nat) (mask : Bool) : State :=
  let b := s.buf k
  let b := if mask then { b with mask := true, maskAt := some s.now } else { b with dump := true }
  let s := s.setBuf k (match b.st with
    | .handed | .read => { b with st := .frozen }
    | _ => b)
  let s := if mask ∧ (s.buf k).st = .frozen then
      { s with hist := { s.hist with maskSeen := Map.set false s.hist.maskSeen (k / 2) true } }
    else s
  if (s.buf (k / 2 * 2)).st = .frozen ∧ (s.buf (k / 2 * 2 + 1)).st = .frozen then
    { s with hist := { s.hist with bothFrozen := Map.set false s.hist.bothFrozen (k / 2) true } }
  else s

/-- Clear a freeze cause; with both clear a FROZEN buffer returns to READ (R100). -/
def State.unfreeze (s : State) (k : Nat) (mask : Bool) : State :=
  let b := s.buf k
  let b := if mask then { b with mask := false, maskAt := none } else { b with dump := false }
  s.setBuf k (if b.st = .frozen ∧ !b.mask ∧ !b.dump then { b with st := .read, freedAt := some s.now } else b)

/-- Is a buffer FROZEN? -/
def State.isFrozen (s : State) (k : Nat) : Bool := (s.buf k).st == .frozen

/-- Has a mask test frozen a buffer of a channel, not yet released (R25)? -/
def State.maskFrozen (s : State) (c : Nat) : Bool := [2 * c, 2 * c + 1].any (fun k => s.isFrozen k && (s.buf k).mask)

/-- Channels with at least one and with both buffers FROZEN (Table 4.20). -/
def State.frozenCounts (s : State) : Nat × Nat :=
  let fr := (s.hist.bufs.filter (fun e => e.2.st == .frozen)).map (fun e => e.1 / 2)
  let any := fr.eraseDups
  (any.length, fr.length - any.length)

/-- Count an uncorrectable word of a cluster; the first of the frame sets the flag and posts the notice
(R94, R96). -/
def State.poison (s : State) (c buf frame : Nat) : State :=
  let k := c / 32
  let s := s.liveWrap (P.ECC_COUNT.UNCORRECTABLE.idx k) 1
  let s := s.setBuf (2 * c + buf) { s.buf (2 * c + buf) with poison := true }
  if bitOf s.hist.poisonSeen k then s
  else
    let s := { s with hist := { s.hist with poisonSeen := s.hist.poisonSeen + 2 ^ k } }
    (s.setFlag P.HIST_FLAGS.HIST_POISON_SEEN).record 0x0401 13 false true
      (leBytes 1 k ++ leBytes 2 c ++ leBytes 1 buf ++ leBytes 4 frame)

end Sys2Proof.Machine
end

