-- ==== Sys2Proof/Machine/Emitters.lean ====
section
/-! DEFINITION. The emitter gate, the chargers and the exposure budget (09_emitters_and_chargers.md). -/
namespace Sys2Proof.Machine

/-- A charger's own record. -/
def State.charger (s : State) (k : Nat) : Charger := Map.get {} s.emit_.chargers k
/-- Replace it. -/
def State.setCharger (s : State) (k : Nat) (c : Charger) : State :=
  { s with emit_ := { s.emit_ with chargers := Map.set {} s.emit_.chargers k c } }
/-- Charger state (P.0908: 0 OFF, 1 SOFT_START, 2 RAMP, 3 REGULATE, 4 FAULT). -/
def State.chgState (s : State) (k : Nat) : Nat := s.fld (P.CHG_STATUS.STATE.idx k)
/-- Enter a charger state. -/
def State.setChgState (s : State) (k v : Nat) : State := s.setFld (P.CHG_STATUS.STATE.idx k) v
/-- In SOFT_START, RAMP or REGULATE. -/
def State.chgActive (s : State) (k : Nat) : Bool := decide (1 ≤ s.chgState k) && decide (s.chgState k ≤ 3)
/-- The latest feedback code c (R207). -/
def State.chgCode (s : State) (k : Nat) : Nat := s.fld (P.CHG_STATUS.MEAS.idx k)
/-- The exposure window of a bank: 17 slots, newest first. -/
def State.window (s : State) (b : Nat) : List Nat := Map.get [] s.emit_.windows b
/-- The window sum ACC (R218). -/
def State.acc (s : State) (b : Nat) : Nat := sumN (s.window b)
/-- The warning state: a die sensor at or above the warning threshold, whatever an orderly stop or a cut does (R222, R461). -/
def State.thermWarn (s : State) : Bool := s.power.warn
/-- The emitter gate for bank `b`, but for the sweep and exposure conditions (Table 9.3). -/
def State.gateOpen (s : State) (b : Nat) : Bool :=
  s.bit P.EMIT_CTRL.EMIT_EN && bitOf (s.fld P.EMIT_CTRL.BANK_EN) b && s.chgActive (b / 4) &&
    !s.thermalPresent && !s.mirror.inhibit

/-- CHG_EN of a charger, with the time since when it is high. -/
def Charger.drive (c : Charger) (v : Bool) (t : Nat) : Charger :=
  { c with chgEn := v, enSince := if v then (if c.chgEn then c.enSince else some t) else none }

/-- A change of EMIT_EN or CH_EN moves the charger by Table 9.4; a LATCHED charger is not started again
(R217, notes/assumptions 21). While the emitter and mirror domain is off every charger is OFF (R457). -/
def State.chargerEnable (s : State) (k : Nat) : State :=
  let on := s.bit P.EMIT_CTRL.EMIT_EN && s.bit (P.CHG_SET.CH_EN.idx k) && s.domOn 33
  if on then
    if s.chgState k = 0 ∧ !s.bit (P.CHG_STATUS.LATCHED.idx k) then
      (s.setChgState k 1).setCharger k { s.charger k with loadDue := true }
    else s
  else (s.setChgState k 0).setCharger k ((s.charger k).drive false s.now)

/-- RUNAWAY, EXT, TIMEOUT and OV as bits of FAULT_CAUSE [63:60]. -/
def causeOV : Nat := 1
/-- CHG_EN high too long. -/
def causeTimeout : Nat := 2
/-- CHG_FLT_N low. -/
def causeExt : Nat := 4
/-- Uncommanded emissions. -/
def causeRunaway : Nat := 8

/-- A charger fault is registered (R216, R217): CHG_EN falls, an active charger enters FAULT (which inhibits the banks) and is
LATCHED at the third time within 10 s; then the flags, the cause and the record. DEDUCED (notes/assumptions 47): a charger in OFF
stays OFF, as Table 9.4 has no other way, and one in FAULT stays there; the cause and the event are reported all the same (R214,
R217). `banks`: RUNAWAY banks. -/
def State.chargerFault (s : State) (k cause banks : Nat) : State :=
  let c := s.charger k
  let times := ((s.now : Int) :: c.faultTimes).filter (fun t => decide ((s.now : Int) < t + 10000000000))
  let s :=
    if s.chgActive k then
      let s := s.setCharger k { c.drive false s.now with
        faultTimes := times, loadDue := false, lastCause := some s.now, faultSeen := true }
      let s := s.setChgState k 4
      if 3 ≤ times.length then s.setFld (P.CHG_STATUS.LATCHED.idx k) 1 else s
    else s.setCharger k { c with lastCause := some s.now, faultSeen := true }
  let s := s.setFld (P.CHG_STATUS.FAULT_CAUSE.idx k) cause
  let s := s.setFlag (P.EMIT_FLAGS.CHG_FAULT.bitAt k)
  let s := forEach (maskBits 16 banks) (fun b s => s.setFlag (P.EMIT_FLAGS.RUNAWAY.bitAt b)) s
  s.record 0x0901 2 true true (leBytes 1 k ++ leBytes 1 cause ++ leBytes 2 (s.chgCode k) ++ leBytes 2 banks)

/-- `ceil (17 * EXP_SLOT * 1000 * N / T)` (R221). -/
def pWin (slot gait : Nat) : Nat := (17 * slot * 1000 * gaitN gait + gaitT gait - 1) / gaitT gait

/-- The budget cap of a charger in the gait (R221). -/
def State.budgetCap (s : State) (k gait : Nat) : Nat :=
  let band := s.fld (P.CHG_SET.BAND.idx k)
  let banks := (List.range 4).map (· + 4 * k) |>.filter (fun b => bitOf (s.fld P.EMIT_CTRL.BANK_EN) b)
  let vbud := fun b => isqrt (s.fld (P.EXP_BUDGET.BUDGET.idx b) / pWin (s.forceFld P.EXP_CFG.EXP_SLOT) gait) - (band + 1) / 2
  if banks.isEmpty then 12000 else banks.foldl (fun m b => Nat.min m (vbud b)) (2 ^ 64)

/-- Form the effective target of a charger (R222). -/
def State.targetForm (s : State) (gait k : Nat) : State :=
  let sp := s.fld (P.CHG_SET.SETPOINT.idx k)
  let adapting := bitOf (s.forceFld P.ADAPT_CFG.ADAPT_EN) k && !bitOf (s.forceFld P.ADAPT_CFG.FIX) k
  let adapt := if adapting then s.fld (P.ADAPT_VIEW.A.sub k 16) else sp
  let cap := s.budgetCap k gait
  let therm := if s.thermWarn then s.fld P.CHG_LIMITS.THERM_CAP else 12000
  let req := Nat.min sp adapt
  let tgt := Nat.min req (Nat.min cap therm)
  let byBudget := decide (cap < req) && decide (cap = tgt)
  let byTherm := decide (therm < req) && decide (therm = tgt)
  let old := s.fld (P.CHG_STATUS.TGT.idx k)
  let s := s.setFld (P.CHG_STATUS.TGT.idx k) tgt
  let s := s.setFld (P.CHG_STATUS.CLAMP_CAUSE.idx k) (ofBit byBudget + 2 * ofBit byTherm)
  let s := if byBudget || byTherm then s.setFlag (P.EMIT_FLAGS.POLICY_CLAMPED.bitAt k) else s
  if s.chgState k = 3 ∧ tgt ≠ old then s.setChgState k 2 else s

/-- Form every charger's target (R222). -/
def State.targetsForm (s : State) (gait : Nat) : State := forUpto 4 (fun k s => s.targetForm gait k) s

/-- The adaptive value at a frame boundary (R223). -/
def State.adaptUpdate (s : State) (k : Nat) : State :=
  let c := s.charger k
  let f := P.ADAPT_VIEW.A.sub k 16
  let sp := s.fld (P.CHG_SET.SETPOINT.idx k)
  if bitOf (s.forceFld P.ADAPT_CFG.ADAPT_EN) k ∧ !bitOf (s.forceFld P.ADAPT_CFG.FIX) k then
    let a := s.fld f
    let step := s.forceFld P.ADAPT_CFG.ADAPT_STEP
    let (a, q) :=
      if s.forceFld P.ADAPT_CFG.ADAPT_SAT ≤ c.satCols then
        (Nat.max (s.forceFld (P.ADAPT_MIN.MIN.sub k 16)) (a - step), 0)
      else if s.forceFld P.ADAPT_CFG.ADAPT_HOLD ≤ c.quiet + 1 then (a + step, 0) else (a, c.quiet + 1)
    (s.setFld f (Nat.min a sp)).setCharger k { c with quiet := q, satCols := 0, satLast := none }
  else
    let s := if bitOf (s.forceFld P.ADAPT_CFG.FIX) k then s.setFld f sp else s
    s.setCharger k { c with satCols := 0, satLast := none }

/-- FIX in force holds A at SETPOINT, so A follows every write of it (R224). -/
def State.adaptFix (s : State) (k : Nat) : State :=
  if bitOf (s.forceFld P.ADAPT_CFG.FIX) k then s.setFld (P.ADAPT_VIEW.A.sub k 16) (s.fld (P.CHG_SET.SETPOINT.idx k)) else s

/-- ADAPT_CFG and ADAPT_MIN come into force; A starts at SETPOINT where ADAPT_EN or FIX changes (R223, R224). -/
def State.adaptTake (s : State) : State :=
  let changed := fun k => (bitOf (s.forceFld P.ADAPT_CFG.ADAPT_EN) k != bitOf (s.fld P.ADAPT_CFG.ADAPT_EN) k) ||
    (bitOf (s.forceFld P.ADAPT_CFG.FIX) k != bitOf (s.fld P.ADAPT_CFG.FIX) k)
  let s' := forUpto 4 (fun k s => if changed k then
    (s.setFld (P.ADAPT_VIEW.A.sub k 16) (s.fld (P.CHG_SET.SETPOINT.idx k))).setCharger k { s.charger k with quiet := 0 } else s) s
  (s'.takeForce K.ADAPT_CFG).takeForce K.ADAPT_MIN

/-- EXP_SLOT comes into force; a change empties every accumulator (R220). -/
def State.expTake (s : State) : State :=
  if s.fld P.EXP_CFG.EXP_SLOT = s.forceFld P.EXP_CFG.EXP_SLOT then s
  else { s.takeForce K.EXP_CFG with emit_ := { s.emit_ with windows := [] } }

/-- The reserve check of a bank at a column trigger (R219), in quarters so that half codes are exact. -/
def State.reserveFails (s : State) (b gait : Nat) : Bool :=
  let k := b / 4
  let c2 := Nat.max (2 * s.chgCode k) (2 * s.fld (P.CHG_STATUS.TGT.idx k) + s.fld (P.CHG_SET.BAND.idx k))
  decide (4 * s.fld (P.EXP_BUDGET.BUDGET.idx b) < 4 * s.acc b + gaitN gait * (c2 * c2))

/-- Add a fired pulse's weight to its bank's window (R218). -/
def State.addWeight (s : State) (b w : Nat) : State :=
  let l := match s.window b with
    | [] => [w]
    | x :: xs => (x + w) :: xs
  { s with emit_ := { s.emit_ with windows := Map.set [] s.emit_.windows b l } }

/-- The charger set-point V of a column (R215). -/
def State.chgVolts (s : State) (k : Nat) : Nat := (s.fld (P.CHG_STATUS.REF.idx k) + 50) / 100

/-- CHARGER_SAMPLE: the feedback code, the overvoltage count and the hysteretic law (R207, R210, Table 9.6). -/
def execChargerSample (t charger code : Nat) (fltLow : Bool) (s : State) : Result :=
  if s.ctl.por then .next s else
  if t % 20 ≠ 0 ∨ 4 ≤ charger ∨ 16384 ≤ code then .next s
  else
    let s := s.at_ t
    let k := charger
    let s := s.setFld (P.CHG_STATUS.MEAS.idx k) code
    let c := s.charger k
    let run := if s.fld P.CHG_LIMITS.OV_LIMIT < code then c.ovRun + 1 else 0
    let c := { c with codes := ((t, code) :: c.codes).take 17, ovRun := run, fltLow := fltLow }
    let s := s.setCharger k c
    -- one excess is one fault; a charger that starts in it faults at once
    if run = 3 ∨ (3 ≤ run ∧ s.chgActive k) then .next (s.chargerFault k causeOV 0)
    else if s.chgActive k then
      let ref := s.fld (P.CHG_STATUS.REF.idx k)
      let band := s.fld (P.CHG_SET.BAND.idx k)
      let c := if 2 * code + band < 2 * ref then c.drive true t
        else if 2 * ref + band < 2 * code then c.drive false t else c
      .next (s.setCharger k c)
    else .next (s.setCharger k (c.drive false t))

/-- One charger at a 1 µs tick: the load of a soft start, then the ramp (R211, R213, Table 9.4). -/
def State.rampOne (t k : Nat) (s : State) : State :=
  if s.chgActive k then
    let c := s.charger k
    let tgt := 100 * s.fld (P.CHG_STATUS.TGT.idx k)
    let slew := s.fld (P.CHG_SET.SLEW.idx k)
    let ref :=
      if c.loadDue then 100 * sumN ((c.codes.filter (fun e => decide (e.1 < t) && decide (t ≤ e.1 + 320))).map (·.2)) / 16
      else if c.refF < tgt then Nat.min tgt (c.refF + slew)
      else if tgt < c.refF then Nat.max tgt (c.refF - slew) else c.refF
    let s := s.setCharger k { c with refF := ref, loadDue := false }
    let s := s.setFld (P.CHG_STATUS.REF.idx k) (ref / 100)
    if ref = tgt ∧ (s.chgState k = 1 ∨ s.chgState k = 2) then s.setChgState k 3 else s
  else s

/-- RAMP_TICK: every charger's ramp at a 1 µs tick (R211). -/
def execRampTick (t : Nat) (s : State) : Result :=
  if s.ctl.por then .next s else
  if t % 1000 ≠ 0 then .next s
  else .next (forUpto 4 (State.rampOne t) (s.at_ t))

/-- CHG_TIMEOUT: CHG_EN has been 1 for CHG_TIMEOUT µs (Table 9.6). -/
def execChgTimeout (t charger : Nat) (s : State) : Result :=
  if s.ctl.por then .next s else
  let s := s.at_ t
  match (s.charger charger).enSince with
  | none => .next s
  | some t0 =>
    if t0 + 1000 * s.fld P.CHG_LIMITS.CHG_TIMEOUT ≤ t then .next (s.chargerFault charger causeTimeout 0) else .next s

/-- CHG_EXT_FAULT: CHG_FLT_N has been low for 100 ns (Table 9.6). -/
def execChgExtFault (t charger : Nat) (s : State) : Result :=
  if s.ctl.por then .next s else
  if 4 ≤ charger then .next s
  else
    let s := s.at_ t
    .next ((s.setCharger charger { s.charger charger with fltLow := true }).chargerFault charger causeExt 0)

/-- EXP_SLOT_END: a slot ends and every window rolls (R218). -/
def execExpSlotEnd (t : Nat) (s : State) : Result :=
  if s.ctl.por then .next s else
  if t % (1000 * s.forceFld P.EXP_CFG.EXP_SLOT) ≠ 0 then .next s
  else
    let s := s.at_ t
    .next { s with emit_ := { s.emit_ with windows := s.emit_.windows.map (fun e => (e.1, (0 :: e.2).take 17)) } }

/-- Count a monitor event outside every search interval; RUNAWAY_LIMIT of them on a bank within one column
period are a fault of its charger (Table 9.6, R216). -/
def State.strayMonitor (s : State) (b : Nat) : State :=
  let times := (s.now :: Map.get [] s.emit_.strayMon b).filter (fun t => decide (s.now < t + gaitT s.gait))
  let s := { s with emit_ := { s.emit_ with strayMon := Map.set [] s.emit_.strayMon b times } }
  if s.fld P.CHG_LIMITS.RUNAWAY_LIMIT ≤ times.length then
    let s := { s with emit_ := { s.emit_ with strayMon := Map.set [] s.emit_.strayMon b [] } }
    s.chargerFault (b / 4) causeRunaway (2 ^ b)
  else s

/-- CHG_CLEAR's effect on a charger (Table 9.4, R214, R217). -/
def State.chargerClear (s : State) (k : Nat) : State :=
  let c := s.charger k
  let present := c.fltLow || decide (3 ≤ c.ovRun)
  if s.chgState k = 4 ∧ !present ∧ !s.bit (P.CHG_STATUS.LATCHED.idx k) ∧
      s.bit P.EMIT_CTRL.EMIT_EN ∧ s.bit (P.CHG_SET.CH_EN.idx k) then
    (s.setChgState k 1).setCharger k { c with loadDue := true }
  else s

end Sys2Proof.Machine
end

