-- ==== Sys2Proof/Machine/Crypto.lean ====
section
/-! DEFINITION. AES-128, SHA-256, SHA-384, HMAC-SHA-256 and RSASSA-PSS, which 00_scope.md and R428 name by their standards
(FIPS 197, 180-4, 198-1, 186-5); PRESUMED from those standards, notes/assumptions 4. -/
namespace Sys2Proof.Machine

/-- Members 0 of a list, or a default. -/
def nth {α : Type} (d : α) (l : List α) (i : Nat) : α := (l[i]?).getD d

/-- Cut a list into pieces of `n` (fuel bounds the pieces). -/
def chunksAux {α : Type} : Nat → Nat → List α → List (List α)
  | 0, _, _ => []
  | f + 1, n, l => if l.isEmpty then [] else l.take n :: chunksAux f n (l.drop n)
/-- Cut a list into pieces of `n`. -/
def chunks {α : Type} (n : Nat) (l : List α) : List (List α) := chunksAux (l.length + 1) n l

/-- FIPS 180-4, 4.2: the fractions of the cube roots of the first 80 primes, to 64 bits, four to a number. SHA-256 takes
the upper halves of the first 64. -/
def cubeRootRows : List Nat :=
  [0x428A2F98D728AE227137449123EF65CDB5C0FBCFEC4D3B2FE9B5DBA58189DBBC,
   0x3956C25BF348B53859F111F1B605D019923F82A4AF194F9BAB1C5ED5DA6D8118] ++
  [0xD807AA98A303024212835B0145706FBE243185BE4EE4B28C550C7DC3D5FFB4E2,
   0x72BE5D74F27B896F80DEB1FE3B1696B19BDC06A725C71235C19BF174CF692694] ++
  [0xE49B69C19EF14AD2EFBE4786384F25E30FC19DC68B8CD5B5240CA1CC77AC9C65,
   0x2DE92C6F592B02754A7484AA6EA6E4835CB0A9DCBD41FBD476F988DA831153B5] ++
  [0x983E5152EE66DFABA831C66D2DB43210B00327C898FB213FBF597FC7BEEF0EE4,
   0xC6E00BF33DA88FC2D5A79147930AA72506CA6351E003826F142929670A0E6E70] ++
  [0x27B70A8546D22FFC2E1B21385C26C9264D2C6DFC5AC42AED53380D139D95B3DF,
   0x650A73548BAF63DE766A0ABB3C77B2A881C2C92E47EDAEE692722C851482353B] ++
  [0xA2BFE8A14CF10364A81A664BBC423001C24B8B70D0F89791C76C51A30654BE30,
   0xD192E819D6EF5218D69906245565A910F40E35855771202A106AA07032BBD1B8] ++
  [0x19A4C116B8D2D0C81E376C085141AB532748774CDF8EEB9934B0BCB5E19B48A8,
   0x391C0CB3C5C95A634ED8AA4AE3418ACB5B9CCA4F7763E373682E6FF3D6B2B8A3] ++
  [0x748F82EE5DEFB2FC78A5636F43172F6084C87814A1F0AB728CC702081A6439EC,
   0x90BEFFFA23631E28A4506CEBDE82BDE9BEF9A3F7B2C67915C67178F2E372532B] ++
  [0xCA273ECEEA26619CD186B8C721C0C207EADA7DD6CDE0EB1EF57D4F7FEE6ED178,
   0x06F067AA72176FBA0A637DC5A2C898A6113F9804BEF90DAE1B710B35131C471B] ++
  [0x28DB77F523047D8432CAAB7B40C724933C9EBE0A15C9BEBC431D67C49C100D4C,
   0x4CC5D4BECB3E42B6597F299CFC657E2A5FCB6FAB3AD6FAEC6C44198C4A475817]

/-- FIPS 180-4, 5.3: the fractions of the square roots of the first 16 primes to 64 bits, in the same form. SHA-256 starts
from the upper halves of the first eight, SHA-384 from the other eight. -/
def squareRootRows : List Nat :=
  [0x6A09E667F3BCC908BB67AE8584CAA73B3C6EF372FE94F82BA54FF53A5F1D36F1,
   0x510E527FADE682D19B05688C2B3E6C1F1F83D9ABFB41BD6B5BE0CD19137E2179] ++
  [0xCBBB9D5DC1059ED8629A292A367CD5079159015A3070DD17152FECD8F70E5939,
   0x67332667FFC00B318EB44A8768581511DB0C2E0D64F98FA747B5481DBEFA4FA4]

/-- The four words of a number of a root table, first word highest. -/
def rowWords (r : Nat) : List Nat := [3, 2, 1, 0].map (fun i => bitsOf r (64 * i + 63) (64 * i))

/-- A member of the SHA-2 family by its word width and what each of its sigma functions takes: two or three rotations,
and for the schedule a shift. -/
structure Sha2 where
  width : Nat
  rounds : Nat
  mixA : List Nat
  mixE : List Nat
  oldRot : List Nat
  oldShift : Nat
  newRot : List Nat
  newShift : Nat
  deriving DecidableEq, Repr

/-- SHA-256 (FIPS 180-4, 4.1.2). -/
def sha2Small : Sha2 := ⟨32, 64, [2, 13, 22], [6, 11, 25], [7, 18], 3, [17, 19], 10⟩
/-- SHA-384 (FIPS 180-4, 4.1.3). -/
def sha2Large : Sha2 := ⟨64, 80, [28, 34, 39], [14, 18, 41], [1, 8], 7, [19, 61], 6⟩

/-- The constants of a member's rounds. -/
def Sha2.constants (k : Sha2) : List Nat :=
  (((cubeRootRows.map rowWords).flatten).take k.rounds).map (· / 2 ^ (64 - k.width))

/-- The exclusive or of a word's rotations to the right. -/
def Sha2.turned (k : Sha2) (by_ : List Nat) (x : Nat) : Nat :=
  by_.foldl (fun acc n => acc ^^^ (x / 2 ^ n + x % 2 ^ n * 2 ^ (k.width - n))) 0

/-- The next word of the message schedule from the ones before, newest first. -/
def Sha2.nextWord (k : Sha2) (past : List Nat) : Nat :=
  let far := nth 0 past 14
  let near := nth 0 past 1
  (nth 0 past 15 + nth 0 past 6 + (k.turned k.oldRot far ^^^ far / 2 ^ k.oldShift) +
    (k.turned k.newRot near ^^^ near / 2 ^ k.newShift)) % 2 ^ k.width

/-- The schedule of a block, newest word first, from its own 16 words. -/
def Sha2.schedule (k : Sha2) (block : List Nat) : List Nat :=
  (List.range (k.rounds - 16)).foldl (fun past _ => k.nextWord past :: past) block.reverse

/-- A round as two registers of four words, newest first: the words FIPS 180-4 names a to d and e to h. -/
def Sha2.round (k : Sha2) (st : List Nat × List Nat) (word : Nat) : List Nat × List Nat :=
  let a := nth 0 st.1 0
  let e := nth 0 st.2 0
  let choose := (e &&& nth 0 st.2 1) + ((2 ^ k.width - 1 - e) &&& nth 0 st.2 2)
  let most := (a &&& (nth 0 st.1 1 ||| nth 0 st.1 2)) ||| (nth 0 st.1 1 &&& nth 0 st.1 2)
  let inner := nth 0 st.2 3 + k.turned k.mixE e + choose + word
  (((inner + k.turned k.mixA a + most) % 2 ^ k.width) :: st.1.take 3, ((nth 0 st.1 3 + inner) % 2 ^ k.width) :: st.2.take 3)

/-- The chaining value after one more block of bytes. -/
def Sha2.absorb (k : Sha2) (chain : List Nat) (block : List Byte) : List Nat :=
  let words := (k.schedule ((chunks (k.width / 8) block).map beNat)).reverse
  let last := (List.zipWith (· + ·) words k.constants).foldl k.round (chain.take 4, chain.drop 4)
  List.zipWith (fun x y => (x + y) % 2 ^ k.width) chain (last.1 ++ last.2)

/-- A message with the bit that ends it, zeros and its length in bits, in whole blocks of 16 words. -/
def Sha2.padded (k : Sha2) (msg : List Byte) : List Byte :=
  let tail := k.width / 4
  let open_ := (msg.length + 1 + tail) % (2 * k.width)
  msg ++ 0x80 :: (List.replicate (if open_ = 0 then 0 else 2 * k.width - open_) 0 ++ beBytes tail (8 * msg.length))

/-- The digest, all eight words, from a first chaining value. -/
def Sha2.digest (k : Sha2) (chain : List Nat) (msg : List Byte) : List Byte :=
  (((chunks (2 * k.width) (k.padded msg)).foldl k.absorb chain).map (beBytes (k.width / 8))).flatten

/-- SHA-256. -/
def sha256 (msg : List Byte) : List Byte :=
  sha2Small.digest ((((squareRootRows.take 2).map rowWords).flatten).map (· / 2 ^ 32)) msg

/-- SHA-384. -/
def sha384 (msg : List Byte) : List Byte :=
  (sha2Large.digest (((squareRootRows.drop 2).map rowWords).flatten) msg).take 48

/-- HMAC-SHA-256. -/
def hmacSha256 (key msg : List Byte) : List Byte :=
  let k := padTo 64 (if key.length > 64 then sha256 key else key)
  sha256 (k.map (· ^^^ 0x5c) ++ sha256 (k.map (· ^^^ 0x36) ++ msg))

/-- Exponentiation modulo `n`, over the exponent's bits, lowest first (fuel bounds the bits). -/
def powMod (n : Nat) : Nat → Nat → Nat → Nat
  | 0, _, _ => 1 % n
  | f + 1, x, e =>
    let rest := powMod n f (x * x % n) (e / 2)
    if e % 2 = 1 then x * rest % n else rest

/-- MGF1 with SHA-384: `len` bytes from a seed. -/
def mgf1 (seed : List Byte) (len : Nat) : List Byte :=
  (((List.range ((len + 47) / 48)).map (fun i => sha384 (seed ++ beBytes 4 i))).flatten).take len

/-- The hash that an EMSA-PSS encoding carries, over a message's hash and a salt. -/
def pssHash (msg salt : List Byte) : List Byte := sha384 (List.replicate 8 0 ++ (sha384 msg ++ salt))

/-- Clear the top bit of the first byte: a modulus of 3,072 bits leaves 3,071 for the encoded message. -/
def clearTop (b : List Byte) : List Byte :=
  match b with
  | [] => []
  | x :: l => (x &&& 0x7F) :: l

/-- EMSA-PSS encoding with SHA-384, MGF1 with SHA-384 and a salt of 48 bytes, in 384 bytes (R428). -/
def pssEncode (msg salt : List Byte) : List Byte :=
  let h := pssHash msg salt
  let db := List.replicate 286 0 ++ 0x01 :: salt
  clearTop (List.zipWith (· ^^^ ·) db (mgf1 h 335)) ++ h ++ [0xBC]

/-- RSASSA-PSS verification of FIPS 186-5 with e = 65,537: modulus little-endian, signature big-endian (R427, R428). -/
def pssVerify (modulus msg sig : List Byte) : Bool :=
  let n := leNat modulus
  let em := beBytes 384 (powMod n 17 (beNat sig) 65537)
  let h := (em.drop 335).take 48
  let db := clearTop (List.zipWith (· ^^^ ·) (em.take 335) (mgf1 h 335))
  sig.length == 384 && decide (beNat sig < n) && em.drop 383 == [0xBC] && decide ((em.headD 0).toNat < 128) &&
  db.take 287 == List.replicate 286 0 ++ [0x01] && pssHash msg (db.drop 287) == h

/-- A signature block under the device's identity keys, from the draws of both algorithms (R428, R431). -/
def identitySign (digest salt extra : List Byte) : List Byte :=
  beBytes 384 (Config.rsaPrivate (beNat (pssEncode digest salt))) ++ padTo 16224 (Config.slhSign ([0, 0] ++ digest) extra)

/-- Multiply by x in the AES field. -/
def aesXtime (b : Nat) : Nat := if b < 128 then 2 * b else (2 * b - 256) ^^^ 0x1b

/-- Multiply in the AES field, `n` bits of the second factor. -/
def aesMulAux : Nat → Nat → Nat → Nat
  | 0, _, _ => 0
  | n + 1, a, b => (if b % 2 = 1 then a else 0) ^^^ aesMulAux n (aesXtime a) (b / 2)

/-- Power in the AES field. -/
def aesPow (a : Nat) : Nat → Nat
  | 0 => 1
  | n + 1 => aesMulAux 8 (aesPow a n) a

/-- The AES S-box, from its definition: the inverse followed by the affine map. -/
def aesSbox (x : Nat) : Nat :=
  let p2 := aesMulAux 8 x x
  let p3 := aesMulAux 8 p2 x
  let p6 := aesMulAux 8 p3 p3
  let p12 := aesMulAux 8 p6 p6
  let p15 := aesMulAux 8 p12 p3
  let p30 := aesMulAux 8 p15 p15
  let p60 := aesMulAux 8 p30 p30
  let p120 := aesMulAux 8 p60 p60
  let p126 := aesMulAux 8 p120 p6
  let p127 := aesMulAux 8 p126 x
  let i := aesMulAux 8 p127 p127
  let rl := fun n => (i * 2 ^ n) % 256 + i / 2 ^ (8 - n)
  (((i ^^^ rl 1) ^^^ rl 2) ^^^ (rl 3 ^^^ rl 4)) ^^^ 0x63

/-- Next round key from the one before. -/
def aesNextKey (k : List Nat) (rcon : Nat) : List Nat :=
  let t := [aesSbox (nth 0 k 13) ^^^ rcon, aesSbox (nth 0 k 14), aesSbox (nth 0 k 15), aesSbox (nth 0 k 12)]
  let w0 := List.zipWith (· ^^^ ·) (k.take 4) t
  let w1 := List.zipWith (· ^^^ ·) ((k.drop 4).take 4) w0
  let w2 := List.zipWith (· ^^^ ·) ((k.drop 8).take 4) w1
  let w3 := List.zipWith (· ^^^ ·) ((k.drop 12).take 4) w2
  w0 ++ w1 ++ w2 ++ w3

/-- The rotation of the state rows. -/
def aesShift (st : List Nat) : List Nat :=
  [0, 5, 10, 15, 4, 9, 14, 3, 8, 13, 2, 7, 12, 1, 6, 11].map (nth 0 st)

/-- Mix one column. -/
def aesMixCol (c : List Nat) : List Nat :=
  let a := nth 0 c 0
  let b := nth 0 c 1
  let d := nth 0 c 2
  let e := nth 0 c 3
  let x := aesXtime
  let y := fun v => aesXtime v ^^^ v
  [((x a ^^^ y b) ^^^ d) ^^^ e, ((a ^^^ x b) ^^^ y d) ^^^ e, ((a ^^^ b) ^^^ x d) ^^^ y e, ((y a ^^^ b) ^^^ d) ^^^ x e]

/-- The middle rounds and the last. -/
def aesRounds : List Nat → List Nat → List Nat → List Nat
  | [], _, st => st
  | [rc], k, st =>
    let k' := aesNextKey k rc
    List.zipWith (· ^^^ ·) (aesShift (st.map aesSbox)) k'
  | rc :: rcs, k, st =>
    let k' := aesNextKey k rc
    let mixed := ((chunks 4 (aesShift (st.map aesSbox))).map aesMixCol).flatten
    aesRounds rcs k' (List.zipWith (· ^^^ ·) mixed k')

/-- AES-128 encryption of one block. -/
def aes128 (key block : List Byte) : List Byte :=
  let k := key.map BitVec.toNat
  let st := List.zipWith (· ^^^ ·) (block.map BitVec.toNat) k
  (aesRounds [1, 2, 4, 8, 16, 32, 64, 128, 27, 54] k st).map (BitVec.ofNat 8)

/-- Counter mode with a 16-byte block whose low `cb` bytes, big-endian, count. -/
def aesCtrAux (key : List Byte) (pre : List Byte) (cb : Nat) : Nat → List (List Byte) → List Byte
  | _, [] => []
  | n, p :: ps =>
    List.zipWith (· ^^^ ·) p (aes128 key (pre ++ beBytes cb n)) ++ aesCtrAux key pre cb (n + 1) ps
/-- AES-128 in counter mode. -/
def aesCtr (key pre : List Byte) (cb start : Nat) (data : List Byte) : List Byte :=
  aesCtrAux key pre cb start (chunks 16 data)

end Sys2Proof.Machine
end

