-- ==== Sys2Proof/Machine/HitchBody.lean ====
section
/-! DEFINITION. The bodies of TEAM, JOIN_REQ, SLOT, EPOCH and PHASE_REQ (16_hitch_links.md, Table 16.6). DESIGN CHOICE
(notes/assumptions 29): the manual gives what these bodies carry and no layout; here the fields follow one another in the order of
Table 16.6, little-endian, with what the rules need beside them. -/
namespace Sys2Proof.Machine

/-- The entry of a slot in TEAM: DEV_ID (8), parent slot, state, LEAD_PRIO and gait (1 each), BR_ID (4). -/
def teamEntryBytes (e : TeamEntry) : List Byte :=
  leBytes 8 e.devId ++ leBytes 1 e.parent ++ leBytes 1 e.state ++ leBytes 1 e.prio ++ leBytes 1 e.gait ++ leBytes 4 e.brId

/-- TEAM: the lead's DEV_ID (8), E (8), and an entry for each of the 16 slots, zeros for a free one. -/
def teamBytes (b : TeamBody) : List Byte :=
  leBytes 8 b.lead ++ leBytes 8 b.e ++ ((List.range 16).map (fun n => match b.slots.find? (fun e => e.slot == n) with
    | some e => teamEntryBytes e
    | none => List.replicate 16 0)).flatten

/-- The entry of slot `n` that a TEAM body carries; none where the slot is free. -/
def teamEntryAt (b : List Byte) (n : Nat) : Option TeamEntry :=
  let o := 16 + 16 * n
  if frameField b (o + 9) 1 = 0 then none
  else some ⟨n, frameField b o 8, frameField b (o + 8) 1, frameField b (o + 9) 1, frameField b (o + 10) 1, frameField b (o + 11) 1,
    frameField b (o + 12) 4⟩

/-- A TEAM body read; none where its content is not one it allows. -/
def readTeam (b : List Byte) : Option TeamBody :=
  let l := (List.range 16).filterMap (teamEntryAt b)
  if l.all (fun e => decide (e.parent < 16 ∧ e.state ≤ 2 ∧ e.prio ≤ 15 ∧ e.gait ≤ 3)) then
    some ⟨frameField b 0 8, frameField b 8 8, l⟩
  else none

/-- A device of JOIN_REQ: DEV_ID (8), the DEV_ID of its parent (8), BR_ID (4), LEAD_PRIO, slot, gait and 0 (1 each). -/
def joinEntryBytes (e : JoinEntry) : List Byte :=
  leBytes 8 e.devId ++ leBytes 8 e.parentId ++ leBytes 4 e.brId ++ leBytes 1 e.prio ++ leBytes 1 e.slot ++ leBytes 1 e.gait ++ [0]

/-- JOIN_REQ: E of the joining team (8), and its devices. -/
def joinBytes (b : JoinBody) : List Byte := leBytes 8 b.e ++ (b.devices.map joinEntryBytes).flatten

/-- A JOIN_REQ body read. -/
def readJoin (b : List Byte) : Option JoinBody :=
  let l := (chunks 24 (b.drop 8)).map (fun c : List Byte =>
    (⟨frameField c 0 8, frameField c 20 1, frameField c 21 1, frameField c 8 8, frameField c 22 1, frameField c 16 4⟩ : JoinEntry))
  if l.all (fun e => decide (e.prio ≤ 15 ∧ e.slot < 16 ∧ e.gait ≤ 3)) then some ⟨frameField b 0 8, l⟩ else none

/-- SLOT: the lead's DEV_ID (8), its φ (8), and gait (1) and phase (8) of each of the 16 slots. -/
def slotBytes (b : SlotBody) : List Byte :=
  leBytes 8 b.lead ++ leBytes 8 b.phi ++ ((List.range 16).map (fun n =>
    let p := (b.phases[n]?).getD (0, 0)
    leBytes 1 p.1 ++ leBytes 8 p.2)).flatten

/-- A SLOT body read. -/
def readSlot (b : List Byte) : Option SlotBody :=
  let l := (List.range 16).map (fun n => (frameField b (16 + 9 * n) 1, frameField b (17 + 9 * n) 8))
  if l.all (fun p => decide (p.1 ≤ 3)) then some ⟨frameField b 0 8, frameField b 8 8, l⟩ else none

/-- An epoch in EPOCH: E (4), S (32) and t_E (8), zeros for none. -/
def epochField (e : Option (Nat × List Byte × Nat)) : List Byte :=
  match e with
  | some (e, secret, tE) => leBytes 4 e ++ padTo 32 secret ++ leBytes 8 tE
  | none => List.replicate 44 0

/-- EPOCH: the lead's DEV_ID (8), the current and the pending epoch. -/
def epochBytes (b : EpochBody) : List Byte := leBytes 8 b.lead ++ epochField b.cur ++ epochField b.pend

/-- An EPOCH body read. -/
def readEpoch (b : List Byte) : EpochBody :=
  let epoch := fun (o : Nat) =>
    if frameField b o 4 = 0 then none else some (frameField b o 4, (b.drop (o + 4)).take 32, frameField b (o + 36) 8)
  ⟨frameField b 0 8, epoch 8, epoch 52⟩

/-- PHASE_REQ: DEV_ID (8) and the requested gait (4). -/
def phaseReqBytes (id gait : Nat) : List Byte := leBytes 8 id ++ leBytes 4 gait

/-- A PHASE_REQ body read. -/
def readPhaseReq (b : List Byte) : Option (Nat × Nat) :=
  if 3 < frameField b 8 4 then none else some (frameField b 0 8, frameField b 8 4)

end Sys2Proof.Machine
end

