-- ==== Sys2Proof/Machine/HitchMsg.lean ====
section
/-! DEFINITION. Hitch lanes, links and messages: layout, checks, protection (16_hitch_links.md R351 to R362, R367). -/
namespace Sys2Proof.Machine

/-- Replace the Hitch record. -/
def State.withHitch (s : State) (f : Hitch → Hitch) : State := { s with hitch := f s.hitch }
/-- A lane's latched settings. -/
def State.lanePhy (s : State) (l : Nat) : LanePhy := Map.get {} s.hitch.lanes l
/-- Change them. -/
def State.withLane (s : State) (l : Nat) (f : LanePhy → LanePhy) : State :=
  s.withHitch fun h => { h with lanes := Map.modify {} h.lanes l f }
/-- STATE of a lane: 0 OFF, 1 BEACON, 2 TRAIN, 3 ALIGN, 4 LINKED, 5 SECURE (Table 16.4). -/
def State.laneSt (s : State) (l : Nat) : Nat := s.fld (P.LANE_STATUS.STATE.idx l)
/-- The link a lane belongs to (R352), under the number of its first lane; 8 for a lane that is not LINKED. -/
def State.linkId (s : State) (l : Nat) : Nat := (s.lanePhy l).link
/-- A link. -/
def State.link (s : State) (k : Nat) : Link := Map.get {} s.hitch.links k
/-- Change a link. -/
def State.withLink (s : State) (k : Nat) (f : Link → Link) : State :=
  s.withHitch fun h => { h with links := Map.modify {} h.links k f }
/-- The lanes of a link that are LINKED or SECURE. -/
def State.linkLanes (s : State) (k : Nat) : List Nat :=
  (List.range 8).filter (fun l => s.linkId l == k && decide (4 ≤ s.laneSt l))
/-- Is a link SECURE? -/
def State.linkSecure (s : State) (k : Nat) : Bool := (s.linkLanes k).any (fun l => s.laneSt l == 5)
/-- The links of a role, in ascending order. -/
def State.linksOf (s : State) (r : LinkRole) : List Nat := (s.hitch.links.filter (fun e => e.2.role = r)).map (·.1)
/-- The links that carry the team (parent and children). -/
def State.teamLinks (s : State) : List Nat :=
  (s.hitch.links.filter (fun e => e.2.role = .parent ∨ e.2.role = .child)).map (·.1)

/-- One bit of the CRC-32 of IEEE 802.3, low bit first. -/
def ieeeBit (c : Nat) : Nat := if c % 2 = 1 then (c / 2) ^^^ 0xEDB88320 else c / 2
/-- The CRC-32 of IEEE 802.3 (R361). -/
def ieeeCrc (l : List Byte) : Nat :=
  (l.foldl (fun c b => forUpto 8 (fun _ c => ieeeBit c) (c ^^^ b.toNat)) 0xFFFFFFFF) ^^^ 0xFFFFFFFF

/-- A control symbol. -/
def symK (v : Nat) : Sym := ⟨true, BitVec.ofNat 8 v⟩
/-- A data symbol. -/
def symD (v : Nat) : Sym := ⟨false, BitVec.ofNat 8 v⟩
/-- IDLE: K28.5 D21.4 D21.5 D21.5 (Table 16.3). -/
def idleSet : LaneWord := [symK 0xBC, symD 0x95, symD 0xB5, symD 0xB5]
/-- SKIP: K28.5 K28.0 K28.0 K28.0. -/
def skipSet : LaneWord := [symK 0xBC, symK 0x1C, symK 0x1C, symK 0x1C]
/-- BEACON: K28.5 D10.2 STATE LANE. -/
def beaconSet (state lane : Nat) : LaneWord := [symK 0xBC, symD 0x4A, symD state, symD lane]
/-- TSYNC: K28.5 K28.2 ID 0x00. -/
def tsyncSet (id : Nat) : LaneWord := [symK 0xBC, symK 0x5C, symD id, symD 0]
/-- SOF: K28.5 K27.7 LEN_LO LEN_HI. -/
def sofSet (len : Nat) : LaneWord := [symK 0xBC, symK 0xFB, symD len, symD (len / 256)]
/-- EOF: K28.5 K29.7 K29.7 K29.7. -/
def eofSet : LaneWord := [symK 0xBC, symK 0xFD, symK 0xFD, symK 0xFD]

/-- A frame of `len` bytes: an SOF set, its data words and an EOF set (R354). `data`: the bytes with what fills the last word. -/
def frameWords (len : Nat) (data : List Byte) : List LaneWord :=
  sofSet len :: (chunks 4 data).map (fun w => w.map (fun b => ⟨false, b⟩)) ++ [eofSet]

/-- The words of a bonded link go alternately to its two lanes, the lower first (R352). -/
def stripe : List LaneWord → List LaneWord × List LaneWord
  | [] => ([], [])
  | w :: l => (w :: (stripe l).2, (stripe l).1)

/-- The two lanes' words in the order of the link (R352). -/
def weave : List LaneWord → List LaneWord → List LaneWord
  | a :: l, b :: m => a :: b :: weave l m
  | l, [] => l
  | [], m => m

/-- The words of a link in order. Those of two lanes are deskewed by the SKIP sets that both lanes sent in the same word, which may
lie up to 8 words apart (R352); words that this does not bring together make no frame (notes/assumptions 29). -/
def streamWords (x : LaneStreams) : List LaneWord :=
  if x.odd.isEmpty then x.even
  else
    let a := x.even.findIdx (fun w => w == skipSet)
    let b := x.odd.findIdx (fun w => w == skipSet)
    if x.even.length ≤ a ∨ x.odd.length ≤ b ∨ a + 8 < b ∨ b + 8 < a then []
    else weave (x.even.drop (a + 1)) (x.odd.drop (b + 1))

/-- Does a word begin a frame? -/
def isSof (w : LaneWord) : Bool := w.take 2 == [symK 0xBC, symK 0xFB]

/-- The frame among a link's words: LEN of its SOF set and its data, or none where no SOF set, data words and EOF set follow one
another (R354). -/
def deframe (l : List LaneWord) : Option (Nat × List Byte) :=
  match l.dropWhile (fun w => !isSof w) with
  | [] => none
  | sof :: rest =>
    let data := rest.takeWhile (fun w => w.all (fun y => !y.k))
    if rest.drop data.length |>.head? |>.any (fun w => w == eofSet) then
      some (leNat ((sof.drop 2).map (·.v)), (data.map (fun w => w.map (·.v))).flatten)
    else none

/-- The types of Table 16.6. -/
def hitchTypes : List Nat := [0x01, 0x02, 0x03, 0x04, 0x10, 0x11, 0x12, 0x13, 0x14, 0x15, 0x20, 0x30]
/-- FLAGS of a type: protected, and encrypted for EPOCH (Table 16.6). -/
def hitchFlags (type : Nat) : Nat := if type < 4 then 0 else if type = 0x13 then 3 else 1

/-- The body lengths a type allows (Table 16.6; for TEAM to PHASE_REQ by the layouts of notes/assumptions 29). -/
def hitchLenOk (type n : Nat) : Bool :=
  match type with
  | 0x01 => n == 20
  | 0x02 => decide (8 < n)
  | 0x03 => n == 1088
  | 0x04 => n == 32
  | 0x10 => n == 272
  | 0x11 => decide (32 ≤ n ∧ n ≤ 392) && n % 24 == 8
  | 0x12 => n == 160
  | 0x13 => n == 96
  | 0x14 => n == 12
  | 0x15 => n == 8
  | 0x20 => n == 17
  | 0x30 => n == 32
  | _ => true

/-- The header and body of a message (Table 16.5). -/
def hitchHead (type ctr : Nat) (body : List Byte) : List Byte :=
  leBytes 1 type ++ leBytes 1 (hitchFlags type) ++ leBytes 2 body.length ++ leBytes 8 ctr ++ body

/-- A body encrypted under a direction's key (R367). -/
def hitchCrypt (key : List Byte) (ctr : Nat) (body : List Byte) : List Byte :=
  ((chunks 16 body).foldl (fun (a : List Byte × Nat) p =>
    (a.1 ++ List.zipWith (· ^^^ ·) p (aes128 key (leBytes 8 ctr ++ leBytes 4 0 ++ leBytes 4 a.2)), a.2 + 1)) ([], 0)).1

/-- The next CTR of a link, or 0 where it has no session. -/
def State.nextCtr (s : State) (k : Nat) : Nat × State :=
  match (s.link k).session with
  | none => (0, s)
  | some x => (x.txCtr + 1, s.withLink k fun y => { y with session := some { x with txCtr := x.txCtr + 1 } })

/-- The lane a link sends on: its lowest that is up. -/
def State.sendLane (s : State) (k : Nat) : Nat := ((s.linkLanes k).head?).getD k

/-- 5,120 symbols of 1.6 ns: the longest time between SKIP sets, and the one this transmitter keeps (R351, R355;
notes/assumptions 41). -/
def skipPeriod : Nat := 8192

/-- How long a message of `n` bytes with its SOF and EOF sets occupies a lane of a link of `lanes` lanes, in ns rounded up
(R351, R352, R354). -/
def frameTime (lanes n : Nat) : Nat :=
  let words := ((n + 3) / 4 + 2 + lanes - 1) / lanes
  (words * 64 + 9) / 10

/-- The SKIP sets due on a lane before `time` have been sent (R355). -/
def State.skipsTo (s : State) (l time : Nat) : State :=
  let p := s.lanePhy l
  let n := (time - p.txSkip) / skipPeriod
  if n = 0 then s
  else (s.withLane l fun x => { x with txSkip := p.txSkip + n * skipPeriod }).emit (.hitchSkips l n)

/-- One more SKIP set at `time`. -/
def State.skipAt (s : State) (l time : Nat) : State :=
  ((s.skipsTo l time).withLane l fun x => { x with txSkip := time }).emit (.hitchSkips l 1)

/-- A lane sends words that last `d` ns: the SKIP sets due since the last are out, and one more goes first where the next
would fall due inside them (R355). IDLE sets follow. -/
def State.laneSend (s : State) (l d : Nat) (words : List LaneWord) : State :=
  let from_ := Nat.max s.now (s.lanePhy l).txFree
  let s := s.skipsTo l from_
  let s := if (s.lanePhy l).txSkip + skipPeriod < from_ + d then s.skipAt l from_ else s
  (s.withLane l fun x => { x with txFree := from_ + d }).emit (.hitch l (words ++ [idleSet]))

/-- A frame of `len` bytes goes out on the lanes of a link, striped where there are two (R352, R354). -/
def State.linkFrame (s : State) (k len : Nat) (data : List Byte) : State :=
  let ws := frameWords len data
  match s.linkLanes k with
  | [a, b] => (s.laneSend a (frameTime 2 len) (stripe ws).1).laneSend b (frameTime 2 len) (stripe ws).2
  | _ => s.laneSend (s.sendLane k) (frameTime 1 len) ws

/-- A SKIP set reaches an elastic buffer holding `fill` of 16 words: it is deleted above 12 words, and one is inserted after
it below 4 (R355). -/
def elasticSkip (fill : Nat) : Nat := if 12 < fill then fill - 1 else if fill < 4 then fill + 1 else fill

/-- The SKIP sets received since the last frame act on the elastic buffers of lanes, on all of them in the same word. Between
two sets the ends' clocks part by less than one word, either way: a free value (R351, R355). -/
def State.elastic : Nat → List Nat → State → State
  | 0, _, s => s
  | n + 1, ls, s =>
    let (d, s) := s.draw 2
    let old := (s.lanePhy ((ls.head?).getD 8)).fill
    let drift := if d = 1 then old + 1 else if d = 2 then old - 1 else old
    let new := elasticSkip drift
    State.elastic n ls (forEach ls (fun l s => s.withLane l fun x => { x with fill := Nat.min 16 (x.fill + new - old) }) s)

/-- Bring a lane's elastic buffer up to now, and that of the other lane of its link; after 16 SKIP sets every fill the buffer can
reach has been reached. A lane in OFF or BEACON receives none (R355). -/
def State.elasticTo (s : State) (l : Nat) : State :=
  let n := (s.now - (s.lanePhy l).rxFrom) / skipPeriod
  if n = 0 ∨ s.laneSt l < 2 then s
  else
    let ls := if s.laneSt l < 4 then [l] else s.linkLanes (s.linkId l)
    forEach ls (fun l s => s.withLane l fun x => { x with rxFrom := s.now }) (State.elastic (Nat.min 16 n) ls s)

/-- A message with its CRC goes out. What fills the last lane word the manual does not say: a free value. -/
def State.hitchFrame (s : State) (k : Nat) (m : List Byte) : State :=
  let m := m ++ leBytes 4 (ieeeCrc m)
  let r := (4 - m.length % 4) % 4
  if r = 0 then s.linkFrame k m.length m
  else
    let (v, s) := s.draw (8 * r)
    s.linkFrame k m.length (m ++ leBytes r v)

/-- The message of a session: an encrypted body is encrypted, and the tag follows (R367). -/
def Session.message (x : Session) (type ctr : Nat) (body : List Byte) : List Byte :=
  let m := hitchHead type ctr (if type = 0x13 then hitchCrypt x.encTx ctr body else body)
  m ++ (hmacSha256 x.macTx m).take 16

/-- Send a message (R361, R367). -/
def State.hitchSend (s : State) (k type : Nat) (body : List Byte) : State :=
  if type < 4 then s.hitchFrame k (hitchHead type 0 body)
  else
    let (ctr, s) := s.nextCtr k
    match (s.link k).session with
    | none => s
    | some x => s.hitchFrame k (x.message type ctr body)

/-- Send a message to the links toward the members below. -/
def State.toChildren (s : State) (type : Nat) (body : List Byte) : State :=
  forEach (s.linksOf .child) (fun k s => s.hitchSend k type body) s

/-- Send a message toward the lead. -/
def State.toParent (s : State) (type : Nat) (body : List Byte) : State :=
  forEach (s.linksOf .parent) (fun k s => s.hitchSend k type body) s

/-- The lead's DEV_ID. -/
def State.leadId (s : State) : Nat := s.fld P.LEAD_ID.LEAD_ID
/-- Is this device a member of another's team? -/
def State.isMember (s : State) : Bool := s.fld P.TEAM_STATUS.ROLE == 2

/-- A message that expects an answer is sent (R362). -/
def State.hitchAsk (s : State) (k type : Nat) (body : List Byte) : State :=
  (s.hitchSend k type body).withLink k fun x => { x with waits := Map.insert x.waits type { sent := s.now, body := body } }
/-- The answer has come. -/
def State.hitchAnswered (s : State) (k type : Nat) : State := s.withLink k fun x => { x with waits := Map.erase x.waits type }

/-- The checks of R361 on a frame whose CRC has passed: the message's format, and its length against LEN of the SOF set and the
words that came. -/
def hitchFormatOk (len words : Nat) (m : List Byte) : Bool :=
  let ty := leNat (m.take 1)
  let flags := leNat ((m.drop 1).take 1)
  let blen := leNat ((m.drop 2).take 2)
  hitchTypes.contains ty && flags == hitchFlags ty && decide (blen ≤ 2048) && words == (len + 3) / 4 &&
    len == 12 + blen + 16 * ofBit (decide (4 ≤ ty)) + 4 && hitchLenOk ty blen

/-- What the tag and CTR checks of R367 leave of a protected message: its body, decrypted where it is encrypted. On a link that is
not SECURE no protected message but FINISH is taken (R365, R366). -/
def State.hitchUnprotect (s : State) (k : Nat) (m : List Byte) : Option (List Byte) × State :=
  let ty := leNat (m.take 1)
  let blen := leNat ((m.drop 2).take 2)
  let ctr := leNat ((m.drop 4).take 8)
  let body := (m.drop 12).take blen
  match (s.link k).session with
  | none => (none, s.liveWrap P.HITCH_COUNTS.TAG_ERRS 1)
  | some x =>
    if (hmacSha256 x.macRx (m.take (12 + blen))).take 16 ≠ (m.drop (12 + blen)).take 16 ∨ ctr ≤ x.rxCtr then
      (none, s.liveWrap P.HITCH_COUNTS.TAG_ERRS 1)
    else
      let s := s.withLink k fun y => { y with session := some { x with rxCtr := ctr } }
      if ty = 0x04 ∨ s.linkSecure k then (some (if ty = 0x13 then hitchCrypt x.encRx ctr body else body), s) else (none, s)

/-- What the checks of R361 and R367 leave of a frame received on a lane: the body of its message, where it is a good one of
the type `type`. -/
def State.hitchReceive (s : State) (l type : Nat) (wire : LaneStreams) : Option (List Byte) × State :=
  if 8 ≤ l ∨ s.laneSt l < 4 then (none, s)
  else
    let s := s.elasticTo l
    match deframe (streamWords wire) with
    | none => (none, s)
    | some (len, data) =>
      let f := data.take len
      let m := f.take (f.length - 4)
      if f.length < 4 ∨ leNat (f.drop (f.length - 4)) ≠ ieeeCrc m then (none, s.liveWrap P.HITCH_COUNTS.CRC_ERRS 1)
      else if !hitchFormatOk len ((data.length + 3) / 4) m then (none, s.liveWrap P.HITCH_FORMAT.FORMAT_ERRS 1)
      else if leNat (m.take 1) ≠ type then (none, s)
      else if type < 4 then (some ((m.drop 12).take (leNat ((m.drop 2).take 2))), s)
      else s.hitchUnprotect (s.linkId l) m

/-- A message's content is one its type does not allow (R361). -/
def State.formatErr (s : State) : State := s.liveWrap P.HITCH_FORMAT.FORMAT_ERRS 1

/-- The DEV_ID a peer gave in its HELLO. -/
def Link.peerId (x : Link) : Nat := leNat (x.helloRx.take 8)

end Sys2Proof.Machine
end

