-- ==== Sys2Proof/Machine/Scan.lean ====
section
/-! DEFINITION. The timetable of the scan: the sweep grid, gait and phase changes, code epochs and pulse offsets
(02_gaits_and_firing_codes.md). -/
namespace Sys2Proof.Machine

/-- Replace the scan record. -/
def State.withScan (s : State) (f : Scan → Scan) : State := { s with scan := f s.scan }

/-- The frame boundary that ends the current sweep (R32). -/
def State.boundaryTime (s : State) : Nat := sweepEnd s.gait s.phi s.scan.k + 250000

/-- The smallest sweep, of all integers, whose nominal start is `t` or later (R33). -/
def firstSweepFrom (g phi t : Nat) : Int :=
  (((t : Int) - (phi : Int)) * (gaitF g : Int) + 999999999) / 1000000000

/-- The smallest sweep of a parity starting at `t` or later. -/
def firstSweepOfParity (g phi t : Nat) (odd : Bool) : Int :=
  let k := firstSweepFrom g phi t
  if (k % 2 == 1) == odd then k else k + 1

/-- Step 1 of R42: the first sweep of the new grid after sweep `k` of the old, whose active part ends at
`endOld`. -/
def nextGridSweep (gOld gNew phiNew : Nat) (k : Int) (endOld : Nat) : Int :=
  firstSweepOfParity gNew phiNew
    (endOld + (gaitTau gOld + 1) / 2 + (gaitTau gNew + 1) / 2) (k % 2 == 0)

/-- The code key message (Table 2.4). -/
def codeKeyMessage (devId e : Nat) : List Byte :=
  [0x58, 0x5A, 0x33, 0x38, 0x34, 0x30, 0x20, 0x43, 0x4F, 0x44, 0x45] ++ leBytes 8 devId ++ leBytes 4 e

/-- The code key of an epoch (R52). -/
def codeKey (secret : List Byte) (devId e : Nat) : List Byte := (hmacSha256 secret (codeKeyMessage devId e)).take 16

/-- The counter block (Table 2.5). -/
def counterBlock (tk seq b gait e : Nat) : List Byte :=
  leBytes 8 tk ++ leBytes 2 seq ++ leBytes 1 b ++ leBytes 1 gait ++ leBytes 4 e

/-- The pulse offsets of a column in ns (R53, R54). -/
def codeOffsets (key : List Byte) (tk seq gait e : Nat) : List Nat :=
  let blocks := aes128 key (counterBlock tk seq 0 gait e) ++
    (if gait = 0 then aes128 key (counterBlock tk seq 1 gait e) else [])
  (blocks.take (gaitN gait)).map BitVec.toNat

/-- The number of the last epoch held (R56, R57): the pending one's, else that of one still to apply after joining, else
the current one's. -/
def State.epochTop (s : State) : Nat := match s.scan.epochPend, s.scan.epochJoin with
  | some p, _ => p.e
  | none, some p => p.e
  | none, none => s.fld P.CODE_EPOCH.E_CUR

/-- Draw a new epoch (R57): a fresh secret, the next number after `e0`, and the second sweep strictly later than
the draw. DESIGN CHOICE (notes/assumptions 40): the grid counted on is that of the gait and φ in force at the draw, also
while a change of either is pending or a transition turnaround runs. -/
def State.epochDrawAfter (s : State) (e0 : Nat) : State :=
  let (bits, s) := s.draw 256
  let e := if e0 = 2 ^ 32 - 1 then 1 else e0 + 1
  let k := firstSweepFrom s.gait s.phi (s.now + 1)
  let ep : CodeEpoch := ⟨e, leBytes 32 bits, sweepStart s.gait s.phi (k + 1), none⟩
  let s := s.withScan fun c => { c with epochPend := some ep, period := s.fld P.CODE_CONTROL.EPOCH_PERIOD }
  s.setFld P.CODE_EPOCH.E_PENDING e

/-- What EPOCH says of an epoch. -/
def CodeEpoch.told (p : CodeEpoch) : Nat × List Byte × Nat := (p.e, p.secret, p.tE)

/-- The content of an EPOCH message: E, S and t_E of the current epoch, or of the one still to apply after joining, and of
the pending one (R375). -/
def State.epochBody (s : State) : EpochBody :=
  let cur := match s.scan.epochJoin with
    | some p => some p
    | none => s.scan.epochCur
  ⟨s.leadId, cur.map (·.told), s.scan.epochPend.map (·.told)⟩

/-- EPOCH goes to the children (R375). -/
def State.sendEpoch (s : State) : State := s.toChildren 0x13 (epochBytes s.epochBody)

/-- Draw the next epoch and send it to the members below (R57, R375). -/
def State.epochDraw (s : State) : State := (s.epochDrawAfter s.epochTop).sendEpoch

/-- A start of scanning draws an epoch unless the device is a member of another's team (R57, R375). -/
def State.startScanning (s : State) : State :=
  if s.fld P.TEAM_STATUS.ROLE = 2 then s else s.epochDraw

/-- An epoch received from the lead (R56): only a higher number replaces what is pending. -/
def State.epochReceive (s : State) (e : Nat) (secret : List Byte) (tE : Nat) : State :=
  let held := fun (x : Option CodeEpoch) => match x with
    | some p => p.e
    | none => 0
  let top := Nat.max (s.fld P.CODE_EPOCH.E_CUR) (Nat.max (held s.scan.epochJoin) (held s.scan.epochPend))
  if e ≤ top then s
  else (s.withScan fun c => { c with epochPend := some ⟨e, secret, tE, none⟩ }).setFld P.CODE_EPOCH.E_PENDING e

/-- The first EPOCH of a new lead (R371): its current epoch is taken whatever its E, and applies as R56 says, at a frame
boundary. -/
def State.epochJoin (s : State) (e : Nat) (secret : List Byte) (tE : Nat) : State :=
  s.withScan fun c => { c with epochJoin := some ⟨e, secret, tE, none⟩ }

/-- An epoch with its key derived (R52). -/
def CodeEpoch.derived (p : CodeEpoch) (devId : Nat) : CodeEpoch := { p with key := some (codeKey p.secret devId p.e) }

/-- CODE_KEY_DERIVED: the keys of the epochs still to apply are ready (R52, R56). -/
def State.deriveKey (s : State) : State :=
  s.withScan fun c => { c with epochPend := c.epochPend.map (·.derived s.devId),
                               epochJoin := c.epochJoin.map (·.derived s.devId) }

/-- Does an epoch apply to a sweep that starts at `tk`: none where it is not due; else whether its key is there (R56)? -/
def CodeEpoch.due (p : CodeEpoch) (tk : Nat) : Option Bool := if tk < p.tE then none else some p.key.isSome

/-- An epoch comes into force with the frame whose sweep starts at `tk` (R56, R57). -/
def State.epochTake (s : State) (p : CodeEpoch) (tk : Nat) : State :=
  (s.withScan fun c => { c with epochCur := some p, epochJoin := none, expiry := some (tk + c.period * 1000000000) }).setFld
    P.CODE_EPOCH.E_CUR p.e

/-- Apply the epochs that are due to the frame whose sweep starts at `tkNext`, or count one late (R56). DESIGN CHOICE
(notes/assumptions 40): an epoch whose key is still missing counts in LATE_SWITCHES at every boundary it misses. -/
def State.epochApply (s : State) (tkNext : Nat) : State :=
  let s := match s.scan.epochJoin with
    | none => s
    | some p => match p.due tkNext with
      | none => s
      | some false => s.addSat P.CODE_CONTROL.LATE_SWITCHES 1
      | some true => s.epochTake p tkNext
  match s.scan.epochPend with
  | none => s
  | some p => match p.due tkNext with
    | none => s
    | some false => s.addSat P.CODE_CONTROL.LATE_SWITCHES 1
    | some true =>
      ((s.epochTake p tkNext).withScan fun c => { c with epochPend := none }).setFld P.CODE_EPOCH.E_PENDING 0

/-- Is a code epoch in force with its key (R509)? -/
def State.epochInForce (s : State) : Bool := s.scan.epochCur.isSome

/-- The frame phase formed from an edge on SYNC_IN (R46): the latest even sweep start at or before the edge, with
phase 0, is taken away. Should that leave one more than the range of Table 2.1, step 2 of R42's reduction applies
(notes/assumptions 20). -/
def syncPhase (g te : Nat) : Nat :=
  let k0 := 2 * (te * gaitF g / 2000000000)
  let k := if sweepStart g 0 (k0 + 2) ≤ te then k0 + 2 else k0
  (te - sweepStart g 0 k) % gaitPhi g

/-- A pending gait request of a team member waits for the lead's phase (R44). -/
def State.waitPhase (s : State) : State :=
  if s.bit P.GAIT.PENDING then s.setFld P.GAIT.TEAM_WAIT 1 else s

/-- A request for a gait (R40): the current gait clears a pending request; a team member also waits for the
lead's phase (R44). -/
def State.requestGait (s : State) (g : Nat) : State :=
  let s := s.setFld P.GAIT.GAIT_REQ g
  if g = s.gait then
    ((s.setFld P.GAIT.PENDING 0).setFld P.GAIT.GAIT_NEXT g).setFld P.GAIT.TEAM_WAIT 0
  else
    let s := (s.setFld P.GAIT.PENDING 1).setFld P.GAIT.GAIT_NEXT g
    s.setFld P.GAIT.TEAM_WAIT (if s.fld P.TEAM_STATUS.ROLE = 2 then 1 else 0)

/-- EPOCH_PERIOD_EXPIRY: the epoch in force has lasted its period and this device is its own lead or the team's; one
draw follows (R57, R375). -/
def execEpochPeriodExpiry (t : Nat) (s : State) : Result :=
  if s.ctl.por then .next s else
  match s.scan.expiry with
  | none => .next s
  | some x =>
    if t < x ∨ s.fld P.TEAM_STATUS.ROLE = 2 ∨ !s.epochInForce then .next s
    else .next ((s.at_ t).withScan fun c => { c with expiry := none }).epochDraw

/-- CODE_KEY_DERIVED (R52, R56). -/
def execCodeKeyDerived (t : Nat) (s : State) : Result :=
  if s.ctl.por then .next s else
  .next (s.at_ t).deriveKey

/-- SYNC_IN_EDGE: the latest edge since the previous boundary is kept (R46). -/
def execSyncInEdge (t : Nat) (s : State) : Result :=
  if s.ctl.por then .next s else
  .next ((s.at_ t).withScan fun c => { c with syncEdge := some t })

/-- The gait in force after the boundary: a pending one unless a member still waits for its phase (R40, R44). -/
def State.nextGait (s : State) : Nat :=
  if s.bit P.GAIT.PENDING ∧ !s.bit P.GAIT.TEAM_WAIT then s.fld P.GAIT.GAIT_NEXT else s.gait

/-- The frame phase that takes effect at the boundary, if one does (R45, R46, R374). DESIGN CHOICE (notes/assumptions 40): a
PHASE written while SYNC_SRC is 0b01 is kept as a phase request like any other, and acts where the SYNC_SRC that comes into
force at the boundary is 0b00. -/
def State.nextPhase (s : State) (g : Nat) : Option Nat :=
  if s.isMember then s.scan.leadPhase
  else if s.fld P.FRAME_SYNC.SYNC_SRC = 1 then s.scan.syncEdge.map (syncPhase g)
  else s.scan.phaseReq

/-- Whole ns that a due time step moves system time, and the fraction left (R377). -/
def State.stepShift (s : State) : Option (Int × Int) :=
  s.hitch.xfer.due.map (fun th => let x := s.hitch.xfer.frac - th; (x / 2048, x % 2048))

/-- Will the next frame boundary, as things stand, change the gait, φ or the time base (R235)? -/
def State.changeDue (s : State) : Bool :=
  let g := s.nextGait
  g != s.gait || (match s.nextPhase g with
    | some p => p % gaitPhi g != s.phi
    | none => decide (s.phi % gaitPhi g ≠ s.phi)) || s.stepShift.isSome

end Sys2Proof.Machine
end

