-- ==== Sys2Proof/Machine/Mirror.lean ====
section
/-! DEFINITION. The scan mirror: reference trajectory, states, current and position loops, repetitive learning,
column-trigger scheduling and parking (10_scan_mirror_loop.md). -/
namespace Sys2Proof.Machine

/-- Replace the mirror record. -/
def State.withMir (s : State) (f : Mirror → Mirror) : State := { s with mirror := f s.mirror }
/-- Mirror state (P.0A08: 0 OFF, 1 PARKED, 2 RAMP, 3 TRACK, 4 RECOVER, 5 SPIN_DOWN, 6 BLIND_PARK, 7 FAULT). -/
def State.mirSt (s : State) : Nat := s.fld P.MIR_STATUS.STATE
/-- W in force, m°. -/
def State.fieldW (s : State) : Nat := s.forceFld P.FIELD.W
/-- The full amplitude A in µ° (R236). -/
def State.ampl (s : State) : Nat := 500 * s.fieldW

/-- D = C × T. -/
def gaitD (g : Nat) : Nat := gaitC g * gaitT g
/-- A sweep's own turnaround. -/
def turnLen (g phi : Nat) (k : Int) : Int := sweepStartI g phi (k + 1) - sweepStartI g phi k - (gaitD g : Int)
/-- σ of a sweep: +1 forward. -/
def sweepSign (k : Int) : Int := if k % 2 = 0 then 1 else -1

/-- g(t) of sweep `k` on a grid, in its active part and the turnaround after it (R234). -/
def gTraj (g phi : Nat) (k : Int) (t : Int) : Frac :=
  let d := (gaitD g : Int)
  let u := t - sweepStartI g phi k
  let sg := sweepSign k
  if u ≤ d then Frac.mk' (sg * (2 * u - d)) d.toNat
  else
    let tau := turnLen g phi k
    let x := u - d
    -- 1 + (2 tau / d) (s - 2 s^3 + s^4), s = x / tau
    Frac.mk' (sg * (d * tau ^ 3 + 2 * (x * tau ^ 3 - 2 * x ^ 3 * tau + x ^ 4))) (d * tau ^ 3).toNat

/-- The peak of a turnaround: σ (1 + 0.3125 w) (R234). -/
def gPeak (g phi : Nat) (k : Int) : Frac :=
  let d := (gaitD g : Int)
  let tau := turnLen g phi k
  Frac.mk' (sweepSign k * (8 * d + 5 * tau)) (8 * d).toNat

/-- g(t) through a transition turnaround: brake, dwell, launch (R235). -/
def gTransition (tr : Transition) (t : Int) : Frac :=
  let endOld := sweepStartI tr.g0 tr.phi0 tr.k0 + (gaitD tr.g0 : Int)
  let start1 := sweepStartI tr.g1 tr.phi1 tr.k1
  let tau0 := turnLen tr.g0 tr.phi0 tr.k0
  let k1 := tr.k1 - 1
  let tau1 := start1 - sweepStartI tr.g1 tr.phi1 k1 - (gaitD tr.g1 : Int)
  if t < endOld then gTraj tr.g0 tr.phi0 (sweepAt tr.g0 tr.phi0 t) t
  else if start1 ≤ t then gTraj tr.g1 tr.phi1 (sweepAt tr.g1 tr.phi1 t) t
  else if 2 * (t - endOld) ≤ tau0 then gTraj tr.g0 tr.phi0 tr.k0 t
  else if 2 * (start1 - t) ≤ tau1 then gTraj tr.g1 tr.phi1 k1 t
  else
    let a := gPeak tr.g0 tr.phi0 tr.k0
    let b := gPeak tr.g1 tr.phi1 k1
    let len := 2 * (start1 - endOld) - tau0 - tau1
    a.add ((b.sub a).mul (Frac.mk' (2 * (t - endOld) - tau0) len.toNat))

/-- g(t) as it stands (R234, R235). -/
def State.gAt (s : State) (t : Int) : Frac :=
  match s.mirror.transition with
  | some tr => gTransition tr t
  | none => gTraj s.gait s.phi (sweepAt s.gait s.phi t) t

/-- θ_ref(t) in µ° (R234). -/
def State.thetaRef (s : State) (t : Int) : Int :=
  let g := s.gAt t
  roundHalfEven ((s.mirror.h : Int) * g.num) g.den

/-- The angle estimate at `t` (R232); with one sample it stands still. -/
def State.est (s : State) (t : Int) : Frac :=
  match s.mirror.n with
  | none => ⟨0, 1⟩
  | some n => match s.mirror.m with
    | none => ⟨n.theta, 1⟩
    | some m =>
      let dt := (n.t : Int) - (m.t : Int)
      if dt = 0 then ⟨n.theta, 1⟩
      else Frac.mk' (n.theta * dt + (n.theta - m.theta) * (t - (n.t : Int))) dt.natAbs

/-- `round(est(t))`. -/
def State.estRound (s : State) (t : Int) : Int := let e := s.est t; roundHalfEven e.num e.den

/-- Has a bridge failed? -/
def State.bridgeFailed (s : State) (b : Nat) : Bool :=
  if b = 0 then s.bit P.MIR_STATUS.B0_FAILED else s.bit P.MIR_STATUS.B1_FAILED

/-- The high and low sides that a drive state turns on, bridge `b` having half-bridges 2b (side A) and 2b + 1 (side B)
(R226, Table 10.2). -/
def Drive.gates (d : Drive) (b : Nat) : Nat × Nat :=
  let sideA := 2 ^ (2 * b)
  let sideB := 2 ^ (2 * b + 1)
  match d with
  | .pos => (sideA, sideB)
  | .neg => (sideB, sideA)
  | .brake => (0, sideA + sideB)
  | .off => (0, 0)

/-- Gate commands change at a time (Table 10.1). -/
def State.emitGates (s : State) (hs ls t v : Nat) : State :=
  forEach (maskBits 4 ls) (fun q s => s.emit (.pin "MIR_LS" q t v))
    (forEach (maskBits 4 hs) (fun q s => s.emit (.pin "MIR_HS" q t v)) s)

/-- The commands whose dead time is over by `t` have gone high (R227). -/
def State.gatesOn (s : State) (t : Nat) : State :=
  match s.mirror.onAt with
  | none => s
  | some (x, h, l) =>
    if x ≤ t then (s.emitGates h l x 1).withMir fun m => { m with hs := m.hs ||| h, ls := m.ls ||| l, onAt := none } else s

/-- The active bridge `b` goes to a drive state: what turns off does so at once, what turns on DEAD_NS later, and the other
bridge is OFF (R227). A failed bridge never drives (R230). -/
def State.setDrive (s : State) (b : Nat) (d : Drive) (t : Nat) : State :=
  let s := s.gatesOn t
  let d := if s.bridgeFailed b then .off else d
  let g := d.gates b
  let m := s.mirror
  let onH := g.1 - (g.1 &&& m.hs)
  let onL := g.2 - (g.2 &&& m.ls)
  let s := s.emitGates (m.hs - (g.1 &&& m.hs)) (m.ls - (g.2 &&& m.ls)) t 0
  s.withMir fun m => { m with
    drive := d, hs := m.hs &&& g.1, ls := m.ls &&& g.2,
    onAt := if onH + onL = 0 then none else some (t + s.fld P.MIR_CFG.DEAD_NS, onH, onL) }

/-- The edges and pairs collected for an angle lag are discarded (R302). -/
def Farrier.dropPairs (f : Farrier) : Farrier := { f with edges := [], revEdges := [], pairs := [] }

/-- Enter a mirror state: every transition out of TRACK is a park decision (R239) and discards the edge pairs (R302); sum
and e_prev restart in PARKED and RAMP (R240); the drive is BRAKE in BLIND_PARK and OFF in OFF and FAULT (R229), where no tick
runs that could be late (R241). -/
def State.enterMir (s : State) (st : Nat) : State :=
  let old := s.mirSt
  let s := s.setFld P.MIR_STATUS.STATE st
  let s := if st = 6 then s.setDrive (s.fld P.MIR_STATUS.BRIDGE) .brake s.now
    else if st = 0 ∨ st = 7 then s.setDrive (s.fld P.MIR_STATUS.BRIDGE) .off s.now
    else s
  let s := if old = 3 ∧ st ≠ 3 then { s with farrier := s.farrier.dropPairs } else s
  s.withMir fun m => { m with
    inhibit := m.inhibit || (old == 3 && st != 3),
    left := m.left || (old == 3 && st != 3),
    offTrack := m.offTrack || (old == 3 && st != 3 && decide (s.now < sweepEnd s.gait s.phi s.scan.k)),
    sum := if st = 1 ∨ st = 2 then 0 else m.sum,
    ePrev := if st = 1 ∨ st = 2 then 0 else m.ePrev,
    lossRun := 0, recoverFrames := if st = 4 then 0 else m.recoverFrames,
    -- h is not A throughout a frame in which the mirror was PARKED (Table 10.6)
    frameGood := m.frameGood && !(st == 1 || (st == 2 && old == 1)),
    ocRun := if st = 0 ∨ st = 7 then 0 else m.ocRun,
    overRun := if st = 0 ∨ st = 6 ∨ st = 7 then 0 else m.overRun }

/-- Set the park cause; causes 2 to 7 clear RUN, but for a RUN = 1 written in the same tick, which is applied last (R238). -/
def State.parkCause (s : State) (c : Nat) : State :=
  let s := s.setFld P.MIR_STATUS.CAUSE c
  if 2 ≤ c ∧ c ≤ 7 ∧ !(s.mirror.runAt = some s.now) then s.setFld P.MIR_CTRL.RUN 0 else s

/-- BLIND_PARK (R247). -/
def State.blindPark (s : State) (cause : Nat) : State :=
  if 1 ≤ s.mirSt ∧ s.mirSt ≤ 5 then
    let s := (s.enterMir 6).parkCause cause
    let s := s.withMir fun m => { m with inhibit := true, sched := none }
    let th := match s.mirror.n with
      | some n => n.theta
      | none => 0
    let s := s.record 0x0A02 3 true true (leBytes 1 cause ++ leBytes 4 (trunc 32 th))
    s.setFlag P.MIR_FLAGS.PARKED_BY_FAULT
  else s

/-- OFF (Table 10.6, cause 8); a takeover of bridge 1 that is under way goes on (R230). -/
def State.mirrorOff (s : State) : State :=
  if s.mirSt = 0 then s else
  (s.enterMir 0).parkCause 8 |>.withMir fun m => { m with sched := none, iRef := 0, inhibit := true }

/-- The amplitude takes a value, and MIR_STATUS shows it (R237, Table 10.15). -/
def State.setAmpl (s : State) (h : Nat) : State := (s.withMir fun m => { m with h := h }).setFld P.MIR_STATUS.H (h / 1000)

/-- RAMP from PARKED with p = 0, or from SPIN_DOWN, when RUN = 1: a start of scanning (Table 10.6, R57). -/
def State.tryRamp (s : State) : State :=
  if s.bit P.MIR_CTRL.RUN then
    if s.mirSt = 1 ∧ s.mirror.p = 0 then
      let e := s.est s.now
      let h := Nat.min (e.num.natAbs / e.den) s.ampl
      ((s.enterMir 2).setAmpl h).startScanning
    else if s.mirSt = 5 then (s.enterMir 2).startScanning
    else s
  else s

/-- SPIN_DOWN (Table 10.6); a RUN = 1 written in the same tick leads on to RAMP. Another cause of the tick in which RUN = 0 has
led to it stands before RUN (R238). -/
def State.spinDown (s : State) (cause : Nat) : State :=
  if 2 ≤ s.mirSt ∧ s.mirSt ≤ 4 then
    let s := if cause = 1 then s.withMir fun m => { m with downAt := some s.now } else s
    ((s.enterMir 5).parkCause cause).tryRamp
  else if s.mirSt = 5 ∧ cause ≠ 1 ∧ s.mirror.downAt = some s.now then s.parkCause cause
  else s

/-- PARKED, the reference loaded with the estimate (R237). -/
def State.parkFromRest (s : State) : State :=
  (((s.enterMir 1).withMir fun m => { m with p := s.estRound s.now }).setAmpl 0).tryRamp

/-- OFF to PARKED when DRV_EN = 1 and a valid sample has arrived within STALE_US (Table 10.6). -/
def State.tryPark (s : State) : State :=
  if s.mirSt = 0 ∧ s.bit P.MIR_CTRL.DRV_EN then
    match s.mirror.n with
    | some n => if s.now ≤ n.arrived + 1000 * s.fld P.MIR_TOL.STALE_US then s.parkFromRest else s
    | none => s
  else s

/-- A bridge fault (R230): it never drives again; the spare takes over or the mirror faults. -/
def State.bridgeFault (s : State) (cause : Nat) (i : Int) : State :=
  let b := s.fld P.MIR_STATUS.BRIDGE
  let s := if b = 0 then s.setFld P.MIR_STATUS.B0_FAILED 1 else s.setFld P.MIR_STATUS.B1_FAILED 1
  let s := (s.setDrive b .off s.now).withMir fun m => { m with ocRun := 0 }
  let spare := s.bit P.MIR_CTRL.SPARE_EN && !s.bit P.MIR_STATUS.B1_FAILED
  let s := if spare then
      (s.withMir fun m => { m with takeover := some (s.now + 1000) }).liveWrap P.MIR_COUNTS.FAILOVERS 1
    else (s.enterMir 7).parkCause 5 |>.withMir fun m => { m with inhibit := true, sched := none }
  let s := s.record 0x0A01 3 true true (leBytes 1 b ++ leBytes 1 cause ++ leBytes 2 (trunc 16 i) ++ leBytes 1 (ofBit spare))
  s.setFlag P.MIR_FLAGS.BRIDGE_FAULT

/-- A DRV_EN written before acts at this sample or tick: before every other cause (R238, R248). -/
def State.mirDrv (s : State) : State :=
  let due := s.mirror.drvDue
  let s := s.withMir fun m => { m with drvDue := false, tickAt := some s.now }
  if !due then s else if s.bit P.MIR_CTRL.DRV_EN then s.tryPark else s.mirrorOff

/-- A RUN written before acts at this sample or tick: after every other cause (R238, R248). -/
def State.mirRun (s : State) : State :=
  let due := s.mirror.runDue
  let s := s.withMir fun m => { m with runDue := false }
  if !due then s else if s.bit P.MIR_CTRL.RUN then s.tryRamp else s.spinDown 1

/-- i_ref as it is in force, always within ±I_LIMIT (R229). -/
def State.limitIRef (s : State) : State :=
  let lim := (s.fld P.MIR_CFG.I_LIMIT : Int)
  s.withMir fun m => { m with iRef := clampI (-lim) lim m.iRef }

/-- How far a current has gone in the driven direction since the drive state began (Table 10.4). -/
def Mirror.gone (m : Mirror) (i : Int) : Int := match m.drive with
  | .pos => max m.driveGone (i - m.driveI)
  | .neg => max m.driveGone (m.driveI - i)
  | _ => 0

/-- The drive that R229 gives at a sample. -/
def State.chooseDrive (s : State) (t : Nat) (i : Int) : State :=
  if 1 ≤ s.mirSt ∧ s.mirSt ≤ 5 then
    let ib := (s.fld P.MIR_CFG.IBAND : Int)
    let s := s.limitIRef
    let m := s.mirror
    let d := if 2 * i < 2 * m.iRef - ib then Drive.pos else if 2 * m.iRef + ib < 2 * i then Drive.neg else m.drive
    if d = m.drive then s.withMir fun m => { m with driveGone := m.gone i }
    else (s.setDrive (s.fld P.MIR_STATUS.BRIDGE) d t).withMir fun m => { m with driveSince := t, driveI := i, driveGone := 0 }
  else s

/-- A signed 12-bit current code (R228). -/
def currentCode (i : Int) : Bool := decide (-2048 ≤ i) && decide (i ≤ 2047)

/-- A sample of the active bridge's current: overcurrent, then the drive (R228 to R230, Table 10.4). -/
def State.currentAt (s : State) (t : Nat) (code : Int) : State :=
  if 1 ≤ s.mirSt ∧ s.mirSt ≤ 6 ∧ s.mirror.takeover.isNone then
    let oc := decide ((s.fld P.MIR_CFG.I_TRIP : Int) < code.natAbs)
    if oc ∧ 1 ≤ s.mirror.ocRun then s.bridgeFault 0 code
    else (s.withMir fun m => { m with ocRun := if oc then m.ocRun + 1 else 0 }).chooseDrive t code
  else s.withMir fun m => { m with ocRun := 0 }

/-- CURRENT_SAMPLE (R228 to R230), with the fields written since the last sample or tick (R248). -/
def execCurrentSample (t : Nat) (code : Int) (s : State) : Result :=
  if s.ctl.por then .next s else
  if t % 20 ≠ 0 ∨ !currentCode code then .next s
  else .next ((((s.at_ t).gatesOn t).mirDrv.currentAt t code).mirRun)

/-- BRIDGE_STUCK: POS or NEG held for STUCK_US, and no sample since has moved IBAND codes that way (Table 10.4). -/
def execBridgeStuck (t : Nat) (code : Int) (s : State) : Result :=
  if s.ctl.por ∨ !currentCode code then .next s else
  let s := s.at_ t
  let m := s.mirror
  if (m.drive = .pos ∨ m.drive = .neg) ∧ m.driveSince + 1000 * s.fld P.MIR_CFG.STUCK_US ≤ t ∧
      m.gone code < (s.fld P.MIR_CFG.IBAND : Int) then
    .next (s.bridgeFault 1 code)
  else .next s

/-- BRIDGE_TAKEOVER: bridge 1 becomes active with the drive R229 gives (R230). -/
def execBridgeTakeover (code : Int) (s : State) : Result :=
  if s.ctl.por then .next s else
  match s.mirror.takeover with
  | none => .next s
  | some t =>
    if !currentCode code then .next s else
    let s := ((s.at_ t).setFld P.MIR_STATUS.BRIDGE 1).withMir fun m => { m with takeover := none }
    .next (if s.mirSt = 6 then s.setDrive 1 .brake s.now else s.chooseDrive t code)

/-- The angle of column boundary `k` in µ° (R36). -/
def columnAngle (w c k : Nat) : Int := (1000 * (k : Int) * w - 500 * (w : Int) * c) / (c : Int)

/-- The boundary that column `seq` of the current sweep waits for (R245). -/
def State.boundary (s : State) (seq : Nat) : Int :=
  let c := gaitC s.gait
  columnAngle s.fieldW c (if s.scan.k % 2 = 0 then seq else c - seq)

/-- The scheduled trigger time of the next column (R245, R246); none while nothing schedules it. -/
def State.trigTime (s : State) : Option Nat :=
  match s.mirror.sched with
  | none => none
  | some x =>
    let b := s.boundary s.scan.seq
    let fwd := s.scan.k % 2 = 0
    let passed := if fwd then decide (b ≤ x.s.theta) else decide (x.s.theta ≤ b)
    let t := if passed then x.s.arrived
      else
        let q := (((b - x.s.theta) * x.den).natAbs + x.num.natAbs - 1) / x.num.natAbs
        Nat.max x.s.arrived (x.s.t + q)
    let after := fun (x : Option Nat) (t : Nat) => match x with
      | some l => Nat.max t (l + 1)
      | none => t
    some (after s.mirror.lastSkip (after s.mirror.lastTrig t))

/-- The end of the wait for the next column: t_k + (s + 2) T (R246). -/
def State.skipTime (s : State) : Nat := s.tk + (s.scan.seq + 2) * gaitT s.gait

/-- Is the mirror's turnaround window open at `t` (R233)? -/
def State.turnWindow (s : State) (t : Nat) : Bool :=
  let open_ := match s.mirror.lastTrig with
    | some l => if s.tk ≤ l then l + 20000 else sweepEnd s.gait s.phi s.scan.k
    | none => sweepEnd s.gait s.phi s.scan.k
  -- a column may still be triggered up to its skip time, after the end of the active part
  let done := decide (gaitC s.gait ≤ s.scan.seq) || !s.scan.fired
  let following := sweepStart s.gait s.phi (s.scan.k + 1)
  let next := match s.mirror.transition with
    | some tr => let n := sweepStart tr.g1 tr.phi1 tr.k1; if s.tk < n then n else following
    | none => following
  let next := if t < s.tk then s.tk else next
  (done && decide (open_ ≤ t) && decide (t + 200000 ≤ next)) || (decide (t < s.tk) && decide (t + 200000 ≤ s.tk))

/-- An angle sample reaches the engine at `t` (R231, R232, R301). `q` is in degrees; `g` is the filter's group
delay in ns. -/
def State.angleTaken (s : State) (q : Frac) (tn g : Nat) (invalid skipped : Bool) : State :=
  let t := s.now
  if invalid then
    let s := s.withMir fun m => { m with validSince := none }
    if s.mirSt = 0 then s else s.blindPark 2
  else if skipped then s
  else
    let base := roundHalfEven (q.num * 1000000) q.den
    let raw := ((base, tn) :: s.mirror.raw).take 2
    let lag := (g : Int) + s.fldI P.ANG_VIEW.LAG
    let theta := match raw with
      | [(a, ta), (b, tb)] => if ta = tb then base
          else base + roundHalfEven ((a - b) * lag * (if tb < ta then 1 else -1)) ((ta : Int) - tb).natAbs
      | _ => base
    let smp : AngSample := ⟨theta, tn, t⟩
    let prev := s.mirror.n
    let s := s.withMir fun m => { m with
      raw := raw, n := some smp, m := m.n, freshSample := true,
      validSince := if m.validSince.isSome then m.validSince else some t }
    let fwd := s.scan.k % 2 = 0
    let s := match prev with
      | none => s
      | some p =>
        let num := (smp.theta - p.theta) * (if p.t < tn then 1 else -1)
        let den := ((tn : Int) - p.t).natAbs
        if den ≠ 0 ∧ (if fwd then 0 < num else num < 0) ∧ 1 ≤ s.mirSt ∧ s.mirSt ≤ 5 then
          s.withMir fun m => { m with sched := some ⟨smp, num, den⟩ }
        else s
    (s.setFldI P.MIR_STATUS.ANGLE theta).tryPark

/-- An angle sample, with the fields written since the last sample or tick (R248). -/
def State.angleArrive (s : State) (q : Frac) (tn g : Nat) (invalid skipped : Bool) : State :=
  (s.mirDrv.angleTaken q tn g invalid skipped).mirRun

/-- ANGLE_STALE: no valid sample for STALE_US in any state but OFF (R232). -/
def execAngleStale (t : Nat) (s : State) : Result :=
  if s.ctl.por then .next s else
  let s := s.at_ t
  let last := match s.mirror.n with
    | some n => n.arrived
    | none => 0
  if s.mirSt ≠ 0 ∧ last + 1000 * s.fld P.MIR_TOL.STALE_US ≤ t then
    .next ((s.withMir fun m => { m with validSince := none }).blindPark 3)
  else .next s

/-- Move `x` toward `target` by at most `step`. -/
def slewTo (x target step : Nat) : Nat := if x < target then Nat.min target (x + step) else Nat.max target (x - step)

/-- The amplitude and the parked reference at a 10 µs tick (R237). -/
def State.ampSlew (s : State) : State :=
  let step := 10 * s.fld P.MIR_TRAJ.AMP_SLEW
  let st := s.mirSt
  let s := s.withMir fun m => { m with
    h := if 2 ≤ st ∧ st ≤ 4 then slewTo m.h s.ampl step else if st = 5 then slewTo m.h 0 step else m.h,
    p := if st = 1 then (if m.p < 0 then - (slewTo m.p.natAbs 0 step : Int) else (slewTo m.p.natAbs 0 step : Int)) else m.p }
  let s := s.setFld P.MIR_STATUS.H (s.mirror.h / 1000)
  if st = 5 ∧ s.mirror.h = 0 then (s.enterMir 1).withMir fun m => { m with p := 0 } else s

/-- The end of a tick: a RUN written before, and a scan that can begin now that p is 0 (Table 10.6, R238). -/
def State.tickEnd (s : State) : State :=
  let s := s.mirRun
  if s.mirSt = 1 then s.tryRamp else s

/-- Direction and index of a tick in the repetitive table, over the frame interval that holds it. -/
def State.tableSlot (s : State) (t : Int) : Nat :=
  let k := sweepAt s.gait s.phi t
  let a := sweepStartI s.gait s.phi k
  let b := sweepStartI s.gait s.phi (k + 1)
  (if k % 2 = 0 then 0 else 2048) + (2048 * (t - a) / (b - a)).toNat

/-- Is `t` inside a transition turnaround (R235)? It runs from the end of the old active part; from there to the frame boundary,
which makes the change, the change is one that is due. -/
def State.inTransition (s : State) (t : Int) : Bool :=
  (s.changeDue && decide ((sweepEnd s.gait s.phi s.scan.k : Int) ≤ t)) ||
  match s.mirror.transition with
  | some tr => decide (sweepStartI tr.g0 tr.phi0 tr.k0 + (gaitD tr.g0 : Int) ≤ t) && decide (t < sweepStartI tr.g1 tr.phi1 tr.k1)
  | none => false

/-- The repetitive term rc (R242). -/
def State.rcTerm (s : State) (t : Int) : Frac :=
  if s.bit P.MIR_RC.RC_EN ∧ s.mirSt ≠ 1 ∧ s.mirSt ≠ 6 ∧ !s.inTransition t then
    Frac.mk' (Map.get 0 s.mirror.table (s.tableSlot (t + 10000 * s.fld P.MIR_RC.LEAD)) * s.mirror.h) (16 * s.ampl)
  else ⟨0, 1⟩

/-- Learn in TRACK (R243). -/
def State.learn (s : State) (t : Int) (e : Int) : State :=
  if s.mirSt = 3 ∧ s.bit P.MIR_RC.RC_EN ∧ !s.bit P.MIR_RC.RC_FREEZE ∧ s.mirror.freshSample then
    let j := s.tableSlot t
    let v := Map.get 0 s.mirror.table j
    let lim := (s.fld P.MIR_RC.RC_LIMIT : Int)
    let x := v - v / (2 ^ s.fld P.MIR_RC.FORGET : Nat) + roundHalfEven ((s.fld P.MIR_RC.KR : Int) * e) 65536
    let y := clampI (-lim) lim x
    let s := s.withMir fun m => { m with table := Map.set 0 m.table j y }
    if x = y then s else s.setFlag P.MIR_FLAGS.RC_CLAMPED
  else s

/-- The reference r(t): p in PARKED, θ_ref elsewhere (R240). -/
def State.refAt (s : State) (t : Int) : Int := if s.mirSt = 1 then s.mirror.p else s.thetaRef t

/-- Record the frame's largest errors and current (Table 10.16). -/
def State.mirMax (s : State) (f : FieldRef) (v : Nat) : State := s.setLive f (Nat.max (s.liveFld f) (capN (2 ^ f.width - 1) v))

/-- The errors of the frame: loss of track at three ticks above LOSS_TOL, and what TRACK needs (Table 10.6). -/
def State.trackError (s : State) (t : Int) (e : Int) : State :=
  let active := decide ((s.tk : Int) ≤ t) && decide (t < (sweepEnd s.gait s.phi s.scan.k : Int))
  let s := s.mirMax (if active then P.MIR_FRAME.MAX_ERR_ACT else P.MIR_FRAME.MAX_ERR_TURN) e.natAbs
  let run := if s.fld P.MIR_TOL.LOSS_TOL < e.natAbs then s.mirror.lossRun + 1 else 0
  let bad := (active && decide (s.fld P.MIR_TOL.TRACK_TOL < e.natAbs)) || decide (s.mirror.h ≠ s.ampl)
  let s := s.withMir fun m => { m with lossRun := run, frameGood := m.frameGood && !bad }
  if s.mirSt = 3 ∧ 3 ≤ run then s.enterMir 4 else s

/-- The outer loop at a tick: the current reference, its integral, learning and the errors (R240, R242, R243). -/
def State.positionLoop (s : State) (t : Nat) : State :=
  if 1 ≤ s.mirSt ∧ s.mirSt ≤ 5 then
    let es := s.est t
    let r := s.refAt t
    let rn := s.refAt ((t : Int) + 10000)
    let rp := s.refAt ((t : Int) - 10000)
    let e := roundHalfEven (r * es.den - es.num) es.den
    let v := rn - r
    let a := rn - 2 * r + rp
    let m := s.mirror
    let pd := (s.fld P.MIR_GAINS.KP : Int) * e + (s.fld P.MIR_GAINS.KD : Int) * (e - m.ePrev) +
      (s.fld P.MIR_GAINS.KV : Int) * v + (s.fld P.MIR_ACCEL.KA : Int) * a
    let u := ((Frac.mk' pd 65536).add (Frac.mk' ((s.fld P.MIR_GAINS.KI : Int) * m.sum) (2 ^ 24))).add (s.rcTerm t)
    let lim := (s.fld P.MIR_CFG.I_LIMIT : Int)
    let iRef := clampI (-lim) lim (roundHalfEven u.num u.den)
    let within := decide (u.num.natAbs ≤ lim.natAbs * u.den)
    let sum := if within ∨ e.sign ≠ u.num.sign then clampI (-(2 ^ 40)) (2 ^ 40) (m.sum + e) else m.sum
    let s := s.learn t e
    let s := s.withMir fun m => { m with iRef := iRef, sum := sum, ePrev := e, overRun := 0, freshSample := false }
    let s := s.mirMax P.MIR_FRAME.PEAK_IREF iRef.natAbs
    s.trackError t e
  else s

/-- POSITION_LOOP_TICK (R237, R238, R240, R242, R243). -/
def execPositionLoopTick (t : Nat) (s : State) : Result :=
  if s.ctl.por then .next s else
  if t % 10000 ≠ 0 then .next s else .next (((s.at_ t).mirDrv.ampSlew.positionLoop t).tickEnd)

/-- A late result is discarded; the third in a row parks the mirror (R241). -/
def State.overrun (s : State) : State :=
  if 1 ≤ s.mirSt ∧ s.mirSt ≤ 5 then
    let s := (s.liveWrap P.MIR_COUNTS.OVERRUNS 1).setFlag P.MIR_FLAGS.OVERRUN_SEEN
    let n := s.mirror.overRun + 1
    let s := s.withMir fun m => { m with overRun := n, freshSample := false }
    if 3 ≤ n then s.blindPark 4 else s
  else s

/-- OUTER_LOOP_OVERRUN: a tick whose result is late (R237, R238, R241). -/
def execOuterLoopOverrun (t : Nat) (s : State) : Result :=
  if s.ctl.por then .next s else
  if t % 10000 ≠ 0 then .next s else .next (s.at_ t).mirDrv.ampSlew.overrun.tickEnd

/-- The peak angle of a gait and W exceeds THETA_MAX, or the peak acceleration ACC_MAX (R236). -/
def trajectoryExceeds (g w thetaMax accMax : Nat) : Bool :=
  let a := 500 * w
  let d := gaitD g
  let tauMin := 1000000000 / gaitF g - d
  decide (8000 * thetaMax * d < a * (8 * d + 5 * gaitTau g)) || decide (accMax * d * tauMin < 6000000000 * a)

/-- At a frame boundary: RAMP or RECOVER to TRACK, RECOVER given up, and the frame's record restarted
(Table 10.6, R239). -/
def State.mirrorBoundary (s : State) : State :=
  let st := s.mirSt
  let s :=
    if (st = 2 ∨ st = 4) ∧ s.mirror.frameGood ∧ s.mirror.h = s.ampl then s.enterMir 3
    else if st = 4 then
      if s.fld P.MIR_TOL.RECOVER_MAX ≤ s.mirror.recoverFrames + 1 then s.spinDown 6
      else s.withMir fun m => { m with recoverFrames := m.recoverFrames + 1 }
    else s
  s.withMir fun m => { m with frameGood := true, sched := none, lastTrig := none, lastSkip := none }

/-- A lower RC_LIMIT: the tables never exceed it (R243). DESIGN CHOICE (notes/assumptions 48): the entries are cut at the write,
and RC_CLAMPED, which a clamp of the update sets, is not. -/
def State.rcLimit (s : State) : State :=
  let lim := (s.fld P.MIR_RC.RC_LIMIT : Int)
  s.withMir fun m => { m with table := (m.table.map (fun (e : Nat × Int) => (e.1, clampI (-lim) lim e.2))).filter (fun e => decide (e.2 ≠ 0)) }

/-- Clear both repetitive tables (R244). -/
def State.rcClear (s : State) : State := s.withMir fun m => { m with table := [] }

/-- RESTART (Table 10.6): refused unless DRV_EN = 1, a bridge is fit to drive and valid samples have arrived
for the last 10 ms. -/
def State.mirRestartOk (s : State) : Bool :=
  (s.mirSt == 6 || s.mirSt == 7) && s.bit P.MIR_CTRL.DRV_EN &&
    (!s.bridgeFailed (s.fld P.MIR_STATUS.BRIDGE) || (s.bit P.MIR_CTRL.SPARE_EN && !s.bit P.MIR_STATUS.B1_FAILED)) &&
    (match s.mirror.validSince with
     | some t => decide (t + 10000000 ≤ s.now)
     | none => false)

/-- RESTART's effect. -/
def State.mirRestart (s : State) : State :=
  let s := if s.bridgeFailed (s.fld P.MIR_STATUS.BRIDGE) then s.setFld P.MIR_STATUS.BRIDGE 1 else s
  s.parkFromRest

end Sys2Proof.Machine
end

