-- ==== Sys2Proof/Machine/Templates.lean ====
section
/-! DEFINITION. Filter templates, their banks, commits and cross-fades (05_echo_extraction.md R118 to R122). -/
namespace Sys2Proof.Machine

/-- A cluster. -/
def State.cluster (s : State) (k : Nat) : Cluster := Map.get {} s.clusters k
/-- Change a cluster. -/
def State.withCluster (s : State) (k : Nat) (f : Cluster → Cluster) : State :=
  { s with clusters := Map.set {} s.clusters k (f (s.cluster k)) }
/-- Farrier's record changed. -/
def State.withFar (s : State) (f : Farrier → Farrier) : State := { s with farrier := f s.farrier }

/-- A template with its gain and power (R109). -/
def mkTemplate (taps : List Int) (anchor wl wr sig : Nat) : Template :=
  { taps := taps, anchor := anchor, wl := wl, wr := wr, sigmaRef16 := sig, g := sumI taps,
    p := (sumI (taps.map (fun x => x * x))).toNat }

/-- The staged template (Tables 5.11, 5.12): taps beyond L are dropped. -/
def State.stagedTemplate (s : State) : Template :=
  let l := s.fld P.TPL_SHAPE.L
  mkTemplate ((List.range l).map (fun i => s.fldI ((P.TPL_TAPS.TAP.idx (i / 4)).sub (i % 4) 16)))
    (s.fld P.TPL_SHAPE.ANCHOR) (s.fld P.TPL_SHAPE.WL) (s.fld P.TPL_SHAPE.WR) (s.fld P.TPL_SHAPE.SIGMA_REF16)

/-- The template in a bank; unlisted banks hold the default template (R118). -/
def Cluster.bank (c : Cluster) (b : Nat) : Template := Map.get {} c.banks b
/-- Write a bank. -/
def Cluster.setBank (c : Cluster) (b : Nat) (t : Template) : Cluster := { c with banks := Map.set {} c.banks b t }

/-- Is a bank locked (R119)? -/
def Cluster.locked (c : Cluster) (b : Nat) : Bool :=
  (match c.fade with
   | some f => f.src == b || f.dst == b
   | none => false) ||
  (match c.held with
   | some (h, _) => h == b
   | none => false)

/-- The bank LOCKS, as bits. -/
def Cluster.locks (c : Cluster) : Nat := ofBit (c.locked 0) + 2 * ofBit (c.locked 1) + 4 * ofBit (c.locked 2)

/-- Commit a template to an unlocked bank at time `t`: at once, but for the active bank at the first hand-off
at least 1,000 ns later (Table 5.4). DESIGN CHOICE (notes/assumptions 50): with a held request and no fade running, a commit to
the active bank acts at once too. -/
def Cluster.takeCommit (c : Cluster) (b t : Nat) (x : Template) : Cluster :=
  if b = c.active ∧ c.fade.isNone ∧ c.held.isNone then { c with commits := c.commits ++ [(x, t + 1000)] } else c.setBank b x

/-- Is a swap refused in this cluster (Table 5.4)? -/
def Cluster.swapRefused (c : Cluster) : Bool := c.held.isSome

/-- Accept a swap (R120, Table 5.4). -/
def Cluster.takeSwap (c : Cluster) (b f t : Nat) : Cluster :=
  match c.fade with
  | none => if b = c.active then c else { c with fade := some ⟨c.active, b, f, 0, t + 1000⟩ }
  | some fd => if b = fd.dst then c else { c with held := some (b, f) }

/-- End a fade whose last column is done (R120). -/
def Cluster.endFade (c : Cluster) : Cluster :=
  match c.fade with
  | some fd => if fd.f ≤ fd.m then { c with active := fd.dst, fade := none } else c
  | none => c

/-- The commits to the active bank whose time has come are in use, the latest in the end (Table 5.4). -/
def Cluster.useCommits (c : Cluster) (due : Nat → Bool) : Cluster :=
  let now := c.commits.filter (fun x => due x.2)
  { (now.foldl (fun (c : Cluster) x => c.setBank c.active x.1) c) with commits := c.commits.filter (fun x => !due x.2) }

/-- A hand-off at `h`: a held request begins, a fade advances, a commit comes into use (R120, Table 5.4). -/
def Cluster.handOff (c : Cluster) (h : Nat) : Cluster :=
  let c := c.endFade
  let c := c.useCommits (fun t => decide (t ≤ h))
  let c := match c.fade, c.held with
    | none, some (b, f) => { c with fade := some ⟨c.active, b, f, 0, 0⟩, held := none }
    | _, _ => c
  match c.fade with
  | some fd => if fd.start ≤ h then { c with fade := some { fd with m := fd.m + 1 } } else c
  | none => c

/-- The cluster's logic domain switches off: fades complete at once (Table 5.4). -/
def Cluster.settle (c : Cluster) : Cluster :=
  let c := c.useCommits (fun _ => true)
  match c.held, c.fade with
  | some (b, _), _ => { c with active := b, fade := none, held := none }
  | none, some fd => { c with active := fd.dst, fade := none }
  | none, none => c

/-- The lowest bank that is neither active nor locked (R300). -/
def Cluster.freeBank (c : Cluster) : Option Nat :=
  (List.range 3).find? (fun b => b != c.active && !c.locked b)

/-- Farrier commits a template and requests a swap with F = 16, or waits for a free bank (R122, R300). -/
def State.autoTemplate (s : State) (k : Nat) (x : Template) : State :=
  let c := s.cluster k
  let g := Map.get {} s.farrier.gather k
  match (if c.swapRefused then none else c.freeBank) with
  | some b =>
    let s := s.withCluster k fun c => (c.takeCommit b s.now x).takeSwap b 16 s.now
    s.withFar fun f => { f with gather := Map.set {} f.gather k { g with waiting := none } }
  | none => s.withFar fun f => { f with gather := Map.set {} f.gather k { g with waiting := some x } }

/-- Gathering restarts (R300). -/
def State.gatherRestart (s : State) (k : Nat) : State :=
  s.withFar fun f => { f with gather := Map.set {} f.gather k { waiting := (Map.get {} f.gather k).waiting } }

/-- A fade that is over ends, and the cluster's gathering restarts (R120, R300). -/
def State.fadeEnd (s : State) (k : Nat) : State :=
  let c := s.cluster k
  if c.fade.isSome ∧ c.endFade.fade.isNone then (s.withCluster k Cluster.endFade).gatherRestart k else s

/-- A hand-off in every cluster (R120, R300). -/
def State.tplHandOff (s : State) (h : Nat) : State :=
  forUpto 12 (fun k s =>
    let s := (s.fadeEnd k).withCluster k fun c => c.handOff h
    match (Map.get {} s.farrier.gather k).waiting with
    | some x => if s.forceBit P.TPL_CTRL.AUTO_TPL then s.autoTemplate k x else s
    | none => s) s

end Sys2Proof.Machine
end

