-- ==== Sys2Proof/Machine/Stamping.lean ====
section
/-! DEFINITION. Inputs, stamps, the checks on a return event, emissions, gates and the statistics block
(03_return_stamping.md). -/
namespace Sys2Proof.Machine

/-- Replace the stamping record. -/
def State.withStamp (s : State) (f : Stamping → Stamping) : State := { s with stamp := f s.stamp }
/-- What a return channel keeps. -/
def State.ch (s : State) (c : Nat) : Chan := Map.get {} s.stamp.chans c
/-- Change it. -/
def State.withCh (s : State) (c : Nat) (f : Chan → Chan) : State :=
  s.withStamp fun p => { p with chans := Map.modify {} p.chans c f }
/-- A unit's spare path. -/
def State.spare (s : State) (u : Nat) : Spare := Map.get {} s.stamp.spares u
/-- Change it. -/
def State.withSpare (s : State) (u : Nat) (f : Spare → Spare) : State :=
  s.withStamp fun p => { p with spares := Map.modify {} p.spares u f }
/-- An external gate, 0 for GATE_A. -/
def State.gate (s : State) (g : Nat) : Gate := if g = 0 then s.stamp.gateA else s.stamp.gateB
/-- Replace a gate. -/
def State.setGate (s : State) (g : Nat) (x : Gate) : State :=
  s.withStamp fun p => if g = 0 then { p with gateA := x } else { p with gateB := x }

/-- The entry of a code table (R65). -/
def State.lutAt (s : State) (path r : Nat) : Nat := (Map.get [] s.stamp.lut path).getD r (16 * r)
/-- The skew of an input (R65). -/
def State.skewAt (s : State) (input : Nat) : Int := Map.get 0 s.stamp.skew input
/-- The path that stamps a channel: its own or the unit's spare (R81). -/
def State.pathOf (s : State) (c : Nat) : Nat :=
  if (s.spare (c / 8)).channel = some c then 9 * (c / 8) + 8 else 9 * (c / 8) + c % 8
/-- Has a path been declared failed (R296, R297)? -/
def State.pathFailed (s : State) (path : Nat) : Bool := (Map.get {} s.farrier.health path).failed

/-- An event's free-running stamp before it wraps (R65), in LSB of system time. -/
def State.freeStamp (s : State) (path input tick code : Nat) : Int :=
  ((tick : Int) * 2048 + s.lutAt path code + s.skewAt input + 8) / 16

/-- The 25-bit stamp of an event counted from an epoch (R65). -/
def State.stampOf (s : State) (path input tick code epoch : Nat) : Int :=
  (((tick % 262144 : Nat) : Int) * 2048 + s.lutAt path code + s.skewAt input + 8) / 16 % 33554432
    - 128 * ((epoch % 262144 : Nat) : Int) |> (· % 33554432)

/-- The key of a pulse. -/
def pulseKey (b j : Nat) : Nat := 32 * b + j
/-- A pulse of a column. -/
def Column.pulse (c : Column) (b j : Nat) : Pulse := Map.get {} c.pulses (pulseKey b j)
/-- Replace a pulse. -/
def Column.setPulse (c : Column) (b j : Nat) (p : Pulse) : Column :=
  { c with pulses := Map.set {} c.pulses (pulseKey b j) p }
/-- The fire command's time in LSB from the epoch (R74). -/
def Column.fireStamp (c : Column) (f : Nat) : Int := 128 * ((f : Int) - c.epoch)
/-- The pulses of a bank that fired: number and pulse. -/
def Column.firedOf (c : Column) (b : Nat) : List (Nat × Pulse) :=
  (c.pulses.filter (fun e => decide (e.1 / 32 = b) && e.2.fire.isSome)).map (fun e => (e.1 % 32, e.2))

/-- Change the column with a frame and sequence number. -/
def State.withCol (s : State) (frame seq : Nat) (f : Column → Column) : State :=
  { s with scan := { s.scan with columns := s.scan.columns.map (fun c => if c.frame = frame ∧ c.seq = seq then f c else c) } }
/-- Does the buffer of a channel accept events of the column (R25, R98)? -/
def State.accepts (s : State) (c : Nat) (k : Column) : Bool :=
  let b := s.buf (2 * c + k.seq % 2)
  b.st == .filling && b.content.frame == k.frame && b.content.seq == k.seq

/-- Where a return stamp lies among the column's windows (R73, Table 3.5). -/
inductive Fate where
  | stray
  | disarmed
  | inside (pulse tof : Nat)
  | undecided
  deriving DecidableEq, Repr

/-- Decide a stamp by the emissions and arming known so far (R73, R77). -/
def Column.fate (c : Column) (b : Nat) (x : Int) : Fate :=
  let ps := c.firedOf b
  let hit := ps.reverse.find? (fun e => match e.2.emission with
    | some m => decide (m ≤ x) && decide (x - m < 262144)
    | none => false)
  match hit with
  | some (j, p) =>
    match p.armed with
    | some true => .inside j (x - p.emission.getD 0).toNat
    | some false => .disarmed
    | none => .undecided
  | none =>
    if ps.any (fun e => e.2.emission.isNone && decide (c.fireStamp (e.2.fire.getD 0) ≤ x)) then .undecided else .stray

/-- Set PILE in a bin word (R71, R90). DESIGN CHOICE (notes/assumptions 43): this write is no accumulation of R94: a single
error in the word is corrected without being counted, and an uncorrectable word stays as it is, with no POISON mark. -/
def State.setPile (s : State) (k bin : Nat) : State :=
  let d := match decodeWord (s.binWord k bin) with
    | .clean d => some d
    | .corrected d => some d
    | .uncorrectable => none
  match d with
  | some d => s.setBinWord k bin (encodeWord (if binPile d then d else d + 2 ^ 55))
  | none => s

/-- A credit drop (R71): PILE in the last bin of its window; a tick within 1 ns of a window's end may count
either way, which is left free. -/
def State.pileDrop (s : State) (c : Nat) (k : Column) (tick : Nat) : State :=
  let x : Int := 128 * ((tick : Int) - k.epoch)
  let near := (k.firedOf (c / 24)).find? (fun e => match e.2.emission with
    | some m => decide (m - 128 ≤ x) && decide (x - m ≤ 262144 + 128)
    | none => false)
  match near with
  | none => s
  | some (j, p) =>
    let d := x - p.emission.getD 0
    let (inside, s) := if 128 < d ∧ d < 262144 - 128 then (true, s)
      else let (r, s) := s.draw 1; (r == 1, s)
    match (if inside then Map.find? k.lastBin (32 * c + j) else none) with
    | some bin => if s.accepts c k then s.setPile (2 * c + k.seq % 2) bin else s
    | none => s

/-- The range gate of a channel (R72). -/
def State.nearBin (s : State) (c : Nat) : Nat := s.forceFld ((P.NEAR.NEAR_BIN.idx (c / 8)).sub (c % 8) 8)
/-- FAR16 of a channel. -/
def State.far16 (s : State) (c : Nat) : Nat := s.forceFld ((P.FAR.FAR16.idx (c / 8)).sub (c % 8) 8)
/-- Is a bin inside the channel's range gate (R72)? -/
def State.inGate (s : State) (c bin : Nat) : Bool :=
  decide (s.nearBin c ≤ bin) && decide (bin ≤ 16 * s.far16 c + 15)

/-- Steps 3 to 5 of Table 3.5, once the window and the arming are decided. -/
def State.dispose (s : State) (k : Column) (e : RetEvent) (f : Fate) : State :=
  match f with
  | .stray => s.withCh e.channel fun x => { x with stray := wrapAdd 32 x.stray 1 }
  | .disarmed => s.withCh e.channel fun x => { x with disarmed := wrapAdd 32 x.disarmed 1 }
  | .inside j tof =>
    if s.inGate e.channel (tof / 64) then
      s.withCol k.frame k.seq fun c => { c with accepted := c.accepted ++ [⟨e.channel, j, tof / 64, tof % 64, e.high⟩] }
    else s.withCh e.channel fun x => { x with gated := wrapAdd 32 x.gated 1 }
  | .undecided => s

/-- Go through the events that wait for a decision; with `last`, what is still undecided is stray. -/
def State.settleCol (s : State) (frame seq : Nat) (last : Bool) : State :=
  match s.scan.columns.find? (fun c => decide (c.frame = frame ∧ c.seq = seq)) with
  | none => s
  | some k =>
    let fateOf := fun (e : RetEvent) => match k.fate (e.channel / 24) e.stamp with
      | .undecided => if last then .stray else .undecided
      | f => f
    let s := s.withCol frame seq fun c => { c with waiting := c.waiting.filter (fun e => fateOf e == .undecided) }
    forEach k.waiting (fun e s => s.dispose k e (fateOf e)) s

/-- Is an edge at `raw` still within the hold-off of `ns` ns that the event at `start` began (R61), both in 1/128 ns? The
duration deviates by up to 0.25 ns (Table 3.2): an edge that close to its end may fall on either side, which is left free
(notes/assumptions 42). -/
def State.holdOff (s : State) (start : Option Nat) (ns raw : Nat) : Bool × State :=
  match start with
  | none => (false, s)
  | some a =>
    if raw + 32 < a + 128 * ns then (true, s)
    else if a + 128 * ns + 32 ≤ raw then (false, s)
    else let (d, s) := s.draw 1; (d == 1, s)

/-- The SAT level test (R89): is a comparator output that stays high for `stay` LSB after its edge still high SAT_LEN ns after
it? The instant of the test deviates by up to 1 ns (Table 4.2), which is left free (notes/assumptions 42). -/
def State.levelTest (s : State) (stay : Nat) : Bool × State :=
  let x := 128 * s.forceFld P.HIST_CFG.SAT_LEN
  if stay + 128 < x then (false, s)
  else if x + 128 ≤ stay then (true, s)
  else let (d, s) := s.draw 1; (d == 1, s)

/-- RETURN_EVENT: hold-off, credit, freeze, window, arming and gate (R61, R69 to R73). `code` is the raw
sub-nanosecond code r; `stay`: how long the comparator output stays high after the edge, in LSB (R89). -/
def execReturnEvent (channel tick code stay : Nat) (s : State) : Result :=
  if s.ctl.por then .next s else
  if 384 ≤ channel ∨ 128 ≤ code then .next s
  else
    let s := s.at_ tick
    let u := (P.INPUT_CFG.EN.idx (channel / 8)).sub (channel % 8) 8
    let ns := s.forceFld ((P.INPUT_CFG.HOLDOFF.idx (channel / 8)).sub (channel % 8) 8)
    let raw := 128 * tick + code
    let x := s.ch channel
    let (held, s) := s.holdOff x.holdFrom ns raw
    if !s.forceBit u ∨ held ∨ !s.domOn (channel / 32) then .next s
    else
      let s := s.withCh channel fun x => { x with holdFrom := some raw }
      if s.farrier.strobe ∨ x.lost then .next s
      else if x.credits = 0 then
        let s := s.withCh channel fun x => { x with rateDrops := wrapAdd 32 x.rateDrops 1 }
        .next (match s.openCol with
          | some k => s.pileDrop channel k tick
          | none => s)
      else
        let s := s.withCh channel fun x => { x with credits := x.credits - 1 }
        match s.openCol with
        | none => .next (s.withCh channel fun x => { x with stray := wrapAdd 32 x.stray 1 })
        | some k =>
          if s.accepts channel k then
            let (high, s) := s.levelTest stay
            let e : RetEvent := ⟨channel, s.stampOf (s.pathOf channel) channel tick code k.epoch, false, high⟩
            match k.fate (channel / 24) e.stamp with
            | .undecided => .next (s.withCol k.frame k.seq fun c => { c with waiting := c.waiting ++ [e] })
            | f => .next (s.dispose k e f)
          else .next s

/-- CREDIT_RESTORE: one credit to each return path, up to 8; one is restored every 4 ns, so none within 4 ns of the last
(R70). -/
def execCreditRestore (t : Nat) (s : State) : Result :=
  if s.ctl.por then .next s else
  let s := s.at_ t
  let early : Bool := match s.stamp.creditAt with
    | some a => decide (s.now < a + 4)
    | none => false
  if early then .next s
  else .next (s.withStamp fun p => { p with
    creditAt := some s.now
    chans := (p.chans.map (fun e => (e.1, { e.2 with credits := Nat.min 8 (e.2.credits + 1) }))).filter
      (fun e => decide (e.2 ≠ {})) })

/-- One sample of the statistics block, taken as a 40-bit signed value (R79). With CONT = 1 the next run starts with the
sample after a run's last. -/
def State.statSample (s : State) (src : Nat) (v : Int) : State :=
  let b := s.stamp.stat
  if b.running ∧ b.src = src then
    let x := sext 40 (trunc 40 v)
    let s := if b.again then s.slotStart K.STAT_HDR else s
    let b := { b with again := false, count := b.count + 1, s1 := b.s1 + x, s2 := b.s2 + x * x,
                      lo := if b.count = 0 then x else min b.lo x, hi := if b.count = 0 then x else max b.hi x }
    let b := if b.nm1 + 1 ≤ b.count then
        { b with done := b.done ++ [⟨b.src, b.nm1, b.s1, b.s2, b.lo, b.hi⟩], count := 0, s1 := 0, s2 := 0,
                 running := s.bit P.STAT_CTRL.CONT, again := s.bit P.STAT_CTRL.CONT }
      else b
    s.withStamp fun p => { p with stat := b }
  else s

/-- `round(n * sqrt(d) / m)` with ties to even, exactly. -/
def roundSqrt (n d m : Nat) : Nat :=
  -- the integer q nearest to sqrt(n^2 d) / m: compare (2q + 1)^2 m^2 with 4 n^2 d
  let q := isqrt (n * n * d) / m
  let a := (2 * q + 1) * (2 * q + 1) * (m * m)
  let b := 4 * (n * n * d)
  if a < b then q + 1 else if a = b then (if q % 2 = 0 then q else q + 1) else q

/-- STAT_RESULT_COMPLETE: the result slot is filled (R79, R80, R182). -/
def execStatResultComplete (t : Nat) (s : State) : Result :=
  if s.ctl.por then .next s else
  match s.stamp.stat.done with
  | [] => .next s
  | r :: rest =>
    let s := s.at_ t
    let n := r.nm1 + 1
    let d := ((n : Int) * r.s2 - r.s1 * r.s1).toNat
    let s := s.withStamp fun p => { p with stat := { p.stat with done := rest } }
    let s := s.slotDone K.STAT_HDR
    let s := (s.setFld P.STAT_HDR.SRC r.src).setFld P.STAT_HDR.N_M1 r.nm1
    let s := s.setFldI P.STAT_MEAN.MEAN (roundHalfEven (256 * r.s1) n)
    let s := s.setFld P.STAT_STD.STD (capN (2 ^ 32 - 1) (roundSqrt 256 d n))
    .next ((s.setFldI (P.STAT_MINMAX.EXTREME.idx 0) r.lo).setFldI (P.STAT_MINMAX.EXTREME.idx 1) r.hi)

/-- STAT_START: a run begins and any partial run is discarded (R79); a result already read gives way to it (R80, R182). -/
def State.statStart (s : State) : State :=
  (s.slotStart K.STAT_HDR).withStamp fun p => { p with stat := { p.stat with
    running := true, again := false, src := s.fld P.STAT_CTRL.SRC, nm1 := s.fld P.STAT_CTRL.N_M1, count := 0, s1 := 0, s2 := 0, prev := none } }

/-- Does gate `g` place no condition on bank `b`, or is it active at `t` LSB of system time (R76, Table 3.6)? -/
def State.gateActive (s : State) (g b : Nat) (t : Int) : Bool :=
  let mode := s.forceFld (P.GATE_CFG.ARM_MODE.idx g)
  if mode = 0 ∨ !bitOf (s.forceFld (P.GATE_CFG.BANK_MASK.idx g)) b then true
  else if s.pathFailed (448 + g) then false
  else
    let pol := s.forceBit (P.GATE_CFG.POL.idx g)
    let gt := s.gate g
    let before := gt.edges.filter (fun e => decide ((e.1 : Int) ≤ t))
    if mode = 1 then
      match before with
      | e :: _ => e.2 != pol
      | [] => gt.resetLevel != pol
    else before.any (fun e => (e.2 != pol) && decide (t < (e.1 : Int) + 128 * s.forceFld (P.GATE_CFG.ARM_LEN.idx g)))

/-- ARMING_DECISION: 64 ns after the emission stamp, once per pulse and bank (R76, R77). -/
def execArmingDecision (bank pulse : Nat) (s : State) : Result :=
  if s.ctl.por then .next s else
  match s.openCol with
  | none => .next s
  | some k =>
    let p := k.pulse bank pulse
    match p.emission, p.armed with
    | some m, none =>
      let t := 128 * (k.epoch : Int) + m
      let s := s.at_ (((t + 127) / 128).toNat + 64)
      let armed := s.gateActive 0 bank t && s.gateActive 1 bank t
      let s := s.withCol k.frame k.seq fun c => c.setPulse bank pulse { p with armed := some armed }
      .next (s.settleCol k.frame k.seq false)
    | _, _ => .next s

/-- GATE_EDGE: an edge is stamped, takes part in arming and in frame arming, and is a statistics sample
(R76 to R79, R291, R297). -/
def execGateEdge (gate tick code : Nat) (rising : Bool) (s : State) : Result :=
  if s.ctl.por then .next s else
  if 2 ≤ gate ∨ 128 ≤ code then .next s
  else
    let s := s.at_ tick
    if s.pathFailed (448 + gate) ∨ (s.farrier.strobe ∧ s.farrier.gatesToo) then .next s
    else
      let x := (s.freeStamp (448 + gate) (400 + gate) tick code).toNat
      let active := rising != s.forceBit (P.GATE_CFG.POL.idx gate)
      let g := s.gate gate
      -- an edge older than 1 µs matters only as the latest of its sense
      let (young, old) := g.edges.partition (fun e => decide (x < e.1 + 128000))
      let keep := young ++ (match old.find? (fun e => e.2), old.find? (fun e => !e.2) with
        | some a, some b => if b.1 ≤ a.1 then [a, b] else [b, a]
        | some a, none => [a]
        | none, some b => [b]
        | none, none => [])
      let s := s.setGate gate { g with edges := (x, rising) :: keep, active := if active then x :: g.active else g.active }
      if active then
        let s := match s.stamp.stat.prev with
          | some y => s.statSample (16 + gate) ((x : Int) - y)
          | none => s
        let s := s.withStamp fun p => if p.stat.src = 16 + gate ∧ p.stat.running then
          { p with stat := { p.stat with prev := some x } } else p
        .next (s.statSample (18 + gate) ((x : Int) - 128 * sweepStartI s.gait s.phi (sweepAt s.gait s.phi ((x / 128 : Nat) : Int))))
      else .next s

/-- The installed fire-to-emission delay of a bank, LSB (R298). -/
def State.fteDelay (s : State) (b : Nat) : Nat := s.fld ((P.FTE_DELAY.DELAY.idx (b / 4)).sub (b % 4) 16)

/-- MONITOR_EVENT: the first event in a fired pulse's search interval is its emission; one in no interval may be
an uncommanded emission (R61, R74, R79, R216, R291, R297, R298). -/
def execMonitorEvent (bank tick code : Nat) (s : State) : Result :=
  if s.ctl.por then .next s else
  if 16 ≤ bank ∨ 128 ≤ code then .next s
  else
    let s := s.at_ tick
    let raw := 128 * tick + code
    let (held, s) := s.holdOff (Map.find? s.stamp.monHold bank)
      (s.forceFld ((P.MON_CFG.HOLDOFF.idx (bank / 8)).sub (bank % 8) 8)) raw
    if held then .next s
    else
      let s := s.withStamp fun p => { p with monHold := Map.insert p.monHold bank raw }
      if s.farrier.strobe ∨ s.pathFailed (432 + bank) then .next s
      else match s.openCol with
        | none => .next (s.strayMonitor bank)
        | some k =>
          let x := s.stampOf (432 + bank) (384 + bank) tick code k.epoch
          let win : Int := 128 * s.forceFld P.MON_WIN.MON_WIN
          match (k.firedOf bank).find? (fun e =>
              decide (k.fireStamp (e.2.fire.getD 0) ≤ x) && decide (x ≤ k.fireStamp (e.2.fire.getD 0) + win)) with
          | none => .next (s.strayMonitor bank)
          | some (j, p) =>
            if p.emission.isSome then .next s
            else
              let d := x - k.fireStamp (p.fire.getD 0)
              let s := s.withCol k.frame k.seq fun c => c.setPulse bank j { p with emission := some x }
              let s := s.withFar fun f => { f with
                fteSum := Map.modify 0 f.fteSum bank (· + d), fteCount := Map.modify 0 f.fteCount bank (· + 1) }
              .next (s.statSample bank d)

/-- MON_WIN_EXPIRY: no monitor event in the search interval; the emission is the fire command plus the bank's
fire-to-emission delay, and the bank's rows are degraded in the column (R21, R74). -/
def execMonWinExpiry (bank pulse : Nat) (s : State) : Result :=
  if s.ctl.por then .next s else
  match s.openCol with
  | none => .next s
  | some k =>
    let p := k.pulse bank pulse
    match p.fire, p.emission with
    | some f, none =>
      let s := s.at_ (f + s.forceFld P.MON_WIN.MON_WIN)
      let p := { p with emission := some (k.fireStamp f + s.fteDelay bank), nomon := true }
      .next (s.withCol k.frame k.seq fun c =>
        { c.setPulse bank pulse p with degraded := forUpto 24 (fun i m => Map.set false m (24 * bank + i) true) c.degraded })
    | _, _ => .next s

end Sys2Proof.Machine
end

