-- ==== Sys2Proof/Machine/Columns.lean ====
section
/-! DEFINITION. A column from its trigger to its hand-off: epoch, base, fire commands, hand-off and fill start
(01_shot_to_point.md, 02_gaits_and_firing_codes.md R36 to R39, R47, 04_moment_histograms.md R98, R103). -/
namespace Sys2Proof.Machine

/-- A list of keyed values from a function, leaving out the default. -/
def Map.tabulate {α : Type} [DecidableEq α] (d : α) (n : Nat) (f : Nat → α) : SMap α :=
  (List.range n).filterMap (fun i => if f i = d then none else some (i, f i))

/-- Fill start of every channel's buffer of one parity for a column (R98, Table 4.7). -/
def State.fillAll (s : State) (t : Nat) (m : BufMeta) : State :=
  let par := m.seq % 2
  let starts := fun (k : Nat) => decide (k % 2 = par) && (let b := s.buf k; b.st == .read && b.freedAt != some t)
  let bufs := Map.tabulate {} 768 (fun k => if starts k then { st := .filling, content := m } else s.buf k)
  { s with hist := { s.hist with
    words := s.hist.words.filter (fun e => !starts (e.1 / 4096)),
    rows := s.hist.rows.filter (fun e => !starts (e.1 / 256)),
    bufs := bufs } }

/-- Fix a column's base once the previous hand-off is known, and hold or skip it (R23, R38, R39). -/
def State.setBase (s : State) (frame seq hPrev : Nat) : State :=
  match s.scan.columns.find? (fun c => decide (c.frame = frame ∧ c.seq = seq)) with
  | none => s
  | some c =>
    let base := Nat.max c.epoch hPrev
    let skip := c.skipped || decide (s.forceFld P.HOLD.HOLD_LIMIT < base - c.epoch)
    let held := !skip && decide (c.epoch < base)
    let s := s.withCol frame seq fun c => { c with base := some base, held := held, skipped := skip }
    let s := if skip then s.liveSat P.COLUMN_COUNTS.SKIPPED 1 else s
    if held then s.liveSat P.COLUMN_COUNTS.HELD 1 else s

/-- A column comes into being at its epoch (R18, R47, R53, R98, R219). Without a code epoch in force, discarded by
leaving the team (R371), no slot can be placed and the column is skipped. -/
def State.openColumn (s : State) (t : Nat) (angle : Int) (skipped : Bool) : State :=
  let g := s.gait
  let seq := s.scan.seq
  let frame := s.frameNo
  let rev := s.scan.k % 2 == 1
  let (e, key) := match s.scan.epochCur with
    | some p => (p.e, p.key.getD [])
    | none => (0, [])
  let skips := skipped || s.scan.epochCur.isNone
  let inhibited := if skips then 0
    else sumN ((List.range 16).map (fun b => if s.gateOpen b && s.reserveFails b g then 2 ^ b else 0))
  let c : Column := {
    frame := frame, seq := seq, index := if rev then gaitC g - 1 - seq else seq, epoch := t, base := none, gait := g,
    reverse := rev, held := false, skipped := skips, angle := angle, codeE := e,
    offsets := codeOffsets key s.tk seq g e, inhibited := inhibited, volts := (List.range 4).map s.chgVolts,
    pulses := [], waiting := [], accepted := [], lastBin := [], handoff := none, piped := [], blind := [], sent := [],
    markers := 0, released := 0, ready := [], posts := [], ordinal := 0, degraded := [], degr := [] }
  let s := s.liveWrap P.EXP_COUNTS.INHIBIT_COLS (maskBits 16 inhibited).length
  let before := s.openCol
  let s := s.withScan fun x => { x with columns := x.columns ++ [c], seq := seq + 1 }
  let s := s.withMir fun m => { m with lastTrig := if skipped then m.lastTrig else some t, lastSkip := if skipped then some t else m.lastSkip }
  let s := if seq = 0 then
      (s.fillAll t { frame := frame, seq := 0 }).emit (.syncOut t (if rev then 2000 else 1000))
    else s
  match before with
  | none => s.setBase frame seq (s.scan.lastHandoff.getD 0)
  | some _ => s

/-- COLUMN_TRIGGER: the trigger at its scheduled time fixes the column's epoch (R18, R36, R245). -/
def execColumnTrigger (s : State) : Result :=
  if s.ctl.por then .next s else
  match s.trigTime with
  | none => .next s
  | some t =>
    if s.scan.fired ∧ s.scan.seq < gaitC s.gait ∧ t ≤ s.skipTime ∧ !s.stopBegun then
      let s := s.at_ t
      .next (s.openColumn t (s.estRound t) false)
    else .next s

/-- COLUMN_SKIP_TIMEOUT: a column not triggered by t_k + (s + 2) × T is skipped, with that time as its epoch
(R246). -/
def execColumnSkipTimeout (s : State) : Result :=
  if s.ctl.por then .next s else
  let t := s.skipTime
  let early : Bool := match s.trigTime with
    | some x => decide (x ≤ t)
    | none => false
  if s.scan.fired ∧ s.scan.seq < gaitC s.gait ∧ !early ∧ !s.stopBegun then
    let s := (s.at_ t).liveWrap P.MIR_COUNTS.MISSED_COLS 1
    .next (s.openColumn t (s.estRound t) true)
  else .next s

/-- FIRE_COMMAND: bank `bank` fires pulse `pulse` at its slot start plus offset plus stagger, if the emitter gate
and the exposure budget allow it (R19, R23, R206, R208, R218, R219). -/
def execFireCommand (bank pulse : Nat) (s : State) : Result :=
  if s.ctl.por then .next s else
  match s.openCol with
  | none => .next s
  | some c =>
    match c.base with
    | none => .next s
    | some base =>
      if 16 ≤ bank ∨ gaitN c.gait ≤ pulse ∨ c.skipped ∨ c.pulse bank pulse ≠ {} then .next s
      else
        let f := base + pulse * gaitT c.gait / gaitN c.gait + c.offsets.getD pulse 0 +
          s.forceFld (P.STAGGER.STG.sub bank 4)
        let s := s.at_ f
        let w := s.chgCode (bank / 4) * s.chgCode (bank / 4)
        let set := fun (p : Pulse) (s : State) => s.withCol c.frame c.seq fun c => c.setPulse bank pulse p
        if !s.gateOpen bank ∨ bitOf c.inhibited bank then .next (set { inhibited := true } s)
        else if s.fld (P.EXP_BUDGET.BUDGET.idx bank) < s.acc bank + w then
          .next ((set { inhibited := true } s).liveWrap P.EXP_COUNTS.INHIBIT_PULSES 1)
        else
          let e := f + s.fld P.EMIT_CTRL.FIRE_W
          let s := (set { fire := some f } s).addWeight bank w
          .next (({ s with emit_ := { s.emit_ with fired := Map.insert s.emit_.fired bank (f, e) } }).emit
            (.fire bank f (s.fld P.EMIT_CTRL.FIRE_W)))

/-- The instant of a column's hand-off, once every fired pulse has its emission (R22, R38). DESIGN CHOICE
(notes/assumptions 50): the close of a window between two ns is rounded up to a whole ns. -/
def State.handOffTime (s : State) (c : Column) : Option Nat :=
  let t := gaitT c.gait
  if c.skipped then some (Nat.max (c.epoch + t) (s.scan.lastHandoff.getD 0))
  else if c.base.isNone ∨ c.pulses.any (fun e => e.2.fire.isSome && (e.2.emission.isNone || e.2.armed.isNone)) then none
  else some (c.pulses.foldl (fun h e => match e.2.emission with
    | some m => Nat.max h ((c.epoch : Int) + (m + 262144 + 127) / 128).toNat
    | none => h) (c.epoch + t))

/-- The armed pulses of a bank, as ARMED of Table 4.8 and N_A (R116, R209). -/
def Column.armedMask (c : Column) (b : Nat) : Nat :=
  sumN ((List.range (gaitN c.gait)).map (fun j => if (c.pulse b j).armed = some true then 2 ^ j else 0))
/-- N_A of a bank. -/
def Column.nA (c : Column) (b : Nat) : Nat := (maskBits 24 (c.armedMask b)).length

/-- The column's buffers pass to the pipe (R22, R98): their content is described for dumps. -/
def State.handBuffers (s : State) (c : Column) : State :=
  let armed := (List.range 16).map c.armedMask
  { s with hist := { s.hist with bufs := s.hist.bufs.map (fun e =>
      let b := e.2
      if e.1 % 2 = c.seq % 2 ∧ b.st = .filling ∧ b.content.frame = c.frame ∧ b.content.seq = c.seq then
        let ch := e.1 / 2
        (e.1, { b with
          st := .handed,
          content := ⟨c.frame, c.index, c.seq, c.held, c.reverse, c.gait, c.epoch, c.codeE, s.nearBin ch, s.far16 ch,
            armed.getD (ch / 24) 0⟩ })
      else e) } }

/-- The rows that are degraded as a whole in the column, as it is handed off: a channel with a buffer that a mask test has
frozen and the host not released, in columns of either buffer (R25), one whose buffer of this column accepts no event, or
one whose path has been found failed (R81). -/
def State.degradeRows (s : State) (c : Column) : SMap Bool :=
  Map.tabulate false 384 (fun r => !s.accepts r c || s.maskFrozen r || (s.ch r).degraded)

/-- A dump request that waits for this column sets its DUMP causes (R102, R103). DESIGN CHOICE (notes/assumptions 43): a
named channel whose buffer of the column's parity is READ, released since its fill start, holds none of the column and is
skipped and counted as one that is FROZEN is. -/
def State.dumpTarget (s : State) (c : Column) : State :=
  match s.hist.dump with
  | some d =>
    if d.waiting ∧ d.asked + 1000 ≤ c.epoch ∧ (d.anyCol ∨ d.column = c.index) then
      let par := c.seq % 2
      let takes := fun ch =>
        let b := s.buf (2 * ch + par)
        b.st == .handed && b.content.frame == c.frame && b.content.seq == c.seq && !s.isFrozen (2 * ch + 1 - par)
      let named := (List.range d.count).map (· + d.first)
      let chosen := named.filter takes
      let s := s.setFld P.DUMP_STATUS.SKIPPED (named.length - chosen.length)
      let s := s.setFld P.DUMP_STATUS.WAITING 0
      let s := forEach chosen (fun ch s => s.freeze (2 * ch + par) false) s
      let s := { s with hist := { s.hist with dump := some { d with waiting := false, left := chosen.map (fun ch => (ch, par)) } } }
      if chosen.isEmpty then
        ({ s with hist := { s.hist with dump := none } }).setFld P.DUMP_STATUS.BUSY 0
      else s
    else s
  | none => s

/-- HAND_OFF: the oldest column's buffers stop accepting events and pass to the pipe; the next column's buffers
start to fill and its base is fixed; fades advance and dump causes are set (R22, R23, R98, R103, R120). -/
def execHandOff (s : State) : Result :=
  if s.ctl.por then .next s else
  match s.openCol with
  | none => .next s
  | some c0 =>
    match s.handOffTime c0 with
    | none => .next s
    | some h =>
      let s := (s.at_ h).settleCol c0.frame c0.seq true
      let deg := s.degradeRows c0
      let s := s.withCol c0.frame c0.seq fun c => { c with
        handoff := some h, degr := deg, degraded := deg.foldl (fun m e => Map.set false m e.1 e.2) c.degraded, ordinal := s.scan.handed + 1 }
      let s := s.withScan fun x => { x with lastHandoff := some h, handed := x.handed + 1 }
      let s := s.handBuffers c0
      let s := s.dumpTarget c0
      let s := s.tplHandOff h
      let s := if c0.seq + 1 < gaitC c0.gait then s.fillAll h { frame := c0.frame, seq := c0.seq + 1 } else s
      .next (s.setBase c0.frame (c0.seq + 1) h)


end Sys2Proof.Machine
end

