-- ==== Sys2Proof/Machine/Dma.lean ====
section
/-! DEFINITION. The DMA channels and the stream translation unit (17_ucie_and_memory.md): laying out items,
translating page by page, issuing, stalling, resuming and aborting. -/
namespace Sys2Proof.Machine

/-- A channel. -/
def State.chan (s : State) (c : Nat) : DmaChan := Map.get {} s.host.chans c
/-- Replace a channel. -/
def State.setChan (s : State) (c : Nat) (d : DmaChan) : State :=
  { s with host := { s.host with chans := Map.set {} s.host.chans c d } }
/-- Is the channel STALLED (P.1111)? -/
def State.stalled (s : State) (c : Nat) : Bool := bitOf (s.fld P.DMA_STATE.STALLED) c
/-- Set or clear STALLED. -/
def State.setStalled (s : State) (c : Nat) (v : Bool) : State := s.setFld (P.DMA_STATE.STALLED.bitAt c) (ofBit v)
/-- Does the channel hold by Bus Master Enable (R387)? -/
def State.bmOff (s : State) (c : Nat) : Bool := bitOf (s.fld P.DMA_STATE.BM_OFF) c
/-- May the channel issue a TLP now? -/
def State.chanFree (s : State) (c : Nat) : Bool :=
  s.linkUp && s.host.bme0 && !s.stalled c && (s.chan c).walk.isNone

/-- A stretch of ring bytes as device virtual addresses, wrapping across the ring's end (R175). -/
def ringSegs (base size off : Nat) (bytes : List Byte) : List (Nat × List Byte) :=
  let o := off % size
  if o + bytes.length ≤ size then [(base + o, bytes)]
  else [(base + o, bytes.take (size - o)), (base, bytes.drop (size - o))]

/-- The write-back line of a byte ring: WR_OFF and reserved zeros (R399, R482). -/
def offLine (wr : Nat) : List Byte := padTo 64 (leBytes 8 wr)

/-- Base, size and write offset of a byte ring: point rings 0 to 3, 4 dump, 5 recorder, 7 events. -/
def State.ringGeom (s : State) (c : Nat) : Nat × Nat × Nat :=
  match c with
  | 4 => (s.fld P.DUMP_RING.BASE * 4096, 2 ^ s.fld P.DUMP_RING.LOG2_SIZE, s.fld P.RING_WR_11.WR_OFF)
  | 5 => (s.fld P.REC_RING.BASE * 4096, 2 ^ s.fld P.REC_RING.LOG2_SIZE, s.fld (P.RING_WR_11.WR_OFF.idx 4))
  | 7 => (s.fld P.EVENT_RING.BASE * 4096, 2 ^ s.fld P.EVENT_RING.LOG2_SIZE, s.fld P.EVENT_WR.WR_OFF)
  | r => (s.fld (P.RING_BASE.BASE.idx r) * 4096, 2 ^ s.fld (P.RING_BASE.LOG2_SIZE.idx r), s.fld (P.RING_WR.WR_OFF.idx r))

/-- The field RD_OFF of a byte ring. -/
def ringRdField (c : Nat) : FieldRef :=
  match c with
  | 4 => P.RING_RD_11.RD_OFF
  | 5 => P.RING_RD_11.RD_OFF.idx 4
  | 7 => P.EVENT_RD.RD_OFF
  | r => P.RING_RD.RD_OFF.idx r
/-- The field WR_OFF of a byte ring. -/
def ringWrField (c : Nat) : FieldRef :=
  match c with
  | 4 => P.RING_WR_11.WR_OFF
  | 5 => P.RING_WR_11.WR_OFF.idx 4
  | 7 => P.EVENT_WR.WR_OFF
  | r => P.RING_WR.WR_OFF.idx r
/-- Is a byte ring enabled? -/
def State.ringOn (s : State) (c : Nat) : Bool :=
  match c with
  | 4 => s.bit P.DUMP_RING.EN
  | 5 => s.bit P.REC_RING.EN
  | 7 => s.bit P.EVENT_RING.EN
  | r => s.bit (P.RING_NOTIFY.EN.idx r)

/-- Ring bytes of the items that wait in a channel or are under way. -/
def State.queuedBytes (s : State) (c : Nat) : Nat :=
  sumN ((s.chan c).items.map (fun i => match i.done with
    | .columnLine _ n _ => n
    | .reply _ _ => 0
    | _ => i.payload.length))

/-- The free-running count WR_OFF of R175: the device writes a column at its release (R176), so the count has its bytes then,
and the register RING_WR shows them once the write-back line that carries WR_OFF is out (R178; notes/assumptions 45). -/
def State.wrCount (s : State) (c : Nat) : Nat := wrapAdd 64 (s.ringGeom c).2.2 (s.queuedBytes c)

/-- The free room of a byte ring: its size - (WR_OFF - RD_OFF), on the free-running counts (R175). -/
def State.ringFree (s : State) (c : Nat) : Nat :=
  (s.ringGeom c).2.1 - wrapAdd 64 (s.wrCount c) (2 ^ 64 - s.fld (ringRdField c))

/-- The addresses of an item that has reached the head of its channel. -/
def State.layout (s : State) (c : Nat) (i : DmaItem) : List (Nat × List Byte) :=
  let (base, size, wr) := s.ringGeom c
  let after := wrapAdd 64 wr i.payload.length
  match i.done with
  | .column _ _ _ => ringSegs base size wr i.payload
  | .columnLine r _ _ => [(s.fld (P.RING_NOTIFY.WB_ADDR.idx r) * 64, i.payload)]
  | .dumpRecord _ _ _ => ringSegs base size wr i.payload ++ [(s.fld P.RING_WB.WB_ADDR * 64, offLine after)]
  | .capture _ _ => ringSegs base size wr i.payload ++ [(s.fld (P.RING_WB.WB_ADDR.idx 4) * 64, offLine after)]
  | .notice => ringSegs base size wr i.payload ++ [(s.fld P.EVENT_WB.WB_ADDR * 64, offLine after)]
  | .reply n _ =>
    let ents := 2 ^ s.fld P.CQ_CFG.LOG2_ENTRIES
    ringSegs (s.fld P.CQ_CFG.BASE * 4096) (64 * ents) (64 * s.fld P.CQ_POS.CQ_WR) i.payload ++
      [(s.fld P.CQ_NOTIFY.WB_ADDR * 64,
        padTo 64 (leBytes 4 (wrapAdd 32 (s.fld P.CQ_POS.CQ_WR) n) ++ leBytes 4 (s.fld P.SQ_POS.SQ_RD)))]
  | .none => []

/-- Close a dump request once no record of it is left (R102, R103). -/
def State.dumpDone (s : State) : State :=
  match s.hist.dump with
  | some d =>
    if d.left.isEmpty ∧ !d.inFlight ∧ !d.waiting then
      let s := { s with hist := { s.hist with dump := none } }
      s.setFld P.DUMP_STATUS.BUSY 0
    else s
  | none => s

/-- No dump record is on its way any more; the dump may be over. -/
def State.dumpArrived (s : State) (q : Dump) : State :=
  ({ s with hist := { s.hist with dump := some { q with inFlight := false } } }).dumpDone

/-- The last word of a dump record has been written to the ring: its buffer's DUMP cause clears, unless it was frozen
before (R103). -/
def State.wordsOut (s : State) (d : DmaDone) : State :=
  match d, s.hist.dump with
  | .dumpRecord ch buf _, some q => if q.frozenSrc then s else s.unfreeze (2 * ch + buf) false
  | _, _ => s

/-- A dump record and its write-back line have left channel 4 (R399). -/
def State.dumpMoved (s : State) : State :=
  match s.hist.dump with
  | some q => s.dumpArrived q
  | none => s

/-- What follows when every byte of an item has been issued. -/
def State.itemDone (s : State) (d : DmaDone) : State :=
  match d with
  | .columnLine r n _ =>
    let s := s.addWrap (P.RING_WR.WR_OFF.idx r) n
    let g := Map.get {} s.streams r
    let g := { g with cols := g.cols + 1, firstCol := if g.firstCol.isSome then g.firstCol else some s.now }
    if s.fld (P.RING_NOTIFY.COAL_COLS.idx r) ≤ g.cols then
      ({ s with streams := Map.set {} s.streams r { g with cols := 0, firstCol := none } }).msix 0 (4 + r)
    else { s with streams := Map.set {} s.streams r g }
  | .dumpRecord _ _ n =>
    let s := s.addWrap P.RING_WR_11.WR_OFF n
    let s := s.addWrap P.DUMP_STATUS.DUMPS_DONE 1
    (s.msix 0 8).dumpMoved
  | .capture n _ =>
    let s := s.addWrap (P.RING_WR_11.WR_OFF.idx 4) n
    s.msix 0 9
  | .reply n v =>
    let s := s.addWrap P.CQ_POS.CQ_WR n
    let s := s.setFld P.SALSOL_STATUS.OUTSTANDING (s.fld P.SALSOL_STATUS.OUTSTANDING - 1)
    if v then s.msix 0 1 else s
  | .notice => (s.addWrap P.EVENT_WR.WR_OFF 32).msix 0 2
  | .column _ _ _ | .none => s

/-- The outcome of a translation (R388 to R391). -/
inductive Xlate where
  | ok (pa : Nat)
  | miss
  | fault (cause : Nat)
  deriving DecidableEq, Repr

/-- Is a VA in the window of an enabled STU? -/
def State.inWindow (s : State) (va : Nat) : Bool :=
  let lo := s.fld P.STU_CFG.WIN_LO * 2 ^ 21
  s.bit P.STU_CFG.EN && decide (lo ≤ va) && decide (va < lo + 2 ^ s.fld P.STU_CFG.L1_LOG2 * 2 ^ 21)

/-- Does a cached translation cover a VA? -/
def TlbEntry.covers (e : TlbEntry) (va : Nat) : Bool :=
  if e.large then va / 2 ^ 21 == e.va / 2 ^ 21 else va / 4096 == e.va / 4096

/-- Checks 5 and 6 of Table 17.6 and the host address. -/
def TlbEntry.use (e : TlbEntry) (c va : Nat) (write : Bool) : Xlate :=
  if !bitOf e.chMask c then .fault 5
  else if (if write then !e.wr else !e.rd) then .fault 6
  else if e.large then .ok (e.pa + va % 2 ^ 21) else .ok (e.pa + va % 4096)

/-- Translate through the window and the TLB (R388, R390, R391). -/
def State.translate (s : State) (c va : Nat) (write : Bool) : Xlate :=
  if !s.inWindow va then .fault 1
  else match s.host.tlb.find? (fun e => e.covers va) with
    | some e => e.use c va write
    | none => .miss

/-- The four steps of a stall (R393). -/
def State.stall (s : State) (c cause va : Nat) : State :=
  let s := s.setStalled c true
  let s := s.setFld ((⟨0x1111, 35, 32⟩ : FieldRef).sub c 4) cause
  let s := s.setFld (P.DMA_STATUS.FAULT_VA.idx c) va
  let s := s.liveWrap P.STU_COUNTS.FAULTS 1
  let s := s.record 0x1101 7 true false (leBytes 1 c ++ leBytes 1 cause ++ leBytes 8 va)
  let s := s.setFlag (P.DMA_STATE.XLATE_FAULT.bitAt c)
  s.msix 0 3

/-- Issue a table walk (R388, R392): the level-1 read goes out and TLB_MISSES counts it. -/
def State.startWalk (s : State) (c va : Nat) (resume write : Bool) : State :=
  let s := s.setChan c { s.chan c with walk := some ⟨va, resume, write⟩ }
  let s := s.liveWrap P.STU_COUNTS.TLB_MISSES 1
  s.emit (.tableRead c (s.fld P.STU_L1_BASE.L1_BASE * 4096 + 8 * ((va - s.fld P.STU_CFG.WIN_LO * 2 ^ 21) / 2 ^ 21)))

/-- Walks outstanding (R392: at most four). -/
def State.walks (s : State) : Nat := (s.host.chans.filter (fun e => e.2.walk.isSome)).length

/-- Pieces of at most `n` bytes. -/
def piecesOf (n : Nat) : Nat → List Byte → List (List Byte)
  | 0, _ => []
  | f + 1, l => if l.isEmpty then [] else l.take n :: piecesOf n f (l.drop n)

/-- Cut a page's bytes into TLPs of at most the maximum payload and issue them (Table 17.1, R386). -/
def State.issue (s : State) (c va pa : Nat) (bytes : List Byte) : State :=
  ((piecesOf s.host.maxPayload (bytes.length + 1) bytes).foldl
    (fun (a : State × Nat) p => (a.1.emit (.dma c (va + a.2) (pa + a.2) p), a.2 + p.length)) (s, 0)).1

/-- A notice is ready for channel 7: it goes before the completions that have not begun (R180, R181, Table 7.6). -/
def State.noticeReady (s : State) : Bool := !s.recs.queue.isEmpty && s.ringOn 7 && decide (32 ≤ s.ringFree 7)

/-- Is an item a reply? -/
def DmaItem.isReply (i : DmaItem) : Bool := match i.done with
  | .reply _ _ => true
  | _ => false

/-- The bytes of the last stretch of an item as it is issued: the line after a reply holds CQ_WR and SQ_RD after the reply
(R406). -/
def State.lastStretch (s : State) (i : DmaItem) (bytes : List Byte) : List Byte :=
  match i.done, i.segs with
  | .reply n _, [_] => padTo 64 (leBytes 4 (wrapAdd 32 (s.fld P.CQ_POS.CQ_WR) n) ++ leBytes 4 (s.fld P.SQ_POS.SQ_RD))
  | _, _ => bytes

/-- One page of a channel's head item; `none` when nothing can move. -/
def State.pump1 (s : State) (c : Nat) : Option State :=
  if !s.chanFree c then none
  else
    let d := s.chan c
    match d.items with
    | [] => none
    | i :: rest =>
      if !i.started ∧ c = 7 ∧ i.isReply ∧ s.noticeReady then none
      else if !i.started then
        let s' := s.setChan c { d with items := { i with started := true, segs := s.layout c i } :: rest }
        some (match i.done with
          | .column r _ _ => { s' with host := { s'.host with turn := (r + 1) % 4 } }
          | _ => s')
      else match i.segs with
        | [] =>
          match i.done with
          | .column _ _ _ => none
          | _ => some ((s.setChan c { d with items := rest }).itemDone i.done)
        | (va, bytes) :: more =>
          match s.translate c va true with
          | .fault cause => some (s.stall c cause va)
          | .miss => if s.walks < 4 then some (s.startWalk c va false true) else none
          | .ok pa =>
            let n := 4096 - va % 4096
            let s := s.issue c va pa ((s.lastStretch i bytes).take n)
            let segs := if bytes.length ≤ n then more else (va + n, bytes.drop n) :: more
            -- the write-back line alone is left: the item's own bytes are out
            let s := if i.segs.length = 2 ∧ segs.length = 1 then s.wordsOut i.done else s
            some (s.setChan c { d with items := { i with segs := segs } :: rest })

/-- Move a channel on until it blocks or `fuel` runs out. -/
def State.pumpAux (c : Nat) : Nat → State → State
  | 0, s => s
  | n + 1, s => match s.pump1 c with
    | some s' => State.pumpAux c n s'
    | none => s

/-- Move a channel on as far as it goes. -/
def State.pump (s : State) (c : Nat) : State :=
  State.pumpAux c (sumN ((s.chan c).items.map (fun i => i.payload.length / 2048 + 12)) + 4) s

/-- The channels in the order in which they are served: notices and completions, the fetch, the point rings from the one
whose turn it is, then the dumps (R180, Table 7.6). -/
def State.serveOrder (s : State) : List Nat := [7, 6] ++ (List.range 4).map (fun i => (s.host.turn + i) % 4) ++ [4, 5]

/-- A RESUME's fresh walk of the faulting page: where no table read can be made it fails at once; at most four walks are
outstanding, and it waits where they are, or where no TLP can move (R381, R387, R390, R392, R395). -/
def State.resumeWalk (s : State) (c : Nat) : State :=
  let va := s.fld (P.DMA_STATUS.FAULT_VA.idx c)
  if !s.inWindow va then
    ((s.setChan c { s.chan c with resumeDue := false }).addWrap (P.DMA_STATUS.REPEATS.idx c) 1).stall c 1 va
  else if s.walks < 4 ∧ s.linkUp ∧ s.host.bme0 then (s.setChan c { s.chan c with resumeDue := false }).startWalk c va true (decide (c ≠ 6))
  else s.setChan c { s.chan c with resumeDue := true }

/-- Move every channel on, in the order of the classes: the fresh walk it waits for, or its items (R180, R392). A point ring
stops after the items of one column, so that the rings take turns by column. -/
def State.pumpAll (s : State) : State :=
  forEach s.serveOrder (fun c s => (if (s.chan c).resumeDue then s.resumeWalk c else s).pump c) s

/-- Give a channel an item. -/
def State.dmaPush (s : State) (c : Nat) (i : DmaItem) : State :=
  (s.setChan c { s.chan c with items := (s.chan c).items ++ [i] }).pump c

/-- What a table read returned: a word, or a failure (cause 2 of Table 17.6). -/
abbrev TableRead := Option Word

/-- Check the entries of a walk in the order of Table 17.6 and form the translation (R388 to R390). -/
def State.walkCheck (s : State) (c : Nat) (w : Walk) (l1 l2 : TableRead) : Sum Nat TlbEntry :=
  if !s.inWindow w.va then .inl 1
  else match l1 with
    | none => .inl 2
    | some e1 =>
      let e := e1.toNat
      if !bitOf e 0 ∨ bitsOf e 63 60 ≠ 0 ∨ bitsOf e 11 4 ≠ 0 then .inl 3
      else if bitOf e 3 then
        if bitsOf e 20 12 ≠ 0 then .inl 3
        else
          let t : TlbEntry := ⟨w.va / 2 ^ 21 * 2 ^ 21, true, bitsOf e 51 12 * 4096, bitsOf e 59 52, bitOf e 1, bitOf e 2⟩
          match t.use c w.va w.write with
          | .fault cause => .inl cause
          | _ => .inr t
      else match l2 with
        | none => .inl 2
        | some e2 =>
          let e := e2.toNat
          if !bitOf e 0 ∨ bitsOf e 63 60 ≠ 0 ∨ bitsOf e 11 3 ≠ 0 then .inl 4
          else
            let t : TlbEntry := ⟨w.va / 4096 * 4096, false, bitsOf e 51 12 * 4096, bitsOf e 59 52, bitOf e 1, bitOf e 2⟩
            match t.use c w.va w.write with
            | .fault cause => .inl cause
            | _ => .inr t

/-- Cache a translation; the oldest of 64 gives way (notes/assumptions 12). -/
def State.cache (s : State) (t : TlbEntry) : State :=
  { s with host := { s.host with tlb := lastN 63 s.host.tlb ++ [t] } }

/-- Is a level-1 entry a pointer to a level-2 table, which is read next (R388, R390)? -/
def pointsOn (e1 : Word) : Bool :=
  let e := e1.toNat
  bitOf e 0 && bitsOf e 63 60 == 0 && bitsOf e 11 3 == 0

/-- Can what a walk's reads returned have come: completions and a level-2 read move no TLP in a retrain, and the level-2 read
none with Bus Master Enable at 0 (R381, R387)? A read may fail by its timeout whatever the link does. -/
def State.walkCan (s : State) (l1 : TableRead) : Bool :=
  match l1 with
  | none => true
  | some e1 => s.linkUp && (!pointsOn e1 || s.host.bme0)

/-- A walk completes (R390, R393, R395). -/
def State.walkDone (s : State) (c : Nat) (l1 l2 : TableRead) : State :=
  match (if s.walkCan l1 then (s.chan c).walk else none) with
  | none => s
  | some w =>
    let s := s.setChan c { s.chan c with walk := none }
    let s := match l1 with
      | some e1 =>
        if pointsOn e1 then s.emit (.tableRead c (bitsOf e1.toNat 51 12 * 4096 + 8 * (w.va / 4096 % 512))) else s
      | none => s
    match s.walkCheck c w l1 l2 with
    | .inl cause =>
      let s := if w.resume then s.addWrap (P.DMA_STATUS.REPEATS.idx c) 1 else s
      (s.stall c cause w.va).pumpAll
    | .inr t =>
      let s := s.cache t
      let s := if w.resume then s.setStalled c false else s
      s.pumpAll

/-- Queue a reply in its slot (R405, R414). -/
def State.pushReply (s : State) (r : Reply) : State :=
  { s with salsol := { s.salsol with replies := s.salsol.replies ++ [r] } }

/-- The 16-byte reply header (Table 18.5). -/
def replyHeader (opcode tag rlen status detail key : Nat) : List Byte :=
  leBytes 2 opcode ++ leBytes 2 tag ++ leBytes 2 rlen ++ leBytes 1 status ++ [0] ++ leBytes 2 detail ++
    leBytes 2 key ++ leBytes 4 0

/-- The entries a command of `len` bytes takes (R402). -/
def entriesOf (len : Nat) : Nat := (len + 63) / 64

/-- Put the frame headers and the losses that a discarded item carried on the items still queued in its ring: the next one
carries the headers (Table 17.8), the next column header the losses (R167). What no queued item takes is left over. -/
def passOn (hdrs : List (List Byte)) (lost : Nat) : List DmaItem → List DmaItem × List (List Byte) × Nat
  | [] => ([], hdrs, lost)
  | i :: l =>
    let n := (i.hdrs.flatten).length
    if i.colIndex = 0xFFFF then
      let r := passOn [] lost l
      ({ i with payload := hdrs.flatten ++ i.payload, hdrs := hdrs ++ i.hdrs } :: r.1, r.2)
    else
      let sum := satAdd 16 i.lost lost
      ({ i with payload := hdrs.flatten ++ i.payload.take (n + 28) ++ leBytes 2 sum ++ i.payload.drop (n + 30),
                hdrs := hdrs ++ i.hdrs, lost := sum } :: l, [], 0)

/-- Discard the item `i` of a point channel, the head of it: its column is lost whole, and what it carried goes to the next
item of the ring (Table 17.8, R163, R167). Column 0xFFFF is an unfired frame's header alone. -/
def State.discardColumn (s : State) (r frame : Nat) (i : DmaItem) : State :=
  let old := (Map.get {} s.streams r).lostBefore
  let s := if i.colIndex = 0xFFFF then s else s.columnLost r frame i.colIndex i.stales
  let d := s.chan r
  let p := passOn i.hdrs (if i.colIndex = 0xFFFF then 0 else satAdd 16 i.lost 1) d.items
  let s := s.setChan r { d with items := p.1 }
  let g := Map.get {} s.streams r
  { s with streams := Map.set {} s.streams r { g with headers := p.2.1 ++ g.headers, lostBefore := satAdd 16 old p.2.2 } }

/-- Discard what a DMA channel holds without ABORT: columns are lost whole, a dump record is still to write, a capture is
dropped, a notice overflows (R474, R486). -/
def State.chanIdle (s : State) (c : Nat) : State :=
  let items := (s.chan c).items
  let s := { s with host := { s.host with chans := Map.erase s.host.chans c } }
  forEach items (fun (i : DmaItem) s => match i.done with
    | .column r f _ | .columnLine r _ f => s.discardColumn r f i
    | .dumpRecord ch buf _ => match s.hist.dump with
      | some d => { s with hist := { s.hist with dump := some { d with left := (ch, buf) :: d.left, inFlight := false } } }
      | none => s
    | .capture _ _ => s.addWrap P.REC_COUNTS.REC_DROPPED 1
    | .notice => { s with recs := { s.recs with held := s.recs.held + 1 } }
    | _ => s) s

/-- Discard the item a stalled channel holds (R395, Table 17.8). -/
def State.abortItem (s : State) (c : Nat) : State :=
  let d := s.chan c
  match d.items with
  | [] => s
  | i :: rest =>
    let s := s.setChan c { d with items := rest }
    match i.done with
    | .column r f _ | .columnLine r _ f => s.discardColumn r f i
    | .dumpRecord ch buf _ =>
      match s.hist.dump with
      | some q =>
        let s := if q.frozenSrc then s else
          forEach ((ch, buf) :: q.left) (fun p s => s.unfreeze (2 * p.1 + p.2) false) s
        let s := { s with hist := { s.hist with dump := none } }
        (s.setFld P.DUMP_STATUS.BUSY 0).setFlag P.DUMP_STATUS.ABORTED
      | none => s
    | .capture _ _ => s.addWrap P.REC_COUNTS.REC_DROPPED 1
    | _ => s

/-- The error reply of an aborted fetch whose first entry was received (Table 17.8). -/
def State.abortFetch (s : State) : State :=
  let p := s.host.fetchPart
  if p.length < 64 then { s with host := { s.host with fetchPart := [] } }
  else
    let len := leNat ((p.drop 4).take 2)
    let s := { s with host := { s.host with fetchPart := [] } }
    let s := s.addWrap P.SQ_POS.SQ_RD (entriesOf len)
    let s := s.setFld P.SALSOL_STATUS.OUTSTANDING (s.fld P.SALSOL_STATUS.OUTSTANDING + 1)
    let s := s.liveWrap P.SALSOL_COUNTS.EXECUTED 1
    let s := s.liveWrap P.SALSOL_COUNTS.ERRORS 1
    s.pushReply ⟨replyHeader (leNat (p.take 2)) (leNat ((p.drop 2).take 2)) 16 0x0A 0xFFFF 0, false⟩

/-- ABORT of a stalled channel (R395, Table 17.8); a RESUME's running walk is discarded. -/
def State.dmaAbort (s : State) (c : Nat) : State :=
  let s := s.setChan c { s.chan c with walk := none, resumeDue := false }
  let s := if c = 6 then s.abortFetch else s.abortItem c
  (s.setStalled c false).pump c

/-- RESUME of a stalled channel: the faulting page is walked afresh (R395). -/
def State.dmaResume (s : State) (c : Nat) : State := s.resumeWalk c

/-- Put the points of every channel on hold or let them go on after a change of Bus Master Enable (R387). -/
def State.showBm (s : State) : State := s.setFld P.DMA_STATE.BM_OFF (if s.host.bme0 then 0 else 0xFF)

end Sys2Proof.Machine
end

