-- ==== Sys2Proof/Machine/Stream.lean ====
section
/-! DEFINITION. The point stream: history planes, records, headers, thinning, the room test and the write-back
line (07_point_stream.md, 01_shot_to_point.md R29, R30). -/
namespace Sys2Proof.Machine

/-- A region's stream. -/
def State.stream (s : State) (r : Nat) : Stream := Map.get {} s.streams r
/-- Change it. -/
def State.withStream (s : State) (r : Nat) (f : Stream → Stream) : State :=
  { s with streams := Map.set {} s.streams r (f (s.stream r)) }

/-- The key of a history slot: column index, row of the region, echo (R169). -/
def slotKey (index row echo : Nat) : Nat := (96 * index + row % 96) * 4 + echo

/-- Both planes of every index are invalid (R170). `cause`: the keyframe cause this gives (R173). -/
def Stream.forgetFor (cause : Nat) (g : Stream) : Stream :=
  { g with prev := [], prevValid := [], ref := [], refValid := [], causes := g.causes ||| cause }
/-- History is lost with its memory (R170). -/
def Stream.forget (g : Stream) : Stream := g.forgetFor 16

/-- The data of a stored history slot, a single error corrected; none where it cannot be (R169). -/
def slotData (w : Word) : Option Nat :=
  match decodeWord w with
  | .clean d | .corrected d => some d
  | .uncorrectable => none

/-- A PREV slot as stored: range and valid bit with their check byte (Table 7.4). DESIGN CHOICE (notes/assumptions 45): the
places of the fields and the code, that of the bin words, which the manual does not give for the history store. -/
def prevWord (range : Nat) : Word := encodeWord (range % 2 ^ 19 + 2 ^ 19)
/-- A REF slot as stored (Table 7.4; the places as for `prevWord`). -/
def RefSlot.word (x : RefSlot) : Word :=
  encodeWord (x.range % 2 ^ 19 + x.intensity % 2 ^ 10 * 2 ^ 19 + x.cls % 8 * 2 ^ 29 + ofBit x.saturated * 2 ^ 32 +
    ofBit x.degraded * 2 ^ 33 + 2 ^ 34)

/-- The range in a PREV slot; none in an invalid or uncorrectable one (R169). -/
def prevOf (w : Word) : Option Nat :=
  (slotData w).bind (fun d => if bitOf d 19 then some (bitsOf d 18 0) else none)
/-- The content of a REF slot; none in an invalid or uncorrectable one (R169). -/
def refOf (w : Word) : Option RefSlot :=
  (slotData w).bind (fun d =>
    if bitOf d 34 then some ⟨bitsOf d 18 0, bitsOf d 28 19, bitsOf d 31 29, bitOf d 32, bitOf d 33⟩ else none)

/-- The ranges of the previous fired frame's echoes at an index and row; none without history (R127, R128). -/
def State.prevRanges (s : State) (index row : Nat) : Option (List Nat) :=
  let g := s.stream (row / 96)
  if Map.get false g.prevValid index then
    some ((List.range 4).filterMap (fun e => (Map.find? g.prev (slotKey index row e)).bind prevOf))
  else none

/-- A REF slot as the change test reads it (R171). -/
def Stream.refSlot (g : Stream) (index row echo : Nat) : Option RefSlot :=
  if Map.get false g.refValid index then (Map.find? g.ref (slotKey index row echo)).bind refOf else none

/-- Count the uncorrectable ones among the slots of a row that are read from a plane, in the cluster of the row (R169). -/
def State.countSlots (s : State) (plane : SMap Word) (valid : SMap Bool) (index row : Nat) : State :=
  let bad := (List.range 4).filter (fun e => match Map.find? plane (slotKey index row e) with
    | some w => (slotData w).isNone
    | none => false)
  if Map.get false valid index && !bad.isEmpty then s.liveWrap (P.ECC_COUNT.UNCORRECTABLE.idx (row / 32)) bad.length else s

/-- An echo at its release. -/
structure Echo where
  row : Nat
  echo : Nat
  post : Post
  deriving DecidableEq, Repr

/-- SPREAD (R165). -/
def spreadCode (sigma16 : Nat) : Nat := if sigma16 < 128 then sigma16 / 4 else Nat.min 63 (32 + (sigma16 - 128) / 64)
/-- AMBIENT (Table 7.1). -/
def ambientCode (bq : Nat) : Nat := Nat.min 255 (isqrt (16 * bq))

/-- A point record (Table 7.1). -/
def pointWord (e : Echo) (changed : Bool) : Nat :=
  e.post.rangeMm % 2 ^ 19 + e.post.intensity % 2 ^ 10 * 2 ^ 19 + e.echo % 4 * 2 ^ 29 + e.post.cls % 8 * 2 ^ 31 +
  e.post.conf % 16 * 2 ^ 34 + spreadCode e.post.sigma16 * 2 ^ 38 + e.row % 512 * 2 ^ 44 + ambientCode e.post.bq * 2 ^ 53 +
  ofBit e.post.degraded * 2 ^ 61 + ofBit e.post.saturated * 2 ^ 62 + ofBit changed * 2 ^ 63

/-- A vanish record (R172). -/
def vanishWord (row echo : Nat) : Nat := 0x7FFFF + echo % 4 * 2 ^ 29 + row % 512 * 2 ^ 44 + 2 ^ 63

/-- The change test against a REF slot (R171). -/
def changed (dMm dInt : Nat) (e : Post) : Option RefSlot → Bool
  | none => true
  | some r => decide (dMm ≤ ((e.rangeMm : Int) - r.range).natAbs) || decide (dInt ≤ ((e.intensity : Int) - r.intensity).natAbs) ||
      e.cls != r.cls || e.saturated != r.saturated || e.degraded != r.degraded

/-- The REF content of an echo (Table 7.4). -/
def Post.refSlot (p : Post) : RefSlot := ⟨p.rangeMm, p.intensity, p.cls, p.saturated, p.degraded⟩

/-- A row's post is finished and consistent (R150, R151). -/
def RowPosts.finished (p : RowPosts) : Bool := p.done.isSome && !p.error

/-- The candidate of a queue record, none for a marker. -/
def QueueRec.cand? : QueueRec → Option Cand
  | .cand c => some c
  | .marker _ => none
/-- Does a queue record belong to a column? -/
def QueueRec.of (x : QueueRec) (frame seq : Nat) : Bool := match x with
  | .cand c => decide (c.frame = frame ∧ c.seq = seq)
  | .marker m => decide (m.frame = frame ∧ m.seq = seq)

/-- The candidates of a row in a column, in queue order. -/
def State.rowCands (s : State) (k : Column) (row : Nat) : List Cand :=
  ((Map.get [] s.evoth.queues (row / 96)).filterMap QueueRec.cand?).filter
    (fun c => decide (c.channel = row ∧ c.frame = k.frame ∧ c.seq = k.seq))

/-- The core of a row. -/
def coreOf (row : Nat) : Nat := row / 24
/-- Is a row released unrefined whatever was posted: a halted core, a region still reloading (R159, R160)? -/
def State.rowBlocked (s : State) (row : Nat) : Bool :=
  s.bit (P.CORE_STATUS.HALTED.idx (coreOf row)) || bitOf s.evoth.reloading (row / 96)

/-- The echoes of a row at its release, and whether it is released unrefined (R133, R152, R166). A row with no candidate releases
no record (R152), and the row of a lost channel none (R82). The vendor library's posts
carry POISON and NOMON of their echo's candidates; DESIGN CHOICE (notes/assumptions 45): of a REFINE image's posts the assembler
cannot tell the candidates, so those marks on any candidate of the row count. -/
def State.rowEchoes (s : State) (k : Column) (row : Nat) : List Echo × Bool :=
  let cs := s.rowCands k row
  let p := Map.get {} k.posts row
  let own := Map.get false k.degraded row || (s.evoth.refineOn.isSome && cs.any (fun c => c.poison || c.nomon))
  if cs.isEmpty ∨ (s.ch row).lost then ([], false)
  else if p.finished ∧ !s.rowBlocked row then
    ((List.range 4).filterMap (fun e => (p.entries.find? (fun x => x.echo == e)).map
      (fun x => ⟨row, e, { x with degraded := x.degraded || own }⟩)), false)
  else
    (cs.map (fun c => ⟨row, c.cand, ⟨c.rangeMm, c.sigma16, c.cand, 0, 0, 7, true, c.sat || c.pile, c.bq⟩⟩), true)

/-- What a column's release sends: word, class for thinning (none for a vanish record), echo index, and the REF
slot it gives. -/
structure Rec where
  word : Nat
  cls : Option Nat
  echo : Nat
  ref : Nat × Option RefSlot
  deriving DecidableEq, Repr

/-- Records of a row (R171, R172). -/
def State.rowRecs (s : State) (k : Column) (whole : Bool) (row : Nat) (es : List Echo) : List Rec :=
  let g := s.stream (row / 96)
  let dMm := s.forceFld P.DELTA_THR.DELTA_MM
  let dInt := s.forceFld P.DELTA_THR.DELTA_INT
  (List.range 4).filterMap (fun i =>
    let key := slotKey k.index row i
    let slot := g.refSlot k.index row i
    match es.find? (fun e => e.echo == i) with
    | some e =>
      let ch := changed dMm dInt e.post slot
      if whole || ch then some ⟨pointWord e ch, some e.post.cls, i, (key, some e.post.refSlot)⟩ else none
    | none => if !whole && slot.isSome then some ⟨vanishWord row i, none, i, (key, none)⟩ else none)

/-- THIN_MODE keeps a record (R177). -/
def thinKeeps (mode : Nat) (r : Rec) : Bool :=
  match mode with
  | 1 => r.echo == 0
  | 2 => match r.cls with
    | some c => decide (c < 2 ∨ 4 < c)
    | none => true
  | _ => true

/-- The column header (Table 7.2). -/
def Column.header (k : Column) (region records dropped lostBefore unrefined : Nat) (key drop thin : Bool) : List Byte :=
  leBytes 2 0x4C43 ++ leBytes 2 k.index ++ leBytes 4 k.frame ++ leBytes 8 k.epoch ++ leBytes 4 (trunc 32 k.angle) ++
  leBytes 2 records ++ leBytes 2 k.seq ++
  leBytes 1 (128 * ofBit key + 64 * ofBit drop + 32 * ofBit thin + 16 * ofBit k.skipped + 8 * ofBit k.held +
    4 * ofBit k.reverse + k.gait) ++
  leBytes 1 region ++ leBytes 2 dropped ++ leBytes 2 lostBefore ++ leBytes 2 unrefined

/-- The frame header (Table 7.3). -/
def State.frameHeader (s : State) (r frame gait tk : Nat) (keyframe unfired reverse : Bool) (cause : Nat) : List Byte :=
  let g := s.stream r
  leBytes 2 0x5246 ++ leBytes 1 r ++
  leBytes 1 (128 * ofBit keyframe + 64 * ofBit (s.forceBit P.STREAM_CFG.DELTA_EN) + 32 * ofBit unfired + 4 * ofBit reverse + gait) ++
  leBytes 4 frame ++ leBytes 8 tk ++ leBytes 4 (s.fld P.CODE_EPOCH.E_CUR) ++ leBytes 4 s.fieldW ++ leBytes 2 (gaitC gait) ++
  leBytes 1 cause ++ leBytes 1 (s.forceFld P.STREAM_CFG.KEY_INTERVAL) ++ leBytes 4 s.phi ++ leBytes 8 s.devId ++
  leBytes 2 (s.forceFld P.DELTA_THR.DELTA_MM) ++ leBytes 2 (s.forceFld P.DELTA_THR.DELTA_INT) ++
  leBytes 4 g.prevDropped ++ leBytes 4 g.prevLost ++ leBytes 4 g.prevUnrefined ++ leBytes 8 0

/-- Is the column lost whole whatever the room: ring disabled, channel stalled or held by Bus Master Enable (R175,
R387, R394)? -/
def State.ringShut (s : State) (r : Nat) : Bool := !s.ringOn r || s.stalled r || s.bmOff r

/-- The PREV plane takes a column's echoes (R170). -/
def State.updatePrev (s : State) (r : Nat) (k : Column) (es : List Echo) : State :=
  s.withStream r fun g =>
    let lo := slotKey k.index 0 0
    let kept := g.prev.filter (fun e => decide (e.1 < lo ∨ lo + 384 ≤ e.1))
    { g with prev := es.foldl (fun m e => Map.insert m (slotKey k.index e.row e.echo) (prevWord e.post.rangeMm)) kept,
             prevValid := Map.set false g.prevValid k.index true }

/-- Does the loss of records of a column make its index stale (R174)? -/
def State.stales (s : State) (k : Column) : Bool := s.forceBit P.STREAM_CFG.DELTA_EN && !k.skipped

/-- The room test and what follows (R30, R174, R176, R177). -/
def State.sendColumn (s : State) (r : Nat) (k : Column) (recs : List Rec) (whole : Bool) (unref : Nat) : State :=
  let stales := s.stales k
  if s.ringShut r then s.columnLost r k.frame k.index stales
  else
    let g := s.stream r
    let hdrs := g.headers ++ if g.due.isEmpty then [] else [g.due]
    let hdr := hdrs.flatten
    let free := s.ringFree r
    let mode := if free < 1024 * s.forceFld P.STREAM_CFG.LOW_WATER then s.forceFld P.STREAM_CFG.THIN_MODE else 0
    let kept := recs.filter (thinKeeps mode)
    let thinned := recs.length - kept.length
    let s := s.liveWrap (P.STREAM_LOSS.THINNED_RECS.idx r) thinned
    let room := decide (hdr.length + 32 + 8 * kept.length + 4096 ≤ free)
    if room ∨ hdr.length + 32 ≤ free then
      let drop := !room
      let sent := if drop then [] else kept
      let gone := recs.length - sent.length
      let bytes := hdr ++ k.header r sent.length gone g.lostBefore unref whole drop (0 < thinned) ++
        (sent.map (fun x => leBytes 8 x.word)).flatten
      -- a whole-column set makes the slots it does not name invalid (R172)
      let clear := if whole ∧ !drop then
          (List.range 384).map (fun i => (slotKey k.index 0 0 + i, (none : Option RefSlot)))
        else []
      let s := s.liveWrap (P.STREAM_COUNTS.DROPPED_RECS.idx r) gone
      let s := if drop then s.liveWrap (P.STREAM_COUNTS.DROPPED_COLS.idx r) 1 else s
      let s := s.withStream r fun h => { h with
        headers := [], due := [], lostBefore := 0, curDropped := h.curDropped + gone,
        stale := if 0 < gone ∧ stales then Map.set false h.stale k.index true
          else if whole ∧ !k.skipped then Map.set false h.stale k.index false else h.stale }
      let s := s.dmaPush r { payload := bytes, done := .column r k.frame k.index, hdrs := hdrs, colIndex := k.index,
                             lost := g.lostBefore, stales := stales,
                             refs := if k.skipped then [] else clear ++ sent.map (·.ref) }
      if drop ∧ !(s.stream r).dropNoted then
        let s := s.withStream r fun g => { g with dropNoted := true }
        (s.setFlag (P.STREAM_FLAGS.RING_DROP.bitAt r)).record 0x0701 13 false true
          (leBytes 1 r ++ leBytes 4 k.frame ++ leBytes 2 k.index ++ leBytes 2 gone)
      else s
    else
      -- what thinning removed counts as dropped, whatever becomes of the column (R177)
      let s := (s.liveWrap (P.STREAM_COUNTS.DROPPED_RECS.idx r) thinned).withStream r fun h => { h with
        curDropped := h.curDropped + thinned }
      s.columnLost r k.frame k.index stales

/-- End the COLUMN job of a region's cores on a column (R152). -/
def State.endJobs (s : State) (r : Nat) (k : Column) : State :=
  forUpto 4 (fun i s =>
    let q := 4 * r + i
    let c := Map.get {} s.evoth.cores q
    if c.job = some (k.frame, k.seq) then
      let lv := s.fld (P.CORE_STATUS.LEVEL.idx q)
      if lv = 1 ∧ c.col.lc ≠ 0 then
        { s with evoth := { s.evoth with cores := Map.set {} s.evoth.cores q { c with endDue := true } } }
      else
        let s := { s with evoth := { s.evoth with cores := Map.set {} s.evoth.cores q { c with job := none, ended := some (k.frame, k.seq) } } }
        if lv = 1 then s.setFld (P.CORE_STATUS.LEVEL.idx q) 0 else s
    else s) s

/-- The column index of a sequence number in a sweep, which runs backward in an odd one. -/
def columnAt (gait : Nat) (reverse : Bool) (seq : Nat) : Nat := if reverse then gaitC gait - 1 - seq else seq

/-- The columns of a frame that no trigger opens any more are released by a region as skipped columns, once it has
released every column before them (R464, R511). -/
def State.releaseRest (s : State) (r : Nat) : State :=
  match s.power.rest with
  | none => s
  | some c =>
    if !bitOf s.power.restLeft r ∨ s.scan.columns.any (fun k => !bitOf k.released r) then s
    else
      let s := forUpto (gaitC c.gait - c.seq) (fun i s =>
        let seq := c.seq + i
        let k := { c with seq := seq, index := columnAt c.gait c.reverse seq }
        let g := s.stream r
        s.sendColumn r k [] (!s.forceBit P.STREAM_CFG.DELTA_EN || g.keyframe || Map.get false g.stale k.index) 0) s
      let left := s.power.restLeft - 2 ^ r
      { s with power := { s.power with restLeft := left, rest := if left = 0 then none else some c } }

/-- No further column of the running frame is triggered; the rest of it is released as skipped. `drop`: columns
triggered and not yet in progress are among them (R464). -/
def State.cutFrame (s : State) (drop : Bool) : State :=
  if !s.scan.fired then s
  else
    let open_ := if drop then s.scan.columns.filter (fun c => c.handoff.isNone) else []
    let first := match open_ with
      | c :: _ => c.seq
      | [] => s.scan.seq
    let n := gaitC s.gait
    let counted := (open_.filter (fun c => c.skipped)).length
    let rev := s.scan.k % 2 == 1
    let c : Column := {
      frame := s.frameNo, seq := first, index := 0, epoch := s.now, base := none, gait := s.gait, reverse := rev, held := false,
      skipped := true, angle := s.estRound s.now, codeE := s.fld P.CODE_EPOCH.E_CUR, offsets := [], inhibited := 0, volts := [],
      pulses := [], waiting := [], accepted := [], lastBin := [], handoff := none, piped := [], blind := [], sent := [],
      markers := 0, released := 0, ready := [], posts := [], ordinal := 0, degraded := [], degr := [] }
    let s := s.withScan fun x => { x with
      seq := n, columns := if drop then x.columns.filter (fun c => c.handoff.isSome) else x.columns }
    if n ≤ first then s
    else
      let s := s.liveSat P.COLUMN_COUNTS.SKIPPED (n - first - counted)
      let s := { s with power := { s.power with rest := some c, restLeft := 15 } }
      forUpto 4 (fun r s => s.releaseRest r) s

/-- Is the ranging chain empty: every column released, and its header and write-back line written or lost (R511)? -/
def State.chainEmpty (s : State) : Bool :=
  s.scan.columns.isEmpty && s.power.restLeft == 0 && (List.range 4).all (fun r => (s.chan r).items.isEmpty)

/-- RELEASE_DEADLINE: at D = H + floor(3 T / 2) a region's assembler releases the oldest column it holds
(R29, R30, R133, R152, R163 to R177). -/
def execReleaseDeadline (region : Nat) (s : State) : Result :=
  if s.ctl.por then .next s else
  if 4 ≤ region then .next s
  else match s.scan.columns.find? (fun k => k.handoff.isSome && !bitOf k.released region) with
    | none => .next s
    | some k =>
      let s := s.at_ (k.handoff.getD 0 + 3 * gaitT k.gait / 2)
      let rows := (List.range 96).map (fun i => let r := 96 * region + i; (r, s.rowEchoes k r))
      let unref := (rows.filter (fun e => e.2.2)).length
      let s := s.liveWrap (P.REGION_TIMING.UNREFINED_ROWS.idx region) unref
      let s := if 0 < unref then
          (s.liveWrap (P.REGION_TIMING.OVERRUN_COLS.idx region) 1).setLive (P.REGION_POSTS.MIN_SLACK.idx region) 0
        else s
      let s := s.withStream region fun g => { g with curUnrefined := g.curUnrefined + unref }
      let g := s.stream region
      let whole := !s.forceBit P.STREAM_CFG.DELTA_EN || g.keyframe || Map.get false g.stale k.index
      let s := if k.skipped then s
        else forUpto 96 (fun i s => s.countSlots g.ref g.refValid k.index (96 * region + i)) s
      let recs := if k.skipped then [] else (rows.map (fun e => s.rowRecs k whole e.1 e.2.1)).flatten
      let s := if k.skipped then s else s.updatePrev region k (rows.map (fun e => e.2.1)).flatten
      let s := s.sendColumn region k recs whole unref
      let s := s.endJobs region k
      -- the column leaves the queue and the peak store of the column before it (R136)
      let s := { s with evoth := { s.evoth with
        queues := Map.modify [] s.evoth.queues region (fun l => l.filter (fun c => !c.of k.frame k.seq)),
        peaks := Map.modify [] s.evoth.peaks region (fun l => l.filter (fun p => !decide (p.1 = k.frame ∧ p.2.1 < k.seq) &&
          decide (p.1 = k.frame))) } }
      let s := s.withCol k.frame k.seq fun c => { c with released := c.released + 2 ^ region }
      .next ((s.withScan fun x => { x with columns := x.columns.filter (fun c => decide (c.released ≠ 15)) }).releaseRest region)

/-- RING_WRITEBACK: a column's last item has reached the ring; its REF slots take effect and the write-back line
follows on the same path (R172, R174, R178). -/
def execRingWriteback (t region : Nat) (s : State) : Result :=
  if s.ctl.por then .next s else
  let s := s.at_ t
  if 4 ≤ region then .next s
  else
    let d := s.chan region
    match d.items with
    | i :: rest =>
      match i.done with
      | .column _ frame col =>
        if i.started ∧ i.segs.isEmpty then
          let n := i.payload.length
          let line := padTo 64 (leBytes 8 (wrapAdd 64 (s.fld (P.RING_WR.WR_OFF.idx region)) n) ++ leBytes 4 frame ++ leBytes 2 col)
          let s := s.withStream region fun g => { g with
            ref := i.refs.foldl (fun m e => match e.2 with
              | some x => Map.insert m e.1 x.word
              | none => Map.erase m e.1) g.ref,
            refValid := if i.refs.isEmpty then g.refValid else Map.set false g.refValid col true }
          .next ((s.setChan region { d with items :=
            { i with payload := line, started := false, segs := [], done := .columnLine region n frame, refs := [] } :: rest }).pump region)
        else .next (s.pump region)
      | _ => .next (s.pump region)
    | [] => .next s

/-- COAL_US_EXPIRY: COAL_US after the first column not announced, the region's message is sent (R178). -/
def execCoalUsExpiry (region : Nat) (s : State) : Result :=
  if s.ctl.por then .next s else
  if 4 ≤ region then .next s
  else match (s.stream region).firstCol with
    | none => .next s
    | some t0 =>
      let s := s.at_ (t0 + 1000 * s.fld (P.RING_NOTIFY.COAL_US.idx region))
      .next ((s.withStream region fun g => { g with cols := 0, firstCol := none }).msix 0 (4 + region))

/-- A write of EN from 0 to 1 starts a ring's counts at 0 and is a keyframe cause (R173, R175). DESIGN CHOICE (notes/assumptions
45): a column that is in the channel at that write goes on, and its bytes count in the new WR_OFF. -/
def State.pointRingEnable (s : State) (r : Nat) : State :=
  let s := (s.setFld (P.RING_WR.WR_OFF.idx r) 0).setFld (P.RING_RD.RD_OFF.idx r) 0
  s.withStream r fun g => { g with causes := g.causes ||| 32 }

/-- May RD_OFF of a ring take a value (R179)? -/
def State.rdOk (s : State) (c v : Nat) : Bool :=
  let old := s.fld (ringRdField c)
  let wr := s.fld (ringWrField c)
  v % 8 == 0 && decide (wrapAdd 64 v (2 ^ 64 - old) ≤ wrapAdd 64 wr (2 ^ 64 - old))

end Sys2Proof.Machine
end

