-- ==== Sys2Proof/Machine/Evoth.lean ====
section
/-! DEFINITION. The Evoth cores: instructions, faults, jobs and images (06_evoth_processors.md). -/
namespace Sys2Proof.Machine

/-- A core. -/
def State.core (s : State) (q : Nat) : EvothCore := Map.get {} s.evoth.cores q
/-- Change a core. -/
def State.withCore (s : State) (q : Nat) (f : EvothCore → EvothCore) : State :=
  { s with evoth := { s.evoth with cores := Map.set {} s.evoth.cores q (f (s.core q)) } }
/-- CORE_STATUS.LEVEL: 0 idle, 1 COLUMN, 2 BACKGROUND (Table 6.11). -/
def State.level (s : State) (q : Nat) : Nat := s.fld (P.CORE_STATUS.LEVEL.idx q)
/-- Set LEVEL. -/
def State.setLevel (s : State) (q v : Nat) : State := s.setFld (P.CORE_STATUS.LEVEL.idx q) v

/-- SR.MODE: narrow. -/
def EvothRegs.narrow (r : EvothRegs) : Bool := bitOf r.sr.toNat 15
/-- Set bit `i` of SR. -/
def EvothRegs.setSr (r : EvothRegs) (i : Nat) (v : Bool) : EvothRegs :=
  let n := r.sr.toNat
  { r with sr := BitVec.ofNat 16 (if bitOf n i = v then n else if v then n + 2 ^ i else n - 2 ^ i) }
/-- An accumulator as a signed number. -/
def EvothRegs.accI (r : EvothRegs) (k : Nat) : Int := sext 56 (Map.get 0 r.acc k).toNat
/-- Replace an accumulator. -/
def EvothRegs.setAcc (r : EvothRegs) (k : Nat) (v : Int) : EvothRegs :=
  { r with acc := Map.set 0 r.acc k (BitVec.ofInt 56 v) }
/-- A data register. -/
def EvothRegs.dReg (r : EvothRegs) (k : Nat) : Nat := (Map.get 0 r.d k).toNat
/-- Replace a data register. -/
def EvothRegs.setD (r : EvothRegs) (k : Nat) (v : Nat) : EvothRegs := { r with d := Map.set 0 r.d k (BitVec.ofNat 24 v) }
/-- An address register. -/
def EvothRegs.adReg (r : EvothRegs) (k : Nat) : Nat := (Map.get 0 r.ad k).toNat

/-- The value of ADk after an access through it (R136). -/
def EvothRegs.nextAd (r : EvothRegs) (k : Nat) : Nat :=
  let ad : Int := r.adReg k
  let st := sext 16 (Map.get 0 r.st k).toNat
  let code := bitsOf r.cbsel.toNat (3 * k + 2) (3 * k)
  if code = 0 then trunc 16 (ad + st)
  else
    let cb := (Map.get 0 r.cb (code - 1)).toNat
    let b : Int := bitsOf cb 31 16
    let n : Int := bitsOf cb 15 0
    if n = 0 then r.adReg k else trunc 16 (b + (ad + st - b) % n)
/-- The update itself. -/
def EvothRegs.stepAd (r : EvothRegs) (k : Nat) : EvothRegs :=
  { r with ad := Map.set 0 r.ad k (BitVec.ofNat 16 (r.nextAd k)) }

/-- A mode instruction given before takes effect; a switch to narrow reduces the accumulators (R139). -/
def EvothRegs.applyMode (r : EvothRegs) : EvothRegs :=
  match r.nextMode with
  | none => r
  | some m =>
    let was := r.narrow
    let r := { r.setSr 15 m with nextMode := none }
    if m && !was then
      forUpto 4 (fun k r =>
        let v := sext 40 (Map.get 0 r.acc k).toNat
        if v = r.accI k then r else (r.setAcc k v).setSr (10 + k) true) r
    else r

/-- What an instruction does to its context and the core's data memory: its effect, or a fault before it retires
with its code and data address (R160). -/
inductive InstrStep where
  | ok (r : EvothRegs) (data : SMap (BitVec 32))
  | fault (code addr : Nat)
  deriving DecidableEq, Repr

/-- The scale range of a mode (R141). -/
def scaleOk (narrow : Bool) (sc : Nat) : Bool :=
  let s := sext 7 sc
  decide (-8 ≤ s) && decide (s ≤ if narrow then 31 else 47)

/-- Halt a faulting job and record the fault (R160). -/
def State.coreFault (s : State) (q code addr : Nat) : State :=
  let lv := s.level q
  let c := s.core q
  let pc := if lv = 1 then 4 * c.col.pc.toNat else 4 * c.bg.pc.toNat + 2 * ofBit c.bg.half
  let ord := match c.job with
    | some (f, n) => match s.scan.columns.find? (fun k => decide (k.frame = f ∧ k.seq = n)) with
      | some k => k.ordinal
      | none => s.scan.handed
    | none => s.scan.handed
  let faults := (ord :: c.colFaults).filter (fun o => decide (ord < o + 16))
  let s := if lv = 1 then
      s.withCore q fun c => { c with job := none, ended := c.job, colFaults := faults, reload := c.reload || code == 5 }
    else s.withCore q fun c => { c with bgPhase := .faulted, block := none }
  let s := s.setLevel q 0
  let s := if lv = 2 then s.setFld (P.CORE_STATUS.BG_FAULTED.idx q) 1 else s
  let s := if lv = 1 ∧ 3 ≤ faults.length then s.setFld (P.CORE_STATUS.HALTED.idx q) 1 else s
  let s := (s.setFld (P.CORE_STATUS.FAULT_CODE.idx q) code).setFld (P.CORE_STATUS.FAULT_PC.idx q) pc
  let s := s.setFld (P.CORE_STATUS.FAULT_DATA.idx q) addr
  s.record 0x0601 8 true false (leBytes 1 q ++ leBytes 1 code ++ leBytes 2 pc ++ leBytes 4 addr ++
    leBytes 1 (s.fld (P.CORE_STATUS.HALTED.idx q)))

/-- Execute an instruction `n` times, stopping at a fault (R142). -/
def runTimes (f : EvothRegs → SMap (BitVec 32) → InstrStep) : Nat → EvothRegs → SMap (BitVec 32) → EvothRegs × SMap (BitVec 32) × Option (Nat × Nat)
  | 0, r, d => (r, d, none)
  | n + 1, r, d => match f r d with
    | .ok r' d' => runTimes f n r' d'
    | .fault c a => (r, d, some (c, a))

/-- Words of a byte list from a word address on. -/
def putWords (m : SMap (BitVec 32)) (base : Nat) (bytes : List Byte) : SMap (BitVec 32) :=
  (List.range ((bytes.length + 3) / 4)).foldl (fun m i =>
    Map.set 0 m (base + i) (BitVec.ofNat 32 (leNat (padTo 4 (bytes.drop (4 * i)))))) m

/-- Does core `q` run a job in BK mode (R146)? -/
def State.bkJob (s : State) (q : Nat) : Bool := s.level q == 2 && s.bit (P.CORE_STATUS.BG_BK.idx q)

/-- The program of the COLUMN level: the REFINE image in force, or the vendor library, whose contents the manual
does not give (R155, R158). -/
def State.loadColumnProg (s : State) (q : Nat) : State :=
  s.withCore q fun c =>
    let prog := c.prog.filter (fun e => decide (0x1400 ≤ e.1))
    { c with reload := false, prog := match s.evoth.refineOn with
      | some x => putWords prog 0 x.prog
      | none => prog }

/-- The data region of a BACKGROUND image: its initialised bytes, the rest 0 (R158). -/
def EvothCore.initBgData (c : EvothCore) (x : EvothImage) : EvothCore :=
  { c with data := putWords (c.data.filter (fun e => decide (e.1 < 0x2800))) 0x2800 x.data }

/-- The background job of a core starts again at ENTRY, in BK mode at its halfword (R146, R158, R159, R161). DESIGN CHOICE
(notes/assumptions 44): an ENTRY of a native image that is no multiple of 4 names the word it lies in. -/
def State.startBg (s : State) (q : Nat) : State :=
  match Map.find? s.evoth.bgImages q with
  | none => s
  | some x =>
    let s := s.withCore q fun c => { (c.initBgData x) with
      bg := { pc := BitVec.ofNat 13 (0x1400 + x.entry / 4), half := x.bk && decide (2 ≤ x.entry % 4) }, bgPhase := .ready, block := none }
    let s := if s.level q = 2 then s.setLevel q 0 else s
    s.setFld (P.CORE_STATUS.BG_FAULTED.idx q) 0

/-- A restart, a load or a discarding of the background job takes effect (R158, R161, R440). -/
def State.bgDo (s : State) (q : Nat) : BgDue → State
  | .restart => s.startBg q
  | .load x =>
    let s := s.withCore q fun c => { c with prog := putWords c.prog 0x1400 x.prog }
    let s := (s.setFld (P.CORE_STATUS.BG_LOADED.idx q) 1).setFld (P.CORE_STATUS.BG_BK.idx q) (ofBit x.bk)
    s.startBg q
  | .drop =>
    let s := s.withCore q fun c => { c with
      bgPhase := .none, block := none, bg := {},
      prog := c.prog.filter (fun (e : Nat × BitVec 32) => decide (e.1 < 0x1400)) }
    let s := if s.level q = 2 then s.setLevel q 0 else s
    ((s.setFld (P.CORE_STATUS.BG_LOADED.idx q) 0).setFld (P.CORE_STATUS.BG_BK.idx q) 0).setFld (P.CORE_STATUS.BG_FAULTED.idx q) 0

/-- The host stops the background job of a core: at once, or after its running repeat (R142, R158, R161). -/
def State.bgAsk (s : State) (q : Nat) (d : BgDue) : State :=
  if s.level q = 2 ∧ (s.core q).bg.lc ≠ 0 then
    s.withCore q fun c => { c with bgDue := match d, c.bgDue with
      | .restart, some x => some x
      | d, _ => some d }
  else s.bgDo q d

/-- A background job that BG_EN no longer allows is held at an instruction boundary (R143, R162). -/
def State.holdBg (s : State) (q : Nat) : State :=
  if !bitOf (s.fld P.EVOTH_CTRL.BG_EN) q ∧ s.level q = 2 ∧ (s.core q).bg.lc = 0 then
    (s.withCore q fun c => { c with bgPhase := .preempted }).setLevel q 0
  else s

/-- The COLUMN job of a core is terminated and never resumed (R152). -/
def State.endColumnJob (s : State) (q : Nat) : State :=
  let s := s.withCore q fun c => { c with job := none, ended := if c.job.isSome then c.job else c.ended, endDue := false }
  if s.level q = 1 then s.setLevel q 0 else s

/-- A repeat has run to its end: what it held up takes effect (R142). -/
def State.repeatEnd (s : State) (q : Nat) : State :=
  let s := if (s.core q).endDue then s.endColumnJob q else s
  let s := s.holdBg q
  match (s.core q).bgDue with
  | some d => (s.withCore q fun c => { c with bgDue := none }).bgDo q d
  | none => s

/-- An instruction of the job that core `q` runs: a pending mode first, then as often as the repeat says (R139,
R142). A core that runs no job executes nothing. -/
def State.evothRun (s : State) (q : Nat) (f : EvothRegs → SMap (BitVec 32) → InstrStep) : State :=
  let lv := s.level q
  if 16 ≤ q ∨ lv = 0 ∨ 2 < lv then s
  else
    let c := s.core q
    let r := (if lv = 1 then c.col else c.bg).applyMode
    let again := decide (r.lc ≠ 0)
    let (r, d, ft) := runTimes f (if r.lc = 0 then 1 else r.lc.toNat) { r with lc := 0 } c.data
    let s := s.withCore q fun c => if lv = 1 then { c with col := r, data := d } else { c with bg := r, data := d }
    let s := match ft with
      | none => s
      | some (code, addr) => s.coreFault q code addr
    if again then s.repeatEnd q else s

/-- An instruction faults before it retires: a repeat that it ends lets what it held up take effect (R142, R160). -/
def State.instrFault (s : State) (q code addr : Nat) : State :=
  let lv := s.level q
  let again := decide ((if lv = 1 then (s.core q).col.lc else (s.core q).bg.lc) ≠ 0)
  let s := s.withCore q fun c => if lv = 1 then { c with col := { c.col with lc := 0 } } else { c with bg := { c.bg with lc := 0 } }
  let s := s.coreFault q code addr
  if again then s.repeatEnd q else s

/-- A register write of an instruction without a row of its own (Table 6.1; AV and SV are cleared by an instruction, R138). -/
def EvothRegs.write (r : EvothRegs) : RegWrite → EvothRegs
  | .d k v => { r with d := Map.set 0 r.d (k % 8) v }
  | .ad k v => { r with ad := Map.set 0 r.ad (k % 8) v }
  | .st k v => { r with st := Map.set 0 r.st (k % 8) v }
  | .cb k v => { r with cb := Map.set 0 r.cb (k % 4) v }
  | .clearAv k => r.setSr (10 + k % 4) false
  | .clearSv => r.setSr 14 false

/-- The halfword at which a block repeat goes on, and whether it comes from the cache: one already in the cache, the start of
the body on a new iteration, else the one the job asks for (R147). -/
def BlockRepeat.place (b : BlockRepeat) (h : Nat) : Nat × Bool :=
  if b.filling then (if b.pos = 0 then b.start.getD h else h, false)
  else match b.cache[b.pos]? with
    | some a => (a, true)
    | none => (if b.pos = 0 then b.start.getD h else h, false)

/-- One instruction of the body is done: the cache takes it on an iteration that fills it, and after the last of the body the
next iteration begins; a body of up to 16 instructions is filled afresh where the cache does not hold it (R147). -/
def BlockRepeat.next (b : BlockRepeat) (h : Nat) : Option BlockRepeat :=
  let start := if b.pos = 0 then some h else b.start
  let cache := if b.filling then b.cache ++ [h] else b.cache
  if b.pos + 1 < b.len then some { b with pos := b.pos + 1, start := start, cache := cache }
  else if b.left ≤ 1 then none
  else if b.len ≤ 16 ∧ cache.length ≠ b.len then
    some { b with left := b.left - 1, pos := 0, start := start, cache := [], filling := true }
  else some { b with left := b.left - 1, pos := 0, start := start, cache := cache, filling := false }

/-- The cache of a pre-empted block repeat is invalid; the next iteration refills it, which is the coming one where the job stands
between two (R147). -/
def BlockRepeat.invalid (b : BlockRepeat) : BlockRepeat := { b with cache := [], filling := decide (b.pos = 0 ∧ b.len ≤ 16) }

/-- EVOTH_INSTRUCTION_FETCH: the running job comes to its next instruction, at program word `pc`, or in BK mode at program
halfword `pc` (R136, R146, R147, R156, R160). What the word is to the decoder comes with the command, as the manual gives no
encoding. An instruction from the repeat cache reads no program memory. -/
def execEvothInstructionFetch (core pc : Nat) (verdict : FetchVerdict) (s : State) : Result :=
  if s.ctl.por then .next s else
  let lv := s.level core
  if 16 ≤ core ∨ lv = 0 ∨ 2 < lv then .next s
  else
    let bk := s.bkJob core
    let block := if bk then (s.core core).block else none
    let (h, cached) := match block with
      | some b => b.place (pc % 16384)
      | none => (pc % 16384, false)
    let p := if bk then h / 2 else pc % 8192
    let s := s.withCore core fun c =>
      if lv = 1 then { c with col := { c.col with pc := BitVec.ofNat 13 p } }
      else { c with bg := { c.bg with pc := BitVec.ofNat 13 p, half := bk && h % 2 == 1 },
                    block := match block with
                      | some b => b.next h
                      | none => c.block }
    let own := if lv = 1 then decide (4 * p < 0x5000) else decide (0x5000 ≤ 4 * p)
    if !own then .next (s.instrFault core 2 0)
    else match verdict with
      | .legal => .next s
      | .other l => .next (s.evothRun core fun r d => .ok (l.foldl EvothRegs.write r) d)
      | .illegal => .next (s.instrFault core 1 0)
      | .uncorrectable => .next (if cached then s else s.instrFault core 5 0)

/-- EVOTH_REPEAT: the count for the next instruction (R142). `allowed`: the next instruction may be repeated. -/
def execEvothRepeat (core : Nat) (count : RepeatCount) (allowed : Bool) (s : State) : Result :=
  if s.ctl.por then .next s else
  let c := s.core core
  let again := decide ((if s.level core = 1 then c.col.lc else c.bg.lc) ≠ 0)
  .next (s.evothRun core fun r d =>
    let n := match count with
      | .imm n => n
      | .reg k => bitsOf (r.dReg (k % 8)) 10 0
    if again ∨ !allowed then .fault 1 0
    else if n = 0 ∨ 1024 < n then .fault 3 0
    else .ok { r with lc := BitVec.ofNat 11 n } d)

/-- EVOTH_MODE_SWITCH: the mode changes at the next instruction (R139, R141). BK arithmetic is the wide mode's, so a BK program
has no such instruction (R146; notes/assumptions 44). -/
def execEvothModeSwitch (core : Nat) (narrow : Bool) (s : State) : Result :=
  if s.ctl.por then .next s else
  let bk := s.bkJob core
  .next (s.evothRun core fun r d =>
    if !bk && scaleOk narrow r.sc.toNat then .ok { r with nextMode := some narrow } d else .fault 1 0)

/-- Add one product to an accumulator, with AV on a wrap (R138). -/
def EvothRegs.mac (r : EvothRegs) (acc da db : Nat) : EvothRegs :=
  let w := if r.narrow then 16 else 24
  let n := if r.narrow then 40 else 56
  let sum := sext n (Map.get 0 r.acc acc).toNat + sext w (r.dReg da) * sext w (r.dReg db)
  let v := sext n (trunc n sum)
  let r := r.setAcc acc v
  if v = sum then r else r.setSr (10 + acc) true

/-- The scaling shift (R141): the value moved and whether it saturated. -/
def scaleShift (narrow : Bool) (sc : Nat) (a : Int) : Int × Bool :=
  let sh := sext 7 sc
  let v := if 0 < sh then
      (if bitOf sc 7 then roundHalfEven a (2 ^ sh.toNat) else a / ((2 ^ sh.toNat : Nat) : Int))
    else a * ((2 ^ (-sh).toNat : Nat) : Int)
  let vmax : Int := if narrow then 32767 else 8388607
  let w := clampI (-vmax - 1) vmax v
  (w, decide (w ≠ v))

/-- Is a data address in the level's regions (Table 6.2)? -/
def dataOwn (lv addr : Nat) : Bool := if lv = 1 then decide (addr < 0xA000) else decide (0xA000 ≤ addr)

/-- The data memory byte an access reaches with ADk, and whether the job may: in BK mode ADk names a word of the port's space
(R146, R156). DESIGN CHOICE (notes/assumptions 44): a word of 2,048 or more lies outside the job's regions. -/
def dataPlace (lv : Nat) (bk portV : Bool) (ad : Nat) : Nat × Bool :=
  if bk then (((if portV then 0xC000 else 0xA000) + 4 * ad) % 65536, decide (ad < 2048)) else (ad, dataOwn lv ad)

/-- The faults of an access at a place (R140, R156): misaligned, outside the regions. The manual names no
order between them, so `pick` chooses among those that apply. -/
def accessFault (narrow : Bool) (place : Nat × Bool) (pick : Nat) (unc : Bool) : Option (Nat × Nat) :=
  let mis := if narrow then place.1 % 2 ≠ 0 else place.1 % 4 ≠ 0
  let l := (if mis then [(6, 0)] else []) ++ (if place.2 then [] else [(2, place.1)]) ++ (if unc then [(5, 0)] else [])
  if l.isEmpty then none else l[pick % l.length]?

/-- The value a load gives a data register (R140). -/
def loadValue (narrow : Bool) (data : SMap (BitVec 32)) (addr : Nat) : Nat :=
  let w := (Map.get 0 data (addr / 4)).toNat
  if narrow then trunc 24 (sext 16 (if addr % 4 < 2 then w % 65536 else w / 65536)) else w % 2 ^ 24

/-- Data memory after a store of a 24-bit or 16-bit value (R140). -/
def storeValue (narrow : Bool) (data : SMap (BitVec 32)) (addr v : Nat) : SMap (BitVec 32) :=
  let w := (Map.get 0 data (addr / 4)).toNat
  let new := if narrow then
      (if addr % 4 < 2 then w / 65536 * 65536 + v % 65536 else w % 65536 + v % 65536 * 65536)
    else trunc 32 (sext 24 v)
  Map.set 0 data (addr / 4) (BitVec.ofNat 32 new)

/-- EVOTH_ACC_MOVE: an accumulator goes to a data register or data memory through the scaling shift (R141). -/
def execEvothAccMove (core acc : Nat) (dest : MoveDest) (s : State) : Result :=
  if s.ctl.por then .next s else
  let lv := s.level core
  let bk := s.bkJob core
  let (pick, s) := s.draw 8
  .next (s.evothRun core fun r d =>
    let nrw := r.narrow
    let (v, sat) := scaleShift nrw r.sc.toNat (r.accI (acc % 4))
    let r' := if sat then r.setSr 14 true else r
    match dest with
    | .reg k => .ok (r'.setD (k % 8) (trunc 24 v)) d
    | .mem k portV =>
      let a := dataPlace lv bk portV (r.adReg (k % 8))
      match accessFault nrw a pick false with
      | some (c, x) => .fault c x
      | none => .ok (r'.stepAd (k % 8)) (storeValue nrw d a.1 (trunc 24 v)))

/-- EVOTH_LOAD_SC (R141). -/
def execEvothLoadSc (core : Nat) (value : BitVec 8) (s : State) : Result :=
  if s.ctl.por then .next s else
  .next (s.evothRun core fun r d => if scaleOk r.narrow value.toNat then .ok { r with sc := value } d else .fault 1 0)

/-- EVOTH_LOAD_CBSEL (R136). -/
def execEvothLoadCbsel (core : Nat) (value : BitVec 24) (s : State) : Result :=
  if s.ctl.por then .next s else
  .next (s.evothRun core fun r d =>
    if (List.range 8).all (fun k => decide (bitsOf value.toNat (3 * k + 2) (3 * k) ≤ 4)) then .ok { r with cbsel := value } d
    else .fault 1 0)

/-- The accesses of one cycle, up to one through port U and one through port V (R137, R140). Both read the addresses and the
memory as they stood; the address registers step after them. Two loads of one register are not described: which value stays
is free, as `pick` says. -/
def EvothRegs.access (r : EvothRegs) (d : SMap (BitVec 32)) (lv : Nat) (bk : Bool) (pick : Nat) (u v : Option MemAccess) : InstrStep :=
  let nrw := r.narrow
  let addr := fun (portV : Bool) (m : MemAccess) => dataPlace lv bk portV (r.adReg (m.ad % 8))
  let fu := u.bind (fun m => accessFault nrw (addr false m) pick (m.uncorrectable && !m.store))
  let fv := v.bind (fun m => accessFault nrw (addr true m) (pick / 16) (m.uncorrectable && !m.store))
  match (match fu, fv with
    | some a, some b => if bitOf pick 9 then some b else some a
    | some a, none => some a
    | none, x => x) with
  | some (c, x) => .fault c x
  | none =>
    let load := fun (portV : Bool) (m : Option MemAccess) (r' : EvothRegs) => match m with
      | some m => if m.store then r' else r'.setD (m.reg % 8) (loadValue nrw d (addr portV m).1)
      | none => r'
    let store := fun (portV : Bool) (m : Option MemAccess) (d' : SMap (BitVec 32)) => match m with
      | some m => if m.store then storeValue nrw d' (addr portV m).1 (r.dReg (m.reg % 8)) else d'
      | none => d'
    let bothStore : Bool := match u, v with
      | some a, some b => a.store && b.store && (addr false a).1 / 4 == (addr true b).1 / 4
      | _, _ => false
    let d' := store true v (if bothStore then d else store false u d)
    let r' := if bitOf pick 8 then load false u (load true v r) else load true v (load false u r)
    let step := fun (m : Option MemAccess) (r' : EvothRegs) => match m with
      | some m => r'.stepAd (m.ad % 8)
      | none => r'
    .ok (step v (step u r')) d'

/-- A free value for the accesses of an instruction that has any. -/
def State.drawAccess (s : State) (u v : Option MemAccess) : Nat × State :=
  if u.isNone && v.isNone then (0, s) else s.draw 16

/-- EVOTH_MAC: one multiply-accumulate in wide mode, one or two into two accumulators in narrow mode, with the data memory
accesses and address register updates of the same cycle (R137, R138). The products take the data registers as they stood
before the cycle (notes/assumptions 44). -/
def execEvothMac (core acc da db : Nat) (rest : MacRest) (s : State) : Result :=
  if s.ctl.por then .next s else
  let lv := s.level core
  let bk := s.bkJob core
  let (pick, s) := s.drawAccess rest.u rest.v
  .next (s.evothRun core fun r d =>
    match rest.second with
    | none => (r.mac (acc % 4) (da % 8) (db % 8)).access d lv bk pick rest.u rest.v
    | some (a2, x, y) =>
      if !r.narrow ∨ acc % 4 = a2 % 4 then .fault 1 0
      else ((r.mac (acc % 4) (da % 8) (db % 8)).mac (a2 % 4) (x % 8) (y % 8)).access d lv bk pick rest.u rest.v)

/-- EVOTH_DATA_ACCESS: up to one access through port U and one through port V in a cycle (R137, R140). -/
def execEvothDataAccess (core : Nat) (u v : Option MemAccess) (s : State) : Result :=
  if s.ctl.por then .next s else
  let lv := s.level core
  let bk := s.bkJob core
  let (pick, s) := s.drawAccess u v
  .next (s.evothRun core fun r d => r.access d lv bk pick u v)

/-- BK_BLOCK_REPEAT: the block repeat of a BK background job: its body is the next `len` instructions, run `count` times; a
body of up to 16 fills the repeat cache on its first iteration (R147). A body of no instruction, and a block repeat in the body
of another, are illegal instructions (notes/assumptions 44). -/
def execBkBlockRepeat (core len count : Nat) (s : State) : Result :=
  if s.ctl.por then .next s else
  if 16 ≤ core ∨ !s.bkJob core then .next s
  else if len = 0 ∨ (s.core core).block.isSome ∨ (s.core core).bg.lc ≠ 0 then .next (s.instrFault core 1 0)
  else
    let b : BlockRepeat := { len := len, left := count, filling := decide (len ≤ 16) }
    .next (s.withCore core fun c => { c with block := if count = 0 then none else some b })

/-- BK_UNSUPPORTED_INSTRUCTION raises fault 0x04 in a BK background job (R148). -/
def execBkUnsupportedInstruction (core : Nat) (s : State) : Result :=
  if s.ctl.por then .next s else
  if 16 ≤ core ∨ !s.bkJob core then .next s
  else .next (s.instrFault core 4 0)

/-- The COLUMN level's program with the initialised data of a REFINE image (Table 6.8). -/
def State.loadColumnImage (s : State) (q : Nat) : State :=
  (s.loadColumnProg q).withCore q fun c => match s.evoth.refineOn with
    | some x => { c with data := putWords c.data 0 x.data }
    | none => c

/-- At a frame boundary the stored REFINE image, or the vendor library, comes into force on all cores (R158); once the key
that signed one is gone, and with no image stored, REFINE_SRC returns to 0 (R440). -/
def State.refineBoundary (s : State) : State :=
  let s := if s.evoth.refineGone || s.evoth.refine.isNone then s.setFld P.EVOTH_CTRL.REFINE_SRC 0 else s
  let s := { s with evoth := { s.evoth with refineGone := false } }
  let on := if s.bit P.EVOTH_CTRL.REFINE_SRC then s.evoth.refine else none
  let s := s.takeForce K.EVOTH_CTRL
  if on = s.evoth.refineOn then s
  else
    let s := { s with evoth := { s.evoth with refineOn := on } }
    forUpto 16 (fun q s => if s.domOn (24 + q / 4) && !bitOf s.evoth.reloading (q / 4) then s.loadColumnImage q else s) s

/-- Load a BACKGROUND image into a core (R158). -/
def State.loadBg (s : State) (q : Nat) (x : EvothImage) : State :=
  ({ s with evoth := { s.evoth with bgImages := Map.insert s.evoth.bgImages q x } }).bgAsk q (.load x)

/-- The BACKGROUND image of a core is discarded and its job stopped (R158, R440). -/
def State.dropBg (s : State) (q : Nat) : State :=
  ({ s with evoth := { s.evoth with bgImages := Map.erase s.evoth.bgImages q } }).bgAsk q .drop

/-- The last column handed off, where one is in flight. -/
def State.lastHanded (s : State) : Option (Nat × Nat) :=
  ((s.scan.columns.filter (fun k => k.handoff.isSome)).getLast?).map (fun k => (k.frame, k.seq))

/-- RESTART of a core (R161): the COLUMN job of a halted core begins at the next column start, so on none that is handed off.
DESIGN CHOICE (notes/assumptions 44): the fault codes are cleared whenever one stands, and a COLUMN job that R160 lets run, or that
a fault of the BACKGROUND job left running, goes on. -/
def State.coreRestart (s : State) (q : Nat) : State :=
  let bad := s.bit (P.CORE_STATUS.HALTED.idx q) || s.fld (P.CORE_STATUS.FAULT_CODE.idx q) != 0
  let s := if bad then
      let last := if s.bit (P.CORE_STATUS.HALTED.idx q) && s.lastHanded.isSome then s.lastHanded else (s.core q).ended
      let s := s.withCore q fun c => { c with colFaults := [], ended := last }
      let s := ((s.setFld (P.CORE_STATUS.HALTED.idx q) 0).setFld (P.CORE_STATUS.FAULT_CODE.idx q) 0)
      (s.setFld (P.CORE_STATUS.FAULT_PC.idx q) 0).setFld (P.CORE_STATUS.FAULT_DATA.idx q) 0
    else s
  s.bgAsk q .restart

/-- A write of BG_EN: a background job that may no longer run is held at an instruction boundary (R143, R162). -/
def State.bgEnables (s : State) : State := forUpto 16 (fun q s => s.holdBg q) s

/-- Does a core have a ready row still to close in a column (R143)? -/
def Column.rowsWaiting (k : Column) (q : Nat) : Bool :=
  (List.range 24).any (fun i => Map.get false k.ready (24 * q + i) && (Map.get {} k.posts (24 * q + i)).done.isNone)

/-- The column the COLUMN job of a core works on or would start on: the oldest handed off, not released and not
ended for the core. -/
def State.jobColumn (s : State) (q : Nat) : Option Column :=
  let c := s.core q
  let live := s.scan.columns.filter (fun k => k.handoff.isSome && !bitOf k.released (q / 4))
  let live := match c.ended with
    | some (f, n) => match live.findIdx? (fun (k : Column) => decide (k.frame = f ∧ k.seq = n)) with
      | some i => live.drop (i + 1)
      | none => live
    | none => live
  live.head?

/-- May a core run at all: not halted, its region powered and loaded? -/
def State.coreUp (s : State) (q : Nat) : Bool :=
  decide (q < 16) && !s.bit (P.CORE_STATUS.HALTED.idx q) && !bitOf s.evoth.reloading (q / 4) && s.domOn (24 + q / 4)

/-- ROW_READY: the row is complete for its core in the oldest column where it is not yet (R149). -/
def execRowReady (t row : Nat) (s : State) : Result :=
  if s.ctl.por then .next s else
  if 384 ≤ row then .next s
  else
    let s := s.at_ t
    match s.scan.columns.find? (fun k => k.handoff.isSome && !bitOf k.released (row / 96) && !Map.get false k.ready row) with
    | none => .next s
    | some k =>
      let cs := s.rowCands k row
      if cs.any (fun c => c.cand + 1 == c.ncand) ∨ (cs.isEmpty ∧ bitOf k.markers (row / 32)) then
        .next (s.withCol k.frame k.seq fun x => { x with ready := Map.set false x.ready row true })
      else .next s

/-- The column context of Table 6.5 for core `q`. -/
def Column.context (k : Column) (q : Nat) : List Byte :=
  let d := k.handoff.getD 0 + 3 * gaitT k.gait / 2
  let degr := sumN ((List.range 24).map (fun i => if Map.get false k.degr (24 * q + i) then 2 ^ i else 0))
  leBytes 2 k.seq ++ leBytes 2 k.index ++ leBytes 4 k.frame ++
    leBytes 1 (8 * ofBit k.skipped + 4 * ofBit k.reverse + k.gait) ++ leBytes 1 (k.nA q) ++
    leBytes 1 (k.volts.getD (q / 4) 0) ++ leBytes 1 0 ++ leBytes 4 d ++ leBytes 8 k.epoch ++ leBytes 3 degr ++ leBytes 5 0

/-- COLUMN_JOB_START: the COLUMN job issues its first instruction for a column, or goes on with it, pre-empting a
background job, though not within its repeat (R142 to R145, R147, R149, R160). -/
def execColumnJobStart (t core : Nat) (s : State) : Result :=
  if s.ctl.por then .next s else
  let s := s.at_ t
  if !s.coreUp core ∨ s.level core = 1 ∨ (s.level core = 2 ∧ (s.core core).bg.lc ≠ 0) then .next s
  else match s.jobColumn core with
    | none => .next s
    | some k =>
      if !k.rowsWaiting core then .next s
      else
        let s := if s.level core = 2 then
            s.withCore core fun c => { c with bgPhase := .preempted, block := c.block.map BlockRepeat.invalid }
          else s
        let s := if (s.core core).job = some (k.frame, k.seq) then s
          else
            let s := if (s.core core).reload then s.loadColumnProg core else s
            let e := match s.evoth.refineOn with
              | some x => x.entry / 4
              | none => 0
            s.withCore core fun c => { c with job := some (k.frame, k.seq), col := { pc := BitVec.ofNat 13 e },
                                                    port := k.context core }
        .next (s.setLevel core 1)

/-- JOB_DISPATCH: with no complete row left the core dispatches or resumes its BACKGROUND job, though
not within a repeat of the COLUMN job (R142 to R144). -/
def execJobDispatch (t core : Nat) (s : State) : Result :=
  if s.ctl.por then .next s else
  let s := s.at_ t
  let c := s.core core
  let busy : Bool := match s.jobColumn core with
    | some k => k.rowsWaiting core
    | none => false
  if !s.coreUp core ∨ busy ∨ (s.level core = 1 ∧ c.col.lc ≠ 0) ∨ !bitOf (s.fld P.EVOTH_CTRL.BG_EN) core ∨
      (c.bgPhase ≠ .ready ∧ c.bgPhase ≠ .preempted) then .next s
  else .next ((s.withCore core fun c => { c with bgPhase := .running }).setLevel core 2)

/-- EVOTH_RELOAD_DONE: the programs of a region's cores are back (R159). -/
def execEvothReloadDone (t region : Nat) (s : State) : Result :=
  if s.ctl.por then .next s else
  let s := s.at_ t
  if 4 ≤ region ∨ !bitOf s.evoth.reloading region ∨ !s.domOn (24 + region) then .next s
  else
    let s := { s with evoth := { s.evoth with reloading := s.evoth.reloading - 2 ^ region } }
    .next (forUpto 4 (fun i s =>
      let q := 4 * region + i
      let s := s.loadColumnImage q
      match Map.find? s.evoth.bgImages q with
      | some x => s.loadBg q x
      | none => s) s)

/-- A region's cores lose their memories (R159). -/
def State.coresLost (s : State) (region : Nat) : State :=
  forUpto 4 (fun i s =>
    let q := 4 * region + i
    (s.withCore q fun c => { colFaults := c.colFaults, ended := if c.job.isSome then c.job else c.ended }).setLevel q 0) s

/-- COL_FAULTS as read: COLUMN faults within the last 16 columns (Table 6.11). -/
def State.colFaultCount (s : State) (q : Nat) : Nat :=
  Nat.min 3 ((s.core q).colFaults.filter (fun o => decide (s.scan.handed < o + 16))).length

end Sys2Proof.Machine
end

