-- ==== Sys2Proof/Machine/Housekeeping.lean ====
section
/-! DEFINITION. The housekeeping converters and accumulators (12_housekeeping_converters.md). -/
namespace Sys2Proof.Machine

/-- A housekeeping converter. -/
def State.hkc (s : State) (v : Nat) : HkConv := Map.get {} s.hk.convs v
/-- Replace it. -/
def State.setHkc (s : State) (v : Nat) (c : HkConv) : State := { s with hk := { s.hk with convs := Map.set {} s.hk.convs v c } }
/-- An accumulator. -/
def State.hacc (s : State) (j : Nat) : Acc := Map.get {} s.hk.accs j
/-- Replace it. -/
def State.setHacc (s : State) (j : Nat) (a : Acc) : State := { s with hk := { s.hk with accs := Map.set {} s.hk.accs j a } }

/-- The round a converter would start now, as its settings stand (R278, R279). -/
def State.hkRound (s : State) (v : Nat) : List Nat :=
  if v = 3 then (List.range 9).map (· + 14)
  else if bitOf (s.fld P.HK_CTRL.EN) v then
    (List.range (s.fld (P.HK_SEQ.LEN.idx v))).map (fun k => s.fld ((P.HK_SEQ.SLOT.idx v).sub k 5))
  else []

/-- A round begins with the settings of this moment (R279). -/
def State.hkStart (s : State) (v : Nat) : State := s.setHkc v ⟨s.hkRound v, bitOf (s.fld P.HK_CTRL.LP) v⟩

/-- A write of HK_CTRL or HK_SEQ starts a stopped converter's first round (R279), where the housekeeping domain is on (R288). -/
def State.hkWritten (s : State) : State :=
  if !s.domOn 32 then s else forUpto 4 (fun v s => if (s.hkc v).round.isEmpty then s.hkStart v else s) s

/-- The value of a channel from its code (Table 12.1, R280). -/
def State.hkValue (s : State) (ch code : Nat) : Int :=
  if 14 ≤ ch ∧ ch ≤ 22 then
    let g := Map.get 0 s.ident.tsGain (ch - 14)
    let o := Map.get 0 s.ident.tsOff (ch - 14)
    sext 16 (trunc 16 ((g * code + o + 32768) / 65536))
  else if ch = 13 then 2 * code else code

/-- The comparator of an accumulator at a mean (Table 12.4): new state, and whether a notice goes out. -/
def accMove (lo hi hyst mean : Int) (st : AccState) : AccState × Bool :=
  match st with
  | .in_ => if hi < mean then (.high, true) else if mean < lo then (.low, true) else (.in_, false)
  | .high => if mean < lo then (.low, true) else if mean ≤ hi - hyst ∧ lo ≤ mean then (.in_, false) else (.high, false)
  | .low => if hi < mean then (.high, true) else if lo + hyst ≤ mean ∧ mean ≤ hi then (.in_, false) else (.low, false)

/-- The code of a comparator state (ACC_VIEW). -/
def AccState.code : AccState → Nat
  | .in_ => 0
  | .high => 1
  | .low => 2

/-- A mean is formed (R283, R285). -/
def State.accMean (s : State) (j : Nat) (a : Acc) (mean : Int) : State :=
  let (st, note) := accMove (s.fldI (P.ACC_CFG.LOW.idx j)) (s.fldI (P.ACC_CFG.HIGH.idx j)) (s.fld (P.ACC_CFG.HYST.idx j)) mean a.st
  let a := { a with sum := 0, n := 0, mean := some mean, valid := true, st := st,
                    leaves := if note then wrapAdd 13 a.leaves 1 else a.leaves }
  let s := s.setHacc j a
  if note then
    (s.setFlag (P.HK_LEFT.LEFT.bitAt j)).record 0x0C01 13 false true
      (leBytes 1 j ++ leBytes 1 st.code ++ leBytes 2 (trunc 16 mean))
  else s

/-- An accumulator takes a value (R281, R283, R284). -/
def State.accTake (s : State) (j : Nat) (v : Int) : State :=
  let a := s.hacc j
  let a := { a with sum := a.sum + v, n := a.n + 1, lo := min a.lo v, hi := max a.hi v, last := v }
  let n := 2 ^ s.fld (P.ACC_CFG.LOG2N.idx j)
  if n ≤ a.n then s.accMean j a (roundHalfEven a.sum n) else s.setHacc j a

/-- A calibration run is asked for: it waits for its first strobe window, or until the run in progress is installed;
further causes are merged into it (R303, R304). Causes as CAL_STATUS. -/
def State.calRequest (s : State) (cause : Nat) : State :=
  if s.farrier.waiting.isSome ∧ cause ≠ 0 then s
  else ({ s with farrier := { s.farrier with waiting := some cause, runFrom := false } }).setFld P.CAL_STATUS.PENDING 1

/-- Temperature-triggered runs (R303). -/
def State.calTemp (s : State) : State :=
  if wordFld s.farrier.runCtrl P.CAL_CTRL.AUTO_RERUN = 1 ∧ (List.range 4).any (fun g => match (s.hacc g).mean, s.farrier.runTemps[g]? with
      | some m, some t => decide (16 * wordFld s.farrier.runCtrl P.CAL_CTRL.RERUN_DELTA < (m - t).natAbs)
      | _, _ => false) then s.calRequest 1
  else s

/-- A write of ACC_CFG (R286): `old` is the word before it. -/
def State.accWritten (s : State) (j : Nat) (old : Word) : State :=
  let a := { s.hacc j with sum := 0, n := 0, valid := false }
  let was := fun (f : FieldRef) => wordFld old f
  let a := if was P.ACC_CFG.CONV ≠ s.fld (P.ACC_CFG.CONV.idx j) ∨ was P.ACC_CFG.CH ≠ s.fld (P.ACC_CFG.CH.idx j) then
    { a with lo := 32767, hi := -32768 } else a
  let a := if was P.ACC_CFG.EN = 0 ∧ s.bit (P.ACC_CFG.EN.idx j) then { a with st := .in_ } else a
  s.setHacc j a

/-- ACC_SEL copies a summary and may clear its trackers (R287). `co`: a value taken in the cycle of the clear is the first of
the new tracking (R284). -/
def State.accSelect (s : State) (j : Nat) (clr co : Bool) : State :=
  let a := s.hacc j
  let s := ((s.setFldI P.ACC_VIEW.MEAN (a.mean.getD 0)).setFldI P.ACC_VIEW.MIN a.lo).setFldI P.ACC_VIEW.MAX a.hi
  let s := (s.setFld P.ACC_VIEW.VALID (ofBit a.valid)).setFld P.ACC_VIEW.STATE a.st.code
  let s := s.setFld P.ACC_VIEW.LEAVES a.leaves
  if clr then s.setHacc j { a with lo := if co then a.last else 32767, hi := if co then a.last else -32768 } else s

/-- Is an accumulator write refused by R289? `cov`: the bits it covers; `new`: the word it would leave. -/
def accRefused (j : Nat) (cov new : Word) : Bool :=
  let n := fun (f : FieldRef) => sext 16 (wordFld new f)
  decide (n P.ACC_CFG.HIGH < n P.ACC_CFG.LOW) ||
    (decide (j ≤ 8) && (decide (wordFld cov P.ACC_CFG.CONV ≠ 0 ∨ wordFld cov P.ACC_CFG.CH ≠ 0) ||
      decide (4 < wordFld new P.ACC_CFG.LOG2N)))

/-- The housekeeping domain switches on (R288). -/
def State.hkPowerUp (s : State) : State :=
  let s := { s with hk := { s.hk with convs := [], accs := (s.hk.accs.map (fun (e : Nat × Acc) => (e.1, ({ mean := e.2.mean } : Acc)))).filter (fun (e : Nat × Acc) => decide (e.2 ≠ ({} : Acc))) } }
  s.hkWritten

/-- A die temperature, 1/16 °C (R282): the latest mean. -/
def State.dieTemp (s : State) (i : Nat) : Option Int := (s.hacc i).mean

end Sys2Proof.Machine
end

