-- ==== Sys2Proof/Machine/Farrier.lean ====
section
/-! DEFINITION. The Farrier calibration engine: strobe windows, runs, path health, temperature sets, templates and the
angle lag (13_farrier_calibration.md), and the spare paths (03_return_stamping.md R81 to R83). -/
namespace Sys2Proof.Machine

/-- A rounding the manual does not state: a free choice between the two neighbours of an inexact value. -/
def State.eitherRound (s : State) (exact : Bool) (q : Nat) : Nat × State :=
  if exact then (q, s) else let (d, s) := s.draw 1; (q + d, s)

/-- The temperature of a group (R306): accumulators 0 to 3 for the regions, 8 for the die; free before a mean. -/
def State.groupTemp (s : State) (g : Nat) : Int × State :=
  match s.dieTemp (if g = 4 then 8 else g) with
  | some t => (t, s)
  | none => let (d, s) := s.draw 16; (sext 16 d, s)

/-- The temperatures of the five groups. -/
def State.groupTemps (s : State) : List Int × State :=
  (List.range 5).foldl (fun (a : List Int × State) g => let (t, s) := a.2.groupTemp g; (a.1 ++ [t], s)) ([], s)

/-- The group of a path, and of an input (R306). -/
def pathGroup (p : Nat) : Nat := if p < 432 then p / 108 else if p < 448 then (p - 432) / 4 else 0
/-- The group of an input. -/
def inputGroup (i : Nat) : Nat := if i < 384 then i / 96 else if i < 400 then (i - 384) / 4 else 0
/-- The cluster whose logic holds a path, and an input; 12 for those of no cluster. -/
def pathCluster (p : Nat) : Nat := if p < 432 then p / 36 else 12
/-- The cluster of an input. -/
def inputCluster (i : Nat) : Nat := if i < 384 then i / 32 else 12
/-- Is the logic of a cluster on; what lies in no cluster counts as on? -/
def State.clusterOn (s : State) (k : Nat) : Bool := decide (12 ≤ k) || s.domOn k

/-- The path that stamps an input. -/
def State.inputPath (s : State) (i : Nat) : Nat := if i < 384 then s.pathOf i else if i < 400 then 432 + (i - 384) else 448 + (i - 400)
/-- The table installed for a path. -/
def State.lutOf (s : State) (p : Nat) : List Nat := (List.range 128).map (s.lutAt p)

/-- The band of a temperature (Table 13.5). -/
def bandOf (t : Int) : Nat :=
  if t < -400 then 0 else if t < 80 then 1 else if t < 560 then 2 else if t < 1040 then 3 else if t < 1480 then 4
  else if t < 1880 then 5 else if t < 2240 then 6 else 7

/-- Record an item that failed plausibility (R309); `v` is the rejected value. -/
def State.itemFail (s : State) (item which : Nat) (v : Int) : State :=
  let s := (s.setFlag ⟨K.CAL_FLAGS, item, item⟩).addWrap P.CAL_COUNTS.ITEM_FAILS 1
  s.record 0x0D02 13 false true (leBytes 1 item ++ leBytes 2 which ++ leBytes 8 (trunc 64 v))

/-- Record a failed item for which the manual names no single value: it is free. -/
def State.itemFailFree (s : State) (item which : Nat) : State :=
  let (d, s) := s.draw 64
  s.itemFail item which (sext 64 d)

/-- Number of lost channels (Table 3.23). -/
def State.showLost (s : State) : State :=
  s.setFld P.SPARE_MAP.LOST_CH ((s.stamp.chans.filter (fun e => e.2.lost)).length)

/-- A channel is lost (R82). -/
def State.loseChannel (s : State) (c : Nat) : State := (s.withCh c fun x => { x with lost := true }).showLost

/-- A regular path's failure is handled by R81 or R82: the spare becomes the channel's by Farrier at the next boundary, and
a pending request of the host gives way. DESIGN CHOICE (notes/assumptions 42): while the spare is only pending for another
channel by Farrier it counts as assigned, so the channel is lost at once. -/
def State.regularFailed (s : State) (u i : Nat) : State :=
  let c := 8 * u + i
  let sp := s.spare u
  if sp.failed ∨ (sp.channel.isSome ∧ sp.channel ≠ some c) ∨ sp.farrierReq.isSome then s.loseChannel c
  else
    let s := s.withCh c fun x => { x with degraded := true }
    let s := if sp.hostReq.isSome then s.setFlag P.SPARE_FORCE.FORCE_CANCELLED else s
    s.withSpare u fun x => { x with farrierReq := some c, hostReq := none }

/-- A spare path's failure is handled by R82. DESIGN CHOICE (notes/assumptions 42): a pending request of the host is dropped,
without FORCE_CANCELLED, which R83 sets only for a Farrier substitution. -/
def State.spareFailed (s : State) (u : Nat) : State :=
  let sp := s.spare u
  let s := s.withSpare u fun x => { x with failed := true, farrierReq := none, hostReq := none }
  let s := s.setFld ⟨K.SPARE_FAILED, u, u⟩ 1
  let s := match sp.channel with
    | some c => s.loseChannel c
    | none => s
  match sp.farrierReq with
  | some c => s.loseChannel c
  | none => s

/-- A path is declared failed, once and for all (R296, R297). -/
def State.failPath (s : State) (path finding : Nat) : State :=
  if s.pathFailed path ∨ 450 ≤ path then s
  else
    let s := s.withFar fun f => { f with health := Map.modify {} f.health path (fun h => { h with failed := true }) }
    let s := if path < 432 then (if path % 9 = 8 then s.spareFailed (path / 9) else s.regularFailed (path / 9) (path % 9)) else s
    let (a, b) := if path < 432 then (path / 9, path % 9) else if path < 448 then (384 + (path - 432), 0) else (400 + (path - 448), 0)
    let s := (s.setFlag P.CAL_FLAGS.PATH_FAIL).addWrap P.CAL_COUNTS.PATH_FAILS 1
    s.record 0x0D01 4 true true (leBytes 2 a ++ leBytes 1 b ++ leBytes 1 finding)

/-- A spare comparison of the frame (R295, R296). Two failures against different paths judge the spare before the
path is judged. -/
def State.spareCompare (s : State) (x : SpareCompare) : State :=
  let u := x.unit
  let f := s.frameNo
  let sp := s.spare u
  if 48 ≤ u ∨ sp.channel.isSome ∨ sp.failed ∨ x.events < 1000 then s
  else
    let i := f % 8
    let h := Map.get {} s.farrier.spareHealth u
    let put := fun (h : SpareHealth) (s : State) => s.withFar fun r => { r with spareHealth := Map.set {} r.spareHealth u h }
    let recent := fun (g : Nat) => decide (f < g + 8)
    if x.events < 100 * x.unpaired ∨ 50000 < x.mean.natAbs ∨ 40000 < x.rms then
      let s := put { h with failedWith := Map.insert h.failedWith i f } s
      if h.failedWith.any (fun e => e.1 != i && recent e.2) then s.failPath (9 * u + 8) 1
      else if (h.passed.any recent) || (h.strobePassed.any recent) then s.failPath (9 * u + i) 0
      else s
    else put { h with passed := some f, failedWith := Map.erase h.failedWith i } s

/-- A path's strobe check of a window (R295, R296). -/
def State.strobeCheck (s : State) (x : StrobeCheck) : State :=
  if 450 ≤ x.path ∨ s.pathFailed x.path then s
  else
    let bad := decide (2 < x.missing) || decide (100000 < x.departure.natAbs) || decide (40000 < x.std)
    let n := if bad then (Map.get {} s.farrier.health x.path).strobeFails + 1 else 0
    let s := s.withFar fun f => { f with health := Map.modify {} f.health x.path (fun h => { h with strobeFails := n }) }
    let s := if !bad ∧ x.path < 432 ∧ x.path % 9 = 8 then
        s.withFar fun f => { f with spareHealth := Map.modify {} f.spareHealth (x.path / 9) (fun h => { h with strobePassed := some s.frameNo }) }
      else s
    if 3 ≤ n then s.failPath x.path 2 else s

/-- Is scanning stopped? -/
def State.scanStopped (s : State) : Bool := s.mirSt != 2 && s.mirSt != 3 && s.mirSt != 4

/-- STROBE_WINDOW_START: in a fired frame 100 µs after its active part, else 100 µs after t_k (R291); the frame's
spare comparisons are in (R295). Every window spans the frame boundary, so it opens before it. -/
def execStrobeWindowStart (t : Nat) (comps : List SpareCompare) (s : State) : Result :=
  if s.ctl.por then .next s else
  let from_ := if s.scan.fired then sweepEnd s.gait s.phi s.scan.k + 100000 else s.tk + 100000
  if s.farrier.strobe ∨ t < from_ ∨ s.boundaryTime < t then .next s
  else
    let s := s.at_ t
    let s := s.withFar fun f => { f with strobe := true, gatesToo := s.scanStopped, winFrame := s.frameNo, runFrom := true }
    .next (forEach comps (fun c s => s.spareCompare c) s)

/-- Has the open window lasted until 100 µs before the next sweep (R291)? The boundary inside it has been crossed, so the
next sweep, through a turnaround where there is one, is the current one. -/
def State.windowOver (s : State) (t : Nat) : Bool := decide (s.frameNo ≠ s.farrier.winFrame) && decide (s.tk ≤ t + 100000)

/-- STROBE_WINDOW_END: the paths return to normal stamping; strobe checks of the paths that took the strobe are in (R291,
R295). -/
def execStrobeWindowEnd (t : Nat) (checks : List StrobeCheck) (s : State) : Result :=
  if s.ctl.por then .next s else
  if !s.farrier.strobe ∨ s.farrier.startup ∨ !s.windowOver t then .next s
  else
    let (ts, s) := (s.at_ t).groupTemps
    let took := checks.filter (fun c => s.clusterOn (pathCluster c.path) && (decide (c.path < 448) || s.farrier.gatesToo))
    let s := s.withFar fun f => { f with strobe := false, gatesToo := false, winTemps := ts, winEnded := true }
    .next (forEach took (fun c s => s.strobeCheck c) s)

/-- CAL_RUN_START: the waiting run starts in a strobe window that opened after its cause and after the last installation; the
start-up run at once (R303 to R305, R312). -/
def execCalRunStart (t : Nat) (s : State) : Result :=
  if s.ctl.por then .next s else
  match s.farrier.waiting with
  | none => .next s
  | some cause =>
    if s.bit P.CAL_STATUS.RUNNING ∨ (cause ≠ 0 ∧ !(s.farrier.strobe && s.farrier.runFrom)) then .next s
    else
      let s := s.at_ t
      let s := s.withFar fun f => { f with
        waiting := none, solved := none, startup := cause == 0, strobe := true, winEnded := false,
        gatesToo := f.gatesToo || cause == 0, runCtrl := s.reg K.CAL_CTRL, runLims := s.reg K.CAL_LIMITS,
        runOn := s.fld P.PWR_STATUS.DOMAIN_ON % 4096 }
      .next (((s.setFld P.CAL_STATUS.RUNNING 1).setFld P.CAL_STATUS.PENDING 0).setFld P.CAL_STATUS.CAUSE cause)

/-- Members of a list at ascending positions: every choice of `n`. -/
def choose {α : Type} : Nat → List α → List (List α)
  | 0, _ => [[]]
  | _ + 1, [] => []
  | n + 1, x :: l => (choose n l).map (x :: ·) ++ choose (n + 1) l

/-- The first member with the smallest value of `f`. -/
def argMin {α : Type} (f : α → Frac) : List α → Option α
  | [] => none
  | x :: l => some (l.foldl (fun b y => if (f y).lt (f b) then y else b) x)

/-- Phase taps of a path (R292): tap numbers of phases 1 to 7, with the largest departure in fs. -/
def chooseTaps (d : List Nat) : Option (List Nat × Nat) :=
  let dev := fun (l : List Nat) => (List.range 7).foldl (fun m k =>
    Nat.max m (((d.getD (l.getD k 0) 0 : Nat) : Int) - 125000 * (k + 1)).natAbs) 0
  let rising := fun (l : List Nat) => (List.zip (0 :: l) l).all (fun p => decide (d.getD p.1 0 < d.getD p.2 0))
  (argMin (fun l => ⟨dev l, 1⟩) ((choose 7 (List.range 9 |>.map (· + 1))).filter rising)).map (fun l => (l, dev l))

/-- Used segments of a path (R292), with whether each lies within ±25 % of their mean. -/
def chooseSegs (d : List Nat) : Option (List Nat × Bool) :=
  let used := fun (l : List Nat) => l.map (fun i => d.getD i 0)
  let dev := fun (l : List Nat) => let u := used l; let n := u.length
    u.foldl (fun m x => Nat.max m ((n * x : Nat) - (sumN u : Nat) : Int).natAbs) 0
  (argMin (fun l => ⟨dev l, 1⟩) (choose 15 (List.range 17))).map (fun l =>
    (l, decide (4 * dev l ≤ sumN (used l))))

/-- The code table from code counts (R293). -/
def codeTable (h : List Nat) (n : Nat) : List Nat :=
  ((List.range 128).foldl (fun (a : Nat × List Nat) r =>
    let x := h.getD r 0
    (a.1 + x, (2048 * (2 * a.1 + x) / (2 * n)) :: a.2)) (0, [])).2.reverse

/-- Is a code table plausible (Table 13.6)? -/
def tablePlausible (h : List Nat) (n missing : Nat) : Bool :=
  (List.range 128).all (fun r => decide (32 * h.getD r 0 ≤ n)) &&
    decide (((List.range 128).filter (fun r => h.getD r 0 == 0)).length ≤ missing)

/-- Insert into an ascending list. -/
def insertInt (x : Int) : List Int → List Int
  | [] => [x]
  | y :: l => if x ≤ y then x :: y :: l else y :: insertInt x l

/-- The timed strobes that count (R294): those within 32,768 of the median. -/
def nearMedian (xs : List Int) : List Int :=
  let so := xs.mergeSort
  let n := so.length
  let m2 := so.getD ((n - 1) / 2) 0 + so.getD (n / 2) 0
  xs.filter (fun x => decide ((2 * x - m2).natAbs ≤ 65536))

/-- A skew's result (R294): the skew, and n² times the variance with n. -/
def skewOf (dly : Int) (xs : List Int) : Option (Int × Nat × Nat) :=
  let l := nearMedian xs
  let n := l.length
  if n = 0 then none
  else
    let s1 := sumI l
    let s2 := sumI (l.map (fun x => x * x))
    some (roundHalfEven (dly * n - s1) n, (n * s2 - s1 * s1).toNat, n)

/-- Count a run's table or skew verdict against a path (Table 13.2). -/
def State.runVerdict (s : State) (path : Nat) (bad : Bool) : State :=
  let n := if bad then (Map.get {} s.farrier.health path).runFails + 1 else 0
  let s := s.withFar fun f => { f with health := Map.modify {} f.health path (fun h => { h with runFails := n }) }
  if 3 ≤ n then s.failPath path 3 else s

/-- Selections of taps and segments (R292, Table 13.6). -/
def State.solveSelections (s : State) (m : CalMeasure) (r : RunResult) : State × RunResult :=
  let (s, r) := m.taps.foldl (fun (a : State × RunResult) e =>
    match chooseTaps e.2 with
    | some (l, dev) => if dev ≤ 20000 then (a.1, { a.2 with taps := Map.insert a.2.taps e.1 l }) else (a.1.itemFailFree 0 e.1, a.2)
    | none => (a.1.itemFailFree 0 e.1, a.2)) (s, r)
  m.segs.foldl (fun (a : State × RunResult) e =>
    match chooseSegs e.2 with
    | some (l, true) => (a.1, { a.2 with segs := Map.insert a.2.segs e.1 l })
    | _ => (a.1.itemFailFree 0 e.1, a.2)) (s, r)

/-- Code tables (R293, Table 13.6); counts that do not add up to 2^CD_LOG2 are no measurement. -/
def State.solveTables (s : State) (m : CalMeasure) (r : RunResult) : State × RunResult :=
  let n := 2 ^ wordFld s.farrier.runCtrl P.CAL_CTRL.CD_LOG2
  m.counts.foldl (fun (a : State × RunResult) e =>
    if sumN (e.2.take 128) ≠ n then a
    else if tablePlausible e.2 n (wordFld s.farrier.runLims P.CAL_LIMITS.MISSING_MAX) then
      (a.1, { a.2 with luts := Map.insert a.2.luts e.1 (codeTable e.2 n) })
    else (a.1.itemFailFree 1 e.1, { a.2 with badLuts := e.1 :: a.2.badLuts })) (s, r)

/-- Is the strobe's standard deviation within twice the path's maximum: 36 ps, or 60 ps on a gate? `v`: n² times the
variance, in (1/16 LSB)². One 1/16 LSB is 125 / 256 ps. -/
def strobeStdOk (gate : Bool) (v n : Nat) : Bool :=
  let lim := if gate then 60 else 36
  decide (v * 125 * 125 ≤ lim * lim * n * n * 256 * 256)

/-- Skews (R294, Table 13.6), with the figures of R311. -/
def State.solveSkews (s : State) (m : CalMeasure) (r : RunResult) : State × RunResult × Nat × Frac :=
  m.strobes.foldl (fun (a : State × RunResult × Nat × Frac) e =>
    let (s, r, worst, tdc) := a
    let i := e.1
    let path := s.inputPath i
    let lut := match Map.find? r.luts path with
      | some l => l
      | none => s.lutOf path
    let xs := e.2.map (fun p => 2048 * p.1 + (lut.getD p.2 0 : Int))
    match skewOf (Map.get 0 s.ident.strobeDly i) xs with
    | none => (s.itemFailFree 2 i, { r with badSkews := i :: r.badSkews }, worst, tdc)
    | some (k, v, n) =>
      let change := (k - s.skewAt i).natAbs
      let std2 := Frac.mk' v (n * n)
      let tdc := if i < 400 ∧ tdc.lt std2 then std2 else tdc
      let ok := decide (k.natAbs ≤ 30000) && strobeStdOk (decide (400 ≤ i)) v n &&
        (s.farrier.startup || decide (change ≤ wordFld s.farrier.runLims P.CAL_LIMITS.SKEW_STEP))
      if ok then (s, { r with skews := Map.insert r.skews i k }, Nat.max worst change, tdc)
      else (s.itemFail 2 i k, { r with badSkews := i :: r.badSkews }, Nat.max worst change, tdc)) (s, r, 0, ⟨0, 1⟩)

/-- A 16-bit figure of CAL_RESULT: rounded either way where the manual does not say how, and open where it does not fit. -/
def State.figure16 (s : State) (exact : Bool) (x : Nat) : Nat × State :=
  let (v, s) := s.eitherRound exact x
  if v < 65536 then (v, s) else s.draw 16

/-- The temperatures a run's results belong to (R306). -/
def State.runTempsNow (s : State) : List Int × State :=
  if s.farrier.startup then s.groupTemps else (s.farrier.winTemps, s)

/-- A run's results wait for the boundary, with its residuals in 0.1 ps, where a change of x is x × 625 / 128 and a standard
deviation its square root; each measured path has its verdict (R296, R303, R309). -/
def State.runTake (s : State) (meas : CalMeasure) (r : RunResult) (worst : Nat) (tdc : Frac) : State :=
  let (sk, s) := s.figure16 (625 * worst % 128 == 0) (625 * worst / 128)
  let q := isqrt (390625 * tdc.num.natAbs / (16384 * tdc.den))
  let (td, s) := s.figure16 (16384 * tdc.den * (q * q) == 390625 * tdc.num.natAbs) q
  (forEach (meas.counts.map (·.1) ++ meas.strobes.map (fun e => s.inputPath e.1)).eraseDups (fun p s =>
    s.runVerdict p (r.badLuts.contains p || r.badSkews.any (fun i => s.inputPath i == p))) s).withFar
      fun f => { f with solved := some { r with tdcRes := td, skewRes := sk } }

/-- The measurements of a run without the items of clusters that were off at some moment of it, which are neither updated
nor failures (R308). -/
def State.runItems (s : State) (m : CalMeasure) : CalMeasure :=
  let on := fun (k : Nat) => decide (12 ≤ k) || bitOf s.farrier.runOn k
  { taps := m.taps.filter (fun e => on (pathCluster e.1)), segs := m.segs.filter (fun e => on (pathCluster e.1)),
    counts := m.counts.filter (fun e => on (pathCluster e.1)), strobes := m.strobes.filter (fun e => on (inputCluster e.1)) }

/-- CAL_RUN_SOLVED: a run's selections, tables and skews are solved and checked (R292 to R294, R303, R309); an in-service
run has had a window to its end. -/
def execCalRunSolved (t : Nat) (meas : CalMeasure) (s : State) : Result :=
  if s.ctl.por then .next s else
  if !s.bit P.CAL_STATUS.RUNNING ∨ s.farrier.solved.isSome ∨ !(s.farrier.startup || s.farrier.winEnded) then .next s
  else
    let meas := s.runItems meas
    let (ts, s) := (s.at_ t).runTempsNow
    let (s, r) := s.solveSelections meas { temps := ts }
    let (s, r) := s.solveTables meas r
    let (s, r, worst, tdc) := s.solveSkews meas r
    .next (s.runTake meas r worst tdc)

/-- Bit `8 g + i` of SET_VALID. -/
def State.setOk (s : State) (g i : Nat) : Bool := bitOf (s.fld P.SET_VALID.VALID) (8 * g + i)

/-- A quantity at a temperature between two sets (R308); `sets`: temperature and value of the valid sets. -/
def betweenSets (t : Int) (sets : List (Int × Int)) : Option Int :=
  let lo := (sets.filter (fun e => decide (e.1 ≤ t))).foldl (fun (b : Option (Int × Int)) e => match b with
    | some x => if x.1 < e.1 then some e else some x
    | none => some e) none
  let hi := (sets.filter (fun e => decide (t < e.1))).foldl (fun (b : Option (Int × Int)) e => match b with
    | some x => if e.1 < x.1 then some e else some x
    | none => some e) none
  match lo, hi with
  | some a, some b => some (a.2 + roundHalfEven ((b.2 - a.2) * (t - a.1)) (b.1 - a.1).natAbs)
  | some a, none => some a.2
  | none, some b => some b.2
  | none, none => none

/-- The valid sets of a group. -/
def State.validSets (s : State) (g : Nat) : List TempSet :=
  (List.range 8).filterMap (fun i => if s.setOk g i then some (Map.get {} s.farrier.sets (8 * g + i)) else none)

/-- Install the quantities of the sets at a group's temperature (R308); `of`: the clusters whose units take theirs, none
for every unit, the monitors, the gates and the lag. -/
def State.installGroup (s : State) (g : Nat) (t : Int) (of : Option Nat) : State :=
  let sets := s.validSets g
  let takes := fun (k : Nat) => match of with
    | some m => bitOf m k
    | none => true
  let keys := fun (cl : Nat → Nat) (f : TempSet → List Nat) => ((sets.map f).flatten).eraseDups.filter (fun i => takes (cl i))
  let s := forEach (keys pathCluster (fun x => x.luts.map (·.1))) (fun p s =>
    let l := (List.range 128).map (fun r =>
      ((betweenSets t (sets.filterMap (fun x => (Map.find? x.luts p).map (fun l => (x.tau, ((l.getD r 0 : Nat) : Int)))))).getD 0).toNat)
    s.withStamp fun x => { x with lut := Map.insert x.lut p l }) s
  let s := forEach (keys inputCluster (fun x => x.skews.map (·.1))) (fun i s =>
    match betweenSets t (sets.filterMap (fun x => (Map.find? x.skews i).map (fun v => (x.tau, v)))) with
    | some v => s.withStamp fun x => { x with skew := Map.set 0 x.skew i v }
    | none => s) s
  if g = 4 ∧ of.isNone then
    match betweenSets t (sets.filterMap (fun x => x.lag.map (fun v => (x.tau, v)))) with
    | some v => s.setFldI P.ANG_VIEW.LAG v
    | none => s
  else s

/-- Install at a frame boundary, or into the units of the clusters whose logic comes on (R308, R310). A group without a mean
keeps what it has. -/
def State.installSets (s : State) (of : Option Nat) : State :=
  forUpto 5 (fun g s => match s.dieTemp (if g = 4 then 8 else g) with
    | some t => s.installGroup g t of
    | none => s) s

/-- Write one item into a set: its new value, else what the set holds, else what is installed (R307). -/
def pickItem {α : Type} (new : Option α) (bad : Bool) (stored : Option α) (inst : α) : Option α :=
  match new with
  | some v => some v
  | none => if bad then some (stored.getD inst) else stored

/-- Write the set of a group that a run's temperature names (R307). -/
def State.writeSet (s : State) (r : RunResult) (g : Nat) : State :=
  let t := r.temps.getD g 0
  let i := bandOf t
  let k := 8 * g + i
  let old : TempSet := if s.setOk g i then Map.get {} s.farrier.sets k else {}
  let luts := (List.range 450).filterMap (fun p => if pathGroup p = g ∧ g < 4 then
    (pickItem (Map.find? r.luts p) (r.badLuts.contains p) (Map.find? old.luts p) (s.lutOf p)).map (fun v => (p, v)) else none)
  let skews := (List.range 402).filterMap (fun p => if inputGroup p = g ∧ g < 4 then
    (pickItem (Map.find? r.skews p) (r.badSkews.contains p) (Map.find? old.skews p) (s.skewAt p)).map (fun v => (p, v)) else none)
  let lag := if g = 4 then pickItem none true old.lag (s.fldI P.ANG_VIEW.LAG) else none
  let s := s.withFar fun f => { f with sets := Map.insert f.sets k ⟨t, luts, skews, lag⟩ }
  s.setFld ⟨K.SET_VALID, k, k⟩ 1

/-- A changed selection makes the path's entry of every set invalid; it is installed together with the path's new table, and
so not without one (R292). -/
def State.installSelections (s : State) (r : RunResult) : State :=
  let withTable := fun (m : SMap (List Nat)) => m.filter (fun e => (Map.find? r.luts e.1).isSome)
  let r := { r with taps := withTable r.taps, segs := withTable r.segs }
  let changed := fun (p : Nat) => (match Map.find? r.taps p with
      | some l => decide (Map.find? s.farrier.taps p ≠ some l)
      | none => false) || (match Map.find? r.segs p with
      | some l => decide (Map.find? s.farrier.segs p ≠ some l)
      | none => false)
  let ch := (List.range 450).filter changed
  s.withFar fun f => { f with
    sets := f.sets.map (fun e => (e.1, { e.2 with luts := e.2.luts.filter (fun x => !ch.contains x.1) })),
    taps := r.taps.foldl (fun m e => Map.insert m e.1 e.2) f.taps,
    segs := r.segs.foldl (fun m e => Map.insert m e.1 e.2) f.segs }

/-- A solved run is installed (R303, R305, R307, R311). -/
def State.calInstall (s : State) (r : RunResult) : State :=
  let s := s.installSelections r
  let s := forUpto 5 (fun g s => s.writeSet r g) s
  let s := s.installSets none
  let s := s.withFar fun f => { f with solved := none, startup := false, runFrom := false, runTemps := r.temps.take 4, lastRun := s.now }
  let s := (s.setFld P.CAL_STATUS.RUNNING 0).setFld P.CAL_STATUS.LAST_FRAME s.frameNo
  let s := s.addWrap P.CAL_STATUS.RUNS 1
  let s := (s.setFld P.CAL_QUALITY.TDC_RES r.tdcRes).setFld P.CAL_QUALITY.SKEW_RES r.skewRes
  let s := s.setFld P.CAL_QUALITY.ANG_RES s.farrier.angRes
  s.setFld P.CAL_QUALITY.TPL_FIT (s.farrier.tplE.foldl (fun m e => Nat.max m e.2) 0)

/-- STARTUP_RUN_INSTALLED (R305). -/
def execStartupRunInstalled (t : Nat) (s : State) : Result :=
  if s.ctl.por then .next s else
  match s.farrier.solved with
  | none => .next s
  | some r =>
    if !s.farrier.startup then .next s
    else
      let s := (s.at_ t).calInstall r
      let s := s.withFar fun f => { f with strobe := false, gatesToo := false }
      .next (s.setFld P.CAL_STATUS.STARTUP_DONE 1)

/-- RERUN_MAX_EXPIRY: the RERUN_MAX of the last run's start counts (R303, R312). -/
def execRerunMaxExpiry (t : Nat) (s : State) : Result :=
  if s.ctl.por then .next s else
  let n := wordFld s.farrier.runCtrl P.CAL_CTRL.RERUN_MAX
  let s := s.at_ t
  if n ≠ 0 ∧ s.bit P.CAL_STATUS.STARTUP_DONE ∧ s.farrier.lastRun + (n * 1000000000 : Nat) ≤ (s.now : Int) then .next (s.calRequest 3) else .next s

/-- The template a full gathering gives (R299); none where no counts came in. -/
def fitTemplate (a : List Nat) (sigmaSum log2 : Nat) : Option Template :=
  let m := a.foldl Nat.max 0
  if m = 0 then none
  else
    let w := a.map (fun x => (roundHalfEven (255 * (x : Int)) m).toNat)
    let k := (a.findIdx? (· == m)).getD 0
    let first := (w.findIdx? (fun x => decide (8 ≤ x))).getD 0
    let last := 15 - ((w.reverse.findIdx? (fun x => decide (8 ≤ x))).getD 0)
    let l := last + 1 - first
    let an := k - first
    some (mkTemplate (((w.drop first).take l).map (fun x => (x : Int))) an (Nat.min 7 (an + 1)) (Nat.min 7 (l - an))
      (roundHalfEven sigmaSum (2 ^ log2)).toNat)

/-- The fit error between two templates aligned at their anchors (R299). -/
def fitError (x y : Template) : Nat :=
  let tap := fun (t : Template) (j : Int) => let i := j + t.anchor; if i < 0 then (0 : Int) else t.taps.getD i.toNat 0
  let sum := (List.range 31).foldl (fun (a : Frac) j =>
    let i : Int := (j : Int) - 15
    let d := ((Frac.ofInt (tap x i)).div (Frac.ofInt x.g)).sub ((Frac.ofInt (tap y i)).div (Frac.ofInt y.g))
    a.add ⟨d.num.natAbs, d.den⟩) ⟨0, 1⟩
  Nat.min 1024 (roundHalfEven (512 * sum.num) sum.den).toNat

/-- Is a template plausible (Table 13.6)? -/
def Template.plausible (t : Template) : Bool :=
  decide (3 ≤ t.taps.length) && t.anchor != 0 && t.anchor + 1 != t.taps.length &&
    decide (8 ≤ t.sigmaRef16) && decide (t.sigmaRef16 ≤ 4096)

/-- TEMPLATE_ESTIMATE: a full gathering is fitted; a template far enough from the active one is committed and faded
in (R299, R300). -/
def execTemplateEstimate (t cluster : Nat) (s : State) : Result :=
  if s.ctl.por then .next s else
  let g := Map.get {} s.farrier.gather cluster
  if 12 ≤ cluster ∨ !g.full then .next s
  else
    let s := (s.at_ t).gatherRestart cluster
    match fitTemplate g.a g.sigmaSum g.log2 with
    | none => .next (s.itemFailFree 5 cluster)
    | some x =>
      let c := s.cluster cluster
      let e := fitError x (c.bank c.active)
      let s := s.withFar fun f => { f with tplE := Map.set 0 f.tplE cluster e }
      if e < g.refit ∨ !s.forceBit P.TPL_CTRL.AUTO_TPL then .next s
      else if x.plausible then .next (s.autoTemplate cluster x)
      else .next (s.itemFailFree 5 cluster)

/-- The residual of an angle lag estimate (R302): half the root of the variance of the pairs, in m°. -/
def State.lagFigure (s : State) (n : Nat) (d : List Int) : Nat × State :=
  let sum := sumI d
  -- n² times the variance
  let v := ((n : Int) * sumI (d.map (fun x => x * x)) - sum * sum).toNat
  let q := isqrt (v / (4000000 * n * n))
  s.eitherRound (4000000 * n * n * (q * q) == v) q

/-- A gathering of edge pairs begins with the ANG_EN and ANG_EDGES of now (R312). -/
def State.gatherAngles (s : State) : State :=
  s.withFar fun f => { f with angEn := s.bit P.CAL_CTRL.ANG_EN, angEdges := s.fld P.CAL_LIMITS.ANG_EDGES }

/-- An estimate is made of `n` pairs: gathering restarts, and a plausible lag waits for the boundary (R302, R307). -/
def State.lagTake (s : State) (n res : Nat) (lag new : Int) : State :=
  let s := (s.withFar fun f => { f with pairs := [], angRes := capN 65535 res }).gatherAngles
  let s := s.setFld P.ANG_VIEW.EDGES n
  if new.natAbs ≤ 20000 ∧ (new - lag).natAbs ≤ 2000 then s.withFar fun f => { f with newLag := some new }
  else s.itemFail 4 0 new

/-- ANGLE_LAG_ESTIMATE: enough edge pairs give a new lag, installed at the next boundary (R302, R309). -/
def execAngleLagEstimate (t : Nat) (s : State) : Result :=
  if s.ctl.por then .next s else
  let n := s.farrier.angEdges
  if s.farrier.pairs.length < n ∨ n = 0 ∨ s.fieldW = 0 then .next s
  else
    let d := s.farrier.pairs.take n
    let lag := s.fldI P.ANG_VIEW.LAG
    let (res, s) := (s.at_ t).lagFigure n d
    .next (s.lagTake n res lag (lag + roundHalfEven (-(sumI d) * gaitD s.gait) (2000 * n * s.fieldW)))

/-- A bank's fire-to-emission delay at a frame boundary (R298). -/
def State.fteBoundary (s : State) (b : Nat) : State :=
  let n := Map.get 0 s.farrier.fteCount b
  let lo := 128 * s.forceFld P.CAL_LIMITS.FTE_MIN
  let hi := 128 * s.forceFld P.CAL_LIMITS.FTE_MAX
  let f := (P.FTE_DELAY.DELAY.idx (b / 4)).sub (b % 4) 16
  let s :=
    if 16 ≤ n then
      let m := roundHalfEven (Map.get 0 s.farrier.fteSum b) n
      if (lo : Int) ≤ m ∧ m ≤ hi then
        (s.setFld f m.toNat).withFar fun x => { x with fteDone := x.fteDone ||| 2 ^ b }
      else s.itemFail 3 b m
    else s
  if bitOf s.farrier.fteDone b then s else s.setFld f (128 * s.fld P.CAL_LIMITS.FTE_DEFAULT)

/-- The spare paths at a frame boundary (R81, R83). -/
def State.spareBoundary (s : State) (u : Nat) : State :=
  let sp := s.spare u
  let s := s.withSpare u fun x =>
    let x := match sp.hostReq with
      | some (.substitute c) => { x with channel := some c, byFarrier := false }
      | some (.release _) => { x with channel := none }
      | none => x
    let x := match sp.farrierReq with
      | some c => { x with channel := some c, byFarrier := true }
      | none => x
    { x with hostReq := none, farrierReq := none }
  let s := forUpto 8 (fun i s => s.withCh (8 * u + i) fun x => { x with degraded := false }) s
  s.setFld ⟨K.SPARE_MAP, u, u⟩ (ofBit (s.spare u).channel.isSome)

/-- A frame's edges are paired: each forward edge with the nearest reverse edge of its row within four pitches
(R302). -/
def State.edgePairs (s : State) : State :=
  let f := s.farrier
  let pitch4 : Nat := 4 * 1000 * s.fieldW / gaitC s.gait
  let pairs := f.edges.filterMap (fun e =>
    let near := f.revEdges.filter (fun r => r.1 == e.1)
    match argMin (fun (r : Nat × Int) => ⟨(r.2 - e.2).natAbs, 1⟩) near with
    | some r => if (r.2 - e.2).natAbs ≤ pitch4 then some (e.2 - r.2) else none
    | none => none)
  s.withFar fun f => { f with pairs := f.pairs ++ pairs, edges := [], revEdges := [] }

/-- Farrier's part of a frame boundary (R298, R302, R303, R308, R310). `reverse`: the frame that ended; `keep`: neither gait
nor W changes. -/
def State.farrierBoundary (s : State) (reverse keep : Bool) : State :=
  let s := if keep then (if reverse then s.edgePairs else s) else s.withFar Farrier.dropPairs
  let s := s.withFar fun f => { f with lastRange := [], lastIndex := [] }
  let s := if s.farrier.pairs.isEmpty ∧ s.farrier.edges.isEmpty then s.gatherAngles else s
  let s := forUpto 16 (fun b s => s.fteBoundary b) s
  let s := (s.withFar fun f => { f with fteSum := [], fteCount := [] }).takeForce K.CAL_LIMITS
  let s := match s.farrier.newLag with
    | some v =>
      let (t, s) := s.groupTemp 4
      let k := 32 + bandOf t
      let s := (s.setFldI P.ANG_VIEW.LAG v).withFar fun f => { f with
        newLag := none,
        sets := Map.insert f.sets k { tau := t, lag := some v } }
      s.setFld ⟨K.SET_VALID, k, k⟩ 1
    | none => s
  let s := match s.farrier.solved with
    | some r => if s.farrier.startup then s else s.calInstall r
    | none => s.installSets none
  forUpto 48 (fun u s => s.spareBoundary u) s

/-- CAL_SEL (Table 3.22). -/
def State.calView (s : State) (i : Nat) : State :=
  let s := s.setFldI P.CAL_VIEW.SKEW (s.skewAt i)
  let s := s.setFld P.CAL_VIEW.PATH (if i < 384 then s.pathOf i % 9 else 0)
  let x := if i < 384 then s.ch i else {}
  (s.setFld P.CAL_VIEW.DEGRADED (ofBit x.degraded)).setFld P.CAL_VIEW.LOST (ofBit x.lost)

/-- Is a request of SPARE_FORCE refused (R83)? -/
def State.spareRefused (s : State) (release : Bool) (u i : Nat) : Bool :=
  let sp := s.spare u
  let pend := sp.hostReq.isSome || sp.farrierReq.isSome
  if 48 ≤ u then true
  else if release then sp.channel != some (8 * u + i) || sp.byFarrier || pend
  else sp.channel.isSome || pend || sp.failed

/-- A request of SPARE_FORCE is accepted (R83). -/
def State.spareRequest (s : State) (release : Bool) (u i : Nat) : State :=
  let c := 8 * u + i
  s.withSpare u fun x => { x with hostReq := some (if release then .release c else .substitute c) }

end Sys2Proof.Machine
end

