-- ==== Sys2Proof/Machine/Histogram.lean ====
section
/-! DEFINITION. Accumulation into the bin words and the dump engine (04_moment_histograms.md). -/
namespace Sys2Proof.Machine

/-- The data of a bin word after one event (R87, R89): `high`, the comparator still high SAT_LEN ns after. -/
def binEvent (d r : Nat) (high : Bool) : Nat :=
  if binCount d < 4095 then binData (binCount d + 1) (binRsum d + r) (binQsum d + r * r) (binSat d || high) (binPile d)
  else binData (binCount d) (binRsum d) (binQsum d) true (binPile d)

/-- Add one event to a bin of a channel's buffer: decode, correct or discard, add, encode, inject (R87, R94,
R96, R97). -/
def State.accumulate (s : State) (c buf frame bin r : Nat) (high : Bool) : State :=
  let k := 2 * c + buf
  let (d, s) := match decodeWord (s.binWord k bin) with
    | .clean d => (d, s)
    | .corrected d => (d, s.liveWrap (P.ECC_COUNT.CORRECTED.idx (c / 32)) 1)
    | .uncorrectable => (0, s.poison c buf frame)
  let w := encodeWord (binEvent d r high)
  if s.bit P.INJECT_SEL.ARM ∧ s.fld P.INJECT_SEL.CHANNEL = c ∧ s.fld P.INJECT_SEL.BIN = bin then
    (s.setBinWord k bin (w ^^^ s.reg K.INJECT_MASK)).setFld P.INJECT_SEL.ARM 0
  else s.setBinWord k bin w

/-- Do the bins of a channel's buffer still hold a column: from its fill start to the end of its pipe slot, or while they
are FROZEN with it (R98, R99)? -/
def State.binsOf (s : State) (c : Nat) (k : Column) : Bool :=
  let b := s.buf (2 * c + k.seq % 2)
  b.st != .read && b.content.frame == k.frame && b.content.seq == k.seq

/-- An accepted event of a column enters its bin (R86, R87, R91). -/
def State.binOne (s : State) (k : Column) (e : BinEvent) : State :=
  let s := s.withCol k.frame k.seq fun c => { c with
    accepted := c.accepted.erase e, lastBin := Map.insert c.lastBin (32 * e.channel + e.pulse) e.bin }
  if s.binsOf e.channel k then s.accumulate e.channel (k.seq % 2) k.frame e.bin e.residual e.high else s

/-- Every accepted event of a channel's column is in its bin (R91). -/
def State.binAll (s : State) (c : Nat) (k : Column) : State :=
  forEach (k.accepted.filter (fun e => e.channel == c)) (fun e s => s.binOne k e) s

/-- HISTOGRAM_ACCUMULATE: the oldest accepted event of a channel enters its bin (R86, R87). -/
def execHistogramAccumulate (channel : Nat) (s : State) : Result :=
  if s.ctl.por then .next s else
  match s.scan.columns.find? (fun c => c.accepted.any (fun e => e.channel == channel)) with
  | none => .next s
  | some c =>
    match c.accepted.find? (fun e => e.channel == channel) with
    | none => .next s
    | some e => .next (s.binOne c e)

/-- A dump request that passed the checks of R102. DESIGN CHOICE (notes/assumptions 43): of a channel's two FROZEN buffers,
buffer 0 is dumped first. -/
def State.dumpStart (s : State) (frozenSrc anyCol : Bool) (column first count : Nat) : State :=
  let s := (s.setFld P.DUMP_STATUS.SKIPPED 0).setFld P.DUMP_STATUS.BUSY 1
  if frozenSrc then
    let left := ((List.range count).map (fun i => [(first + i, 0), (first + i, 1)])).flatten.filter
      (fun p => s.isFrozen (2 * p.1 + p.2))
    ({ s with hist := { s.hist with dump := some ⟨true, anyCol, column, first, count, s.now, false, left, false⟩ } }).dumpDone
  else
    let s := s.setFld P.DUMP_STATUS.WAITING 1
    { s with hist := { s.hist with dump := some ⟨false, anyCol, column, first, count, s.now, true, [], false⟩ } }

/-- Is a dump request refused (R102)? -/
def State.dumpRefused (s : State) (frozenSrc anyCol : Bool) (column first count : Nat) : Bool :=
  decide (count = 0 ∨ 32 < count ∨ 384 < first + count) || s.bit P.DUMP_STATUS.BUSY ||
    (!frozenSrc && !anyCol && decide (gaitC s.gait ≤ column))

/-- A gait change re-checks a waiting request (R102). -/
def State.dumpRecheck (s : State) : State :=
  match s.hist.dump with
  | some d =>
    if d.waiting ∧ !d.anyCol ∧ gaitC s.gait ≤ d.column then
      let s := { s with hist := { s.hist with dump := none } }
      ((s.setFld P.DUMP_STATUS.BUSY 0).setFld P.DUMP_STATUS.WAITING 0).setFlag P.DUMP_STATUS.ABORTED
    else s
  | none => s

/-- The words of a buffer as a dump writes them, with the numbers corrected and uncorrectable (R104).
DESIGN CHOICE (notes/assumptions 43): these are no part of ECC_COUNT, and no POISON mark comes of them; the readout that R96
counts is the pipe's. -/
def State.dumpWords (s : State) (k : Nat) : List Byte × Nat × Nat :=
  let ws := (List.range 4096).map (fun b => s.binWord k b)
  let bytes := (ws.map (fun w => match decodeWord w with
    | .corrected d => leBytes 8 (encodeWord d).toNat
    | _ => leBytes 8 w.toNat)).flatten
  let n := (ws.filter (fun w => match decodeWord w with | .corrected _ => true | _ => false)).length
  let u := (ws.filter (fun w => decodeWord w == .uncorrectable)).length
  (bytes, n, u)

/-- The record header of Table 4.8. -/
def State.dumpHeader (s : State) (c buf corr unc : Nat) (frozenSrc : Bool) : List Byte :=
  let b := s.buf (2 * c + buf)
  let m := b.content
  leBytes 4 0x504D4448 ++ leBytes 2 c ++ leBytes 1 buf ++ leBytes 1 (if frozenSrc then 2 else 1) ++
  leBytes 4 m.frame ++ leBytes 2 m.column ++ leBytes 2 m.seq ++
  leBytes 1 (128 * ofBit b.mask + 64 * ofBit b.poison + 32 * ofBit m.held + 4 * ofBit m.reverse + m.gait) ++
  leBytes 1 (gaitN m.gait) ++ leBytes 2 corr ++ leBytes 2 unc ++ leBytes 2 0 ++
  leBytes 8 m.epoch ++ leBytes 4 m.codeE ++ leBytes 1 m.near ++ leBytes 1 m.far16 ++ leBytes 2 0 ++
  leBytes 8 s.hist.dumpSeq ++ leBytes 3 m.armed ++ List.replicate 13 0

/-- Has the pipe slot of the channel whose buffer holds a column ended (R103)? -/
def State.slotEnded (s : State) (c buf : Nat) : Bool :=
  let m := (s.buf (2 * c + buf)).content
  match s.scan.columns.find? (fun k => decide (k.frame = m.frame ∧ k.seq = m.seq)) with
  | none => true
  | some k => bitOf (Map.get 0 k.piped (c / 32)) (c % 32)

/-- DUMP_RECORD: the next record goes to the dump ring, or is dropped for want of room (R103 to R105). DESIGN CHOICE
(notes/assumptions 43): DUMP_SEQ counts a record when it is formed, also one that an ABORT or a reset discards later; a buffer
that is no longer FROZEN at its turn, released by the host or lost with its SRAM, gives no record. -/
def execDumpRecord (s : State) : Result :=
  if s.ctl.por then .next s else
  match s.hist.dump with
  | none => .next s
  | some d =>
    match d.left with
    | [] => .next s.dumpDone
    | (c, buf) :: rest =>
      if d.waiting ∨ d.inFlight then .next s
      else if !s.isFrozen (2 * c + buf) then
        .next ({ s with hist := { s.hist with dump := some { d with left := rest } } }).dumpDone
      else if !d.frozenSrc ∧ !s.slotEnded c buf then .next s
      else if s.ringOn 4 ∧ 32832 ≤ s.ringFree 4 then
        let (bytes, n, u) := s.dumpWords (2 * c + buf)
        let hdr := s.dumpHeader c buf n u d.frozenSrc
        let s := { s with hist := { s.hist with
          dump := some { d with left := rest, inFlight := true }, dumpSeq := wrapAdd 64 s.hist.dumpSeq 1 } }
        .next (s.dmaPush 4 { payload := hdr ++ bytes, done := .dumpRecord c buf 32832 })
      else
        let s := if d.frozenSrc then s else s.unfreeze (2 * c + buf) false
        let s := s.addWrap P.DUMP_STATUS.DROPPED 1
        .next ({ s with hist := { s.hist with dump := some { d with left := rest } } }).dumpDone

/-- FREEZE_SEL: a channel's buffer states are copied into FREEZE_VIEW (R107, Table 4.19). -/
def State.freezeView (s : State) (c : Nat) : State :=
  let show_ := fun k =>
    let b := s.buf k
    (match b.st with | .filling => 0 | .handed => 1 | .read => 2 | .frozen => 3) +
      4 * ofBit b.mask + 8 * ofBit b.dump + 16 * ofBit b.poison
  s.setReg K.FREEZE_VIEW (BitVec.ofNat 64 (show_ (2 * c) + 256 * show_ (2 * c + 1)))

end Sys2Proof.Machine
end

