-- ==== Sys2Proof/Machine/Trig.lean ====
section
/-! DEFINITION. The transcendental functions the rules name, in fixed point far beyond the precision of the
integers they are rounded to: cosine and sine (R314), the natural logarithm (R131), and binary32 (R264). -/
namespace Sys2Proof.Machine

/-- Fixed-point scale, 2^96. -/
def fx : Int := 2 ^ 96

/-- π in units of 2^-96. -/
def fxPi : Int := 248902613312231085230521944622

/-- Terms of the alternating series of cosine and sine: `t` is the term, `x2` the squared angle, `n` its index. -/
def trigAux (x2 : Int) : Nat → Nat → Int → Int → Int
  | 0, _, _, acc => acc
  | f + 1, n, t, acc =>
    let t' := -(t * x2 / fx) / (((n + 1) * (n + 2) : Nat) : Int)
    trigAux x2 f (n + 2) t' (acc + t')

/-- An angle in µ° as radians in units of 2^-96. -/
def fxAngle (a : Int) : Int := a * fxPi / 180000000

/-- Cosine of an angle in µ°. -/
def fxCos (a : Int) : Int := let x := fxAngle a; trigAux (x * x / fx) 24 0 fx fx
/-- Sine of an angle in µ°. -/
def fxSin (a : Int) : Int := let x := fxAngle a; trigAux (x * x / fx) 24 1 x x

/-- `round(16,384 × cos(a))`, `a` in µ° (R314). -/
def cos14 (a : Int) : Int := (2 * 16384 * fxCos a + fx) / (2 * fx)
/-- `round(16,384 × sin(a))`, `a` in µ° (R314). -/
def sin14 (a : Int) : Int := (2 * 16384 * fxSin a + fx) / (2 * fx)

/-- Odd powers of the series of artanh. -/
def atanhAux (y2 : Int) : Nat → Nat → Int → Int → Int
  | 0, _, _, acc => acc
  | f + 1, n, p, acc =>
    let p' := p * y2 / fx
    atanhAux y2 f (n + 2) p' (acc + p' / ((n + 2 : Nat) : Int))

/-- `2 artanh(y)` for `|y| ≤ 1 / 3`, in units of 2^-96. -/
def fxAtanh2 (y : Int) : Int := 2 * atanhAux (y * y / fx) 40 1 y y

/-- `ln(n / d)` for `n ≥ d > 0`, in units of 2^-96: the powers of two are taken out first. -/
def fxLn (n d : Nat) : Int :=
  let k := Nat.log2 (n / d)
  let d' := d * 2 ^ k
  -- n / d' lies from 1 to 2
  let y := (((n : Int) - d') * fx) / ((n : Int) + d')
  fxAtanh2 y + (k : Int) * fxAtanh2 (fx / 3)

/-- Round a positive rational to binary32, ties to even, as its bit pattern without the sign; subnormals and
overflow to infinity included. -/
def f32Pos (n d : Nat) : Nat :=
  if n = 0 then 0
  else
    -- the exponent e with 2^e ≤ n / d < 2^(e + 1)
    let g := (Nat.log2 n : Int) - Nat.log2 d
    let ge := fun (e : Int) => if 0 ≤ e then decide (d * 2 ^ e.toNat ≤ n) else decide (d ≤ n * 2 ^ (-e).toNat)
    let e := if ge g then g else g - 1
    let e := if e < -126 then -126 else e
    -- the significand in units of 2^(e - 23)
    let sh := 23 - e
    let q := if 0 ≤ sh then roundHalfEven ((n * 2 ^ sh.toNat : Nat) : Int) d
      else roundHalfEven (n : Int) (d * 2 ^ (-sh).toNat)
    let q := q.toNat
    let bits := if q < 2 ^ 23 then q else (e + 126).toNat * 2 ^ 23 + q
    if bits < 255 * 2 ^ 23 then bits else 255 * 2 ^ 23

/-- A rational as binary32 (round to nearest, ties to even); zero is +0. -/
def toF32 (x : Frac) : Nat := (if x.num < 0 then 2 ^ 31 else 0) + f32Pos x.num.natAbs x.den

/-- The value of a finite binary32 pattern. -/
def ofF32 (w : Nat) : Frac :=
  let e : Nat := w / 2 ^ 23 % 256
  let m : Nat := w % 2 ^ 23
  let s : Int := if bitOf w 31 then -1 else 1
  if e = 0 then Frac.mk' (s * (m : Int)) (2 ^ 149)
  else if 150 ≤ e then ⟨s * (((2 ^ 23 + m) * 2 ^ (e - 150) : Nat) : Int), 1⟩
  else Frac.mk' (s * ((2 ^ 23 + m : Nat) : Int)) (2 ^ (150 - e))

/-- Is a binary32 pattern a finite number? -/
def finF32 (w : Nat) : Bool := decide (w / 2 ^ 23 % 256 ≠ 255)

end Sys2Proof.Machine
end

