-- ==== Sys2Proof/Machine/Paddocks.lean ====
section
/-! DEFINITION. Guard-zone geometry: placing a candidate, the polygon test, the interval tables and the checks of a
commit (14_paddocks_and_halter.md R313 to R319, R335). -/
namespace Sys2Proof.Machine

/-- Replace the supervisor's record. -/
def State.withSup (s : State) (f : Supervisor → Supervisor) : State := { s with sup := f s.sup }
/-- A Paddock. -/
def State.pad (s : State) (p : Nat) : Paddock := Map.get {} s.sup.pads p
/-- Change a Paddock. -/
def State.withPad (s : State) (p : Nat) (f : Paddock → Paddock) : State :=
  s.withSup fun u => { u with pads := Map.modify {} u.pads p f }
/-- Is a Paddock enabled? -/
def State.padOn (s : State) (p : Nat) : Bool := s.bit (P.PD_CFG.EN.idx p)
/-- Is any Paddock enabled? -/
def State.anyPad (s : State) : Bool := (List.range 16).any s.padOn

/-- The edges of a polygon, the last vertex joining vertex 0 (R313). -/
def edges (v : List (Int × Int)) : List ((Int × Int) × (Int × Int)) :=
  match v with
  | [] => []
  | a :: t => List.zip v (t ++ [a])

/-- R316's test; a point on an edge or a vertex is inside. -/
def insidePoly (v : List (Int × Int)) (x y : Int) : Bool :=
  let es := edges v
  let cross := fun (e : (Int × Int) × (Int × Int)) =>
    (e.2.1 - e.1.1) * (y - e.1.2) - (e.2.2 - e.1.2) * (x - e.1.1)
  let onEdge := fun (e : (Int × Int) × (Int × Int)) => decide (cross e = 0) &&
    decide (min e.1.1 e.2.1 ≤ x) && decide (x ≤ max e.1.1 e.2.1) &&
    decide (min e.1.2 e.2.2 ≤ y) && decide (y ≤ max e.1.2 e.2.2)
  let flips := fun (e : (Int × Int) × (Int × Int)) =>
    (decide (y < e.1.2) != decide (y < e.2.2)) && (decide (0 < cross e) == decide (e.1.2 < e.2.2))
  es.any onEdge || ((es.filter flips).length % 2 == 1)

/-- The centre angle of a column in µ° (R314). -/
def azimuth (w c k : Nat) : Int := (columnAngle w c k + columnAngle w c (k + 1)) / 2

/-- ROW_EL of a row in µ°. -/
def State.rowEl (s : State) (r : Nat) : Int := 1000 * s.fldI ((P.ROW_EL.EL.idx (r / 4)).sub (r % 4) 16)

/-- Where a candidate lies (R315): h, x, y, z. -/
def State.place (s : State) (row index rangeMm : Nat) : Int × Int × Int × Int :=
  let az := azimuth s.fieldW (gaitC s.gait) index
  let h := (rangeMm : Int) * cos14 (s.rowEl row) / 16384
  (h, h * cos14 az / 16384, h * sin14 az / 16384,
    (rangeMm : Int) * sin14 (s.rowEl row) / 16384 + s.forceFld P.PD_GEOM.MOUNT_Z)

/-- R317's conditions beside the volume. -/
def State.candCounts (s : State) (c : Cand) : Bool :=
  let sm := s.forceFld P.PD_GEOM.SPREAD_MAX16
  decide (s.forceFld P.PD_GEOM.PD_NEAR_MM < c.rangeMm) &&
    (sm == 0 || decide (c.sigma16 < sm) || c.cand + 1 == c.ncand)

/-- Does a Paddock's height band hold z? -/
def State.inBand (s : State) (p : Nat) (z : Int) : Bool :=
  decide (s.fldI (P.PD_CFG.Z_LO.idx p) ≤ z) && decide (z ≤ s.fldI (P.PD_CFG.Z_HI.idx p))

/-- PADDOCK_COUNT: the cluster evaluator places a candidate and counts it (R318). -/
def State.paddockCount (s : State) (c : Cand) (index : Nat) : State :=
  let (h, x, y, z) := s.place c.channel index c.rangeMm
  if s.candCounts c then
    forUpto 16 (fun p s =>
      if s.padOn p && !(s.pad p).verts.isEmpty && s.inBand p z && insidePoly (s.pad p).verts x y then
        let hn := h.toNat
        s.withSup fun u => { u with
          cEv := Map.modify 0 u.cEv p (· + 1),
          minH := Map.insert u.minH p (match Map.find? u.minH p with
            | some m => Nat.min m hn
            | none => hn) }
      else s) s
  else s

/-- Is the rational point (x / d, y / d) in the polygon? -/
def insideFrac (v : List (Int × Int)) (x y : Int) (d : Nat) : Bool :=
  insidePoly (v.map (fun p => (p.1 * d, p.2 * d))) x y

/-- Insert into a sorted list of rationals, without repeats. -/
def insertFrac (x : Frac) : List Frac → List Frac
  | [] => [x]
  | y :: l => if x.lt y then x :: y :: l else if y.lt x then y :: insertFrac x l else y :: l

/-- Values of h at which the ray along (ca, sa) meets the polygon's outline, sorted, with 0 (R319). -/
def crossings (v : List (Int × Int)) (ca sa : Int) : List Frac :=
  let n2 := ca * ca + sa * sa
  let at_ := fun (x y : Int) (d : Int) => (Frac.mk' (16384 * (x * ca + y * sa)) 1).div (Frac.mk' (n2 * d) 1)
  let hits := ((edges v).map (fun e =>
    let c1 := ca * e.1.2 - sa * e.1.1
    let c2 := ca * e.2.2 - sa * e.2.1
    (if c1 = 0 then [at_ e.1.1 e.1.2 1] else []) ++ (if c2 = 0 then [at_ e.2.1 e.2.2 1] else []) ++
    (if (0 < c1 ∧ c2 < 0) ∨ (c1 < 0 ∧ 0 < c2) then
      [at_ (e.1.1 * (c1 - c2) + c1 * (e.2.1 - e.1.1)) (e.1.2 * (c1 - c2) + c1 * (e.2.2 - e.1.2)) (c1 - c2)] else []))).flatten
  (hits.filter (fun f => decide (0 ≤ f.num))).foldl (fun l f => insertFrac f l) [⟨0, 1⟩]

/-- Is the point at distance h of the ray inside? -/
def rayInside (v : List (Int × Int)) (ca sa : Int) (h : Frac) : Bool :=
  insideFrac v (h.num * ca) (h.num * sa) (h.den * 16384)

/-- The intervals of h in which the ray lies inside, in order (R319). -/
def rayIntervals (v : List (Int × Int)) (ca sa : Int) : List (Frac × Frac) :=
  go (crossings v ca sa) []
where
  /-- Join the stretches whose middle is inside. -/
  go : List Frac → List (Frac × Frac) → List (Frac × Frac)
    | a :: b :: l, acc =>
      let mid := (a.add b).mul ⟨1, 2⟩
      if rayInside v ca sa mid then
        match acc with
        | (x, y) :: t => if y = a then go (b :: l) ((x, b) :: t) else go (b :: l) ((a, b) :: acc)
        | [] => go (b :: l) [(a, b)]
      else go (b :: l) acc
    | _, acc => acc.reverse

/-- Close the smallest gap of a list of intervals. -/
def closeGap (l : List (Frac × Frac)) : List (Frac × Frac) :=
  let gaps := (List.zip l l.tail).map (fun p => p.2.1.sub p.1.2)
  match gaps with
  | [] => l
  | g0 :: gs =>
    let m := gs.foldl (fun m g => if g.lt m then g else m) g0
    match gaps.findIdx? (fun g => g = m) with
    | some i => (l.take i) ++ (match l.drop i with
      | a :: b :: t => (a.1, b.2) :: t
      | t => t)
    | none => l

/-- At most four intervals: the smallest gaps are closed (R319). -/
def fourIntervals : Nat → List (Frac × Frac) → List (Frac × Frac)
  | 0, l => l
  | f + 1, l => if l.length ≤ 4 then l else fourIntervals f (closeGap l)

/-- The supervisor's ray of a column. -/
def State.ray (s : State) (c k : Nat) : Int × Int := let az := azimuth s.fieldW c k; (cos14 az, sin14 az)

/-- Does any ray of a polygon have more than four intervals (INTERVAL_MERGED, R319)? -/
def State.rayMerged (s : State) (v : List (Int × Int)) : Bool :=
  [1600, 1200].any (fun c => (List.range c).any (fun k =>
    let r := s.ray c k
    decide (4 < (rayIntervals v r.1 r.2).length)))

/-- The interval engine counts a candidate (R319). Whether an h within 1 mm of an interval's end counts is left
free: the manual gives the tables no rounding (notes/assumptions 26). -/
def State.engineCount (s : State) (c : Cand) (index : Nat) : State :=
  let (h, _, _, z) := s.place c.channel index c.rangeMm
  let r := s.ray (gaitC s.gait) index
  if s.candCounts c then
    forUpto 16 (fun p s =>
      if s.padOn p && !(s.pad p).verts.isEmpty && s.inBand p z then
        let l := rayIntervals (s.pad p).verts r.1 r.2
        let l := fourIntervals l.length l
        let hf : Frac := ⟨h, 1⟩
        let sure := l.any (fun i => (i.1.add ⟨1, 1⟩).le hf && hf.le (i.2.sub ⟨1, 1⟩))
        let maybe := l.any (fun i => (i.1.sub ⟨1, 1⟩).lt hf && hf.lt (i.2.add ⟨1, 1⟩))
        let (b, s) := if sure then (true, s) else if maybe then let (d, s) := s.draw 1; (d == 1, s) else (false, s)
        if b then s.withSup fun u => { u with cSv := Map.modify 0 u.cSv p (· + 1) } else s
      else s) s
  else s

/-- INTERVAL_ENGINE_CANDIDATE: the engine takes the oldest candidate of its queue (R319, R320). -/
def execIntervalEngineCandidate (t : Nat) (s : State) : Result :=
  if s.ctl.por then .next s else
  let s := s.at_ t
  match s.sup.engineQ with
  | [] => .next s
  | (c, k) :: rest => .next ((s.withSup fun u => { u with engineQ := rest }).engineCount c k)

/-- INTERVAL_MERGED shows whether any Paddock's tables have merged intervals (R319). -/
def State.showMerged (s : State) : State :=
  s.setFld P.SAFETY_STATUS.INTERVAL_MERGED (ofBit (s.sup.pads.any (fun e => e.2.merged)))

/-- The interval tables of a Paddock are computed and BUSY clears (R335). -/
def State.padTables (s : State) (paddock : Nat) : State :=
  let m := s.rayMerged (s.pad paddock).verts
  ((s.withPad paddock fun x => { x with merged := m }).setFld (P.PD_CFG.BUSY.idx paddock) 0).showMerged

/-- A new W moves the rays: the tables of every committed Paddock are computed anew (R319). -/
def State.retable (s : State) : State :=
  let merged := fun (e : Nat × Paddock) => !e.2.verts.isEmpty && s.rayMerged e.2.verts
  (s.withSup fun u => { u with pads := u.pads.map (fun (e : Nat × Paddock) => (e.1, { e.2 with merged := merged e })) }).showMerged

/-- Twice the signed area of a triangle. -/
def tri (a b c : Int × Int) : Int := (b.1 - a.1) * (c.2 - a.2) - (b.2 - a.2) * (c.1 - a.1)

/-- Do two closed segments meet? -/
def segmentsMeet (a b c d : Int × Int) : Bool :=
  let s1 := tri a b c
  let s2 := tri a b d
  let s3 := tri c d a
  let s4 := tri c d b
  let box := fun (p q r : Int × Int) => decide (min p.1 q.1 ≤ r.1) && decide (r.1 ≤ max p.1 q.1) &&
    decide (min p.2 q.2 ≤ r.2) && decide (r.2 ≤ max p.2 q.2)
  (decide ((0 < s1 ∧ s2 < 0) ∨ (s1 < 0 ∧ 0 < s2)) && decide ((0 < s3 ∧ s4 < 0) ∨ (s3 < 0 ∧ 0 < s4))) ||
    (s1 == 0 && box a b c) || (s2 == 0 && box a b d) || (s3 == 0 && box c d a) || (s4 == 0 && box c d b)

/-- R335's geometry checks on staged vertices. -/
def polyOk (v : List (Int × Int)) : Bool :=
  let es := edges v
  let n := v.length
  decide (3 ≤ n) && decide (n ≤ 32) && !es.any (fun e => e.1 == e.2) &&
    (match v with
     | a :: b :: t => t.any (fun c => tri a b c != 0)
     | _ => false) &&
    (List.range n).all (fun i => (List.range n).all (fun j =>
      -- edges i < j that share no vertex
      if i + 1 < j ∧ ¬ (i = 0 ∧ j + 1 = n) then
        match es[i]?, es[j]? with
        | some e, some f => !segmentsMeet e.1 e.2 f.1 f.2
        | _, _ => true
      else true))

/-- The staged vertices of VTX_STAGE (Table 14.19). -/
def State.stagedVerts (s : State) (nv : Nat) : List (Int × Int) :=
  (List.range nv).map (fun i =>
    let w := (s.reg (K.VTX_STAGE + i / 2)).toNat / 2 ^ (32 * (i % 2))
    (sext 16 w, sext 16 (w / 65536)))

end Sys2Proof.Machine
end

