-- ==== Sys2Proof/Machine/Float.lean ====
section
/-! DEFINITION. Binary32 operations on bit patterns (IEEE 754, which 11_sense_front_end.md R264 names): every
operation rounds to nearest, ties to even. -/
namespace Sys2Proof.Machine

/-- The NaN the rules store. -/
def f32NaN : Nat := 0x7FC00000
/-- Is a pattern a NaN? -/
def nanF32 (w : Nat) : Bool := !finF32 w && w % 2 ^ 23 != 0
/-- Is a pattern an infinity? -/
def infF32 (w : Nat) : Bool := !finF32 w && w % 2 ^ 23 == 0
/-- The sign bit. -/
def negF32 (w : Nat) : Bool := bitOf w 31
/-- A sign before a magnitude. -/
def signF32 (neg : Bool) (m : Nat) : Nat := (if neg then 2 ^ 31 else 0) + m
/-- Infinity's magnitude. -/
def infMag : Nat := 255 * 2 ^ 23

/-- Product. -/
def mulF32 (a b : Nat) : Nat :=
  let neg := negF32 a != negF32 b
  if nanF32 a || nanF32 b then f32NaN
  else if infF32 a || infF32 b then
    if a % 2 ^ 31 = 0 ∨ b % 2 ^ 31 = 0 then f32NaN else signF32 neg infMag
  else
    let p := (ofF32 a).mul (ofF32 b)
    signF32 neg (f32Pos p.num.natAbs p.den)

/-- Sum. -/
def addF32 (a b : Nat) : Nat :=
  if nanF32 a || nanF32 b then f32NaN
  else if infF32 a then (if infF32 b && negF32 a != negF32 b then f32NaN else a)
  else if infF32 b then b
  else
    let p := (ofF32 a).add (ofF32 b)
    if p.num = 0 then signF32 (negF32 a && negF32 b) 0 else toF32 p

/-- An integer that binary32 represents, as a pattern. -/
def intF32 (n : Int) : Nat := toF32 ⟨n, 1⟩

/-- A pattern as an extended number: sign of an infinity, or a finite value. -/
def extF32 (w : Nat) : Int × Frac :=
  if infF32 w then (if negF32 w then -1 else 1, ⟨0, 1⟩) else (0, ofF32 w)

/-- Order on extended numbers, exact. -/
def extLt (a b : Int × Frac) : Bool := decide (a.1 < b.1) || (a.1 == 0 && b.1 == 0 && a.2.lt b.2)

end Sys2Proof.Machine
end

