-- ==== Sys2Proof/Machine/FrontEnd.lean ====
section
/-! DEFINITION. The sense front end: decimation, ranges, linearisation, thresholds, impedance checks, excitation and
the FOUT outputs (11_sense_front_end.md). -/
namespace Sys2Proof.Machine

/-- Replace the front end's record. -/
def State.withFe (s : State) (f : FrontEnd → FrontEnd) : State := { s with fe := f s.fe }
/-- A converter. -/
def State.conv (s : State) (v : Nat) : Conv := Map.get {} s.fe.convs v
/-- Change it. -/
def State.withConv (s : State) (v : Nat) (f : Conv → Conv) : State :=
  s.withFe fun x => { x with convs := Map.modify {} x.convs v f }
/-- An excitation source. -/
def State.exc (s : State) (j : Nat) : Exc := Map.get {} s.fe.excs j
/-- Change it. -/
def State.withExc (s : State) (j : Nat) (f : Exc → Exc) : State :=
  s.withFe fun x => { x with excs := Map.modify {} x.excs j f }

/-- The modulator sample next after `t` (R256). -/
def nextSample (t : Nat) : Nat := (t / 50 + 1) * 50
/-- R of a preset (Table 11.4). -/
def presetR (p : Nat) : Nat := 100 * 2 ^ p
/-- K of a preset (Table 11.4). -/
def presetK (p : Nat) : Nat := if p < 2 then 3 else p + 2
/-- Group delay of a preset in ns (Table 11.4): half the window. -/
def presetG (p : Nat) : Nat := presetK p * (presetR p - 1) * 25

/-- A moving sum of `r` terms over a list, its full length. -/
def boxcar (r : Nat) (l : List Int) : List Int :=
  let p := ((l.foldl (fun (a : Int × List Int) x => (a.1 + x, (a.1 + x) :: a.2)) (0, [])).2).reverse
  let total := sumI l
  List.zipWith (· - ·) (p ++ List.replicate (r - 1) total) (List.replicate r 0 ++ p)

/-- The coefficients h of the K-fold cascade of R-tap boxcars (R259). -/
def cascade (r : Nat) : Nat → List Int
  | 0 => [1]
  | k + 1 => boxcar r (cascade r k)

/-- Is the excitation in its second phase at a sample (R252)? -/
def Exc.secondAt (e : Exc) (t : Nat) : Bool :=
  e.second != ((e.swaps.filter (fun x => decide (t < x))).length % 2 == 1)

/-- The grid whose output is due next; grids that ended are passed over. -/
def Conv.due (c : Conv) : List Grid :=
  c.grids.dropWhile (fun g => match g.stop with
    | some e => decide (e ≤ g.t0 + g.n * presetR g.preset * 50)
    | none => false)

/-- Is a time inside an interval of marks? -/
def marked (l : List (Nat × Option Nat)) (t : Nat) : Bool :=
  l.any (fun m => decide (m.1 ≤ t) && (match m.2 with
    | some e => decide (t < e)
    | none => true))

/-- The range in force at a modulator sample (R261). -/
def Conv.rangeAt (c : Conv) (t : Nat) : Nat :=
  match c.ranges.find? (fun e => decide (e.1 ≤ t)) with
  | some e => e.2
  | none => 0

/-- A range change due at a sample; a write replaces an automatic change due at the same one (R261). -/
def State.rangeChange (s : State) (v t r : Nat) (byHost : Bool) : State :=
  let c := s.conv v
  let same := c.ranges.any (fun e => e.1 == t)
  if same ∧ !byHost then s
  else
    let rest := c.ranges.filter (fun e => e.1 != t)
    let keep := rest.takeWhile (fun e => decide (s.now < e.1 + 300000))
    let base := (rest.dropWhile (fun e => decide (s.now < e.1 + 300000))).take 1
    let count := if v = 0 then P.FE_COUNTS.RANGE_CHANGES0 else P.FE_COUNTS.RANGE_CHANGES1
    let before := ({ c with ranges := rest } : Conv).rangeAt t
    -- a write that takes back an automatic change leaves no change
    if same ∧ r = before then (s.withConv v fun c => { c with ranges := rest }).liveWrap count 65535
    else
      let s := s.withConv v fun c => { c with ranges := (t, r) :: keep ++ base }
      if same then s else s.liveWrap count 1

/-- CONV_CFG in force at a modulator sample (R277); `now_` is the word where none is listed for it. -/
def Conv.cfgAt (c : Conv) (t : Nat) (now_ : Word) : Word :=
  ((c.cfgs.find? (fun e => decide (e.1 ≤ t))).map (·.2)).getD now_

/-- The first output boundary later than `t` (R258, R266). -/
def Conv.boundaryAfter (c : Conv) (t : Nat) : Option Nat :=
  (c.grids.filterMap (fun g =>
    let step := 50 * presetR g.preset
    let b := if t < g.t0 then g.t0 else g.t0 + ((t - g.t0) / step + 1) * step
    if g.stop.any (fun e => decide (e ≤ b)) then none else some b)).head?

/-- The coefficient set in force for an output (R266). -/
def Conv.coefsAt (c : Conv) (tn : Nat) : List Nat :=
  match c.coefs.find? (fun e => decide (e.1 ≤ tn)) with
  | some e => e.2
  | none => (List.range 24).map (fun k => if k = 4 then 0x3F800000 else 0)

/-- Horner's scheme from the highest coefficient down (R264). -/
def hornerF32 (x : Nat) : List Nat → Nat
  | [] => 0
  | [c] => c
  | c :: l => addF32 (mulF32 (hornerF32 x l) x) c

/-- The linearised value (R264). -/
def linearise (coefs : List Nat) (range : Nat) (code : Int) (t : Nat) : Nat :=
  let x := mulF32 (intF32 code) (toF32 ⟨5, 2 ^ (25 + 2 * range)⟩)
  hornerF32 x ((List.range 6).map (fun i => hornerF32 t ((coefs.drop (4 * i)).take 4)))

/-- CONV_CFG of a converter in force at a modulator sample (R277). -/
def State.convCfg (s : State) (v t : Nat) : Word := (s.conv v).cfgAt t (s.reg (0x0B00 + v))

/-- A COMMIT whose output boundary has come by `t` copies the staged coefficients as they stand (R266). -/
def State.takeLin (s : State) (v t : Nat) : State :=
  match (s.conv v).commit.bind (s.conv v).boundaryAfter with
  | none => s
  | some b =>
    if b ≤ t then
      let set := (List.range 24).map (fun k => ((s.reg (0x0B20 + 16 * v + k / 2)).toNat / 2 ^ (32 * (k % 2))) % 2 ^ 32)
      s.withConv v fun c => { c with coefs := (b, set) :: c.coefs.take 8, commit := none }
    else s

/-- A change of a value in force from modulator sample `nx` on: what an output still to come can ask for is kept (R277). -/
def keepHistory {α : Type} (now_ nx : Nat) (old new : α) (l : List (Nat × α)) : List (Nat × α) :=
  (nx, new) :: match l.filter (fun e => e.1 != nx) with
    | [] => [(0, old)]
    | l => l.takeWhile (fun e => decide (now_ < e.1 + 300000)) ++ (l.dropWhile (fun e => decide (now_ < e.1 + 300000))).take 1

/-- TCONST in force at a modulator sample (R277). -/
def State.tconstAt (s : State) (t : Nat) : Nat :=
  ((s.fe.tconsts.find? (fun e => decide (e.1 ≤ t))).map (·.2)).getD (s.fld P.LIN_CTRL.TCONST)

/-- The temperature of TSRC as binary32 (R264). Before a die sensor has a mean its value is left free. -/
def State.tsrc (s : State) (v tn : Nat) : Nat × State :=
  let k := wordFld (s.convCfg v tn) P.CONV_CFG.TSRC
  if k ≤ 8 then
    match s.dieTemp k with
    | some m => (toF32 ⟨m, 16⟩, s)
    | none => s.draw 32
  else if k = 9 then
    match (s.conv (1 - v)).lastQ with
    | some (q, _, _) => (q, s)
    | none => (s.tconstAt tn, s)
  else (s.tconstAt tn, s)

/-- One threshold's crossing (R270): a change to crossed sets its flag and posts the notice. -/
def State.crossed (s : State) (v : Nat) (upper : Bool) (q tn : Nat) : State :=
  (s.setFlag (P.FE_FLAGS.THR_SEEN.bitAt (2 * v + ofBit upper))).record 0x0B01 5 false true
    (leBytes 1 v ++ leBytes 1 (ofBit upper) ++ leBytes 4 q ++ leBytes 8 tn)

/-- A finite extended number moved by a hysteresis, exactly. -/
def extShift (q h : Int × Frac) (up : Bool) : Int × Frac :=
  if h.1 ≠ 0 then (if up then 1 else -1, ⟨0, 1⟩) else (q.1, if up then q.2.add h.2 else q.2.sub h.2)

/-- The thresholds at a valid sample (R270). -/
def State.thresholds (s : State) (v q tn : Nat) : State :=
  let x := extF32 q
  let h := extF32 (s.fld (P.THR_CFG.HYST.idx v))
  let hi := extF32 (s.fld (P.THR.HI.idx v))
  let lo := extF32 (s.fld (P.THR.LO.idx v))
  let c := s.conv v
  let hiNew := s.bit (P.THR_CFG.EN_HI.idx v) && (if c.hiCrossed then extLt hi (extShift x h true) else extLt hi x)
  let loNew := s.bit (P.THR_CFG.EN_LO.idx v) && (if c.loCrossed then extLt (extShift x h false) lo else extLt x lo)
  let s := s.withConv v fun c => { c with hiCrossed := hiNew, loCrossed := loNew }
  let s := if loNew && !c.loCrossed then s.crossed v false q tn else s
  if hiNew && !c.hiCrossed then s.crossed v true q tn else s

/-- Automatic ranging at a valid sample (R261, R262). -/
def State.autoRange (s : State) (v k tn : Nat) (code : Int) : State :=
  let run := if code.natAbs < 1572864 then (s.conv v).lowRun + 1 else 0
  let s := s.withConv v fun c => { c with lowRun := run }
  let nx := nextSample s.now
  let r := (s.conv v).rangeAt nx
  let allowed := s.fld P.MIR_CFG.ANG_CONV != v || s.turnWindow tn
  if !s.bit (P.CONV_CFG.AUTO.idx v) ∨ !allowed ∨ (s.conv v).rangeWrite = some nx then s
  else if 7340032 ≤ code.natAbs ∧ 0 < r then s.rangeChange v nx (r - 1) false
  else if k ≤ run ∧ r < 3 then s.rangeChange v nx (r + 1) false
  else s

/-- The code of an output from its modulator bits, newest first (R252, R256, R259). -/
def State.outputCode (s : State) (g : Grid) (tn : Nat) (bits : List Bool) : Int :=
  let r := presetR g.preset
  let k := presetK g.preset
  let sgn := fun (j : Nat) (b : Bool) =>
    let flip : Bool := match g.demod with
      | 1 => (s.exc 0).secondAt (tn - 50 * j)
      | 2 => (s.exc 1).secondAt (tn - 50 * j)
      | _ => false
    if b != flip then (1 : Int) else -1
  let bits := bits.take (g.n * r + 1)
  let acc := sumI (List.zipWith (· * ·) (cascade r k) (List.zipWith sgn (List.range bits.length) bits))
  clampI (-8388608) 8388607 (roundHalfEven (8388608 * acc) (r ^ k))

/-- An output's value as binary32, and whether it is a non-finite one (R263 to R266): an output with a cause already is
a quiet NaN. -/
def State.outputValue (s : State) (v tn range : Nat) (code : Int) (bad : Bool) : (Nat × Bool) × State :=
  let x : Nat × State := if bad then (0, s) else s.tsrc v tn
  let q := if bad then f32NaN else linearise ((s.conv v).coefsAt tn) range code x.1
  let nonfin := !bad && !finF32 q
  ((if nonfin then f32NaN else q, nonfin), if nonfin then x.2.setFlag (P.FE_FLAGS.NONFINITE_SEEN.bitAt v) else x.2)

/-- The result registers of a converter (R269, Table 11.14): each delivered output completes a result. DESIGN CHOICE
(notes/assumptions 49): no computation start of Table 7.7 falls between two outputs. `cause`: the causes of INVALID as CAUSE
numbers them. -/
def State.resultWords (s : State) (v cause preset range tn q : Nat) (rtrans unset : Bool) (code : Int) : State :=
  let hdr := fun (f : FieldRef) => f.idx (2 * v)
  let s := (s.addWrap (hdr P.RES_HDR.SEQ) 1).setFld (hdr P.RES_HDR.STATE) 1
  let s := s.setFld (hdr P.RES_HDR.CAUSE) cause
  let s := (s.setFld (hdr P.RES_HDR.INVALID) (ofBit (cause != 0))).setFld (hdr P.RES_HDR.RANGE_TRANS) (ofBit rtrans)
  let s := (s.setFld (hdr P.RES_HDR.UNSETTLED) (ofBit unset)).setFld (hdr P.RES_HDR.RANGE) range
  let s := (s.setFld (hdr P.RES_HDR.PRESET) preset).setFld (hdr P.RES_HDR.T_N) (tn % 2 ^ 32)
  (s.setFld (hdr P.RES_VAL.Q) q).setFldI (hdr P.RES_VAL.CODE) code

/-- An output of the angle converter is due at the motion engine (R267). -/
def State.toEngine (s : State) (v : Nat) (x : AngIn) : State :=
  if s.fld P.MIR_CFG.ANG_CONV = v then s.withFe fun f => { f with angDue := f.angDue ++ [x] } else s

/-- Has the range changed between `win` and `tn` (R263)? -/
def Conv.rangeMoved (c : Conv) (win tn : Nat) : Bool :=
  c.ranges.dropLast.any (fun e => decide (win < e.1) && decide (e.1 ≤ tn)) ||
    (match c.ranges.getLast? with
     | some e => decide (win < e.1) && decide (e.1 ≤ tn) && e.2 != 0
     | none => false)

/-- CONVERTER_OUTPUT: the next output of a converter reaches the engine, the thresholds and the result registers
2,400 ns after its t_n (R257 to R269). `bits`: its modulator bits from t_n back; those before the grid's first
sample are not used. -/
def execConverterOutput (conv : Nat) (bits : List Bool) (s : State) : Result :=
  if s.ctl.por then .next s else
  if 2 ≤ conv then .next s
  else
    match (s.conv conv).due with
    | [] => .next s
    | g :: rest =>
      let r := presetR g.preset
      let k := presetK g.preset
      let tn := g.t0 + g.n * r * 50
      let win := Nat.max g.t0 (tn - 50 * (k * (r - 1)))
      let s := (s.at_ (tn + 2400)).takeLin conv tn
      let c := s.conv conv
      let code := s.outputCode g tn bits
      let range := c.rangeAt tn
      let over_ := c.flagged.any (fun f => decide (f.1 ≤ tn) && decide (win ≤ f.2))
      let imp := marked c.impMarks tn
      let excBad := (maskBits 2 (wordFld (s.convCfg conv tn) P.CONV_CFG.EXC_USE)).any (fun j => marked (s.exc j).marks tn)
      let rtrans := c.rangeMoved win tn
      let unset := decide (g.n < k)
      match s.outputValue conv tn range code (over_ || imp || excBad) with
      | ((q, nonfin), s) =>
        let s := s.withConv conv fun c => { c with grids := { g with n := g.n + 1 } :: rest }
        let cause := ofBit over_ + 2 * ofBit imp + 4 * ofBit excBad + 8 * ofBit nonfin
        let s := s.resultWords conv cause g.preset range tn q rtrans unset code
        let s := s.toEngine conv ⟨q, tn, presetG g.preset, cause != 0, rtrans || unset⟩
        if cause ≠ 0 ∨ rtrans ∨ unset then .next s
        else
          let s := s.withConv conv fun c => { c with lastQ := some (q, tn + 2400, 50 * r) }
          .next ((s.thresholds conv q tn).autoRange conv k tn code)

/-- ANGLE_SAMPLE: the oldest output of the angle converter reaches the motion engine (R231, R232, R267). -/
def execAngleSample (s : State) : Result :=
  if s.ctl.por then .next s else
  match s.fe.angDue with
  | [] => .next s
  | a :: rest =>
    let s := s.withFe fun x => { x with angDue := rest }
    .next (s.angleArrive (ofF32 a.q) a.tn a.g a.invalid a.skipped)

/-- OVERLOAD_DETECTED: the modulator sample at `t` is flagged; the first of a run is counted and asks for an
impedance check (R257, R272). -/
def execOverloadDetected (t conv : Nat) (s : State) : Result :=
  if s.ctl.por then .next s else
  if t % 50 ≠ 0 ∨ 2 ≤ conv ∨ !s.bit (P.CONV_CFG.EN.idx conv) ∨ !s.domOn 31 then .next s
  else
    let s := s.at_ t
    match (s.conv conv).flagged with
    | (a, b) :: l =>
      if t ≤ b then .next s
      else if t = b + 50 then .next (s.withConv conv fun c => { c with flagged := (a, t) :: l })
      else .next (begins s)
    | [] => .next (begins s)
where
  /-- A run begins. -/
  begins (s : State) : State :=
    let s := s.withConv conv fun c => { c with
      flagged := (t, t) :: c.flagged.filter (fun f => decide (t < f.2 + 300000)),
      impAsk := if s.bit (P.IMP_CFG.IMP_EN.bitAt conv) then some (nextSample t) else c.impAsk }
    let s := s.liveWrap (if conv = 0 then P.FE_COUNTS.OVERLOADS0 else P.FE_COUNTS.OVERLOADS1) 1
    s.setFlag (P.FE_FLAGS.OVERLOAD_SEEN.bitAt conv)

/-- The length of an impedance check in ns, rounded up (R271). -/
def State.impLen (s : State) : Nat :=
  let f := s.fld P.IMP_CFG.IMP_FREQ
  (s.fld P.IMP_CFG.IMP_CYC * 10000000 + f - 1) / f

/-- IMPEDANCE_CHECK_START: at the period, or as an overload asked, the tone goes into both pins in phase (R271, R272). -/
def execImpedanceCheckStart (t conv : Nat) (s : State) : Result :=
  if s.ctl.por then .next s else
  if 2 ≤ conv ∨ !s.bit (P.IMP_CFG.IMP_EN.bitAt conv) ∨ !s.domOn 31 then .next s
  else
    let s := s.at_ t
    let c := s.conv conv
    let asked : Bool := match c.impAsk with
      | some x => decide (x ≤ t)
      | none => false
    let early := c.impFrom.any (fun x => decide (t < x + 1000000 * s.fld P.IMP_CFG.IMP_PERIOD))
    if c.impRun.isSome ∨ (!asked ∧ early) then .next s
    else
      let tone := SenseDrive.tone (s.fld P.IMP_CFG.IMP_AMP) (s.fld P.IMP_CFG.IMP_FREQ) (s.fld P.IMP_CFG.IMP_CYC)
      let s := s.withConv conv fun c => { c with impRun := some (t, t + s.impLen), impFrom := some t, impAsk := none }
      .next ((s.emit (.sense (s.fld (P.CONV_CFG.PPIN.idx conv)) t tone)).emit (.sense (s.fld (P.CONV_CFG.NPIN.idx conv)) t tone))

/-- The verdicts of a check that ended at `e` (R273): on P high, P low, N high, N low, new and shown. -/
def State.impShow (s : State) (conv : Nat) (now_ : List Bool) : State :=
  forUpto 4 (fun i s => s.setFld (P.FE_FLAGS.IMP_FAULT.bitAt (4 * conv + i)) (ofBit (now_.getD i false))) s

/-- What a converter keeps of a check that ended at `e` (R273). `fresh`: some verdict is new; `good`: none is bad. -/
def Conv.impEnd (c : Conv) (e : Nat) (fresh good : Bool) : Conv :=
  { c with
    impRun := none,
    impGood := if fresh then false else c.impGood || good,
    impVerdict := if fresh then some e else c.impVerdict,
    impMarks := if !fresh ∨ marked c.impMarks (nextSample e) then c.impMarks
      else (nextSample e, none) :: c.impMarks.take 3 }

/-- IMPEDANCE_CHECK_END: the impedances of both pins are in, and the verdicts follow (R273). -/
def execImpedanceCheckEnd (conv zp zn : Nat) (s : State) : Result :=
  if s.ctl.por then .next s else
  if 2 ≤ conv then .next s
  else match (s.conv conv).impRun with
    | none => .next s
    | some (_, e) =>
      let zp := capN (2 ^ 32 - 1) zp
      let zn := capN (2 ^ 32 - 1) zn
      let hi := s.fld P.IMP_LIMITS.IMP_HI
      let lo := s.fld P.IMP_LIMITS.IMP_LO
      let now_ := [decide (hi < zp), decide (zp < lo), decide (hi < zn), decide (zn < lo)]
      let fresh := (List.range 4).filter (fun i => now_.getD i false && !s.bit (P.FE_FLAGS.IMP_FAULT.bitAt (4 * conv + i)))
      let s := (((s.at_ e).setFld (P.IMP_RESULT.Z_P.idx conv) zp).setFld (P.IMP_RESULT.Z_N.idx conv) zn).impShow conv now_
      let s := s.withConv conv fun c => c.impEnd e (!fresh.isEmpty) (!now_.any id)
      .next (forEach fresh (fun i s =>
        let pin := s.fld ((if i < 2 then P.CONV_CFG.PPIN else P.CONV_CFG.NPIN).idx conv)
        s.record 0x0B02 5 true true (leBytes 1 conv ++ leBytes 1 pin ++ leBytes 1 (i % 2) ++
          leBytes 4 (if i < 2 then zp else zn))) s)

/-- IMP_CLEAR (R273). -/
def State.impClear (s : State) (v : Nat) : State :=
  let c := s.conv v
  if c.impGood then
    s.withConv v fun c => { c with impGood := false, impMarks := match c.impMarks with
      | (a, none) :: l => (a, some s.now) :: l
      | l => l }
  else s

/-- EXC_COMPLIANCE_FAULT: a current source has been out of compliance for 10 µs (R254). -/
def execExcComplianceFault (t source : Nat) (s : State) : Result :=
  if s.ctl.por then .next s else
  if 2 ≤ source ∨ !s.bit (P.EXC_CFG.EN.idx source) ∨ !s.bit (P.EXC_CFG.MODE.idx source) ∨ !s.domOn 31 then .next s
  else
    let s := s.at_ t
    if marked (s.exc source).marks (nextSample t) then .next s
    else
      let s := s.withExc source fun e => { e with marks := (nextSample t, none) :: e.marks.take 3 }
      .next ((s.setFlag (P.FE_FLAGS.EXC_FAULT.bitAt source)).record 0x0B03 5 false true (leBytes 1 source))

/-- EXC_COMPLIANCE_RESTORED ends the marking (R254). -/
def execExcComplianceRestored (t source : Nat) (s : State) : Result :=
  if s.ctl.por then .next s else
  if 2 ≤ source then .next s
  else
    .next ((s.at_ t).withExc source fun e => { e with marks := match e.marks with
      | (a, none) :: l => (a, some t) :: l
      | l => l })

/-- What an excitation source drives from a modulator sample on: LEVEL x 10 mV between its pins, or LEVEL x 10 µA from the source
pin, the sink pin being analogue ground; the pins are exchanged in its second phase (R252). -/
def State.senseExc (s : State) (j t : Nat) : State :=
  if (s.exc j).since.isNone ∨ !s.domOn 31 then s
  else
    let a := s.fld (P.EXC_CFG.SRC_PIN.idx j)
    let b := s.fld (P.EXC_CFG.SINK_PIN.idx j)
    let n := 10 * s.fld (P.EXC_CFG.LEVEL.idx j)
    let d := if s.bit (P.EXC_CFG.MODE.idx j) then SenseDrive.microamps n else .millivolts n
    let second := (s.exc j).second
    (s.emit (.sense (if second then b else a) t d)).emit (.sense (if second then a else b) t .ground)

/-- Pins are released (R249, R457). -/
def State.sensePins (s : State) (pins : List Nat) (t : Nat) : State := forEach pins (fun p s => s.emit (.sense p t .highZ)) s

/-- Pins that a word of EXC_CFG or BIAS_CFG drove are released; with the domain off none is driven (R249, R457). -/
def State.senseOff (s : State) (pins : List Nat) (t : Nat) : State := if s.domOn 31 then s.sensePins pins t else s

/-- What the enabled bias sources drive: LEVEL x 10 mV each, through their output resistance (R255). -/
def State.senseBias (s : State) (t : Nat) : State :=
  if !s.domOn 31 then s else
  let s := if s.bit P.BIAS_CFG.EN0 then s.emit (.sense (s.fld P.BIAS_CFG.PIN0) t (.millivolts (10 * s.fld P.BIAS_CFG.LEVEL0))) else s
  if s.bit P.BIAS_CFG.EN1 then s.emit (.sense (s.fld P.BIAS_CFG.PIN1) t (.millivolts (10 * s.fld P.BIAS_CFG.LEVEL1))) else s

/-- CHOP_PHASE: the pins of a chopped source exchange roles (R252). -/
def execChopPhase (source : Nat) (s : State) : Result :=
  if s.ctl.por then .next s else
  if 2 ≤ source ∨ !s.bit (P.EXC_CFG.CHOP.idx source) ∨ (s.exc source).since.isNone then .next s
  else
    let e := s.exc source
    let s := s.at_ e.nextSwap
    .next ((s.withExc source fun e => { e with
      second := !e.second, swaps := e.nextSwap :: e.swaps.filter (fun x => decide (e.nextSwap < x + 300000)),
      nextSwap := e.nextSwap + 50 * s.fld (P.EXC_CFG.CHOP_HALF.idx source) }).senseExc source e.nextSwap)

/-- SYNC_RESET: the earliest synchronising reset due takes effect (R251, R258); a converter that does not run at its tick starts no
grid. -/
def execSyncReset (conv : Nat) (s : State) : Result :=
  if s.ctl.por then .next s else
  if 2 ≤ conv ∨ !s.domOn 31 then .next s
  else match (s.conv conv).syncDue with
    | [] => .next s
    | d :: rest =>
      let s := s.at_ d
      let w := s.convCfg conv d
      let g : Grid := { t0 := d, preset := wordFld w P.CONV_CFG.PRESET, demod := wordFld w P.CONV_CFG.DEMOD }
      .next (s.withConv conv fun c => { c with
        syncDue := rest,
        grids := if wordFld w P.CONV_CFG.EN = 0 then c.grids
          else c.grids.map (fun x => if x.stop.isNone then { x with stop := some d } else x) ++ [g] })

/-- Insert a time into an ascending list without repeats. -/
def insertTime (x : Nat) : List Nat → List Nat
  | [] => [x]
  | y :: l => if x < y then x :: y :: l else if x = y then y :: l else y :: insertTime x l

/-- A synchronising reset is due (R258). -/
def State.askSync (s : State) (v t : Nat) : State := s.withConv v fun c => { c with syncDue := insertTime t c.syncDue }

/-- The quantity of a FOUT output, clamped (R274); none where the output is held low (R275). -/
def State.foutX (s : State) (o : Nat) : Option Int :=
  let x0 := s.fldI (P.FOUT_MAP.X0.idx o)
  let x1 := s.fldI (P.FOUT_MAP.X1.idx o)
  let clamp := fun (x : Int) => clampI (min x0 x1) (max x0 x1) x
  match s.fld (P.FOUT_CFG.SRC.idx o) with
  | 1 =>
    let p := s.fld (P.FOUT_CFG.PADDOCK.idx o)
    if !s.bit (P.PD_CFG.EN.idx p) ∨ !s.fe.padKnown then none
    else
      let n := s.fld ((P.PD_NEAR.NEAR.idx (p / 4)).sub (p % 4) 16)
      some (if n = 0xFFFF then max x0 x1 else clamp n)
  | 4 => some (clamp x0)
  | 0 => none
  | k => match (s.conv (k - 2)).lastQ with
    | some (q, t, per) =>
      if s.now ≤ t + 4 * per then let f := ofF32 q; some (clamp (roundHalfEven f.num f.den)) else none
    | none => none

/-- A quotient with the divisor's sign moved to the numerator. -/
def roundQuot (n d : Int) : Nat := (roundHalfEven (if d < 0 then -n else n) d.natAbs).toNat

/-- Period and high time of a value (R274). -/
def State.foutWave (s : State) (o : Nat) (x : Int) : Nat × Nat :=
  let x0 := s.fldI (P.FOUT_MAP.X0.idx o)
  let x1 := s.fldI (P.FOUT_MAP.X1.idx o)
  let o0 : Int := s.fld (P.FOUT_CFG.OUT0.idx o)
  let o1 : Int := s.fld (P.FOUT_CFG.OUT1.idx o)
  let v := o0 * (x1 - x0) + (o1 - o0) * (x - x0)
  if s.fld (P.FOUT_CFG.MODE.idx o) = 0 then
    let p := roundQuot (1000000000 * (x1 - x0)) v
    (p, p / 2)
  else
    let p := roundQuot 1000000000 (s.fld (P.FOUT_CFG.CARRIER.idx o))
    (p, roundQuot (p * v) (1000 * (x1 - x0)))

/-- FOUT_PERIOD_END: the running period ends and the next begins, or the output is held low (R275). -/
def execFoutPeriodEnd (t output : Nat) (s : State) : Result :=
  if s.ctl.por then .next s else
  if 2 ≤ output ∨ !s.domOn 31 then .next s
  else
    let f : Fout := Map.get {} s.fe.fouts output
    let start := match f.run with
      | some (a, p, _) => a + p
      | none => t
    if t < start then .next s
    else
      let s := s.at_ start
      let set := fun (f : Fout) (s : State) => s.withFe fun x => { x with fouts := Map.set {} x.fouts output f }
      match s.foutX output with
      | none => .next ((set {} s).emit (.pin "FOUT" output start 0))
      | some x =>
        let (p, h) := s.foutWave output x
        let s := (set ⟨some (start, p, h)⟩ s).emit (.pin "FOUT" output start (if h = 0 then 0 else 1))
        .next (if h = 0 ∨ p ≤ h then s else s.emit (.pin "FOUT" output (start + h) 0))

/-- The driven pins of a word each of EXC_CFG 0, EXC_CFG 1 and BIAS_CFG (R250). -/
def drivers (e0 e1 b : Word) : List Nat :=
  let ex := fun (w : Word) => if wordFld w P.EXC_CFG.EN = 1 then [wordFld w P.EXC_CFG.SRC_PIN, wordFld w P.EXC_CFG.SINK_PIN] else []
  ex e0 ++ ex e1 ++ (if wordFld b P.BIAS_CFG.EN0 = 1 then [wordFld b P.BIAS_CFG.PIN0] else []) ++
    (if wordFld b P.BIAS_CFG.EN1 = 1 then [wordFld b P.BIAS_CFG.PIN1] else [])

/-- Has a list a repeated member? -/
def hasRepeat (l : List Nat) : Bool := decide (l.eraseDups.length < l.length)

/-- Does a demodulation fit its source's chopping (R253)? -/
def demodFits (conv e0 e1 : Word) : Bool :=
  let r := presetR (wordFld conv P.CONV_CFG.PRESET)
  match wordFld conv P.CONV_CFG.DEMOD with
  | 1 => r % (2 * wordFld e0 P.EXC_CFG.CHOP_HALF) == 0
  | 2 => r % (2 * wordFld e1 P.EXC_CFG.CHOP_HALF) == 0
  | _ => true

/-- Is a write to group 0x0B refused by the rules between fields (R250, R251, R253, R271, R277)? `cov`: the bits
covered; `new`: the word it would leave. -/
def State.feRefused (s : State) (key : Nat) (cov new : Word) : Bool :=
  let w := fun (k : Nat) => if k = key then new else s.reg k
  let cv := fun (f : FieldRef) => decide (wordFld cov f ≠ 0)
  let old := s.reg key
  if key = 0x0B00 ∨ key = 0x0B01 then
    let v := key - 0x0B00
    let free := [P.CONV_CFG.RANGE, P.CONV_CFG.AUTO, P.CONV_CFG.TSRC, P.CONV_CFG.EXC_USE]
    let strip := fun (x : Word) => free.foldl (fun a f => wordSet a f 0) x
    decide (wordFld new P.CONV_CFG.PPIN = wordFld new P.CONV_CFG.NPIN) || !demodFits new (s.reg 0x0B02) (s.reg 0x0B03) ||
      (s.mirSt != 0 && s.fld P.MIR_CFG.ANG_CONV == v && strip old != strip new)
  else if key = 0x0B02 ∨ key = 0x0B03 then
    let lv := wordFld new P.EXC_CFG.LEVEL
    let cur := wordFld new P.EXC_CFG.MODE = 1
    hasRepeat (drivers (w 0x0B02) (w 0x0B03) (w 0x0B04)) ||
      !demodFits (s.reg 0x0B00) (w 0x0B02) (w 0x0B03) || !demodFits (s.reg 0x0B01) (w 0x0B02) (w 0x0B03) ||
      (cv P.EXC_CFG.LEVEL && (if cur then decide (lv < 1 ∨ 250 < lv) else decide (lv < 50 ∨ 300 < lv)))
  else if key = 0x0B04 then hasRepeat (drivers (w 0x0B02) (w 0x0B03) (w 0x0B04))
  else if key = 0x0B08 ∨ key = 0x0B09 then
    let hi := wordFld new P.THR.HI
    let lo := wordFld new P.THR.LO
    nanF32 hi || nanF32 lo || extLt (extF32 hi) (extF32 lo)
  else if key = 0x0B0A ∨ key = 0x0B0B then
    let h := wordFld new P.THR_CFG.HYST
    nanF32 h || extLt (extF32 h) (0, ⟨0, 1⟩)
  else if key = 0x0B0C then
    decide (wordFld new P.IMP_CFG.IMP_PERIOD * wordFld new P.IMP_CFG.IMP_FREQ < 20 * wordFld new P.IMP_CFG.IMP_CYC)
  else if key = 0x0B0D then decide (wordFld new P.IMP_LIMITS.IMP_HI ≤ wordFld new P.IMP_LIMITS.IMP_LO)
  else if key = 0x0B2C then nanF32 (wordFld new P.LIN_CTRL.TCONST)
  else if key = 0x0B40 ∨ key = 0x0B41 then
    let bad := fun (f : FieldRef) => cv f && (let x := wordFld new f
      if wordFld new P.FOUT_CFG.MODE = 0 then decide (x < 100 ∨ 10000 < x) else decide (x < 50 ∨ 950 < x))
    bad P.FOUT_CFG.OUT0 || bad P.FOUT_CFG.OUT1
  else if key = 0x0B42 ∨ key = 0x0B43 then decide (wordFld new P.FOUT_MAP.X0 = wordFld new P.FOUT_MAP.X1)
  else false

/-- A converter's CONV_CFG has been written (R251, R258, R261). -/
def State.convWritten (s : State) (v : Nat) (cov old : Word) : State :=
  let new := s.reg (0x0B00 + v)
  let ch := fun (f : FieldRef) => decide (wordFld old f ≠ wordFld new f)
  let nx := nextSample s.now
  let on := wordFld new P.CONV_CFG.EN = 1
  let s := s.withConv v fun c => { c with
    cfgs := keepHistory s.now nx old new c.cfgs }
  let s := if ch P.CONV_CFG.EN then
      if on then s.askSync v nx
      else s.withConv v fun c => { c with grids := c.grids.map (fun x => if x.stop.isNone then { x with stop := some nx } else x) }
    else if on ∧ (ch P.CONV_CFG.PPIN ∨ ch P.CONV_CFG.NPIN ∨ ch P.CONV_CFG.PRESET ∨ ch P.CONV_CFG.DEMOD) then s.askSync v nx
    else s
  let r := wordFld new P.CONV_CFG.RANGE
  if wordFld cov P.CONV_CFG.RANGE = 0 then s
  else
    let s := s.withConv v fun c => { c with rangeWrite := some nx }
    if r ≠ (s.conv v).rangeAt nx then s.rangeChange v nx r true else s

/-- The next exchange of a running chopped source from modulator sample `nx` on: a whole number of CHOP_HALF after its enable
(R252). -/
def nextChop (since half nx : Nat) : Nat := since + 50 * half * Nat.max 1 ((nx - since + 50 * half - 1) / (50 * half))

/-- A source starts at modulator sample `nx`, in its first phase (R252); its phases before count on for the outputs whose window they
are in. -/
def State.excStart (s : State) (j nx : Nat) : State :=
  (s.withExc j fun e => { e with
    since := some nx, second := false, swaps := if e.second then nx :: e.swaps else e.swaps
    nextSwap := nx + 50 * s.fld (P.EXC_CFG.CHOP_HALF.idx j) }).senseExc j nx

/-- An excitation source's EXC_CFG has been written (R252, R277). DESIGN CHOICE (notes/assumptions 49): CHOP written on a running
source exchanges the pins at the coming multiples of CHOP_HALF since its enable, and CHOP = 0 brings it back to its first phase. -/
def State.excWritten (s : State) (j : Nat) (old : Word) : State :=
  let nx := nextSample s.now
  let was := wordFld old P.EXC_CFG.EN = 1
  let half := s.fld (P.EXC_CFG.CHOP_HALF.idx j)
  let s := if was then s.senseOff [wordFld old P.EXC_CFG.SRC_PIN, wordFld old P.EXC_CFG.SINK_PIN] nx else s
  if !s.bit (P.EXC_CFG.EN.idx j) ∨ !s.domOn 31 then s.withExc j fun e => { e with since := none }
  else if !was then s.excStart j nx
  else
    (s.withExc j fun e =>
      let back := e.second && !s.bit (P.EXC_CFG.CHOP.idx j)
      { e with second := e.second && !back, swaps := if back then nx :: e.swaps else e.swaps,
               nextSwap := nextChop (e.since.getD nx) half nx }).senseExc j nx

/-- The effects of a write to group 0x0B beyond the stored value (R252, R258, R266, R270, R273). -/
def State.feWritten (s : State) (key : Nat) (cov old new : Word) : State :=
  if key = 0x0B00 ∨ key = 0x0B01 then s.convWritten (key - 0x0B00) cov old
  else if key = 0x0B02 ∨ key = 0x0B03 then s.excWritten (key - 0x0B02) old
  else if key = 0x0B04 then
    let pins := (if wordFld old P.BIAS_CFG.EN0 = 1 then [wordFld old P.BIAS_CFG.PIN0] else []) ++
      (if wordFld old P.BIAS_CFG.EN1 = 1 then [wordFld old P.BIAS_CFG.PIN1] else [])
    (s.senseOff pins (nextSample s.now)).senseBias (nextSample s.now)
  else if (0x0B20 ≤ key ∧ key ≤ 0x0B2B) ∨ (0x0B30 ≤ key ∧ key ≤ 0x0B3B) then
    -- a boundary that has passed copied the set as it was before this write
    ((s.setReg key old).takeLin ((key - 0x0B20) / 16) s.now).setReg key (s.reg key)
  else if key = 0x0B05 then
    let s := forEach (maskBits 2 (wordFld new P.FE_CTRL.SYNC)) (fun v s => s.askSync v ((s.now + 1000 + 49) / 50 * 50)) s
    forEach (maskBits 2 (wordFld new P.FE_CTRL.IMP_CLEAR)) (fun v s => s.impClear v) s
  else if key = 0x0B0A ∨ key = 0x0B0B then
    let v := key - 0x0B0A
    s.withConv v fun c => { c with hiCrossed := c.hiCrossed && s.bit (P.THR_CFG.EN_HI.idx v),
                                   loCrossed := c.loCrossed && s.bit (P.THR_CFG.EN_LO.idx v) }
  else if key = 0x0B2C then
    let s := s.withFe fun x => { x with
      tconsts := keepHistory s.now (nextSample s.now) (wordFld old P.LIN_CTRL.TCONST) (wordFld new P.LIN_CTRL.TCONST) x.tconsts }
    forEach (maskBits 2 (wordFld new P.LIN_CTRL.COMMIT)) (fun v s =>
      (s.takeLin v s.now).withConv v fun c => { c with commit := some s.now }) s
  else s

/-- FOUT outputs are low from now on; a fall that an output's running period still had to come is replaced by it (R457). -/
def State.foutsLow (s : State) : State :=
  let s := { s with out := s.out.filter (fun o => match o with
    | .pin n _ t _ => n != "FOUT" || decide (t ≤ s.now)
    | _ => true) }
  (forEach (s.fe.fouts.map (·.1)) (fun o s => s.emit (.pin "FOUT" o s.now 0)) s).withFe fun x => { x with fouts := [] }

/-- Impedance checks under way end without a verdict (R457). -/
def State.impStop (s : State) : State :=
  forUpto 2 (fun v s => if (s.conv v).impRun.isNone then s
    else (s.sensePins [s.fld (P.CONV_CFG.PPIN.idx v), s.fld (P.CONV_CFG.NPIN.idx v)] s.now).withConv v fun c =>
      { c with impRun := none }) s

/-- The front-end domain switches off: converters and sources stop, FOUT is low, and no SP pin is driven (R457). -/
def State.feOff (s : State) : State :=
  let nx := nextSample s.now
  ((s.sensePins (drivers (s.reg 0x0B02) (s.reg 0x0B03) (s.reg 0x0B04)) s.now).impStop.foutsLow).withFe fun x => { x with
    convs := x.convs.map (fun (e : Nat × Conv) => (e.1, { e.2 with
      syncDue := [], grids := e.2.grids.map (fun (g : Grid) => if g.stop.isNone then { g with stop := some nx } else g) }))
    excs := x.excs.map (fun (e : Nat × Exc) => (e.1, { e.2 with since := none })) }

/-- The front-end domain switches on: enabled converters and sources start as at a write of EN (R251, R252, R457). -/
def State.feOn (s : State) : State :=
  let nx := nextSample s.now
  let s := forUpto 2 (fun v s => if s.bit (P.CONV_CFG.EN.idx v) then s.askSync v nx else s) s
  (forUpto 2 (fun j s => if s.bit (P.EXC_CFG.EN.idx j) then s.excStart j nx else s) s).senseBias nx

end Sys2Proof.Machine
end

