-- ==== Sys2Proof/Machine/Bridle.lean ====
section
/-! DEFINITION. Bridle frames: the CRC, the receive checks, the sources and the host window (15_bridle_frames.md). -/
namespace Sys2Proof.Machine

/-- Replace the Bridle record. -/
def State.withBridle (s : State) (f : Bridle → Bridle) : State := { s with bridle := f s.bridle }
/-- A source. -/
def State.src (s : State) (e : Nat) : Source := Map.get {} s.bridle.srcs e
/-- Change a source. -/
def State.withSrc (s : State) (e : Nat) (f : Source → Source) : State :=
  s.withBridle fun b => { b with srcs := Map.modify {} b.srcs e f }

/-- One bit of R338. -/
def bridleBit (c : Nat) : Nat :=
  if bitOf c 31 then (2 * c % 2 ^ 32) ^^^ 0xF4ACFB13 else 2 * c % 2 ^ 32

/-- The Bridle CRC-32 of a byte string (R338). -/
def bridleCrc (l : List Byte) : Nat :=
  (l.foldl (fun c b => forUpto 8 (fun _ c => bridleBit c) (c ^^^ (b.toNat * 2 ^ 24))) 0xFFFFFFFF) ^^^ 0xFFFFFFFF

/-- A frame of the layout of Table 15.1. -/
def bridleFrame (src dst seq time kind : Nat) (payload : List Byte) : List Byte :=
  let h := leBytes 4 src ++ leBytes 4 dst ++ leBytes 2 seq ++ leBytes 4 time ++ leBytes 1 kind ++
    leBytes 1 payload.length ++ padTo 12 payload
  h ++ leBytes 4 (bridleCrc h)

/-- Own time in a frame (R340). -/
def State.bridleTime (s : State) : Nat := s.now / 1000 % 2 ^ 32
/-- The own identity (R337). -/
def State.brId (s : State) : Nat := s.forceFld P.BR_CFG.BR_ID
/-- STATE of a source: 0 unsynchronised, 1 LIVE, 2 LOST, 3 recovering. -/
def State.srcState (s : State) (e : Nat) : Nat := s.fld (P.BR_SRC.STATE.idx e)

/-- A frame fails a check of Table 15.3. -/
def State.rxFail (s : State) (counter : FieldRef) : State := (s.liveWrap counter 1).setFlag P.BR_FLAGS.RX_ERR_SEEN

/-- The enabled source a frame comes from (check 3). -/
def State.srcOf (s : State) (id : Nat) (hitch : Bool) : Option Nat :=
  if id = 0 then none
  else (List.range 16).find? (fun e => s.forceBit (P.BR_SRC.EN.idx e) && s.forceFld (P.BR_SRC.ID.idx e) == id &&
    (decide (0 < e) && s.forceBit (P.BR_SRC.PATH.idx e)) == hitch)

/-- Check 4: the kinds of Table 15.2, LEN and the unused payload. -/
def kindOk (e : Nat) (f : List Byte) : Bool :=
  let len := frameField f 15 1
  let kind := frameField f 14 1
  (if e = 0 then kind == 2 && decide (len ≤ 12) else kind == 1 && len == 12) &&
    ((f.drop (16 + len)).take (12 - len)).all (fun b => b == 0)

/-- A frame of a source is accepted (R342, R343). -/
def State.srcAccept (s : State) (e seq time : Nat) : State :=
  let n := (s.src e).recover + 1
  let live := s.srcState e ≤ 1 ∨ s.forceFld P.BR_CFG.RECOVER_N ≤ n
  let s := s.withSrc e fun x => { x with
    synced := true, seq := seq, time := some time, timer := s.now, expired := false, recover := if live then 0 else n }
  s.setFld (P.BR_SRC.STATE.idx e) (if live then 1 else 3)

/-- A frame of a source is discarded: accepted frames are no longer consecutive. -/
def State.srcDiscard (s : State) (e : Nat) (counter : FieldRef) : State :=
  (s.withSrc e fun x => { x with recover := 0 }).rxFail counter

/-- The receive checks of Table 15.3 in order (R341, R342). `hitch`: it arrives on a Hitch link. -/
def State.bridleReceive (s : State) (hitch : Bool) (f : List Byte) : State :=
  let me := s.brId
  let src := frameField f 0 4
  let dst := frameField f 4 4
  let time := frameField f 10 4
  if frameField f 28 4 ≠ bridleCrc (f.take 28) then s.rxFail P.BR_RX_COUNTS.CRC_ERR
  else if ¬ (dst = me ∨ (hitch ∧ dst = 0xFFFFFFFF)) ∨ src = me then s.rxFail P.BR_RX_COUNTS.ADDR_ERR
  else match s.srcOf src hitch with
  | none => s.rxFail P.BR_RX_COUNTS.ADDR_ERR
  | some e =>
    let x := s.src e
    let age := sext 32 (s.bridleTime + 2 ^ 32 - time)
    let late := x.time.any (fun l => decide (sext 32 (time + 2 ^ 32 - l) ≤ 0))
    if !kindOk e f then s.srcDiscard e P.BR_RX_COUNTS.FORMAT_ERR
    else if late ∨ (s.forceBit (P.BR_SRC.TIMED.idx e) ∧ (age < -100 ∨ 1000 * (s.forceFld P.BR_CFG.AGE_MS : Int) < age)) then
      s.srcDiscard e P.BR_RX_COUNTS.TIME_ERR
    else
      let seq := frameField f 8 2
      let d := (seq + 2 ^ 16 - x.seq) % 2 ^ 16
      if !x.synced then s.srcAccept e seq time
      else if d = 0 then s.srcDiscard e P.BR_TX_COUNTS.DUP
      else if d ≤ s.forceFld P.BR_CFG.SEQ_WIN then (s.liveWrap P.BR_TX_COUNTS.LOST_FRAMES (d - 1)).srcAccept e seq time
      else s.srcDiscard e P.BR_TX_COUNTS.SEQ_ERR

/-- The receive slots after a write of bytes from an offset on; what lies past the 16 slots is ignored (Table 15.6). -/
def rxWrite (rx : SMap Byte) (at_ : Nat) (bytes : List Byte) : SMap Byte :=
  (bytes.foldl (fun (a : SMap Byte × Nat) x => (if a.2 < 512 then Map.set 0 a.1 a.2 x else a.1, a.2 + 1)) (rx, at_)).1

/-- The 32 bytes of a receive slot. -/
def State.rxSlot (s : State) (i : Nat) : List Byte := (List.range 32).map (fun j => Map.get 0 s.bridle.rx (32 * i + j))

/-- BRIDLE_FRAME_RECEIVE: the host writes bytes into the receive slots of Function 1, from byte `off` of slot `slot` on; each
slot whose bytes 28 to 31 the write covers is taken as a frame, in order (R341, R349). -/
def execBridleFrameReceive (t slot off : Nat) (bytes : List Byte) (s : State) : Result :=
  if s.ctl.por then .next s else
  if !s.linkUp then .next s
  else
    let a := 32 * slot + off
    let s := (s.at_ t).withBridle fun b => { b with rx := rxWrite b.rx a bytes }
    let taken := (List.range 16).filter (fun i => decide (a ≤ 32 * i + 28) && decide (32 * i + 32 ≤ a + bytes.length))
    .next (forEach taken (fun i s => s.bridleReceive false (s.rxSlot i)) s)

/-- A read of eight bytes of Function 1's BAR0 (Table 15.6): the copy of the last STATUS frame, and 0 elsewhere. -/
def State.bar1Word (s : State) (offset : Nat) : Nat :=
  if 0x1000 ≤ offset ∧ offset < 0x1020 then leNat ((s.bridle.last.drop (offset - 0x1000)).take 8) else 0

/-- Has the expectation of an enabled source passed (R343)? -/
def State.srcOver (s : State) (e : Nat) : Bool :=
  s.forceBit (P.BR_SRC.EN.idx e) && s.srcState e != 2 &&
    decide ((s.src e).timer + s.forceFld (P.BR_SRC.WDOG_MS.idx e) * 1000000 ≤ s.now)

/-- A source's expectation is tested at a task tick (R343). -/
def State.srcExpire (s : State) (e : Nat) : State :=
  let x := s.src e
  if s.srcOver e || (s.forceBit (P.BR_SRC.EN.idx e) && s.srcState e != 2 && x.expired) then
    let s := s.withSrc e fun x => { x with synced := false, time := none, recover := 0, expired := false }
    let s := (s.setFld (P.BR_SRC.STATE.idx e) 2).setFlag (P.BR_FLAGS.SRC_LOST_SEEN.bitAt e)
    (s.record 0x0F01 9 true true (leBytes 1 e ++ leBytes 2 x.seq ++ leBytes 4 (s.forceFld (P.BR_SRC.ID.idx e)))).msix 1 1
  else s

/-- SOURCE_EXPECTATION_EXPIRY: the expectation of an entry has passed; the first task tick at or after that time makes it
LOST, unless a frame of it is accepted before (R343, R344). -/
def execSourceExpectationExpiry (t entry : Nat) (s : State) : Result :=
  if s.ctl.por then .next s else
  let s := s.at_ t
  if 16 ≤ entry ∨ !s.srcOver entry then .next s
  else .next (s.withSrc entry fun x => { x with expired := true })

/-- A source entry starts anew, unsynchronised, its time expectation running from `t` (R342, R343). -/
def State.srcFresh (s : State) (e t : Nat) : State :=
  (s.withSrc e fun _ => { timer := t }).setFld (P.BR_SRC.STATE.idx e) 0

/-- A source becomes unsynchronised; its time expectation runs on (R342, R343). DEDUCED (notes/assumptions 28): a source that
is LOST or recovering is LOST after it, since only accepted frames and the write that enables an entry end that. -/
def State.srcUnsync (s : State) (e : Nat) : State :=
  (s.withSrc e fun x => { x with synced := false, time := none, recover := 0 }).setFld (P.BR_SRC.STATE.idx e)
    (if 2 ≤ s.srcState e then 2 else 0)

/-- The writes of a source entry come into force (R342, R343): one that enabled it starts it anew. -/
def State.srcTake (s : State) (e : Nat) : State :=
  let s := s.takeForce (K.BR_SRC + e)
  let x := s.src e
  if !x.written then s
  else if !s.forceBit (P.BR_SRC.EN.idx e) then s.srcFresh e x.timer
  else match x.enabledAt with
    | some t => s.srcFresh e t
    | none => (s.withSrc e fun x => { x with written := false }).srcUnsync e

/-- BR_CFG, BR_WIN and BR_SRC come into force at a task tick (R350). -/
def State.bridleTake (s : State) : State :=
  let s := (s.takeForce K.BR_CFG).takeForce K.BR_WIN
  forUpto 16 (fun e s => s.srcTake e) s

/-- Is the device one with a LOST or recovering source (Table 21.4, class 9; HOST_LOST, PEER_LOST)? -/
def State.srcLost (s : State) (e : Nat) : Bool := s.forceBit (P.BR_SRC.EN.idx e) && decide (2 ≤ s.srcState e)

/-- The payload of a STATUS frame (Table 15.5). -/
def State.statusPayload (s : State) : List Byte :=
  let outputs := s.fld P.SAFETY_STATUS.OUT_ON + 4 * s.fld P.SAFETY_STATUS.OUT_FAULT +
    16 * s.fld P.SAFETY_STATUS.DEGRADED_COV + 32 * s.fld P.SAFETY_STATUS.INTERVAL_MERGED +
    64 * ofBit (s.srcLost 0) + 128 * ofBit ((List.range 15).any (fun e => s.srcLost (e + 1)))
  leBytes 8 (s.reg K.PD_STATE).toNat ++ leBytes 1 outputs ++ leBytes 1 (s.fld P.SAFETY_STATUS.SAFE_CAUSE) ++
    leBytes 1 (s.fld P.SAFETY_STATUS.IN_VAL) ++ leBytes 1 (s.fld P.SAFETY_STATUS.IN_FAULT)

/-- May frames for the host be written now (R348, R396)? -/
def State.windowOpen (s : State) : Bool :=
  s.forceBit P.BR_WIN.WIN_EN && s.forceBit (P.BR_SRC.EN.idx 0) && s.forceFld (P.BR_SRC.ID.idx 0) != 0 && s.host.bme1 &&
    s.bit P.LINK_CTRL.LINK_UP

/-- A STATUS frame for the host: formed, counted, and written to the window where it may be (R346, R348). -/
def State.statusToHost (s : State) (payload : List Byte) : State :=
  let seq := s.bridle.seqHost
  let f := bridleFrame s.brId (s.forceFld (P.BR_SRC.ID.idx 0)) seq s.bridleTime 1 payload
  let s := s.withBridle fun b => { b with seqHost := wrapAdd 16 b.seqHost 1, last := f, lastAt := s.now, said := payload }
  let s := s.liveWrap P.BR_TX_COUNTS.TX_FRAMES 1
  if s.windowOpen then
    let addr := 4096 * s.forceFld P.BR_WIN.BASE + 32 * (seq % 2 ^ s.forceFld P.BR_WIN.LOG2_SLOTS)
    if s.host.retraining then s.withBridle fun b => { b with waiting := b.waiting ++ [(addr, f)] }
    else (s.emit (.bridle addr f)).msix 1 0
  else s

/-- A STATUS frame for the team: the frame and the state (R339, R346). -/
def State.statusToTeam (s : State) (payload : List Byte) : List Byte × State :=
  let f := bridleFrame s.brId 0xFFFFFFFF s.bridle.seqTeam s.bridleTime 1 payload
  (f, (s.withBridle fun b => { b with seqTeam := wrapAdd 16 b.seqTeam 1 }).liveWrap P.BR_TX_COUNTS.TX_FRAMES 1)

/-- Is a STATUS frame due at this task tick: the payload changed, or the next tick could come more than 20 ms after
the last frame (R346)? -/
def State.statusDue (s : State) (payload : List Byte) : Bool :=
  decide (payload ≠ s.bridle.said) || decide (20000000 < s.now + 1050000 - s.bridle.lastAt)

/-- Is a write of group 0x0F refused by the rules of R337 and R350 beside the ranges? -/
def bridleRefused (key : Nat) (cov new : Word) : Bool :=
  let badId := fun (i : Nat) => decide (i = 0 ∨ i = 0xFFFFFFFF)
  if key = K.BR_CFG then wordFld cov P.BR_CFG.BR_ID ≠ 0 && badId (wordFld new P.BR_CFG.BR_ID)
  else if K.BR_SRC ≤ key ∧ key < K.BR_SRC + 16 then
    (wordFld cov P.BR_SRC.ID ≠ 0 && (badId (wordFld new P.BR_SRC.ID) ||
      wordFld new P.BR_SRC.AUTO == 1)) ||
    (key == K.BR_SRC && wordFld new P.BR_SRC.TIMED == 1)
  else false

/-- A source entry has been written (R342, R343): it acts at the next task tick. `was`: EN before the write. -/
def State.srcWritten (s : State) (e : Nat) (was : Bool) : State :=
  let enables := !was && s.bit (P.BR_SRC.EN.idx e)
  s.withSrc e fun x => { x with written := true, enabledAt := if enables then some s.now else x.enabledAt }

end Sys2Proof.Machine
end

