-- ==== Sys2Proof/Machine/Team.lean ====
section
/-! DEFINITION. The vehicle team: the table, merges, partitions, slots, epochs (16_hitch_links.md R368 to R375). -/
namespace Sys2Proof.Machine

/-- The team table as this device holds it; alone, it holds slot 0 of its own (R368). -/
def State.table (s : State) : SMap TeamSlot :=
  if s.hitch.slots.isEmpty then [(0, { devId := s.devId, parent := 0, state := 1, prio := s.fld P.HITCH_CTRL.LEAD_PRIO, brId := s.brId, gait := s.gait })]
  else s.hitch.slots

/-- The slots in use. -/
def inUse (t : SMap TeamSlot) : SMap TeamSlot := t.filter (fun e => e.2.state = 1)
/-- The slot of a device. -/
def slotOf (t : SMap TeamSlot) (id : Nat) : Option Nat := (t.find? (fun e => e.2.devId = id)).map (·.1)
/-- Links between a slot and the lead. -/
def slotDepth (t : SMap TeamSlot) : Nat → Nat → Nat
  | 0, _ => 0
  | f + 1, n => if n = 0 then 0 else match Map.find? t n with
    | some x => 1 + slotDepth t f x.parent
    | none => 0
/-- Is slot `a` at or below slot `b` in the tree? -/
def below (t : SMap TeamSlot) : Nat → Nat → Nat → Bool
  | 0, a, b => a == b
  | f + 1, a, b => a == b || (a != 0 && (match Map.find? t a with
    | some x => below t f x.parent b
    | none => false))
/-- Neighbours of a slot in the tree. -/
def neighbours (t : SMap TeamSlot) (n : Nat) : List Nat :=
  (inUse t).filterMap (fun e => if e.1 = n then none
    else if e.1 ≠ 0 ∧ e.2.parent = n then some e.1
    else if n ≠ 0 ∧ ((Map.find? t n).map (·.parent)) = some e.1 then some e.1 else none)
/-- The greatest distance of any device from slot `n`: rings of the tree reached step by step. -/
def reach (t : SMap TeamSlot) : Nat → List Nat → List Nat → Nat
  | 0, _, _ => 0
  | f + 1, seen, ring =>
    let next := ((ring.map (neighbours t)).flatten.filter (fun n => !seen.contains n)).eraseDups
    if next.isEmpty then 0 else 1 + reach t f (seen ++ next) next
/-- Is the lead (prio, id) of greater rank than the other (R369)? -/
def outranks (p1 id1 p2 id2 : Nat) : Bool := decide (p2 < p1) || (p1 == p2 && decide (id1 < id2))

/-- The team parameters and the source table follow the table held (R373, Tables 16.15, 16.16). -/
def State.showTeam (s : State) : State :=
  let t := s.table
  let n := (inUse t).length
  let own := (slotOf t s.devId).getD 0
  let role := if s.isMember then 2 else if 1 < n then 1 else if s.bit P.HITCH_CTRL.TEAM_EN then 0 else 3
  let s := ((s.setFld P.TEAM_STATUS.ROLE role).setFld P.TEAM_STATUS.TEAM_SIZE n).setFld P.TEAM_STATUS.OWN_SLOT own
  let s := s.setFld P.TEAM_STATUS.HOPS (slotDepth t 16 own)
  let s := s.setFld P.TEAM_STATUS.PARENT_LANE (match (s.linksOf .parent).head? with
    | some k => s.sendLane k
    | none => 0)
  let s := forUpto 16 (fun i s => s.setFld (P.SLOT_ID.DEV_ID.idx i) (match Map.find? t i with
    | some x => x.devId
    | none => 0)) s
  let s := s.setFld P.SLOT_STATE.STATE (sumN (t.map (fun e => e.2.state * 4 ^ e.1)))
  forEach (s.hitch.links.filter (fun e => e.2.session.isSome)) (fun e s =>
    forEach (s.linkLanes e.1) (fun l s => s.setFld (P.LANE_STATUS.PEER_SLOT.idx l) ((slotOf t e.2.peerId).getD 0)) s) s

/-- The identities the table gives for other devices in the team. -/
def State.teamSources (s : State) : List Nat :=
  ((inUse s.table).filter (fun e => e.2.devId ≠ s.devId)).map (fun e => e.2.brId)

/-- Put a word into both planes of a source entry. -/
def State.setSrc (s : State) (e : Nat) (w : Word) : State := (s.setReg (K.BR_SRC + e) w).takeForce (K.BR_SRC + e)

/-- The source table is filled from the team table (R373): departed members leave, new ones take free entries. -/
def State.fillSources (s : State) : State :=
  let ids := s.teamSources
  let peers := (List.range 15).map (· + 1)
  let s := forEach peers (fun e s =>
    if s.forceBit (P.BR_SRC.AUTO.idx e) ∧ !ids.contains (s.forceFld (P.BR_SRC.ID.idx e)) then
      (s.setSrc e (BitVec.ofNat 64 (resetWord (K.BR_SRC + e)))).withSrc e (fun _ => {})
    else s) s
  forEach ids (fun id s =>
    if peers.any (fun e => s.forceBit (P.BR_SRC.AUTO.idx e) && s.forceFld (P.BR_SRC.ID.idx e) == id) then s
    else match peers.find? (fun e => !s.bit (P.BR_SRC.EN.idx e) && s.fld (P.BR_SRC.ID.idx e) == 0) with
      | none => s
      | some e =>
        let w := wordSet (wordSet (wordSet (wordSet (s.reg (K.BR_SRC + e)) P.BR_SRC.ID id) P.BR_SRC.AUTO 1) P.BR_SRC.EN 1) P.BR_SRC.PATH 1
        (s.setSrc e w).srcFresh e s.now) s

/-- The table has changed. -/
def State.teamChanged (s : State) : State := s.showTeam.fillSources

/-- A slot as TEAM gives it. -/
def TeamSlot.entry (n : Nat) (x : TeamSlot) : TeamEntry := ⟨n, x.devId, x.parent, x.state, x.prio, x.gait, x.brId⟩

/-- The content of a TEAM message with the entries of a table (R368, R369). -/
def State.teamOf (s : State) (t : SMap TeamSlot) : TeamBody := ⟨s.leadId, s.epochTop, t.map (fun e => e.2.entry e.1)⟩

/-- The frame phase of slot `n` for a gait (R374). -/
def slotPhase (lead n g : Nat) : Nat :=
  let p2 := 2000000000 / gaitF g
  (lead + n * (p2 / 16)) % p2

/-- The content of a SLOT message: every slot's phase for its gait (R374). -/
def State.slotBody (s : State) : SlotBody :=
  ⟨s.devId, s.phi, (List.range 16).map (fun n => match Map.find? s.table n with
    | some x => let g := if x.devId = s.devId then s.gait else x.gait; (g, slotPhase s.phi n g)
    | none => (0, 0))⟩

/-- The lead tells its team: TEAM after every change of the table, SLOT after every admission (R368, R374). -/
def State.sendTeam (s : State) : State := s.toChildren 0x10 (teamBytes (s.teamOf s.table))
/-- SLOT. -/
def State.sendSlot (s : State) : State := s.toChildren 0x12 (slotBytes s.slotBody)

/-- A member tells its lead what has changed of slots that only it can know: the entries go to the lead in a TEAM of its own
(DESIGN CHOICE, notes/assumptions 30). -/
def State.report (s : State) (t : SMap TeamSlot) : State := s.toParent 0x10 (teamBytes (s.teamOf t))

/-- A new SECURE link is the moment at which LEAD_PRIO acts (R379): the device's own entry takes it, and the team learns it. -/
def State.takeRank (s : State) : State :=
  let p := s.fld P.HITCH_CTRL.LEAD_PRIO
  if s.hitch.slots.all (fun e => e.2.devId ≠ s.devId || e.2.prio == p) then s
  else
    let s := s.withHitch fun h => { h with slots := h.slots.map (fun e => if e.2.devId = s.devId then (e.1, { e.2 with prio := p }) else e) }
    if s.isMember then s.report (s.table.filter (fun e => e.2.devId = s.devId)) else s.sendTeam

/-- Leaving the team: keys, epochs and frame phase are discarded (R371). -/
def State.leaveTeam (s : State) : State :=
  let top := Nat.max s.hitch.topE s.epochTop
  let s := s.withHitch fun h => { h with topE := top }
  let s := s.withScan fun c => { c with epochCur := none, epochPend := none, epochJoin := none, leadPhase := none }
  (s.setFld P.CODE_EPOCH.E_CUR 0).setFld P.CODE_EPOCH.E_PENDING 0

/-- A PHASE_REQ pending at a change of lead is sent again (R374). -/
def State.askPhase (s : State) : State :=
  if s.bit P.GAIT.TEAM_WAIT then
    match (s.linksOf .parent).head? with
    | some k => s.hitchAsk k 0x14 (phaseReqBytes s.devId (s.fld P.GAIT.GAIT_NEXT))
    | none => s
  else s

/-- This device becomes its own lead again, alone or of a subtree (R372): a new epoch at once. -/
def State.becomeLead (s : State) (e0 : Nat) : State :=
  let s := (s.setFld P.LEAD_ID.LEAD_ID s.devId).setFld P.TEAM_STATUS.ROLE 1
  let s := s.withHitch fun h => { h with needEpoch := false, needPhase := false, needStep := false, xfer := {} }
  let s := (s.setFld P.TEAM_STATUS.LOCKED 0).setFld P.GAIT.TEAM_WAIT 0
  s.epochDrawAfter e0

/-- The slots from `n` up to the top of its tree. -/
def pathUp (t : SMap TeamSlot) : Nat → Nat → List Nat
  | 0, n => [n]
  | f + 1, n => n :: (if n = 0 then [] else match Map.find? t n with
    | some x => pathUp t f x.parent
    | none => [])

/-- The table with the tree hung from slot `n`: the parents on the path from it up turn round. -/
def rerooted (t : SMap TeamSlot) (n : Nat) : SMap TeamSlot :=
  let path := pathUp t 16 n
  t.map (fun e => match path.idxOf? e.1 with
    | some (i + 1) => (e.1, { e.2 with parent := path.getD i 0 })
    | _ => e)

/-- The device of slot `n` takes slot 0, which the lead always holds (R368). -/
def leadFirst (t : SMap TeamSlot) (n : Nat) : SMap TeamSlot :=
  if n = 0 then t
  else t.foldl (fun m e =>
    if e.1 = 0 then m
    else if e.1 = n then Map.insert m 0 { e.2 with parent := 0 }
    else Map.insert m e.1 { e.2 with parent := if e.2.parent = n then 0 else e.2.parent }) []

/-- Hold a slot for 50 ms from now (R372). -/
def State.heldSlot (s : State) (x : TeamSlot) : TeamSlot := { x with state := 2, holdUntil := s.now + 50000000, due := false }

/-- The part of the team at and below slot `root`, cut off from the lead (R372): its device of greatest rank, and its table under
that device, with every other slot held. DESIGN CHOICE (notes/assumptions 30): the new lead takes slot 0, whose holder is not held. -/
def State.cutTable (s : State) (root : Nat) : Nat × SMap TeamSlot :=
  let t := s.table
  let keep := (inUse t).filter (fun e => below t 16 e.1 root)
  let best := keep.foldl (fun (b : Option (Nat × TeamSlot)) e => match b with
    | some x => if outranks e.2.prio e.2.devId x.2.prio x.2.devId then some e else b
    | none => some e) none
  let lead := (best.map (·.1)).getD root
  let part := (rerooted keep lead).foldl (fun m e => Map.insert m e.1 e.2) (t.map (fun e => (e.1, s.heldSlot e.2)))
  ((best.map (·.2.devId)).getD s.devId, leadFirst part lead)

/-- The link toward the member of slot `n` below. -/
def State.linkToward (s : State) (n : Nat) : Option Nat :=
  (s.linksOf .child).find? (fun k => match slotOf s.table (s.link k).peerId with
    | some a => below s.table 16 n a
    | none => false)

/-- Follow another lead (R371, R372): LEAD_CHANGED, and no epoch and no phase until it gives them. -/
def State.followLead (s : State) (lead : Nat) : State :=
  let s := ((s.leaveTeam.setFld P.LEAD_ID.LEAD_ID lead).setFld P.TEAM_STATUS.ROLE 2).setFlag P.HITCH_FLAGS.LEAD_CHANGED
  s.withHitch fun h => { h with needEpoch := true, needPhase := true }

/-- This device leads the part of its team that a cut has left, with the table given (R372). -/
def State.takeLead (s : State) (t : SMap TeamSlot) : State :=
  let e0 := s.epochTop
  let s := ((s.withHitch fun h => { h with slots := t }).leaveTeam).setFlag P.HITCH_FLAGS.LEAD_CHANGED
  ((s.becomeLead e0).teamChanged.sendTeam.sendSlot).sendEpoch

/-- Make link `k` the one toward the lead; the former one leads to members below. -/
def State.newParent (s : State) (k : Nat) : State :=
  (forEach (s.linksOf .parent) (fun j s => s.withLink j fun x => { x with role := .child }) s).withLink k
    fun x => { x with role := .parent }

/-- The link to the parent has gone: the part of the team at and below this device chooses its lead, and where that is another
device, a TEAM tells the part so (R372; notes/assumptions 30). -/
def State.partition (s : State) : State :=
  let (lead, t) := s.cutTable ((slotOf s.table s.devId).getD 0)
  if lead = s.devId then s.takeLead t
  else
    let toward := (slotOf s.table lead).bind s.linkToward
    let told : TeamBody := { s.teamOf t with lead := lead, e := s.epochTop + 1 }
    let s := s.toChildren 0x10 (teamBytes told)
    let s := match toward with
      | some k => s.newParent k
      | none => s
    ((s.followLead lead).withHitch fun h => { h with slots := t, topE := Nat.max h.topE told.e }).waitPhase.teamChanged.askPhase

/-- A child link has gone down: its subtree's slots are held for 50 ms; a member tells its lead, and the lead of the part that
remains issues a new epoch at once, as the lead of the other part does (R372). DEDUCED (notes/assumptions 30): its lead has not
changed, so LEAD_CHANGED is not set. -/
def State.childLost (s : State) (peer : Nat) : State :=
  let t := s.table
  match slotOf t peer with
  | none => s
  | some n =>
    let gone := ((inUse t).filter (fun e => below t 16 e.1 n)).map (fun e => (e.1, s.heldSlot e.2))
    let s := (s.withHitch fun h => { h with slots := gone.foldl (fun m e => Map.insert m e.1 e.2) t }).teamChanged
    if s.isMember then s.report gone else ((s.epochDrawAfter s.epochTop).sendTeam).sendEpoch

/-- A standby link over which this member can re-parent (R372): its peer is in the team and not below this device. -/
def State.spareParent (s : State) : Option (Nat × Nat) :=
  let own := (slotOf s.table s.devId).getD 0
  (s.linksOf .standby).findSome? (fun j =>
    (slotOf (inUse s.table) (s.link j).peerId).bind (fun n => if below s.table 16 n own then none else some (j, n)))

/-- STANDBY of a link's lanes. -/
def State.linkStandby (s : State) (k v : Nat) : State :=
  forEach (s.linkLanes k) (fun l s => s.setFld (P.LANE_STATUS.STANDBY.idx l) v) s

/-- A link's last lane has detached: its keys are erased, and the team follows (R359, R372). -/
def State.linkDown (s : State) (k : Nat) : State :=
  let x := s.link k
  let s := s.withLink k fun _ => {}
  match x.role with
  | .child => s.childLost x.peerId
  | .parent =>
    match s.spareParent with
    | some (j, n) =>
      let own := (slotOf s.table s.devId).getD 0
      let s := (s.withLink j fun y => { y with role := .parent }).linkStandby j 0
      let s := s.withHitch fun h => { h with slots := h.slots.map (fun e => if e.2.devId = s.devId then (e.1, { e.2 with parent := n }) else e) }
      s.showTeam.report ((inUse s.table).filter (fun e => below s.table 16 e.1 own))
    | none => s.partition
  | _ => s

/-- The size and depth a merge would give (Table 16.7): the winner's depth, and the joining tree seen from its
joining end hung below the attaching device. -/
def mergeDepth (win lose : SMap TeamSlot) (attach join : Nat) : Nat :=
  Nat.max (reach win 16 [0] [0]) (slotDepth win 16 attach + 1 + reach lose 16 [join] [join])

/-- The table a TEAM message carries; a slot it holds runs its own 50 ms here. -/
def State.tableOf (s : State) (b : TeamBody) : SMap TeamSlot :=
  b.slots.foldl (fun m e =>
    let old := (Map.find? s.hitch.slots e.slot).filter (fun x => x.state = 2 ∧ x.devId = e.devId)
    let x : TeamSlot := ⟨e.devId, e.parent, e.state, e.prio, e.brId, e.gait, 0, false⟩
    Map.insert m e.slot (if e.state = 2 then old.getD (s.heldSlot x) else x)) []

/-- The content of a JOIN_REQ: each device of the joining team with its new parent, the path from this device to its
former lead reversed (R370). -/
def State.joinBody (s : State) (t : SMap TeamSlot) (peer : Nat) : JoinBody :=
  let own := (slotOf t s.devId).getD 0
  let parentOf := fun (n : Nat) => if n = own then peer
    else if below t 16 own n then
      -- on the path to the former lead: its parent is now its neighbour toward this device
      ((neighbours t n).find? (fun m => below t 16 own m && slotDepth t 16 n < slotDepth t 16 m)).elim 0
        (fun m => ((Map.find? t m).map (·.devId)).getD 0)
    else (((Map.find? t n).bind (fun x => Map.find? t x.parent)).map (·.devId)).getD 0
  ⟨s.epochTop, (inUse t).map (fun e =>
    ⟨e.2.devId, e.2.prio, e.1, parentOf e.1, if e.1 = own then s.gait else e.2.gait, e.2.brId⟩)⟩

/-- The entry of a device in a table. -/
def entryOfDev (t : SMap TeamSlot) (id : Nat) : Option TeamSlot := (slotOf t id).bind (fun n => Map.find? t n)

/-- A new SECURE link's TEAM exchange decides its outcome (Table 16.7). -/
def State.teamDecide (s : State) (k : Nat) (b : TeamBody) : State :=
  let mine := s.table
  let theirs := s.tableOf b
  let peer := (s.link k).peerId
  let own := (slotOf mine s.devId).getD 0
  let far := (slotOf theirs peer).getD 0
  if b.lead = s.leadId then (s.withLink k fun x => { x with role := .standby }).linkStandby k 1
  else
    let win := match entryOfDev mine s.leadId, entryOfDev theirs b.lead with
      | some a, some c => outranks a.prio a.devId c.prio c.devId
      | _, _ => true
    let size := (inUse mine).length + (inUse theirs).length
    let depth := if win then mergeDepth mine theirs own far else mergeDepth theirs mine far own
    if 16 < size ∨ s.fld P.HITCH_CTRL.MAX_HOPS < depth then
      ((s.withLink k fun x => { x with role := .refused }).linkStandby k 1).setFlag P.HITCH_FLAGS.TEAM_REFUSED
    else if win then s.withLink k fun x => { x with role := .child }
    else
      let body := s.joinBody mine peer
      let s := ((s.newParent k).followLead b.lead).setFld P.TEAM_STATUS.LOCKED 0
      let s := s.withHitch fun h => { h with slots := theirs, needStep := true, xfer := { step := some [] }, topE := Nat.max h.topE b.e }
      ((s.hitchAsk k 0x11 (joinBytes body)).waitPhase).teamChanged

/-- Take a TEAM's table (R368). -/
def State.takeTeam (s : State) (b : TeamBody) : State :=
  let new := b.slots.any (fun e => e.state = 1 && (slotOf (inUse s.table) e.devId).isNone)
  let s := (s.withHitch fun h => { h with slots := s.tableOf b, topE := Nat.max h.topE b.e }).teamChanged
  if new then s.setFlag P.HITCH_FLAGS.ADMITTED_SEEN else s

/-- A TEAM of another lead that lists this device (R370, R372, R374): that lead has admitted its former team, or, where it was of
this team already, leads the part that a cut has left; then the time base goes on without a step. It goes on over the team's other
links as it came over link `k`. -/
def State.newLead (s : State) (k : Nat) (b : TeamBody) : State :=
  let place := slotOf (inUse s.table) b.lead
  let toward := place.bind s.linkToward
  let s := forEach (s.teamLinks.filter (fun j => j ≠ k)) (fun j s => s.hitchSend j 0x10 (teamBytes b)) s
  if b.lead = s.devId then
    -- this device leads the part itself
    (s.withLink k fun x => { x with role := .child }).takeLead (s.tableOf b)
  else
    let s := (s.newParent (toward.getD k)).followLead b.lead
    let s := if place.isSome then s
      else (s.setFld P.TEAM_STATUS.LOCKED 0).withHitch fun h => { h with needStep := true, xfer := { step := some [] } }
    (s.takeTeam b).waitPhase.askPhase

/-- The lead takes a member's report (notes/assumptions 30): slots lost below a member are held and a new epoch is issued (R372);
a slot that has another parent or rank, or is back, has its entry changed (R372, R379). -/
def State.takeReport (s : State) (b : TeamBody) : State :=
  let t := s.table
  let same := fun (e : TeamEntry) => (Map.find? t e.slot).filter (fun x => x.devId = e.devId)
  let gone := b.slots.filter (fun e => e.state == 2)
  let tops := gone.filter (fun e => !gone.any (fun g => g.slot == e.parent) &&
    (same e).any (fun x => x.state == 1 && x.parent == e.parent))
  let t1 : SMap TeamSlot := t.map (fun (e : Nat × TeamSlot) =>
    if e.2.state == 1 && tops.any (fun g => below t 16 e.1 g.slot) then (e.1, s.heldSlot e.2) else e)
  let t2 := (b.slots.filter (fun e => e.state == 1)).foldl (fun m e => match same e with
    | some x => Map.insert m e.slot { x with state := 1, parent := e.parent, prio := e.prio, due := false }
    | none => m) t1
  let s := ((s.withHitch fun h => { h with slots := t2 }).teamChanged)
  if tops.isEmpty then s.sendTeam else ((s.epochDrawAfter s.epochTop).sendTeam).sendEpoch

/-- A TEAM message on a team link (R368, R370, R372, R374): from above, the lead's table is taken and passed on; from below, a
member's report goes to the lead; a table of another lead is followed where it lists this device and its E is above those known
of this device's teams, and is ignored else. -/
def State.teamUpdate (s : State) (k : Nat) (b : TeamBody) (raw : List Byte) : State :=
  if b.lead = s.leadId then
    if (s.link k).role = .parent then
      let admitted := (slotOf (inUse s.table) s.devId).isNone
      let s := ((s.takeTeam b).hitchAnswered k 0x11).toChildren 0x10 raw
      if admitted then s.askPhase else s
    else if s.isMember then s.toParent 0x10 raw
    else s.takeReport b
  else if b.slots.any (fun e => e.devId = s.devId && e.state == 1) ∧ Nat.max s.hitch.topE s.epochTop < b.e then s.newLead k b
  else s

/-- A TEAM on a standby link from a member that has taken this device as its parent makes the link a team link (R372;
notes/assumptions 30). -/
def State.adopt (s : State) (k : Nat) (b : TeamBody) (raw : List Byte) : State :=
  let own := slotOf (inUse s.table) s.devId
  if b.lead = s.leadId ∧ b.slots.any (fun e => e.devId = (s.link k).peerId && e.state == 1 && some e.parent == own) then
    ((s.withLink k fun x => { x with role := .child }).linkStandby k 0).teamUpdate k b raw
  else s

/-- The TEAMs held for new SECURE links are processed one at a time, in ascending lane number: one waits while a link on a
lower lane that became SECURE in the same frame period is undecided (Table 16.7). -/
def State.teamTurns (s : State) : State :=
  forUpto 8 (fun k s =>
    let x := s.link k
    match x.teamHeld with
    | none => s
    | some b =>
      if (List.range k).any (fun j => (s.link j).finishOk && (s.link j).role = .none && (s.link j).secureIn == x.secureIn) then s
      else (s.withLink k fun x => { x with teamHeld := none }).teamDecide k b) s

/-- TEAM (R368, R369). It shows that the peer has taken this end's FINISH (R362). -/
def execTeam (t lane : Nat) (even odd : List LaneWord) (s : State) : Result :=
  if s.ctl.por then .next s else
  let s := s.at_ t
  match s.hitchReceive lane 0x10 ⟨even, odd⟩ with
  | (none, s) => .next s
  | (some raw, v) =>
    match readTeam raw with
    | none => .next s.formatErr
    | some b =>
      let k := v.linkId lane
      let s := v.hitchAnswered k 0x04
      match (s.link k).role with
      | .none => .next (s.withLink k fun x => { x with teamHeld := some b }).teamTurns
      | .parent | .child => .next (s.teamUpdate k b raw)
      | .standby => .next (s.adopt k b raw)
      | .refused => .next s

/-- The slot of a joining device: the one the table has for it, else the lowest free (R370). -/
def freeSlot (t : SMap TeamSlot) (id : Nat) : Option Nat :=
  match slotOf t id with
  | some n => some n
  | none => (List.range 16).find? (fun n => (Map.find? t n).isNone)

/-- The table with the joining devices in it: every device has its slot before the parents are looked up (R370). -/
def admitted (t : SMap TeamSlot) (l : List JoinEntry) : SMap TeamSlot :=
  let t := l.foldl (fun t e => match freeSlot t e.devId with
    | some n => Map.insert t n ⟨e.devId, 0, 1, e.prio, e.brId, e.gait, 0, false⟩
    | none => t) t
  t.map (fun e => match l.find? (fun j => j.devId = e.2.devId) with
    | some j => (e.1, { e.2 with parent := (slotOf t j.parentId).getD 0 })
    | none => e)

/-- The lead admits the joining devices, and issues a new epoch above those of both teams (R370, R371). -/
def State.admitJoiners (s : State) (b : JoinBody) : State :=
  let s := ((s.withHitch fun h => { h with slots := admitted s.table b.devices }).teamChanged).setFlag P.HITCH_FLAGS.ADMITTED_SEEN
  let s := s.epochDrawAfter (Nat.max s.epochTop b.e)
  (s.sendTeam.sendSlot).sendEpoch

/-- JOIN_REQ: the lead admits; a member passes it on (R370). -/
def execJoinReq (t lane : Nat) (even odd : List LaneWord) (s : State) : Result :=
  if s.ctl.por then .next s else
  let s := s.at_ t
  match s.hitchReceive lane 0x11 ⟨even, odd⟩ with
  | (none, s) => .next s
  | (some raw, v) =>
    match readJoin raw with
    | none => .next s.formatErr
    | some b =>
      if (v.link (v.linkId lane)).role ≠ .child then .next v
      else if v.isMember then .next (v.toParent 0x11 raw)
      else .next (v.admitJoiners b)

/-- The gaits that a SLOT message gives (R374). -/
def withGaits (t : SMap TeamSlot) (b : SlotBody) : SMap TeamSlot :=
  t.map (fun e => match b.phases[e.1]? with
    | some p => (e.1, { e.2 with gait := p.1 })
    | none => e)

/-- SLOT: the lead's assignment of frame phases (R374). It ends the wait of R44 where the phase it gives this device's slot
is one for the gait asked for. -/
def execSlot (t lane : Nat) (even odd : List LaneWord) (s : State) : Result :=
  if s.ctl.por then .next s else
  let s := s.at_ t
  match s.hitchReceive lane 0x12 ⟨even, odd⟩ with
  | (none, s) => .next s
  | (some raw, v) =>
    match readSlot raw with
    | none => .next s.formatErr
    | some b =>
      let s := v
      if !s.isMember ∨ b.lead ≠ s.leadId ∨ (s.link (s.linkId lane)).role ≠ .parent then .next s
      else
        let s := match b.phases[s.fld P.TEAM_STATUS.OWN_SLOT]? with
          | some (g, p) =>
            let s := (s.withScan fun c => { c with leadPhase := some p }).withHitch fun h =>
              { h with needPhase := false, slots := withGaits h.slots b }
            if g = s.fld P.GAIT.GAIT_NEXT then (s.hitchAnswered (s.linkId lane) 0x14).setFld P.GAIT.TEAM_WAIT 0 else s
          | none => s
        .next (s.toChildren 0x12 raw)

/-- The epochs of an EPOCH message (R56, R371): the first of a new lead is taken whatever its E, for a later one R56 holds. -/
def State.takeEpochs (s : State) (b : EpochBody) : State :=
  let s := match b.cur with
    | some (e, sec, te) =>
      if s.hitch.needEpoch then (s.epochJoin e sec te).withHitch fun h => { h with needEpoch := false } else s.epochReceive e sec te
    | none => s
  match b.pend with
  | some (e, sec, te) => (s.epochReceive e sec te).withHitch fun h => { h with needEpoch := false }
  | none => s

/-- EPOCH: the lead's epochs are taken and passed on, encrypted anew for each link (R56, R371, R375). -/
def execEpoch (t lane : Nat) (even odd : List LaneWord) (s : State) : Result :=
  if s.ctl.por then .next s else
  let s := s.at_ t
  match s.hitchReceive lane 0x13 ⟨even, odd⟩ with
  | (none, s) => .next s
  | (some raw, s) =>
    let b := readEpoch raw
    if !s.isMember ∨ b.lead ≠ s.leadId ∨ (s.link (s.linkId lane)).role ≠ .parent then .next s
    else .next ((s.takeEpochs b).toChildren 0x13 raw)

/-- PHASE_REQ: DEV_ID and requested gait; the lead answers with SLOT (R374). -/
def execPhaseReq (t lane : Nat) (even odd : List LaneWord) (s : State) : Result :=
  if s.ctl.por then .next s else
  let s := s.at_ t
  match s.hitchReceive lane 0x14 ⟨even, odd⟩ with
  | (none, s) => .next s
  | (some raw, v) =>
    match readPhaseReq raw with
    | none => .next s.formatErr
    | some (id, g) =>
      if (v.link (v.linkId lane)).role ≠ .child then .next v
      else if v.isMember then .next (v.toParent 0x14 raw)
      else match slotOf v.table id with
        | some n =>
          let t := v.table.map (fun e => if e.1 = n then (e.1, { e.2 with gait := g }) else e)
          .next ((v.withHitch fun h => { h with slots := t }).sendSlot)
        | none => .next v

/-- The task tick in which held slots' time is over frees them, but for devices that have returned in it (R372). -/
def State.freeHeld (s : State) : State :=
  if !s.hitch.slots.any (fun e => e.2.state = 2 && e.2.due) then s
  else
    let s := (s.withHitch fun h => { h with slots := h.slots.filter (fun e => !(e.2.state = 2 && e.2.due)) }).teamChanged
    if s.isMember then s else s.sendTeam

/-- SLOT_HOLD_EXPIRY: a held slot's 50 ms are over; the task tick frees it (R372). -/
def execSlotHoldExpiry (t slot : Nat) (s : State) : Result :=
  if s.ctl.por then .next s else
  let s := s.at_ t
  match Map.find? s.hitch.slots slot with
  | some x =>
    if x.state = 2 ∧ x.holdUntil ≤ s.now then
      .next (s.withHitch fun h => { h with slots := Map.insert h.slots slot { x with due := true } })
    else .next s
  | none => .next s

/-- BRIDLE_MESSAGE: relayed where it is for all, and taken to the receive checks (R373). -/
def execBridleMessage (t lane : Nat) (wire : LaneStreams) (s : State) : Result :=
  if s.ctl.por then .next s else
  let s := s.at_ t
  match s.hitchReceive lane 0x30 wire with
  | (none, s) => .next s
  | (some f, s) =>
    let k := s.linkId lane
    if !s.teamLinks.contains k then .next s
    else
      let s := if frameField f 4 4 = 0xFFFFFFFF then
          forEach (s.teamLinks.filter (fun j => j ≠ k)) (fun j s => s.hitchSend j 0x30 f) s
        else s
      .next (s.bridleReceive true f)

end Sys2Proof.Machine
end

