-- ==== Sys2Proof/Machine/HitchLink.lean ====
section
/-! DEFINITION. Hitch lane bring-up, detach, the handshake, time transfer and the eye scan
(16_hitch_links.md R356 to R366, R376, R377). -/
namespace Sys2Proof.Machine

/-- A lane's BEACON sets carry its state from now on, and IDLE sets follow; an OFF lane sends nothing (Table 16.3, R356). Aligned
shows from the alignment of its own receiver on. -/
def State.beacon (s : State) (l : Nat) : State :=
  let v := s.laneSt l
  if v = 0 then s
  else
    let state := 8 * s.fld P.HITCH_CTRL.TEAM_EN + 4 * ofBit (decide (4 ≤ v) || (s.lanePhy l).aligned) + Nat.min (v - 1) 3
    (s.skipsTo l s.now).emit (.hitch l [beaconSet state l, idleSet])

/-- Enter a lane state. -/
def State.setLaneSt (s : State) (l v : Nat) : State :=
  (((s.elasticTo l).setFld (P.LANE_STATUS.STATE.idx l) v).withLane l fun x =>
    { x with since := s.now, rxFrom := s.now, aligned := false }).beacon l

/-- Enter BEACON: BOND and LANE_CFG act (R379), adaptation runs (R358), the elastic buffer is centred, and the SKIP sets of a lane
that was OFF start. -/
def State.laneBeacon (s : State) (l : Nat) : State :=
  let s := if s.laneSt l = 0 then s.withLane l fun x => { x with txSkip := s.now, txFree := s.now } else s
  let s := (s.setLaneSt l 1).setFld (P.LANE_STATUS.FROZEN.idx l) 0
  s.withLane l fun x => { x with
    bond := bitOf (s.fld P.HITCH_CTRL.BOND) (l / 2), link := 8, cfg := s.reg (K.LANE_CFG + l), fill := 8 }

/-- Is the lane's PHY group powered (Table 20.6)? -/
def State.lanePowered (s : State) (l : Nat) : Bool := bitOf (s.fld P.PWR_STATUS.DOMAIN_ON) (28 + l / 4)

/-- LANE_ENABLE: an enabled lane enters BEACON (R356). -/
def execLaneEnable (t lane : Nat) (s : State) : Result :=
  if s.ctl.por then .next s else
  let s := s.at_ t
  if 8 ≤ lane ∨ s.laneSt lane ≠ 0 ∨ !bitOf (s.fld P.HITCH_CTRL.LANE_EN) lane ∨ !s.lanePowered lane then .next s
  else .next (s.laneBeacon lane)

/-- BEACON_SEEN: receive lock, and BEACON sets for 100 µs; `peerLane` is the number they show (Table 16.4). -/
def execBeaconSeen (t lane peerLane : Nat) (s : State) : Result :=
  if s.ctl.por then .next s else
  let s := s.at_ t
  if 8 ≤ lane ∨ s.laneSt lane ≠ 1 ∨ s.now < (s.lanePhy lane).since + 100000 then .next s
  else .next (((s.setFld (P.LANE_STATUS.LOCK.idx lane) 1).setFld (P.LANE_STATUS.PEER_LANE.idx lane) peerLane).setLaneSt lane 2)

/-- TRAINING_DONE: 1 ms of adaptation (Table 16.4). -/
def execTrainingDone (t lane : Nat) (s : State) : Result :=
  if s.ctl.por then .next s else
  let s := s.at_ t
  if 8 ≤ lane ∨ s.laneSt lane ≠ 2 ∨ s.now < (s.lanePhy lane).since + 1000000 then .next s
  else .next ((s.setFld (P.LANE_STATUS.SLIPS.idx lane) 0).setLaneSt lane 3)

/-- One slip (R357). -/
def State.slip (s : State) (l : Nat) : State :=
  let n := s.fld (P.LANE_STATUS.SLIPS.idx l)
  if n < 39 then s.setFld (P.LANE_STATUS.SLIPS.idx l) (n + 1) else s

/-- ALIGN_SLIP: the firmware slips with AUTO_ALIGN = 1 (R357). -/
def execAlignSlip (t lane : Nat) (s : State) : Result :=
  if s.ctl.por then .next s else
  let s := s.at_ t
  if 8 ≤ lane ∨ s.laneSt lane ≠ 3 ∨ !s.bit P.HITCH_CTRL.AUTO_ALIGN then .next s else .next (s.slip lane)

/-- The handshake of a link begins with HELLO (R363, R368). -/
def State.startHandshake (s : State) (k : Nat) : State :=
  if !s.bit P.HITCH_CTRL.TEAM_EN then s
  else
    let n := (inUse s.table).length
    let body := leBytes 8 s.devId ++ leBytes 1 1 ++ leBytes 1 (s.fld P.HITCH_CTRL.LEAD_PRIO) ++ leBytes 8 s.leadId ++
      leBytes 1 n ++ leBytes 1 (s.fld P.HITCH_CTRL.BOND)
    let b := (s.link k).backoff
    (s.withLink k fun _ => { helloTx := body, backoff := b }).hitchAsk k 0x01 body

/-- The other lane of a pair (R352). -/
def laneMate (l : Nat) : Nat := if l % 2 = 0 then l + 1 else l - 1

/-- Has the peer of a link set the BOND bit of its pair? Its HELLO says so; before it, this end's setting holds (R352, R353). -/
def State.peerBonds (s : State) (k : Nat) : Bool :=
  let h := (s.link k).helloRx
  h.isEmpty || bitOf (leNat ((h.drop 19).take 1)) (k / 2)

/-- The link a lane joins when it becomes LINKED: that of its pair's other lane where both ends bond them, else one of its own
(R352). -/
def State.pickLink (s : State) (l : Nat) : Nat :=
  let o := laneMate l
  let k := s.linkId o
  if s.laneSt o < 4 then l
  else if (s.lanePhy l).bond && (s.lanePhy o).bond && s.peerBonds k then k
  else if k = l then o else l

/-- BONDED of a link's lanes: both are up, and the peer's HELLO has the bit (R352). -/
def State.showBonded (s : State) (k : Nat) : State :=
  let on := (s.linkLanes k).length == 2 && !(s.link k).helloRx.isEmpty && s.peerBonds k
  forEach (s.linkLanes k) (fun l s => s.setFld (P.LANE_STATUS.BONDED.idx l) (ofBit on)) s

/-- The peer's HELLO has the BOND bit clear: the lane that joined second has a link of its own (R352). -/
def State.splitLink (s : State) (k : Nat) : State :=
  match (s.linkLanes k).filter (fun l => l ≠ k) with
  | l :: _ => (s.withLane l fun x => { x with link := l }).startHandshake l
  | [] => s

/-- An aligned lane is LINKED, or SECURE with its link (R352, R363). The lanes of a bonded link send their SKIP sets in the same
word from now on. -/
def State.laneLinked (s : State) (l : Nat) : State :=
  let k := s.pickLink l
  let first := (s.linkLanes k).isEmpty
  let secure := s.linkSecure k
  let s := (s.withLane l fun x => { x with link := k }).setLaneSt l (if secure then 5 else 4)
  let s := if first then s.startHandshake k else forEach (s.linkLanes k) (fun j s => s.skipAt j s.now) s
  s.showBonded k

/-- ALIGNMENT_DONE: the lane's receiver is aligned and so is the peer's by its BEACON sets, or its own only, or 39 slips have
not aligned it (Table 16.4, R357, R363). -/
def execAlignmentDone (t lane : Nat) (aligned : LaneAligned) (s : State) : Result :=
  if s.ctl.por then .next s else
  let s := s.at_ t
  if 8 ≤ lane ∨ s.laneSt lane ≠ 3 then .next s
  else if aligned.own ∧ !aligned.peer then .next ((s.withLane lane fun x => { x with aligned := true }).beacon lane)
  else if aligned.own then .next (s.laneLinked lane)
  else if s.fld (P.LANE_STATUS.SLIPS.idx lane) = 39 then
    .next ((s.addSat (P.LANE_STATUS.ALIGN_FAILS.idx lane) 1).laneBeacon lane)
  else .next s

/-- ADAPTATION_FREEZE: adaptation freezes or resumes; never in TRAIN (R358). -/
def execAdaptationFreeze (t lane : Nat) (frozen : Bool) (s : State) : Result :=
  if s.ctl.por then .next s else
  let s := s.at_ t
  if 8 ≤ lane ∨ s.laneSt lane < 3 then .next s
  else
    let s := s.setFld (P.LANE_STATUS.FROZEN.idx lane) (ofBit frozen)
    .next (s.withHitch fun h => { h with eye := h.eye.map (fun e => if e.lane = lane ∧ frozen then { e with frozen := true } else e) })

/-- An eye scan ends (R360). -/
def State.eyeEnd (s : State) (e : EyeScan) (errors : Nat) (cut : Bool) : State :=
  let s := s.withHitch fun h => { h with eye := none }
  let s := (s.setFld P.EYE_RESULT.FROZEN_MARK (ofBit e.frozen)).setFld P.EYE_RESULT.DWELL_CUT (ofBit cut)
  let s := s.setFld P.EYE_RESULT.ERRORS (capN (2 ^ 40 - 1) errors)
  (s.slotDone K.EYE_RESULT).setFld P.EYE_CTRL.BUSY 0

/-- A lane that detaches ends its eye scan. The disagreements counted so far come from the samplers: a free value of at most the
bits compared, one bit being 0.16 ns (R360). -/
def State.eyeCut (s : State) (l : Nat) : State :=
  match s.hitch.eye with
  | none => s
  | some e =>
    if e.lane = l then
      let (d, s) := s.draw 40
      s.eyeEnd e (d % (Nat.min (2 ^ e.dwell) (25 * (s.now - e.start) / 4) + 1)) true
    else s

/-- The status of a lane that detaches (R359, Table 16.12). -/
def State.laneLost (s : State) (l : Nat) : State :=
  let s := forEach [P.LANE_STATUS.LOCK, P.LANE_STATUS.FROZEN, P.LANE_STATUS.BONDED, P.LANE_STATUS.STANDBY, P.LANE_STATUS.PEER_SLOT]
    (fun f s => s.setFld (f.idx l) 0) s
  (s.addWrap (P.LANE_STATUS.DETACHES.idx l) 1).setFlag P.HITCH_FLAGS.DETACH_SEEN

/-- A link one of whose lanes has detached goes on over the other, with the back-off of R366 at its start, or goes down (R352,
R359). -/
def State.linkLess (s : State) (k : Nat) : State :=
  if (s.linkLanes k).isEmpty then (s.linkDown k).teamTurns
  else (s.withLink k fun x => { x with backoff := 1 }).showBonded k

/-- A lane detaches (R359): `kind` 0 a loss, 1 a LEAVE. -/
def State.detachLane (s : State) (l kind : Nat) : State :=
  if 8 ≤ l ∨ s.laneSt l ≤ 1 then s
  else
    let k := s.linkId l
    let peer := (s.link k).peerId
    let was := decide (4 ≤ s.laneSt l)
    let s := (s.laneLost l).record 0x1001 9 true true (leBytes 1 l ++ leBytes 1 kind ++ leBytes 8 peer)
    let s := s.eyeCut l
    let on := bitOf (s.fld P.HITCH_CTRL.LANE_EN) l
    let s := (if on then s.setLaneSt l 1 else (s.skipsTo l s.now).setLaneSt l 0).withLane l fun x => { x with link := 8 }
    let s := if was then s.linkLess k else s
    if on then s.laneBeacon l else s

/-- LANE_DETACH: loss of lock or silence for 2 ms (R359). -/
def execLaneDetach (t lane : Nat) (s : State) : Result :=
  if s.ctl.por then .next s else
  .next ((s.at_ t).detachLane lane 0)

/-- LEAVE_MESSAGE: the peer leaves; every lane of the link detaches (R359). -/
def execLeaveMessage (t lane : Nat) (wire : LaneStreams) (s : State) : Result :=
  if s.ctl.por then .next s else
  let s := s.at_ t
  match s.hitchReceive lane 0x15 wire with
  | (none, s) => .next s
  | (some _, s) => .next (forEach (s.linkLanes (s.linkId lane)) (fun l s => s.detachLane l 1) s)

/-- LEAVE = 1: LEAVE goes out on every SECURE link, which then detaches (Table 16.11). -/
def State.leave (s : State) : State :=
  let ks := (List.range 8).filter (fun k => s.linkId k == k && s.linkSecure k)
  let s := forEach ks (fun k s => s.hitchSend k 0x15 (leBytes 8 s.devId)) s
  forEach ks (fun k s => forEach (s.linkLanes k) (fun l s => s.detachLane l 1) s) s

/-- A handshake fails at a step (R366): 0 certificate, 1 identity, 2 confirmation, 3 team proof. -/
def State.authFail (s : State) (k step : Nat) : State :=
  let x := s.link k
  let s := (s.liveWrap P.HITCH_COUNTS.AUTH_FAILS 1).setFlag P.HITCH_FLAGS.AUTH_FAIL_SEEN
  let s := s.record 0x1002 9 true false (leBytes 1 (s.sendLane k) ++ leBytes 1 step ++ leBytes 8 x.peerId)
  s.withLink k fun _ => { helloRx := x.helloRx, backoff := Nat.min 64 (2 * x.backoff), retryAt := some (s.now + x.backoff * 1000000000) }

/-- HANDSHAKE_RETRY: the back-off wait is over (R366). -/
def execHandshakeRetry (t lane : Nat) (s : State) : Result :=
  if s.ctl.por then .next s else
  let s := s.at_ t
  let k := s.linkId lane
  match (s.link k).retryAt with
  | some r => if 8 ≤ lane ∨ s.now < r ∨ s.laneSt lane ≠ 4 then .next s else .next (s.startHandshake k)
  | none => .next s

/-- The certificate in CERT pieces. -/
def certPieces : Nat → Nat → Nat → List Byte → List (List Byte)
  | 0, _, _, _ => []
  | f + 1, off, total, l =>
    if l.isEmpty then [] else (leBytes 4 off ++ leBytes 4 total ++ l.take 2040) :: certPieces f (off + 2040) total (l.drop 2040)

/-- Send the own certificate (R363). -/
def State.sendCert (s : State) (k : Nat) : State :=
  let c := s.ident.hitchCert
  let s := forEach (certPieces (c.length + 1) 0 c.length c) (fun p s => s.hitchSend k 0x02 p) s
  s.withLink k fun x => { x with waits := Map.insert x.waits 0x02 { sent := s.now } }

/-- HELLO (R363). One that comes again shows that the peer has had no certificate: it is sent again (R362). -/
def execHello (t lane : Nat) (wire : LaneStreams) (s : State) : Result :=
  if s.ctl.por then .next s else
  let s := s.at_ t
  match s.hitchReceive lane 0x01 wire with
  | (none, s) => .next s
  | (some b, s) =>
    let byte := fun (i : Nat) => leNat ((b.drop i).take 1)
    if 1 < byte 8 ∨ 15 < byte 9 ∨ byte 18 = 0 ∨ 16 < byte 18 ∨ 15 < byte 19 then .next s.formatErr
    else if s.linkSecure (s.linkId lane) ∨ !s.bit P.HITCH_CTRL.TEAM_EN ∨ (s.link (s.linkId lane)).retryAt.isSome then .next s
    else if (s.link (s.linkId lane)).helloRx = b then .next (s.sendCert (s.linkId lane))
    else
      let s := if bitOf (byte 19) (lane / 2) then s else s.splitLink (s.linkId lane)
      let k := s.linkId lane
      let s := (s.withLink k fun x => { x with helloRx := b }).showBonded k
      if leNat (b.take 8) = s.devId then .next (s.authFail k 1) else .next (s.sendCert k)

/-- The certificate as its pieces give it: contiguous from offset 0. -/
def assemble (p : SMap (List Byte)) : List Byte := p.foldl (fun a e => if e.1 = a.length then a ++ e.2 else a) []

/-- CERT: a piece comes in, which shows that the peer has this end's HELLO (R362); the whole certificate goes to verification
(R363). -/
def execCert (t lane : Nat) (wire : LaneStreams) (s : State) : Result :=
  if s.ctl.por then .next s else
  let s := s.at_ t
  match s.hitchReceive lane 0x02 wire with
  | (none, s) => .next s
  | (some b, s) =>
    let off := leNat (b.take 4)
    let total := leNat ((b.drop 4).take 4)
    let k := s.linkId lane
    let x := s.link k
    if total < off + (b.length - 8) then .next s.formatErr
    else
      let s := s.hitchAnswered k 0x01
      if x.verifying ∨ x.certOk ∨ x.helloRx.isEmpty ∨ x.retryAt.isSome then .next s
      else
        let pieces := Map.insert x.pieces off (b.drop 8)
        let whole := decide ((assemble pieces).length = total)
        .next (s.withLink k fun x => { x with pieces := pieces, certTotal := total, verifying := whole })

/-- The digest block of a signed object (R428). -/
def digestBlock (label : List Byte) (signed : List Byte) : List Byte := padTo 16 label ++ sha384 signed

/-- ASCII bytes of a label. -/
def ascii (l : List Nat) : List Byte := l.map (BitVec.ofNat 8)
/-- "XZ3840 CERT". -/
def labelCert : List Byte := ascii [0x58, 0x5A, 0x33, 0x38, 0x34, 0x30, 0x20, 0x43, 0x45, 0x52, 0x54]
/-- "XZ3840 HITCH". -/
def labelHitch : List Byte := ascii [0x58, 0x5A, 0x33, 0x38, 0x34, 0x30, 0x20, 0x48, 0x49, 0x54, 0x43, 0x48]
/-- "FINISH". -/
def labelFinish : List Byte := ascii [0x46, 0x49, 0x4E, 0x49, 0x53, 0x48]
/-- "TEAM". -/
def labelTeam : List Byte := ascii [0x54, 0x45, 0x41, 0x4D]

/-- Do both signatures of a block verify under a key pair (R428, R429)? -/
def bothVerify (keys : List Byte × List Byte) (digest sig : List Byte) : Bool :=
  pssVerify keys.1 digest (sig.take 384) && Config.slhVerify keys.2 ([0, 0] ++ digest) (sig.drop 384)

/-- Does a Hitch certificate verify (Table 19.3, R429)? -/
def State.hitchCertOk (s : State) (c : List Byte) : Bool :=
  let gen := frameField c 7 1
  c.length == 17824 && frameField c 0 4 == 0x54524543 && frameField c 4 2 == 1 && frameField c 6 1 == 2 &&
  decide (1 ≤ gen ∧ gen ≤ 4) && !bitOf s.nv.revoked (gen - 1) && frameField c 16 4 == 1184 &&
  bothVerify (Config.rootKey gen) (digestBlock labelCert (c.take 1216)) (c.drop 1216)

/-- Session keys once both ciphertexts are in, and FINISH (R364, R365). -/
def State.deriveSession (s : State) (k : Nat) : State :=
  let x := s.link k
  if x.ctTx.isEmpty ∨ x.ctRx.isEmpty ∨ x.session.isSome then s
  else
    let a := decide (s.devId < x.peerId)
    let cert := assemble x.pieces
    let pick := fun (mine theirs : List Byte) => if a then mine ++ theirs else theirs ++ mine
    let tr := sha384 (pick x.helloTx x.helloRx ++ pick s.ident.hitchCert cert ++ pick x.ctTx x.ctRx)
    let ikm := pick x.ssTx x.ssRx
    let key := fun (i : Nat) => hmacSha256 ikm (labelHitch ++ tr ++ leBytes 1 i)
    let encAb := (key 1).take 16
    let encBa := (key 1).drop 16
    let ss : Session := if a then ⟨encAb, encBa, key 2, key 3, 0, 0⟩ else ⟨encBa, encAb, key 3, key 2, 0, 0⟩
    let conf := (hmacSha256 ss.macTx (labelFinish ++ tr)).take 16
    let proof := if s.bit P.HITCH_CTRL.TEAM_AUTH then (hmacSha256 (s.nv.teamKey.getD []) (labelTeam ++ tr)).take 16 else List.replicate 16 0
    (s.withLink k fun x => { x with session := some ss }).hitchAsk k 0x04 (conf ++ proof)

/-- The transcript hash of a link (R364). -/
def State.transcript (s : State) (k : Nat) : List Byte :=
  let x := s.link k
  let a := decide (s.devId < x.peerId)
  let pick := fun (mine theirs : List Byte) => if a then mine ++ theirs else theirs ++ mine
  sha384 (pick x.helloTx x.helloRx ++ pick s.ident.hitchCert (assemble x.pieces) ++ pick x.ctTx x.ctRx)

/-- CERT_VERIFIED: signature verification ends; on success this end encapsulates (R363, R366). -/
def execCertVerified (t lane : Nat) (s : State) : Result :=
  if s.ctl.por then .next s else
  let s := s.at_ t
  let k := s.linkId lane
  let x := s.link k
  if 8 ≤ lane ∨ !x.verifying then .next s
  else
    let c := assemble x.pieces
    if !s.hitchCertOk c then .next (s.authFail k 0)
    else if frameField c 8 8 ≠ x.peerId ∨ frameField c 8 8 = s.devId then .next (s.authFail k 1)
    else
      let n := s.fresh
      let s := { s with fresh := n + 1 }
      let (ct, ss) := Config.mlKemEncaps ((c.drop 32).take 1184) n
      let s := (s.withLink k fun x => { x with verifying := false, certOk := true, ctTx := ct, ssTx := ss }).hitchAsk k 0x03 ct
      .next (s.deriveSession k)

/-- KEM_CT: the peer's ciphertext is decapsulated (R363, R364); it shows that the peer has this end's certificate (R362). -/
def execKemCt (t lane : Nat) (wire : LaneStreams) (s : State) : Result :=
  if s.ctl.por then .next s else
  let s := s.at_ t
  match s.hitchReceive lane 0x03 wire with
  | (none, s) => .next s
  | (some b, s) =>
    let k := s.linkId lane
    let x := s.link k
    if !x.ctRx.isEmpty ∨ x.helloRx.isEmpty ∨ x.retryAt.isSome then .next s
    else .next (((s.withLink k fun x => { x with ctRx := b, ssRx := Config.mlKemDecaps b }).hitchAnswered k 0x02).deriveSession k)

/-- FINISH: confirmation and team proof are checked; the link becomes SECURE and TEAM goes out (R365, R366, R369). It shows that the
peer has this end's ciphertext, and one that comes again that it has had no TEAM: that is sent again (R362). -/
def execFinish (t lane : Nat) (wire : LaneStreams) (s : State) : Result :=
  if s.ctl.por then .next s else
  let s := s.at_ t
  match s.hitchReceive lane 0x04 wire with
  | (none, s) => .next s
  | (some b, s) =>
    let k := s.linkId lane
    let x := s.link k
    let tr := s.transcript k
    match x.session with
    | none => .next s
    | some y =>
      if x.finishOk then .next (s.hitchSend k 0x10 (teamBytes (s.teamOf s.table)))
      else if b.take 16 ≠ (hmacSha256 y.macRx (labelFinish ++ tr)).take 16 then .next (s.authFail k 2)
      else if s.bit P.HITCH_CTRL.TEAM_AUTH ∧ (s.nv.teamKey.isNone ∨
          b.drop 16 ≠ (hmacSha256 (s.nv.teamKey.getD []) (labelTeam ++ tr)).take 16) then .next (s.authFail k 3)
      else
        let s := (s.takeRank.withLink k fun x => { x with finishOk := true, secureIn := s.frameNo }).hitchAnswered k 0x03
        let s := forEach (s.linkLanes k) (fun l s => s.setLaneSt l 5) s
        .next (s.hitchSend k 0x10 (teamBytes (s.teamOf s.table)))

/-- HITCH_RETRY_TIMEOUT: a message of type `kind` unanswered for 10 ms is sent again, up to 3 times; then the link
detaches (R362). -/
def execHitchRetryTimeout (t lane kind : Nat) (s : State) : Result :=
  if s.ctl.por then .next s else
  let s := s.at_ t
  let k := s.linkId lane
  match Map.find? (s.link k).waits kind with
  | none => .next s
  | some w =>
    if 8 ≤ lane ∨ s.laneSt lane < 4 ∨ s.now < w.sent + 10000000 then .next s
    else if 3 ≤ w.again then .next (forEach (s.linkLanes k) (fun l s => s.detachLane l 0) s)
    else
      let s := if kind = 0x02 then s.sendCert k else s.hitchAsk k kind w.body
      .next (s.withLink k fun x => { x with waits := Map.modify w x.waits kind (fun y => { y with again := w.again + 1 }) })

/-- A receiving lane's latency in 1/16 LSB: RX_LAT and the slips (R357, R376). -/
def State.rxDelay (s : State) (l : Nat) : Int :=
  Map.get 0 s.ident.rxLat l + roundHalfEven (s.fld (P.LANE_STATUS.SLIPS.idx l) * 8192) 25

/-- The lane of the link to the parent. -/
def State.parentLane (s : State) : Option Nat := (s.linksOf .parent).head?.map s.sendLane

/-- TIME_EXCHANGE_START: every 1,048,576 ns a member sends TSYNC; `stamp` is the transmit stamp of its comma (R376). -/
def execTimeExchangeStart (t stamp : Nat) (s : State) : Result :=
  if s.ctl.por then .next s else
  match s.parentLane with
  | none => .next s
  | some l =>
    let s := s.at_ t
    let x := s.hitch.xfer
    if x.open_.isSome ∨ x.lastStart.any (fun a => decide (s.now < a + 1048576)) then .next s
    else
      let t1 := (stamp : Int) + Map.get 0 s.ident.txLat l
      let s := s.withHitch fun h => { h with xfer := { x with nextId := wrapAdd 8 x.nextId 1, open_ := some (x.nextId, t1, s.now), lastStart := some s.now } }
      .next (s.laneSend l 7 [tsyncSet x.nextId])

/-- TSYNC_RECEIVE: a parent stamps a marker and answers; `txStamp` is the transmit stamp of the answer (R376). -/
def execTsyncReceive (t lane id rxStamp txStamp : Nat) (s : State) : Result :=
  if s.ctl.por then .next s else
  let s := s.at_ t
  if 8 ≤ lane ∨ s.laneSt lane ≠ 5 then .next s
  else
    let t2 := (rxStamp : Int) - s.rxDelay lane
    let t3 := (txStamp : Int) + Map.get 0 s.ident.txLat lane
    .next (s.hitchSend (s.linkId lane) 0x20 (leBytes 1 id ++ leBytes 8 (trunc 64 t2) ++ leBytes 8 (trunc 64 t3)))

/-- A member's time base is disciplined by one exchange (R377). `d` is 2 theta, and `theta` its half rounded to the unit of
TIME_STATUS. While a time step waits for its frame boundary, a later exchange gives it its theta. -/
def State.discipline (s : State) (d theta : Int) : State :=
  let x := s.hitch.xfer
  let tl := roundHalfEven d 32
  let count := fun (n : Nat) (b : Bool) => if b then n + 1 else 0
  let good := count x.good (decide (d.natAbs ≤ 2 * 2048))
  let bad := count x.bad (decide (2 * 8192 < d.natAbs))
  let big := count x.big (decide (2 * 2048000 < d.natAbs))
  let s := if 16 ≤ good then s.setFld P.TEAM_STATUS.LOCKED 1 else if 4 ≤ bad then s.setFld P.TEAM_STATUS.LOCKED 0 else s
  match x.step with
  | some [] => s.withHitch fun h => { h with xfer := { x with step := some [tl], good := good, bad := bad, big := 0 } }
  | some (a :: _) =>
    -- the second exchange: preload, and the step is due at the next frame boundary
    let integ := -32 * (tl - a)
    (s.withHitch fun h => { h with xfer := { x with step := none, due := some theta, integ := integ, good := good, bad := bad, big := 0 } }).setFldI
      P.TIME_STATUS.RATE integ
  | none =>
    let integ := clampI (-4294967) 4294967 (x.integ - tl)
    let again := decide (4 ≤ big) && x.due.isNone
    let x' := { x with integ := integ, good := good, bad := bad, big := if again || x.due.isSome then 0 else big,
                       step := if again then some [] else none, due := x.due.map (fun _ => theta) }
    (s.withHitch fun h => { h with xfer := x' }).setFldI P.TIME_STATUS.RATE (integ - 8 * tl)

/-- TIME_RSP: the parent's answer; `stamp` is its receive stamp (R376, R377). Whether an odd 2 theta rounds up or
down is free. -/
def execTimeRsp (t lane : Nat) (wire : LaneStreams) (stamp : Nat) (s : State) : Result :=
  if s.ctl.por then .next s else
  let s := s.at_ t
  match s.hitchReceive lane 0x20 wire with
  | (none, s) => .next s
  | (some b, s) =>
    match s.hitch.xfer.open_ with
    | none => .next s
    | some (id, t1, start) =>
      if leNat (b.take 1) ≠ id ∨ s.parentLane ≠ some lane ∨ start + 1000000 < s.now then .next s
      else
        let t2 := sext 64 (leNat ((b.drop 1).take 8))
        let t3 := sext 64 (leNat ((b.drop 9).take 8))
        let t4 := (stamp : Int) - s.rxDelay lane
        let d := (t1 - t2) + (t4 - t3) + sext 16 (wordFld (s.lanePhy lane).cfg P.LANE_CFG.ASYM)
        let s := s.withHitch fun h => { h with xfer := { h.xfer with open_ := none } }
        let (r, s) := s.draw 1
        let theta := if d % 2 = 0 then d / 2 else d / 2 + r
        .next ((s.setFldI P.TIME_STATUS.THETA (clampI (-2147483648) 2147483647 theta)).discipline d theta)

/-- TIME_EXCHANGE_MISS: no TIME_RSP within 1 ms (R376). -/
def execTimeExchangeMiss (t : Nat) (s : State) : Result :=
  if s.ctl.por then .next s else
  let s := s.at_ t
  match s.hitch.xfer.open_ with
  | some (_, _, start) =>
    if s.now < start + 1000000 then .next s
    else .next ((s.withHitch fun h => { h with xfer := { h.xfer with open_ := none } }).liveWrap P.HITCH_COUNTS.TIME_MISSES 1)
  | none => .next s

/-- EYE_SCAN_DONE: the dwell is over (R360). One bit lasts 0.16 ns. -/
def execEyeScanDone (t errors : Nat) (s : State) : Result :=
  if s.ctl.por then .next s else
  let s := s.at_ t
  match s.hitch.eye with
  | some e => if 25 * (s.now - e.start) < 4 * 2 ^ e.dwell then .next s else .next (s.eyeEnd e errors false)
  | none => .next s

/-- EYE_CTRL.START begins a scan (R360). -/
def State.eyeStart (s : State) : State :=
  let l := s.fld P.EYE_CTRL.LANE
  let s := (s.setFld P.EYE_CTRL.BUSY 1).slotStart K.EYE_RESULT
  s.withHitch fun h => { h with eye := some ⟨l, s.now, s.fld P.EYE_CTRL.DWELL, s.bit (P.LANE_STATUS.FROZEN.idx l)⟩ }

/-- Is a write of group 0x10 refused beside the ranges (R357, R360)? `new`: the merged word, WO bits as written. -/
def State.hitchRefused (s : State) (key : Nat) (new : Word) : Bool :=
  if key = K.HITCH_CMD then wordFld new P.HITCH_CMD.SLIP == 1 && s.laneSt (wordFld new P.HITCH_CMD.LANE) != 3
  else if key = K.EYE_CTRL then s.bit P.EYE_CTRL.BUSY ||
    (wordFld new P.EYE_CTRL.START == 1 && decide (s.laneSt (wordFld new P.EYE_CTRL.LANE) ≤ 1))
  else false

/-- A lane goes OFF: it detaches and sends nothing any more (Table 16.4, R356). -/
def State.laneOff (s : State) (l : Nat) : State :=
  let s := s.detachLane l 0
  (if s.laneSt l = 0 then s else s.skipsTo l s.now).setFld (P.LANE_STATUS.STATE.idx l) 0

/-- LANE_EN = 0 detaches a lane at once, to OFF (Table 16.4, R379). -/
def State.lanesOff (s : State) : State :=
  forUpto 8 (fun l s => if bitOf (s.fld P.HITCH_CTRL.LANE_EN) l then s else s.laneOff l) s

/-- A PHY group is switched off or the control complex restarts: every lane of the mask detaches and is OFF (R359, R457, R472). -/
def State.lanesDown (s : State) (mask : Nat) : State :=
  forEach (maskBits 8 mask) (fun l s => s.laneOff l) s

end Sys2Proof.Machine
end

