-- ==== Sys2Proof/Machine/Supervisor.lean ====
section
/-! DEFINITION. The safety supervisor: frame results, verdicts, coverage, causes, safety inputs and outputs
(14_paddocks_and_halter.md R321 to R335, R510). -/
namespace Sys2Proof.Machine

/-- Verdict of a Paddock (P.0E04): 0 CLEAR, 1 PENDING, 2 INTRUSION, 3 STARTING. -/
def verdictRef (p : Nat) : FieldRef := P.PD_STATE.VERDICT.sub p 4
/-- Coverage of a Paddock (P.0E04): 0 FULL, 1 HALTER, 2 SAFE, 3 not enabled. -/
def coverageRef (p : Nat) : FieldRef := P.PD_STATE.COVERAGE.sub p 4
/-- The verdict of a Paddock. -/
def State.verdict (s : State) (p : Nat) : Nat := s.fld (verdictRef p)
/-- The coverage of a Paddock. -/
def State.coverage (s : State) (p : Nat) : Nat := s.fld (coverageRef p)

/-- A Paddock enters STARTING with FULL coverage (R322, R327). Its run of mismatch frames goes on (R321). -/
def State.padStart (s : State) (p : Nat) : State :=
  let s := s.withPad p fun x => { x with clear := 0, halterFrom := none, halterDue := false, goodFrames := 0 }
  (s.setFld (verdictRef p) 3).setFld (coverageRef p) 0

/-- A Paddock is not enabled. -/
def State.padStop (s : State) (p : Nat) : State :=
  let s := s.withPad p fun x => { x with
    clear := 0, halterFrom := none, halterDue := false, goodFrames := 0, mismatchRun := 0, active := false }
  (s.setFld (verdictRef p) 3).setFld (coverageRef p) 3

/-- Bit `i` of a mask cleared. -/
def clearBit (m i : Nat) : Nat := if bitOf m i then m - 2 ^ i else m

/-- Is bit `i` among the causes an accepted SAFE_RESET is about to clear? -/
def State.clearing (s : State) (i : Nat) : Bool := s.sup.resetAsked.any (fun m => bitOf m.1 i)

/-- A die-level cause is registered (Table 14.4, R327); a cause newly latched writes its entry. One that an accepted
SAFE_RESET was about to clear is latched anew. -/
def State.safeCause (s : State) (i : Nat) : State :=
  let again := s.clearing i
  let s := s.withSup fun u => { u with
    present := u.present ||| 2 ^ i, resetAsked := u.resetAsked.map (fun m => (clearBit m.1 i, m.2)) }
  if s.bit (P.SAFETY_STATUS.SAFE_CAUSE.bitAt i) ∧ !again then s
  else
    let s := (s.setFld (P.SAFETY_STATUS.SAFE_CAUSE.bitAt i) 1).setFlag P.SAFETY_FLAGS.SAFE_SEEN
    s.record 0x0E02 1 true false (leBytes 1 (2 ^ i))

/-- A die-level cause is no longer present; it stays latched. -/
def State.causeGone (s : State) (i : Nat) : State :=
  s.withSup fun u => { u with present := clearBit u.present i }

/-- The rows a Paddock's banks hold (R324). -/
def State.padRows (s : State) (p : Nat) : List Nat :=
  ((maskBits 16 (s.forceFld (P.PD_ACT.BANK_MASK.idx p))).map (fun b => (List.range 24).map (fun i => 24 * b + i))).flatten

/-- How many of a Paddock's coverage rows a frame lost. -/
def State.rowsLost (s : State) (p : Nat) (lost : SMap Bool) : Nat :=
  ((s.padRows p).filter (fun r => Map.get false lost r)).length

/-- A Paddock's verdict at a fired frame's results (Table 14.1). -/
def State.verdictStep (s : State) (p : Nat) (occupied : Bool) (lost : Nat) : State :=
  let n := s.forceFld P.PD_CTRL.CLEAR_FRAMES
  let c := (s.pad p).clear
  let count := fun (s : State) (k : Nat) => s.withPad p fun x => { x with clear := k }
  let clearAt := fun (s : State) (k : Nat) => if n ≤ k then (count s 0).setFld (verdictRef p) 0 else count s k
  match s.verdict p with
  | 3 => if occupied then count s 0 else if lost = 0 then clearAt s (c + 1) else count s 0
  | 0 => if occupied then s.setFld (verdictRef p) 1 else s
  | 1 => if occupied then (count (s.setFld (verdictRef p) 2) 0).setFlag (P.SAFETY_FLAGS.INTRUSION_SEEN.bitAt p)
    else s.setFld (verdictRef p) 0
  | _ => if occupied then count s 0 else clearAt s (c + 1)

/-- A Paddock's coverage becomes SAFE. -/
def State.padSafe (s : State) (p : Nat) : State :=
  (s.withPad p fun x => { x with halterFrom := none, halterDue := false, goodFrames := 0 }).setFld (coverageRef p) 2

/-- A Paddock's coverage at a frame's results (Table 14.2, R325); not asked while its verdict is STARTING. -/
def State.coverageStep (s : State) (p : Nat) (fired : Bool) (boundary lost : Nat) : State :=
  let rows := (s.padRows p).length
  if rows = 0 then s
  else match s.coverage p with
  | 0 =>
    if lost = rows then s.padSafe p
    else if 0 < lost then
      let s := (s.withPad p fun x => { x with halterFrom := some boundary, goodFrames := 0 }).setFld (coverageRef p) 1
      let s := (s.setFlag (P.SAFETY_FLAGS.HALTER_SEEN.bitAt p)).liveWrap P.SAFETY_COUNTS.HALTER_ENTRIES 1
      s.record 0x0E01 1 false true (leBytes 1 p ++ leBytes 2 lost)
    else s
  | 1 =>
    if lost = rows then s.padSafe p
    else if 0 < lost then s.withPad p fun x => { x with goodFrames := 0 }
    else if fired then
      if 1 ≤ (s.pad p).goodFrames then
        (s.withPad p fun x => { x with halterFrom := none, halterDue := false, goodFrames := 0 }).setFld (coverageRef p) 0
      else s.withPad p fun x => { x with goodFrames := x.goodFrames + 1 }
    else s
  | _ => s

/-- Does a Paddock's frame mismatch (R321)? -/
def State.mismatch (s : State) (p ev sv : Nat) : Bool :=
  let m := s.fld (P.PD_CFG.MIN_POINTS.idx p)
  decide (s.forceFld P.PD_CTRL.CMP_TOL < (ev - sv) + (sv - ev)) || (decide (m ≤ ev) && sv == 0) || (decide (m ≤ sv) && ev == 0)

/-- The comparison of the two evaluations (R321). -/
def State.compareCounts (s : State) (r : FrameResult) (pads : List Nat) : State :=
  let n := s.forceFld P.PD_CTRL.CMP_FRAMES
  let bad := pads.filter (fun p => s.mismatch p (Map.get 0 r.cEv p) (Map.get 0 r.cSv p))
  let s := forEach pads (fun p s => s.withPad p fun x => { x with mismatchRun := if bad.contains p then x.mismatchRun + 1 else 0 }) s
  let s := if bad.isEmpty then s else (s.setFlag P.SAFETY_FLAGS.COMPARE_SEEN).liveWrap P.SAFETY_COUNTS.MISMATCH_FRAMES 1
  if pads.any (fun p => decide (n ≤ (s.pad p).mismatchRun)) then s.safeCause 0 else s.causeGone 0

/-- A frame's results are applied (R510). -/
def State.applyResult (s : State) (r : FrameResult) : State :=
  let pads := (List.range 16).filter (fun p => s.padOn p && decide ((s.pad p).since < r.boundary))
  let s := s.withSup fun u => { u with result := none, lostRows := r.lostRows }
  let s := s.compareCounts r pads
  let s := forEach pads (fun p s =>
    let lost := s.rowsLost p r.lostRows
    let starting := s.verdict p == 3
    let m := s.fld (P.PD_CFG.MIN_POINTS.idx p)
    let occ := decide (m ≤ Map.get 0 r.cEv p) || decide (m ≤ Map.get 0 r.cSv p)
    let s := if r.fired then s.verdictStep p occ lost else s
    if !starting ∧ (r.fired ∨ 0 < lost) then s.coverageStep p r.fired r.boundary lost else s) s
  s.setFld P.SAFETY_STATUS.DEGRADED_COV
    (ofBit (pads.any (fun p => (s.padRows p).any (fun i => Map.get false r.degraded i))))

/-- Has HALTER_S passed since a Paddock entered HALTER (Table 14.2)? -/
def State.halterOver (s : State) (p : Nat) : Bool :=
  s.coverage p == 1 &&
    (s.pad p).halterFrom.any (fun b => decide (b + (s.forceFld P.PD_CTRL.HALTER_S * 1000000000 : Nat) ≤ (s.now : Int)))

/-- A task tick at or after HALTER_S makes a Paddock's coverage SAFE (Table 14.2). -/
def State.halterExpire (s : State) (p : Nat) : State :=
  if s.halterOver p || (s.coverage p == 1 && (s.pad p).halterDue) then s.padSafe p else s

/-- Activation from the inputs' logical values (R323). -/
def State.activate (s : State) (p : Nat) : State :=
  let m := s.forceFld (P.PD_ACT.ACT_MASK.idx p)
  let a := s.padOn p && ((s.fld P.SAFETY_STATUS.IN_VAL &&& m) == s.forceFld (P.PD_ACT.ACT_VALUE.idx p))
  s.withPad p fun x => { x with active := a }

/-- Is a safety output ON (R326, R473)? -/
def State.outputOn (s : State) (o : Nat) : Bool :=
  !s.bit P.RESET_STATUS.START_LATCH && s.fld P.SAFETY_STATUS.SAFE_CAUSE == 0 && s.sup.present == 0 &&
  !s.thermalPresent && !bitOf (s.fld P.SAFETY_STATUS.OUT_FAULT) o &&
  (List.range 16).all (fun p => !((s.pad p).active && bitOf (s.forceFld (P.PD_ACT.OUT_MAP.idx p)) o) ||
    (decide (s.verdict p ≤ 1) && decide (s.coverage p ≤ 1)))

/-- A safety input (R330). -/
def State.sin (s : State) (i : Nat) : SafetyInput := Map.get {} s.sup.inputs i
/-- Change a safety input. -/
def State.withSin (s : State) (i : Nat) (f : SafetyInput → SafetyInput) : State :=
  s.withSup fun u => { u with inputs := Map.modify {} u.inputs i f }
/-- A channel of a safety output (R332): 2o + ch. -/
def State.sout (s : State) (c : Nat) : SafetyChannel := Map.get {} s.sup.chans c
/-- Change a channel. -/
def State.withSout (s : State) (c : Nat) (f : SafetyChannel → SafetyChannel) : State :=
  s.withSup fun u => { u with chans := Map.modify {} u.chans c f }

/-- Keep since when something has held of a pair. -/
def sinceWhen (m : SMap Nat) (p : Nat) (holds : Bool) (now : Nat) : SMap Nat :=
  if holds then (if (Map.find? m p).isSome then m else Map.insert m p now) else Map.erase m p

/-- The logical value of an input: its filtered level, or its SAFE_VAL bit while it is faulted (R330, R331). -/
def State.inLogical (s : State) (i : Nat) : Bool :=
  if (s.sin i).fault then bitOf (s.forceFld P.SIO_CFG.SAFE_VAL) i else (s.sin i).filt

/-- Show the logical values in IN_VAL, and keep since when the inputs of each pair disagree (R331). -/
def State.showInputs (s : State) : State :=
  let s := forUpto 8 (fun i s => s.setFld (P.SAFETY_STATUS.IN_VAL.bitAt i) (ofBit (s.inLogical i))) s
  forUpto 4 (fun p s => s.withSup fun u => { u with
    disagree := sinceWhen u.disagree p (s.inLogical (2 * p) != s.inLogical (2 * p + 1)) s.now,
    apart := sinceWhen u.apart p ((s.sin (2 * p)).filt != (s.sin (2 * p + 1)).filt) s.now }) s

/-- Drive an output: both channels, the count of entries into the safe state and the recorder's event (R326). -/
def State.driveOutput (s : State) (o : Nat) : State :=
  let was := bitOf (s.fld P.SAFETY_STATUS.OUT_ON) o
  let on := s.outputOn o
  if was = on then s
  else
    let s := s.setFld (P.SAFETY_STATUS.OUT_ON.bitAt o) (ofBit on)
    let s := (s.emit (.pin "SOUT" (2 * o) s.now (ofBit on))).emit (.pin "SOUT" (2 * o + 1) s.now (ofBit on))
    let s := forEach [2 * o, 2 * o + 1] (fun c s => s.withSout c fun x => { x with pulse := none }) s
    if on then s else (s.liveWrap P.SAFETY_COUNTS.SAFE_ENTRIES 1).recEvent 7 0

/-- Drive both outputs. -/
def State.driveOutputs (s : State) : State := (s.driveOutput 0).driveOutput 1

/-- An accepted SAFE_RESET takes effect at its task tick (R327, R334, R473): what was latched at its acceptance
clears; what was registered since stays. -/
def State.applySafeReset (s : State) : State :=
  match s.sup.resetAsked with
  | none => s
  | some (c, i, o) =>
    let less := fun (x m : Nat) => x - (x &&& m)
    let s := s.withSup fun u => { u with resetAsked := none }
    let s := s.setFld P.SAFETY_STATUS.SAFE_CAUSE (less (s.fld P.SAFETY_STATUS.SAFE_CAUSE) c)
    let s := s.setFld P.SAFETY_STATUS.IN_FAULT (less (s.fld P.SAFETY_STATUS.IN_FAULT) i)
    let s := s.setFld P.SAFETY_STATUS.OUT_FAULT (less (s.fld P.SAFETY_STATUS.OUT_FAULT) o)
    let s := s.setFld P.RESET_STATUS.START_LATCH 0
    let s := forEach (maskBits 8 i) (fun k s => s.withSin k fun x => { x with fault := false }) s
    forEach ((List.range 16).filter s.padOn) (fun p s => s.padStart p) s

/-- Has a pair disagreed longer than DISC_MS (R331), by the given record of since when? -/
def State.discrepant (s : State) (m : SMap Nat) (p : Nat) : Bool :=
  bitOf (s.forceFld P.SIO_CFG.PAIR) p && (match Map.find? m p with
    | some t => decide (t + s.forceFld P.SIO_CFG.DISC_MS * 1000000 < s.now)
    | none => false)

/-- Does the fault of an input persist: an outstanding finding, or its pair's discrepancy? DEDUCED (notes/assumptions 27):
here the filtered levels count, since a faulted pair's logical values are its SAFE_VAL bits whatever the pins show. -/
def State.inputFaultPersists (s : State) (i : Nat) : Bool :=
  let x := s.sin i
  x.fault && (x.stuck.isSome || !x.cross.isEmpty || s.discrepant s.sup.apart (i / 2))

/-- Does the fault of an output persist: a wrong reading at the last sample of one of its channels? -/
def State.outputFaultPersists (s : State) (o : Nat) : Bool :=
  bitOf (s.fld P.SAFETY_STATUS.OUT_FAULT) o &&
    (decide (0 < (s.sout (2 * o)).wrong) || decide (0 < (s.sout (2 * o + 1)).wrong))

/-- May a SAFE_RESET be accepted now (R327)? -/
def State.safeResetOk (s : State) : Bool :=
  s.sup.present == 0 && !s.thermalPresent && (List.range 8).all (fun i => !s.inputFaultPersists i) &&
  (List.range 2).all (fun o => !s.outputFaultPersists o) &&
  (List.range 16).all (fun p => !s.padOn p || s.rowsLost p s.sup.lostRows == 0)

/-- An accepted SAFE_RESET waits for the next task tick; a control restart under way wins (R486). -/
def State.safeReset (s : State) : State :=
  if s.ctl.restart.isSome then s
  else s.withSup fun u => { u with resetAsked := some (s.fld P.SAFETY_STATUS.SAFE_CAUSE, s.fld P.SAFETY_STATUS.IN_FAULT,
    s.fld P.SAFETY_STATUS.OUT_FAULT) }

/-- The supervisor's part of a task tick (R510): configuration, SAFE_RESET, results, verdicts, coverage, outputs. -/
def State.supervise (s : State) : State :=
  let s := forEach ([K.PD_CTRL, K.PD_GEOM, K.SIO_CFG] ++ (List.range 16).map (K.PD_ACT + ·)) (fun k s => s.takeForce k) s
  let s := s.applySafeReset.showInputs
  let s := match s.sup.result with
    | some r => if r.boundary < s.now then s.applyResult r else s
    | none => s
  let s := forUpto 16 (fun p s => s.halterExpire p) s
  let s := forUpto 16 (fun p s => s.activate p) s
  let s := s.driveOutputs
  -- one-cycle causes have been acted on (R326): they stay latched
  (s.causeGone 1).causeGone 2

/-- HALTER_TIMEOUT: HALTER_S has passed; the first task tick at or after that time makes the coverage SAFE (R324). -/
def execHalterTimeout (t paddock : Nat) (s : State) : Result :=
  if s.ctl.por then .next s else
  let s := s.at_ t
  if 16 ≤ paddock ∨ !s.halterOver paddock then .next s
  else .next (s.withPad paddock fun x => { x with halterDue := true })

/-- TURNAROUND_SELFTEST: 8 test points per enabled Paddock went through every evaluator and the engine (Table 14.8). -/
def execTurnaroundSelftest (t : Nat) (passed : Bool) (s : State) : Result :=
  if s.ctl.por then .next s else
  let s := s.at_ t
  if !s.anyPad then .next s
  else if passed then .next (s.causeGone 5)
  else .next ((s.liveWrap P.SAFETY_COUNTS.SELFTEST_FAILS 1).safeCause 5)

/-- LOCKSTEP_MISMATCH: the supervisor's two cores disagree (Table 14.4). -/
def execLockstepMismatch (t : Nat) (s : State) : Result :=
  if s.ctl.por then .next s else
  .next ((s.at_ t).safeCause 1)

/-- SUPERVISOR_MEMORY_ERROR: an uncorrectable word in safety memory (Table 14.4). -/
def execSupervisorMemoryError (t : Nat) (s : State) : Result :=
  if s.ctl.por then .next s else
  .next ((s.at_ t).safeCause 2)

/-- SAFETY_CLOCK_CHECK: the oscillator's departure from the time base in ppm; beyond ±5 % is CLOCK (Table 14.4). -/
def execSafetyClockCheck (t : Nat) (ppm : Int) (s : State) : Result :=
  if s.ctl.por then .next s else
  let s := s.at_ t
  .next (if 50000 < ppm.natAbs then s.safeCause 3 else s.causeGone 3)

/-- TPS_PULSE: supply j goes low for 400 µs at 20,000,000 m + 5,000,000 j ns (R329). -/
def execTpsPulse (t supply : Nat) (s : State) : Result :=
  if s.ctl.por then .next s else
  if 4 ≤ supply ∨ t % 20000000 ≠ 5000000 * supply then .next s
  else .next (((s.at_ t).emit (.pin "TPS" supply t 0)).emit (.pin "TPS" supply (t + 400000) 1))

/-- The supply in whose pulse a time lies, or the one whose pulse ended at most 100 µs before (R330). -/
def testPulseOf (t : Nat) : Option (Nat × Bool) :=
  let d := t % 5000000
  if d < 400000 then some (t % 20000000 / 5000000, true)
  else if d ≤ 500000 then some (t % 20000000 / 5000000, false)
  else none

/-- An input fault with its finding (R331): 0 stuck high, 1 cross-short, 2 pair discrepancy. One found again stays through a
SAFE_RESET accepted before. -/
def State.inputFault (s : State) (i finding other : Nat) : State :=
  if (s.sin i).fault then s.withSup fun u => { u with resetAsked := u.resetAsked.map (fun m => (m.1, clearBit m.2.1 i, m.2.2)) }
  else
    let s := s.withSin i fun x => { x with fault := true }
    let s := (s.setFld (P.SAFETY_STATUS.IN_FAULT.bitAt i) 1).showInputs
    (s.setFlag (P.SAFETY_FLAGS.IN_FAULT_SEEN.bitAt i)).record 0x0E03 1 true true
      (leBytes 1 0 ++ leBytes 1 i ++ leBytes 1 finding ++ leBytes 1 other)

/-- An input fault whose byte "other supply or pin" the manual does not define. -/
def State.inputFaultFree (s : State) (i finding : Nat) : State :=
  let (d, s) := s.draw 8
  s.inputFault i finding d

/-- A test sample: the last within a pulse decides (R330). `m`: the 20 ms period. -/
def State.testSample (s : State) (i supply m : Nat) (level : Bool) : State :=
  let x := s.sin i
  if s.forceFld (⟨K.SIO_CFG, 2 * i + 17, 2 * i + 16⟩) = supply then
    if level then
      let s := s.withSin i fun x => { x with stuck := some m }
      if x.stuck.any (fun p => decide (p + 1 = m)) then s.inputFaultFree i 0 else s
    else s.withSin i fun x => { x with stuck := none }
  else if x.value ∧ !level then
    let s := s.withSin i fun x => { x with cross := Map.insert x.cross supply m }
    if (Map.find? x.cross supply).any (fun p => decide (p + 1 = m)) then s.inputFault i 1 supply else s
  else s.withSin i fun x => { x with cross := Map.erase x.cross supply }

/-- A value sample (R330). -/
def State.valueSample (s : State) (i : Nat) (level : Bool) : State :=
  s.withSin i fun x => { x with
    value := level
    newSince := if level = x.filt then none else if x.newSince.isSome then x.newSince else some s.now }

/-- SAFETY_INPUT_SAMPLE: the eight inputs are sampled (R330). -/
def execSafetyInputSample (t levels : Nat) (s : State) : Result :=
  if s.ctl.por then .next s else
  let s := s.at_ t
  match testPulseOf t with
  | none => .next (forUpto 8 (fun i s => s.valueSample i (bitOf levels i)) s)
  | some (j, inside) =>
    if inside ∧ 300000 ≤ t % 5000000 then .next (forUpto 8 (fun i s => s.testSample i j (t / 20000000) (bitOf levels i)) s)
    else .next s

/-- IN_FILTER_EXPIRY: value samples have shown a new level for IN_FILTER ms (R330). -/
def execInFilterExpiry (t input : Nat) (s : State) : Result :=
  if s.ctl.por then .next s else
  let s := s.at_ t
  let x := s.sin input
  match x.newSince with
  | some a =>
    if input < 8 ∧ a + s.forceFld P.SIO_CFG.IN_FILTER * 1000000 ≤ s.now then
      .next (s.withSin input fun x => { x with filt := x.value, newSince := none }).showInputs
    else .next s
  | none => .next s

/-- PAIR_DISCREPANCY: the inputs of a pair have disagreed for longer than DISC_MS (R331). -/
def execPairDiscrepancy (t pair : Nat) (s : State) : Result :=
  if s.ctl.por then .next s else
  let s := s.at_ t
  if 4 ≤ pair ∨ !s.discrepant s.sup.disagree pair then .next s
  else .next ((s.inputFaultFree (2 * pair) 2).inputFaultFree (2 * pair + 1) 2)

/-- SOUT_TEST_PULSE: a channel of an ON output goes low for 10 × OUT_TP µs (R332). -/
def execSoutTestPulse (t output ch : Nat) (s : State) : Result :=
  if s.ctl.por then .next s else
  if 2 ≤ output ∨ 2 ≤ ch ∨ t % 20000000 ≠ 2500000 + 5000000 * (2 * output + ch) ∨ !bitOf (s.fld P.SAFETY_STATUS.OUT_ON) output then .next s
  else
    let s := s.at_ t
    let c := 2 * output + ch
    let e := t + 10000 * s.forceFld P.SIO_CFG.OUT_TP
    .next ((s.withSout c fun x => { x with pulse := some (t, e) }).emit (.soutPulse c t e))

/-- The level a channel must read at a sample (R332). -/
def State.soutExpected (s : State) (c : Nat) : Bool :=
  bitOf (s.fld P.SAFETY_STATUS.OUT_ON) (c / 2) && !((s.sout c).pulse.any (fun p => decide (p.1 ≤ s.now ∧ s.now ≤ p.2)))

/-- An output fault (R332). One found again stays through a SAFE_RESET accepted before (R327). -/
def State.outputFault (s : State) (c : Nat) : State :=
  let o := c / 2
  if bitOf (s.fld P.SAFETY_STATUS.OUT_FAULT) o then
    s.withSup fun u => { u with resetAsked := u.resetAsked.map (fun m => (m.1, m.2.1, clearBit m.2.2 o)) }
  else
    let s := (s.setFld (P.SAFETY_STATUS.OUT_FAULT.bitAt o) 1).setFlag (P.SAFETY_FLAGS.OUT_FAULT_SEEN.bitAt o)
    (s.record 0x0E03 1 true false (leBytes 1 1 ++ leBytes 1 o ++ leBytes 1 3 ++ leBytes 1 c)).driveOutput o

/-- SOUT_READBACK: the pad levels of the four channels are read back, each against what it drives at the sample (R332). -/
def execSoutReadback (t levels : Nat) (s : State) : Result :=
  if s.ctl.por then .next s else
  let s := s.at_ t
  let right := (List.range 4).map (fun c => bitOf levels c == s.soutExpected c)
  .next (forUpto 4 (fun c s =>
    if right.getD c true then s.withSout c fun x => { x with wrong := 0 }
    else
      let n := (s.sout c).wrong + 1
      let s := s.withSout c fun x => { x with wrong := n }
      if 2 ≤ n then s.outputFault c else s) s)

end Sys2Proof.Machine
end

