-- ==== Sys2Proof/Machine/Power.lean ====
section
/-! DEFINITION. Power domains and states, reference and PLLs (20_clocks_power_thermal.md R446 to R458, R511). -/
namespace Sys2Proof.Machine

/-- Replace the power record. -/
def State.withPower (s : State) (f : Power → Power) : State := { s with power := f s.power }

/-- The domains of a power state: 0 RUN, 1 HOLD, 2 STANDBY (Table 20.6). -/
def State.stateDomains (s : State) (st : Nat) : Nat :=
  let off := s.fld P.PWR_CTRL.HITCH_OFF
  let base := 2 ^ 30 + 2 ^ 34 + 2 ^ 35 + (if bitOf off 0 then 0 else 2 ^ 28) + (if bitOf off 1 then 0 else 2 ^ 29)
  match st with
  | 0 => base + (2 ^ 28 - 1) + 2 ^ 31 + 2 ^ 32 + 2 ^ 33
  | 1 => base + 2 ^ 31 + 2 ^ 32 + 2 ^ 33
  | _ => base + (if s.bit P.PWR_CTRL.HK_OFF then 0 else 2 ^ 32)

/-- Does a buffer key belong to a channel of a cluster? -/
def ofCluster (k key : Nat) : Bool := key / 64 == k

/-- A cluster's logic switches off: fades complete at once, and every buffer that is not FROZEN is in READ when ranging
resumes (R106, R121). -/
def State.logicOff (s : State) (k : Nat) : State :=
  let s := s.withCluster k fun c => { c.settle with solver := [] }
  let bufs := (s.hist.bufs.map (fun (e : Nat × Buf) =>
    if ofCluster k e.1 && e.2.st != .frozen then (e.1, { e.2 with st := .read }) else e)).filter
      (fun (e : Nat × Buf) => decide (e.2 ≠ ({} : Buf)))
  { s with hist := { s.hist with bufs := bufs } }

/-- A cluster's SRAM loses its contents, and every bank returns to the default template; frozen content lost is flagged when
the SRAM is powered up again (R106, Table 5.4). DESIGN CHOICE (notes/assumptions 43): a dump request in progress goes on
without the buffers lost. -/
def State.sramLost (s : State) (k : Nat) : State :=
  let frozen := s.hist.bufs.any (fun e => ofCluster k e.1 && e.2.st == .frozen)
  let h := s.hist
  let s := { s with hist := { h with
    words := h.words.filter (fun e => !ofCluster k (e.1 / 4096)), rows := h.rows.filter (fun e => !ofCluster k (e.1 / 256)),
    bufs := h.bufs.filter (fun e => !ofCluster k e.1),
    frozenLost := if frozen then h.frozenLost ||| 2 ^ k else h.frozenLost } }
  (s.withCluster k fun c => { c with banks := [], active := 0, fade := none, held := none, commits := [] }).setFlag
    P.TPL_CTRL.TPL_RESTORED

/-- A region switches off: its cores lose their memories and its history is lost (R159, R170). -/
def State.regionOff (s : State) (r : Nat) : State :=
  let s := (s.coresLost r).withStream r Stream.forget
  let s := { s with evoth := { s.evoth with
    queues := Map.erase s.evoth.queues r, peaks := Map.erase s.evoth.peaks r, reloading := s.evoth.reloading ||| 2 ^ r } }
  s.setFlag (P.STREAM_FLAGS.HISTORY_LOST.bitAt r)

/-- Emitter and mirror control switches off: its outputs rest and the repetitive tables are cleared (R244, R457). -/
def State.motionOff (s : State) : State :=
  let s := (s.mirrorOff.setDrive (s.fld P.MIR_STATUS.BRIDGE) .off s.now).rcClear
  forUpto 4 (fun k s => (s.setChgState k 0).setCharger k ((s.charger k).drive false s.now)) s

/-- What switching a domain off does to the matter it holds (R455). -/
def State.domainOff (s : State) (b : Nat) : State :=
  if b < 12 then s.logicOff b
  else if b < 24 then s
  else if b < 28 then s.regionOff (b - 24)
  else match b with
    | 28 => s.lanesDown 0x0F
    | 29 => s.lanesDown 0xF0
    | 31 => s.feOff
    | 32 => { s with hk := { s.hk with convs := [] } }
    | 33 => s.motionOff
    | _ => s

/-- A cluster's SRAM is powered up: HIST_FREEZE_LOST is set where frozen content was lost with its power (R106). -/
def State.sramUp (s : State) (k : Nat) : State :=
  if bitOf s.hist.frozenLost k then
    ({ s with hist := { s.hist with frozenLost := s.hist.frozenLost - 2 ^ k } }).setFlag P.HIST_FLAGS.HIST_FREEZE_LOST
  else s

/-- What switching a domain on does (R106, R288, R300, R308, R457). -/
def State.domainOn (s : State) (b : Nat) : State :=
  if b < 12 then s.gatherRestart b
  else if b < 24 then s.sramUp (b - 12)
  else match b with
    | 31 => s.feOn
    | 32 => s.hkPowerUp
    | 33 => forUpto 4 (fun k s => s.chargerEnable k) s
    | _ => s

/-- Switch the domains to a set; `ret`: the histogram SRAM domains not in it go to retention rather than off. Domains
switch on in the order of R456. -/
def State.setDomains (s : State) (on : Nat) (ret : Bool) : State :=
  let was := s.fld P.PWR_STATUS.DOMAIN_ON
  let wasRet := s.fld P.PWR_STATUS.SRAM_RET
  let s := forEach ((List.range 36).filter (fun b => bitOf was b && !bitOf on b)) (fun b s => s.domainOff b) s
  let s := forUpto 12 (fun k s =>
    if (bitOf was (12 + k) || bitOf wasRet k) && !bitOf on (12 + k) && !ret then s.sramLost k else s) s
  let s := (s.setFld P.PWR_STATUS.DOMAIN_ON on).withFar fun f => { f with runOn := f.runOn &&& on }
  let s := s.setFld P.PWR_STATUS.SRAM_RET (if ret then sumN ((List.range 12).map (fun k => if bitOf on (12 + k) then 0 else 2 ^ k)) else 0)
  let up := fun b => !bitOf was b && bitOf on b
  let s := forEach ([32, 31, 33, 28, 29] ++ (List.range 12).map (· + 12) ++ List.range 12) (fun b s => if up b then s.domainOn b else s) s
  s.installSets (some (sumN ((List.range 12).map (fun k => if up k then 2 ^ k else 0))))

/-- A power state comes into force (R456); RUN starts the start-up run where none has been installed (R305). -/
def State.stateInForce (s : State) (st : Nat) : State :=
  let s := s.setDomains (s.stateDomains st) (st == 1)
  let s := (s.setFld P.PWR_STATUS.STATE st).setFld P.PWR_STATUS.TRANSITION 0
  let s := s.withPower fun p => { p with target := none, draining := false }
  if st = 0 ∧ !s.bit P.CAL_STATUS.STARTUP_DONE ∧ !s.farrier.startup then s.calRequest 0 else s

/-- Is a stop or cut latched (R466)? -/
def State.thermLatched (s : State) : Bool := decide (2 ≤ s.fld P.THERM_STATUS.THERM_STATE)

/-- Is a write of PWR_CTRL refused (Table 20.7, R288)? `cov`: the bits it covers; `new`: the word it would leave. -/
def State.powerRefused (s : State) (cov new : Word) : Bool :=
  let old := s.reg K.PWR_CTRL
  let cur := s.fld P.PWR_STATUS.STATE
  let asks := wordFld cov P.PWR_CTRL.STATE ≠ 0
  let st := wordFld new P.PWR_CTRL.STATE
  let set := fun (g : Nat) => bitOf (wordFld new P.PWR_CTRL.HITCH_OFF) g && !bitOf (wordFld old P.PWR_CTRL.HITCH_OFF) g
  s.bit P.PWR_STATUS.TRANSITION || s.power.stop.isSome ||
  (decide asks && (match st with
    | 0 => s.thermLatched
    | 1 => (cur == 0 && (s.bit P.EMIT_CTRL.EMIT_EN || decide (2 ≤ s.mirSt))) || (cur == 2 && s.thermLatched)
    | _ => s.mirSt != 0)) ||
  (List.range 2).any (fun g => set g && decide (s.fld P.HITCH_CTRL.LANE_EN / 16 ^ g % 16 ≠ 0)) ||
  (wordFld new P.PWR_CTRL.HK_OFF == 1 && wordFld old P.PWR_CTRL.HK_OFF == 0 && decide (cur ≠ 2) &&
    !(decide asks && decide (st = 2)))

/-- Does a state switch region and cluster logic off that is on now? -/
def State.switchesOff (s : State) (st : Nat) : Bool := decide (st ≠ 0) && s.fld P.PWR_STATUS.STATE == 0

/-- An accepted write of PWR_CTRL (R456, R511): the Hitch groups and, in STANDBY, the housekeeping domain follow at
once; a change of state runs until its domains have switched. -/
def State.powerWritten (s : State) (cov : Word) : State :=
  let cur := s.fld P.PWR_STATUS.STATE
  let st := s.fld P.PWR_CTRL.STATE
  let was := s.fld P.PWR_STATUS.DOMAIN_ON
  let keep := was - (was &&& (2 ^ 28 + 2 ^ 29 + (if cur = 2 then 2 ^ 32 else 0)))
  let s := s.setDomains (keep + (s.stateDomains cur &&& (2 ^ 28 + 2 ^ 29 + (if cur = 2 then 2 ^ 32 else 0)))) (cur == 1)
  if wordFld cov P.PWR_CTRL.STATE ≠ 0 ∧ st ≠ cur then
    let s := s.setFld P.PWR_STATUS.TRANSITION 1
    let s := s.withPower fun p => { p with target := some st, draining := decide (cur < st) }
    if s.switchesOff st then s.cutFrame false else s
  else s

/-- POWER_TRANSITION_DONE: the domains of the requested state have switched on (R456, R458). -/
def execPowerTransitionDone (t : Nat) (s : State) : Result :=
  if s.ctl.por then .next s else
  match s.power.target with
  | some st => if s.power.draining then .next s else .next ((s.at_ t).stateInForce st)
  | none => .next s

/-- PLL states (Table 20.14): 0 LOCKING, 1 LOCKED, 2 HOLDOVER, 3 RELOCK. -/
def State.pll (s : State) : Nat := s.fld P.CLK_STATUS.PLL_STATE

/-- REF_LOST: no rising edge for 140 ns (R446, R447). -/
def execRefLost (t : Nat) (s : State) : Result :=
  if s.ctl.por then .next s else
  if !s.bit P.CLK_STATUS.REF_PRESENT then .next s
  else
    let s := (s.at_ t).setFld P.CLK_STATUS.REF_PRESENT 0
    let s := if s.pll = 1 ∨ s.pll = 3 then
        (s.setFld P.CLK_STATUS.PLL_STATE 2).withPower fun p => { p with lostAt := some s.now }
      else s
    .next ((s.setFlag P.CLK_THERM_FLAGS.REF_LOST_SEEN).record 0x1401 6 true true [])

/-- HOLD_MS as it stands: it counts while the PLLs are in HOLDOVER (Table 20.14). -/
def State.holdMs (s : State) : Nat :=
  match s.power.lostAt with
  | some t => if s.pll = 2 then capN (2 ^ 32 - 1) (((s.now : Int) - t).toNat / 1000000) else s.fld P.CLK_STATUS.HOLD_MS
  | none => s.fld P.CLK_STATUS.HOLD_MS

/-- REF_PRESENT: 1,024 good rising edges (R446, R447). -/
def execRefPresent (t : Nat) (s : State) : Result :=
  if s.ctl.por then .next s else
  if s.bit P.CLK_STATUS.REF_PRESENT then .next s
  else
    let s := s.at_ t
    let s := s.setFld P.CLK_STATUS.HOLD_MS s.holdMs
    let s := s.setFld P.CLK_STATUS.REF_PRESENT 1
    .next (if s.pll = 2 then s.setFld P.CLK_STATUS.PLL_STATE 3 else s)

/-- PLL_LOCKED: both loops are locked and the phase relation of R448 holds (R447, R450). -/
def execPllLocked (t : Nat) (s : State) : Result :=
  if s.ctl.por then .next s else
  if !s.bit P.CLK_STATUS.REF_PRESENT then .next s
  else match s.pll with
    | 0 => .next ((s.at_ t).setFld P.CLK_STATUS.PLL_STATE 1)
    | 3 => .next (((s.at_ t).setFld P.CLK_STATUS.PLL_STATE 1).setFlag P.CLK_THERM_FLAGS.RELOCKED_SEEN)
    | _ => .next s

/-- PFD_SHADOW_LOAD: the divider shadows are taken in on the first REFCLK edge after the boundary (R449). -/
def execPfdShadowLoad (t : Nat) (s : State) : Result :=
  if s.ctl.por then .next s else
  match s.power.pfdPend with
  | some d =>
    if s.power.pfdDue ∧ s.bit P.CLK_STATUS.REF_PRESENT then
      .next (((s.at_ t).setFld P.CLK_STATUS.PFD_CUR d.mode).withPower fun p => { p with
        dividers := d, pfdPend := none, pfdDue := false })
    else .next s
  | none => .next s

end Sys2Proof.Machine
end

