-- ==== Sys2Proof/Machine/TimeStep.lean ====
section
/-! DEFINITION. A step of the time base (16_hitch_links.md R377). The step changes what system time reads, and no interval that
runs: every moment that the device keeps in system time, to measure what has passed since or is still to pass, moves with it.
Moments that name a time of the team or of a peer (the switch times of epochs, the TIME of Bridle frames) and times that have
been recorded (records, captures, logs) stay as they are. DESIGN CHOICE (notes/assumptions 38): a moment that would lie
before 0 lies at 0, but for those that run longest, which are kept as integers; the supply periods of a safety input's findings
(R331) stay. -/
namespace Sys2Proof.Machine

/-- A moment after a step of `d`. -/
def shiftTime (d : Int) (t : Nat) : Nat := ((t : Int) + d).toNat

/-- The moments of a map. -/
def shiftMap (d : Int) (m : SMap Nat) : SMap Nat := m.map (fun e => (e.1, shiftTime d e.2))

/-- A span of two moments. -/
def shiftSpan (d : Int) (x : Nat × Nat) : Nat × Nat := (shiftTime d x.1, shiftTime d x.2)

/-- The first of a pair is a moment. -/
def shiftFst {α : Type} (d : Int) (x : Nat × α) : Nat × α := (shiftTime d x.1, x.2)

/-- Hold-offs, credits and gate edges; their moments are in 1/128 ns but for the credits' (R61, R70, R76). -/
def Stamping.shift (x : Stamping) (d : Int) : Stamping :=
  let gate := fun (g : Gate) => { g with edges := g.edges.map (shiftFst (128 * d)), active := g.active.map (shiftTime (128 * d)) }
  { x with
    chans := x.chans.map (fun e => (e.1, { e.2 with holdFrom := e.2.holdFrom.map (shiftTime (128 * d)) }))
    monHold := shiftMap (128 * d) x.monHold, creditAt := x.creditAt.map (shiftTime d)
    gateA := gate x.gateA, gateB := gate x.gateB
    stat := { x.stat with prev := x.stat.prev.map (shiftTime (128 * d)) } }

/-- Buffers and the dump (Table 4.7, R103). -/
def Histograms.shift (x : Histograms) (d : Int) : Histograms :=
  { x with
    bufs := x.bufs.map (fun e => (e.1, { e.2 with freedAt := e.2.freedAt.map (shiftTime d), maskAt := e.2.maskAt.map (shiftTime d) }))
    dump := x.dump.map (fun u => { u with asked := shiftTime d u.asked }) }

/-- Fades and commits (R120, Table 5.4). -/
def Cluster.shift (x : Cluster) (d : Int) : Cluster :=
  { x with
    fade := x.fade.map (fun f => { f with start := shiftTime d f.start })
    commits := x.commits.map (fun e => (e.1, shiftTime d e.2)) }

/-- Triggers and the unloading of the recorder (R196, R198, R200). -/
def Recorder.shift (x : Recorder) (d : Int) : Recorder :=
  { x with trigTime := shiftTime d x.trigTime, due := x.due.map (shiftFst d), unloadFrom := shiftTime d x.unloadFrom
           tick := x.tick.map (fun k => { k with at_ := shiftTime d k.at_ }) }

/-- Chargers and fire commands (R206, R213 to R217, Table 9.6). -/
def Emitters.shift (x : Emitters) (d : Int) : Emitters :=
  { x with
    chargers := x.chargers.map (fun e => (e.1, { e.2 with
      codes := e.2.codes.map (fun c => (c.1, shiftTime d c.2)), enSince := e.2.enSince.map (shiftTime d)
      faultTimes := e.2.faultTimes.map (· + d), lastCause := e.2.lastCause.map (shiftTime d) }))
    strayMon := x.strayMon.map (fun e => (e.1, e.2.map (shiftTime d)))
    fired := x.fired.map (fun e => (e.1, shiftSpan d e.2)) }

/-- An angle sample. -/
def AngSample.shift (d : Int) (a : AngSample) : AngSample := { a with t := shiftTime d a.t, arrived := shiftTime d a.arrived }

/-- The mirror's samples and moments (10_scan_mirror_loop.md). -/
def Mirror.shift (x : Mirror) (d : Int) : Mirror :=
  { x with
    onAt := x.onAt.map (shiftFst d), driveSince := shiftTime d x.driveSince
    takeover := x.takeover.map (shiftTime d), n := x.n.map (AngSample.shift d), m := x.m.map (AngSample.shift d)
    raw := x.raw.map (fun e => (e.1, shiftTime d e.2)), validSince := x.validSince.map (shiftTime d)
    sched := x.sched.map (fun u => { u with s := u.s.shift d }), lastTrig := x.lastTrig.map (shiftTime d)
    lastSkip := x.lastSkip.map (shiftTime d), runAt := x.runAt.map (shiftTime d), tickAt := x.tickAt.map (shiftTime d)
    downAt := x.downAt.map (shiftTime d) }

/-- A modulator sample after a step: samples are at the multiples of 50 ns of the time that is then in force (R256). -/
def shiftSample (d : Int) (t : Nat) : Nat := (shiftTime d t + 49) / 50 * 50

/-- A converter (11_sense_front_end.md). -/
def Conv.shift (x : Conv) (d : Int) : Conv :=
  let sample := shiftSample d
  { x with
    grids := x.grids.map (fun g => { g with t0 := sample g.t0, stop := g.stop.map sample })
    syncDue := x.syncDue.map sample, ranges := x.ranges.map (fun e => (sample e.1, e.2))
    flagged := x.flagged.map (fun e => (sample e.1, sample e.2)), impMarks := x.impMarks.map (fun m => (sample m.1, m.2.map sample))
    impVerdict := x.impVerdict.map (shiftTime d), impRun := x.impRun.map (shiftSpan d)
    impFrom := x.impFrom.map (shiftTime d), impAsk := x.impAsk.map (shiftTime d), coefs := x.coefs.map (fun e => (sample e.1, e.2))
    commit := x.commit.map (shiftTime d), cfgs := x.cfgs.map (fun e => (sample e.1, e.2)), rangeWrite := x.rangeWrite.map sample
    lastQ := x.lastQ.map (fun e => (e.1, shiftTime d e.2.1, e.2.2)) }

/-- The sense front end. -/
def FrontEnd.shift (x : FrontEnd) (d : Int) : FrontEnd :=
  { x with
    convs := x.convs.map (fun e => (e.1, e.2.shift d))
    excs := x.excs.map (fun e => (e.1, { e.2 with
      since := e.2.since.map (shiftSample d), nextSwap := shiftSample d e.2.nextSwap
      swaps := e.2.swaps.map (shiftSample d), marks := e.2.marks.map (fun m => (shiftSample d m.1, m.2.map (shiftSample d))) }))
    tconsts := x.tconsts.map (fun e => (shiftSample d e.1, e.2))
    fouts := x.fouts.map (fun e => (e.1, { e.2 with run := e.2.run.map (shiftFst d) }))
    angDue := x.angDue.map (fun a => { a with tn := shiftTime d a.tn }) }

/-- The safety supervisor (R325, R330 to R332). -/
def Supervisor.shift (x : Supervisor) (d : Int) : Supervisor :=
  { x with
    pads := x.pads.map (fun e => (e.1, { e.2 with halterFrom := e.2.halterFrom.map (· + d), since := shiftTime d e.2.since }))
    result := x.result.map (fun r => { r with boundary := shiftTime d r.boundary })
    inputs := x.inputs.map (fun e => (e.1, { e.2 with newSince := e.2.newSince.map (shiftTime d) }))
    chans := x.chans.map (fun e => (e.1, { e.2 with pulse := e.2.pulse.map (shiftSpan d) }))
    disagree := shiftMap d x.disagree, apart := shiftMap d x.apart }

/-- Bridle's expectations and the last STATUS frame (R343, R346). -/
def Bridle.shift (x : Bridle) (d : Int) : Bridle :=
  { x with
    srcs := x.srcs.map (fun e => (e.1, { e.2 with timer := shiftTime d e.2.timer, enabledAt := e.2.enabledAt.map (shiftTime d) }))
    lastAt := shiftTime d x.lastAt }

/-- Lanes, handshakes, held slots, the eye scan and the exchange under way, whose t1 takes the whole step in 1/16 LSB
(R355, R362, R366, R372, R360, R376). -/
def Hitch.shift (x : Hitch) (d theta16 : Int) : Hitch :=
  { x with
    lanes := x.lanes.map (fun e => (e.1, { e.2 with
      since := shiftTime d e.2.since, txSkip := shiftTime d e.2.txSkip, txFree := shiftTime d e.2.txFree
      rxFrom := shiftTime d e.2.rxFrom }))
    links := x.links.map (fun e => (e.1, { e.2 with
      waits := e.2.waits.map (fun w => (w.1, { w.2 with sent := shiftTime d w.2.sent })), retryAt := e.2.retryAt.map (shiftTime d) }))
    slots := x.slots.map (fun e => (e.1, { e.2 with holdUntil := shiftTime d e.2.holdUntil }))
    eye := x.eye.map (fun y => { y with start := shiftTime d y.start })
    xfer := { x.xfer with
      open_ := x.xfer.open_.map (fun y => (y.1, y.2.1 + theta16, shiftTime d y.2.2)), lastStart := x.xfer.lastStart.map (shiftTime d) } }

/-- The time step itself (R377): system time moves by `d` ns, and `frac` is the fraction of a ns that is left. -/
def State.timeStep (s : State) (d frac : Int) : State :=
  let h := s.hitch.shift d (2048 * d + frac - s.hitch.xfer.frac)
  { s with
    recs := { s.recs with formed := [] }
    now := sysTime ((s.now : Int) + d).toNat
    scan := { s.scan with expiry := s.scan.expiry.map (shiftTime d) }
    stamp := s.stamp.shift d, hist := s.hist.shift d, clusters := s.clusters.map (fun e => (e.1, e.2.shift d))
    streams := s.streams.map (fun e => (e.1, { e.2 with firstCol := e.2.firstCol.map (shiftTime d) }))
    recorder := s.recorder.shift d, emit_ := s.emit_.shift d, mirror := s.mirror.shift d, fe := s.fe.shift d
    farrier := { s.farrier with lastRun := s.farrier.lastRun + d }, sup := s.sup.shift d, bridle := s.bridle.shift d
    hitch := { h with needStep := false, xfer := { h.xfer with due := none, frac := frac } }
    power := { s.power with lostAt := s.power.lostAt.map (· + d) }
    ctl := { s.ctl with beat := shiftTime d s.ctl.beat, restartAt := shiftTime d s.ctl.restartAt, upFrom := s.ctl.upFrom + d }
    dcl := s.dcl.map (fun x => { x with asked := shiftTime d x.asked, startAt := shiftTime d x.startAt }) }

end Sys2Proof.Machine
end

