-- ==== Sys2Proof/Machine/Frame.lean ====
section
/-! DEFINITION. The frame boundary of R32 and all that acts at it. -/
namespace Sys2Proof.Machine

/-- Everything of the ending frame has gone through (R32): its columns are released and the interval engine's queue is
empty. -/
def State.frameDrained (s : State) : Bool :=
  (!s.scan.fired || decide (gaitC s.gait ≤ s.scan.seq)) && s.scan.columns.isEmpty && s.power.restLeft == 0 &&
    s.sup.engineQ.isEmpty

/-- The header of a frame swept unfired (R168). Headers of discarded columns go before it (R163); DEDUCED (notes/assumptions
45): the room they need is not free room. DESIGN CHOICE (notes/assumptions 45): its KEYFRAME and KEY_CAUSE are 0, whatever
DELTA_EN is. -/
def State.unfiredHeader (s : State) (r : Nat) : State :=
  let g := s.stream r
  let hdr := s.frameHeader r s.frameNo s.gait s.tk false true (s.scan.k % 2 == 1) 0
  if s.domOn (24 + r) ∧ s.ringOn r ∧ 64 ≤ s.ringFree r - (g.headers.flatten).length then
    (s.withStream r fun g => { g with headers := [] }).dmaPush r
      { payload := g.headers.flatten ++ hdr, done := .column r s.frameNo 0xFFFF, hdrs := g.headers ++ [hdr], colIndex := 0xFFFF }
  else s

/-- A region's stream at the end of a frame (R168, R173, Table 7.3). DESIGN CHOICE (notes/assumptions 45): the keyframe itself
counts among the KEY_INTERVAL fired frames, so keyframes by interval come KEY_INTERVAL fired frames apart. -/
def State.streamEnd (s : State) (r : Nat) : State :=
  if s.scan.fired then
    s.withStream r fun g => { g with
      prevDropped := g.curDropped, prevLost := g.curLost, prevUnrefined := g.curUnrefined,
      curDropped := 0, curLost := 0, curUnrefined := 0,
      sinceKey := if g.keyframe then 1 else g.sinceKey + 1 }
  else s.unfiredHeader r

/-- A region's stream at the start of a frame: the keyframe decision and the header due (R163, R173). -/
def State.streamStart (s : State) (r : Nat) : State :=
  if s.scan.fired then
    let g := s.stream r
    let cause := g.causes ||| ofBit (s.forceFld P.STREAM_CFG.KEY_INTERVAL ≤ g.sinceKey)
    let key := cause != 0 || !s.forceBit P.STREAM_CFG.DELTA_EN
    let hdr := s.frameHeader r s.frameNo s.gait s.tk key false (s.scan.k % 2 == 1) cause
    s.withStream r fun g => { g with
      keyframe := key, keyCause := cause, causes := 0, due := hdr, dropNoted := false, lossNoted := false }
  else s.withStream r fun g => { g with causes := if bitOf g.causes 3 then g.causes - 8 else g.causes, dropNoted := false, lossNoted := false }

/-- A keyframe cause of every region (R173). -/
def State.keyCauseAll (s : State) (c : Nat) : State :=
  forUpto 4 (fun r s => s.withStream r fun g => { g with causes := g.causes ||| c }) s

/-- Is a coverage row lost in the ending frame (R324)? -/
def State.rowLost (s : State) (r : Nat) : Bool :=
  s.mirror.offTrack || (s.ch r).lost || Map.get false s.hist.bothFrozen r || (s.charger (r / 96)).faultSeen ||
    decide (s.forceFld P.PD_CTRL.BLIND_COLS ≤ Map.get 0 s.sup.blindCols r)
/-- Is it degraded: one buffer, and not both, FROZEN with MASK at some moment of the frame, and the row not lost (R324)? -/
def State.rowDegraded (s : State) (r : Nat) : Bool :=
  !s.rowLost r && (Map.get false s.hist.maskSeen r || s.maskFrozen r)

/-- The frame's results for the Paddock function (R321, R324, R510). -/
def State.frameResult (s : State) (tb : Nat) : FrameResult :=
  let rows := fun (f : Nat → Bool) => ((List.range 384).filter f).map (fun r => (r, true))
  { boundary := tb, fired := s.scan.fired, cEv := s.sup.cEv, cSv := s.sup.cSv,
    lostRows := rows s.rowLost, degraded := rows s.rowDegraded }

/-- NEAR of every Paddock (Table 14.20). -/
def State.nearViews (s : State) : State :=
  forUpto 16 (fun p s => s.setFld ((P.PD_NEAR.NEAR.idx (p / 4)).sub (p % 4) 16)
    (match Map.find? s.sup.minH p with
     | some h => Nat.min h 0xFFFE
     | none => 0xFFFF)) s

/-- What a frame gathers is closed and starts anew (R104, R223, R321, R324). -/
def State.gatherClose (s : State) (tb : Nat) : State :=
  let s := s.withSup fun u => { u with result := some (s.frameResult tb) }
  let s := s.nearViews.withSup fun u => { u with cEv := [], cSv := [], minH := [], blindCols := [] }
  let s := forUpto 4 (fun k s => s.adaptUpdate k) s
  let s := forUpto 4 (fun k s => s.setCharger k { s.charger k with faultSeen := s.chgState k == 4 }) s
  let both := (List.range 384).filter (fun c => s.isFrozen (2 * c) && s.isFrozen (2 * c + 1))
  let masked := (List.range 384).filter s.maskFrozen
  { s with hist := { s.hist with bothFrozen := both.map (fun c => (c, true)), maskSeen := masked.map (fun c => (c, true)),
                                 poisonSeen := 0 },
           fe := { s.fe with padKnown := true } }

/-- The parameters whose RSN fields are taken at a frame boundary, but for FRAME and PD_NEAR. -/
def boundaryKeys : List Nat :=
  [0x0206] ++ (List.range 12).map (0x0420 + ·) ++ (List.range 12).map (0x0540 + ·) ++ (List.range 4).map (0x0570 + ·) ++
  (List.range 4).map (0x0620 + ·) ++ (List.range 4).map (0x0630 + ·) ++ (List.range 8).map (0x0720 + ·) ++
  (List.range 12).map (0x0820 + ·) ++ [0x0923, 0x0A09, 0x0A0A, 0x0B15, 0x0E06, 0x0F21, 0x0F22, 0x1043, 0x1044, 0x1112, 0x120C]

/-- The snapshots of the boundary (R12); the smallest slack and the mirror's largest errors are counted per frame. -/
def State.boundarySnapshots (s : State) : State :=
  let s := forEach boundaryKeys (fun k s => s.snapshot k) s
  let s := forUpto 4 (fun r s => s.setLive (P.REGION_POSTS.MIN_SLACK.idx r) 0xFFFFFFFF) s
  forEach [P.MIR_FRAME.MAX_ERR_ACT, P.MIR_FRAME.MAX_ERR_TURN, P.MIR_FRAME.PEAK_IREF] (fun f s => s.setLive f 0) s

/-- The parameters that come into force as whole words at a boundary (R32, R37, R45, R49, R59, R84, R107, R122, R134, and
group 0x07's and 0x08's). -/
def boundaryForce : List Nat :=
  [0x0202, 0x0203, 0x0204, 0x0205] ++ (List.range 144).map (0x0300 + ·) ++ [0x03B0, 0x03B1, 0x03C0, 0x03C1, 0x03C2, 0x0400] ++
  (List.range 12).map (0x0500 + ·) ++ [0x0517] ++ (List.range 7).map (0x0560 + ·) ++ [0x0700, 0x0701, 0x0800] ++
  (List.range 48).map (0x0840 + ·)

/-- The next sweep's grid: one sweep on, or through a transition turnaround after a change of gait or of φ or a time step
(R33, R35, R42, R235, R377). The old sweep of a time step is named on a grid of the new time, its number kept modulo 6 so
that direction and turnaround stay. -/
def State.nextGrid (s : State) (gNew : Nat) : State :=
  let gOld := s.gait
  let phi := ((s.nextPhase gNew).getD s.phi) % gaitPhi gNew
  let k := s.scan.k
  let d : Int := match s.stepShift with
    | some (d, _) => d
    | none => 0
  let s0 := match s.stepShift with
    | some (d, f) => (s.timeStep d f).setFlag P.HITCH_FLAGS.TIME_STEPPED
    | none => s
  let s1 := s0.withScan fun x => { x with phaseReq := none, syncEdge := none, leadPhase := none }
  if gNew = gOld ∧ phi = s.phi ∧ s.stepShift.isNone then
    (s1.withScan fun x => { x with k := k + 1 }).withMir fun m => { m with transition := none }
  else
    let start := ((sweepStart gOld s.phi k : Int) + d).toNat
    let k0 := if s.stepShift.isSome then k % 6 else k
    let phi0 := ((start : Int) - k0 * 1000000000 / (gaitF gOld : Int)).toNat
    let k1 := nextGridSweep gOld gNew phi k (start + gaitC gOld * gaitT gOld)
    let s1 := s1.withScan fun x => { x with k := k1 }
    let s1 := s1.withMir fun m => { m with transition := some ⟨gOld, phi0, k0, gNew, phi, k1⟩ }
    let s1 := (s1.setFld P.GAIT.GAIT_CUR gNew).setFld P.FRAME_SYNC.PHASE phi
    let s1 := if s1.fld P.GAIT.GAIT_NEXT = gNew then s1.setFld P.GAIT.PENDING 0 else s1
    if phi ≠ s.phi ∧ !s.isMember then s1.sendSlot else s1

/-- GATE_ARM's condition: an active edge of the selected gate lies in the interval that arms the coming frame; older
edges can arm no later one (R48, R78). `prev`: the nominal start of the frame that ends. -/
def State.frameArmed (s : State) (prev : Int) : Bool :=
  match s.fld P.FRAME_SYNC.GATE_ARM with
  | 0 => true
  | a => !s.pathFailed (448 + (a - 1)) && (s.gate (a - 1)).active.any (fun x => decide (128 * prev < (x : Int) + 128000) && decide (x + 128000 ≤ 128 * s.tk))

/-- Forget the active edges that can arm no later frame. -/
def State.dropEdges (s : State) : State :=
  forUpto 2 (fun g s' => s'.setGate g { s'.gate g with active := (s'.gate g).active.filter (fun x => decide (128 * s.tk < x + 128000)) }) s

/-- Is the coming frame fired (R371, R509)? -/
def State.mayFire (s : State) (armed : Bool) : Bool :=
  s.fld P.PWR_STATUS.STATE == 0 && s.power.target.isNone && s.power.stop.isNone && !s.thermalPresent &&
    s.ctl.restart.isNone && s.bit P.CAL_STATUS.STARTUP_DONE && s.epochInForce && !s.hitch.needEpoch && !s.hitch.needPhase &&
    !s.hitch.needStep && s.mirSt == 3 && armed

/-- What the change of gait or of W brings with it (R170, R173, R244, R319, Table 10.6). -/
def State.scanChanges (s : State) (gaitNew : Bool) (wNew : Bool) : State :=
  let s := if gaitNew then
      (forUpto 4 (fun r s => s.withStream r (Stream.forgetFor 2)) s).rcClear
    else s
  if wNew then
    let s := ((forUpto 4 (fun r s => s.withStream r (Stream.forgetFor 64)) s).rcClear).retable
    if s.mirSt = 3 then s.enterMir 2 else s
  else s

/-- The parameters and the sets committed for a boundary come into force (R32, R120, R158, R185, R220, R224). -/
def State.takeAll (s : State) : State :=
  let delta := s.forceBit P.STREAM_CFG.DELTA_EN
  let s := forEach boundaryForce (fun k s => s.takeForce k) s
  let s := ((s.expTake).adaptTake).refineBoundary
  let s : State := { s with clusters := s.clusters.map (fun (e : Nat × Cluster) =>
    (e.1, { e.2 with envs := e.2.envPend.foldl (fun m x => Map.insert m x.1 x.2) e.2.envs, envPend := [] })) }
  if !delta && s.forceBit P.STREAM_CFG.DELTA_EN then s.keyCauseAll 32 else s

/-- The code epoch of the coming frame; a new one is a keyframe cause (R43, R56). -/
def State.epochBoundary (s : State) : State :=
  let old := s.scan.epochCur
  let s := s.epochApply s.tk
  if s.scan.epochCur = old then s else s.keyCauseAll 4

/-- The coming frame begins, fired or swept unfired (R239, R509). -/
def State.beginFrame (s : State) (fired : Bool) : State :=
  let track := s.mirSt == 3
  let s := if fired then s
    else if track then s.addSat P.CODE_CONTROL.UNFIRED_FRAMES 1
    else s.liveWrap P.MIR_COUNTS.MIR_UNFIRED 1
  let s := s.withMir fun m => { m with
    inhibit := m.inhibit && !fired, left := m.left && !fired,
    offTrack := !track || (m.left && !fired) }
  s.withScan fun x => { x with seq := 0, fired := fired, lastHandoff := none }

/-- The frame number and direction of the coming frame, with its snapshot (R35, Table 2.7). -/
def State.frameStep (s : State) : State :=
  let s := (s.liveWrap P.FRAME.FRAME_NO 1).setLive P.FRAME.DIR (s.scan.k % 2).toNat
  s.snapshot K.FRAME

/-- Return paths start each frame with 8 credits (R70). -/
def State.creditsFull (s : State) : State :=
  let full : SMap Chan := s.stamp.chans.map (fun (e : Nat × Chan) => (e.1, { e.2 with credits := 8 }))
  s.withStamp fun p => { p with chans := full.filter (fun e => decide (e.2 ≠ {})) }

/-- Everything that acts at the frame boundary that ends the current sweep, in the order of notes/assumptions 8 (R32 and
every rule that acts at a frame boundary). -/
def State.crossBoundary (s : State) : State :=
  let tb := s.boundaryTime
  let s := s.at_ tb
  -- t_k of the frame that ends, as the time base that comes into force counts it (R377)
  let prev := (s.tk : Int) + ((s.stepShift.map (fun x => x.1)).getD 0)
  let gOld := s.gait
  let gNew := s.nextGait
  let gaitNew := gNew != gOld
  let wNew := s.fld P.FIELD.W != s.fieldW
  let keep := !gaitNew && !wNew
  -- the frame that ends, with the values still in force
  let s := forUpto 4 (fun r s => s.streamEnd r) s
  let s := (s.gatherClose tb).boundarySnapshots
  let s := (s.mirrorBoundary).farrierBoundary (s.scan.k % 2 == 1) keep
  -- what comes into force
  let s := s.takeAll
  let s := (s.scanChanges gaitNew wNew).nextGrid gNew
  let s := if gaitNew then s.dumpRecheck else s
  let s := s.epochBoundary.frameStep
  let s := s.targetsForm gNew
  let s := s.creditsFull
  let s := s.withPower fun p => { p with pfdDue := p.pfdDue || p.pfdPend.isSome }
  -- the frame that begins
  let s := (s.beginFrame (s.mayFire (s.frameArmed prev))).dropEdges
  forUpto 4 (fun r s => s.streamStart r) s

/-- FRAME_BOUNDARY: the current sweep's frame ends and the next one begins (R32). Nothing is left to do where a write in the
boundary's own instant has already been put after it. -/
def execFrameBoundary (s : State) : Result :=
  if s.ctl.por then .next s else
  if s.scan.crossed = some s.now then .next (s.withScan fun x => { x with crossed := none })
  else if !s.frameDrained then .next s
  else .next s.crossBoundary

/-- A write that takes effect in the instant of a frame boundary is applied after the boundary's changes (R32): where the
boundary of that instant is still to come, it is crossed first. -/
def State.boundaryFirst (s : State) (t : Nat) : State :=
  if s.boundaryTime = (s.at_ t).now ∧ s.frameDrained then
    let s := s.crossBoundary
    s.withScan fun x => { x with crossed := some s.now }
  else s

end Sys2Proof.Machine
end

