-- ==== Sys2Proof/Machine/Operands.lean ====
section
/-! DEFINITION. The operands of a host write: which bits it covers and what it brings to a field (R384, R418); and the
rings that commands name by number. -/
namespace Sys2Proof.Machine

/-- The bits of a half of a parameter (R384). -/
def halfBits (half : Half) : Word :=
  match half with
  | .low => 0xFFFFFFFF
  | .high => 0xFFFFFFFF00000000
  | .whole => BitVec.allOnes 64

/-- The bits a host write names. -/
def writeMask (h : HostWrite) : Word :=
  match h.origin with
  | .bar0 half => halfBits half
  | .salsol mask _ => mask

/-- Does a host write cover a bit of a field? -/
def covers (h : HostWrite) (f : FieldRef) : Bool := wordFld (writeMask h) f != 0

/-- Does a host write bring a value to a field, its uncovered bits reading as 0? -/
def hits (h : HostWrite) (f : FieldRef) (v : Nat) : Bool := wordFld (h.value &&& (writeMask h)) f == v

/-- The byte rings by number: 0 to 3 of the regions, 4 dump, 5 recorder, 7 events (Table 17.4). -/
def isRing (ring : Nat) : Bool := decide (ring < 6) || ring == 7

/-- The parameter with a ring's EN. -/
def ringKey (ring : Nat) : Nat :=
  match ring with
  | 4 => K.DUMP_RING
  | 5 => K.REC_RING
  | 7 => K.EVENT_RING
  | r => K.RING_NOTIFY + r

/-- The parameter with a ring's RD_OFF. -/
def ringRdKey (ring : Nat) : Nat :=
  match ring with
  | 4 => 0x1122
  | 5 => 0x1126
  | 7 => K.EVENT_RD
  | r => K.RING_RD + r

end Sys2Proof.Machine
end

