-- ==== Sys2Proof/Machine/Pipe.lean ====
section
/-! DEFINITION. The matched-filter pipe, the mask tests and the moment solver (05_echo_extraction.md R108 to R124,
08_mask_tests_and_recorder.md R185 to R191). -/
namespace Sys2Proof.Machine

/-- A channel's track in a column: bins with their decoded data, and bins with an uncorrectable word. -/
structure Track where
  bins : List (Nat × Nat)
  bad : List Nat
  deriving DecidableEq, Repr

/-- Count of a bin; outside the track it is 0 (R108). -/
def Track.x (t : Track) (b : Int) : Nat :=
  if b < 0 then 0 else binCount (Map.get 0 t.bins b.toNat)

/-- Read a buffer, counting corrected and uncorrectable words (R95, R96). -/
def State.readTrack (s : State) (c buf frame : Nat) : Track × State :=
  let k := 2 * c + buf
  (s.hist.words.filter (fun e => decide (e.1 / 4096 = k))).foldl (fun (a : Track × State) e =>
    let b := e.1 % 4096
    match decodeWord (a.2.binWord k b) with
    | .clean d => ({ a.1 with bins := a.1.bins ++ [(b, d)] }, a.2)
    | .corrected d => ({ a.1 with bins := a.1.bins ++ [(b, d)] }, a.2.liveWrap (P.ECC_COUNT.CORRECTED.idx (c / 32)) 1)
    | .uncorrectable => ({ a.1 with bad := a.1.bad ++ [b] }, a.2.poison c buf frame)) (⟨[], []⟩, s)

/-- Filter output under a template (R109). -/
def Template.y (t : Template) (x : Track) (b : Nat) : Int :=
  sumI ((List.range t.taps.length).map (fun i => t.taps.getD i 0 * (x.x ((b : Int) + i - t.anchor) : Int)))

/-- The right side of R110. -/
def Template.thr (t : Template) (bq k16 : Nat) : Int := t.g * bq + (k16 * isqrt (t.p * bq) : Nat)

/-- The filter of a column: one template, or two with the weight wq of the new one (R120). -/
structure Blend where
  old : Template
  new : Template
  wq : Nat
  /-- FADE is set on the candidates (m < F). -/
  fade : Bool
  bankOld : Nat
  bankNew : Nat
  deriving DecidableEq, Repr

/-- The filter in force in a cluster. -/
def Cluster.blend (c : Cluster) : Blend :=
  match c.fade with
  | some f =>
    if f.m = 0 then ⟨c.bank c.active, c.bank c.active, 0, false, c.active, c.active⟩
    else ⟨c.bank f.src, c.bank f.dst, 256 * f.m / f.f, decide (f.m < f.f), f.src, f.dst⟩
  | none => ⟨c.bank c.active, c.bank c.active, 0, false, c.active, c.active⟩

/-- 256 times the filter output. -/
def Blend.y (f : Blend) (x : Track) (b : Nat) : Int :=
  (256 - f.wq : Int) * f.old.y x b + f.wq * f.new.y x b
/-- 256 times the threshold. -/
def Blend.thr (f : Blend) (bq k16 : Nat) : Int := (256 - f.wq : Int) * f.old.thr bq k16 + f.wq * f.new.thr bq k16
/-- 256 times the gain. -/
def Blend.g (f : Blend) : Int := (256 - f.wq : Int) * f.old.g + f.wq * f.new.g
/-- The template that gives margins, reference spread and bank (R120). -/
def Blend.lead (f : Blend) : Template := if 128 ≤ f.wq then f.new else f.old
/-- Its bank. -/
def Blend.bank (f : Blend) : Nat := if 128 ≤ f.wq then f.bankNew else f.bankOld

/-- Bins within 15 of a bin that holds counts, ascending: no other bin has a filter output. -/
def nearBins (bins : List Nat) : List Nat :=
  (bins.foldl (fun (a : List (List Nat) × Nat) b =>
    let lo := Nat.max a.2 (b - 15)
    let hi := Nat.min 4096 (b + 16)
    (((List.range (hi - lo)).map (· + lo)) :: a.1, Nat.max lo hi)) ([], 0)).1.reverse.flatten

/-- A run: its peak, the peak's 256 y, and its window (R111, R112). -/
structure Run where
  peak : Nat
  y : Int
  lo : Nat
  hi : Nat
  deriving DecidableEq, Repr

/-- Group threshold events into runs, gaps of at most `gap` bins bridged: last bin, peak and its y (R111, R112). -/
def groupRuns (gap : Nat) : List (Nat × Int) → List (Nat × Nat × Int) → List (Nat × Int)
  | [], acc => (acc.map (·.2)).reverse
  | (b, y) :: l, (last, p, py) :: acc =>
    if b ≤ last + gap + 1 then groupRuns gap l ((b, if py < y then (b, y) else (p, py)) :: acc)
    else groupRuns gap l ((b, b, y) :: (last, p, py) :: acc)
  | (b, y) :: l, [] => groupRuns gap l [(b, b, y)]

/-- Split the windows of consecutive runs where they overlap: of the bins of both, those up to the middle belong to the
earlier run and the rest to the later one (R112). -/
def splitWindows (l : List Run) : List Run :=
  (l.foldl (fun acc r => match acc with
    | a :: t =>
      if r.lo ≤ a.hi then
        let m := (a.peak + r.peak) / 2
        { r with lo := m + 1 } :: { a with hi := m } :: t
      else r :: a :: t
    | [] => [r]) []).reverse

/-- The bins of a window with their data. -/
def Track.window (t : Track) (lo hi : Nat) : List (Nat × Nat) :=
  t.bins.filter (fun e => decide (lo ≤ e.1) && decide (e.1 ≤ hi))

/-- Is run `a` kept before run `b` (R113)? -/
def Run.better (a b : Run) : Bool := decide (b.y < a.y) || (a.y == b.y && decide (a.peak < b.peak))

/-- At most four runs, the highest peaks, in ascending peak order (R113). -/
def bestFour (l : List Run) : List Run :=
  l.filter (fun r => decide ((l.filter (fun q => q.better r)).length < 4))

/-- Bins of the range gate between two bins. -/
def gateOverlap (nearB farB lo hi : Nat) : Nat := (Nat.min farB hi + 1) - Nat.max nearB lo

/-- A candidate as it leaves the pipe (R114). -/
def State.mkCand (s : State) (k : Column) (c bq : Nat) (f : Blend) (t : Track) (poison over4 : Bool) (n i : Nat) (r : Run) : Cand :=
  let w := t.window r.lo r.hi
  let p : Int := r.peak
  { channel := c, frame := k.frame, seq := k.seq, cand := i, ncand := n,
    nw := gateOverlap (s.nearBin c) (16 * s.far16 c + 15) r.lo r.hi, peak := r.peak,
    nomon := (k.firedOf (c / 24)).any (fun e => e.2.nomon), bank := f.bank, fade := f.fade, overflow := over4,
    poison := poison, pile := w.any (fun e => binPile e.2), sat := w.any (fun e => binSat e.2),
    n := sumN (w.map (fun e => binCount e.2)), sigmaRef16 := f.lead.sigmaRef16,
    s1 := sumI (w.map (fun e => 64 * ((e.1 : Int) - p) * binCount e.2 + binRsum e.2)),
    s2 := sumI (w.map (fun e => 4096 * ((e.1 : Int) - p) * ((e.1 : Int) - p) * binCount e.2 +
      128 * ((e.1 : Int) - p) * binRsum e.2 + binQsum e.2)),
    c256 := 0, sigma16 := 0, rangeMm := 0, bq := bq, track := (List.range 16).map (fun j => t.x (p - 8 + j)) }

/-- The envelope entry of a bin: UP and LO (R185). -/
def Cluster.envEntry (c : Cluster) (set bin : Nat) : Nat × Nat :=
  (Map.get (List.replicate 64 (32, 0)) c.envs set).getD (if set < 4 then bin else bin / 64) (32, 0)

/-- The violating bins of a test with their sides: upper, lower (R187). -/
def State.violations (s : State) (c nA set : Nat) (t : Track) : List (Nat × Bool × Bool) :=
  let cl := s.cluster (c / 32)
  (List.range (if set < 4 then 64 else 4096)).filterMap (fun b =>
    if s.inGate c b ∧ !t.bad.contains b then
      let (up, lo) := cl.envEntry set b
      let x := t.x b
      let u := decide (up * nA < 32 * x)
      let l := decide (32 * x < lo * nA)
      if u || l then some (b, u, l) else none
    else none)

/-- MASK_VIOLATION: what a declared violation does (R190, R191). -/
def State.maskViolation (s : State) (k : Column) (c : Nat) (full : Bool) (v : List (Nat × Bool × Bool)) : State :=
  let buf := k.seq % 2
  let first := match v with
    | (b, _, _) :: _ => b
    | [] => 0
  let up := v.any (fun e => e.2.1)
  let lo := v.any (fun e => e.2.2)
  let s := s.liveWrap (P.MASK_COUNTS.VIOLATIONS.idx (c / 32)) 1
  let m := Map.get {} s.masks c
  let m' : ChanMask := ⟨m.run, satAdd 24 m.violCnt 1, first, capN 255 v.length, k.index, full, up, lo⟩
  let s := { s with masks := Map.set {} s.masks c m' }
  let s := s.withCol k.frame k.seq fun x => { x with degraded := Map.set false x.degraded c true }
  let fr := s.forceBit P.MASK_CFG.FREEZE_EN && (!s.isFrozen (2 * c + 1 - buf) || s.forceBit P.MASK_CFG.LAST_BUF)
  let s := if fr then (s.freeze (2 * c + buf) true).liveWrap (P.MASK_COUNTS.FREEZES.idx (c / 32)) 1 else s
  let s := s.record 0x0801 13 false true (leBytes 2 c ++ leBytes 1 buf ++ leBytes 4 k.frame ++ leBytes 2 k.index ++
    leBytes 1 (ofBit full) ++ leBytes 1 (2 * ofBit up + ofBit lo) ++ leBytes 2 first ++ leBytes 1 (ofBit fr))
  s.recEvent 6 (c / 32)

/-- MASK_TEST of a channel (R186 to R189). -/
def State.maskTest (s : State) (k : Column) (c : Nat) (t : Track) : State :=
  let sub := fun (f : FieldRef) => s.forceFld ((f.idx (c / 8)).sub (c % 8) 8)
  let nearEn := sub P.CH_MASK.NEAR_EN == 1
  let fullEn := sub P.CH_MASK.FULL_EN == 1
  let nA := k.nA (c / 24)
  if (!nearEn && !fullEn) || k.skipped || nA == 0 || sub (P.INPUT_CFG.EN) == 0 || (s.ch c).lost then s
  else
    let minBins := s.forceFld P.MASK_CFG.MIN_BINS
    let vn := if nearEn then s.violations c nA (sub P.CH_MASK.NEAR_SET) t else []
    let vf := if fullEn then s.violations c nA (4 + sub P.CH_MASK.FULL_SET) t else []
    let failN := nearEn && decide (minBins ≤ vn.length)
    let failF := fullEn && decide (minBins ≤ vf.length)
    let m := Map.get {} s.masks c
    let setRun := fun (r : Nat) (s : State) => { s with masks := Map.set {} s.masks c { m with run := r } }
    if failN || failF then
      if s.forceFld P.MASK_CFG.PERSIST ≤ m.run + 1 then
        (setRun 0 s).maskViolation k c (!failN) (if failN then vn else vf)
      else setRun (m.run + 1) s
    else setRun 0 s

/-- The background after a channel's last bin (R115). -/
def State.background (s : State) (c bq : Nat) (t : Track) (runs : List Run) : Nat :=
  let nb := s.nearBin c
  let fb := 16 * s.far16 c + 15
  let n := (fb + 1 - nb) - sumN (runs.map (fun r => gateOverlap nb fb r.lo r.hi))
  let inWin := fun b => runs.any (fun r => decide (r.lo ≤ b) && decide (b ≤ r.hi))
  let sumc := sumN ((t.bins.filter (fun e => decide (nb ≤ e.1) && decide (e.1 ≤ fb) && !inWin e.1)).map (fun e => binCount e.2))
  if 256 ≤ n then
    let bnew : Int := (256 * sumc / n : Nat)
    ((bq : Int) + (bnew - bq) / (2 ^ s.forceFld (P.FILT_CFG.BG_SHIFT.idx (c / 32)) : Nat)).toNat
  else bq

/-- Extract a channel's candidates, update its background and report blindness (R108 to R116). A lost channel gives none (R82).
DESIGN CHOICE (notes/assumptions 50): in a fade column blindness is tested with the blended gain and threshold. -/
def State.extract (s : State) (k : Column) (c : Nat) (t : Track) (poison : Bool) : State :=
  let cl := c / 32
  let f := (s.cluster cl).blend
  let bq := Map.get 0 s.bq c
  let k16 := s.forceFld (P.FILT_CFG.K16.idx cl)
  let thr := f.thr bq k16
  let ev := ((nearBins (t.bins.filterMap (fun e => if binCount e.2 = 0 then none else some e.1))).filter (s.inGate c)).filterMap
    (fun b => let y := f.y t b; if thr < 256 * y then some (b, y) else none)
  let runs := (groupRuns (s.forceFld (P.FILT_CFG.RUN_GAP.idx cl)) ev []).map (fun p =>
    ⟨p.1, p.2, p.1 - f.lead.wl, Nat.min 4095 (p.1 + f.lead.wr)⟩)
  let runs := splitWindows runs
  let kept := (if (s.ch c).lost then [] else runs).filter (fun r =>
    decide (s.forceFld (P.FILT_CFG.MIN_EVENTS.idx cl) ≤ sumN ((t.window r.lo r.hi).map (fun e => binCount e.2))))
  let over4 := decide (4 < kept.length)
  let best := bestFour kept
  let cands := (List.range best.length).zipWith (fun i r => s.mkCand k c bq f t poison over4 best.length i r) best
  let s := if over4 then s.liveWrap (P.CAND_COUNTS.OVERFLOW.idx cl) 1 else s
  let blind := decide (256 * f.g * (k.nA (c / 24) : Int) ≤ thr)
  let s := if blind then
      let s := (s.liveWrap (P.CAND_COUNTS.BLIND.idx cl) 1).withSup fun u => { u with blindCols := Map.modify 0 u.blindCols c (· + 1) }
      s.withCol k.frame k.seq fun x => { x with blind := Map.modify 0 x.blind cl (· + 2 ^ (c % 32)) }
    else s
  let s := { s with bq := Map.set 0 s.bq c (s.background c bq t runs) }
  let s := s.withCol k.frame k.seq fun x => { x with
    sent := Map.modify 0 x.sent cl (· + cands.length),
    lastOut := if cands.isEmpty then x.lastOut
      else Map.insert x.lastOut cl (k.handoff.getD 0 + 256 * (c % 32 + 1) + 64 + (cands.length - 1)) }
  s.withCluster cl fun x => { x with solver := x.solver ++ cands.map .cand }

/-- The oldest handed-off column whose slot of a channel has not run. -/
def State.pipeCol (s : State) (c : Nat) : Option Column :=
  s.scan.columns.find? (fun k => k.handoff.isSome && !bitOf (Map.get 0 k.piped (c / 32)) (c % 32))

/-- PIPE_CHANNEL_READ: one channel's slot of the oldest column: read and clear, mask test, candidates
(R25, R27, R91, R95, R99). A channel of the column's parity whose buffer holds another column is passed over. -/
def execPipeChannelRead (channel : Nat) (s : State) : Result :=
  if s.ctl.por then .next s else
  if 384 ≤ channel then .next s
  else match s.pipeCol channel with
    | none => .next s
    | some k =>
      let i := channel % 32
      let cl := channel / 32
      if Map.get 0 k.piped cl % 2 ^ i ≠ 2 ^ i - 1 then .next s
      else
        let h := k.handoff.getD 0
        let s := s.at_ (h + 256 * (i + 1))
        let s := (s.binAll channel k).withCol k.frame k.seq fun x => { x with piped := Map.modify 0 x.piped cl (· + 2 ^ i) }
        let buf := k.seq % 2
        let b := s.buf (2 * channel + buf)
        if b.st ≠ .filling ∧ b.content.frame = k.frame ∧ b.content.seq = k.seq then
          let (t, s) := s.readTrack channel buf k.frame
          let b := s.buf (2 * channel + buf)
          let s := s.setBuf (2 * channel + buf) (if b.st = .handed then { b with st := .read } else b)
          let s := s.maskTest k channel t
          .next (s.extract k channel t b.poison)
        else .next s

/-- The solver's results (R123, R124). -/
def Cand.solve (c : Cand) : Cand :=
  let c256 := (16384 * (c.peak : Int) + roundHalfEven (256 * c.s1) c.n).toNat
  let d := ((c.n : Int) * c.s2 - c.s1 * c.s1).toNat
  { c with
    c256 := c256,
    rangeMm := Nat.min 307000 (roundHalfEven ((c256 : Int) * 299792458) 65536000000).toNat,
    sigma16 := Nat.min 8191 (roundSqrt 16 d c.n) }

/-- Farrier's template gathering takes a candidate (R299). -/
def State.gatherCand (s : State) (k : Nat) (c : Cand) : State :=
  let g := Map.get {} s.farrier.gather k
  let g := if g.count = 0 then { g with minN := s.fld P.TPL_CAL.TPL_MIN_N, log2 := s.fld P.TPL_CAL.TPL_LOG2,
                                         refit := s.fld P.TPL_CAL.TPL_REFIT } else g
  if s.forceBit P.TPL_CTRL.AUTO_TPL ∧ !g.full ∧ c.ncand = 1 ∧ g.minN ≤ c.n ∧
      !c.sat ∧ !c.pile ∧ !c.poison ∧ !c.fade ∧ !c.overflow then
    let a := (List.range 16).map (fun i => g.a.getD i 0 + c.track.getD i 0)
    let g := { g with a := a, sigmaSum := g.sigmaSum + c.sigma16, count := g.count + 1 }
    let g := { g with full := decide (2 ^ g.log2 ≤ g.count) }
    s.withFar fun f => { f with gather := Map.set {} f.gather k g }
  else s

/-- Farrier's edge gathering takes a row's nearest candidate (R302). -/
def State.edgeCand (s : State) (k : Column) (c : Cand) : State :=
  if s.farrier.angEn ∧ s.mirSt = 3 ∧ c.cand = 0 then
    let r := c.channel
    let f := s.farrier
    let prev := (Map.find? f.lastIndex r).bind (fun i => (Map.find? f.lastRange r).map (fun m => (i, m)))
    let s := s.withFar fun f => { f with lastIndex := Map.insert f.lastIndex r k.index, lastRange := Map.insert f.lastRange r c.rangeMm }
    match prev with
    | some (i, m) =>
      if (i + 1 = k.index ∨ k.index + 1 = i) ∧ 500 ≤ ((m : Int) - c.rangeMm).natAbs then
        let e := (r, columnAngle s.fieldW (gaitC k.gait) (Nat.max i k.index))
        s.withFar fun f => if k.reverse then { f with revEdges := f.revEdges ++ [e] } else { f with edges := f.edges ++ [e] }
      else s
    | none => s
  else s

/-- Saturated near columns of a charger (R223). -/
def State.satColumn (s : State) (c : Cand) : State :=
  let k := c.channel / 96
  let x := s.charger k
  if c.sat ∧ c.rangeMm ≤ s.forceFld P.ADAPT_CFG.ADAPT_NEAR_MM ∧ x.satLast ≠ some c.seq then
    s.setCharger k { x with satCols := x.satCols + 1, satLast := some c.seq }
  else s

/-- A record reaches the region's queue (R117, R136). -/
def State.toQueue (s : State) (region : Nat) (x : QueueRec) : State :=
  { s with evoth := { s.evoth with queues := Map.modify [] s.evoth.queues region (· ++ [x]) } }

/-- A column-end marker behind which no candidate waits reaches the region's queue (R117). -/
def State.markerOut (s : State) (m : EndMarker) : State :=
  (s.toQueue (m.cluster / 3) (.marker m)).withCol m.frame m.seq fun x => { x with markers := x.markers + 2 ^ m.cluster }

/-- The markers at the head of a cluster's solver follow the last candidate into the queue. -/
def State.markersOut (s : State) (cluster : Nat) : List QueueRec → State
  | .marker m :: l => State.markersOut (s.markerOut m) cluster l
  | l => s.withCluster cluster fun x => { x with solver := l }

/-- MOMENT_SOLVE: the oldest candidate of a cluster is solved and goes to the region's queue, the cluster's
evaluator and the interval engine; Farrier and the adaptation see it too (R28, R123, R124, R136, R318, R320). -/
def execMomentSolve (cluster : Nat) (s : State) : Result :=
  if s.ctl.por then .next s else
  match (s.cluster cluster).solver with
  | [] => .next s
  | .marker m :: rest => .next (s.markersOut cluster (.marker m :: rest))
  | .cand c :: rest =>
    let c := c.solve
    match s.scan.columns.find? (fun k => decide (k.frame = c.frame ∧ k.seq = c.seq)) with
    | none => .next (s.markersOut cluster rest)
    | some k =>
      let s := s.at_ (k.handoff.getD 0 + 256 * (c.channel % 32 + 1) + 104 + c.cand)
      let r := c.channel / 96
      let s := (s.toQueue r (.cand c)).markersOut cluster rest
      let s := { s with evoth := { s.evoth with
        peaks := Map.modify [] s.evoth.peaks r (· ++ [(c.frame, c.seq, c.channel, c.peak)]) } }
      let s := s.paddockCount c k.index
      let s := s.withSup fun u => { u with engineQ := u.engineQ ++ [(c, k.index)] }
      let s := (s.gatherCand cluster c).edgeCand k c
      .next (s.satColumn c)

/-- When the pipe of a cluster sends the marker of a column handed off at `h` (R117). -/
def Column.markerTime (k : Column) (cluster : Nat) : Nat :=
  Nat.max (k.handoff.getD 0 + 8257) (match Map.find? k.lastOut cluster with
    | some t => t + 1
    | none => 0)

/-- The marker of a column (Table 5.3). -/
def Column.endMarker (k : Column) (cluster : Nat) : EndMarker :=
  ⟨cluster, k.frame, k.seq, Map.get 0 k.sent cluster, Map.get 0 k.blind cluster⟩

/-- COLUMN_END_MARKER: after channel 31 the marker with the blind bits leaves the pipe behind the column's candidates; a
fade whose last column this was ends (R117, R120). -/
def execColumnEndMarker (cluster : Nat) (s : State) : Result :=
  if s.ctl.por then .next s else
  if 12 ≤ cluster then .next s
  else match s.scan.columns.find? (fun k => k.handoff.isSome && !bitOf k.ended cluster) with
    | none => .next s
    | some k =>
      if Map.get 0 k.piped cluster = 2 ^ 32 - 1 then
        let s := s.at_ (k.markerTime cluster)
        let s := s.withCol k.frame k.seq fun x => { x with ended := x.ended + 2 ^ cluster }
        let s := s.markersOut cluster ((s.cluster cluster).solver ++ [.marker (k.endMarker cluster)])
        .next (s.fadeEnd cluster)
      else .next s

/-- BG_SEL (Table 5.18). -/
def State.bgView (s : State) (c : Nat) : State := s.setFld P.BG_VIEW.BQ (Map.get 0 s.bq c)

/-- MASK_SEL (Table 8.13). -/
def State.maskView (s : State) (c : Nat) : State :=
  let m := Map.get {} s.masks c
  let s := ((s.setFld P.MASK_VIEW.FIRST_BIN m.firstBin).setFld P.MASK_VIEW.NBINS m.nbins).setFld P.MASK_VIEW.COLUMN m.column
  let s := ((s.setFld P.MASK_VIEW.TEST (ofBit m.full)).setFld P.MASK_VIEW.UPPER (ofBit m.upper)).setFld P.MASK_VIEW.LOWER (ofBit m.lower)
  let s := (s.setFld P.MASK_VIEW.RUN m.run).setFld P.MASK_VIEW.VIOL_CNT m.violCnt
  s.setFld P.MASK_VIEW.MASKED (ofBit (s.buf (2 * c)).mask + 2 * ofBit (s.buf (2 * c + 1)).mask)

/-- The staged envelope: (UP, LO) of 64 entries (Table 8.14). -/
def State.stagedEnv (s : State) : List (Nat × Nat) :=
  (List.range 64).map (fun e =>
    (s.fld ((P.ENV_STAGE.UP.idx (e / 4)).sub (e % 4) 16), s.fld ((P.ENV_STAGE.LO.idx (e / 4)).sub (e % 4) 16)))

/-- When a MASK cause that stands was last set, plus one (0: none stands). -/
def State.newestMask (s : State) : Nat :=
  (s.hist.bufs.filterMap (fun e => if e.2.mask then e.2.maskAt else none)).foldl (fun n t => Nat.max n (t + 1)) 0

/-- MASK_RELEASE (R192). `co`: with ALL = 1, the freezes set last were set in the cycle of the write, and stay (R508). -/
def State.maskRelease (s : State) (all co b0 b1 : Bool) (c : Nat) : State :=
  if all then
    let stays := fun (k : Nat) => co && ((s.buf k).maskAt.map (· + 1)) == some s.newestMask
    ((s.hist.bufs.map (·.1)).filter (fun k => !stays k)).foldl (fun s k => s.unfreeze k true) s
  else
    let s := if b0 then s.unfreeze (2 * c) true else s
    if b1 then s.unfreeze (2 * c + 1) true else s

end Sys2Proof.Machine
end

