-- ==== Sys2Proof/Machine/Thermal.lean ====
section
/-! DEFINITION. Thermal supervision: the tests at a mean and at a 1 ms tick, the orderly stop and the hard cut
(20_clocks_power_thermal.md R460 to R467), and the conversions that give the means (12_housekeeping_converters.md). -/
namespace Sys2Proof.Machine

/-- THERM_STATE. -/
def State.therm (s : State) : Nat := s.fld P.THERM_STATUS.THERM_STATE

/-- The valid means of accumulators 0 to 8 (R460). -/
def State.thermMeans (s : State) : List (Nat × Int) :=
  (List.range 9).filterMap (fun j => if (s.hacc j).valid then (s.hacc j).mean.map (fun m => (j, m)) else none)

/-- M and the lowest sensor giving it. -/
def State.thermMax (s : State) : Option (Nat × Int) :=
  s.thermMeans.foldl (fun a e => match a with
    | none => some e
    | some b => if b.2 < e.2 then some e else some b) none

/-- Fill THERM_LOG (Table 20.19). -/
def State.thermLog (s : State) (t causes sensor : Nat) (mean : Int) : State :=
  let s := ((s.setFld P.THERM_LOG.TIME (t % 2 ^ 32)).setFld P.THERM_LOG.CAUSE causes).setFld P.THERM_LOG.SENSOR sensor
  s.setFldI P.THERM_LOG.MEAN mean

/-- THERM_LOG [31:8], the data of kinds 0x1403 and 0x1404. -/
def State.thermData (s : State) : List Byte := leBytes 3 ((s.reg K.THERM_LOG).toNat / 256)

/-- An orderly stop is decided (R464); a second cause in the same instant joins it (Table 20.12). Causes as
THERM_LOG: 1 stop by level, 2 stop by rate. -/
def State.stopDecide (s : State) (cause sensor : Nat) (mean : Int) : State :=
  match s.power.stop with
  | some x => if x.decided = s.now then s.withPower fun p => { p with stop := some { x with causes := x.causes ||| cause } } else s
  | none =>
    if 3 ≤ s.therm then s
    else
      let col := s.openCol.map fun c => (c.frame, c.seq)
      (s.setFld P.THERM_STATUS.THERM_STATE 2).withPower fun p => { p with stop := some ⟨s.now, cause, sensor, mean, col, false⟩ }

/-- Columns in flight are lost (R465): those whose header and write-back line are not yet written, those a region has not yet
released, and the rest of a cut frame (R511); each region counts them. -/
def State.loseColumns (s : State) : State :=
  let s := forUpto 4 (fun r s => s.chanIdle r) s
  let s := forEach s.scan.columns (fun c s =>
    forUpto 4 (fun r s => if bitOf c.released r then s else s.columnLost r c.frame c.index (s.stales c)) s) s
  let s := match s.power.rest with
    | none => s
    | some c => forUpto 4 (fun r s => if bitOf s.power.restLeft r then
        forUpto (gaitC c.gait - c.seq) (fun i s => s.columnLost r c.frame (columnAt c.gait c.reverse (c.seq + i)) false) s else s) s
  let n := gaitC s.gait
  (s.withScan fun x => { x with columns := [], seq := n }).withPower fun p => { p with rest := none, restLeft := 0 }

/-- EMIT_EN is cleared and every charger follows (Table 9.4). -/
def State.emitOff (s : State) : State := forUpto 4 (fun k s => s.chargerEnable k) (s.setFld P.EMIT_CTRL.EMIT_EN 0)

/-- The hard cut (R465). Causes as THERM_LOG: 4 cut by level, 8 cut by rate prediction. -/
def State.hardCut (s : State) (cause sensor : Nat) (mean : Int) : State :=
  if s.therm = 4 then s
  else
    let s := s.setFld P.THERM_STATUS.THERM_STATE 4
    let s := (s.safeCause 4).driveOutputs
    let s := s.emitOff.loseColumns
    let s := (s.spinDown 7).setFld P.MIR_CTRL.RUN 0
    let s := s.setDomains (2 ^ 30 + 2 ^ 32 + 2 ^ 34 + 2 ^ 35) false
    let s := (s.setFld P.PWR_STATUS.STATE 2).setFld P.PWR_STATUS.TRANSITION 0
    let s := s.withPower fun p => { p with target := none, draining := false, stop := none }
    let s := (s.setFlag P.CLK_THERM_FLAGS.CUT_SEEN).thermLog s.now cause sensor mean
    s.record 0x1404 0 true true s.thermData

/-- The tests at a new mean of accumulator 0 to 8 (R460, R461, R463, R464). -/
def State.thermMean (s : State) : State :=
  match s.thermMax with
  | none => s
  | some (j, m) =>
    let s := (s.setFldI P.THERM_STATUS.MAX_MEAN m).setFld P.THERM_STATUS.HOT_SENSOR j
    let s :=
      if 2272 ≤ m ∧ !s.power.warn then
        let s := (s.withPower fun p => { p with warn := true }).setFlag P.CLK_THERM_FLAGS.WARN_SEEN
        let s := s.record 0x1402 0 false true (leBytes 1 j ++ leBytes 2 (trunc 16 m))
        if s.therm = 0 then s.setFld P.THERM_STATUS.THERM_STATE 1 else s
      else if m < 2240 ∧ s.power.warn then
        let s := s.withPower fun p => { p with warn := false }
        if s.therm = 1 then s.setFld P.THERM_STATUS.THERM_STATE 0 else s
      else s
    if 2480 ≤ m then s.hardCut 4 j m
    else if 2368 ≤ m then s.stopDecide 1 j m
    else s

/-- A sensor at a 1 ms tick: its rate over 128 ticks, where its record reaches that far back (R462). -/
def State.thermDelta (s : State) (j : Nat) : Option (Int × Int) :=
  let a := s.hacc j
  if !a.valid ∨ !s.domOn 32 then none
  else match a.mean, (Map.get [] s.power.record j)[127]? with
    | some m, some old => some (m, m - old)
    | _, _ => none

/-- Do both conditions of the rate limit hold (R462)? -/
def State.rateHot (s : State) (m d : Int) : Bool :=
  decide ((16 * s.forceFld P.THERM_CFG.RATE_ARM : Nat) ≤ m) && decide (((16 * s.forceFld P.THERM_CFG.RATE_LIM : Nat) : Int) < d * 125)

/-- Does any sensor trip the rate limit as it stands (R466)? -/
def State.rateTripped (s : State) : Bool :=
  (List.range 9).any (fun j => (s.thermDelta j).isSome && decide (3 ≤ Map.get 0 s.power.trips j))

/-- THERMAL_TICK: each sensor's rate of rise and cut prediction are tested, and its mean is recorded (R462, R463). -/
def execThermalTick (t : Nat) (s : State) : Result :=
  if s.ctl.por then .next s else
  if t % 1000000 ≠ 0 then .next s
  else
    let s := (s.at_ t).takeForce K.THERM_CFG
    let deltas := (List.range 9).filterMap (fun j => (s.thermDelta j).map (fun x => (j, x.1, x.2)))
    let s := match deltas.map (fun e => e.2.2) with
      | [] => s
      | d :: ds => s.setFldI P.THERM_STATUS.MAX_RATE (roundHalfEven (125 * ds.foldl max d) 16)
    let s := forUpto 9 (fun j s =>
      let run := match deltas.find? (fun e => e.1 == j) with
        | some (_, m, d) => if s.rateHot m d then Nat.min 3 (Map.get 0 s.power.trips j + 1) else 0
        | none => 0
      s.withPower fun p => { p with trips := Map.set 0 p.trips j run }) s
    let s := match deltas.find? (fun e => decide (0 < e.2.2 ∧ (2480 - e.2.1) * 128 ≤ e.2.2 * 5)) with
      | some (j, m, _) => s.hardCut 8 j m
      | none => s
    let s := match deltas.find? (fun e => decide (3 ≤ Map.get 0 s.power.trips e.1)) with
      | some (j, m, _) => (s.stopDecide 2 j m).setFlag P.CLK_THERM_FLAGS.RATE_SEEN
      | none => s
    .next (forUpto 9 (fun j s => match (s.hacc j).mean with
      | some m => s.withPower fun p => { p with record := Map.set [] p.record j (m :: (Map.get [] p.record j).take 127) }
      | none => s) s)

/-- The beginning of an orderly stop: steps 1 to 3 of R464. -/
def State.stopBegin (s : State) (x : OrderlyStop) : State :=
  let s := s.withPower fun p => { p with stop := some { x with begun := true }, target := none, draining := false }
  let s := s.safeCause 4
  let s := s.emitOff
  let s := (s.spinDown 7).setFld P.MIR_CTRL.RUN 0
  s.cutFrame true

/-- The end of an orderly stop: steps 5 and 6 of R464. -/
def State.stopEnd (s : State) (x : OrderlyStop) : State :=
  let s := s.setDomains (s.stateDomains 1) true
  let s := (s.setFld P.PWR_STATUS.STATE 1).setFld P.PWR_STATUS.TRANSITION 0
  let s := s.withPower fun p => { p with stop := none }
  let s := (s.setFld P.THERM_STATUS.THERM_STATE 3).setFlag P.CLK_THERM_FLAGS.STOP_SEEN
  let s := s.thermLog x.decided x.causes x.sensor x.mean
  s.record 0x1403 0 true true s.thermData

/-- ORDERLY_STOP: a decided stop begins at the hand-off of the column in progress, or at once; when its ranging chain is
empty and both safety outputs are OFF the stop is completed (R464). -/
def execOrderlyStop (t : Nat) (s : State) : Result :=
  if s.ctl.por then .next s else
  match s.power.stop with
  | none => .next s
  | some x =>
    if x.begun then
      if s.chainEmpty ∧ s.fld P.SAFETY_STATUS.OUT_ON = 0 then .next ((s.at_ t).stopEnd x) else .next s
    else if s.stopBegun then .next ((s.at_ t).stopBegin x)
    else .next s

/-- May RESUME be accepted (R466), under the THERM_CFG of the last 1 ms tick (R468)? -/
def State.resumeOk (s : State) : Bool :=
  decide (3 ≤ s.therm) && s.thermMeans.all (fun e => decide (e.2 ≤ (16 * s.forceFld P.THERM_CFG.RESUME_TEMP : Nat))) && !s.rateTripped

/-- An accepted RESUME (R466): the latch clears and THERMAL is no longer present. -/
def State.resume (s : State) : State :=
  (s.setFld P.THERM_STATUS.THERM_STATE (ofBit s.power.warn)).causeGone 4

/-- HK_CONVERSION: converter `conv` ends a conversion of its next slot; a new mean of accumulators 0 to 8 is tested
(R278 to R285, R460). -/
def execHkConversion (t conv code : Nat) (s : State) : Result :=
  if s.ctl.por then .next s else
  if 4 ≤ conv ∨ 4096 ≤ code ∨ !s.domOn 32 then .next s
  else
    let s := s.at_ t
    match (s.hkc conv).round with
    | [] => .next s
    | ch :: rest =>
      let v := s.hkValue ch code
      let s := forUpto 64 (fun j s =>
        if s.bit (P.ACC_CFG.EN.idx j) ∧ s.fld (P.ACC_CFG.CONV.idx j) = conv ∧ s.fld (P.ACC_CFG.CH.idx j) = ch then
          let full := 2 ^ s.fld (P.ACC_CFG.LOG2N.idx j) ≤ (s.hacc j).n + 1
          let s := s.accTake j v
          if full ∧ j ≤ 8 then s.thermMean else s
        else s) s
      let s := if conv = 3 then s.calTemp else s
      .next (if (s.hkc conv).round.isEmpty then s
        else if rest.isEmpty then s.hkStart conv else s.setHkc conv { s.hkc conv with round := rest })

end Sys2Proof.Machine
end

