-- ==== Sys2Proof/Machine/Write.lean ====
section
/-! DEFINITION. Writing parameters: what a write covers, the checks of R411 on it, the rules of every parameter, and the
effect it has beyond the stored value (R384, R411, R418, and the Parameters rule of each chapter). -/
namespace Sys2Proof.Machine

/-- Status codes (Table 18.7). -/
inductive Status where
  | ok | refused | badOpcode | badLength | badFormat | protected_ | badAddress | staleCounter | badTag | keyEmpty
  | dmaFault | badSignature
  deriving DecidableEq, Repr

/-- The code of a status. -/
def Status.code : Status → Nat
  | .ok => 0 | .refused => 1 | .badOpcode => 2 | .badLength => 3 | .badFormat => 4 | .protected_ => 5
  | .badAddress => 6 | .staleCounter => 7 | .badTag => 8 | .keyEmpty => 9 | .dmaFault => 10 | .badSignature => 11

/-- One entry of a write (R418). -/
structure Entry where
  key : Nat
  mask : Word
  value : Word
  deriving DecidableEq, Repr

/-- A failed command: its status, DETAIL and FAULT_KEY (Table 18.5). -/
structure Failure where
  status : Status
  detail : Nat := 0xFFFF
  key : Nat := 0
  deriving DecidableEq, Repr

/-- The bits of a field. -/
def FieldSpec.mask (f : FieldSpec) : Nat := (2 ^ (f.hi + 1 - f.lo) - 1) * 2 ^ f.lo
/-- The field as a reference. -/
def FieldSpec.ref (f : FieldSpec) (key : Nat) : FieldRef := ⟨key, f.hi, f.lo⟩
/-- The bits of a parameter whose fields satisfy a test. -/
def ParamRow.maskOf (r : ParamRow) (p : Access → Bool) : Word :=
  BitVec.ofNat 64 (sumN ((r.fields.filter (fun f => p f.access)).map FieldSpec.mask))
/-- The bits of a parameter with an access code. -/
def accessMask (key : Nat) (a : Access) : Word :=
  match paramRow? key with
  | some r => r.maskOf (fun x => x == a)
  | none => 0
/-- The bits a host write can act on. -/
def writableMask (key : Nat) : Word := accessMask key .rw ||| accessMask key .wo ||| accessMask key .w1c
/-- RO and RSN fields, reserved bits apart (check 9 of R411). -/
def readOnlyMask (key : Nat) : Word := accessMask key .ro ||| accessMask key .rsn

/-- A field value allowed by the field map (R9, R400 and its like), or the status that refuses it (R411). -/
def FieldSpec.refuses (f : FieldSpec) (key : Nat) (w : Word) : Option Status :=
  match f.range with
  | none => none
  | some (lo, hi) =>
    let n := wordFld w (f.ref key)
    let v : Int := if f.signed then sext (f.hi + 1 - f.lo) n else (n : Int)
    if lo ≤ v ∧ v ≤ hi then none else if f.enumerated then some .badFormat else some .refused

/-- The fields of a parameter that a write is checked on: the RW fields it covers, and, where it covers a WO field, every
WO field. -/
def checkedFields (key : Nat) (cov : Word) : List FieldSpec :=
  match paramRow? key with
  | none => []
  | some r =>
    let anyWo := cov &&& accessMask key .wo ≠ 0
    r.fields.filter (fun f => match f.access with
      | .rw => decide (wordFld cov (f.ref key) ≠ 0)
      | .wo => decide anyWo
      | _ => false)

/-- The first field out of its range or with a reserved encoding: encodings first. `new`: RW bits merged, WO bits as
written. SPARE_FORCE without an ACTION names nothing (Table 3.24). -/
def rangeStatus (key : Nat) (cov new : Word) : Option Status :=
  if key = K.SPARE_FORCE ∧ wordFld new P.SPARE_FORCE.ACTION = 0 then none
  else
    let bad := (checkedFields key cov).filterMap (fun f => f.refuses key new)
    if bad.any (fun x => x == .badFormat) then some .badFormat else bad.head?

/-- The gaits that can be in force with the pending W (R236). -/
def State.gaitsAhead (s : State) : List Nat :=
  if s.bit P.GAIT.PENDING then
    (if s.bit P.GAIT.TEAM_WAIT then [s.gait, s.fld P.GAIT.GAIT_NEXT] else [s.fld P.GAIT.GAIT_NEXT])
  else [s.gait]
/-- Does any of some gaits exceed the mirror's limits with a W (R236)? -/
def State.tooFast (s : State) (gaits : List Nat) (w : Nat) : Bool :=
  gaits.any (fun g => trajectoryExceeds g w (s.fld P.MIR_TRAJ.THETA_MAX) (s.fld P.MIR_TRAJ.ACC_MAX))

/-- Rules of group 0x02 (R37, R40, R41, R45, R236, R322). `cov`: bits covered; `new`: the word it would leave. -/
def State.rule02 (s : State) (key : Nat) (cov new : Word) : Bool :=
  match key with
  | 0x0200 =>
    let g := wordFld new P.GAIT.GAIT_REQ
    let gs := if g = s.gait then [g] else if s.isMember then [s.gait, g] else [g]
    wordFld cov P.GAIT.GAIT_REQ ≠ 0 && ((g == 0 && s.anyPad) || s.tooFast gs (s.fld P.FIELD.W))
  | 0x0202 =>
    let w := wordFld new P.FIELD.W
    (s.anyPad && w != s.fld P.FIELD.W) || s.tooFast s.gaitsAhead w
  | 0x0203 =>
    let g := if s.bit P.GAIT.PENDING then s.fld P.GAIT.GAIT_NEXT else s.gait
    (wordFld cov P.FRAME_SYNC.PHASE ≠ 0 && decide (gaitPhi g ≤ wordFld new P.FRAME_SYNC.PHASE)) ||
      (s.anyPad && wordFld new P.FRAME_SYNC.GATE_ARM != s.fld P.FRAME_SYNC.GATE_ARM)
  | _ => false

/-- Rules of group 0x03 (R72, R83, R322). -/
def State.rule03 (s : State) (key : Nat) (new : Word) : Bool :=
  if key = 0x03B0 ∨ key = 0x03B1 then
    s.anyPad && wordFld new P.GATE_CFG.ARM_MODE != s.fld (P.GATE_CFG.ARM_MODE.idx (key - 0x03B0))
  else if 0x0330 ≤ key ∧ key ≤ 0x038F then
    let u := (key - 0x0330) % 0x30
    let near := if key < 0x0360 then new else s.reg (0x0330 + u)
    let far := if key < 0x0360 then s.reg (0x0360 + u) else new
    (List.range 8).any (fun i =>
      decide (16 * wordFld far (P.FAR.FAR16.sub i 8) + 15 ≤ wordFld near (P.NEAR.NEAR_BIN.sub i 8)))
  else if key = K.SPARE_FORCE then
    let a := wordFld new P.SPARE_FORCE.ACTION
    a != 0 && s.spareRefused (a == 2) (wordFld new P.SPARE_FORCE.UNIT) (wordFld new P.SPARE_FORCE.CHANNEL)
  else false

/-- Rules of groups 0x04 to 0x06 (R102, R118 to R122, R134, R162). -/
def State.rule04 (s : State) (key : Nat) (cov new : Word) : Bool :=
  match key with
  | 0x0410 =>
      s.dumpRefused (wordFld new P.DUMP_REQ.FROZEN_SRC == 1) (wordFld new P.DUMP_REQ.ANY_COL == 1)
        (wordFld new P.DUMP_REQ.COLUMN) (wordFld new P.DUMP_REQ.CHANNEL) (wordFld new P.DUMP_REQ.COUNT)
  | 0x0515 =>
    let cs := maskBits 12 (wordFld new P.TPL_COMMIT.CLUSTER_MASK)
    s.forceBit P.TPL_CTRL.AUTO_TPL || decide (s.fld P.TPL_SHAPE.L ≤ s.fld P.TPL_SHAPE.ANCHOR) ||
      decide (s.stagedTemplate.g < 1) || cs.any (fun k => (s.cluster k).locked (wordFld new P.TPL_COMMIT.BANK))
  | 0x0516 =>
    s.forceBit P.TPL_CTRL.AUTO_TPL ||
      (maskBits 12 (wordFld new P.TPL_SWAP.CLUSTER_MASK)).any (fun k => (s.cluster k).swapRefused)
  | 0x0560 => decide (wordFld new P.CLASS_SHAPE.PART_BETA8 < wordFld new P.CLASS_SHAPE.SOFT_BETA8)
  | 0x0600 => wordFld cov P.EVOTH_CTRL.REFINE_SRC ≠ 0 && wordFld new P.EVOTH_CTRL.REFINE_SRC == 1 && s.evoth.refine.isNone
  | _ => false

/-- Rules of a ring's base parameter: aligned to its size, and fixed while the ring is enabled (R175). -/
def ringBaseRefused (base log2 : FieldRef) (on : Bool) (old new : Word) : Bool :=
  (on && (wordFld new base != wordFld old base || wordFld new log2 != wordFld old log2)) ||
    wordFld new base * 4096 % 2 ^ wordFld new log2 != 0

/-- Rules of groups 0x07 and 0x08 (R175, R179, R204). -/
def State.rule07 (s : State) (key : Nat) (new : Word) : Bool :=
  if 0x0710 ≤ key ∧ key ≤ 0x0713 then
    s.ringOn (key - 0x0710) || ringBaseRefused P.RING_BASE.BASE P.RING_BASE.LOG2_SIZE false 0 new
  else if 0x0718 ≤ key ∧ key ≤ 0x071B then !s.rdOk (key - 0x0718) (wordFld new P.RING_RD.RD_OFF)
  else if 0x0881 ≤ key ∧ key ≤ 0x088E then s.bit P.REC_CTRL.EN
  else false

/-- Rules of group 0x0A (R236, R237, R248). A RESTART is judged with the DRV_EN and SPARE_EN of the same write. -/
def State.rule0A (s : State) (key : Nat) (cov new : Word) : Bool :=
  match key with
  | 0x0A00 =>
    (wordFld cov P.MIR_CTRL.DRV_EN ≠ 0 && wordFld new P.MIR_CTRL.DRV_EN == 1 &&
      decide (1 < s.fld (P.CONV_CFG.PRESET.idx (s.fld P.MIR_CFG.ANG_CONV)))) ||
    (wordFld cov P.MIR_CTRL.RUN ≠ 0 && wordFld new P.MIR_CTRL.RUN == 1 && s.fld P.MIR_GAINS.KP == 0) ||
      (wordFld new P.MIR_CTRL.RESTART == 1 && !(s.setReg key new).mirRestartOk)
  | 0x0A01 =>
    (wordFld cov P.MIR_CFG.ANG_CONV != 0 && s.mirSt != 0) ||
      decide (wordFld new P.MIR_CFG.I_TRIP ≤ wordFld new P.MIR_CFG.I_LIMIT)
  | 0x0A04 => (wordFld cov P.MIR_TRAJ.THETA_MAX != 0 || wordFld cov P.MIR_TRAJ.ACC_MAX != 0) &&
    trajectoryExceeds s.gait s.fieldW (wordFld new P.MIR_TRAJ.THETA_MAX) (wordFld new P.MIR_TRAJ.ACC_MAX)
  | 0x0A05 => decide (wordFld new P.MIR_TOL.LOSS_TOL < wordFld new P.MIR_TOL.TRACK_TOL)
  | _ => false

/-- May a Paddock be enabled now (R41, R322, Table 14.16)? -/
def State.padMayStart (s : State) (p : Nat) : Bool :=
  !s.bit (P.PD_CFG.BUSY.idx p) && s.fld (P.PD_CFG.NV.idx p) != 0 && s.gait != 0 &&
    !(s.bit P.GAIT.PENDING && s.fld P.GAIT.GAIT_NEXT == 0) && s.fld P.FRAME_SYNC.GATE_ARM == 0 &&
    s.fld P.GATE_CFG.ARM_MODE == 0 && s.fld (P.GATE_CFG.ARM_MODE.idx 1) == 0

/-- Rules of group 0x0E (R41, R322, R327, R334, R335). -/
def State.rule0E (s : State) (key : Nat) (cov new : Word) : Bool :=
  if key = K.PD_CTRL then wordFld new P.PD_CTRL.SAFE_RESET == 1 && !s.safeResetOk
  else if key = K.PD_GEOM ∨ (0x0E80 ≤ key ∧ key ≤ 0x0EDF) then s.anyPad
  else if 0x0E10 ≤ key ∧ key ≤ 0x0E1F then
    let p := key - 0x0E10
    let on := wordFld new P.PD_CFG.EN == 1
    (s.padOn p && [P.PD_CFG.Z_HI, P.PD_CFG.Z_LO, P.PD_CFG.MIN_POINTS].any (fun f => wordFld cov f != 0)) || (on && !s.padOn p && !s.padMayStart p) ||
      decide (sext 16 (wordFld new P.PD_CFG.Z_HI) < sext 16 (wordFld new P.PD_CFG.Z_LO))
  else if 0x0E20 ≤ key ∧ key ≤ 0x0E2F then s.padOn (key - 0x0E20)
  else if key = K.PD_COMMIT then
    let p := wordFld new P.PD_COMMIT.PADDOCK
    let nv := wordFld new P.PD_COMMIT.NV
    s.padOn p || s.bit (P.PD_CFG.BUSY.idx p) || decide (nv < 3 ∨ 32 < nv) || !polyOk (s.stagedVerts nv)
  else false

/-- Rules of group 0x11 (R175, R179, R381, R391, R395, R400). -/
def State.rule11 (s : State) (key : Nat) (new : Word) : Bool :=
  match key with
  | 0x1100 => wordFld new P.LINK_CTRL.RETRAIN == 1 && s.host.retraining
  | 0x1104 | 0x1105 => s.fld P.DMA_STATE.STALLED != 0 || s.bit P.STU_INV.BUSY
  | 0x1106 => wordFld new P.STU_INV.START == 1 && s.bit P.STU_INV.BUSY
  | 0x1110 =>
      (let c := wordFld new P.DMA_CMD.CHANNEL
       let abort := wordFld new P.DMA_CMD.ACTION == 2
       !s.stalled c || (abort && c == 7) || (!abort && ((s.chan c).walk.isSome || (s.chan c).resumeDue)))
  | 0x1120 => ringBaseRefused P.DUMP_RING.BASE P.DUMP_RING.LOG2_SIZE (s.ringOn 4 && wordFld new P.DUMP_RING.EN == 1) (s.reg key) new
  | 0x1124 => ringBaseRefused P.REC_RING.BASE P.REC_RING.LOG2_SIZE (s.ringOn 5 && wordFld new P.REC_RING.EN == 1) (s.reg key) new
  | 0x1121 | 0x1125 => bitsOf new.toNat 63 48 != 0
  | 0x1122 => !s.rdOk 4 new.toNat
  | 0x1126 => !s.rdOk 5 new.toNat
  | _ => false

/-- Is there a W1C bit at a key and bit (R485)? -/
def isFlag (key bit : Nat) : Bool := bitOf (accessMask key .w1c).toNat bit

/-- Rules of groups 0x13 to 0x16 (R435, R449, R456, R466, R482, R485, R497). -/
def State.rule13 (s : State) (key : Nat) (cov new : Word) : Bool :=
  match key with
  | 0x1305 => wordFld new P.FW_CTRL.CONFIRM == 1 && s.nv.trial.isNone
  | 0x1400 => s.pll != 1
  | 0x1402 => s.powerRefused cov new
  | 0x140A => wordFld new P.THERM_CTRL.RESUME == 1 && !s.resumeOk
  | 0x1508 => ringBaseRefused P.EVENT_RING.BASE P.EVENT_RING.LOG2_SIZE (s.ringOn 7 && wordFld new P.EVENT_RING.EN == 1) (s.reg key) new
  | 0x150A => !s.rdOk 7 new.toNat
  | 0x1510 => !isFlag (wordFld new P.FLAG_SEL.KEY) (wordFld new P.FLAG_SEL.BIT)
  | 0x1601 =>
      (s.dcl.isSome || !bitOf (s.fld P.DCL_CFG.EN) (wordFld new P.DCL_XFER.LANE) || wordFld new P.DCL_XFER.ADDR == 0x3FFF)
  | _ => false

/-- Do the rules of the parameter's chapter refuse a write (check 10 of R411)? -/
def State.ruleRefuses (s : State) (key : Nat) (cov new : Word) : Bool :=
  match key / 256 with
  | 0x02 => s.rule02 key cov new
  | 0x03 => s.rule03 key new
  | 0x04 | 0x05 | 0x06 => s.rule04 key cov new
  | 0x07 | 0x08 => s.rule07 key new
  | 0x0A => s.rule0A key cov new
  | 0x0B => s.feRefused key cov new
  | 0x0C => if 0x0C10 ≤ key ∧ key ≤ 0x0C4F then accRefused (key - 0x0C10) cov new else false
  | 0x0D => if key = K.CAL_LIMITS then
      decide (wordFld new P.CAL_LIMITS.FTE_DEFAULT < wordFld new P.CAL_LIMITS.FTE_MIN ∨
        wordFld new P.CAL_LIMITS.FTE_MAX < wordFld new P.CAL_LIMITS.FTE_DEFAULT ∨
        wordFld new P.CAL_LIMITS.FTE_MAX < wordFld new P.CAL_LIMITS.FTE_MIN) else false
  | 0x0E => s.rule0E key cov new
  | 0x0F => bridleRefused key cov new
  | 0x10 => s.hitchRefused key new
  | 0x11 => s.rule11 key new
  | _ => s.rule13 key cov new

/-- The RW bits an entry stores. A write of SPARE_FORCE that makes no request leaves UNIT and CHANNEL unchanged
(Table 3.24). -/
def Entry.stores (e : Entry) : Word :=
  if e.key = K.SPARE_FORCE ∧ wordFld (e.value &&& e.mask) P.SPARE_FORCE.ACTION = 0 then 0
  else e.mask &&& accessMask e.key .rw

/-- What an entry covers and would leave: RW bits merged into the present word, WO bits as written (R418). -/
def State.merged (s : State) (e : Entry) : Word × Word :=
  let cov := e.mask &&& writableMask e.key
  let rw := e.stores
  let wo := accessMask e.key .wo
  (cov, (s.reg e.key &&& ~~~ (rw ||| wo)) ||| (e.value &&& (rw ||| (cov &&& wo))))

/-- Does an entry write an ACC_SEL value above 63 (R287)? -/
def Entry.selOver (e : Entry) : Bool :=
  e.key == K.ACC_SEL && wordFld e.mask P.ACC_SEL.ACC != 0 && wordFld (e.value &&& e.mask) ⟨K.ACC_SEL, 7, 6⟩ != 0

/-- Check 10 on one entry. -/
def State.entryStatus (s : State) (e : Entry) : Option Status :=
  let (cov, new) := s.merged e
  match rangeStatus e.key cov new with
  | some x => some x
  | none => if (cov ≠ 0 && s.ruleRefuses e.key cov new) || e.selOver then some .refused else none

/-- Check 9 on one entry (R411, R415, R220, R424). `auth`: the command is tagged, or is the boot list (R442). -/
def State.entryProtected (s : State) (auth : Bool) (e : Entry) : Bool :=
  (match paramRow? e.key with
   | some r => match r.protection with
     | .critical => !auth
     | .ringsInit => true
     | .open => false
   | none => false) ||
  decide (e.mask &&& readOnlyMask e.key ≠ 0) ||
  (decide (0x0910 ≤ e.key ∧ e.key ≤ 0x0920) && s.bit P.EXP_CFG.LOCK)

end Sys2Proof.Machine
end

