-- ==== Sys2Proof/Machine/WriteFx.lean ====
section
/-! DEFINITION. What an accepted parameter write does beyond the stored value, and how the entries of one write take
effect together (R384, R398, R418). -/
namespace Sys2Proof.Machine

/-- CNT_SEL copies the four counters of a channel (R75). -/
def State.countersView (s : State) (c : Nat) : State :=
  let x := s.ch c
  let s := (s.setFld P.CNT_A.STRAY x.stray).setFld P.CNT_A.GATED x.gated
  (s.setFld P.CNT_B.DISARMED x.disarmed).setFld P.CNT_B.RATE_DROPS x.rateDrops

/-- A ring of groups 0x11 and 0x15 enabled: both offsets start at 0 (R175). -/
def State.ringEnable (s : State) (c : Nat) : State := (s.setFld (ringWrField c) 0).setFld (ringRdField c) 0

/-- PD_CRC from the committed vertices and the parameters in force (R335). -/
def State.padCrc (s : State) (p : Nat) : State :=
  let v := (s.pad p).verts
  let bytes := (v.map (fun (x : Int × Int) => leBytes 2 (trunc 16 x.1) ++ leBytes 2 (trunc 16 x.2))).flatten ++
    leBytes 2 (s.fld (P.PD_CFG.Z_LO.idx p)) ++ leBytes 2 (s.fld (P.PD_CFG.Z_HI.idx p)) ++
    leBytes 1 (s.fld (P.PD_CFG.MIN_POINTS.idx p))
  s.setFld (P.PD_CRC.CRC.idx p) (bridleCrc bytes)

/-- PD_COMMIT: the staged vertices become the Paddock's, and its interval tables are to be computed (R335). -/
def State.padCommit (s : State) (p nv : Nat) : State :=
  let s := s.withPad p fun x => { x with verts := s.stagedVerts nv }
  ((s.setFld (P.PD_CFG.NV.idx p) nv).setFld (P.PD_CFG.BUSY.idx p) 1).padCrc p

/-- A Paddock's EN has been written (R322). -/
def State.padEnWritten (s : State) (p : Nat) (was : Bool) : State :=
  let on := s.padOn p
  if on && !was then (s.padStart p).withPad p fun x => { x with since := s.now }
  else if !on && was then s.padStop p
  else s

/-- CONFIRM: the running bank becomes active, ROLLBACK and the revocations are burned (R435). -/
def State.confirm (s : State) : State :=
  let running := s.bit P.FW_STATUS.RUNNING_BANK
  let (svn, revoke) : Nat × Nat := match (if running then s.nv.bankB else s.nv.bankA) with
    | some b => (b.svn, b.revoke)
    | none => (0, 0)
  { s with nv := { s.nv with
    activeB := running, trial := none, rollback := Nat.max s.nv.rollback svn, revoked := s.nv.revoked ||| revoke } }

/-- STU_INV START: cached translations of the page, or all, are removed (R391). -/
def State.stuInvalidate (s : State) : State :=
  let va := s.fld P.STU_INV.VA * 4096
  let all := s.bit P.STU_INV.ALL
  let s := { s with host := { s.host with tlb := s.host.tlb.filter (fun e => !all && !e.covers va) } }
  s.setFld P.STU_INV.BUSY 1

/-- MIR_CTRL has been written: the bits covered act at the next sample or tick (R248), at once where that of this tick has been:
a RUN written in a tick is applied last (R238). -/
def State.mirCtrl (s : State) (cov : Word) : State :=
  let drv := decide (wordFld cov P.MIR_CTRL.DRV_EN ≠ 0)
  let run := decide (wordFld cov P.MIR_CTRL.RUN ≠ 0)
  let s := s.withMir fun m => { m with
    runAt := if run ∧ s.bit P.MIR_CTRL.RUN then some s.now else m.runAt
    drvDue := m.drvDue || drv, runDue := m.runDue || run }
  if s.mirror.tickAt = some s.now then s.mirDrv.mirRun else s

/-- Effects of groups 0x02 to 0x08 beyond the stored value. `old`: the word before the write; `cov`: bits covered. -/
def State.level02 (s : State) (key : Nat) (old cov : Word) : State :=
  match key with
  | 0x0200 => if wordFld cov P.GAIT.GAIT_REQ = 0 then s else (s.requestGait (s.fld P.GAIT.GAIT_REQ)).askPhase
  | 0x0203 =>
    if wordFld cov P.FRAME_SYNC.PHASE = 0 then s
    else
      let v := s.fld P.FRAME_SYNC.PHASE
      (s.setFld P.FRAME_SYNC.PHASE (wordFld old P.FRAME_SYNC.PHASE)).withScan fun c => { c with phaseReq := some v }
  | 0x0390 => s.countersView (s.fld P.CNT_SEL.CHANNEL)
  | 0x03D0 => s.calView (s.fld P.CAL_SEL.INPUT)
  | 0x0440 => s.freezeView (s.fld P.FREEZE_SEL.CHANNEL)
  | 0x0517 => if wordFld cov P.TPL_CTRL.AUTO_TPL = 0 then s else forUpto 12 (fun k s => s.gatherRestart k) s
  | 0x0550 => s.bgView (s.fld P.BG_SEL.CHANNEL)
  | 0x0600 => if wordFld cov P.EVOTH_CTRL.BG_EN = 0 then s else s.bgEnables
  | 0x0803 => s.maskView (s.fld P.MASK_SEL.CHANNEL)
  | 0x088E => s.recPattern
  | 0x0880 => if wordFld cov P.REC_CTRL.EN = 0 then s else s.recEnable (s.bit P.REC_CTRL.EN)
  | _ =>
    if 0x0714 ≤ key ∧ key ≤ 0x0717 then
      if wordFld old P.RING_NOTIFY.EN = 0 ∧ s.ringOn (key - 0x0714) then s.pointRingEnable (key - 0x0714) else s
    else if 0x0886 ≤ key ∧ key ≤ 0x088D then
      (s.withRec fun r => { r with selVersion := wrapAdd 16 r.selVersion 1 }).recPattern
    else s

/-- Effects of group 0x09: chargers follow their enables, and targets are formed (R208, R222). -/
def State.level09 (s : State) (key : Nat) : State :=
  match key with
  | 0x0900 => (forUpto 4 (fun k s => s.chargerEnable k) s).targetsForm s.gait
  | 0x0905 => s.targetsForm s.gait
  | 0x0921 => s.setReg K.EXP_VIEW (BitVec.ofNat 64 (s.acc (s.fld P.EXP_SEL.BANK)))
  | _ =>
    if 0x0901 ≤ key ∧ key ≤ 0x0904 then
      ((s.adaptFix (key - 0x0901)).chargerEnable (key - 0x0901)).targetForm s.gait (key - 0x0901)
    else if 0x0911 ≤ key ∧ key ≤ 0x0920 then s.targetForm s.gait ((key - 0x0911) / 4)
    else s

/-- Effects of groups 0x0A to 0x0F beyond the stored value. -/
def State.level0A (s : State) (key : Nat) (old cov : Word) : State :=
  if key = K.MIR_CTRL then s.mirCtrl cov
  else if key = K.MIR_RC then s.rcLimit
  else if key / 256 = 0x0B then
    if key = 0x0B05 ∨ key = 0x0B2C then s else s.feWritten key cov old (s.reg key)
  else if 0x0C00 ≤ key ∧ key ≤ 0x0C03 then s.hkWritten
  else if 0x0C10 ≤ key ∧ key ≤ 0x0C4F then s.accWritten (key - 0x0C10) old
  else if 0x0E10 ≤ key ∧ key ≤ 0x0E1F then
    let p := key - 0x0E10
    let s := s.padEnWritten p (wordFld old P.PD_CFG.EN == 1)
    let d := fun (f : FieldRef) => decide (wordFld old f ≠ s.fld (f.idx p))
    if d P.PD_CFG.Z_LO || d P.PD_CFG.Z_HI || d P.PD_CFG.MIN_POINTS then s.padCrc p else s
  else if 0x0F10 ≤ key ∧ key ≤ 0x0F1F then
    s.srcWritten (key - 0x0F10) (wordFld old P.BR_SRC.EN == 1)
  else s

/-- Effects of groups 0x10 to 0x15 beyond the stored value. -/
def State.level10 (s : State) (key : Nat) (old cov : Word) : State :=
  match key with
  | 0x1000 =>
    let s := if wordFld cov P.HITCH_CTRL.LANE_EN = 0 then s else s.lanesOff
    if wordFld old P.HITCH_CTRL.TEAM_EN = s.fld P.HITCH_CTRL.TEAM_EN then s else (forUpto 8 (fun l s => s.beacon l) s).showTeam
  | 0x1120 => if wordFld old P.DUMP_RING.EN = 0 ∧ s.ringOn 4 then s.ringEnable 4 else s
  | 0x1124 => if wordFld old P.REC_RING.EN = 0 ∧ s.ringOn 5 then s.ringEnable 5 else s
  | 0x1400 => if wordFld cov P.CLK_CTRL.PFD_MODE = 0 then s
    else s.withPower fun p => { p with pfdPend := some (pfdDividers (s.fld P.CLK_CTRL.PFD_MODE)), pfdDue := false }
  | 0x1402 => s.powerWritten cov
  | 0x1508 => (if wordFld old P.EVENT_RING.EN = 0 ∧ s.ringOn 7 then s.ringEnable 7 else s).pump 7
  | 0x1510 => s.flagView
  | _ => s

/-- What a parameter's new value brings about at once, beyond being stored. -/
def State.levelEffect (s : State) (key : Nat) (old cov : Word) : State :=
  if cov = 0 then s else
  match key / 256 with
  | 0x02 | 0x03 | 0x04 | 0x05 | 0x06 | 0x07 | 0x08 => s.level02 key old cov
  | 0x09 => s.level09 key
  | 0x0A | 0x0B | 0x0C | 0x0D | 0x0E | 0x0F => s.level0A key old cov
  | _ => s.level10 key old cov

/-- The actions of WO bits in groups 0x03 to 0x0C. `new`: RW bits as merged and WO bits as written. -/
def State.order03 (s : State) (key : Nat) (cov new co : Word) : State :=
  -- an order that a happening of the same cycle overrules (R508): a charger's new fault, a freeze, a new verdict
  let still := new &&& ~~~ co
  match key with
  | 0x03A0 => if wordFld new P.STAT_CTRL.START = 1 then s.statStart else s
  | 0x03D3 =>
    let a := wordFld new P.SPARE_FORCE.ACTION
    if a = 0 then s else s.spareRequest (a == 2) (wordFld new P.SPARE_FORCE.UNIT) (wordFld new P.SPARE_FORCE.CHANNEL)
  | 0x0410 => s.dumpStart (wordFld new P.DUMP_REQ.FROZEN_SRC == 1) (wordFld new P.DUMP_REQ.ANY_COL == 1)
      (wordFld new P.DUMP_REQ.COLUMN) (wordFld new P.DUMP_REQ.CHANNEL) (wordFld new P.DUMP_REQ.COUNT)
  | 0x0515 => forEach (maskBits 12 (wordFld new P.TPL_COMMIT.CLUSTER_MASK)) (fun k s =>
      s.withCluster k fun c => c.takeCommit (wordFld new P.TPL_COMMIT.BANK) s.now s.stagedTemplate) s
  | 0x0516 => forEach (maskBits 12 (wordFld new P.TPL_SWAP.CLUSTER_MASK)) (fun k s =>
      s.withCluster k fun c => c.takeSwap (wordFld new P.TPL_SWAP.BANK) (wordFld new P.TPL_SWAP.FADE_COLS) s.now) s
  | 0x0600 => forEach (maskBits 16 (wordFld new P.EVOTH_CTRL.RESTART)) (fun q s => s.coreRestart q) s
  | 0x0700 => if wordFld new P.STREAM_CFG.KEY_REQ = 1 then
      forUpto 4 (fun r s => s.withStream r fun g => { g with causes := g.causes ||| 8 }) s else s
  | 0x0801 => forEach (maskBits 12 (wordFld new P.ENV_COMMIT.CLUSTER_MASK)) (fun k s =>
      s.withCluster k fun c => { c with envPend := Map.insert c.envPend (wordFld new P.ENV_COMMIT.SET) s.stagedEnv }) s
  | 0x0802 => s.maskRelease (wordFld new P.MASK_RELEASE.ALL == 1) (wordFld co P.MASK_RELEASE.ALL == 1) (wordFld still P.MASK_RELEASE.BUF0 == 1)
      (wordFld still P.MASK_RELEASE.BUF1 == 1) (wordFld new P.MASK_RELEASE.CHANNEL)
  | 0x0880 =>
    let s := if wordFld new P.REC_CTRL.SW_TRIG = 1 then s.recSwTrig else s
    if wordFld new P.REC_CTRL.STOP = 1 then s.recStop else s
  | 0x0906 => forEach (maskBits 4 (wordFld still P.CHG_CLEAR.CLEAR)) (fun k s => s.chargerClear k) s
  | 0x0A00 => if wordFld new P.MIR_CTRL.RESTART = 1 then s.mirRestart else s
  | 0x0A06 => if wordFld new P.MIR_RC.RC_CLEAR = 1 then s.rcClear else s
  | 0x0B05 => s.feWritten key cov 0 (wordSet new P.FE_CTRL.IMP_CLEAR (wordFld still P.FE_CTRL.IMP_CLEAR))
  | 0x0B2C => s.feWritten key cov 0 new
  | 0x0C50 => s.accSelect (wordFld new P.ACC_SEL.ACC) (wordFld new P.ACC_SEL.CLR_MINMAX == 1) (wordFld co P.ACC_SEL.CLR_MINMAX == 1)
  | _ => s

/-- The actions of WO bits in groups 0x0D to 0x16. -/
def State.order0D (s : State) (key : Nat) (new : Word) : State :=
  match key with
  | 0x0D00 => if wordFld new P.CAL_CTRL.RUN_REQ = 1 then s.calRequest 2 else s
  | 0x0E00 => if wordFld new P.PD_CTRL.SAFE_RESET = 1 then s.safeReset else s
  | 0x0E40 => s.padCommit (wordFld new P.PD_COMMIT.PADDOCK) (wordFld new P.PD_COMMIT.NV)
  | 0x1001 =>
    let s := if wordFld new P.HITCH_CMD.SLIP = 1 then s.slip (wordFld new P.HITCH_CMD.LANE) else s
    if wordFld new P.HITCH_CMD.LEAVE = 1 then s.leave else s
  | 0x1018 => if wordFld new P.EYE_CTRL.START = 1 then s.eyeStart else s
  | 0x1100 => if wordFld new P.LINK_CTRL.RETRAIN = 1 then { s with host := { s.host with retraining := true } } else s
  | 0x1106 => if wordFld new P.STU_INV.START = 1 then s.stuInvalidate else s
  | 0x1110 =>
    if wordFld new P.DMA_CMD.ACTION = 1 then s.dmaResume (wordFld new P.DMA_CMD.CHANNEL)
    else s.dmaAbort (wordFld new P.DMA_CMD.CHANNEL)
  | 0x1305 => if wordFld new P.FW_CTRL.CONFIRM = 1 then s.confirm else s
  | 0x140A => if wordFld new P.THERM_CTRL.RESUME = 1 then s.resume else s
  | 0x1500 => if wordFld new P.RESET_CTRL.CTRL_RESTART = 1 then { s with ctl := { s.ctl with asked := some 1 } } else s
  | 0x1601 => { s with dcl := some ⟨wordFld new P.DCL_XFER.LANE, wordFld new P.DCL_XFER.WRITE == 1,
      wordFld new P.DCL_XFER.ADDR, wordFld new P.DCL_XFER.DATA, s.now, false, 0⟩ }
  | _ => s

/-- The actions of an entry's WO bits, where it covers any writable bit. `co`: the bits whose happening in the block fell in
the same cycle of that block's clock (R508). -/
def State.orderEffect (s : State) (key : Nat) (cov new co : Word) : State :=
  if cov = 0 then s else if key / 256 < 0x0D then s.order03 key cov new co else s.order0D key new

/-- The bits of a parameter among coincidences named as 64 × key + bit (R508). -/
def coWord (coinc : List Nat) (key : Nat) : Word :=
  BitVec.ofNat 64 (sumN ((List.range 64).map (fun b => if coinc.contains (64 * key + b) then 2 ^ b else 0)))

/-- The W1C bits of an entry: cleared, but for those the hardware sets in the same cycle, which stay set and count
(R13, R484). `coinc`: such bits as 64 × key + bit. -/
def State.clearFlags (s : State) (coinc : List Nat) (e : Entry) : State :=
  let ones := (e.mask &&& e.value &&& accessMask e.key .w1c).toNat
  forEach (maskBits 64 ones) (fun b s => s.clearFlag e.key b (coinc.contains (64 * e.key + b))) s

/-- Store an entry's RW bits and clear its flags. -/
def State.storeEntry (s : State) (coinc : List Nat) (e : Entry) : State :=
  let rw := e.stores
  let s := s.setReg e.key ((s.reg e.key &&& ~~~ rw) ||| (e.value &&& rw))
  s.clearFlags coinc e

/-- An entry alone: stored, with all its effects. -/
def State.applyEntry (s : State) (coinc : List Nat) (e : Entry) : State :=
  let old := s.reg e.key
  let (cov, new) := s.merged e
  let s := s.storeEntry coinc e
  (s.levelEffect e.key old cov).orderEffect e.key cov new (coWord coinc e.key)

/-- Check 10 on the entries in order, each against the staged effects of those before it (R418). -/
def checkEntries : List Entry → Nat → State → Option Failure
  | [], _, _ => none
  | e :: l, i, s => match s.entryStatus e with
    | some st => some ⟨st, i, e.key⟩
    | none => checkEntries l (i + 1) (s.applyEntry [] e)

/-- Checks 8 to 10 of R411 on the entries of a write. -/
def State.entriesFail (s : State) (auth : Bool) (l : List Entry) : Option Failure :=
  match l.findIdx? (fun (e : Entry) => (paramRow? e.key).isNone) with
  | some i => some ⟨.badAddress, i, (l[i]?.map Entry.key).getD 0⟩
  | none => match l.findIdx? (fun (e : Entry) => s.entryProtected auth e) with
    | some i => some ⟨.protected_, i, (l[i]?.map Entry.key).getD 0⟩
    | none => checkEntries l 0 s

/-- The bits the entries of one key cover together. -/
def coverOf (l : List Entry) (key : Nat) : Word :=
  (l.filter (fun e => e.key == key)).foldl (fun a e => a ||| (e.mask &&& writableMask key)) 0

/-- Does a parameter's new value start work that reads other parameters of the same write: the background jobs, the
converters' rounds (R153, R279)? -/
def startsWork (key : Nat) : Bool := key == 0x0600 || (decide (0x0C00 ≤ key) && decide (key ≤ 0x0C03))

/-- The entries take effect together (R398, R418): stored in order, a parameter's new value acting once, at its last
entry and against the word before the write, or after every entry is stored where it starts work; each action of a WO bit
acting in its place. -/
def commitEntries (s0 : State) (coinc : List Nat) (all : List Entry) : List Entry → State → State
  | [], s => s
  | e :: l, s =>
    let (cov, new) := s.merged e
    let s := s.storeEntry coinc e
    let level := fun (s : State) => s.levelEffect e.key (s0.reg e.key) (coverOf all e.key)
    let last := !l.any (fun x => x.key == e.key)
    let later := startsWork e.key && !l.isEmpty
    let s := if last && !later then level s else s
    let s := commitEntries s0 coinc all l (s.orderEffect e.key cov new (coWord coinc e.key))
    if last && later then level s else s

/-- A write of entries: all or nothing (R418). -/
def State.writeEntries (s : State) (auth : Bool) (coinc : List Nat) (l : List Entry) : Except Failure State :=
  match s.entriesFail auth l with
  | some f => .error f
  | none => .ok (commitEntries s coinc l l s)

/-- An ignored BAR0 write: its offset enters the fault log (R384, R416). -/
def State.bar0Ignored (s : State) (offset : Nat) : State :=
  (s.record 0x1202 12 true false (leBytes 1 0 ++ leBytes 4 offset)).setFlag P.SALSOL_FLAGS.PROTECTED_SEEN

/-- Is the device in recovery (R434)? -/
def State.inRecovery (s : State) : Bool := s.bit P.FW_STATUS.RECOVERY

/-- A BAR0 write of a parameter (R384): RO, RSN and reserved bits are no part of it; a parameter with nothing to write is
ignored and logged (23_parameter_index.md, the example after Table 23.2). -/
def State.bar0Write (s : State) (key : Nat) (half : Half) (value coinc : Word) : State :=
  let off := 0x100000 + 8 * key + (match half with | .high => 4 | _ => 0)
  if (paramRow? key).isNone then s
  else if s.inRecovery ∨ writableMask key = 0 then s.bar0Ignored off
  else match s.writeEntries false ((maskBits 64 coinc.toNat).map (64 * key + ·)) [⟨key, halfBits half &&& writableMask key, value⟩] with
    | .ok s' => s'
    | .error _ => s.bar0Ignored off

end Sys2Proof.Machine
end

