-- ==== Sys2Proof/Machine/Read.lean ====
section
/-! DEFINITION. Reading parameters: fields that show a state kept elsewhere, the shadows of split reads, and the reads
that act (R14, R182, R183, R202). -/
namespace Sys2Proof.Machine

/-- Table 21.4: does fault class `n` hold? -/
def State.classActive (s : State) (n : Nat) : Bool :=
  match n with
  | 0 => decide (3 ≤ s.therm)
  | 1 => s.bit P.RESET_STATUS.START_LATCH || s.fld P.SAFETY_STATUS.SAFE_CAUSE != 0 ||
      s.fld P.SAFETY_STATUS.IN_FAULT != 0 || s.fld P.SAFETY_STATUS.OUT_FAULT != 0 ||
      (List.range 16).any (fun p => s.padOn p && s.coverage p == 2)
  | 2 => (List.range 4).any (fun k => s.chgState k == 4)
  | 3 => s.mirSt == 6 || s.mirSt == 7
  | 4 => s.fld P.SPARE_MAP.LOST_CH != 0
  | 5 =>
    let open_ := fun (l : List (Nat × Option Nat)) => l.any (fun m => m.2.isNone)
    (List.range 2).any (fun v => open_ (s.conv v).impMarks) || (List.range 2).any (fun j => open_ (s.exc j).marks)
  | 6 => s.pll != 1
  | 7 => s.fld P.DMA_STATE.STALLED != 0
  | 8 => (List.range 16).any (fun q => s.bit (P.CORE_STATUS.HALTED.idx q))
  | 9 => (List.range 16).any (fun e => s.srcLost e)
  | 10 => s.bit P.TACK_STATUS.TACK_DEFAULTED || !s.bit P.ID_INFO.ID_OK
  | 11 => s.inRecovery
  | _ => false

/-- FAULT_ACTIVE as it stands; under power-on reset its reset value (Table 21.10). -/
def State.faultActive (s : State) : Nat :=
  if s.ctl.por then 2 else sumN ((List.range 12).map (fun n => if s.classActive n then 2 ^ n else 0))

/-- The READY pin (R476). -/
def State.readyPin (s : State) : Bool := !s.ctl.por && s.ctl.ready && !s.inRecovery
/-- The FAULT_N pin (R476). -/
def State.faultNPin (s : State) : Bool :=
  !s.ctl.por && !s.inRecovery && (s.faultActive &&& s.fld P.RESET_CTRL.FAULTN_MASK) == 0

/-- The state of a cluster's banks as TPL_STATE shows it (Table 5.16). -/
def State.tplState (s : State) (k : Nat) : Nat :=
  let c := s.cluster k
  let (held, hb, hf) := match c.held with
    | some (b, f) => (1, b, f)
    | none => (0, 0, 0)
  let (fading, src, act, fc, m) := match c.fade with
    | some f => (1, f.src, f.dst, f.f, f.m)
    | none => (0, 0, c.active, 0, 0)
  c.locks * 2 ^ 40 + hf * 2 ^ 32 + hb * 2 ^ 25 + held * 2 ^ 24 + fc * 2 ^ 16 + m * 2 ^ 8 + fading * 16 + src * 4 + act

/-- HALTER_MS: the least time left among the Paddocks in HALTER (Table 14.13). The manual does not say how a part of a ms
counts; that last unit is a free value (notes/assumptions 3). -/
def State.halterMs (s : State) : Nat :=
  let left := (List.range 16).filterMap (fun p => match (s.pad p).halterFrom with
    | some b => if s.padOn p ∧ s.coverage p = 1 then some (b + (s.forceFld P.PD_CTRL.HALTER_S * 1000000000 : Nat) - (s.now : Int)).toNat else none
    | none => none)
  match left with
  | [] => 0xFFFF
  | a :: l =>
    let n := l.foldl Nat.min a
    n / 1000000 + (if n % 1000000 = 0 then 0 else (Config.freeBits (2 ^ 64 + s.now)).toNat % 2)

/-- Is a firmware bank bootable (R434)? -/
def State.bootable (s : State) (b : Option FwBank) : Bool :=
  match b with
  | some x => x.verifies && decide (s.nv.rollback ≤ x.svn) && !bitOf s.nv.revoked (x.rootGen - 1)
  | none => false

/-- FW_STATUS as it stands (Table 19.14). -/
def State.fwStatus (s : State) : Word :=
  let svn := fun (b : Option FwBank) => (b.map (fun x => x.svn)).getD 0
  let w := s.reg K.FW_STATUS
  let w := (wordSet w P.FW_STATUS.SVN_A (svn s.nv.bankA)) |> fun w => wordSet w P.FW_STATUS.SVN_B (svn s.nv.bankB)
  let w := wordSet w P.FW_STATUS.ROLLBACK s.nv.rollback
  let w := wordSet w P.FW_STATUS.B_BOOTABLE (ofBit (s.bootable s.nv.bankB))
  let w := wordSet w P.FW_STATUS.A_BOOTABLE (ofBit (s.bootable s.nv.bankA))
  let w := wordSet w P.FW_STATUS.PENDING (ofBit s.nv.pending.isSome)
  let w := wordSet w P.FW_STATUS.TRIAL (ofBit s.nv.trial.isSome)
  wordSet w P.FW_STATUS.ACTIVE_BANK (ofBit s.nv.activeB)

/-- Slots of a map that hold something, as bits. -/
def slotBits {α : Type} (n : Nat) (m : SMap α) : Nat :=
  sumN ((List.range n).map (fun i => if (Map.find? m i).isSome then 2 ^ i else 0))

/-- A transfer's TOTAL and RECEIVED (Tables 18.18, 19.16). -/
def Xfer.word (x : Xfer) : Word := BitVec.ofNat 64 (x.total * 2 ^ 32 + x.bytes.length)

/-- What a read of a parameter returns: the register, or, for fields that show a state kept elsewhere, that state. -/
def State.readParam (s : State) (key : Nat) : Word :=
  let w := s.reg key
  match key with
  | 0x03D2 => wordSet w P.SPARE_MAP.IN_USE (sumN ((List.range 48).map (fun u => if (s.spare u).channel.isSome then 2 ^ u else 0)))
  | 0x03D4 => BitVec.ofNat 64 (sumN ((List.range 48).map (fun u => if (s.spare u).failed then 2 ^ u else 0)))
  | 0x0442 => let n := s.frozenCounts; BitVec.ofNat 64 (n.2 * 2 ^ 16 + n.1)
  | 0x0890 | 0x0892 => (s.recTo (s.now + 1) s.now).reg key
  | 0x0891 => match (if s.bit P.REC_CTRL.DRAIN then [] else (s.recTo (s.now + 1) s.now).recorder.fifo) with
    | [] => BitVec.ofNat 64 s.recorder.lastWord
    | x :: _ => BitVec.ofNat 64 x.word
  | 0x0A08 => wordSet w P.MIR_STATUS.ANGLE (trunc 32 (s.estRound s.now))
  | 0x0E03 => wordSet w P.SAFETY_STATUS.HALTER_MS s.halterMs
  | 0x1208 | 0x1209 | 0x120A | 0x120B => wordSet w P.KEY_STATE.ENROLLED (ofBit (Map.find? s.nv.cmdKeys (key - 0x1208)).isSome)
  | 0x1210 => s.salsol.evoth.word
  | 0x1301 => wordSet w P.ID_INFO.ROOT_REVOKED s.nv.revoked
  | 0x1304 => s.fwStatus
  | 0x1309 => BitVec.ofNat 64 (ofBit s.nv.teamKey.isSome * 256 + slotBits 4 s.nv.imageKeys * 16 + slotBits 4 s.nv.cmdKeys)
  | 0x130A => s.salsol.fw.word
  | 0x130B => s.salsol.tack.word
  | 0x1401 => wordSet w P.CLK_STATUS.HOLD_MS s.holdMs
  | 0x1501 => wordSet w P.RESET_STATUS.UPTIME_MS (capN (2 ^ 32 - 1) (((s.now : Int) - s.ctl.upFrom).toNat / 1000000))
  | 0x1502 => BitVec.ofNat 64 s.faultActive
  | _ =>
    if 0x0520 ≤ key ∧ key ≤ 0x052B then BitVec.ofNat 64 (s.tplState (key - 0x0520))
    else if 0x0610 ≤ key ∧ key ≤ 0x061F then wordSet w P.CORE_STATUS.COL_FAULTS (s.colFaultCount (key - 0x0610))
    else w

/-- The headers of the result slots (Table 23.2, R269, R497). -/
def resultHeaders : List Nat := [0x03A1, 0x0B10, 0x0B12, 0x1019, 0x1310, 0x1602]

/-- A whole read of a parameter: what it returns, and what reading it does (R182, R202). -/
def State.readWhole (s : State) (key : Nat) : Word × State :=
  if key = K.REC_DATA then s.recRead
  else (s.readParam key, if resultHeaders.contains key then s.slotRead key else s)

/-- A BAR0 read of a parameter or of one half of it, with the shadows of Function 0 (R14, R183, R202, R383). -/
def State.bar0Read (s : State) (key : Nat) (half : Half) : State :=
  match half with
  | .whole =>
    let (w, s) := s.readWhole key
    s.emit (.read key half w.toNat)
  | .low =>
    let (w, s) := s.readWhole key
    let s := { s with shadows := Map.insert s.shadows (2 * key) (BitVec.ofNat 32 (w.toNat / 2 ^ 32)) }
    s.emit (.read key half (w.toNat % 2 ^ 32))
  | .high =>
    match Map.find? s.shadows (2 * key) with
    | some x => ({ s with shadows := Map.erase s.shadows (2 * key) }).emit (.read key half x.toNat)
    | none =>
      let w := s.readParam key
      let s := if resultHeaders.contains key then s.slotRead key else s
      s.emit (.read key half (w.toNat / 2 ^ 32))

end Sys2Proof.Machine
end

