-- ==== Sys2Proof/Machine/Tack.lean ====
section
/-! DEFINITION. The Tack image: its structure and checks (19_identity_firmware_tack.md R441 to R443). -/
namespace Sys2Proof.Machine

/-- A Tack image whose structure is sound: VERSION, boot list, and profiles by number. -/
structure TackImage where
  version : Nat
  boot : List Entry
  profiles : SMap (List Entry)
  deriving DecidableEq, Repr

/-- A field of `n` bytes at an offset. -/
def bytesAt (b : List Byte) (off n : Nat) : List Byte := (b.drop off).take n
/-- A little-endian number at an offset. -/
def natAt (b : List Byte) (off n : Nat) : Nat := leNat (bytesAt b off n)
/-- Are all bytes 0x00? -/
def allZero (b : List Byte) : Bool := b.all (fun x => x == 0)

/-- `n` entries of 24 bytes and what follows them; none where bytes run out or a reserved byte is not 0 (R418). -/
def readEntries : Nat → List Byte → Option (List Entry × List Byte)
  | 0, b => some ([], b)
  | n + 1, b =>
    if b.length < 24 ∨ !allZero (bytesAt b 2 6) then none
    else match readEntries n (b.drop 24) with
      | some (l, r) => some (⟨natAt b 0 2, BitVec.ofNat 64 (natAt b 8 8), BitVec.ofNat 64 (natAt b 16 8)⟩ :: l, r)
      | none => none

/-- The profiles of a mask in ascending number, and what follows them (R441). -/
def readProfiles : List Nat → List Byte → Option (SMap (List Entry) × List Byte)
  | [], b => some ([], b)
  | p :: ps, b =>
    let n := natAt b 0 2
    if b.length < 8 ∨ n = 0 ∨ 128 < n ∨ !allZero (bytesAt b 2 6) then none
    else match readEntries n (b.drop 8) with
      | none => none
      | some (l, r) => match readProfiles ps r with
        | none => none
        | some (m, r) => some ((p, l) :: m, r)

/-- An image's structure, or the CAUSE of Table 19.11 that it fails by (1 to 3). -/
def tackParse (b : List Byte) : Except Nat TackImage :=
  if b.isEmpty then .error 1
  else
    let len := natAt b 16 4
    let boot := natAt b 20 2
    if b.length < 40 ∨ natAt b 0 4 ≠ 0x4B434154 ∨ natAt b 4 2 ≠ 1 ∨ !allZero (bytesAt b 6 2) ∨ natAt b 8 8 = 0 ∨
        len ≠ b.length ∨ len % 8 ≠ 0 ∨ 65536 < len ∨ 2048 < boot ∨ !allZero (bytesAt b 24 8) then .error 2
    else
      let body := (b.take (len - 4)).drop 32
      match readEntries boot body with
      | none => .error 2
      | some (l, r) => match readProfiles (maskBits 16 (natAt b 22 2)) r with
        | none => .error 2
        | some (m, pad) =>
          if !allZero pad then .error 2
          else if natAt b (len - 4) 4 ≠ bridleCrc (b.take (len - 4)) then .error 3
          else .ok ⟨natAt b 8 8, l, m⟩

/-- TACK_COMMIT's check of an entry: an existing key, and MASK bits over writable fields (R443). -/
def Entry.storable (e : Entry) : Bool := (paramRow? e.key).isSome && decide (e.mask &&& readOnlyMask e.key = 0)

/-- May an image be stored (R443)? -/
def tackStorable (b : List Byte) : Bool :=
  match tackParse b with
  | .ok x => x.boot.all Entry.storable && x.profiles.all (fun (p : Nat × List Entry) => p.2.all Entry.storable)
  | .error _ => false

/-- TACK_STORED_VER: the version of the stored image, 0 when none (Table 19.15). -/
def State.storedVersion (s : State) : Nat :=
  match s.nv.tackTorn with
  | some x => x.2
  | none => natAt s.nv.tack 8 8

/-- The stored image as the device finds it, or the CAUSE that it fails by, which is 2 or 3 for one torn by a power loss
(R442, R443). -/
def State.storedTack (s : State) : Except Nat TackImage :=
  match s.nv.tackTorn with
  | some x => .error x.1
  | none => tackParse s.nv.tack

/-- The time within which a TACK_COMMIT writes a whole image, in ns (the timing table of 19_identity_firmware_tack.md). -/
def tackWriteTime : Nat := 300000000

/-- A power loss during the write of a Tack image leaves one that R442 defaults with CAUSE 2 or 3 (R443). How far the write
has come is a free choice, and so is the VERSION such an image reads as. -/
def State.tearTack (s : State) : State :=
  match s.nv.tackWrite with
  | none => s
  | some t =>
    let (x, s) := s.draw 66
    let s := { s with nv := { s.nv with tackWrite := none } }
    if s.now < t + tackWriteTime ∧ x % 4 < 2 then { s with nv := { s.nv with tackTorn := some (2 + x % 2, x / 4) } } else s

/-- The stored image is checked and its boot list applied against reset values, or every parameter keeps its reset value
(R442). -/
def State.applyTack (s : State) : State :=
  let default := fun (cause entry : Nat) (s : State) =>
    let s := ((s.setFld P.TACK_STATUS.TACK_DEFAULTED 1).setFld P.TACK_STATUS.CAUSE cause).setFld P.TACK_STATUS.FAIL_ENTRY entry
    let s := { s with nv := { s.nv with tackLoaded := [] } }
    s.record 0x1301 10 true true (leBytes 1 cause ++ leBytes 2 entry)
  match s.storedTack with
  | .error c => default c 0xFFFF s
  | .ok x =>
    match s.writeEntries true [] x.boot with
    | .error f => default 4 f.detail s
    | .ok s' =>
      let s' := s'.setFld P.TACK_LOADED_VER.VERSION x.version
      { s' with nv := { s'.nv with tackLoaded := sha384 s'.nv.tack } }

end Sys2Proof.Machine
end

