-- ==== Sys2Proof/Machine/Boot.lean ====
section
/-! DEFINITION. Resets and start-up: power-on reset, the boot ROM, the control restart, function and link resets
(21_startup_and_faults.md R469 to R474; 19_identity_firmware_tack.md R426, R434, R442). -/
namespace Sys2Proof.Machine

/-- Replace the control record. -/
def State.withCtl (s : State) (f : Control → Control) : State := { s with ctl := f s.ctl }

/-- A firmware bank; `true` is bank B. -/
def NvStore.bank (n : NvStore) (b : Bool) : Option FwBank := if b then n.bankB else n.bankA

/-- The bank the boot ROM starts and whether in TRIAL: the PENDING bank, the active bank, the other bank, of those that are
bootable; a bank found in TRIAL is not tried again at this restart (R434; DEDUCED, notes/assumptions 15, for one that is the
active or the other bank too). -/
def State.chooseBank (s : State) : Option (Bool × Bool) :=
  let a := s.nv.activeB
  let order := (match s.nv.pending with | some b => [(b, true)] | none => []) ++ [(a, false), (!a, false)]
  order.find? (fun c => s.nv.trial != some c.1 && s.bootable (s.nv.bank c.1))

/-- A section of the identity record (Table 19.2). -/
def Identity.section_ (x : Identity) (n : Nat) : List Byte :=
  let words := fun (m : SMap Int) (k : Nat) => ((List.range k).map (fun i => leBytes 4 (trunc 32 (Map.get 0 m i)))).flatten
  match n with
  | 0 => leBytes 8 x.devId ++ leBytes 4 (bitsOf x.serial 63 32) ++ leBytes 1 (bitsOf x.serial 31 24) ++
      leBytes 1 (bitsOf x.serial 23 16) ++ leBytes 1 (bitsOf x.serial 15 8) ++ leBytes 1 0 ++ leBytes 2 x.step ++
      leBytes 2 x.vendor ++ leBytes 12 0
  | 1 => padTo 17072 x.idCert
  | 2 => padTo 17824 x.hitchCert
  | 3 => words x.tsGain 9 ++ words x.tsOff 9 ++ words x.strobeDly 402 ++ words x.rxLat 8 ++ words x.txLat 8
  | 4 =>
    ((List.range 450).map (fun p =>
      let l := Map.find? x.lut p
      ((List.range 128).map (fun r => leBytes 2 (match l with
        | some l => nth 0 l r
        | none => 16 * r))).flatten)).flatten ++
    ((List.range 402).map (fun i => leBytes 2 (trunc 16 (Map.get 0 x.skew i)))).flatten
  | _ => []

/-- The boot ROM's comparison of the identity record, its five sections in order, with the hash in the OTP (R426). -/
def Identity.recordOk (x : Identity) : Bool :=
  match x.otpHash with
  | none => true
  | some h => decide (sha384 ((List.range 5).map x.section_).flatten = h)

/-- Identity parameters from the OTP and the record (Table 19.13), and the identities that start from DEV_ID
(15_bridle_frames.md Table 15.10, 16_hitch_links.md Table 16.15). -/
def State.showIdentity (s : State) : State :=
  let s := (s.setReg K.DEV_ID (BitVec.ofNat 64 s.ident.devId)).setReg K.SERIAL (BitVec.ofNat 64 s.ident.serial)
  let s := (s.setFld P.ID_INFO.VENDOR_ID s.ident.vendor).setFld P.ID_INFO.STEP s.ident.step
  let s := s.setFld P.ID_INFO.ID_OK (ofBit s.ident.recordOk)
  let s := (s.setFld P.BR_CFG.BR_ID s.ident.devId).takeForce K.BR_CFG
  s.setFld P.LEAD_ID.LEAD_ID s.ident.devId

/-- The control complex starts through the boot ROM: identity check, choice of a bank, BOOT_ID, and outside recovery the
Tack boot list; READY rises (R412, R426, R434, R442, R471, R476). -/
def State.boot (s : State) : State :=
  let s := s.showIdentity
  let choice := if s.ident.recordOk then s.chooseBank else none
  let s := if s.nv.trial.isSome then s.setFlag P.ID_FLAGS.TRIAL_FAILED else s
  let (id, s) := s.draw 64
  let s := s.setReg K.BOOT_ID (BitVec.ofNat 64 id)
  let s := s.withCtl fun c => { c with beat := s.now, upFrom := s.now, asked := none, restart := none }
  let s := s.setFld P.TACK_STORED_VER.VERSION s.storedVersion
  match choice with
  | none =>
    let s := { s with nv := { s.nv with trial := none } }
    (s.setFld P.FW_STATUS.RECOVERY 1).withCtl fun c => { c with ready := false }
  | some (b, trial) =>
    let s := { s with nv := { s.nv with
      trial := if trial then some b else none, pending := if trial then none else s.nv.pending } }
    let s := s.setFld P.FW_STATUS.RUNNING_BANK (ofBit b)
    let s := s.setReg K.FW_VERSION (BitVec.ofNat 64 (((s.nv.bank b).map (·.version)).getD 0))
    s.applyTack.withCtl fun c => { c with ready := true }

/-- Power-on reset takes the output pins: at rest, or high-impedance where the rail that fell is VDD_CORE or VDDIO_18, which the
command does not tell and is a free choice (R492; DESIGN CHOICE, notes/assumptions 50). -/
def State.pinsRest (s : State) : State :=
  let (x, s) := s.draw 1
  s.emit (.allPins (if x = 1 then .highZ else .rest))

/-- Everything but the non-volatile memory, the OTP and what the model itself keeps returns to reset (R469); the output pins
leave the device's drive (R492), and a Tack image whose write is cut short may be torn (R443, R490). -/
def State.powerOnReset (s : State) : State :=
  let s := s.tearTack.pinsRest
  { State.reset with ident := s.ident, nv := s.nv, fresh := s.fresh, pending := s.pending, out := s.out }

/-- The scan timetable at a start of the control complex: the gait and phase of the parameters' reset values; the current
sweep is the first whose frame boundary is still to come (R32, R33). -/
def State.startScan (s : State) : State :=
  let k := firstSweepFrom s.gait s.phi (s.now + 1 - (gaitC s.gait * gaitT s.gait + 250000))
  s.withScan fun x => { x with k := k }

/-- The STANDBY domains with HITCH_OFF and HK_OFF at their reset values (Table 20.6). -/
def standbyDomains : Nat := 2 ^ 28 + 2 ^ 29 + 2 ^ 30 + 2 ^ 32 + 2 ^ 34 + 2 ^ 35

/-- Factory tables and skews are in use until the start-up run installs its own (R305). -/
def State.factoryTables (s : State) : State :=
  { s with stamp := { s.stamp with lut := s.ident.lut, skew := s.ident.skew } }

/-- The release of power-on reset (R470, R475, R490). `gates`: the levels of GATE_A and GATE_B, sampled here (R76). -/
def State.porRelease (s : State) (gates : Nat) : State :=
  let s := { s.emit (.allPins .rest) with now := 0, ctl := { s.ctl with por := false } }
  let s := { s with stamp := { s.stamp with
    gateA := { resetLevel := bitOf gates 0 }, gateB := { resetLevel := bitOf gates 1 } } }
  ((s.factoryTables.setDomains standbyDomains false).startScan).showBm.boot

/-- Keys that keep their words through a control restart (R472): the frame number and the counters that only the power-on
reset clears (R35, R39, R96), the records' position, RESET_STATUS, the PLL state, and the live state of the link. -/
def keptKeys : List Nat :=
  [0x0201, 0x0206, 0x1401, 0x1501] ++ (List.range 12).map (0x0420 + ·)

/-- Fields that keep their values within parameters that otherwise return to reset: the exposure lock (R220), LATCHED
chargers (R217), failed bridges (R230), lost channels (R82), latched safe-state causes and faults (R472), the thermal
latch (R466), the fault log's own fields (R472), and the state of the link and of its Bus Master bits. -/
def keptFields : List FieldRef :=
  [P.EXP_CFG.LOCK, P.MIR_STATUS.B0_FAILED, P.MIR_STATUS.B1_FAILED, P.SPARE_MAP.LOST_CH, P.SAFETY_STATUS.SAFE_CAUSE,
   P.SAFETY_STATUS.IN_FAULT, P.SAFETY_STATUS.OUT_FAULT, P.SAFETY_STATUS.IN_VAL, P.THERM_STATUS.THERM_STATE,
   P.FAULT_LOG_STATUS.NEXT_SEQ, P.FAULT_LOG_STATUS.OVERWRITTEN, P.LINK_CTRL.LINK_UP, P.LINK_CTRL.X8, P.LINK_CTRL.CUR_RATE, P.DMA_STATE.BM_OFF] ++
  (List.range 4).map (fun k => P.CHG_STATUS.LATCHED.idx k)

/-- The planes after a control restart (R472). -/
def State.resetParams (s : State) : State :=
  let keep := fun (m : SMap Word) => m.filter (fun (e : Nat × Word) => keptKeys.contains e.1)
  let base := { s with regs := keep s.regs, live := keep s.live, force := [] }
  forEach keptFields (fun f s' => s'.setFld f (s.fld f)) base

/-- What the blocks keep besides parameters through a control restart: event counters, lost channels and Farrier's spare
assignments (R75, R81, R82), failed paths (R297), record counts from power-on reset (R104, R199, R202, R339), the safety
island (R472), held firmware state of the thermal latch, and Bus Master Enable. -/
def State.resetBlocks (s : State) : State :=
  let st := s.stamp
  let r := s.recorder
  let chans := (st.chans.map (fun (e : Nat × Chan) => (e.1,
    { e.2 with credits := 8, holdFrom := none }))).filter (fun (e : Nat × Chan) => decide (e.2 ≠ ({} : Chan)))
  let spares := (st.spares.map (fun (e : Nat × Spare) => (e.1,
    ({ channel := if e.2.byFarrier then e.2.channel else none, byFarrier := e.2.byFarrier, farrierReq := e.2.farrierReq, failed := e.2.failed } : Spare)))).filter
      (fun (e : Nat × Spare) => decide (e.2 ≠ ({} : Spare)))
  { s with
    shadows := [], scan := {},
    stamp := { chans := chans, spares := spares, gateA := st.gateA, gateB := st.gateB },
    hist := { dumpSeq := s.hist.dumpSeq, frozenLost := s.hist.frozenLost }, clusters := [], bq := [], masks := [], evoth := {}, streams := [],
    recorder := { levels := r.levels, capSeq := r.capSeq, lastWord := r.lastWord },
    emit_ := {}, mirror := {}, fe := {}, hk := {},
    farrier := { health := s.farrier.health },
    sup := { present := s.sup.present, inputs := s.sup.inputs, chans := s.sup.chans, disagree := s.sup.disagree },
    bridle := { seqHost := s.bridle.seqHost, seqTeam := s.bridle.seqTeam, rx := s.bridle.rx },
    hitch := {},
    host := { s.host with turn := 0, tlb := [], chans := [], fetchPart := [] },
    salsol := {}, attest := {},
    power := { record := s.power.record, warn := s.power.warn, lostAt := s.power.lostAt, dividers := s.power.dividers },
    dcl := none }

/-- The second half of a control restart: steps 4 to 6 of R471, with what R472 keeps. -/
def State.restartEnd (s : State) (cause : Nat) : State :=
  let s := s.mirrorOff.setDomains standbyDomains false
  let s := (s.lanesDown 0xFF).chanIdle 7
  let on := s.fld P.PWR_STATUS.DOMAIN_ON
  let s := s.resetParams.resetBlocks.dropNotices
  let s := s.setFld P.PWR_STATUS.DOMAIN_ON on
  let s := s.setFld P.THERM_STATUS.THERM_STATE (if s.therm = 2 then 3 else s.therm)
  let s := (s.hkPowerUp.factoryTables).startScan
  let s := (s.addWrap P.RESET_STATUS.CTRL_RESTARTS 1).setFld P.RESET_STATUS.LAST_CAUSE cause
  (s.record 0x1502 11 true false (leBytes 1 cause ++ leBytes 2 (s.fld P.RESET_STATUS.CTRL_RESTARTS))).seqFixed.boot

/-- P.1205 shows the command in execution: path, opcode and TAG (R424). -/
def State.showRun (s : State) (x : Option (Path × Nat × Nat)) : State :=
  let (op, tag, mb, on) : Nat × Nat × Nat × Nat := match x with
    | some (p, op, tag) => (op, tag, (match p with | .mailbox => 1 | .ring => 0), 1)
    | none => (0, 0, 0, 0)
  (((s.setFld P.SALSOL_STATUS.EXEC_OPCODE op).setFld P.SALSOL_STATUS.EXEC_TAG tag).setFld P.SALSOL_STATUS.FROM_MAILBOX mb).setFld
    P.SALSOL_STATUS.EXECUTING on

/-- A command stays in execution, or the one that did is over. -/
def State.showExecuting (s : State) (x : Option Executing) : State :=
  ({ s with salsol := { s.salsol with executing := x } }).showRun (x.map fun (e : Executing) => (e.path, natAt e.cmd 0 2, natAt e.cmd 2 2))

/-- A control restart begins: START_LATCH is set, the emitter gate inhibits every bank, the motion engine brakes, and the
frame in progress is cut (R471, R511). A command in execution has no effect and no reply from here on (R486). -/
def State.restartBegin (s : State) (cause : Nat) : State :=
  let s := ((s.setFld P.RESET_STATUS.START_LATCH 1).withSup fun u => { u with resetAsked := none }).driveOutputs
  let s := ((s.withCtl fun c => { c with ready := false, asked := none, restart := some cause, restartAt := s.now }).emitOff.mirrorOff).showExecuting
    none
  ((if s.domOn 33 then s.setDrive (s.fld P.MIR_STATUS.BRIDGE) .brake s.now else s).withPower fun p => { p with stop := none, target := none, draining := false }).cutFrame
    false

/-- A control restart (R471): START_LATCH is set, the emitter gate inhibits every bank and the motion engine brakes; after 50 ms
of it, and once the ranging chain is empty (R511), DOMAIN_SWITCH_OFF brings the rest. A restart while one runs is none
(Table 21.8); a SAFE_RESET of the same task tick loses (R486). Causes as LAST_CAUSE. -/
def State.controlRestart (s : State) (cause : Nat) : State :=
  if s.ctl.restart.isSome ∨ s.ctl.por then s else s.restartBegin cause

/-- The time BRAKE is driven for in a control restart, in ns (R471, step 3). -/
def brakeTime : Nat := 50000000

/-- Run the restart a write has asked for (R471). A write that follows a firmware load has that cause (Table 21.1). -/
def State.runAsked (s : State) : State :=
  match s.ctl.asked with
  | some c => (s.withCtl fun x => { x with asked := none }).controlRestart (if s.nv.pending.isSome then 3 else c)
  | none => s

/-- Every DMA channel idle, with no stall. -/
def State.dmaIdle (s : State) : State :=
  let s := forUpto 8 (fun c s => s.chanIdle c) s
  let s := s.setFld P.DMA_STATE.STALLED 0
  { s with host := { s.host with fetchPart := [], chans := [] } }

/-- Parameters that Function 0's reset returns to reset values (R474): the STU, the command rings, the point rings, the
dump rings and the event ring. -/
def function0Keys : List Nat :=
  [0x1104, 0x1105, 0x1106, 0x1112] ++ (List.range 8).map (0x1120 + ·) ++ (List.range 16).map (0x0710 + ·) ++
  [0x1508, 0x1509, 0x150A, 0x150B, 0x1200, 0x1201, 0x1202, 0x1203, 0x1204]

/-- Function Level Reset of Function 0 (R474). -/
def State.functionReset0 (s : State) : State :=
  let s := s.dmaIdle
  let s := { s with host := { s.host with
    bme0 := false, tlb := [], maxPayload := 256, maxRead := 512, timeout := 0, msix0 := {}, bars := Map.erase s.host.bars 0 } }
  let s := s.showBm
  let s := forEach function0Keys (fun k s => ({ s with live := Map.erase s.live k }).setReg k (BitVec.ofNat 64 (resetWord k))) s
  let s := s.showExecuting (s.salsol.executing.filter fun x => x.path != Sys2Proof.Path.ring)
  let s := { s with salsol := { s.salsol with fetched := [], replies := [], heldReply := none } }
  let s := s.setFld P.SALSOL_STATUS.OUTSTANDING 0
  s.dropNotices

/-- Function Level Reset of Function 1 (R474). -/
def State.functionReset1 (s : State) : State :=
  let s := { s with host := { s.host with
    bme1 := false, msix1 := { s.host.msix1 with on := true, mask := false }
    bars := Map.erase (Map.erase s.host.bars 4) 6 } }
  let s := (s.setFld P.BR_WIN.WIN_EN 0).takeForce K.BR_WIN
  (s.withBridle fun b => { b with rx := [], waiting := [] }).srcUnsync 0

/-- UCIe link down, hot reset or link disable (R469). -/
def State.linkReset (s : State) : State :=
  let s := s.setFld P.LINK_CTRL.LINK_UP 0
  let s := { s with host := { s.host with retraining := false } }
  s.functionReset0.functionReset1

/-- POWER_ON_RESET: a rail has stayed below its threshold for 2 µs (R469, R490). -/
def execPowerOnReset (s : State) : Result := .next s.powerOnReset

/-- POR_RELEASE: 2 ms after the last rail has risen (R470, R490). -/
def execPorRelease (gates : Nat) (s : State) : Result :=
  if s.ctl.por then .next (s.porRelease gates) else .next s

/-- CONTROL_WATCHDOG: the heartbeat has been missing for 100 ms (R471). -/
def execControlWatchdog (t : Nat) (s : State) : Result :=
  if s.ctl.por then .next s else
  if s.ctl.beat + 100000000 ≤ t then .next ((s.at_ t).controlRestart 2) else .next s

/-- FUNCTION_RESET of Function 0 or 1 (R474). -/
def execFunctionReset (t function : Nat) (s : State) : Result :=
  if s.ctl.por then .next s else
  match function with
  | 0 => .next ((s.at_ t).functionReset0)
  | 1 => .next ((s.at_ t).functionReset1)
  | _ => .next s

/-- LINK_RESET (R469). -/
def execLinkReset (t : Nat) (s : State) : Result :=
  if s.ctl.por then .next s else
  .next ((s.at_ t).linkReset)

/-- DOMAIN_SWITCH_OFF: once the ranging chain is empty, the domains that a requested state or a control restart has off
switch off (R511); in a restart not before BRAKE has been driven for its time (R471). -/
def execDomainSwitchOff (t : Nat) (s : State) : Result :=
  if s.ctl.por then .next s else
  if !s.chainEmpty then .next s
  else match s.ctl.restart with
    | some cause => if s.ctl.restartAt + brakeTime ≤ t then .next ((s.at_ t).restartEnd cause) else .next s
    | none => match s.power.target with
      | some st => if s.power.draining then .next ((s.at_ t).stateInForce st) else .next s
      | none => .next s

/-- A host write of one parameter, by BAR0 or by a Salsol write that passes its checks (R384, R411, R418). A restart it
asks for follows (R471). -/
def State.hostWrite (s : State) (key : Nat) (h : HostWrite) : State :=
  if !s.linkUp then s
  else
    let s := (s.boundaryFirst h.t).at_ h.t
    match h.origin with
    | .bar0 half => (s.bar0Write key half h.value h.coinc).runAsked
    | .salsol mask auth =>
      if s.inRecovery ∨ s.ctl.restart.isSome then s
      else match s.writeEntries auth ((maskBits 64 h.coinc.toNat).map (64 * key + ·)) [⟨key, mask, h.value⟩] with
      | .ok s' => s'.runAsked
      | .error _ => s

end Sys2Proof.Machine
end

