-- ==== Sys2Proof/Machine/HostPort.lean ====
section
/-! DEFINITION. The host's side of Function 0: the link's training, Bus Master Enable, table walks, reads of BAR0, the
doorbells and MB_GO (17_ucie_and_memory.md; 18_salsol_commands.md R404, R408). -/
namespace Sys2Proof.Machine

/-- TABLE_WALK_COMPLETE: the reads of a channel's walk are answered, `none` being a failed read (R390, R393, R395). -/
def execTableWalkComplete (t chan : Nat) (l1 l2 : Option Word) (s : State) : Result :=
  if s.ctl.por then .next s else
  .next ((s.at_ t).walkDone chan l1 l2)

/-- STU_INVALIDATION_DONE: no TLP under a removed entry is left to issue (R391). -/
def execStuInvalidationDone (t : Nat) (s : State) : Result :=
  if s.ctl.por then .next s else
  .next ((s.at_ t).setFld P.STU_INV.BUSY 0)

/-- Frames formed while TLPs could not move are written, where the window still takes frames (R348, R381). -/
def State.bridleFlush (s : State) : State :=
  let l := if s.windowOpen then s.bridle.waiting else []
  let s := s.withBridle fun b => { b with waiting := [] }
  forEach l (fun (p : Nat × List Byte) s => (s.emit (.bridle p.1 p.2)).msix 1 0) s

/-- RETRAIN_DONE: the link has retrained at `rate`, which is TARGET_RATE or a lower one (R381); Bridle frames go out first
(R348). -/
def execRetrainDone (t rate : Nat) (x8 : Bool) (s : State) : Result :=
  if s.ctl.por then .next s else
  if !s.host.retraining ∨ s.fld P.LINK_CTRL.TARGET_RATE < rate then .next s
  else
    let s := ((s.at_ t).setFld P.LINK_CTRL.CUR_RATE rate).setFld P.LINK_CTRL.X8 (ofBit x8)
    let s := { s with host := { s.host with retraining := false } }
    .next ((s.bridleFlush.msixFlush 1).msixFlush 0).pumpAll

/-- LINK_UP: the link has trained; the first training after power-on reset is at 4 GT/s (Table 17.1, R380). -/
def execLinkUp (t rate : Nat) (x8 : Bool) (s : State) : Result :=
  if s.ctl.por then .next s else
  if s.bit P.LINK_CTRL.LINK_UP then .next s
  else
    let s := (s.at_ t).setFld P.LINK_CTRL.LINK_UP 1
    let s := (s.setFld P.LINK_CTRL.CUR_RATE (if s.ctl.linked then rate else 0)).setFld P.LINK_CTRL.X8 (ofBit x8)
    .next ({ s with ctl := { s.ctl with linked := true } }).showBm.pumpAll

/-- The sizes of the BARs (R382): BAR0 of Function 0, BAR0 and BAR2 of Function 1; 0 where there is none. -/
def barSize (function bar : Nat) : Nat :=
  match function, bar with
  | 0, 0 => 2 ^ 24
  | 1, 0 => 2 ^ 16
  | 1, 2 => 2 ^ 12
  | _, _ => 0

/-- A BAR takes an address, aligned to its size (R382; the low bits cannot be written, as PCIe lays down). -/
def State.setBar (s : State) (function bar a : Nat) : State :=
  let n := barSize function bar
  if n = 0 then s
  else { s with host := { s.host with bars := Map.set 0 s.host.bars (4 * function + bar) (a % 2 ^ 64 / n * n) } }

/-- BUS_MASTER_ENABLE: the host writes the configuration of a function: Bus Master Enable (R387, R396), the sizes of Table 17.1,
of which the device honours those up to 256 and 512 bytes, MSI-X (R385) and the BARs (R382). -/
def execBusMasterEnable (t function : Nat) (c : FnConfig) (s : State) : Result :=
  if s.ctl.por then .next s else
  if !s.linkUp then .next s
  else
    let s := ((s.at_ t).setBar function 0 c.bar0).setBar function 2 c.bar2
    match function with
    | 0 =>
      let s := { s with host := { s.host with
        bme0 := c.bme, maxPayload := Nat.min 256 (128 * 2 ^ c.maxPayload), maxRead := Nat.min 512 (128 * 2 ^ c.maxRead)
        timeout := c.timeout, msix0 := { s.host.msix0 with on := c.msixOn, mask := c.msixMask } } }
      .next (s.showBm.msixFlush 0).pumpAll
    | 1 =>
      let s := { s with host := { s.host with bme1 := c.bme, msix1 := { s.host.msix1 with on := c.msixOn, mask := c.msixMask } } }
      .next (s.msixFlush 1)
    | _ => .next s

/-- A read of a parameter through BAR0 of Function 0, once the link moves TLPs. -/
def State.hostRead (s : State) (t key : Nat) (half : Half) : State :=
  if s.linkUp then (s.at_ t).bar0Read key half else s

/-- Eight bytes of Function 0's BAR0 below its parameter window: the mailbox areas and MB_STATE (R408, Tables 17.2, 18.1). -/
def State.areaWord (s : State) (offset : Nat) : Nat :=
  if offset < 0x800 then leNat (bytesAt s.salsol.mbRequest offset 8)
  else if offset < 0x1000 then leNat (bytesAt s.salsol.mbReply (offset - 0x800) 8)
  else if offset = 0x1008 then s.fld P.SALSOL_STATUS.MB_STATE * 2 ^ 32
  else if 0xFF0000 ≤ offset ∧ offset < 0xFF0400 then (Map.get 0 s.host.msix0.words ((offset - 0xFF0000) / 8)).toNat
  else if offset = 0xFF8000 then s.host.msix0.pending
  else 0

/-- Eight bytes of Function 1's BAR2: its MSI-X table and pending bits (R382). -/
def State.bar2Word (s : State) (offset : Nat) : Nat :=
  if offset < 0x80 then (Map.get 0 s.host.msix1.words (offset / 8)).toNat
  else if offset = 0x800 then s.host.msix1.pending
  else 0

/-- The class code of both functions (R382). -/
def classCode : Nat := 0x118000
/-- The Device ID of a function (R382). -/
def deviceId (function : Nat) : Nat := if function = 0 then 0x3840 else 0x3841

/-- Eight bytes of a function's configuration header: the IDs with Bus Master Enable, the class code, and the BARs with their
type, 64-bit and non-prefetchable (R382). PRESUMED (notes/assumptions 51): the header's layout is that of the PCIe standard. -/
def State.configWord (s : State) (function offset : Nat) : Nat :=
  let bar := fun b => if barSize function b = 0 then 0 else Map.get 0 s.host.bars (4 * function + b) + 4
  match offset with
  | 0 => s.ident.vendor % 2 ^ 16 + deviceId function * 2 ^ 16 + ofBit (if function = 0 then s.host.bme0 else s.host.bme1) * 2 ^ 34
  | 8 => classCode * 2 ^ 8
  | 0x10 => bar 0
  | 0x18 => bar 2
  | _ => 0

/-- A word outside the parameter window by its key: 0x10000 + w is word w of Function 1's BAR0 (R349), 0x20000 + w word w of
Function 0's (R383), 0x400000 + w word w of Function 1's BAR2 (R382), and 0x500000 + w and 0x600000 + w word w of the
configuration of Function 0 and 1. -/
def State.wordAt (s : State) (key : Nat) : Nat :=
  if key < 0x20000 then s.bar1Word (8 * (key - 0x10000))
  else if key < 0x400000 then s.areaWord (8 * (key - 0x20000))
  else if key < 0x500000 then s.bar2Word (8 * (key - 0x400000))
  else if key < 0x600000 then s.configWord 0 (8 * (key - 0x500000))
  else s.configWord 1 (8 * (key - 0x600000))

/-- A read outside the parameter window (R349, R382, R383). -/
def State.areaRead (s : State) (t key : Nat) (half : Half) : State :=
  if s.linkUp then
    let s := s.at_ t
    let v := s.wordAt key
    s.emit (.read key half (match half with
      | .whole => v
      | .low => v % 2 ^ 32
      | .high => v / 2 ^ 32))
  else s

/-- LOW_HALF_READ, and every other read of a parameter's word or half (R14, R183, R383). Keys from 0x10000 on name words of
the BAR0s outside the parameter window (notes/assumptions 11). -/
def execLowHalfRead (t key : Nat) (half : Half) (s : State) : Result :=
  if s.ctl.por then .next s else
  .next (if key < 0x10000 then s.hostRead t key half else s.areaRead t key half)

/-- RESULT_HEADER_READ: a read of the header of result slot `slot` of `resultHeaders` (R182). -/
def execResultHeaderRead (t slot : Nat) (half : Half) (s : State) : Result :=
  if s.ctl.por then .next s else
  match resultHeaders[slot]? with
  | some key => .next (s.hostRead t key half)
  | none => .next s

/-- REC_DATA_READ: a read of P.0891 (R202). -/
def execRecDataRead (t : Nat) (half : Half) (s : State) : Result :=
  if s.ctl.por then .next s else
  .next (s.hostRead t K.REC_DATA half)

/-- A function's MSI-X table takes a word or half of it, and what was pending goes out where its mask is gone (R382, R383). -/
def State.msixWrite (s : State) (fn w : Nat) (half : Half) (value : BitVec 64) : State :=
  let m := s.msixOf fn
  let bits := halfBits half
  let old := Map.get 0 m.words w
  (s.setMsix fn { m with words := Map.set 0 m.words w ((old &&& ~~~ bits) ||| (value &&& bits)) }).msixFlush fn

/-- A write outside the parameter window: the MSI-X tables take it (Table 17.2, R382). Writes elsewhere are ignored; those of the
mailbox and the doorbells are commands of their own. -/
def State.areaWrite (s : State) (t key : Nat) (half : Half) (value : BitVec 64) : State :=
  if !s.linkUp then s
  else if 0x21E000 ≤ key ∧ key < 0x21E080 then (s.at_ t).msixWrite 0 (key - 0x21E000) half value
  else if 0x400000 ≤ key ∧ key < 0x400010 then (s.at_ t).msixWrite 1 (key - 0x400000) half value
  else s

/-- BAR0_PARAM_WRITE: a write of a parameter by BAR0 (R384), and every other write of the BARs' words (R382, R383; keys as in
`State.wordAt`). -/
def execBar0ParamWrite (t key : Nat) (half : Half) (value coinc : BitVec 64) (s : State) : Result :=
  if s.ctl.por then .next s else
  .next (if key < 0x10000 then s.hostWrite key ⟨t, .bar0 half, value, coinc⟩ else s.areaWrite t key half value)

/-- A rejected doorbell: DOORBELL_ERR and its offset in the fault log (R404, R416). -/
def State.doorbellErr (s : State) (offset : Nat) : State :=
  (s.setFlag P.SALSOL_FLAGS.DOORBELL_ERR).record 0x1202 12 true false (leBytes 1 0 ++ leBytes 4 offset)

/-- The entries posted and not fetched (R403). -/
def State.sqPosted (s : State) : Nat := wrapAdd 32 (s.fld P.SQ_POS.SQ_WR) (2 ^ 32 - s.fld P.SQ_POS.SQ_RD)
/-- The entries of the submission ring (R401). -/
def State.sqEntries (s : State) : Nat := 2 ^ s.fld P.SQ_CFG.LOG2_ENTRIES
/-- The reply entries written and not consumed. -/
def State.cqUsed (s : State) : Nat := wrapAdd 32 (s.fld P.CQ_POS.CQ_WR) (2 ^ 32 - s.fld P.CQ_POS.CQ_RD)

/-- SQ_DOORBELL: a write of `size` bits (R403, R404). -/
def execSqDoorbell (t value size : Nat) (s : State) : Result :=
  if s.ctl.por then .next s else
  if !s.linkUp ∨ size ≠ 32 then .next s
  else
    let s := s.at_ t
    let v := value % 2 ^ 32
    if wrapAdd 32 v (2 ^ 32 - s.fld P.SQ_POS.SQ_RD) ≤ s.sqEntries then .next (s.setFld P.SQ_POS.SQ_WR v)
    else .next (s.doorbellErr 0x1000)

/-- CQ_DOORBELL: a write of `size` bits (R403, R404). -/
def execCqDoorbell (t value size : Nat) (s : State) : Result :=
  if s.ctl.por then .next s else
  if !s.linkUp ∨ size ≠ 32 then .next s
  else
    let s := s.at_ t
    let v := value % 2 ^ 32
    if wrapAdd 32 v (2 ^ 32 - s.fld P.CQ_POS.CQ_RD) ≤ s.cqUsed then .next (s.setFld P.CQ_POS.CQ_RD v)
    else .next (s.doorbellErr 0x1004)

/-- MB_GO: the value written and the bytes the request area holds (R408). -/
def execMbGo (t value : Nat) (request : List Byte) (s : State) : Result :=
  if s.ctl.por then .next s else
  if !s.linkUp ∨ value ≠ 1 then .next s
  else
    let s := s.at_ t
    if s.fld P.SALSOL_STATUS.MB_STATE = 1 then .next (s.setFlag P.SALSOL_FLAGS.DOORBELL_ERR)
    else
      let r := padTo 2048 request
      .next (({ s with salsol := { s.salsol with mbRequest := r, mbCmd := some r } }).setFld P.SALSOL_STATUS.MB_STATE 1)

end Sys2Proof.Machine
end

