-- ==== Sys2Proof/Machine/Salsol.lean ====
section
/-! DEFINITION. The Salsol command engine: fetching, the checks every command passes, replies and notices
(18_salsol_commands.md R401 to R416, R482). -/
namespace Sys2Proof.Machine

/-- A command packet as read (Table 18.3). -/
structure Command where
  path : Path
  opcode : Nat
  tag : Nat
  len : Nat
  flags : Nat
  slot : Nat
  counter : Nat
  bytes : List Byte
  body : List Byte
  deriving DecidableEq, Repr

/-- AUTH and QUIET. -/
def Command.auth (c : Command) : Bool := bitOf c.flags 0
/-- QUIET (R406). -/
def Command.quiet (c : Command) : Bool := bitOf c.flags 1

/-- Read the header of a packet; the body lies between the header and the tag (R410). -/
def readCommand (path : Path) (raw : List Byte) : Command :=
  let len := natAt raw 4 2
  let flags := natAt raw 6 2
  let bytes := raw.take len
  { path := path, opcode := natAt raw 0 2, tag := natAt raw 2 2, len := len, flags := flags, slot := natAt raw 8 1,
    counter := natAt raw 12 4, bytes := bytes, body := (bytes.drop 16).take (len - 16 - (if bitOf flags 0 then 16 else 0)) }

/-- The opcodes of Table 18.6. -/
def opcodes : List Nat :=
  [0x0001, 0x0002, 0x0003, 0x0004, 0x0201, 0x0202, 0x0410, 0x0701, 0x0801, 0x0901, 0x0902, 0x0A01, 0x0D01, 0x0E01, 0x0E02,
   0x0E03, 0x1001, 0x1301, 0x1302, 0x1303, 0x8001, 0x8002, 0x8003, 0x8601, 0x8602, 0x9301, 0x9302]

/-- May a command run in recovery (R434)? -/
def Command.inRecoveryOk (c : Command) : Bool :=
  [0x0001, 0x0002, 0x1303, 0x9301, 0x9302].contains c.opcode || (c.opcode == 0x1301 && natAt c.body 0 1 == 2)

/-- Check 1 (R411): is LEN wrong? -/
def State.lenBad (s : State) (c : Command) : Bool :=
  let lim := match c.path with
    | .ring => Nat.min 4096 (64 * s.sqEntries)
    | .mailbox => 2048
  c.len % 8 != 0 || decide (c.len < 16) || decide (lim < c.len) || (c.auth && decide (c.len < 32))

/-- Check 2 (R411): is a header bit wrong? `raw`: the packet. -/
def Command.headBad (c : Command) (raw : List Byte) : Bool :=
  decide (c.flags / 4 ≠ 0) || !allZero (bytesAt raw 9 3) || (c.auth && decide (3 < c.slot)) ||
  (!c.auth && !allZero (bytesAt raw 8 8))

/-- Check 3 (R411, R434): is the opcode unknown, or not allowed on this path or in recovery? -/
def State.opcodeBad (s : State) (c : Command) : Bool :=
  !opcodes.contains c.opcode || (c.opcode == 0x0004 && c.path == Sys2Proof.Path.ring) || (s.inRecovery && !c.inRecoveryOk)

/-- The tag of a command under a key (R412). -/
def State.commandTag (s : State) (key : List Byte) (c : Command) : List Byte :=
  (hmacSha256 key (leBytes 8 s.ident.devId ++ leBytes 8 (s.reg K.BOOT_ID).toNat ++ c.bytes.take (c.len - 16))).take 16

/-- Checks 1 to 6 (R411): the failure, and the state with the counter taken at check 6. -/
def State.checkHead (s : State) (c : Command) (raw : List Byte) : Option Failure × State :=
  if s.lenBad c then (some { status := .badLength }, s)
  else if c.headBad raw then (some { status := .badFormat }, s)
  else if s.opcodeBad c then (some { status := .badOpcode }, s)
  else if !c.auth then (none, s)
  else match Map.find? s.nv.cmdKeys c.slot with
    | none => (some { status := .keyEmpty, key := c.slot }, s)
    | some k =>
      if c.bytes.drop (c.len - 16) ≠ s.commandTag k c then (some { status := .badTag, key := c.slot }, s)
      else if c.counter ≤ s.fld (P.KEY_STATE.LAST_COUNTER.idx c.slot) then (some { status := .staleCounter, key := c.slot }, s)
      else (none, s.setFld (P.KEY_STATE.LAST_COUNTER.idx c.slot) c.counter)

/-- What a failed command leaves in the fault log and the flags (Table 18.7, R416, Table 18.17). -/
def State.noteFailure (s : State) (c : Command) (f : Failure) : State :=
  let logged := [Status.protected_, .badAddress, .staleCounter, .badTag, .keyEmpty, .badSignature].contains f.status
  let s := if logged then s.record 0x1201 12 true false (leBytes 2 c.opcode ++ leBytes 2 c.tag ++
      leBytes 1 (match c.path with | .ring => 0 | .mailbox => 1) ++ leBytes 1 f.status.code ++ leBytes 2 f.key) else s
  match f.status with
  | .staleCounter | .badTag => s.setFlag P.SALSOL_FLAGS.AUTH_FAIL_SEEN
  | .protected_ => s.setFlag P.SALSOL_FLAGS.PROTECTED_SEEN
  | _ => s

/-- Does a RINGS_INIT wait in the mailbox (R409, R421)? -/
def State.initWaits (s : State) : Bool := match s.salsol.mbCmd with
  | some raw => natAt raw 0 2 == 0x0004
  | none => false

/-- A reply goes to its slot or to the reply area (R405, R408, R414). The reply of a ring command that a RINGS_INIT has waited
for is kept back: it is discarded, or written where the RINGS_INIT fails (R421). -/
def State.sendReply (s : State) (c : Command) (ok : Bool) (bytes : List Byte) : State :=
  match c.path with
  | .ring =>
    if s.initWaits then { s with salsol := { s.salsol with heldReply := some ⟨bytes, c.quiet && ok⟩ } }
    else s.pushReply ⟨bytes, c.quiet && ok⟩
  | .mailbox => (({ s with salsol := { s.salsol with mbReply := bytes } }).setFld P.SALSOL_STATUS.MB_STATE 2).msix 0 0

/-- Answer a command that succeeded with reply data. -/
def State.answerOk (s : State) (c : Command) (data : List Byte) : State :=
  (s.liveWrap P.SALSOL_COUNTS.EXECUTED 1).sendReply c true (replyHeader c.opcode c.tag (16 + data.length) 0 0xFFFF 0 ++ data)

/-- Answer a command that failed. -/
def State.answerFail (s : State) (c : Command) (f : Failure) : State :=
  let s := (s.noteFailure c f).liveWrap P.SALSOL_COUNTS.EXECUTED 1
  (s.liveWrap P.SALSOL_COUNTS.ERRORS 1).sendReply c false (replyHeader c.opcode c.tag 16 f.status.code f.detail f.key)

/-- What a command's own checks and effect give (checks 7 to 10 of R411). -/
inductive Outcome where
  /-- A check fails: nothing changes. -/
  | fail (f : Failure)
  /-- An image fails at its last piece: the command fails and the transfer has ended (R420). -/
  | ended (f : Failure) (s : State)
  /-- Executed, with the reply data. -/
  | ok (r : List Byte × State)
  /-- Begun; the reply waits for the command's end. -/
  | wait (s : State)

/-- A failure without an entry or a key. -/
def failWith (st : Status) : Outcome := .fail { status := st }

/-- The packet that would execute next on a path: none while a command executes or a control restart runs; the mailbox goes
before the next ring command (R405, R409); only the mailbox serves in recovery (R434). -/
def State.nextPacket (s : State) (path : Path) : Option (List Byte) :=
  if s.salsol.executing.isSome ∨ s.ctl.restart.isSome then none
  else match path with
    | .mailbox => s.salsol.mbCmd
    | .ring => if s.salsol.mbCmd.isSome ∨ s.inRecovery then none else s.salsol.fetched.head?

/-- The packet leaves its place. -/
def State.takePacket (s : State) (path : Path) : State :=
  match path with
  | .mailbox => { s with salsol := { s.salsol with mbCmd := none } }
  | .ring => { s with salsol := { s.salsol with fetched := s.salsol.fetched.drop 1 } }

/-- A command is over: none is in execution, and a reply kept back for a RINGS_INIT that has not discarded it goes to its
slot (R421, R424). -/
def State.commandOver (s : State) : State :=
  let s := s.showRun none
  match s.salsol.heldReply with
  | some r => { s with salsol := { s.salsol with replies := s.salsol.replies ++ [r], heldReply := none } }
  | none => s

/-- Execute the next packet of a path, if it is a command of this row: the checks of R411 in order, the effect, the reply,
and a control restart it has asked for. -/
def State.command (s : State) (t : Nat) (path : Path) (mine : Command → Bool) (run : Command → State → Outcome) : State :=
  match s.nextPacket path with
  | none => s
  | some raw =>
    let c := readCommand path raw
    if !mine c then s
    else
      let s := (((s.boundaryFirst t).at_ t).takePacket path).showRun (some (path, c.opcode, c.tag))
      match s.checkHead c raw with
      | (some f, s) => (s.answerFail c f).commandOver
      | (none, s) => match run c s with
        | .fail f => (s.answerFail c f).commandOver
        | .ended f s => (s.answerFail c f).commandOver
        | .ok (data, s) => (s.answerOk c data).commandOver.runAsked
        | .wait s => s.runAsked

/-- Is the packet a command of this opcode? -/
def isOp (op : Nat) (c : Command) : Bool := c.opcode == op

/-- A body that must be empty (Table 18.6). -/
def noBody (c : Command) (k : Outcome) : Outcome := if c.body.isEmpty then k else failWith .badLength

/-- NOP, which also answers a packet whose opcode is not of Table 18.6 (R411, R415). -/
def execNop (t : Nat) (path : Path) (s : State) : Result :=
  if s.ctl.por then .next s else
  .next (s.command t path (fun c => c.opcode == 1 || !opcodes.contains c.opcode) (fun c s => noBody c (.ok ([], s))))

/-- IDENTIFY (Table 18.8). -/
def execIdentify (t : Nat) (path : Path) (s : State) : Result :=
  if s.ctl.por then .next s else
  .next (s.command t path (isOp 0x0002) (fun c s => noBody c (.ok ((
    leBytes 8 s.devId ++ leBytes 8 (s.reg K.BOOT_ID).toNat ++ leBytes 8 (s.reg K.FW_VERSION).toNat ++
    leBytes 8 (s.fld P.TACK_LOADED_VER.VERSION) ++ leBytes 2 (s.fld P.ID_INFO.STEP) ++ leBytes 1 (slotBits 4 s.nv.cmdKeys) ++
    leBytes 1 (s.fld P.TACK_STATUS.TACK_DEFAULTED) ++ leBytes 4 0), s))))

/-- The entries of a command that LEN says are not of a length the rings can hold, so that it takes one entry alone
(R403); else the entries it occupies. -/
def State.fetchEntries (s : State) (len : Nat) : Nat :=
  if len % 8 ≠ 0 ∨ len < 16 ∨ Nat.min 4096 (64 * s.sqEntries) < len then 1 else entriesOf len

/-- The entries of a command from its first on, each translated before it is read (R388, R393, R402). `bytes`: what the
host's memory holds at the entries, in order. -/
def State.fetchStep (bytes : List Byte) : Nat → State → State
  | 0, s => s
  | n + 1, s =>
    let have_ := s.host.fetchPart
    let need := s.fetchEntries (natAt have_ 4 2)
    if have_.length = 64 * need then
      let s := s.setFld P.SQ_POS.SQ_RD (wrapAdd 32 (s.fld P.SQ_POS.SQ_RD) need)
      let s := s.setFld P.SALSOL_STATUS.OUTSTANDING (s.fld P.SALSOL_STATUS.OUTSTANDING + 1)
      { s with salsol := { s.salsol with fetched := s.salsol.fetched ++ [have_] },
               host := { s.host with fetchPart := [] } }
    else if 64 ≤ have_.length ∧ s.sqPosted < need then s
    else
      let va := s.fld P.SQ_CFG.BASE * 4096 + 64 * ((s.fld P.SQ_POS.SQ_RD + have_.length / 64) % s.sqEntries)
      match s.translate 6 va false with
      | .fault cause => s.stall 6 cause va
      | .miss => if s.walks < 4 then s.startWalk 6 va false false else s
      | .ok pa =>
        let s := s.emit (.fetch va pa 64)
        State.fetchStep bytes n { s with host := { s.host with
          fetchPart := have_ ++ padTo 64 (bytesAt bytes have_.length 64) } }

/-- COMMAND_FETCH: channel 6 fetches the next command (R402, R403). -/
def execCommandFetch (t : Nat) (bytes : List Byte) (s : State) : Result :=
  if s.ctl.por then .next s else
  if !s.bit P.SQ_CFG.EN ∨ !s.chanFree 6 ∨ 32 ≤ s.fld P.SALSOL_STATUS.OUTSTANDING ∨ s.sqPosted = 0 ∨ s.inRecovery ∨
      s.ctl.restart.isSome then .next s
  else .next (State.fetchStep bytes 66 (s.at_ t))

/-- Reply entries on their way in channel 7. -/
def State.cqQueued (s : State) : Nat :=
  sumN ((s.chan 7).items.map (fun i => match i.done with
    | .reply n _ => n
    | _ => 0))

/-- REPLY_WRITE: the oldest waiting reply goes to the completion ring once its entries have room (R405, R406). -/
def execReplyWrite (t : Nat) (s : State) : Result :=
  if s.ctl.por then .next s else
  match s.salsol.replies with
  | [] => .next s
  | r :: rest =>
    let n := entriesOf r.bytes.length
    if !s.bit P.CQ_CFG.EN ∨ 2 ^ s.fld P.CQ_CFG.LOG2_ENTRIES < s.cqUsed + s.cqQueued + n then .next s
    else
      let s := s.at_ t
      let s := { s with salsol := { s.salsol with replies := rest } }
      .next (s.dmaPush 7 { payload := padTo (64 * n) r.bytes, done := .reply n (!r.quiet) })

/-- NOTICE_WRITE: the oldest queued notice goes to the event ring once it has room, before the completions that have not
begun (R180, R482, R483). -/
def execNoticeWrite (t : Nat) (s : State) : Result :=
  if s.ctl.por then .next s else
  match s.recs.queue with
  | [] => .next s
  | r :: rest =>
    let d := s.chan 7
    if !s.ringOn 7 ∨ s.ringFree 7 < 32 ∨ !s.chanFree 7 ∨ d.items.any (fun i => i.started || !i.isReply) then .next s
    else
      let s := s.at_ t
      let s := ({ s with recs := { s.recs with queue := rest } }).seqFixed.flushHeld
      .next ((s.setChan 7 { d with items := { payload := r.bytes, done := .notice } :: d.items }).pump 7)

end Sys2Proof.Machine
end

