-- ==== Sys2Proof/Machine/Commands.lean ====
section
/-! DEFINITION. The basic and expert commands on parameters, rings, the fault log and message areas
(18_salsol_commands.md Table 18.8, R417 to R422; 21_startup_and_faults.md R481). -/
namespace Sys2Proof.Machine

/-- A write of one field, with whether the value fits it. -/
def fieldEntry (l : List (FieldRef × Nat)) : Entry × Bool :=
  let key := match l with
    | (f, _) :: _ => f.key
    | [] => 0
  (⟨key, BitVec.ofNat 64 (sumN (l.map (fun (p : FieldRef × Nat) => (2 ^ p.1.width - 1) * 2 ^ p.1.lo))),
    BitVec.ofNat 64 (sumN (l.map (fun (p : FieldRef × Nat) => p.2 % 2 ^ p.1.width * 2 ^ p.1.lo)))⟩,
   l.all (fun (p : FieldRef × Nat) => decide (p.2 < 2 ^ p.1.width)))

/-- The writes of a command, all or nothing: check 8 and 9 over all, then check 10 in order, where a value wider than its
field is refused (R411, R418). -/
def State.basicWrites (s : State) (auth : Bool) (l : List (Entry × Bool)) : Except Failure State :=
  let es := l.map (·.1)
  match s.entriesFail auth es, l.findIdx? (fun (e : Entry × Bool) => !e.2) with
  | some f, none => .error f
  | some f, some i =>
    if f.status = .badAddress ∨ f.status = .protected_ ∨ f.detail < i then .error f
    else .error ⟨.refused, i, (es[i]?.map Entry.key).getD 0⟩
  | none, some i => .error ⟨.refused, i, (es[i]?.map Entry.key).getD 0⟩
  | none, none => .ok (commitEntries s [] es es s)

/-- A basic command is the PARAM_WRITE of its writes (Table 18.8). -/
def State.basic (s : State) (c : Command) (l : List (Entry × Bool)) : Outcome :=
  match s.basicWrites c.auth l with
  | .ok s => .ok ([], s)
  | .error f => .fail f

/-- A body of `n` bytes (check 7). -/
def bodyOf (c : Command) (n : Nat) (ok : Bool) (k : Outcome) : Outcome :=
  if c.body.length ≠ n then failWith .badLength else if ok then k else failWith .badFormat

/-- SET_GAIT. -/
def execSetGait (t : Nat) (path : Path) (s : State) : Result :=
  if s.ctl.por then .next s else
  .next (s.command t path (isOp 0x0201) (fun c s =>
    let g := natAt c.body 0 1
    bodyOf c 8 (decide (g ≤ 3) && allZero (c.body.drop 1)) (s.basic c [fieldEntry [(P.GAIT.GAIT_REQ, g)]])))

/-- SET_FIELD. -/
def execSetField (t : Nat) (path : Path) (s : State) : Result :=
  if s.ctl.por then .next s else
  .next (s.command t path (isOp 0x0202) (fun c s =>
    bodyOf c 8 (allZero (c.body.drop 4)) (s.basic c [fieldEntry [(P.FIELD.W, natAt c.body 0 4)]])))

/-- HIST_DUMP: the body is laid out as P.0410. -/
def execHistDump (t : Nat) (path : Path) (s : State) : Result :=
  if s.ctl.por then .next s else
  .next (s.command t path (isOp 0x0410) (fun c s =>
    let w := BitVec.ofNat 64 (natAt c.body 0 8)
    let m := writableMask K.DUMP_REQ
    bodyOf c 8 (decide (w &&& ~~~ m = 0)) (s.basic c [(⟨K.DUMP_REQ, m, w⟩, true)])))

/-- STREAM_MODE. -/
def execStreamMode (t : Nat) (path : Path) (s : State) : Result :=
  if s.ctl.por then .next s else
  .next (s.command t path (isOp 0x0701) (fun c s =>
    let b := c.body
    bodyOf c 8 (decide (natAt b 0 1 ≤ 1) && allZero (b.drop 6)) (s.basic c
      [fieldEntry [(P.STREAM_CFG.KEY_INTERVAL, natAt b 1 1), (P.STREAM_CFG.DELTA_EN, natAt b 0 1)],
       fieldEntry [(P.DELTA_THR.DELTA_MM, natAt b 2 2), (P.DELTA_THR.DELTA_INT, natAt b 4 2)]])))

/-- RECORDER. -/
def execRecorder (t : Nat) (path : Path) (s : State) : Result :=
  if s.ctl.por then .next s else
  .next (s.command t path (isOp 0x0801) (fun c s =>
    let b := natAt c.body 0 1
    bodyOf c 8 (decide (b < 8) && allZero (c.body.drop 1)) (s.basic c
      [fieldEntry [(P.REC_CTRL.SW_TRIG, bitsOf b 2 2), (P.REC_CTRL.MODE, bitsOf b 1 1), (P.REC_CTRL.EN, bitsOf b 0 0)]])))

/-- EMITTERS_ON. -/
def execEmittersOn (t : Nat) (path : Path) (s : State) : Result :=
  if s.ctl.por then .next s else
  .next (s.command t path (isOp 0x0901) (fun c s =>
    let b := c.body
    bodyOf c 16 (allZero (b.drop 10)) (s.basic c
      (fieldEntry [(P.EMIT_CTRL.EMIT_EN, 1), (P.EMIT_CTRL.BANK_EN, natAt b 0 2)] ::
       (List.range 4).map (fun k =>
         let v := natAt b (2 + 2 * k) 2
         fieldEntry [(P.CHG_SET.SETPOINT.idx k, v), (P.CHG_SET.CH_EN.idx k, ofBit (decide (0 < v)))])))))

/-- EMITTERS_OFF. -/
def execEmittersOff (t : Nat) (path : Path) (s : State) : Result :=
  if s.ctl.por then .next s else
  .next (s.command t path (isOp 0x0902) (fun c s =>
    noBody c (s.basic c (fieldEntry [(P.EMIT_CTRL.EMIT_EN, 0)] ::
      (List.range 4).map (fun k => fieldEntry [(P.CHG_SET.CH_EN.idx k, 0)])))))

/-- MIRROR. -/
def execMirror (t : Nat) (path : Path) (s : State) : Result :=
  if s.ctl.por then .next s else
  .next (s.command t path (isOp 0x0A01) (fun c s =>
    let m := natAt c.body 0 1
    bodyOf c 8 (decide (m ≤ 2) && allZero (c.body.drop 1)) (s.basic c
      [fieldEntry [(P.MIR_CTRL.DRV_EN, ofBit (decide (1 ≤ m))), (P.MIR_CTRL.RUN, ofBit (m == 2))]])))

/-- CALIBRATE. -/
def execCalibrate (t : Nat) (path : Path) (s : State) : Result :=
  if s.ctl.por then .next s else
  .next (s.command t path (isOp 0x0D01) (fun c s => noBody c (s.basic c [fieldEntry [(P.CAL_CTRL.RUN_REQ, 1)]])))

/-- SAFE_RESET. -/
def execSafeReset (t : Nat) (path : Path) (s : State) : Result :=
  if s.ctl.por then .next s else
  .next (s.command t path (isOp 0x0E03) (fun c s => noBody c (s.basic c [fieldEntry [(P.PD_CTRL.SAFE_RESET, 1)]])))

/-- TEAM_LEAVE. -/
def execTeamLeave (t : Nat) (path : Path) (s : State) : Result :=
  if s.ctl.por then .next s else
  .next (s.command t path (isOp 0x1001) (fun c s => noBody c (s.basic c [fieldEntry [(P.HITCH_CMD.LEAVE, 1)]])))

/-- A multiple of 8 no smaller. -/
def up8 (n : Nat) : Nat := (n + 7) / 8 * 8

/-- The writes of PADDOCK_DEFINE, in the order listed. -/
def padDefineWrites (b : List Byte) : List (Entry × Bool) :=
  let p := natAt b 0 1
  let nv := natAt b 1 1
  let vert := fun (i : Nat) =>
    let v : FieldRef := (P.VTX_STAGE.X0.idx (i / 2)).sub (i % 2) 32
    let w : FieldRef := (P.VTX_STAGE.Y0.idx (i / 2)).sub (i % 2) 32
    [(v, natAt b (16 + 4 * i) 2), (w, natAt b (18 + 4 * i) 2)]
  (List.range ((nv + 1) / 2)).map (fun k =>
    fieldEntry (vert (2 * k) ++ (if 2 * k + 1 < nv then vert (2 * k + 1) else []))) ++
  [fieldEntry [(P.PD_CFG.Z_HI.idx p, natAt b 6 2), (P.PD_CFG.Z_LO.idx p, natAt b 4 2), (P.PD_CFG.MIN_POINTS.idx p, natAt b 2 1)],
   fieldEntry [(P.PD_ACT.BANK_MASK.idx p, natAt b 8 2), (P.PD_ACT.OUT_MAP.idx p, natAt b 3 1),
     (P.PD_ACT.ACT_VALUE.idx p, natAt b 11 1), (P.PD_ACT.ACT_MASK.idx p, natAt b 10 1)],
   fieldEntry [(P.PD_COMMIT.NV, nv), (P.PD_COMMIT.PADDOCK, p)]]

/-- PADDOCK_DEFINE: its reply waits until BUSY clears. -/
def execPaddockDefine (t : Nat) (path : Path) (s : State) : Result :=
  if s.ctl.por then .next s else
  .next (s.command t path (isOp 0x0E01) (fun c s =>
    let b := c.body
    let nv := natAt b 1 1
    if b.length < 16 then failWith .badLength
    else if 15 < natAt b 0 1 ∨ nv < 3 ∨ 32 < nv ∨ 3 < natAt b 3 1 then failWith .badFormat
    else if b.length ≠ 16 + up8 (4 * nv) then failWith .badLength
    else if !allZero (bytesAt b 12 4) ∨ !allZero (b.drop (16 + 4 * nv)) then failWith .badFormat
    else match s.basicWrites c.auth (padDefineWrites b) with
      | .error f => .fail f
      | .ok s => .wait (s.showExecuting (some ⟨path, c.bytes, natAt b 0 1⟩))))

/-- The end of a PADDOCK_DEFINE: its reply carries PD_CRC (Table 18.8). -/
def State.padDefineEnd (s : State) (p : Nat) : State :=
  match s.salsol.executing with
  | some e =>
    if e.paddock = p then
      ((s.showExecuting none).answerOk (readCommand e.path e.cmd) (leBytes 4 (s.fld (P.PD_CRC.CRC.idx p)) ++ leBytes 4 0)).runAsked
    else s
  | none => s

/-- INTERVAL_TABLES_DONE: the tables of a Paddock are computed and BUSY clears; a PADDOCK_DEFINE that waits for it is
answered (R335). -/
def execIntervalTablesDone (t paddock : Nat) (s : State) : Result :=
  if s.ctl.por then .next s else
  if 16 ≤ paddock ∨ !s.bit (P.PD_CFG.BUSY.idx paddock) then .next s
  else .next (((s.at_ t).padTables paddock).padDefineEnd paddock)

/-- PADDOCK_ENABLE: EN = 0 for the DISABLE bits, then EN = 1 for the ENABLE bits. -/
def execPaddockEnable (t : Nat) (path : Path) (s : State) : Result :=
  if s.ctl.por then .next s else
  .next (s.command t path (isOp 0x0E02) (fun c s =>
    let en := natAt c.body 0 2
    let dis := natAt c.body 2 2
    -- a critical command even where it writes nothing (R411, R415)
    bodyOf c 8 (decide (en &&& dis = 0) && allZero (c.body.drop 4)) (if en = 0 ∧ dis = 0 ∧ !c.auth then failWith .protected_ else s.basic c
      ((maskBits 16 dis).map (fun p => fieldEntry [(P.PD_CFG.EN.idx p, 0)]) ++
       (maskBits 16 en).map (fun p => fieldEntry [(P.PD_CFG.EN.idx p, 1)])))))

/-- PROFILE_APPLY: the writes the stored Tack image holds for a profile, as one PARAM_WRITE (R419). -/
def execProfileApply (t : Nat) (path : Path) (coinc : List Nat) (s : State) : Result :=
  if s.ctl.por then .next s else
  .next (s.command t path (isOp 0x0003) (fun c s =>
    let p := natAt c.body 0 1
    bodyOf c 8 (decide (p ≤ 15) && allZero (c.body.drop 1))
      (match s.storedTack with
       | .error _ => failWith .refused
       | .ok x => match Map.find? x.profiles p with
         | none => failWith .refused
         | some l => match s.writeEntries c.auth coinc l with
           | .ok s => .ok ([], s)
           | .error f => .fail f)))

/-- The two-byte keys of a PARAM_READ. -/
def readKeys (n : Nat) (b : List Byte) : List Nat := (List.range n).map (fun i => natAt b (8 + 2 * i) 2)

/-- PARAM_READ: the values of all keys in one instant; a key named twice acts once (R417). -/
def execParamRead (t : Nat) (path : Path) (s : State) : Result :=
  if s.ctl.por then .next s else
  .next (s.command t path (isOp 0x8001) (fun c s =>
    let b := c.body
    let n := natAt b 0 2
    let keys := readKeys n b
    if b.length < 8 then failWith .badLength
    else if n = 0 ∨ 256 < n then failWith .badFormat
    else if b.length ≠ 8 + up8 (2 * n) ∨ (path = Sys2Proof.Path.mailbox ∧ 254 < n) then failWith .badLength
    else if !allZero (bytesAt b 2 6) ∨ !allZero (b.drop (8 + 2 * n)) then failWith .badFormat
    else match keys.findIdx? (fun (k : Nat) => (paramRow? k).isNone) with
      | some i => .fail ⟨.badAddress, i, (keys[i]?).getD 0⟩
      | none =>
        .ok ((keys.map (fun k => leBytes 8 (s.readWhole k).1.toNat)).flatten,
          forEach keys.eraseDups (fun k s => (s.readWhole k).2) s)))

/-- The first entry with a reserved byte that is not 0. -/
def entryReserved (n : Nat) (b : List Byte) : Option Nat :=
  (List.range n).findIdx? (fun (i : Nat) => !allZero (bytesAt b (10 + 24 * i) 6))

/-- PARAM_WRITE: masked writes, all or nothing (R418). `coinc`: the W1C bits, as 64 × key + bit, that the hardware sets in
the cycle of the write (R13, R484). -/
def execParamWrite (t : Nat) (path : Path) (coinc : List Nat) (s : State) : Result :=
  if s.ctl.por then .next s else
  .next (s.command t path (isOp 0x8002) (fun c s =>
    let b := c.body
    let n := natAt b 0 2
    if b.length < 8 then failWith .badLength
    else if n = 0 ∨ 128 < n then failWith .badFormat
    else if b.length ≠ 8 + 24 * n then failWith .badLength
    else if !allZero (bytesAt b 2 6) then failWith .badFormat
    else match entryReserved n b with
      | some i => .fail ⟨.badFormat, i, natAt b (8 + 24 * i) 2⟩
      | none => match readEntries n (b.drop 8) with
        | none => failWith .badFormat
        | some (l, _) => match s.writeEntries c.auth coinc l with
          | .ok s => .ok ([], s)
          | .error f => .fail f))

/-- FAULT_LOG_READ: the summary and the records from FROM_SEQ on, oldest first (R481). -/
def execFaultLogRead (t : Nat) (path : Path) (s : State) : Result :=
  if s.ctl.por then .next s else
  .next (s.command t path (isOp 0x8003) (fun c s =>
    let b := c.body
    let from_ := natAt b 0 4
    let n := natAt b 4 2
    if b.length ≠ 8 ∨ (path = Sys2Proof.Path.mailbox ∧ 63 < n) then failWith .badLength
    else if n = 0 ∨ 64 < n ∨ !allZero (b.drop 6) then failWith .badFormat
    else
      let next := s.fld P.FAULT_LOG_STATUS.NEXT_SEQ
      let oldest := match s.recs.log with
        | r :: _ => r.seq
        | [] => next
      let l := (s.recs.log.filter (fun (r : Record) => decide ((r.seq + 2 ^ 32 - from_) % 2 ^ 32 < 2 ^ 31))).take n
      .ok ((leBytes 4 next ++ leBytes 4 oldest ++ leBytes 4 (s.fld P.FAULT_LOG_STATUS.OVERWRITTEN) ++ leBytes 2 l.length ++
        leBytes 2 0 ++ (l.map Record.bytes).flatten), s)))

/-- EVOTH_MSG_READ: words of a core's message area (R422). -/
def execEvothMsgRead (t : Nat) (path : Path) (s : State) : Result :=
  if s.ctl.por then .next s else
  .next (s.command t path (isOp 0x8602) (fun c s =>
    let b := c.body
    let core := natAt b 0 1
    let off := natAt b 2 2
    let n := natAt b 4 2
    if b.length ≠ 8 then failWith .badLength
    else if !allZero (bytesAt b 1 1) ∨ !allZero (b.drop 6) ∨ off % 4 ≠ 0 ∨ n % 4 ≠ 0 ∨ n < 4 ∨ 2048 < n then failWith .badFormat
    else if path = Sys2Proof.Path.mailbox ∧ 2032 < n then failWith .badLength
    else if 15 < core ∨ 8192 < off + n then failWith .badAddress
    else
      let data := (s.core core).data
      .ok (((List.range (n / 4)).map (fun i =>
        leBytes 4 (Map.get 0 data ((0xE000 + off) / 4 + i)).toNat)).flatten, s)))

/-- Are the reserved bits of the words of RINGS_INIT 0? -/
def ringsReservedOk (sq cq nt : Nat) : Bool :=
  bitsOf sq 63 48 == 0 && bitsOf sq 11 5 == 0 && bitsOf cq 63 48 == 0 && bitsOf cq 11 5 == 0 && bitsOf nt 63 48 == 0 &&
  bitsOf nt 5 0 == 0

/-- Replies on channel 7 that are not written. -/
def State.repliesInFlight (s : State) : Nat :=
  ((s.chan 7).items.filter DmaItem.isReply).length

/-- The command rings start afresh (R421, steps 2 to 7). -/
def State.ringsInit (s : State) (sq cq nt : Nat) : State :=
  let s := { s with salsol := { s.salsol with fetched := [], replies := [], heldReply := none } }
  let s := s.chanIdle 7
  let s := { s with host := { s.host with chans := Map.erase s.host.chans 6, fetchPart := [] } }
  let s := (s.setStalled 6 false).setStalled 7 false
  let s := s.dropNotices
  let s := (s.setReg K.SQ_CFG (BitVec.ofNat 64 sq)).setReg K.CQ_CFG (BitVec.ofNat 64 cq)
  let s := (s.setReg K.CQ_NOTIFY (BitVec.ofNat 64 nt)).setReg K.SQ_POS 0
  (s.setReg K.CQ_POS 0).setFld P.SALSOL_STATUS.OUTSTANDING 0

/-- RINGS_INIT, by the mailbox (R421). -/
def execRingsInit (t : Nat) (path : Path) (s : State) : Result :=
  if s.ctl.por then .next s else
  .next (s.command t path (isOp 0x0004) (fun c s =>
    let sq := natAt c.body 0 8
    let cq := natAt c.body 8 8
    let nt := natAt c.body 16 8
    bodyOf c 24 (ringsReservedOk sq cq nt)
      (if bitsOf sq 3 0 < 4 ∨ 10 < bitsOf sq 3 0 ∨ bitsOf cq 3 0 < 6 ∨ 12 < bitsOf cq 3 0 then failWith .refused
       else .ok ((leBytes 4 s.salsol.fetched.length ++ leBytes 4 (s.salsol.replies.length + s.salsol.heldReply.toList.length + s.repliesInFlight)),
         s.ringsInit sq cq nt))))

end Sys2Proof.Machine
end

