-- ==== Sys2Proof/Machine/Attest.lean ====
section
/-! DEFINITION. Attestation and reads of the identity record (19_identity_firmware_tack.md R430, R431). -/
namespace Sys2Proof.Machine

/-- Is the packet an ATTEST of an operation that satisfies a test? -/
def attestOp (p : Nat → Bool) (c : Command) : Bool := c.opcode == 0x1301 && p (natAt c.body 0 1)

/-- ATTEST_START, which also answers an ATTEST of an unknown operation (R430). -/
def execAttestStart (t : Nat) (path : Path) (s : State) : Result :=
  if s.ctl.por then .next s else
  .next (s.command t path (attestOp (fun op => op != 1 && op != 2)) (fun c s =>
    let b := c.body
    if b.length < 8 then failWith .badLength
    else if natAt b 0 1 ≠ 0 then failWith .badFormat
    else bodyOf c 40 (allZero (bytesAt b 1 3))
      (if s.attest.running.isSome then failWith .refused
       else .ok ([], ({ s with attest := { s.attest with running := some (bytesAt b 8 32, s.now) } }).slotStart K.ATTEST_HDR))))

/-- The running firmware bank. -/
def State.runningBank (s : State) : Option FwBank := s.nv.bank (s.bit P.FW_STATUS.RUNNING_BANK)

/-- The 256 bytes of a report before its signatures (Table 19.6). -/
def State.reportBody (s : State) (nonce : List Byte) (start : Nat) : List Byte :=
  let fw := s.runningBank
  let num := fun (f : FwBank → Nat) => (fw.map f).getD 0
  leBytes 4 0x54535441 ++ leBytes 2 1 ++ leBytes 2 0 ++ leBytes 8 s.devId ++ leBytes 8 (s.reg K.BOOT_ID).toNat ++
  padTo 32 nonce ++ leBytes 8 start ++ leBytes 8 (num (·.version)) ++ leBytes 1 (num (·.svn)) ++ leBytes 1 s.nv.rollback ++
  leBytes 1 (4 * ofBit s.nv.trial.isSome + 2 * ofBit s.nv.activeB + s.fld P.FW_STATUS.RUNNING_BANK) ++ leBytes 1 (num (·.rootGen)) ++
  leBytes 4 0 ++ padTo 48 ((fw.map (·.digest)).getD []) ++ leBytes 8 (s.fld P.TACK_LOADED_VER.VERSION) ++
  leBytes 1 (2 * s.fld P.TACK_STATUS.CAUSE + s.fld P.TACK_STATUS.TACK_DEFAULTED) ++
  leBytes 1 (16 * slotBits 4 s.nv.imageKeys + slotBits 4 s.nv.cmdKeys) ++
  leBytes 1 (2 * s.fld P.EVOTH_CTRL.REFINE_SRC + ofBit s.nv.teamKey.isSome) ++ leBytes 5 0 ++ padTo 48 s.nv.tackLoaded ++
  padTo 48 ((s.evoth.refine.map (·.digest)).getD []) ++ leBytes 16 0

/-- The label of attestation reports (Table 19.4). -/
def labelAttest : List Byte := ascii [0x58, 0x5A, 0x33, 0x38, 0x34, 0x30, 0x20, 0x41, 0x54, 0x54, 0x45, 0x53, 0x54]

/-- ATTEST_REPORT_READY: the report and its signature block are in the slot (R430, R431). -/
def execAttestReportReady (t : Nat) (s : State) : Result :=
  if s.ctl.por then .next s else
  match s.attest.running with
  | none => .next s
  | some (nonce, start) =>
    let s := s.at_ t
    let body := s.reportBody nonce start
    let (salt, s) := s.draw 384
    let (extra, s) := s.draw 192
    let sig := identitySign (digestBlock labelAttest body) (beBytes 48 salt) (beBytes 24 extra)
    let s := { s with attest := { s.attest with running := none, report := body ++ sig } }
    .next ((s.setFld P.ATTEST_HDR.REPORT_LEN 16864).slotDone K.ATTEST_HDR)

/-- The body of a read: OFFSET and LENGTH (Table 19.5, R430). -/
def readWindow (c : Command) (sectionOk : Bool) (k : Nat → Nat → Outcome) : Outcome :=
  let b := c.body
  let off := natAt b 4 4
  let n := natAt b 8 4
  if b.length ≠ 16 then failWith .badLength
  else if !sectionOk ∨ !allZero (bytesAt b 2 2) ∨ !allZero (bytesAt b 12 4) ∨ off % 8 ≠ 0 ∨ n % 8 ≠ 0 ∨ n < 8 ∨ 4072 < n then
    failWith .badFormat
  else if c.path = Sys2Proof.Path.mailbox ∧ 2024 < n then failWith .badLength
  else k off n

/-- ATTEST_READ_REPORT: a copy of ATTEST_HDR and bytes of the report; with OFFSET = 0 it counts as the header's read. -/
def execAttestReadReport (t : Nat) (path : Path) (s : State) : Result :=
  if s.ctl.por then .next s else
  .next (s.command t path (attestOp (· == 1)) (fun c s =>
    readWindow c (natAt c.body 1 1 == 0) (fun off n =>
      if s.fld P.ATTEST_HDR.REPORT_LEN < off + n then failWith .badAddress
      else .ok ((leBytes 8 (s.reg K.ATTEST_HDR).toNat ++ bytesAt s.attest.report off n),
        if off = 0 then s.slotRead K.ATTEST_HDR else s))))

/-- ATTEST_READ_RECORD: bytes of a section of the identity record. -/
def execAttestReadRecord (t : Nat) (path : Path) (s : State) : Result :=
  if s.ctl.por then .next s else
  .next (s.command t path (attestOp (· == 2)) (fun c s =>
    readWindow c (decide (natAt c.body 1 1 ≤ 4)) (fun off n =>
      let l := s.ident.section_ (natAt c.body 1 1)
      if l.length < off + n then failWith .badAddress else .ok ((bytesAt l off n), s))))

end Sys2Proof.Machine
end

