-- ==== Sys2Proof/Machine/Dcl.lean ====
section
/-! DEFINITION. Detector control transfers (22_package_and_electrical.md R495 to R497). -/
namespace Sys2Proof.Machine

/-- Ones of a 32-bit word. -/
def onesOf (w : Nat) : Nat := (maskBits 32 w).length

/-- A detector control word with its odd parity (Table 22.7). -/
def dclWord (write : Bool) (addr data : Nat) : Nat :=
  let w := ofBit write * 2 ^ 31 + addr % 2 ^ 14 * 2 ^ 16 + data % 2 ^ 16
  w + (if onesOf w % 2 = 0 then 2 ^ 30 else 0)

/-- A frame is 32 clocks at 50 Mb/s, and 8 clocks with DCL_FRM low separate it from the next (R495): their times in ns. -/
def dclFrameTime : Nat := 640
def dclGap : Nat := 160

/-- A word leaves in one frame, bit 0 first (R495). -/
def State.dclSend (s : State) (lane t word : Nat) : State := s.emit (.dclFrame lane t ((List.range 32).map (bitOf word)))

/-- From the start of a transfer to the end of its last frame: one frame of a write, two of a read (R496). -/
def DclXfer.length (x : DclXfer) : Nat := if x.write then dclFrameTime else 2 * dclFrameTime + dclGap

/-- DCL_TRANSFER_START: a pending transfer's frame goes out, in the turnaround window where SYNC_TURN asks for it and the
mirror is in TRACK (R496, R497). -/
def execDclTransferStart (t : Nat) (s : State) : Result :=
  if s.ctl.por then .next s else
  match s.dcl with
  | none => .next s
  | some x =>
    if x.started ∨ t < x.asked ∨ (s.bit P.DCL_CFG.SYNC_TURN ∧ s.mirSt = 3 ∧ !s.turnWindow t) then .next s
    else
      let s := (s.at_ t).slotStart K.DCL_RESULT
      let s := s.dclSend x.lane t (dclWord x.write x.addr (if x.write then x.data else 0))
      let s := if x.write then s else s.dclSend x.lane (t + dclFrameTime + dclGap) 0x7FFF0000
      .next { s with dcl := some { x with started := true, startAt := t } }

/-- DCL_TRANSFER_DONE: once the last frame is over (R495), a read completes with the response word on DCL_DI, a write with the value written (R496, R497). -/
def execDclTransferDone (t : Nat) (response : BitVec 32) (s : State) : Result :=
  if s.ctl.por then .next s else
  match s.dcl with
  | none => .next s
  | some x =>
    if !x.started ∨ t < x.startAt + x.length then .next s
    else
      let r := response.toNat
      let bad := !x.write && (onesOf r % 2 == 0 || bitsOf r 29 16 != x.addr)
      let s := { (s.at_ t) with dcl := none }
      let s := (s.setFld P.DCL_RESULT.ERROR (ofBit bad)).setFld P.DCL_RESULT.LANE x.lane
      let s := (s.setFld P.DCL_RESULT.WRITE (ofBit x.write)).setFld P.DCL_RESULT.ADDR x.addr
      .next ((s.setFld P.DCL_RESULT.DATA (if x.write then x.data else bitsOf r 15 0)).slotDone K.DCL_RESULT)

end Sys2Proof.Machine
end

