-- ==== Sys2Proof/Machine/Drain.lean ====
section
/-! DEFINITION. Moving recorder captures to the recorder dump ring (08_mask_tests_and_recorder.md R203). -/
namespace Sys2Proof.Machine

/-- The words of the first capture wholly in the FIFO, and the rest. -/
def splitCapture : List FifoWord → Option (List FifoWord × List FifoWord)
  | [] => none
  | w :: l => if w.last then some ([w], l)
    else match splitCapture l with
      | some (a, b) => some (w :: a, b)
      | none => none

/-- REC_DRAIN_CAPTURE: with DRAIN = 1 a whole capture moves to the ring, or is dropped for want of room (R203,
R399). A capture waits in the FIFO while one is in progress in channel 5, so also while that is STALLED (Table 17.7). -/
def execRecDrainCapture (t : Nat) (s : State) : Result :=
  if s.ctl.por then .next s else
  let s := (s.at_ t).recTo (t + 1) t
  if !s.bit P.REC_CTRL.DRAIN ∨ s.stalled 5 ∨ !(s.chan 5).items.isEmpty then .next s
  else match splitCapture s.recorder.fifo with
    | none => .next s
    | some (ws, rest) =>
      let s := (s.withRec fun r => { r with fifo := rest, lastWord := (ws.getLast?.map (·.word)).getD r.lastWord }).recShow
      let bytes := (ws.map (fun w => leBytes 8 w.word)).flatten
      if s.ringOn 5 ∧ bytes.length ≤ s.ringFree 5 then
        .next (s.dmaPush 5 { payload := bytes, done := .capture bytes.length ws.length })
      else .next (s.addWrap P.REC_COUNTS.REC_DROPPED 1)

end Sys2Proof.Machine
end

