-- ==== Sys2Proof/Machine/HostWrites.lean ====
section
/-! DEFINITION. The rows of the opcode table that are host writes of a parameter, by BAR0 or by a Salsol write: each is the
one shared write (Boot.lean, WriteFx.lean) of its parameter, where the write covers what the row names. -/
namespace Sys2Proof.Machine

/-- GAIT_REQ: the pending gait is set or cleared, or the write is refused (R40, R41). -/
def execGaitReq (h : HostWrite) (s : State) : Result :=
  if s.ctl.por then .next s else
  .next (s.hostWrite K.GAIT h)

/-- FIELD_WRITE: W pends for the next frame boundary (R37, R236). -/
def execFieldWrite (h : HostWrite) (s : State) : Result :=
  if s.ctl.por then .next s else
  .next (s.hostWrite K.FIELD h)

/-- PHASE_REQUEST: a write covering PHASE asks for a phase at the next boundary (R45). -/
def execPhaseRequest (h : HostWrite) (s : State) : Result :=
  if s.ctl.por then .next s else
  if covers h P.FRAME_SYNC.PHASE then .next (s.hostWrite K.FRAME_SYNC h) else .next s

/-- CNT_SEL: a channel's counters are copied into CNT_A and CNT_B (R75). -/
def execCntSel (h : HostWrite) (s : State) : Result :=
  if s.ctl.por then .next s else
  .next (s.hostWrite K.CNT_SEL h)

/-- STAT_START: a statistics run begins (R79). -/
def execStatStart (h : HostWrite) (s : State) : Result :=
  if s.ctl.por then .next s else
  if hits h P.STAT_CTRL.START 1 then .next (s.hostWrite K.STAT_CTRL h) else .next s

/-- CAL_SEL: an input's path, skew and loss are copied into CAL_VIEW (R84). -/
def execCalSel (h : HostWrite) (s : State) : Result :=
  if s.ctl.por then .next s else
  .next (s.hostWrite K.CAL_SEL h)

/-- SPARE_SUBSTITUTE: a substitute request (R83). -/
def execSpareSubstitute (h : HostWrite) (s : State) : Result :=
  if s.ctl.por then .next s else
  if hits h P.SPARE_FORCE.ACTION 1 then .next (s.hostWrite K.SPARE_FORCE h) else .next s

/-- SPARE_RELEASE: a release request (R83). -/
def execSpareRelease (h : HostWrite) (s : State) : Result :=
  if s.ctl.por then .next s else
  if hits h P.SPARE_FORCE.ACTION 2 then .next (s.hostWrite K.SPARE_FORCE h) else .next s

/-- DUMP_REQ: a dump of frozen buffers or of a target column is asked for (R102, R103). -/
def execDumpReq (h : HostWrite) (s : State) : Result :=
  if s.ctl.por then .next s else
  .next (s.hostWrite K.DUMP_REQ h)

/-- FREEZE_SEL: a channel's buffer states are copied into FREEZE_VIEW (R107). -/
def execFreezeSel (h : HostWrite) (s : State) : Result :=
  if s.ctl.por then .next s else
  .next (s.hostWrite K.FREEZE_SEL h)

/-- TPL_COMMIT: the staged template enters a bank of the masked clusters (R118). -/
def execTplCommit (h : HostWrite) (s : State) : Result :=
  if s.ctl.por then .next s else
  .next (s.hostWrite K.TPL_COMMIT h)

/-- TPL_SWAP: a cross-fade is asked for in the masked clusters (R120, R121). -/
def execTplSwap (h : HostWrite) (s : State) : Result :=
  if s.ctl.por then .next s else
  .next (s.hostWrite K.TPL_SWAP h)

/-- BG_SEL: a channel's background is copied into BG_VIEW (R115). -/
def execBgSel (h : HostWrite) (s : State) : Result :=
  if s.ctl.por then .next s else
  .next (s.hostWrite K.BG_SEL h)

/-- EVOTH_RESTART: fault states are cleared and jobs restarted (R161). -/
def execEvothRestart (h : HostWrite) (s : State) : Result :=
  if s.ctl.por then .next s else
  if covers h P.EVOTH_CTRL.RESTART then .next (s.hostWrite K.EVOTH_CTRL h) else .next s

/-- KEY_REQ: a keyframe is asked for in every region (R173). -/
def execKeyReq (h : HostWrite) (s : State) : Result :=
  if s.ctl.por then .next s else
  if hits h P.STREAM_CFG.KEY_REQ 1 then .next (s.hostWrite K.STREAM_CFG h) else .next s

/-- RING_ENABLE: a ring's enable, base and size (R175); rings 0 to 3 of the regions, 4 dump, 5 recorder, 7 events. -/
def execRingEnable (ring : Nat) (h : HostWrite) (s : State) : Result :=
  if s.ctl.por then .next s else
  if isRing ring then .next (s.hostWrite (ringKey ring) h) else .next s

/-- RING_RD_WRITE: RD_OFF is checked and consumes bytes (R179). -/
def execRingRdWrite (ring : Nat) (h : HostWrite) (s : State) : Result :=
  if s.ctl.por then .next s else
  if isRing ring then .next (s.hostWrite (ringRdKey ring) h) else .next s

/-- ENV_COMMIT: the staged envelope is committed to a set of the masked clusters (R185). -/
def execEnvCommit (h : HostWrite) (s : State) : Result :=
  if s.ctl.por then .next s else
  .next (s.hostWrite K.ENV_COMMIT h)

/-- MASK_RELEASE: the MASK cause of the named buffers is cleared (R192). -/
def execMaskRelease (h : HostWrite) (s : State) : Result :=
  if s.ctl.por then .next s else
  .next (s.hostWrite K.MASK_RELEASE h)

/-- MASK_SEL: a channel's mask state is copied into MASK_VIEW (R205). -/
def execMaskSel (h : HostWrite) (s : State) : Result :=
  if s.ctl.por then .next s else
  .next (s.hostWrite K.MASK_SEL h)

/-- REC_EN: the recorder is armed or ends (R197, R198, R204). -/
def execRecEn (h : HostWrite) (s : State) : Result :=
  if s.ctl.por then .next s else
  if covers h P.REC_CTRL.EN then .next (s.hostWrite K.REC_CTRL h) else .next s

/-- REC_STOP: a capture in POST ends (R198). -/
def execRecStop (h : HostWrite) (s : State) : Result :=
  if s.ctl.por then .next s else
  if hits h P.REC_CTRL.STOP 1 then .next (s.hostWrite K.REC_CTRL h) else .next s

/-- REC_SW_TRIG: the host triggers the recorder (R196). -/
def execRecSwTrig (h : HostWrite) (s : State) : Result :=
  if s.ctl.por then .next s else
  if hits h P.REC_CTRL.SW_TRIG 1 then .next (s.hostWrite K.REC_CTRL h) else .next s

/-- EMIT_CTRL_WRITE: the master and bank enables and the fire width (R208). -/
def execEmitCtrlWrite (h : HostWrite) (s : State) : Result :=
  if s.ctl.por then .next s else
  .next (s.hostWrite K.EMIT_CTRL h)

/-- CHG_SET_WRITE: a charger's enable, set-point, band or slew (R222). -/
def execChgSetWrite (charger : Nat) (h : HostWrite) (s : State) : Result :=
  if s.ctl.por then .next s else
  if decide (charger < 4) then .next (s.hostWrite (K.CHG_SET + charger) h) else .next s

/-- CHG_CLEAR: chargers leave FAULT where allowed (R214, R217). -/
def execChgClear (h : HostWrite) (s : State) : Result :=
  if s.ctl.por then .next s else
  .next (s.hostWrite K.CHG_CLEAR h)

/-- EXP_CFG_WRITE: the slot length, or the lock of the budgets (R220). -/
def execExpCfgWrite (h : HostWrite) (s : State) : Result :=
  if s.ctl.por then .next s else
  .next (s.hostWrite K.EXP_CFG h)

/-- EXP_BUDGET_WRITE: a bank's budget, in effect at once (R220). -/
def execExpBudgetWrite (bank : Nat) (h : HostWrite) (s : State) : Result :=
  if s.ctl.por then .next s else
  if decide (bank < 16) then .next (s.hostWrite (K.EXP_BUDGET + bank) h) else .next s

/-- EXP_SEL: a bank's window sum is copied into EXP_VIEW (R225). -/
def execExpSel (h : HostWrite) (s : State) : Result :=
  if s.ctl.por then .next s else
  .next (s.hostWrite K.EXP_SEL h)

/-- MIRROR_RUN: the scan starts or spins down (R238). -/
def execMirrorRun (h : HostWrite) (s : State) : Result :=
  if s.ctl.por then .next s else
  if covers h P.MIR_CTRL.RUN then .next (s.hostWrite K.MIR_CTRL h) else .next s

/-- MIRROR_DRV_EN: the drive is enabled or the mirror turned OFF (R231, Table 10.6). -/
def execMirrorDrvEn (h : HostWrite) (s : State) : Result :=
  if s.ctl.por then .next s else
  if covers h P.MIR_CTRL.DRV_EN then .next (s.hostWrite K.MIR_CTRL h) else .next s

/-- MIRROR_RESTART: the mirror leaves BLIND_PARK or FAULT, or the write is refused (R237). -/
def execMirrorRestart (h : HostWrite) (s : State) : Result :=
  if s.ctl.por then .next s else
  if hits h P.MIR_CTRL.RESTART 1 then .next (s.hostWrite K.MIR_CTRL h) else .next s

/-- RC_CLEAR: both repetitive tables are cleared (R244). -/
def execRcClear (h : HostWrite) (s : State) : Result :=
  if s.ctl.por then .next s else
  if hits h P.MIR_RC.RC_CLEAR 1 then .next (s.hostWrite K.MIR_RC h) else .next s

/-- CONV_CFG_WRITE: a converter is reconfigured and reset, or the write is refused (R251). -/
def execConvCfgWrite (conv : Nat) (h : HostWrite) (s : State) : Result :=
  if s.ctl.por then .next s else
  if decide (conv < 2) then .next (s.hostWrite (K.CONV_CFG + conv) h) else .next s

/-- CONVERTER_SYNC: synchronising resets of the named converters (R258). -/
def execConverterSync (h : HostWrite) (s : State) : Result :=
  if s.ctl.por then .next s else
  if covers h P.FE_CTRL.SYNC then .next (s.hostWrite K.FE_CTRL h) else .next s

/-- IMP_CLEAR: IMP marking ends after a good check (R273). -/
def execImpClear (h : HostWrite) (s : State) : Result :=
  if s.ctl.por then .next s else
  if covers h P.FE_CTRL.IMP_CLEAR then .next (s.hostWrite K.FE_CTRL h) else .next s

/-- LIN_COMMIT: staged coefficients are installed (R266). -/
def execLinCommit (h : HostWrite) (s : State) : Result :=
  if s.ctl.por then .next s else
  .next (s.hostWrite K.LIN_CTRL h)

/-- ACC_CFG_WRITE: an accumulator's window restarts (R286). -/
def execAccCfgWrite (acc : Nat) (h : HostWrite) (s : State) : Result :=
  if s.ctl.por then .next s else
  if decide (acc < 64) then .next (s.hostWrite (K.ACC_CFG + acc) h) else .next s

/-- ACC_SEL: an accumulator's summary is copied into ACC_VIEW, its trackers cleared where asked (R287). -/
def execAccSel (h : HostWrite) (s : State) : Result :=
  if s.ctl.por then .next s else
  .next (s.hostWrite K.ACC_SEL h)

/-- RUN_REQ: a calibration run is asked for (R303). -/
def execRunReq (h : HostWrite) (s : State) : Result :=
  if s.ctl.por then .next s else
  if hits h P.CAL_CTRL.RUN_REQ 1 then .next (s.hostWrite K.CAL_CTRL h) else .next s

/-- PD_COMMIT: staged vertices become a Paddock's and its interval tables are started (R335). -/
def execPdCommit (h : HostWrite) (s : State) : Result :=
  if s.ctl.por then .next s else
  .next (s.hostWrite K.PD_COMMIT h)

/-- PADDOCK_EN_WRITE: a Paddock is enabled into STARTING or disabled (R322). -/
def execPaddockEnWrite (paddock : Nat) (h : HostWrite) (s : State) : Result :=
  if s.ctl.por then .next s else
  if decide (paddock < 16) then .next (s.hostWrite (K.PD_CFG + paddock) h) else .next s

/-- SAFE_RESET_BIT: the safe state is left where every condition holds (R327). -/
def execSafeResetBit (h : HostWrite) (s : State) : Result :=
  if s.ctl.por then .next s else
  if hits h P.PD_CTRL.SAFE_RESET 1 then .next (s.hostWrite K.PD_CTRL h) else .next s

/-- BR_SRC_WRITE: an entry becomes unsynchronised and its expectation restarts (R342, R350). -/
def execBrSrcWrite (entry : Nat) (h : HostWrite) (s : State) : Result :=
  if s.ctl.por then .next s else
  if decide (entry < 16) then .next (s.hostWrite (K.BR_SRC + entry) h) else .next s

/-- HITCH_SLIP: a lane in ALIGN slips by 1 UI (R357). -/
def execHitchSlip (h : HostWrite) (s : State) : Result :=
  if s.ctl.por then .next s else
  if hits h P.HITCH_CMD.SLIP 1 then .next (s.hostWrite K.HITCH_CMD h) else .next s

/-- LEAVE: LEAVE goes out on every SECURE link, and they detach (R359). -/
def execLeave (h : HostWrite) (s : State) : Result :=
  if s.ctl.por then .next s else
  if hits h P.HITCH_CMD.LEAVE 1 then .next (s.hostWrite K.HITCH_CMD h) else .next s

/-- EYE_SCAN_START: an eye scan of a lane begins (R360). -/
def execEyeScanStart (h : HostWrite) (s : State) : Result :=
  if s.ctl.por then .next s else
  if hits h P.EYE_CTRL.START 1 then .next (s.hostWrite K.EYE_CTRL h) else .next s

/-- RETRAIN: the link retrains at TARGET_RATE (R381). -/
def execRetrain (h : HostWrite) (s : State) : Result :=
  if s.ctl.por then .next s else
  if hits h P.LINK_CTRL.RETRAIN 1 then .next (s.hostWrite K.LINK_CTRL h) else .next s

/-- STU_INV: cached translations of a page, or all, are removed (R391). -/
def execStuInv (h : HostWrite) (s : State) : Result :=
  if s.ctl.por then .next s else
  if hits h P.STU_INV.START 1 then .next (s.hostWrite K.STU_INV h) else .next s

/-- DMA_RESUME: a stalled channel translates its faulting page again (R395). -/
def execDmaResume (h : HostWrite) (s : State) : Result :=
  if s.ctl.por then .next s else
  if hits h P.DMA_CMD.ACTION 1 then .next (s.hostWrite K.DMA_CMD h) else .next s

/-- DMA_ABORT: a stalled channel's item is discarded (R395, Table 17.8). -/
def execDmaAbort (h : HostWrite) (s : State) : Result :=
  if s.ctl.por then .next s else
  if hits h P.DMA_CMD.ACTION 2 then .next (s.hostWrite K.DMA_CMD h) else .next s

/-- CONFIRM: the trial bank becomes active and the fuses are burned (R435). -/
def execConfirm (h : HostWrite) (s : State) : Result :=
  if s.ctl.por then .next s else
  if hits h P.FW_CTRL.CONFIRM 1 then .next (s.hostWrite K.FW_CTRL h) else .next s

/-- PFD_MODE_WRITE: divider shadows for the next boundary (R449). -/
def execPfdModeWrite (h : HostWrite) (s : State) : Result :=
  if s.ctl.por then .next s else
  .next (s.hostWrite K.CLK_CTRL h)

/-- POWER_STATE_REQUEST: a power state is asked for, or the write is refused (R456). -/
def execPowerStateRequest (h : HostWrite) (s : State) : Result :=
  if s.ctl.por then .next s else
  .next (s.hostWrite K.PWR_CTRL h)

/-- RESUME: the thermal latch is cleared where temperatures allow (R466). -/
def execResume (h : HostWrite) (s : State) : Result :=
  if s.ctl.por then .next s else
  if hits h P.THERM_CTRL.RESUME 1 then .next (s.hostWrite K.THERM_CTRL h) else .next s

/-- CTRL_RESTART: a control restart (R471). -/
def execCtrlRestart (h : HostWrite) (s : State) : Result :=
  if s.ctl.por then .next s else
  if hits h P.RESET_CTRL.CTRL_RESTART 1 then .next (s.hostWrite K.RESET_CTRL h) else .next s

/-- FLAG_SEL: a W1C bit's level and counters are copied into FLAG_VIEW (R485). -/
def execFlagSel (h : HostWrite) (s : State) : Result :=
  if s.ctl.por then .next s else
  .next (s.hostWrite K.FLAG_SEL h)

/-- DCL_XFER: a detector control transfer is asked for (R497). -/
def execDclXfer (h : HostWrite) (s : State) : Result :=
  if s.ctl.por then .next s else
  .next (s.hostWrite K.DCL_XFER h)

end Sys2Proof.Machine
end

