-- ==== Sys2Proof/Machine/Images.lean ====
section
/-! DEFINITION. Images in pieces and keys: EVOTH_LOAD, FW_DATA, TACK_COMMIT, KEY_ENROLL and KEY_RETIRE
(18_salsol_commands.md R420; 06_evoth_processors.md R157, R158; 19_identity_firmware_tack.md R432 to R443). -/
namespace Sys2Proof.Machine

/-- A piece of an image (R420). -/
structure Piece where
  off : Nat
  total : Nat
  bytes : List Byte
  deriving DecidableEq, Repr

/-- The piece a body carries (check 7). -/
def pieceOf (c : Command) (k : Piece → Outcome) : Outcome :=
  let b := c.body
  let n := natAt b 8 4
  if b.length < 16 then failWith .badLength
  else if n = 0 ∨ c.len < 48 + n ∨ !allZero (bytesAt b 12 4) then failWith .badFormat
  else if b.length ≠ 16 + up8 n then failWith .badLength
  else if !allZero (b.drop (16 + n)) then failWith .badFormat
  else if !c.auth then failWith .protected_
  else k ⟨natAt b 0 4, natAt b 4 4, bytesAt b 16 n⟩

/-- A transfer takes a piece, or refuses it and is unchanged (R420). -/
def Xfer.take (x : Xfer) (limit : Nat) (p : Piece) : Option Xfer :=
  if limit < p.total ∨ p.total < p.off + p.bytes.length then none
  else if p.off = 0 then some ⟨p.total, p.bytes⟩
  else if p.off = x.bytes.length ∧ p.total = x.total then some ⟨x.total, x.bytes ++ p.bytes⟩
  else none

/-- The whole image, once the last piece is in. -/
def Xfer.whole (x : Xfer) : Option (List Byte) := if x.bytes.length = x.total then some x.bytes else none

/-- The label of Evoth images (Table 19.4). -/
def labelEvoth : List Byte := ascii [0x58, 0x5A, 0x33, 0x38, 0x34, 0x30, 0x20, 0x45, 0x56, 0x4F, 0x54, 0x48]
/-- The label of firmware images. -/
def labelFirmware : List Byte :=
  ascii [0x58, 0x5A, 0x33, 0x38, 0x34, 0x30, 0x20, 0x46, 0x49, 0x52, 0x4D, 0x57, 0x41, 0x52, 0x45]
/-- The label of key enrolment (R438). -/
def labelEnroll : List Byte := ascii [0x58, 0x5A, 0x33, 0x38, 0x34, 0x30, 0x20, 0x45, 0x4E, 0x52, 0x4F, 0x4C, 0x4C]

/-- Is an Evoth image's header well formed and does it name the image's lengths (Table 6.8)? -/
def evothHeaderOk (b : List Byte) : Bool :=
  let refine := natAt b 6 1 == 1
  let prog := natAt b 8 4
  let data := natAt b 12 4
  decide (64 ≤ b.length) && natAt b 0 4 == 0x48544F45 && natAt b 4 2 == 1 && (refine || natAt b 6 1 == 2) &&
  decide (natAt b 7 1 ≤ 1) && !(refine && natAt b 7 1 == 1) && prog % 4 == 0 &&
  decide (prog ≤ (if refine then 20480 else 12288)) && decide (data ≤ (if refine then 40960 else 24576)) &&
  decide (natAt b 16 4 < prog) && (!refine || natAt b 20 2 == 0xFFFF) &&
  decide (natAt b 32 4 ≤ 3) && b.length == 64 + prog + data + 16608

/-- A whole Evoth image is verified and put to use (R157, R158). -/
def State.evothImage (s : State) (b : List Byte) : Outcome :=
  let prog := natAt b 8 4
  let data := natAt b 12 4
  let slot := natAt b 32 4
  let signed := b.take (64 + prog + data)
  let verified : Bool := match Map.find? s.nv.imageKeys slot with
    | none => false
    | some keys => bothVerify keys (digestBlock labelEvoth signed) (b.drop (64 + prog + data))
  if !evothHeaderOk b then .ended { status := .refused } s
  else if !verified then .ended { status := .badSignature } s
  else
    let x : EvothImage := {
      bk := natAt b 7 1 == 1, entry := natAt b 16 4, prog := bytesAt b 64 prog, data := bytesAt b (64 + prog) data,
      version := natAt b 24 8, keySlot := slot, digest := sha384 signed }
    if natAt b 6 1 = 1 then .ok ([], { s with evoth := { s.evoth with refine := some x } })
    else .ok ([], forEach (maskBits 16 (natAt b 20 2)) (fun q s => s.loadBg q x) s)

/-- EVOTH_LOAD (R158, R420). -/
def execEvothLoad (t : Nat) (path : Path) (s : State) : Result :=
  if s.ctl.por then .next s else
  .next (s.command t path (isOp 0x8601) (fun c s => pieceOf c (fun p =>
    match s.salsol.evoth.take 98304 p with
    | none => failWith .refused
    | some x => match x.whole with
      | none => .ok ([], { s with salsol := { s.salsol with evoth := x } })
      | some b => ({ s with salsol := { s.salsol with evoth := {} } }).evothImage b)))

/-- The bank that does not run takes an image and is PENDING, or takes none while it is unbootable (R433). In recovery, where
no bank runs, it is the one that RUNNING_BANK does not name (notes/assumptions 15). -/
def State.setOtherBank (s : State) (b : Option FwBank) : State :=
  let run := s.bit P.FW_STATUS.RUNNING_BANK
  let n := { s.nv with pending := if b.isSome then some (!run) else none }
  { s with nv := if run then { n with bankA := b } else { n with bankB := b } }

/-- Is a firmware header well formed, with the lengths of the image (Table 19.7, R429, R433)? -/
def fwHeaderOk (b : List Byte) : Bool :=
  let gen := natAt b 7 1
  let body := natAt b 16 4
  let revoke := bitsOf (natAt b 20 1) 3 0
  decide (64 ≤ b.length) && natAt b 0 4 == 0x4D524946 && natAt b 4 2 == 1 && decide (natAt b 6 1 ≤ 64) &&
  decide (1 ≤ gen) && decide (gen ≤ 4) && body % 8 == 0 && decide (body ≤ 376544) &&
  !bitOf revoke (gen - 1) && b.length == 64 + body + 16608

/-- A whole firmware image is verified; a good one makes its bank PENDING (R433). -/
def State.fwImage (s : State) (b : List Byte) : Outcome :=
  let gen := natAt b 7 1
  let n := 64 + natAt b 16 4
  let signed := b.take n
  if !fwHeaderOk b then .ended { status := .refused } s
  else if bitOf s.nv.revoked (gen - 1) ∨ !bothVerify (Config.rootKey gen) (digestBlock labelFirmware signed) (b.drop n) then
    .ended { status := .badSignature } s
  else if natAt b 6 1 < s.nv.rollback then .ended { status := .refused } s
  else .ok ([], s.setOtherBank (some {
    svn := natAt b 6 1, rootGen := gen, version := natAt b 8 8, revoke := bitsOf (natAt b 20 1) 3 0, digest := sha384 signed,
    verifies := true, image := b }))

/-- FW_DATA (R433). -/
def execFwData (t : Nat) (path : Path) (s : State) : Result :=
  if s.ctl.por then .next s else
  .next (s.command t path (isOp 0x1303) (fun c s => pieceOf c (fun p =>
    if s.nv.trial.isSome then failWith .refused
    else match s.salsol.fw.take 393216 p with
      | none => failWith .refused
      | some x =>
        let s := if p.off = 0 then s.setOtherBank none else s
        match x.whole with
        | none => .ok ([], { s with salsol := { s.salsol with fw := x } })
        | some b => ({ s with salsol := { s.salsol with fw := {} } }).fwImage b)))

/-- TACK_COMMIT (R443): the image is checked and stored; the boot list acts at the next restart. -/
def execTackCommit (t : Nat) (path : Path) (s : State) : Result :=
  if s.ctl.por then .next s else
  .next (s.command t path (isOp 0x1302) (fun c s => pieceOf c (fun p =>
    match s.salsol.tack.take 65536 p with
    | none => failWith .refused
    | some x => match x.whole with
      | none => .ok ([], { s with salsol := { s.salsol with tack := x } })
      | some b =>
        let s := { s with salsol := { s.salsol with tack := {} } }
        if tackStorable b then
          let s := { s with nv := { s.nv with tack := b, tackWrite := some s.now, tackTorn := none } }
          .ok ([], s.setFld P.TACK_STORED_VER.VERSION s.storedVersion)
        else .ended { status := .refused } s)))

/-- A wrapped key (R438): the key, or none where CHECK differs. -/
def State.unwrapKey (s : State) (kind slot : Nat) (b : List Byte) : Option (List Byte) :=
  let ct := b.take 1088
  let enc := bytesAt b 1088 32
  let k := hmacSha256 (Config.mlKemDecaps ct) (labelEnroll ++ leBytes 8 s.ident.devId ++ leBytes 1 kind ++ leBytes 1 slot)
  let pad := fun (i : Nat) => aes128 (k.take 16) (List.replicate 12 0 ++ leBytes 4 i)
  if (hmacSha256 (k.drop 16) (ct ++ enc)).take 16 = bytesAt b 1120 16 then
    some (List.zipWith (· ^^^ ·) enc (pad 0 ++ pad 1))
  else none

/-- Replacing or retiring an image key discards every image it signed (R440). -/
def State.imageKeyGone (s : State) (slot : Nat) : State :=
  let s := match s.evoth.refine with
    | some x => if x.keySlot = slot then { s with evoth := { s.evoth with refine := none, refineGone := true } } else s
    | none => s
  forEach ((s.evoth.bgImages.filter (fun (e : Nat × EvothImage) => e.2.keySlot == slot)).map (·.1)) (fun q s => s.dropBg q) s

/-- Does a KEY_ENROLL or KEY_RETIRE name a kind and slot of R437? -/
def keySlotOk (b : List Byte) : Bool :=
  let kind := natAt b 0 1
  decide (1 ≤ kind) && decide (kind ≤ 3) && decide (natAt b 1 1 ≤ 3) && (kind != 3 || natAt b 1 1 == 0) && allZero (bytesAt b 2 6)

/-- KEY_ENROLL (R437 to R440). -/
def execKeyEnroll (t : Nat) (path : Path) (s : State) : Result :=
  if s.ctl.por then .next s else
  .next (s.command t path (isOp 0x9301) (fun c s =>
    let b := c.body
    let kind := natAt b 0 1
    let slot := natAt b 1 1
    if b.length < 8 then failWith .badLength
    else if !keySlotOk b then failWith .badFormat
    else if b.length ≠ (if kind = 2 then 440 else 1144) then failWith .badLength
    else if !c.auth ∧ !(kind = 1 ∧ s.nv.cmdKeys.isEmpty) then failWith .protected_
    else if kind = 2 then
      .ok ([], ({ s with nv := { s.nv with imageKeys := Map.insert s.nv.imageKeys slot (bytesAt b 8 384, bytesAt b 392 48) } }).imageKeyGone slot)
    else match s.unwrapKey kind slot (b.drop 8) with
      | none => .ended { status := .refused } (s.setFlag P.ID_FLAGS.ENROLL_FAIL_SEEN)
      | some k =>
        if kind = 3 then .ok ([], { s with nv := { s.nv with teamKey := some k } })
        else .ok ([], ({ s with nv := { s.nv with cmdKeys := Map.insert s.nv.cmdKeys slot k } }).setFld
          (P.KEY_STATE.LAST_COUNTER.idx slot) 0)))

/-- KEY_RETIRE (R437, R439, R440). -/
def execKeyRetire (t : Nat) (path : Path) (s : State) : Result :=
  if s.ctl.por then .next s else
  .next (s.command t path (isOp 0x9302) (fun c s =>
    let kind := natAt c.body 0 1
    let slot := natAt c.body 1 1
    bodyOf c 8 (keySlotOk c.body) (
      if !c.auth then failWith .protected_
      else match kind with
        | 1 =>
          if (Map.find? s.nv.cmdKeys slot).isNone ∨ s.nv.cmdKeys.length = 1 then failWith .refused
          else .ok ([], ({ s with nv := { s.nv with cmdKeys := Map.erase s.nv.cmdKeys slot } }).setFld
            (P.KEY_STATE.LAST_COUNTER.idx slot) 0)
        | 2 =>
          if (Map.find? s.nv.imageKeys slot).isNone then failWith .refused
          else .ok ([], ({ s with nv := { s.nv with imageKeys := Map.erase s.nv.imageKeys slot } }).imageKeyGone slot)
        | _ =>
          if s.nv.teamKey.isNone then failWith .refused else .ok ([], { s with nv := { s.nv with teamKey := none } }))))

end Sys2Proof.Machine
end

