-- ==== Sys2Proof/Machine/Refine.lean ====
section
/-! DEFINITION. The vendor extraction library's refinement of a row and the post port (05_echo_extraction.md R125 to
R132, 06_evoth_processors.md R150 to R153). -/
namespace Sys2Proof.Machine

/-- A candidate under refinement: the record, its amplitude in 1/256 event, and the class it has so far. -/
structure Refining where
  c : Cand
  amp : Nat
  cls : Option Nat
  deriving DecidableEq, Repr

/-- Merge a later candidate into an earlier one and solve again (R125). -/
def Cand.merge (a b : Cand) : Cand :=
  let d : Int := (b.peak : Int) - a.peak
  { a with
    s1 := a.s1 + b.s1 + 64 * d * b.n,
    s2 := a.s2 + b.s2 + 128 * d * b.s1 + 4096 * d * d * b.n,
    n := a.n + b.n, nw := a.nw + b.nw, nomon := a.nomon || b.nomon, fade := a.fade || b.fade,
    overflow := a.overflow || b.overflow, poison := a.poison || b.poison, pile := a.pile || b.pile,
    sat := a.sat || b.sat } |>.solve

/-- Merge pairs in ascending peak order; the number of merges (R125). -/
def mergeAll (bins : Nat) (l : List Cand) : List Cand × Nat :=
  let r := l.foldl (fun (a : List Cand × Nat) c => match a.1 with
    | x :: t => if bins ≠ 0 ∧ c.peak - x.peak ≤ bins then (x.merge c :: t, a.2 + 1) else (c :: a.1, a.2)
    | [] => ([c], a.2)) ([], 0)
  (r.1.reverse, r.2)

/-- amp of Table 5.5. -/
def Cand.amp (c : Cand) : Nat := 256 * c.n - c.bq * c.nw

/-- Code-tracking (R127). -/
def State.tracking (s : State) (k : Column) (c : Cand) : Bool :=
  let tb := s.forceFld P.CLASS_SHAPE.TRACK_BINS
  let r := c.channel
  let a := decide (1 ≤ k.seq)
  let peaks := Map.get [] s.evoth.peaks (r / 96)
  let hitA := a && peaks.any (fun p => decide (p.1 = k.frame) && decide (p.2.1 + 1 = k.seq) &&
    decide (r ≤ p.2.2.1 + 1) && decide (p.2.2.1 ≤ r + 1) && decide (((p.2.2.2 : Int) - c.peak).natAbs ≤ tb))
  let hist := s.prevRanges k.index r
  let hitB : Bool := match hist with
    | some l => l.any (fun m => decide (((m : Int) - c.rangeMm).natAbs ≤ 75 * tb))
    | none => false
  hitA || hitB || (!a && hist.isNone)

/-- Stable (R128). -/
def State.stable (s : State) (k : Column) (c : Cand) : Bool :=
  match s.prevRanges k.index c.channel with
  | some l => l.any (fun m => decide (((m : Int) - c.rangeMm).natAbs ≤ s.forceFld P.CLASS_RANGE.STAB_MM))
  | none => true

/-- Insert by range, equal ranges staying in peak order. -/
def insertRange (x : Refining) : List Refining → List Refining
  | [] => [x]
  | y :: l => if x.c.rangeMm < y.c.rangeMm then x :: y :: l else y :: insertRange x l

/-- The class of one candidate, given those already classed (Table 5.6). -/
def State.classify (s : State) (k : Column) (nA : Nat) (film : Bool) (all done : List Refining) (x : Refining) : Nat :=
  let c := x.c
  if film then 3
  else if !s.tracking k c then 4
  else
    let mp := s.forceFld P.CLASS_RANGE.MP_MM
    let ghost := done.any (fun h => h.cls == some 0 && decide (h.c.rangeMm < c.rangeMm) &&
      decide (((c.rangeMm : Int) - 2 * h.c.rangeMm).natAbs ≤ mp) &&
      decide (16 * x.amp ≤ s.forceFld P.CLASS_RANGE.MP_RATIO16 * h.amp))
    if ghost then 5
    else
      let beta8 := 256 * c.sigma16 / c.sigmaRef16
      let ar16 := x.amp / (nA * Nat.max c.sigma16 16)
      let farther := all.any (fun y => decide (c.rangeMm < y.c.rangeMm))
      if s.forceFld P.CLASS_SHAPE.PART_BETA8 ≤ beta8 ∧ ar16 < s.forceFld P.CLASS_SHAPE.PART_AR16 ∧
          (farther ∨ !s.stable k c) then 2
      else if s.forceFld P.CLASS_SHAPE.SOFT_BETA8 ≤ beta8 then 1 else 0

/-- Confidence (R130). -/
def confidence (c : Cand) (amp cls : Nat) (degr : Bool) : Nat :=
  let q := ((List.range 16).filter (fun q => decide (q * q * 256 * (c.nw * c.bq + 256) ≤ 4 * amp * amp))).foldl Nat.max 0
  let q := if cls = 4 then Nat.min q 3 else q
  if c.poison || c.nomon || degr then Nat.min q 7 else q

/-- Intensity (R131); within 1/64 of a half-integer either neighbour, left free. -/
def State.intensity (s : State) (c : Cand) (amp nA v : Nat) : Nat × State :=
  if c.sat || c.pile then (1023, s)
  else if v = 0 ∨ nA = 0 then (0, s)
  else
    let lam := fxLn (256 * nA) (256 * nA - Nat.min amp (256 * nA - 128))
    let vn := s.forceFld P.MERGE_INT.VNOM
    let x := (s.forceFld P.MERGE_INT.INT_SCALE : Int) * lam * (c.rangeMm * c.rangeMm * vn * vn : Nat) / ((1600000000 * v * v : Nat) : Int)
    let q := (x / fx).toNat
    let f := x % fx
    if (2 * f - fx).natAbs * 32 ≤ fx.natAbs + 2 ^ 40 then
      let (d, s) := s.draw 1
      (Nat.min 1023 (q + d), s)
    else (Nat.min 1023 (if 2 * f < fx then q else q + 1), s)

/-- The echoes of a row, with its merges and window drops (R125 to R132). -/
def State.refineRow (s : State) (k : Column) (row : Nat) : (List Post × Nat × Nat) × State :=
  let bank := row / 24
  let nA := k.nA bank
  let (ms, merges) := mergeAll (s.forceFld P.MERGE_INT.MERGE_BINS) (s.rowCands k row)
  let film := fun (c : Cand) => decide (c.rangeMm ≤ s.forceFld P.CLASS_RANGE.FILM_MM)
  let base := s.forceFld ((P.FILM_BASE.FILM_BASE.idx (bank / 4)).sub (bank % 4) 16)
  let kept := ms.filter (fun c => !(film c && decide (c.amp / nA ≤ base)))
  let sorted := kept.foldl (fun l c => insertRange ⟨c, c.amp, none⟩ l) []
  let classed := sorted.foldl (fun done x =>
    done ++ [{ x with cls := some (s.classify k nA (film x.c) sorted done x) }]) []
  let degr := Map.get false k.degr row
  let v := k.volts.getD (bank / 4) 0
  let posts := classed.foldl (fun (a : List Post × State) x =>
    let cls := x.cls.getD 0
    let (i, s) := a.2.intensity x.c x.amp nA v
    (a.1 ++ [⟨x.c.rangeMm, x.c.sigma16, a.1.length, confidence x.c x.amp cls degr, i, cls,
      x.c.poison || x.c.nomon || degr, x.c.sat || x.c.pile, x.c.bq⟩], s)) ([], s)
  let g := s.stream (row / 96)
  ((posts.1, merges, ms.length - kept.length), posts.2.countSlots g.prev g.prevValid k.index row)

/-- What a row has been posted in a column. -/
def Column.post (k : Column) (row : Nat) : RowPosts := Map.get {} k.posts row
/-- Replace it. -/
def Column.setPost (k : Column) (row : Nat) (p : RowPosts) : Column := { k with posts := Map.set {} k.posts row p }

/-- Release deadline of a column (R29). -/
def Column.deadline (k : Column) : Nat := k.handoff.getD 0 + 3 * gaitT k.gait / 2

/-- The row is refused by R151, counted once. -/
def State.postError (s : State) (k : Column) (row : Nat) : State :=
  if (k.post row).error then s
  else
    let s := s.liveWrap (P.REGION_POSTS.POST_ERRORS.idx (row / 96)) 1
    s.withCol k.frame k.seq fun x => x.setPost row { x.post row with error := true }

/-- The job has finished every row of its bank: the slack is recorded (R153). DESIGN CHOICE (notes/assumptions 44): the job ends
then, after a running repeat (R142). -/
def State.jobFinish (s : State) (k : Column) (q : Nat) : State :=
  match s.scan.columns.find? (fun c => decide (c.frame = k.frame ∧ c.seq = k.seq)) with
  | none => s
  | some k =>
    if (List.range 24).all (fun i => (k.post (24 * q + i)).finished) then
      let f := P.REGION_POSTS.MIN_SLACK.idx (q / 4)
      let s := s.setLive f (Nat.min (s.liveFld f) (k.deadline - s.now))
      if s.level q = 1 ∧ (s.core q).col.lc ≠ 0 then s.withCore q fun c => { c with endDue := true } else s.endColumnJob q
    else s

/-- An entry reaches the assembler (R150, R151, R152). DESIGN CHOICE (notes/assumptions 44): an entry for a row already closed, a
second DONE among them, is an error of the row. -/
def State.takePost (s : State) (k : Column) (q : Nat) (e : BitVec 128) : State :=
  let n := e.toNat
  let row := bitsOf n 8 0
  if 384 ≤ row then s.liveWrap (P.REGION_POSTS.POST_ERRORS.idx (q / 4)) 1
  else if row / 24 ≠ q then s.postError k row
  else if bitsOf n 31 16 ≠ k.seq then s.postError k row
  else
    let p := k.post row
    if p.done.isSome then s.postError k row
    else if bitOf n 15 then
      let necho := bitsOf n 14 12
      let bad := necho ≠ p.entries.length ∨ p.entries.any (fun x => decide (necho ≤ x.echo))
      let s := s.withCol k.frame k.seq fun x => x.setPost row { p with done := some necho }
      let s := if bad then s.postError { k with posts := Map.set {} k.posts row p } row else s
      s.jobFinish k q
    else
      let echo := bitsOf n 79 78
      if p.entries.any (fun x => x.echo == echo) then s.postError k row
      else
        let x : Post := ⟨bitsOf n 50 32, bitsOf n 63 51, echo, bitsOf n 77 74, bitsOf n 73 64, bitsOf n 82 80,
          bitOf n 89, bitOf n 88, bitsOf n 115 96⟩
        s.withCol k.frame k.seq fun c => c.setPost row { p with entries := p.entries ++ [x] }

/-- The vendor library posts the next entry of a row: its echoes in order, then DONE (R132, R150). -/
def State.vendorPost (s : State) (k : Column) (row : Nat) : State :=
  let p := k.post row
  if !Map.get false k.ready row ∨ p.done.isSome then s
  else
    let (t, s) := match p.todo with
      | some t => (t, s)
      | none => s.refineRow k row
    match t.1 with
    | e :: rest => s.withCol k.frame k.seq fun c => c.setPost row { p with entries := p.entries ++ [e], todo := some (rest, t.2) }
    | [] =>
      let s := s.liveWrap (P.EXTRACT_COUNTS.MERGES.idx (row / 96)) t.2.1
      let s := s.liveWrap (P.EXTRACT_COUNTS.WINDOW_DROPS.idx (row / 96)) t.2.2
      let s := s.withCol k.frame k.seq fun c => c.setPost row { p with done := some p.entries.length, todo := some t }
      s.jobFinish k (coreOf row)

/-- Is `seq` a column whose D is past at `t` for core `q`: the one that its ended job had, released or past its deadline (R152)?
DESIGN CHOICE (notes/assumptions 44): an entry of a still older column is a SEQ that the job does not own (R151). -/
def State.pastColumn (s : State) (q seq t : Nat) : Bool :=
  match (s.core q).ended with
  | none => false
  | some (f, n) => n == seq && (s.core q).job.map (fun j => j.2) != some seq && match s.scan.columns.find? (fun k => decide (k.frame = f ∧ k.seq = n)) with
    | none => true
    | some k => bitOf k.released (q / 4) || decide (k.deadline < t)

/-- POST_ENTRY: an entry of a core's post port reaches the assembler (R150–R152). `row` names the core by one of its bank's rows.
An entry in the cycle of D counts as before it. With the vendor library the core posts the next echo of the row, or its DONE
entry. A core that runs no COLUMN job posts nothing but what its ended job still had on the way. -/
def execPostEntry (t row : Nat) (entry : BitVec 128) (s : State) : Result :=
  if s.ctl.por then .next s else
  if 384 ≤ row then .next s
  else
    let s := s.at_ t
    let q := coreOf row
    let late := s.liveWrap (P.REGION_POSTS.LATE_POSTS.idx (q / 4)) 1
    let vendor := s.evoth.refineOn.isNone
    if !vendor && s.pastColumn q (bitsOf entry.toNat 31 16) t then .next late
    else if s.level q ≠ 1 then .next s
    else match (s.core q).job.bind (fun j => s.scan.columns.find? (fun k => decide (k.frame = j.1 ∧ k.seq = j.2))) with
      | none => .next s
      | some k =>
        if k.deadline < t ∧ (vendor ∨ bitsOf entry.toNat 31 16 = k.seq) then .next late
        else .next (if vendor then s.vendorPost k row else s.takePost k q entry)

end Sys2Proof.Machine
end

