-- ==== Sys2Proof/Machine/Tick.lean ====
section
/-! DEFINITION. The safety supervisor's task tick (14_paddocks_and_halter.md R510, 15_bridle_frames.md R343, R346). -/
namespace Sys2Proof.Machine

/-- The STATUS frame of a tick goes to the host and to the team (R346). -/
def State.sendStatus (s : State) : State :=
  let payload := s.statusPayload
  if s.statusDue payload then
    let s := s.statusToHost payload
    if s.teamLinks.isEmpty then s
    else
      let (f, s) := s.statusToTeam payload
      forEach s.teamLinks (fun k s => s.hitchSend k 0x30 f) s
  else s

/-- TASK_TICK: frame results, verdicts, coverage and outputs, then the sources' expectations and the STATUS frame
(R343, R344, R346, R510), and the slots whose hold is over (R372). -/
def execTaskTick (t : Nat) (s : State) : Result :=
  if s.ctl.por then .next s else
  let s := (s.at_ t).supervise
  let s := s.bridleTake
  let s := forUpto 16 (fun e s => s.srcExpire e) s
  .next s.sendStatus.freeHeld

end Sys2Proof.Machine
end

