-- ==== Sys2Proof/Machine/Dispatch.lean ====
section
/-! DEFINITION. One arm per command: which meaning it has. -/
namespace Sys2Proof.Machine

/-- The effect of a command on everything but the queue. -/
def exec (i : Instr) (s : State) : Host.Outcome State Fault Refusal :=
  match i with
  | .columnTrigger => Sys2Proof.Machine.execColumnTrigger s
  | .columnSkipTimeout => Sys2Proof.Machine.execColumnSkipTimeout s
  | .fireCommand bank pulse => Sys2Proof.Machine.execFireCommand bank pulse s
  | .monitorEvent bank tick code => Sys2Proof.Machine.execMonitorEvent bank tick code s
  | .monWinExpiry bank pulse => Sys2Proof.Machine.execMonWinExpiry bank pulse s
  | .returnEvent channel tick code stay => Sys2Proof.Machine.execReturnEvent channel tick code stay s
  | .armingDecision bank pulse => Sys2Proof.Machine.execArmingDecision bank pulse s
  | .histogramAccumulate channel => Sys2Proof.Machine.execHistogramAccumulate channel s
  | .gateEdge gate tick code rising => Sys2Proof.Machine.execGateEdge gate tick code rising s
  | .syncInEdge t => Sys2Proof.Machine.execSyncInEdge t s
  | .creditRestore t => Sys2Proof.Machine.execCreditRestore t s
  | .handOff => Sys2Proof.Machine.execHandOff s
  | .statResultComplete t => Sys2Proof.Machine.execStatResultComplete t s
  | .dumpRecord => Sys2Proof.Machine.execDumpRecord s
  | .epochPeriodExpiry t => Sys2Proof.Machine.execEpochPeriodExpiry t s
  | .codeKeyDerived t => Sys2Proof.Machine.execCodeKeyDerived t s
  | .pipeChannelRead channel => Sys2Proof.Machine.execPipeChannelRead channel s
  | .momentSolve cluster => Sys2Proof.Machine.execMomentSolve cluster s
  | .columnEndMarker cluster => Sys2Proof.Machine.execColumnEndMarker cluster s
  | .intervalEngineCandidate t => Sys2Proof.Machine.execIntervalEngineCandidate t s
  | .rowReady t row => Sys2Proof.Machine.execRowReady t row s
  | .columnJobStart t core => Sys2Proof.Machine.execColumnJobStart t core s
  | .jobDispatch t core => Sys2Proof.Machine.execJobDispatch t core s
  | .postEntry t row entry => Sys2Proof.Machine.execPostEntry t row entry s
  | .evothInstructionFetch core pc verdict => Sys2Proof.Machine.execEvothInstructionFetch core pc verdict s
  | .evothRepeat core count allowed => Sys2Proof.Machine.execEvothRepeat core count allowed s
  | .evothModeSwitch core narrow => Sys2Proof.Machine.execEvothModeSwitch core narrow s
  | .evothMac core acc da db second => Sys2Proof.Machine.execEvothMac core acc da db second s
  | .evothAccMove core acc dest => Sys2Proof.Machine.execEvothAccMove core acc dest s
  | .evothLoadSc core value => Sys2Proof.Machine.execEvothLoadSc core value s
  | .evothLoadCbsel core value => Sys2Proof.Machine.execEvothLoadCbsel core value s
  | .evothDataAccess core u v => Sys2Proof.Machine.execEvothDataAccess core u v s
  | .bkBlockRepeat core len count => Sys2Proof.Machine.execBkBlockRepeat core len count s
  | .bkUnsupportedInstruction core => Sys2Proof.Machine.execBkUnsupportedInstruction core s
  | .intervalTablesDone t paddock => Sys2Proof.Machine.execIntervalTablesDone t paddock s
  | .evothReloadDone t region => Sys2Proof.Machine.execEvothReloadDone t region s
  | .releaseDeadline region => Sys2Proof.Machine.execReleaseDeadline region s
  | .ringWriteback t region => Sys2Proof.Machine.execRingWriteback t region s
  | .coalUsExpiry region => Sys2Proof.Machine.execCoalUsExpiry region s
  | .recorderChange t levels pulsed => Sys2Proof.Machine.execRecorderChange t levels pulsed s
  | .captureEnd t => Sys2Proof.Machine.execCaptureEnd t s
  | .recorderRearm t => Sys2Proof.Machine.execRecorderRearm t s
  | .recDrainCapture t => Sys2Proof.Machine.execRecDrainCapture t s
  | .chargerSample t charger code fltLow => Sys2Proof.Machine.execChargerSample t charger code fltLow s
  | .rampTick t => Sys2Proof.Machine.execRampTick t s
  | .chgTimeout t charger => Sys2Proof.Machine.execChgTimeout t charger s
  | .chgExtFault t charger => Sys2Proof.Machine.execChgExtFault t charger s
  | .expSlotEnd t => Sys2Proof.Machine.execExpSlotEnd t s
  | .currentSample t code => Sys2Proof.Machine.execCurrentSample t code s
  | .bridgeStuck t code => Sys2Proof.Machine.execBridgeStuck t code s
  | .bridgeTakeover code => Sys2Proof.Machine.execBridgeTakeover code s
  | .angleSample => Sys2Proof.Machine.execAngleSample s
  | .angleStale t => Sys2Proof.Machine.execAngleStale t s
  | .positionLoopTick t => Sys2Proof.Machine.execPositionLoopTick t s
  | .outerLoopOverrun t => Sys2Proof.Machine.execOuterLoopOverrun t s
  | .converterOutput conv bits => Sys2Proof.Machine.execConverterOutput conv bits s
  | .overloadDetected t conv => Sys2Proof.Machine.execOverloadDetected t conv s
  | .impedanceCheckStart t conv => Sys2Proof.Machine.execImpedanceCheckStart t conv s
  | .impedanceCheckEnd conv zp zn => Sys2Proof.Machine.execImpedanceCheckEnd conv zp zn s
  | .excComplianceFault t source => Sys2Proof.Machine.execExcComplianceFault t source s
  | .excComplianceRestored t source => Sys2Proof.Machine.execExcComplianceRestored t source s
  | .chopPhase source => Sys2Proof.Machine.execChopPhase source s
  | .syncReset conv => Sys2Proof.Machine.execSyncReset conv s
  | .foutPeriodEnd t output => Sys2Proof.Machine.execFoutPeriodEnd t output s
  | .hkConversion t conv code => Sys2Proof.Machine.execHkConversion t conv code s
  | .strobeWindowStart t comps => Sys2Proof.Machine.execStrobeWindowStart t comps s
  | .strobeWindowEnd t checks => Sys2Proof.Machine.execStrobeWindowEnd t checks s
  | .calRunStart t => Sys2Proof.Machine.execCalRunStart t s
  | .calRunSolved t meas => Sys2Proof.Machine.execCalRunSolved t meas s
  | .startupRunInstalled t => Sys2Proof.Machine.execStartupRunInstalled t s
  | .rerunMaxExpiry t => Sys2Proof.Machine.execRerunMaxExpiry t s
  | .templateEstimate t cluster => Sys2Proof.Machine.execTemplateEstimate t cluster s
  | .angleLagEstimate t => Sys2Proof.Machine.execAngleLagEstimate t s
  | .taskTick t => Sys2Proof.Machine.execTaskTick t s
  | .halterTimeout t paddock => Sys2Proof.Machine.execHalterTimeout t paddock s
  | .turnaroundSelftest t passed => Sys2Proof.Machine.execTurnaroundSelftest t passed s
  | .lockstepMismatch t => Sys2Proof.Machine.execLockstepMismatch t s
  | .supervisorMemoryError t => Sys2Proof.Machine.execSupervisorMemoryError t s
  | .safetyClockCheck t ppm => Sys2Proof.Machine.execSafetyClockCheck t ppm s
  | .tpsPulse t supply => Sys2Proof.Machine.execTpsPulse t supply s
  | .safetyInputSample t levels => Sys2Proof.Machine.execSafetyInputSample t levels s
  | .inFilterExpiry t input => Sys2Proof.Machine.execInFilterExpiry t input s
  | .pairDiscrepancy t pair => Sys2Proof.Machine.execPairDiscrepancy t pair s
  | .soutTestPulse t output ch => Sys2Proof.Machine.execSoutTestPulse t output ch s
  | .soutReadback t levels => Sys2Proof.Machine.execSoutReadback t levels s
  | .bridleFrameReceive t slot off bytes => Sys2Proof.Machine.execBridleFrameReceive t slot off bytes s
  | .sourceExpectationExpiry t entry => Sys2Proof.Machine.execSourceExpectationExpiry t entry s
  | .laneEnable t lane => Sys2Proof.Machine.execLaneEnable t lane s
  | .beaconSeen t lane peerLane => Sys2Proof.Machine.execBeaconSeen t lane peerLane s
  | .trainingDone t lane => Sys2Proof.Machine.execTrainingDone t lane s
  | .alignSlip t lane => Sys2Proof.Machine.execAlignSlip t lane s
  | .alignmentDone t lane aligned => Sys2Proof.Machine.execAlignmentDone t lane aligned s
  | .adaptationFreeze t lane frozen => Sys2Proof.Machine.execAdaptationFreeze t lane frozen s
  | .laneDetach t lane => Sys2Proof.Machine.execLaneDetach t lane s
  | .hello t lane wire => Sys2Proof.Machine.execHello t lane wire s
  | .cert t lane wire => Sys2Proof.Machine.execCert t lane wire s
  | .certVerified t lane => Sys2Proof.Machine.execCertVerified t lane s
  | .kemCt t lane wire => Sys2Proof.Machine.execKemCt t lane wire s
  | .finish t lane wire => Sys2Proof.Machine.execFinish t lane wire s
  | .team t lane even odd => Sys2Proof.Machine.execTeam t lane even odd s
  | .joinReq t lane even odd => Sys2Proof.Machine.execJoinReq t lane even odd s
  | .slot t lane even odd => Sys2Proof.Machine.execSlot t lane even odd s
  | .epoch t lane even odd => Sys2Proof.Machine.execEpoch t lane even odd s
  | .phaseReq t lane even odd => Sys2Proof.Machine.execPhaseReq t lane even odd s
  | .leaveMessage t lane wire => Sys2Proof.Machine.execLeaveMessage t lane wire s
  | .bridleMessage t lane wire => Sys2Proof.Machine.execBridleMessage t lane wire s
  | .hitchRetryTimeout t lane kind => Sys2Proof.Machine.execHitchRetryTimeout t lane kind s
  | .handshakeRetry t lane => Sys2Proof.Machine.execHandshakeRetry t lane s
  | .timeExchangeStart t stamp => Sys2Proof.Machine.execTimeExchangeStart t stamp s
  | .tsyncReceive t lane id rxStamp txStamp => Sys2Proof.Machine.execTsyncReceive t lane id rxStamp txStamp s
  | .timeRsp t lane wire stamp => Sys2Proof.Machine.execTimeRsp t lane wire stamp s
  | .timeExchangeMiss t => Sys2Proof.Machine.execTimeExchangeMiss t s
  | .slotHoldExpiry t slot => Sys2Proof.Machine.execSlotHoldExpiry t slot s
  | .eyeScanDone t errors => Sys2Proof.Machine.execEyeScanDone t errors s
  | .tableWalkComplete t chan l1 l2 => Sys2Proof.Machine.execTableWalkComplete t chan l1 l2 s
  | .stuInvalidationDone t => Sys2Proof.Machine.execStuInvalidationDone t s
  | .retrainDone t rate x8 => Sys2Proof.Machine.execRetrainDone t rate x8 s
  | .linkUp t rate x8 => Sys2Proof.Machine.execLinkUp t rate x8 s
  | .busMasterEnable t function on => Sys2Proof.Machine.execBusMasterEnable t function on s
  | .lowHalfRead t key half => Sys2Proof.Machine.execLowHalfRead t key half s
  | .resultHeaderRead t slot half => Sys2Proof.Machine.execResultHeaderRead t slot half s
  | .recDataRead t half => Sys2Proof.Machine.execRecDataRead t half s
  | .bar0ParamWrite t key half value coinc => Sys2Proof.Machine.execBar0ParamWrite t key half value coinc s
  | .sqDoorbell t value size => Sys2Proof.Machine.execSqDoorbell t value size s
  | .cqDoorbell t value size => Sys2Proof.Machine.execCqDoorbell t value size s
  | .mbGo t value request => Sys2Proof.Machine.execMbGo t value request s
  | .nop t path => Sys2Proof.Machine.execNop t path s
  | .identify t path => Sys2Proof.Machine.execIdentify t path s
  | .profileApply t path coinc => Sys2Proof.Machine.execProfileApply t path coinc s
  | .ringsInit t path => Sys2Proof.Machine.execRingsInit t path s
  | .setGait t path => Sys2Proof.Machine.execSetGait t path s
  | .setField t path => Sys2Proof.Machine.execSetField t path s
  | .histDump t path => Sys2Proof.Machine.execHistDump t path s
  | .streamMode t path => Sys2Proof.Machine.execStreamMode t path s
  | .recorder t path => Sys2Proof.Machine.execRecorder t path s
  | .emittersOn t path => Sys2Proof.Machine.execEmittersOn t path s
  | .emittersOff t path => Sys2Proof.Machine.execEmittersOff t path s
  | .mirror t path => Sys2Proof.Machine.execMirror t path s
  | .calibrate t path => Sys2Proof.Machine.execCalibrate t path s
  | .paddockDefine t path => Sys2Proof.Machine.execPaddockDefine t path s
  | .paddockEnable t path => Sys2Proof.Machine.execPaddockEnable t path s
  | .safeReset t path => Sys2Proof.Machine.execSafeReset t path s
  | .teamLeave t path => Sys2Proof.Machine.execTeamLeave t path s
  | .paramRead t path => Sys2Proof.Machine.execParamRead t path s
  | .paramWrite t path coinc => Sys2Proof.Machine.execParamWrite t path coinc s
  | .faultLogRead t path => Sys2Proof.Machine.execFaultLogRead t path s
  | .evothMsgRead t path => Sys2Proof.Machine.execEvothMsgRead t path s
  | .commandFetch t bytes => Sys2Proof.Machine.execCommandFetch t bytes s
  | .replyWrite t => Sys2Proof.Machine.execReplyWrite t s
  | .noticeWrite t => Sys2Proof.Machine.execNoticeWrite t s
  | .attestStart t path => Sys2Proof.Machine.execAttestStart t path s
  | .attestReadReport t path => Sys2Proof.Machine.execAttestReadReport t path s
  | .attestReadRecord t path => Sys2Proof.Machine.execAttestReadRecord t path s
  | .attestReportReady t => Sys2Proof.Machine.execAttestReportReady t s
  | .tackCommit t path => Sys2Proof.Machine.execTackCommit t path s
  | .fwData t path => Sys2Proof.Machine.execFwData t path s
  | .evothLoad t path => Sys2Proof.Machine.execEvothLoad t path s
  | .keyEnroll t path => Sys2Proof.Machine.execKeyEnroll t path s
  | .keyRetire t path => Sys2Proof.Machine.execKeyRetire t path s
  | .powerOnReset => Sys2Proof.Machine.execPowerOnReset s
  | .porRelease gates => Sys2Proof.Machine.execPorRelease gates s
  | .controlWatchdog t => Sys2Proof.Machine.execControlWatchdog t s
  | .functionReset t function => Sys2Proof.Machine.execFunctionReset t function s
  | .linkReset t => Sys2Proof.Machine.execLinkReset t s
  | .thermalTick t => Sys2Proof.Machine.execThermalTick t s
  | .orderlyStop t => Sys2Proof.Machine.execOrderlyStop t s
  | .pfdShadowLoad t => Sys2Proof.Machine.execPfdShadowLoad t s
  | .domainSwitchOff t => Sys2Proof.Machine.execDomainSwitchOff t s
  | .powerTransitionDone t => Sys2Proof.Machine.execPowerTransitionDone t s
  | .refLost t => Sys2Proof.Machine.execRefLost t s
  | .refPresent t => Sys2Proof.Machine.execRefPresent t s
  | .pllLocked t => Sys2Proof.Machine.execPllLocked t s
  | .dclTransferStart t => Sys2Proof.Machine.execDclTransferStart t s
  | .dclTransferDone t response => Sys2Proof.Machine.execDclTransferDone t response s
  | .frameBoundary => Sys2Proof.Machine.execFrameBoundary s
  | .gaitReq h => Sys2Proof.Machine.execGaitReq h s
  | .fieldWrite h => Sys2Proof.Machine.execFieldWrite h s
  | .phaseRequest h => Sys2Proof.Machine.execPhaseRequest h s
  | .cntSel h => Sys2Proof.Machine.execCntSel h s
  | .statStart h => Sys2Proof.Machine.execStatStart h s
  | .calSel h => Sys2Proof.Machine.execCalSel h s
  | .spareSubstitute h => Sys2Proof.Machine.execSpareSubstitute h s
  | .spareRelease h => Sys2Proof.Machine.execSpareRelease h s
  | .dumpReq h => Sys2Proof.Machine.execDumpReq h s
  | .freezeSel h => Sys2Proof.Machine.execFreezeSel h s
  | .tplCommit h => Sys2Proof.Machine.execTplCommit h s
  | .tplSwap h => Sys2Proof.Machine.execTplSwap h s
  | .bgSel h => Sys2Proof.Machine.execBgSel h s
  | .evothRestart h => Sys2Proof.Machine.execEvothRestart h s
  | .keyReq h => Sys2Proof.Machine.execKeyReq h s
  | .ringEnable ring h => Sys2Proof.Machine.execRingEnable ring h s
  | .ringRdWrite ring h => Sys2Proof.Machine.execRingRdWrite ring h s
  | .envCommit h => Sys2Proof.Machine.execEnvCommit h s
  | .maskRelease h => Sys2Proof.Machine.execMaskRelease h s
  | .maskSel h => Sys2Proof.Machine.execMaskSel h s
  | .recEn h => Sys2Proof.Machine.execRecEn h s
  | .recStop h => Sys2Proof.Machine.execRecStop h s
  | .recSwTrig h => Sys2Proof.Machine.execRecSwTrig h s
  | .emitCtrlWrite h => Sys2Proof.Machine.execEmitCtrlWrite h s
  | .chgSetWrite charger h => Sys2Proof.Machine.execChgSetWrite charger h s
  | .chgClear h => Sys2Proof.Machine.execChgClear h s
  | .expCfgWrite h => Sys2Proof.Machine.execExpCfgWrite h s
  | .expBudgetWrite bank h => Sys2Proof.Machine.execExpBudgetWrite bank h s
  | .expSel h => Sys2Proof.Machine.execExpSel h s
  | .mirrorRun h => Sys2Proof.Machine.execMirrorRun h s
  | .mirrorDrvEn h => Sys2Proof.Machine.execMirrorDrvEn h s
  | .mirrorRestart h => Sys2Proof.Machine.execMirrorRestart h s
  | .rcClear h => Sys2Proof.Machine.execRcClear h s
  | .convCfgWrite conv h => Sys2Proof.Machine.execConvCfgWrite conv h s
  | .converterSync h => Sys2Proof.Machine.execConverterSync h s
  | .impClear h => Sys2Proof.Machine.execImpClear h s
  | .linCommit h => Sys2Proof.Machine.execLinCommit h s
  | .accCfgWrite acc h => Sys2Proof.Machine.execAccCfgWrite acc h s
  | .accSel h => Sys2Proof.Machine.execAccSel h s
  | .runReq h => Sys2Proof.Machine.execRunReq h s
  | .pdCommit h => Sys2Proof.Machine.execPdCommit h s
  | .paddockEnWrite paddock h => Sys2Proof.Machine.execPaddockEnWrite paddock h s
  | .safeResetBit h => Sys2Proof.Machine.execSafeResetBit h s
  | .brSrcWrite entry h => Sys2Proof.Machine.execBrSrcWrite entry h s
  | .hitchSlip h => Sys2Proof.Machine.execHitchSlip h s
  | .leave h => Sys2Proof.Machine.execLeave h s
  | .eyeScanStart h => Sys2Proof.Machine.execEyeScanStart h s
  | .retrain h => Sys2Proof.Machine.execRetrain h s
  | .stuInv h => Sys2Proof.Machine.execStuInv h s
  | .dmaResume h => Sys2Proof.Machine.execDmaResume h s
  | .dmaAbort h => Sys2Proof.Machine.execDmaAbort h s
  | .confirm h => Sys2Proof.Machine.execConfirm h s
  | .pfdModeWrite h => Sys2Proof.Machine.execPfdModeWrite h s
  | .powerStateRequest h => Sys2Proof.Machine.execPowerStateRequest h s
  | .resume h => Sys2Proof.Machine.execResume h s
  | .ctrlRestart h => Sys2Proof.Machine.execCtrlRestart h s
  | .flagSel h => Sys2Proof.Machine.execFlagSel h s
  | .dclXfer h => Sys2Proof.Machine.execDclXfer h s

end Sys2Proof.Machine
end

