-- ==== Sys2Proof/Safety.lean ====
section
/-! DEFINITION. What the statements speak of: a device that is out of power-on reset, a device at reset, the canonical form
of the histogram memory, a core that runs a job. -/
namespace Sys2Proof.Machine

/-- Power-on reset is not asserted: the device takes every command. -/
abbrev State.Awake (s : State) : Prop := s.ctl.por = false

/-- The device after power-on reset but for what power-on reset keeps: the factory identity, the non-volatile memory, and
the model's own books (the free values drawn, the commands waiting, what has left the device). -/
def State.atReset (s : State) : State :=
  { State.reset with ident := s.ident, nv := s.nv, fresh := s.fresh, pending := s.pending, out := s.out }

/-- While power-on reset is asserted nothing has left its reset value (R469, R470). -/
abbrev State.HeldInReset (s : State) : Prop := s.ctl.por = true → s = s.atReset

/-- The histogram memory in its canonical form: words and row marks by rising address, none equal to what an unlisted one
reads as. -/
abbrev State.HistWf (s : State) : Prop := Map.wf 0 s.hist.words = true ∧ Map.wf false s.hist.rows = true

/-- The context of the job that a core runs: the COLUMN job's or the BACKGROUND job's (R143). -/
def State.coreCtx (s : State) (q : Nat) : EvothRegs := if s.level q = 1 then (s.core q).col else (s.core q).bg

/-- Core `q` runs a job of either level, with no repeat (R142) and no change of mode (R139) ahead of its next instruction. -/
abbrev State.CoreRuns (s : State) (q : Nat) : Prop :=
  q < 16 ∧ (s.level q = 1 ∨ s.level q = 2) ∧ (s.coreCtx q).lc = 0 ∧ (s.coreCtx q).nextMode = none

/-- The entry that a host write of a parameter is: a BAR0 write leaves out RO, RSN and reserved bits (R384), a Salsol write
has its MASK (R418). -/
def entryOf (key : Nat) (h : HostWrite) : Entry :=
  ⟨key, match h.origin with
    | .bar0 half => halfBits half &&& writableMask key
    | .salsol mask _ => mask, h.value⟩

/-- Is a host write tagged (R411)? A BAR0 write never is. -/
def authOf (h : HostWrite) : Bool :=
  match h.origin with
  | .bar0 _ => false
  | .salsol _ auth => auth

/-- The device takes host writes: out of power-on reset, the link moving TLPs, no recovery, no control restart. -/
abbrev State.HostOpen (s : State) : Prop :=
  s.Awake ∧ s.linkUp = true ∧ s.inRecovery = false ∧ s.ctl.restart = none ∧ s.ctl.asked = none

/-- A host write at `t` does not fall in the instant of a frame boundary that is about to be crossed: one in that instant acts
after the boundary (R32). -/
abbrev State.OffBoundary (s : State) (t : Nat) : Prop := ¬ (s.boundaryTime = (s.at_ t).now ∧ s.frameDrained = true)

/-- A host write of a parameter passes the checks of R411: the parameter exists and has writable bits, and neither its
protection, its field map nor a rule refuses it. -/
abbrev State.Accepts (s : State) (key : Nat) (h : HostWrite) : Prop :=
  s.HostOpen ∧ s.OffBoundary h.t ∧ writableMask key ≠ 0 ∧ (s.at_ h.t).entriesFail (authOf h) [entryOf key h] = none

/-- A host write covers a field whole and brings it a value. -/
abbrev brings (h : HostWrite) (f : FieldRef) (v : Nat) : Prop :=
  wordFld (writeMask h) f = 2 ^ f.width - 1 ∧ wordFld h.value f = v

/-- The word an accepted host write leaves in its parameter: the RW bits it stores replaced (R384, R418, Table 3.24). -/
def State.mergedWord (s : State) (key : Nat) (h : HostWrite) : Word :=
  (s.reg key &&& ~~~ (entryOf key h).stores) ||| (h.value &&& (entryOf key h).stores)

/-- The packet `raw` is taken from its path and shown in execution (R409, R424). -/
def State.taken (s : State) (t : Nat) (path : Path) (raw : List Byte) : State :=
  ((s.at_ t).takePacket path).showRun (some (path, (readCommand path raw).opcode, (readCommand path raw).tag))

/-- The packet `raw` is the next to execute on a path, it is a command with opcode `op`, and `v` is the state with which it
has passed checks 1 to 6 of R411: the packet taken and shown, the counter of its key used up. -/
abbrev State.Executes (s : State) (t : Nat) (path : Path) (raw : List Byte) (op : Nat) (v : State) : Prop :=
  s.Awake ∧ s.ctl.asked = none ∧ s.OffBoundary t ∧ s.nextPacket path = some raw ∧ (readCommand path raw).opcode = op ∧
    (s.taken t path raw).checkHead (readCommand path raw) raw = (none, v)

/-- A tagged command carries a well-formed piece of an image (R420, check 7). -/
abbrev Command.Carries (c : Command) (p : Piece) : Prop :=
  c.auth = true ∧ 16 ≤ c.body.length ∧ natAt c.body 8 4 ≠ 0 ∧ 48 + natAt c.body 8 4 ≤ c.len ∧
    allZero (bytesAt c.body 12 4) = true ∧ c.body.length = 16 + up8 (natAt c.body 8 4) ∧
    allZero (c.body.drop (16 + natAt c.body 8 4)) = true ∧
    p = ⟨natAt c.body 0 4, natAt c.body 4 4, bytesAt c.body 16 (natAt c.body 8 4)⟩

/-- Every parameter but those listed reads the same in two states. -/
def State.SameRegs (u s : State) (keys : List Nat) : Prop := ∀ k, k ∉ keys → u.reg k = s.reg k

end Sys2Proof.Machine
end

