-- ==== Sys2Proof/Certificates/Slice0/Obligations.lean ====
section
/-! DEFINITION. The statements for the provers: what each command does to the device, by the rules of spec/, and what every step
keeps. -/
open Sys2Proof Sys2Proof.Machine

/-- A step runs the command at the front of the queue on the state with the queue's rest; on an empty queue the block idles (the
model's queue, notes/assumptions 1). -/
def Obligations.StepRunsFront : Prop :=
  (∀ (c : Instr) (l : List Instr) (s : State), s.pending = c :: l → step s = exec c { s with pending := l }) ∧
  (∀ s : State, s.pending = [] → step s = .next s)

/-- No command ends in a fault or a refusal, in any state: whatever the environment sends, the device has a next state. The
model's choices: a happening that is not due leaves the state (notes/assumptions 5), and what R425 to R445 and the other
rules leave undefined runs with free values, so nothing stops (notes/assumptions 7). -/
def Obligations.EveryCommandAnswers : Prop :=
  (∀ (i : Instr) (s : State), ∃ t, exec i s = .next t) ∧ (∀ s : State, ∃ t, step s = .next t)

/-- Every step consumes exactly the command at the front of the queue (the queue is the model's choice, notes/assumptions 1),
and none changes the factory identity. -/
def Obligations.StepConsumesOne : Prop :=
  ∀ s t : State, step s = .next t → t.pending = s.pending.tail ∧ t.ident = s.ident

/-- Power-on reset (R469, R490): POWER_ON_RESET takes every register, buffer and mode to its reset value, and the output pins
with it (R492); only the factory identity, the non-volatile memory and the model's own books stay. A Tack image whose write
began less than 300 ms before may be left torn, to be defaulted with CAUSE 2 or 3 (R443, R490). POR_RELEASE ends it (R470).
The reset values of what no parameter shows are the model's (notes/assumptions 2), and so is that the start is one step
(notes/assumptions 6). While power-on reset is asserted no command but its own pair has any effect (the model's choice,
notes/assumptions 6). The device starts in power-on reset, at its reset values, with nothing waiting. Completion, under
conditions on the state and the operands alone: POWER_ON_RESET, POR_RELEASE. -/
def Obligations.PowerOnReset : Prop :=
  (∀ s : State, ∃ u drive, exec .powerOnReset s = .next u ∧ u = u.atReset ∧ u.ident = s.ident ∧ u.pending = s.pending ∧
    u.out = .allPins drive :: s.out ∧ u.nv = { s.nv with tackWrite := none, tackTorn := u.nv.tackTorn } ∧
    (u.nv.tackTorn ≠ s.nv.tackTorn → ∃ w x, s.nv.tackWrite = some w ∧ s.now < w + 300000000 ∧ u.nv.tackTorn = some x ∧
      (x.1 = 2 ∨ x.1 = 3))) ∧
  (∀ (s : State) (g : Nat), s.ctl.por = true → ∃ u, exec (.porRelease g) s = .next u ∧ u.Awake ∧ u.ident = s.ident ∧
    u.pending = s.pending) ∧
  (∀ (s : State) (g : Nat), s.Awake → exec (.porRelease g) s = .next s) ∧
  (∀ (i : Instr) (s : State), s.ctl.por = true → i ≠ .powerOnReset → (∀ g, i ≠ .porRelease g) → exec i s = .next s) ∧
  (State.reset.HeldInReset ∧ State.reset.ctl.por = true ∧ State.reset.pending = [] ∧ State.reset.HistWf)

/-- Every step keeps this: as long as power-on reset is asserted, the device stands at its reset values (R469, R470). The reset
values of what no parameter shows (notes/assumptions 2) and that nothing acts while reset is asserted (notes/assumptions 6)
are the model's choices. -/
def Obligations.ResetInvariant : Prop :=
  ∀ s t : State, s.HeldInReset → step s = .next t → t.HeldInReset

/-- FRAME_BOUNDARY acts once the frame's columns are released and the interval engine's queue is empty. With no time step due it
falls at the sweep's end plus 250 µs (R32); the frame number goes up by one (R35), W and every other parameter that takes
effect at a boundary as a whole word come into force as the registers hold them (R32, R37), a pending gait does unless the
device waits for its lead (R40, R44), return paths have 8 credits again (R70), and the coming frame fires only in RUN, in
TRACK, with a code epoch in force, with no restart, no orderly stop and no thermal cause, and after the start-up run has
installed (R509). With a frame that is not drained it has no effect, and where a write of the boundary's own instant has
crossed it already only that mark ends (the model's choices, notes/assumptions 9 and 38). A host write in the boundary's own
instant acts after the boundary (R32): a write of W there leaves the boundary the value that W had before, and the
boundary's own command that follows only finds it crossed (how the model holds this coincidence is its choice,
notes/assumptions 38). Completion, under conditions on the state and the operands alone: FRAME_BOUNDARY, FIELD_WRITE. -/
def Obligations.FrameBoundary : Prop :=
  (∀ s : State, s.Awake → s.frameDrained = true → s.scan.crossed ≠ some s.now → ∃ u, exec .frameBoundary s = .next u ∧
    (s.hitch.xfer.due = none → u.now = (s.at_ (sweepEnd s.gait s.phi s.scan.k + 250000)).now) ∧
    u.frameNo = wrapAdd 32 s.frameNo 1 ∧ u.fld P.FRAME.FRAME_NO = u.frameNo ∧ u.fieldW = s.fld P.FIELD.W ∧
    (∀ k ∈ boundaryForce, planeGet u.force k = s.reg k) ∧
    u.gait = (if s.bit P.GAIT.PENDING = true ∧ s.bit P.GAIT.TEAM_WAIT = false then s.fld P.GAIT.GAIT_NEXT else s.gait) ∧
    u.scan.seq = 0 ∧ u.scan.columns = s.scan.columns ∧
    (Map.wf {} s.stamp.chans = true → ∀ c, (u.ch c).credits = 8) ∧
    (u.scan.fired = true → s.fld P.PWR_STATUS.STATE = 0 ∧ u.mirSt = 3 ∧ s.ctl.restart = none ∧ s.power.stop = none ∧
      s.thermalPresent = false ∧ u.bit P.CAL_STATUS.STARTUP_DONE = true ∧ u.epochInForce = true) ∧
    u.host.tlb = s.host.tlb ∧ u.salsol = s.salsol ∧ u.attest = s.attest ∧ u.nv = s.nv) ∧
  (∀ s : State, s.Awake → s.frameDrained = false → s.scan.crossed ≠ some s.now → exec .frameBoundary s = .next s) ∧
  (∀ (s : State) (h : HostWrite) (w : Nat), s.HostOpen → s.boundaryTime = (s.at_ h.t).now → s.frameDrained = true →
    ((s.boundaryFirst h.t).at_ h.t).entriesFail (authOf h) [entryOf K.FIELD h] = none → brings h P.FIELD.W w →
    ∃ u, exec (.fieldWrite h) s = .next u ∧ u.fieldW = s.fld P.FIELD.W ∧ u.fld P.FIELD.W = w) ∧
  (∀ s : State, s.Awake → s.scan.crossed = some s.now →
    exec .frameBoundary s = .next { s with scan := { s.scan with crossed := none } })

/-- R37: an accepted write of W leaves the field of view in force as it is until the next frame boundary, which brings the
written value into force; a write outside 30,000 to 120,000 m° is refused, and W is unchanged. Completion, under conditions
on the state and the operands alone: FIELD_WRITE, FRAME_BOUNDARY. -/
def Obligations.FieldOfView : Prop :=
  (∀ (s : State) (h : HostWrite) (w : Nat), s.Accepts K.FIELD h → brings h P.FIELD.W w → ∃ u,
    exec (.fieldWrite h) s = .next u ∧ u.fld P.FIELD.W = w ∧ u.fieldW = s.fieldW ∧ 30000 ≤ w ∧ w ≤ 120000 ∧
    u.SameRegs s [K.FIELD] ∧ { u with regs := s.regs } = s.at_ h.t) ∧
  (∀ s : State, s.Awake → s.frameDrained = true → s.scan.crossed ≠ some s.now → ∃ u, exec .frameBoundary s = .next u ∧
    u.fieldW = s.fld P.FIELD.W) ∧
  (∀ (s : State) (h : HostWrite) (w : Nat), s.HostOpen → s.OffBoundary h.t → brings h P.FIELD.W w → (w < 30000 ∨ 120000 < w) → ∃ u,
    exec (.fieldWrite h) s = .next u ∧ u.fld P.FIELD.W = s.fld P.FIELD.W ∧ u.fieldW = s.fieldW)

/-- The clock of the scan: SYNC_IN_EDGE keeps the latest edge (R46), CODE_KEY_DERIVED gives the pending epoch its key (R52),
EPOCH_PERIOD_EXPIRY draws the next epoch, whose first frame is the second sweep after the draw, and sends it to the device's
children (R57, R375). Everything not named is unchanged. The grid on which the second sweep is counted is the model's choice
(notes/assumptions 40). Accepted host writes that ask for a change of scanning: GAIT_REQ pends a gait or withdraws the
pending one, with the gait in force unchanged (R40); a write of PHASE asks for a phase, and PHASE goes on showing the one in
use (R45); STAT_START begins a run afresh (R79); a Farrier spare is asked for or given back (R83). Completion, under
conditions on the state and the operands alone: SYNC_IN_EDGE, CODE_KEY_DERIVED, EPOCH_PERIOD_EXPIRY, GAIT_REQ,
PHASE_REQUEST, STAT_START, SPARE_SUBSTITUTE, SPARE_RELEASE. -/
def Obligations.ScanClock : Prop :=
  (∀ (s : State) (t : Nat), s.Awake → exec (.syncInEdge t) s =
    .next { s.at_ t with scan := { s.scan with syncEdge := some t } }) ∧
  (∀ (s : State) (t : Nat) (p : CodeEpoch), s.Awake → s.scan.epochPend = some p → exec (.codeKeyDerived t) s =
    .next { s.at_ t with scan := { s.scan with
      epochPend := some { p with key := some ((hmacSha256 p.secret (codeKeyMessage s.devId p.e)).take 16) } } }) ∧
  (∀ (s : State) (t x : Nat), s.Awake → s.scan.expiry = some x → x ≤ t → s.fld P.TEAM_STATUS.ROLE ≠ 2 →
    s.epochInForce = true → ∃ (u : State) (p : CodeEpoch), exec (.epochPeriodExpiry t) s = .next u.sendEpoch ∧
      u.scan.epochPend = some p ∧ p.e = (if s.epochTop = 2 ^ 32 - 1 then 1 else s.epochTop + 1) ∧ p.key = none ∧
      p.secret.length = 32 ∧ p.tE = sweepStart s.gait s.phi (firstSweepFrom s.gait s.phi ((s.at_ t).now + 1) + 1) ∧
      u.scan.expiry = none ∧ u.fld P.CODE_EPOCH.E_PENDING = p.e % 2 ^ 32 ∧
      (∀ k, k ≠ K.CODE_EPOCH → u.reg k = s.reg k) ∧
      { u with regs := s.regs, scan := s.scan } = { s.at_ t with fresh := s.fresh + 1 }) ∧
  (∀ (s : State) (h : HostWrite) (g : Nat), s.Accepts K.GAIT h → brings h P.GAIT.GAIT_REQ g → ∃ u,
    exec (.gaitReq h) s = .next u ∧ u.fld P.GAIT.GAIT_REQ = g ∧ u.fld P.GAIT.GAIT_NEXT = g ∧ u.gait = s.gait ∧
    u.fld P.GAIT.PENDING = (if g = s.gait then 0 else 1) ∧
    u.fld P.GAIT.TEAM_WAIT = (if g ≠ s.gait ∧ s.fld P.TEAM_STATUS.ROLE = 2 then 1 else 0) ∧
    (s.fld P.TEAM_STATUS.ROLE ≠ 2 → u.SameRegs s [K.GAIT] ∧ { u with regs := s.regs } = s.at_ h.t)) ∧
  (∀ (s : State) (h : HostWrite) (p : Nat), s.Accepts K.FRAME_SYNC h → brings h P.FRAME_SYNC.PHASE p → ∃ u,
    exec (.phaseRequest h) s = .next u ∧ u.scan = { s.scan with phaseReq := some p } ∧ u.phi = s.phi ∧
    u.SameRegs s [K.FRAME_SYNC] ∧ { u with regs := s.regs, scan := s.scan } = s.at_ h.t) ∧
  (∀ (s : State) (h : HostWrite), s.Accepts K.STAT_CTRL h → brings h P.STAT_CTRL.START 1 → ∃ u,
    exec (.statStart h) s = .next u ∧ u.reg K.STAT_CTRL = s.mergedWord K.STAT_CTRL h ∧
    u.stamp = { s.stamp with stat := { s.stamp.stat with
      running := true, again := false, src := u.fld P.STAT_CTRL.SRC, nm1 := u.fld P.STAT_CTRL.N_M1, count := 0, s1 := 0, s2 := 0,
      prev := none } } ∧ u.fld P.STAT_HDR.STATE = (if s.fld P.STAT_HDR.STATE = 2 then 0 else s.fld P.STAT_HDR.STATE) ∧
    u.SameRegs s [K.STAT_CTRL, K.STAT_HDR] ∧ { u with regs := s.regs, stamp := s.stamp } = s.at_ h.t) ∧
  (∀ (s : State) (h : HostWrite) (n i : Nat), s.Accepts K.SPARE_FORCE h → brings h P.SPARE_FORCE.ACTION 1 →
    brings h P.SPARE_FORCE.UNIT n → brings h P.SPARE_FORCE.CHANNEL i → ∃ u,
    exec (.spareSubstitute h) s = .next u ∧ u.spare n = { s.spare n with hostReq := some (.substitute (8 * n + i)) } ∧
    (∀ m, m ≠ n → u.spare m = s.spare m) ∧ { u with regs := s.regs, stamp := s.stamp, flagCnt := s.flagCnt } = s.at_ h.t ∧
    u.stamp.chans = s.stamp.chans ∧ u.SameRegs s [K.SPARE_FORCE]) ∧
  (∀ (s : State) (h : HostWrite) (n i : Nat), s.Accepts K.SPARE_FORCE h → brings h P.SPARE_FORCE.ACTION 2 →
    brings h P.SPARE_FORCE.UNIT n → brings h P.SPARE_FORCE.CHANNEL i → ∃ u,
    exec (.spareRelease h) s = .next u ∧ u.spare n = { s.spare n with hostReq := some (.release (8 * n + i)) } ∧
    (∀ m, m ≠ n → u.spare m = s.spare m) ∧ { u with regs := s.regs, stamp := s.stamp, flagCnt := s.flagCnt } = s.at_ h.t ∧
    u.stamp.chans = s.stamp.chans ∧ u.SameRegs s [K.SPARE_FORCE])

/-- A column's epoch is its trigger (R18): COLUMN_TRIGGER opens the frame's next column at the trigger's time,
COLUMN_SKIP_TIMEOUT opens it, skipped, at t_k + (s + 2) × T (R246). The frame's first column starts the fill of its parity's
buffers and sends SYNC_OUT (R47, R98). Beside this, the time of the last trigger or skip and the counters of columns and
exposure, the device stays whole: the other columns, every register and every unit. Completion, under conditions on the
state and the operands alone: COLUMN_TRIGGER, COLUMN_SKIP_TIMEOUT. -/
def Obligations.ColumnOpens : Prop :=
  (∀ (s : State) (t : Nat), s.Awake → s.trigTime = some t → s.scan.fired = true → s.scan.seq < gaitC s.gait →
    t ≤ s.tk + (s.scan.seq + 2) * gaitT s.gait → s.stopBegun = false → ∃ u, exec .columnTrigger s = .next u ∧
      u.scan.seq = s.scan.seq + 1 ∧ u.mirror = { s.mirror with lastTrig := some t } ∧
      (∃ c ∈ u.scan.columns, c.epoch = t ∧ c.seq = s.scan.seq ∧ c.frame = s.frameNo ∧ c.gait = s.gait ∧ c.pulses = [] ∧
        c.index = (if s.scan.k % 2 = 1 then gaitC s.gait - 1 - s.scan.seq else s.scan.seq)) ∧
      u.scan.columns.filter (fun x => decide (x.frame ≠ s.frameNo ∨ x.seq ≠ s.scan.seq)) =
        s.scan.columns.filter (fun x => decide (x.frame ≠ s.frameNo ∨ x.seq ≠ s.scan.seq)) ∧
      { u.scan with columns := s.scan.columns, seq := s.scan.seq } = s.scan ∧
      u.hist = (if s.scan.seq = 0 then (s.fillAll t { frame := s.frameNo, seq := 0 }).hist else s.hist) ∧
      u.out = (if s.scan.seq = 0 then .syncOut t (if s.scan.k % 2 = 1 then 2000 else 1000) :: s.out else s.out) ∧
      (∀ k, k ≠ K.EXP_COUNTS → k ≠ K.COLUMN_COUNTS → planeGet u.live k = planeGet s.live k) ∧
      { u with scan := s.scan, mirror := s.mirror, hist := s.hist, live := s.live, out := s.out } = s.at_ t) ∧
  (∀ s : State, s.Awake → s.scan.fired = true → s.scan.seq < gaitC s.gait →
    (∀ x, s.trigTime = some x → s.tk + (s.scan.seq + 2) * gaitT s.gait < x) → s.stopBegun = false →
    ∃ u, exec .columnSkipTimeout s = .next u ∧ u.scan.seq = s.scan.seq + 1 ∧
      u.mirror = { s.mirror with lastSkip := some (s.tk + (s.scan.seq + 2) * gaitT s.gait) } ∧
      (∃ c ∈ u.scan.columns, c.epoch = s.tk + (s.scan.seq + 2) * gaitT s.gait ∧ c.seq = s.scan.seq ∧ c.frame = s.frameNo ∧
        c.skipped = true) ∧
      u.scan.columns.filter (fun x => decide (x.frame ≠ s.frameNo ∨ x.seq ≠ s.scan.seq)) =
        s.scan.columns.filter (fun x => decide (x.frame ≠ s.frameNo ∨ x.seq ≠ s.scan.seq)) ∧
      { u.scan with columns := s.scan.columns, seq := s.scan.seq } = s.scan ∧
      u.hist = (if s.scan.seq = 0 then
        (s.fillAll (s.tk + (s.scan.seq + 2) * gaitT s.gait) { frame := s.frameNo, seq := 0 }).hist else s.hist) ∧
      u.out = (if s.scan.seq = 0 then
        .syncOut (s.tk + (s.scan.seq + 2) * gaitT s.gait) (if s.scan.k % 2 = 1 then 2000 else 1000) :: s.out else s.out) ∧
      (∀ k, k ≠ K.EXP_COUNTS → k ≠ K.COLUMN_COUNTS → k ≠ K.MIR_COUNTS → planeGet u.live k = planeGet s.live k) ∧
      u.liveFld P.MIR_COUNTS.MISSED_COLS = wrapAdd P.MIR_COUNTS.MISSED_COLS.width (s.liveFld P.MIR_COUNTS.MISSED_COLS) 1 ∧
      { u with scan := s.scan, mirror := s.mirror, hist := s.hist, live := s.live, out := s.out } =
        s.at_ (s.tk + (s.scan.seq + 2) * gaitT s.gait))

/-- FIRE_COMMAND: pulse p of bank b fires at the base plus p × T / N plus its code offset plus the bank's stagger, and the fire
command leaves the device with its width, its weight entering the bank's window (R19, R206, R218); where the emitter gate is
closed or the column's reserve has failed, nothing leaves and the pulse is recorded inhibited (R208, R219), and where its
weight would exceed the bank's budget it is counted in INHIBIT_PULSES too (R219). ARMING_DECISION is made once per pulse and
bank, from the gates at the emission (R76, R77); MON_WIN_EXPIRY gives a pulse without a monitor event the fire command's
time plus the bank's fire-to-emission delay as its emission, marks it, and degrades the bank's 24 rows (R21, R74).
Completion, under conditions on the state and the operands alone: FIRE_COMMAND, ARMING_DECISION, MON_WIN_EXPIRY. -/
def Obligations.Firing : Prop :=
  (∀ (s : State) (b p f : Nat) (c : Column) (base : Nat), s.Awake → s.openCol = some c → c.base = some base → b < 16 →
    p < gaitN c.gait → c.skipped = false → c.pulse b p = {} → s.gateOpen b = true → bitOf c.inhibited b = false →
    f = base + p * gaitT c.gait / gaitN c.gait + c.offsets.getD p 0 + s.forceFld (P.STAGGER.STG.sub b 4) →
    s.acc b + s.chgCode (b / 4) * s.chgCode (b / 4) ≤ s.fld (P.EXP_BUDGET.BUDGET.idx b) →
    ∃ u, exec (.fireCommand b p) s = .next u ∧
      u.out = .fire b f (s.fld P.EMIT_CTRL.FIRE_W) :: s.out ∧
      u.scan.columns = s.scan.columns.map (fun x => if x.frame = c.frame ∧ x.seq = c.seq then
        x.setPulse b p { fire := some f } else x) ∧
      u.acc b = s.acc b + s.chgCode (b / 4) * s.chgCode (b / 4) ∧ (∀ x, x ≠ b → u.acc x = s.acc x) ∧
      { u.emit_ with windows := s.emit_.windows, fired := s.emit_.fired } = s.emit_ ∧
      { u with scan := s.scan, emit_ := s.emit_, out := s.out } = s.at_ f) ∧
  (∀ (s : State) (b p f : Nat) (c : Column) (base : Nat), s.Awake → s.openCol = some c → c.base = some base → b < 16 →
    p < gaitN c.gait → c.skipped = false → c.pulse b p = {} → s.gateOpen b = false ∨ bitOf c.inhibited b = true →
    f = base + p * gaitT c.gait / gaitN c.gait + c.offsets.getD p 0 + s.forceFld (P.STAGGER.STG.sub b 4) →
    ∃ u, exec (.fireCommand b p) s = .next u ∧
      u.scan.columns = s.scan.columns.map (fun x => if x.frame = c.frame ∧ x.seq = c.seq then
        x.setPulse b p { inhibited := true } else x) ∧
      { u with scan := s.scan } = s.at_ f) ∧
  (∀ (s : State) (b p f : Nat) (c : Column) (base : Nat), s.Awake → s.openCol = some c → c.base = some base → b < 16 →
    p < gaitN c.gait → c.skipped = false → c.pulse b p = {} → s.gateOpen b = true → bitOf c.inhibited b = false →
    f = base + p * gaitT c.gait / gaitN c.gait + c.offsets.getD p 0 + s.forceFld (P.STAGGER.STG.sub b 4) →
    s.fld (P.EXP_BUDGET.BUDGET.idx b) < s.acc b + s.chgCode (b / 4) * s.chgCode (b / 4) →
    ∃ u, exec (.fireCommand b p) s = .next u ∧
      u.scan.columns = s.scan.columns.map (fun x => if x.frame = c.frame ∧ x.seq = c.seq then
        x.setPulse b p { inhibited := true } else x) ∧
      u.liveFld P.EXP_COUNTS.INHIBIT_PULSES = wrapAdd P.EXP_COUNTS.INHIBIT_PULSES.width
        (s.liveFld P.EXP_COUNTS.INHIBIT_PULSES) 1 ∧
      { u with scan := s.scan, live := s.live } = s.at_ f) ∧
  (∀ (s : State) (b p : Nat) (c : Column) (m : Int), s.Awake → s.openCol = some c → (c.pulse b p).emission = some m →
    (c.pulse b p).armed = none → ∃ u, exec (.armingDecision b p) s = .next u ∧
      (∀ x ∈ u.scan.columns, ∃ y ∈ s.scan.columns, x.frame = y.frame ∧ x.seq = y.seq ∧
        (x.frame = c.frame → x.seq = c.seq → (x.pulse b p).armed = some
          (s.gateActive 0 b (128 * (c.epoch : Int) + m) && s.gateActive 1 b (128 * (c.epoch : Int) + m)))) ∧
      u.regs = s.regs ∧ u.live = s.live ∧ u.hist = s.hist ∧ u.out = s.out) ∧
  (∀ (s : State) (b p f : Nat) (c : Column), s.Awake → s.openCol = some c → (c.pulse b p).fire = some f →
    (c.pulse b p).emission = none → ∃ u, exec (.monWinExpiry b p) s = .next u ∧
      u.scan.columns = s.scan.columns.map (fun x => if x.frame = c.frame ∧ x.seq = c.seq then
        { x.setPulse b p { c.pulse b p with emission := some (128 * ((f : Int) - c.epoch) + s.fteDelay b), nomon := true } with
          degraded := forUpto 24 (fun i m => Map.set false m (24 * b + i) true) x.degraded } else x) ∧
      { u with scan := s.scan } = (s.at_ (f + s.forceFld P.MON_WIN.MON_WIN)))

/-- HAND_OFF: the open column is handed off at the later of epoch + T and the last window's close, a skipped one at the later of
epoch + T and the previous hand-off, and the count of hand-offs moves on (R22, R38). A region's assembler releases the
oldest column it holds at H + floor(3 T / 2), and a column that all four regions have released leaves the chain (R29, R30,
R133); the column is written back once its last item is in the ring (R178), and COAL_US after the first column not announced
its message is sent (R178). Completion, under conditions on the state and the operands alone: HAND_OFF, RELEASE_DEADLINE,
RING_WRITEBACK, COAL_US_EXPIRY. -/
def Obligations.ColumnEnd : Prop :=
  (∀ (s : State) (c : Column) (h : Nat), s.Awake → s.openCol = some c → s.handOffTime c = some h →
    ∃ u, exec .handOff s = .next u ∧ u.now = (s.at_ h).now ∧ u.scan.lastHandoff = some h ∧ u.scan.handed = s.scan.handed + 1 ∧
      (∀ x ∈ u.scan.columns, x.frame = c.frame → x.seq = c.seq → x.handoff = some h ∧ x.ordinal = s.scan.handed + 1) ∧
      u.scan.seq = s.scan.seq ∧ u.scan.columns.length = s.scan.columns.length ∧ u.out = s.out ∧ u.nv = s.nv ∧
      u.emit_ = s.emit_ ∧ u.mirror = s.mirror ∧ u.evoth = s.evoth ∧ u.power = s.power) ∧
  (∀ (s : State) (r : Nat) (k : Column), s.Awake → r < 4 →
    s.scan.columns.find? (fun k => k.handoff.isSome && !bitOf k.released r) = some k → s.power.rest = none →
    ∃ u, exec (.releaseDeadline r) s = .next u ∧ u.now = (s.at_ (k.handoff.getD 0 + 3 * gaitT k.gait / 2)).now ∧
      u.scan.columns = (s.scan.columns.map (fun x => if x.frame = k.frame ∧ x.seq = k.seq then
        { x with released := x.released + 2 ^ r } else x)).filter (fun c => decide (c.released ≠ 15)) ∧
      u.scan.seq = s.scan.seq ∧ u.nv = s.nv ∧ u.mirror = s.mirror ∧ u.emit_ = s.emit_ ∧ u.stamp = s.stamp ∧ u.power = s.power) ∧
  (∀ (s : State) (t r f c : Nat) (i : DmaItem) (l : List DmaItem), s.Awake → r < 4 →
    (s.chan r).items = i :: l → i.done = .column r f c → i.started = true → i.segs = [] →
    ∃ (v : State) (line : List Byte), exec (.ringWriteback t r) s = .next (v.pump r) ∧ v.now = (s.at_ t).now ∧
      line = padTo 64 (leBytes 8 (wrapAdd 64 (s.fld (P.RING_WR.WR_OFF.idx r)) i.payload.length) ++ leBytes 4 f ++ leBytes 2 c) ∧
      (v.chan r).items.tail = l ∧ (v.chan r).items.head?.map (·.payload) = some line ∧
      { v with host := s.host, streams := s.streams } = s.at_ t) ∧
  (∀ (s : State) (r t0 : Nat), s.Awake → r < 4 → (s.stream r).firstCol = some t0 → ∃ u, exec (.coalUsExpiry r) s = .next u ∧
    (u.stream r).cols = 0 ∧ (u.stream r).firstCol = none ∧
    u.out = (s.msix 0 (4 + r)).out ∧ u.host = (s.msix 0 (4 + r)).host ∧
    { u with streams := s.streams, out := s.out, host := s.host } =
      (s.at_ (t0 + 1000 * s.fld (P.RING_NOTIFY.COAL_US.idx r))))

/-- A return event that finds its input enabled and free: it starts the hold-off (R61); with a credit it takes one, and with
none it is dropped and counted (R70, R71). Without an open column it is stray. CREDIT_RESTORE gives each path one credit, up
to 8 (R70). A return event with a credit whose buffer accepts the open column is stamped, its level compared with SAT_LEN,
and waits for its window and its arming; with its path disabled, or within the hold-off, it has no effect; credits come back
no faster than one every 4 ns (R61, R65, R69, R70, R89). Completion, under conditions on the state and the operands alone:
RETURN_EVENT, CREDIT_RESTORE. -/
def Obligations.ReturnCredits : Prop :=
  (∀ (s : State) (c tick code stay : Nat), s.Awake → c < 384 → code < 128 →
    s.forceFld ((P.INPUT_CFG.EN.idx (c / 8)).sub (c % 8) 8) = 1 → (s.ch c).holdFrom = none → s.domOn (c / 32) = true →
    s.farrier.strobe = false → (s.ch c).lost = false → s.openCol = none → 0 < (s.ch c).credits →
    ∃ u, exec (.returnEvent c tick code stay) s = .next u ∧ (u.ch c).credits = (s.ch c).credits - 1 ∧
      (u.ch c).stray = wrapAdd 32 (s.ch c).stray 1 ∧ (u.ch c).rateDrops = (s.ch c).rateDrops ∧
      (u.ch c).holdFrom = some (128 * tick + code) ∧ (∀ d, d ≠ c → u.ch d = s.ch d) ∧
      { u with stamp := s.stamp } = s.at_ tick) ∧
  (∀ (s : State) (c tick code stay : Nat), s.Awake → c < 384 → code < 128 →
    s.forceFld ((P.INPUT_CFG.EN.idx (c / 8)).sub (c % 8) 8) = 1 → (s.ch c).holdFrom = none → s.domOn (c / 32) = true →
    s.farrier.strobe = false → (s.ch c).lost = false → s.openCol = none → (s.ch c).credits = 0 →
    ∃ u, exec (.returnEvent c tick code stay) s = .next u ∧ (u.ch c).rateDrops = wrapAdd 32 (s.ch c).rateDrops 1 ∧
      (u.ch c).credits = 0 ∧ (u.ch c).stray = (s.ch c).stray ∧ { u with stamp := s.stamp } = s.at_ tick) ∧
  (∀ (s : State) (t c : Nat), s.Awake → Map.wf {} s.stamp.chans = true →
    (∀ a, s.stamp.creditAt = some a → a + 4 ≤ (s.at_ t).now) → ∃ u, exec (.creditRestore t) s = .next u ∧
      (u.ch c).credits = min 8 ((s.ch c).credits + 1) ∧ (u.ch c).stray = (s.ch c).stray ∧
      u.stamp.creditAt = some (s.at_ t).now ∧
      { u with stamp := s.stamp } = s.at_ t ∧
      u.stamp.lut = s.stamp.lut ∧ u.stamp.skew = s.stamp.skew) ∧
  (∀ (s : State) (c tick code stay : Nat) (high : Bool) (k : Column) (x : Int), s.Awake → c < 384 → code < 128 →
    s.forceFld ((P.INPUT_CFG.EN.idx (c / 8)).sub (c % 8) 8) = 1 → (s.ch c).holdFrom = none → s.domOn (c / 32) = true →
    s.farrier.strobe = false → (s.ch c).lost = false → 0 < (s.ch c).credits → s.openCol = some k → s.accepts c k = true →
    (stay + 128 < 128 * s.forceFld P.HIST_CFG.SAT_LEN ∧ high = false) ∨
      (128 * s.forceFld P.HIST_CFG.SAT_LEN + 128 ≤ stay ∧ high = true) →
    x = s.stampOf (s.pathOf c) c tick code k.epoch → k.fate (c / 24) x = .undecided →
    ∃ u, exec (.returnEvent c tick code stay) s = .next u ∧ (u.ch c).credits = (s.ch c).credits - 1 ∧
      (u.ch c).holdFrom = some (128 * tick + code) ∧ (u.ch c).stray = (s.ch c).stray ∧
      u.scan.columns = s.scan.columns.map (fun y => if y.frame = k.frame ∧ y.seq = k.seq then
        { y with waiting := y.waiting ++ [⟨c, x, false, high⟩] } else y) ∧ (∀ d, d ≠ c → u.ch d = s.ch d) ∧
      { u with stamp := s.stamp, scan := s.scan } = s.at_ tick) ∧
  (∀ (s : State) (c tick code stay : Nat), s.Awake → c < 384 → code < 128 →
    s.forceFld ((P.INPUT_CFG.EN.idx (c / 8)).sub (c % 8) 8) = 0 → (s.ch c).holdFrom = none →
    exec (.returnEvent c tick code stay) s = .next (s.at_ tick)) ∧
  (∀ (s : State) (c tick code stay a : Nat), s.Awake → c < 384 → code < 128 → (s.ch c).holdFrom = some a →
    128 * tick + code + 32 < a + 128 * s.forceFld ((P.INPUT_CFG.HOLDOFF.idx (c / 8)).sub (c % 8) 8) →
    exec (.returnEvent c tick code stay) s = .next (s.at_ tick)) ∧
  (∀ (s : State) (t a : Nat), s.Awake → s.stamp.creditAt = some a → (s.at_ t).now < a + 4 →
    exec (.creditRestore t) s = .next (s.at_ t))

/-- The statistics block's result (R79, R80, R182): STAT_RESULT_COMPLETE gives the slot its SEQ + 1 and READY, the source, the
number of samples, the mean and the deviation in 1/256 LSB and the two extremes, and touches no parameter beside the slot's.
GATE_EDGE keeps the edge with its stamp and its sense (R76, R78), but not on a failed path (R297). MONITOR_EVENT: the first
event of a fired pulse's search interval is its emission, and a sample of the bank's fire-to-emission delay (R74, R298).
Completion, under conditions on the state and the operands alone: STAT_RESULT_COMPLETE, GATE_EDGE, MONITOR_EVENT. -/
def Obligations.StampingEvents : Prop :=
  (∀ (s : State) (t : Nat) (r : StatRun) (rest : List StatRun), s.Awake → s.stamp.stat.done = r :: rest →
    r.src < 32 → r.nm1 < 65536 → ∃ u, exec (.statResultComplete t) s = .next u ∧ u.stamp.stat.done = rest ∧
      u.fld P.STAT_HDR.SEQ = (s.fld P.STAT_HDR.SEQ + 1) % 65536 ∧ u.fld P.STAT_HDR.STATE = 1 ∧ u.fld P.STAT_HDR.SRC = r.src ∧
      u.fld P.STAT_HDR.N_M1 = r.nm1 ∧ u.fld P.STAT_MEAN.MEAN = trunc 48 (roundHalfEven (256 * r.s1) (r.nm1 + 1)) ∧
      u.fld P.STAT_STD.STD =
        capN (2 ^ 32 - 1) (roundSqrt 256 (((r.nm1 + 1 : Nat) : Int) * r.s2 - r.s1 * r.s1).toNat (r.nm1 + 1)) ∧
      u.fld (P.STAT_MINMAX.EXTREME.idx 0) = trunc (P.STAT_MINMAX.EXTREME.idx 0).width r.lo ∧
      u.fld (P.STAT_MINMAX.EXTREME.idx 1) = trunc (P.STAT_MINMAX.EXTREME.idx 1).width r.hi ∧
      (∀ k, k ≠ K.STAT_HDR → k ≠ K.STAT_MEAN → k ≠ K.STAT_STD → k ≠ K.STAT_MINMAX → k ≠ K.STAT_MINMAX + 1 →
        u.reg k = s.reg k) ∧
      { u with regs := s.regs, stamp := s.stamp } = s.at_ t) ∧
  (∀ (s : State) (g tick code : Nat) (rising : Bool), s.Awake → g < 2 → code < 128 → s.pathFailed (448 + g) = false →
    (s.farrier.strobe && s.farrier.gatesToo) = false → ∃ u, exec (.gateEdge g tick code rising) s = .next u ∧
      (u.gate g).edges.head? = some ((s.freeStamp (448 + g) (400 + g) tick code).toNat, rising) ∧
      (u.gate g).resetLevel = (s.gate g).resetLevel ∧ u.gate (1 - g) = s.gate (1 - g) ∧
      u.SameRegs s [K.STAT_HDR] ∧ { u with regs := s.regs, stamp := s.stamp } = s.at_ tick) ∧
  (∀ (s : State) (g tick code : Nat) (rising : Bool), s.Awake → g < 2 → code < 128 → s.pathFailed (448 + g) = true →
    exec (.gateEdge g tick code rising) s = .next (s.at_ tick)) ∧
  (∀ (s : State) (b tick code j : Nat) (k : Column) (p : Pulse), s.Awake → b < 16 → code < 128 →
    Map.find? s.stamp.monHold b = none → s.farrier.strobe = false → s.pathFailed (432 + b) = false → s.openCol = some k →
    (k.firedOf b).find? (fun e =>
      decide (k.fireStamp (e.2.fire.getD 0) ≤ s.stampOf (432 + b) (384 + b) tick code k.epoch) &&
      decide (s.stampOf (432 + b) (384 + b) tick code k.epoch ≤
        k.fireStamp (e.2.fire.getD 0) + (128 * s.forceFld P.MON_WIN.MON_WIN : Nat))) = some (j, p) →
    p.emission = none → ∃ u, exec (.monitorEvent b tick code) s = .next u ∧
      u.scan.columns = s.scan.columns.map (fun x => if x.frame = k.frame ∧ x.seq = k.seq then
        x.setPulse b j { p with emission := some (s.stampOf (432 + b) (384 + b) tick code k.epoch) } else x) ∧
      Map.get 0 u.farrier.fteCount b = Map.get 0 s.farrier.fteCount b + 1 ∧
      u.SameRegs s [K.STAT_HDR] ∧ { u with regs := s.regs, scan := s.scan, stamp := s.stamp, farrier := s.farrier } = s.at_ tick)

/-- A histogram event adds itself to the one bin word it names, decoded, counted and encoded anew (R87, R89, R90, R92); every
other bin of every buffer reads as before, and only the scan record and the histogram memory change. What one event does to
a bin word: below 4,095 events COUNT, RSUM and QSUM grow by 1, r and r²; at 4,095 the three stay and SAT is set; PILE stays
(R87, R89). An event whose buffer no longer holds its column only leaves the column (the model's choice, notes/assumptions
43). While INJECT_SEL.ARM is 1, the event that the injection names has INJECT_MASK XORed into its word, and ARM returns to 0
(R97). Completion, under conditions on the state and the operands alone: HISTOGRAM_ACCUMULATE. -/
def Obligations.HistogramAccumulate : Prop :=
  (∀ (s : State) (ch d : Nat) (c : Column) (e : BinEvent), s.Awake →
    s.scan.columns.find? (fun c => c.accepted.any (fun e => e.channel == ch)) = some c →
    c.accepted.find? (fun e => e.channel == ch) = some e → e.bin < 4096 → s.bit P.INJECT_SEL.ARM = false →
    s.binsOf ch c = true → decodeWord (s.binWord (2 * ch + c.seq % 2) e.bin) = .clean d →
    ∃ u, exec (.histogramAccumulate ch) s = .next u ∧
      u.binWord (2 * ch + c.seq % 2) e.bin = encodeWord (binEvent d e.residual e.high) ∧
      (∀ k b, b < 4096 → (k ≠ 2 * ch + c.seq % 2 ∨ b ≠ e.bin) → u.binWord k b = s.binWord k b) ∧
      u.scan.columns = s.scan.columns.map (fun x => if x.frame = c.frame ∧ x.seq = c.seq then { x with
        accepted := x.accepted.erase e, lastBin := Map.insert x.lastBin (32 * ch + e.pulse) e.bin } else x) ∧
      { u with scan := s.scan, hist := s.hist } = s) ∧
  (∀ (n r rs qs : Nat) (sat pile high : Bool), n < 4096 → r < 64 → rs + 63 < 2 ^ 18 → qs + 3969 < 2 ^ 24 →
    binEvent (binData n rs qs sat pile) r high =
      if n < 4095 then binData (n + 1) (rs + r) (qs + r * r) (sat || high) pile else binData n rs qs true pile) ∧
  (∀ (s : State) (ch : Nat) (c : Column) (e : BinEvent), s.Awake →
    s.scan.columns.find? (fun c => c.accepted.any (fun e => e.channel == ch)) = some c →
    c.accepted.find? (fun e => e.channel == ch) = some e → s.binsOf ch c = false →
    ∃ u, exec (.histogramAccumulate ch) s = .next u ∧
      u.scan.columns = s.scan.columns.map (fun x => if x.frame = c.frame ∧ x.seq = c.seq then { x with
        accepted := x.accepted.erase e, lastBin := Map.insert x.lastBin (32 * ch + e.pulse) e.bin } else x) ∧
      { u with scan := s.scan } = s) ∧
  (∀ (s : State) (ch d : Nat) (c : Column) (e : BinEvent), s.Awake →
    s.scan.columns.find? (fun c => c.accepted.any (fun e => e.channel == ch)) = some c →
    c.accepted.find? (fun e => e.channel == ch) = some e → e.bin < 4096 → s.bit P.INJECT_SEL.ARM = true →
    s.fld P.INJECT_SEL.CHANNEL = ch → s.fld P.INJECT_SEL.BIN = e.bin →
    s.binsOf ch c = true → decodeWord (s.binWord (2 * ch + c.seq % 2) e.bin) = .clean d →
    ∃ u, exec (.histogramAccumulate ch) s = .next u ∧
      u.binWord (2 * ch + c.seq % 2) e.bin = encodeWord (binEvent d e.residual e.high) ^^^ s.reg K.INJECT_MASK ∧
      u.fld P.INJECT_SEL.ARM = 0 ∧
      (∀ k b, b < 4096 → (k ≠ 2 * ch + c.seq % 2 ∨ b ≠ e.bin) → u.binWord k b = s.binWord k b) ∧
      u.SameRegs s [K.INJECT_SEL] ∧ { u with regs := s.regs, scan := s.scan, hist := s.hist } = s)

/-- The memory of the histograms corrects one flipped bit of a word and finds two (R92, R93): of a word as it is stored, any one
bit flipped, the same data comes back, and any two flipped are found uncorrectable. CHECK itself is R92's: the XOR of the
column values of the data bits that are 1, the column values being the 8-bit values with exactly three bits set in
increasing order. -/
def Obligations.CheckByte : Prop :=
  checkColumns = (List.range 256).filter (fun v => (maskBits 8 v).length = 3) ∧
  (∀ d : Nat, checkByte d = ((List.range 56).filter (fun k => bitOf d k)).foldl (fun a k => a ^^^ checkColumns.getD k 0) 0) ∧
  (∀ d : Nat, d < 2 ^ 56 → decodeWord (encodeWord d) = .clean d) ∧
  (∀ d i : Nat, d < 2 ^ 56 → i < 64 → decodeWord (encodeWord d ^^^ BitVec.ofNat 64 (2 ^ i)) = .corrected d) ∧
  (∀ d i j : Nat, d < 2 ^ 56 → i < j → j < 64 →
    decodeWord (encodeWord d ^^^ BitVec.ofNat 64 (2 ^ i) ^^^ BitVec.ofNat 64 (2 ^ j)) = .uncorrectable)

/-- DUMP_RECORD sends the next record, its header and the 4,096 words of the buffer, into the dump ring's channel where the ring
is on and has room for 32,832 bytes, and counts DUMP_SEQ; with the ring off or without room the record is dropped and
counted, and the DUMP cause that the request set on its buffer clears, the buffer returning to READ where no MASK cause
holds it (R103 to R105). The record's order in the channel and what counts as free room are the model's choices
(notes/assumptions 43 and 45). Completion, under conditions on the state and the operands alone: DUMP_RECORD. -/
def Obligations.DumpRecord : Prop :=
  (∀ (s : State) (d : Dump) (c b : Nat) (l : List (Nat × Nat)), s.Awake → s.hist.dump = some d → d.left = (c, b) :: l →
    d.waiting = false → d.inFlight = false → s.isFrozen (2 * c + b) = true → d.frozenSrc = true ∨ s.slotEnded c b = true → s.ringOn 4 = true →
    32832 ≤ s.ringFree 4 → ∃ (u : State) (bytes : List Byte), exec .dumpRecord s = .next (u.dmaPush 4 { payload := bytes, done := .dumpRecord c b 32832 }) ∧
      bytes = s.dumpHeader c b (s.dumpWords (2 * c + b)).2.1 (s.dumpWords (2 * c + b)).2.2 d.frozenSrc ++
        (s.dumpWords (2 * c + b)).1 ∧
      u.hist.dump = some { d with left := l, inFlight := true } ∧ u.hist.dumpSeq = wrapAdd 64 s.hist.dumpSeq 1 ∧
      { u with hist := s.hist } = s) ∧
  (∀ (s : State) (d : Dump) (c b : Nat) (l : List (Nat × Nat)), s.Awake → s.hist.dump = some d → d.left = (c, b) :: l →
    d.waiting = false → d.inFlight = false → s.isFrozen (2 * c + b) = true → d.frozenSrc = true → s.ringOn 4 = false ∨ s.ringFree 4 < 32832 →
    ∃ u, exec .dumpRecord s = .next u ∧ u.fld P.DUMP_STATUS.DROPPED = wrapAdd P.DUMP_STATUS.DROPPED.width
        (s.fld P.DUMP_STATUS.DROPPED) 1 ∧ (∀ k, k ≠ K.DUMP_STATUS → u.reg k = s.reg k) ∧
      u.hist.bufs = s.hist.bufs ∧ { u with regs := s.regs, hist := s.hist } = s) ∧
  (∀ (s : State) (d : Dump) (c b : Nat) (l : List (Nat × Nat)), s.Awake → s.hist.dump = some d → d.left = (c, b) :: l →
    d.waiting = false → d.inFlight = false → s.isFrozen (2 * c + b) = true → d.frozenSrc = false → s.slotEnded c b = true →
    s.ringOn 4 = false ∨ s.ringFree 4 < 32832 → ∃ u, exec .dumpRecord s = .next u ∧
      u.fld P.DUMP_STATUS.DROPPED = wrapAdd P.DUMP_STATUS.DROPPED.width (s.fld P.DUMP_STATUS.DROPPED) 1 ∧
      (∀ k, k ≠ K.DUMP_STATUS → u.reg k = s.reg k) ∧
      u.buf (2 * c + b) = (if (s.buf (2 * c + b)).mask = true then { s.buf (2 * c + b) with dump := false }
        else { s.buf (2 * c + b) with dump := false, st := .read, freedAt := some s.now }) ∧
      (∀ k, k ≠ 2 * c + b → u.buf k = s.buf k) ∧ u.hist.words = s.hist.words ∧ u.hist.rows = s.hist.rows ∧
      { u with regs := s.regs, hist := s.hist } = s)

/-- The extraction pipe: PIPE_CHANNEL_READ takes a channel's slot of the oldest handed-off column at its time (R27) and leaves
the buffer no longer handed (R91, R95); COLUMN_END_MARKER follows channel 31 (R117); MOMENT_SOLVE sends the cluster's oldest
candidate, solved, to its region's queue and to the interval engine (R28, R123, R124, R320). The interval engine takes the
oldest candidate of its queue (R320). Behind candidates the marker waits in the cluster's order, and it reaches the region's
queue right after the last of them (R117). Completion, under conditions on the state and the operands alone:
PIPE_CHANNEL_READ, COLUMN_END_MARKER, MOMENT_SOLVE, INTERVAL_ENGINE_CANDIDATE. -/
def Obligations.ExtractionPipe : Prop :=
  (∀ (s : State) (c : Nat) (k : Column), s.Awake → c < 384 → s.pipeCol c = some k →
    Map.get 0 k.piped (c / 32) % 2 ^ (c % 32) = 2 ^ (c % 32) - 1 → k.accepted.any (fun e => e.channel == c) = false →
    (s.buf (2 * c + k.seq % 2)).content.frame ≠ k.frame →
    exec (.pipeChannelRead c) s = .next ((s.at_ (k.handoff.getD 0 + 256 * (c % 32 + 1))).withCol k.frame k.seq fun x =>
      { x with piped := Map.modify 0 x.piped (c / 32) (· + 2 ^ (c % 32)) })) ∧
  (∀ (s : State) (c : Nat) (k : Column), s.Awake → c < 384 → s.pipeCol c = some k →
    Map.get 0 k.piped (c / 32) % 2 ^ (c % 32) = 2 ^ (c % 32) - 1 → (s.buf (2 * c + k.seq % 2)).st = .handed →
    (s.buf (2 * c + k.seq % 2)).content.frame = k.frame → (s.buf (2 * c + k.seq % 2)).content.seq = k.seq →
    ∃ u, exec (.pipeChannelRead c) s = .next u ∧ u.now = (s.at_ (k.handoff.getD 0 + 256 * (c % 32 + 1))).now ∧
      (u.buf (2 * c + k.seq % 2)).st ≠ .handed ∧ u.ident = s.ident ∧ u.nv = s.nv ∧ u.emit_ = s.emit_ ∧ u.mirror = s.mirror) ∧
  (∀ (s : State) (cl : Nat) (k : Column), s.Awake → cl < 12 →
    s.scan.columns.find? (fun k => k.handoff.isSome && !bitOf k.ended cl) = some k → Map.get 0 k.piped cl = 2 ^ 32 - 1 →
    (s.cluster cl).solver = [] → ∃ u, exec (.columnEndMarker cl) s = .next u ∧
      u.scan.columns = s.scan.columns.map (fun x => if x.frame = k.frame ∧ x.seq = k.seq then
        { x with ended := x.ended + 2 ^ cl, markers := x.markers + 2 ^ cl } else x) ∧
      Map.get [] u.evoth.queues (cl / 3) = Map.get [] s.evoth.queues (cl / 3) ++ [.marker (k.endMarker cl)] ∧
      { u with scan := s.scan, clusters := s.clusters, farrier := s.farrier, evoth := s.evoth } =
        s.at_ (k.markerTime cl)) ∧
  (∀ (s : State) (cl : Nat) (c : Cand) (l : List QueueRec) (k : Column), s.Awake → (s.cluster cl).solver = .cand c :: l →
    (∀ m, l.head? ≠ some (.marker m)) → s.scan.columns.find? (fun k => decide (k.frame = c.frame ∧ k.seq = c.seq)) = some k →
    ∃ u, exec (.momentSolve cl) s = .next u ∧ (u.cluster cl).solver = l ∧
      Map.get [] u.evoth.queues (c.channel / 96) = Map.get [] s.evoth.queues (c.channel / 96) ++ [.cand c.solve] ∧
      u.sup.engineQ = s.sup.engineQ ++ [(c.solve, k.index)] ∧ u.scan = s.scan ∧ u.nv = s.nv) ∧
  (∀ (s : State) (t : Nat) (c : Cand) (k : Nat) (l : List (Cand × Nat)), s.Awake → s.sup.engineQ = (c, k) :: l →
    ∃ u, exec (.intervalEngineCandidate t) s = .next u ∧ u.sup.engineQ = l ∧ u.sup.cEv = s.sup.cEv ∧
      (∀ p, Map.get 0 s.sup.cSv p ≤ Map.get 0 u.sup.cSv p ∧ Map.get 0 u.sup.cSv p ≤ Map.get 0 s.sup.cSv p + 1) ∧
      { u with sup := s.sup, fresh := s.fresh } = s.at_ t) ∧
  (∀ (s : State) (cl : Nat) (k : Column) (c : Cand) (l : List QueueRec), s.Awake → cl < 12 →
    s.scan.columns.find? (fun k => k.handoff.isSome && !bitOf k.ended cl) = some k → Map.get 0 k.piped cl = 2 ^ 32 - 1 →
    (s.cluster cl).solver = .cand c :: l → ∃ u, exec (.columnEndMarker cl) s = .next u ∧
      (u.cluster cl).solver = .cand c :: l ++ [.marker (k.endMarker cl)] ∧
      u.scan.columns = s.scan.columns.map (fun x => if x.frame = k.frame ∧ x.seq = k.seq then
        { x with ended := x.ended + 2 ^ cl } else x) ∧
      { u with scan := s.scan, clusters := s.clusters, farrier := s.farrier } = s.at_ (k.markerTime cl)) ∧
  (∀ (s : State) (cl : Nat) (c : Cand) (m : EndMarker) (k : Column), s.Awake →
    (s.cluster cl).solver = [.cand c, .marker m] → m.cluster / 3 = c.channel / 96 →
    s.scan.columns.find? (fun k => decide (k.frame = c.frame ∧ k.seq = c.seq)) = some k →
    ∃ u, exec (.momentSolve cl) s = .next u ∧ (u.cluster cl).solver = [] ∧
      Map.get [] u.evoth.queues (c.channel / 96) = Map.get [] s.evoth.queues (c.channel / 96) ++ [.cand c.solve, .marker m] ∧
      u.sup.engineQ = s.sup.engineQ ++ [(c.solve, k.index)] ∧ u.nv = s.nv)

/-- One multiply-accumulate (R138): in wide mode the accumulator gets its value plus the product of two 24-bit numbers, modulo
2^56; in narrow mode the low 40 bits of the accumulator and the low 16 bits of the operands count. AV of the accumulator is
set by a sum that does not fit and is otherwise as it was; the other accumulators and every other register stay. -/
def Obligations.MacArithmetic : Prop :=
  ∀ (r : EvothRegs) (a x y : Nat), a < 4 →
    (r.narrow = false → (r.mac a x y).accI a = sext 56 (trunc 56 (r.accI a + sext 24 (r.dReg x) * sext 24 (r.dReg y)))) ∧
    (r.narrow = true → (r.mac a x y).accI a = sext 40 (trunc 40 (sext 40 (Map.get 0 r.acc a).toNat +
      sext 16 (r.dReg x) * sext 16 (r.dReg y)))) ∧
    (∀ b, b ≠ a → (r.mac a x y).accI b = r.accI b ∧ bitOf (r.mac a x y).sr.toNat (10 + b) = bitOf r.sr.toNat (10 + b)) ∧
    (r.narrow = false → bitOf (r.mac a x y).sr.toNat (10 + a) = (bitOf r.sr.toNat (10 + a) ||
      decide (sext 56 (trunc 56 (r.accI a + sext 24 (r.dReg x) * sext 24 (r.dReg y))) ≠
        r.accI a + sext 24 (r.dReg x) * sext 24 (r.dReg y)))) ∧
    (r.narrow = true → bitOf (r.mac a x y).sr.toNat (10 + a) = (bitOf r.sr.toNat (10 + a) ||
      decide (sext 40 (trunc 40 (sext 40 (Map.get 0 r.acc a).toNat + sext 16 (r.dReg x) * sext 16 (r.dReg y))) ≠
        sext 40 (Map.get 0 r.acc a).toNat + sext 16 (r.dReg x) * sext 16 (r.dReg y)))) ∧
    { r.mac a x y with acc := r.acc, sr := r.sr } = r

/-- Instructions of the job a core runs, each in its own context and nowhere else: a multiply-accumulate (R138), a move of an
accumulator to a register through the scaling shift, which sets SV on saturation and leaves the accumulators (R141), loads
of SC and of CBSEL (R136, R141), a mode instruction, which acts at the next instruction (R139), and a repeat, whose count
the next instruction takes (R142). One instruction multiplies, accumulates and loads (R137): the MAC takes its operands
before the load writes its register, and the address register steps. Completion, under conditions on the state and the
operands alone: EVOTH_MAC, EVOTH_ACC_MOVE, EVOTH_LOAD_SC, EVOTH_LOAD_CBSEL, EVOTH_MODE_SWITCH, EVOTH_REPEAT. -/
def Obligations.EvothRegisters : Prop :=
  (∀ (s : State) (q a x y : Nat), s.Awake → s.CoreRuns q → ∃ u, exec (.evothMac q a x y ⟨none, none, none⟩) s = .next u ∧
    u.coreCtx q = (s.coreCtx q).mac (a % 4) (x % 8) (y % 8) ∧ (u.core q).data = (s.core q).data ∧
    (∀ p, p ≠ q → u.core p = s.core p) ∧ { u with evoth := s.evoth } = s) ∧
  (∀ (s : State) (q a k : Nat), s.Awake → s.CoreRuns q → ∃ u, exec (.evothAccMove q a (.reg k)) s = .next u ∧
    (u.coreCtx q).dReg (k % 8) =
      trunc 24 (scaleShift (s.coreCtx q).narrow (s.coreCtx q).sc.toNat ((s.coreCtx q).accI (a % 4))).1 ∧
    bitOf (u.coreCtx q).sr.toNat 14 = (bitOf (s.coreCtx q).sr.toNat 14 ||
      (scaleShift (s.coreCtx q).narrow (s.coreCtx q).sc.toNat ((s.coreCtx q).accI (a % 4))).2) ∧
    (∀ b, b ≠ 14 → bitOf (u.coreCtx q).sr.toNat b = bitOf (s.coreCtx q).sr.toNat b) ∧
    (u.coreCtx q).acc = (s.coreCtx q).acc ∧ (∀ j, j < 8 → j ≠ k % 8 → (u.coreCtx q).dReg j = (s.coreCtx q).dReg j) ∧
    (u.core q).data = (s.core q).data ∧ (∀ p, p ≠ q → u.core p = s.core p) ∧ { u with evoth := s.evoth, fresh := s.fresh } = s) ∧
  (∀ (s : State) (q : Nat) (v : BitVec 8), s.Awake → s.CoreRuns q → scaleOk (s.coreCtx q).narrow v.toNat = true →
    ∃ u, exec (.evothLoadSc q v) s = .next u ∧ u.coreCtx q = { s.coreCtx q with sc := v } ∧
      (∀ p, p ≠ q → u.core p = s.core p) ∧ { u with evoth := s.evoth } = s) ∧
  (∀ (s : State) (q : Nat) (v : BitVec 24), s.Awake → s.CoreRuns q →
    (∀ k, k < 8 → bitsOf v.toNat (3 * k + 2) (3 * k) ≤ 4) →
    ∃ u, exec (.evothLoadCbsel q v) s = .next u ∧ u.coreCtx q = { s.coreCtx q with cbsel := v } ∧
      (∀ p, p ≠ q → u.core p = s.core p) ∧ { u with evoth := s.evoth } = s) ∧
  (∀ (s : State) (q : Nat) (n : Bool), s.Awake → s.CoreRuns q → s.bkJob q = false → scaleOk n (s.coreCtx q).sc.toNat = true →
    ∃ u, exec (.evothModeSwitch q n) s = .next u ∧ u.coreCtx q = { s.coreCtx q with nextMode := some n } ∧
      (∀ p, p ≠ q → u.core p = s.core p) ∧ { u with evoth := s.evoth } = s) ∧
  (∀ (s : State) (q n : Nat), s.Awake → s.CoreRuns q → 1 ≤ n → n ≤ 1024 → ∃ u, exec (.evothRepeat q (.imm n) true) s = .next u ∧
    u.coreCtx q = { s.coreCtx q with lc := BitVec.ofNat 11 n } ∧
      (∀ p, p ≠ q → u.core p = s.core p) ∧ { u with evoth := s.evoth } = s) ∧
  (∀ (s : State) (q a x y k r : Nat), s.Awake → s.CoreRuns q → s.bkJob q = false → a < 4 → x < 8 → y < 8 → k < 8 → r < 8 →
    dataOwn (s.level q) ((s.coreCtx q).adReg k) = true →
    (if (s.coreCtx q).narrow then (s.coreCtx q).adReg k % 2 else (s.coreCtx q).adReg k % 4) = 0 →
    ∃ u, exec (.evothMac q a x y ⟨none, some ⟨k, false, r, false⟩, none⟩) s = .next u ∧
      u.coreCtx q = (((s.coreCtx q).mac a x y).setD r
        (loadValue (s.coreCtx q).narrow (s.core q).data ((s.coreCtx q).adReg k))).stepAd k ∧
      (u.core q).data = (s.core q).data ∧ { u with evoth := s.evoth, fresh := s.fresh } = s)

/-- Faults of a core (R148, R160): an instruction the decoder does not know, a repeat of an instruction that may not be
repeated, a repeat count of 0 or above 1,024, and an instruction that BK mode lacks give their code and stop the job (LEVEL
reads 0). A legal instruction word moves the pc of the job's context (R156). An aligned load through port U reads data
memory at ADk into the register and steps ADk; an aligned store writes the one word and no other (R140). Addresses outside
the level's own regions are another matter. Completion, under conditions on the state and the operands alone:
EVOTH_INSTRUCTION_FETCH, EVOTH_REPEAT, BK_UNSUPPORTED_INSTRUCTION, EVOTH_DATA_ACCESS. -/
def Obligations.EvothMemory : Prop :=
  (∀ (s : State) (q pc : Nat), s.Awake → q < 16 → s.level q = 1 → 4 * (pc % 8192) < 0x5000 →
    ∃ u, exec (.evothInstructionFetch q pc .illegal) s = .next u ∧ u.fld (P.CORE_STATUS.FAULT_CODE.idx q) = 1 ∧ u.level q = 0 ∧
      u.fld (P.CORE_STATUS.FAULT_PC.idx q) = 4 * (pc % 8192)) ∧
  (∀ (s : State) (q : Nat) (c : RepeatCount), s.Awake → s.CoreRuns q → ∃ u, exec (.evothRepeat q c false) s = .next u ∧
    u.fld (P.CORE_STATUS.FAULT_CODE.idx q) = 1 ∧ u.level q = 0) ∧
  (∀ (s : State) (q n : Nat), s.Awake → s.CoreRuns q → n = 0 ∨ 1024 < n → ∃ u, exec (.evothRepeat q (.imm n) true) s = .next u ∧
    u.fld (P.CORE_STATUS.FAULT_CODE.idx q) = 3 ∧ u.level q = 0) ∧
  (∀ (s : State) (q : Nat), s.Awake → q < 16 → s.level q = 2 → s.bit (P.CORE_STATUS.BG_BK.idx q) = true →
    ∃ u, exec (.bkUnsupportedInstruction q) s = .next u ∧ u.fld (P.CORE_STATUS.FAULT_CODE.idx q) = 4 ∧ u.level q = 0 ∧
      u.fld (P.CORE_STATUS.BG_FAULTED.idx q) = 1) ∧
  (∀ (s : State) (q pc : Nat), s.Awake → q < 16 → s.level q = 1 → 4 * (pc % 8192) < 0x5000 →
    ∃ u, exec (.evothInstructionFetch q pc .legal) s = .next u ∧
      u.coreCtx q = { s.coreCtx q with pc := BitVec.ofNat 13 (pc % 8192) } ∧ { u with evoth := s.evoth } = s) ∧
  (∀ (s : State) (q k r : Nat), s.Awake → s.CoreRuns q → s.bkJob q = false → k < 8 → r < 8 →
    dataOwn (s.level q) ((s.coreCtx q).adReg k) = true →
    (if (s.coreCtx q).narrow then (s.coreCtx q).adReg k % 2 else (s.coreCtx q).adReg k % 4) = 0 →
    ∃ u, exec (.evothDataAccess q (some ⟨k, false, r, false⟩) none) s = .next u ∧
      u.coreCtx q = ((s.coreCtx q).setD r (loadValue (s.coreCtx q).narrow (s.core q).data ((s.coreCtx q).adReg k))).stepAd k ∧
      (u.core q).data = (s.core q).data ∧ { u with evoth := s.evoth, fresh := s.fresh } = s) ∧
  (∀ (s : State) (q k r : Nat), s.Awake → s.CoreRuns q → s.bkJob q = false → k < 8 → r < 8 →
    dataOwn (s.level q) ((s.coreCtx q).adReg k) = true →
    (if (s.coreCtx q).narrow then (s.coreCtx q).adReg k % 2 else (s.coreCtx q).adReg k % 4) = 0 →
    ∃ u, exec (.evothDataAccess q (some ⟨k, true, r, false⟩) none) s = .next u ∧
      u.coreCtx q = (s.coreCtx q).stepAd k ∧
      (u.core q).data = storeValue (s.coreCtx q).narrow (s.core q).data ((s.coreCtx q).adReg k) ((s.coreCtx q).dReg r) ∧
      (∀ w, w ≠ (s.coreCtx q).adReg k / 4 → Map.get 0 (u.core q).data w = Map.get 0 (s.core q).data w) ∧
      { u with evoth := s.evoth, fresh := s.fresh } = s)

/-- Jobs of a core: ROW_READY marks a row whose candidates are in (R149), COLUMN_JOB_START takes the core to the COLUMN level on
the oldest column with a row waiting (R143, R145), JOB_DISPATCH takes an idle core to its BACKGROUND job (R143, R144),
BK_BLOCK_REPEAT opens a block (R147), EVOTH_RELOAD_DONE ends a region's reload (R159). A REFINE image's entries of the job's
column, before its deadline (R150, R151): one with DONE clear and an echo not posted yet is kept with its row; one whose ROW
is 384 or more counts as an error and leaves the column alone (the model's choice, notes/assumptions 44). A COLUMN job pre-
empts a BACKGROUND job at an instruction's end, keeps its context and drops a block's cache (R142, R145, R147); with a
repeat ahead it waits. An entry on a row of another core closes that row as an error, once (R151); an entry after the
deadline only counts in LATE_POSTS (R152). Completion, under conditions on the state and the operands alone: ROW_READY,
COLUMN_JOB_START, JOB_DISPATCH, BK_BLOCK_REPEAT, EVOTH_RELOAD_DONE, POST_ENTRY. -/
def Obligations.EvothJobs : Prop :=
  (∀ (s : State) (t row : Nat) (k : Column) (c : Cand), s.Awake → row < 384 →
    s.scan.columns.find? (fun k => k.handoff.isSome && !bitOf k.released (row / 96) && !Map.get false k.ready row) = some k →
    c ∈ s.rowCands k row → c.cand + 1 = c.ncand → ∃ u, exec (.rowReady t row) s = .next u ∧
      u.scan.columns = s.scan.columns.map (fun x => if x.frame = k.frame ∧ x.seq = k.seq then
        { x with ready := Map.set false x.ready row true } else x) ∧ { u with scan := s.scan } = s.at_ t) ∧
  (∀ (s : State) (t q : Nat) (k : Column), s.Awake → s.coreUp q = true → s.level q = 0 → s.jobColumn q = some k →
    k.rowsWaiting q = true → ∃ u, exec (.columnJobStart t q) s = .next u ∧ u.level q = 1 ∧
      (u.core q).job = some (k.frame, k.seq) ∧ ((s.core q).job ≠ some (k.frame, k.seq) → (u.core q).port = k.context q) ∧ (∀ p, p ≠ q → u.core p = s.core p) ∧
      (∀ j, j ≠ (P.CORE_STATUS.LEVEL.idx q).key → u.reg j = s.reg j) ∧
      { u with evoth := s.evoth, regs := s.regs } = s.at_ t) ∧
  (∀ (s : State) (t q : Nat), s.Awake → s.coreUp q = true → s.jobColumn q = none →
    s.level q = 0 → bitOf (s.fld P.EVOTH_CTRL.BG_EN) q = true → (s.core q).bgPhase = .ready → ∃ u, exec (.jobDispatch t q) s = .next u ∧
      u.level q = 2 ∧ (u.core q).bgPhase = .running ∧ (∀ p, p ≠ q → u.core p = s.core p) ∧
      { u with evoth := s.evoth, regs := s.regs } = s.at_ t) ∧
  (∀ (s : State) (q len n : Nat), s.Awake → q < 16 → s.level q = 2 → s.bit (P.CORE_STATUS.BG_BK.idx q) = true →
    (s.core q).block = none → 0 < n → 0 < len → ∃ u, exec (.bkBlockRepeat q len n) s = .next u ∧
      (u.core q).block = some { len := len, left := n, filling := decide (len ≤ 16) } ∧ { u with evoth := s.evoth } = s) ∧
  (∀ (s : State) (t r : Nat), s.Awake → r < 4 → bitOf s.evoth.reloading r = true → s.domOn (24 + r) = true →
    ∃ u, exec (.evothReloadDone t r) s = .next u ∧ bitOf u.evoth.reloading r = false ∧ u.now = (s.at_ t).now ∧
      u.nv = s.nv ∧ u.scan = s.scan ∧ u.out = s.out) ∧
  (∀ (s : State) (t row : Nat) (e : BitVec 128) (k : Column) (f n : Nat), s.Awake → row < 384 → s.evoth.refineOn.isSome = true →
    (s.core (row / 24)).job = some (f, n) → s.scan.columns.find? (fun k => decide (k.frame = f ∧ k.seq = n)) = some k →
    s.level (row / 24) = 1 → s.pastColumn (row / 24) k.seq t = false → t ≤ k.deadline →
    bitsOf e.toNat 8 0 = row → bitsOf e.toNat 31 16 = k.seq → (k.post row).done = none → bitOf e.toNat 15 = false →
    (∀ x ∈ (k.post row).entries, x.echo ≠ bitsOf e.toNat 79 78) → ∃ (u : State) (x : Post), exec (.postEntry t row e) s = .next u ∧
      x.rangeMm = bitsOf e.toNat 50 32 ∧ x.echo = bitsOf e.toNat 79 78 ∧
      u.scan.columns = s.scan.columns.map (fun y => if y.frame = k.frame ∧ y.seq = k.seq then
        y.setPost row { k.post row with entries := (k.post row).entries ++ [x] } else y) ∧
      { u with scan := s.scan } = s.at_ t) ∧
  (∀ (s : State) (t row : Nat) (e : BitVec 128) (k : Column) (f n : Nat), s.Awake → row < 384 → s.evoth.refineOn.isSome = true →
    (s.core (row / 24)).job = some (f, n) → s.scan.columns.find? (fun k => decide (k.frame = f ∧ k.seq = n)) = some k →
    s.level (row / 24) = 1 → s.pastColumn (row / 24) (bitsOf e.toNat 31 16) t = false → t ≤ k.deadline →
    384 ≤ bitsOf e.toNat 8 0 → ∃ u, exec (.postEntry t row e) s = .next u ∧
      u.liveFld (P.REGION_POSTS.POST_ERRORS.idx (row / 24 / 4)) = wrapAdd (P.REGION_POSTS.POST_ERRORS.idx (row / 24 / 4)).width
        (s.liveFld (P.REGION_POSTS.POST_ERRORS.idx (row / 24 / 4))) 1 ∧
      { u with live := s.live } = s.at_ t) ∧
  (∀ (s : State) (t q : Nat) (k : Column), s.Awake → s.coreUp q = true → s.level q = 2 → (s.core q).bg.lc = 0 →
    s.jobColumn q = some k → k.rowsWaiting q = true → ∃ u, exec (.columnJobStart t q) s = .next u ∧ u.level q = 1 ∧
      (u.core q).job = some (k.frame, k.seq) ∧ (u.core q).bgPhase = .preempted ∧ (u.core q).bg = (s.core q).bg ∧
      (∀ b ∈ (u.core q).block, b.cache = []) ∧ (∀ p, p ≠ q → u.core p = s.core p) ∧
      (∀ j, j ≠ (P.CORE_STATUS.LEVEL.idx q).key → u.reg j = s.reg j) ∧
      { u with evoth := s.evoth, regs := s.regs } = s.at_ t) ∧
  (∀ (s : State) (t q : Nat), s.Awake → s.level q = 2 → (s.core q).bg.lc ≠ 0 → exec (.columnJobStart t q) s = .next (s.at_ t)) ∧
  (∀ (s : State) (t row x : Nat) (e : BitVec 128) (k : Column) (f n : Nat), s.Awake → row < 384 →
    s.evoth.refineOn.isSome = true → (s.core (row / 24)).job = some (f, n) →
    s.scan.columns.find? (fun k => decide (k.frame = f ∧ k.seq = n)) = some k →
    s.level (row / 24) = 1 → s.pastColumn (row / 24) (bitsOf e.toNat 31 16) t = false → t ≤ k.deadline →
    x = bitsOf e.toNat 8 0 → x < 384 → x / 24 ≠ row / 24 → (k.post x).error = false →
    ∃ u, exec (.postEntry t row e) s = .next u ∧
      u.liveFld (P.REGION_POSTS.POST_ERRORS.idx (x / 96)) = wrapAdd (P.REGION_POSTS.POST_ERRORS.idx (x / 96)).width
        (s.liveFld (P.REGION_POSTS.POST_ERRORS.idx (x / 96))) 1 ∧
      u.scan.columns = s.scan.columns.map (fun y => if y.frame = k.frame ∧ y.seq = k.seq then
        y.setPost x { y.post x with error := true } else y) ∧
      { u with scan := s.scan, live := s.live } = s.at_ t) ∧
  (∀ (s : State) (t row : Nat) (e : BitVec 128) (k : Column) (f n : Nat), s.Awake → row < 384 →
    s.evoth.refineOn.isSome = true → (s.core (row / 24)).job = some (f, n) →
    s.scan.columns.find? (fun k => decide (k.frame = f ∧ k.seq = n)) = some k →
    s.level (row / 24) = 1 → s.pastColumn (row / 24) k.seq t = false → k.deadline < t → bitsOf e.toNat 31 16 = k.seq →
    ∃ u, exec (.postEntry t row e) s = .next u ∧
      u.liveFld (P.REGION_POSTS.LATE_POSTS.idx (row / 24 / 4)) = wrapAdd (P.REGION_POSTS.LATE_POSTS.idx (row / 24 / 4)).width
        (s.liveFld (P.REGION_POSTS.LATE_POSTS.idx (row / 24 / 4))) 1 ∧
      { u with live := s.live } = s.at_ t)

/-- The event recorder: an armed recorder keeps a record for a tick at which an enabled level changes or an enabled slot pulses,
and no more than 4,097 of them (R194, R199); what happens later in a recorded tick enters its record (R194); POST_TIME after
the trigger the capture ends and unloading begins (R198, R200); unloading over, the recorder arms itself again in repeat
mode and rests otherwise (R200); with DRAIN = 1 a whole capture goes to the ring where it finds room, or is dropped and
counted (R203). What the operand of a change carries is the model's choice (notes/assumptions 46). Accepted writes that run
the recorder: EN arms it from IDLE, and takes it from ARMED back to IDLE (R197, R204); STOP ends a capture in POST (R198);
SW_TRIG is a source of the trigger of its tick, as term 4 (R196). The tick of a due trigger that no slot's term shares
starts POST with the sources due at it (R195, R196). A second happening of a tick that has its record enters that record,
and a capture drained with room is a write to the ring. Completion, under conditions on the state and the operands alone:
RECORDER_CHANGE, CAPTURE_END, RECORDER_REARM, REC_DRAIN_CAPTURE, REC_EN, REC_STOP, REC_SW_TRIG. -/
def Obligations.EventRecorder : Prop :=
  (∀ (s : State) (t l p n : Nat), s.Awake → s.recSt = 1 → s.recorder.due = [] → p < 2 ^ 32 → n = s.slotState l t →
    s.recorder.tick.all (fun k => k.at_ != t) = true →
    s.recTerms (s.recorder.levels &&& s.recEnabled) n (p &&& s.recEnabled) s.recorder.patPrev = 0 →
    (s.recorder.levels &&& s.recEnabled ≠ n ∨ p &&& s.recEnabled ≠ 0) →
    ∃ u, exec (.recorderChange t l p) s = .next u ∧
      u.recorder.levels = (l % 2 ^ 32 &&& (2 ^ 32 - 1 - s.recEnabled)) ||| n ∧
      u.recorder.pre = lastN 4097 (s.recorder.pre ++ [⟨n, p &&& s.recEnabled, t⟩]) ∧ u.recorder.post = s.recorder.post ∧
      u.recorder.fifo = s.recorder.fifo ∧ { u with recorder := s.recorder } = s.at_ t) ∧
  (∀ (s : State) (t l : Nat), s.Awake → s.recSt = 1 → s.recorder.due = [] → s.recorder.tick.all (fun k => k.at_ != t) = true →
    s.recorder.levels &&& s.recEnabled = s.slotState l t →
    s.recTerms (s.recorder.levels &&& s.recEnabled) (s.slotState l t) 0 s.recorder.patPrev = 0 →
    ∃ u, exec (.recorderChange t l 0) s = .next u ∧ u.recorder.pre = s.recorder.pre ∧
      { u with recorder := s.recorder } = s.at_ t) ∧
  (∀ (s : State) (t : Nat), s.Awake → s.recSt = 2 → s.recorder.due = [] → s.fld P.REC_DEPTH.POST_TIME ≠ 0 →
    s.recorder.trigTime + s.fld P.REC_DEPTH.POST_TIME ≤ t → ∃ u, exec (.captureEnd t) s = .next u ∧ u.recSt = 3 ∧
      u.recorder = { s.recorder with
        ends := some (false, true), unloadFrom := s.recorder.trigTime + s.fld P.REC_DEPTH.POST_TIME, unload := [] } ∧
      u.fld P.REC_COUNTS.CAPTURES = wrapAdd P.REC_COUNTS.CAPTURES.width (s.fld P.REC_COUNTS.CAPTURES) 1 ∧
      (∀ k, k ≠ K.REC_STATUS → k ≠ K.REC_COUNTS → u.reg k = s.reg k) ∧
      { u with recorder := s.recorder, regs := s.regs } = s.at_ t) ∧
  (∀ (s : State) (t : Nat), s.Awake → s.recSt = 3 → s.recorder.due = [] → s.recorder.unload = [] → s.recorder.ends = none →
    s.recorder.unloadFrom + 48 + 7 * s.recorder.unloadRecs ≤ t → ∃ u, exec (.recorderRearm t) s = .next u ∧
      u.recSt = (if s.bit P.REC_CTRL.EN ∧ s.bit P.REC_CTRL.MODE then 1 else 0) ∧ u.recorder.fifo = s.recorder.fifo ∧
      { u with recorder := s.recorder, regs := s.regs } = s.at_ t) ∧
  (∀ (s : State) (t : Nat) (ws rest : List FifoWord), s.Awake → s.recSt ≠ 3 → s.recorder.due = [] → s.bit P.REC_CTRL.DRAIN = true →
    s.stalled 5 = false → (s.chan 5).items = [] →
    splitCapture s.recorder.fifo = some (ws, rest) → s.ringOn 5 = false → ∃ u, exec (.recDrainCapture t) s = .next u ∧
      u.recorder.fifo = rest ∧ ws.getLast?.map (·.word) = some u.recorder.lastWord ∧ u.fld P.REC_COUNTS.REC_DROPPED = wrapAdd P.REC_COUNTS.REC_DROPPED.width
        (s.fld P.REC_COUNTS.REC_DROPPED) 1 ∧ (∀ k, k ≠ K.REC_STATUS → k ≠ K.REC_COUNTS → u.reg k = s.reg k) ∧
      { u with recorder := s.recorder, regs := s.regs } = s.at_ t) ∧
  (∀ (s : State) (h : HostWrite), s.Accepts K.REC_CTRL h → brings h P.REC_CTRL.EN 1 → brings h P.REC_CTRL.SW_TRIG 0 →
    brings h P.REC_CTRL.STOP 0 → s.recSt = 0 → s.recorder.due = [] → ∃ u, exec (.recEn h) s = .next u ∧ u.recSt = 1 ∧
    u.recorder = { s.recorder with
      pre := [⟨s.slotState s.recorder.levels (s.at_ h.t).now, 0, (s.at_ h.t).now⟩], post := [], tick := none,
      patPrev := s.patOf (s.slotState s.recorder.levels (s.at_ h.t).now),
      levels := (s.recorder.levels % 2 ^ 32 &&& (2 ^ 32 - 1 - s.recEnabled)) |||
        s.slotState s.recorder.levels (s.at_ h.t).now } ∧
    u.SameRegs s [K.REC_CTRL, K.REC_STATUS] ∧ { u with regs := s.regs, recorder := s.recorder } = s.at_ h.t) ∧
  (∀ (s : State) (h : HostWrite), s.Accepts K.REC_CTRL h → brings h P.REC_CTRL.EN 0 → brings h P.REC_CTRL.SW_TRIG 0 →
    brings h P.REC_CTRL.STOP 0 → s.recSt = 1 → s.recorder.due = [] → ∃ u, exec (.recEn h) s = .next u ∧ u.recSt = 0 ∧
    u.recorder = { s.recorder with pre := [] } ∧
    u.SameRegs s [K.REC_CTRL, K.REC_STATUS] ∧ { u with regs := s.regs, recorder := s.recorder } = s.at_ h.t) ∧
  (∀ (s : State) (h : HostWrite), s.Accepts K.REC_CTRL h → brings h P.REC_CTRL.STOP 1 → brings h P.REC_CTRL.SW_TRIG 0 →
    s.recSt = 2 → s.recorder.due = [] → ∃ u, exec (.recStop h) s = .next u ∧ u.recSt = 3 ∧
    u.recorder = { s.recorder with ends := some (true, false), unloadFrom := (s.at_ h.t).now, unload := [] } ∧ u.SameRegs s [K.REC_CTRL, K.REC_STATUS, K.REC_COUNTS] ∧
    { u with regs := s.regs, recorder := s.recorder } = s.at_ h.t) ∧
  (∀ (s : State) (h : HostWrite), s.Accepts K.REC_CTRL h → brings h P.REC_CTRL.EN 1 → brings h P.REC_CTRL.SW_TRIG 1 →
    brings h P.REC_CTRL.STOP 0 → s.recSt = 1 → s.recorder.due = [] →
    s.recorder.tick.all (fun k => k.at_ != (s.at_ h.t).now) = true →
    s.recorder.levels &&& s.recEnabled = s.slotState s.recorder.levels (s.at_ h.t).now →
    s.recTerms (s.recorder.levels &&& s.recEnabled) (s.slotState s.recorder.levels (s.at_ h.t).now) 0 s.recorder.patPrev = 0 →
    1 < s.fld P.REC_DEPTH.POST_DEPTH → ∃ u, exec (.recSwTrig h) s = .next u ∧ u.recSt = 2 ∧
    u.recorder.trigTime = (s.at_ h.t).now ∧ u.recorder.trigTerms = 16 ∧
    u.recorder.pre = lastN (s.fld P.REC_DEPTH.PRE_DEPTH) s.recorder.pre ∧
    u.recorder.post = [⟨s.slotState s.recorder.levels (s.at_ h.t).now, 0, (s.at_ h.t).now⟩] ∧
    u.recorder.fifo = s.recorder.fifo ∧ u.SameRegs s [K.REC_CTRL, K.REC_STATUS] ∧
    { u with regs := s.regs, recorder := s.recorder } = s.at_ h.t) ∧
  (∀ (s : State) (t l m : Nat), s.Awake → s.recSt = 1 → s.recorder.due = [(t, m)] → 0 < m → m < 256 →
    s.recorder.levels &&& s.recEnabled = s.slotState l t → s.recorder.tick.all (fun k => k.at_ != t) = true →
    s.recTerms (s.recorder.levels &&& s.recEnabled) (s.slotState l t) 0 s.recorder.patPrev = 0 → 1 < s.fld P.REC_DEPTH.POST_DEPTH →
    ∃ u, exec (.recorderChange t l 0) s = .next u ∧ u.recSt = 2 ∧ u.recorder.trigTime = t ∧ u.recorder.trigTerms = m ∧
      u.recorder.due = [] ∧ u.recorder.post = [⟨s.slotState l t, 0, t⟩] ∧ u.recorder.fifo = s.recorder.fifo ∧
      u.SameRegs s [K.REC_STATUS] ∧ { u with recorder := s.recorder, regs := s.regs } = s.at_ t) ∧
  (∀ (s : State) (t l p n : Nat) (k : RecTick), s.Awake → s.recSt = 1 → s.recorder.due = [] → p < 2 ^ 32 → n = s.slotState l t →
    s.recorder.tick = some k → k.at_ = t → k.recorded = true → k.terms = 0 →
    s.recTerms k.old n (k.pulsed ||| (p &&& s.recEnabled)) k.pat = 0 → ∃ u, exec (.recorderChange t l p) s = .next u ∧
      u.recorder.pre = setLast ⟨n, k.pulsed ||| (p &&& s.recEnabled), t⟩ s.recorder.pre ∧ u.recorder.fifo = s.recorder.fifo ∧
      u.recSt = 1 ∧ { u with recorder := s.recorder } = s.at_ t) ∧
  (∀ (s : State) (t : Nat) (ws rest : List FifoWord) (bytes : List Byte), s.Awake → s.recSt ≠ 3 → s.recorder.due = [] →
    s.bit P.REC_CTRL.DRAIN = true → s.stalled 5 = false → (s.chan 5).items = [] →
    splitCapture s.recorder.fifo = some (ws, rest) → bytes = ws.flatMap (fun w => leBytes 8 w.word) → s.ringOn 5 = true →
    bytes.length ≤ s.ringFree 5 → ∃ v : State, exec (.recDrainCapture t) s =
        .next (v.dmaPush 5 { payload := bytes, done := .capture bytes.length ws.length }) ∧
      v.recorder.fifo = rest ∧ ws.getLast?.map (·.word) = some v.recorder.lastWord ∧
      v.fld P.REC_STATUS.COUNT = rest.length % 2 ^ P.REC_STATUS.COUNT.width ∧ v.SameRegs s [K.REC_STATUS] ∧
      { v with recorder := s.recorder, regs := s.regs } = s.at_ t)

/-- A charger's control (Table 9.6, R207, R210, R211): a sample is kept as MEAS, and the hysteretic law drives CHG_EN from it
and the reference; a 1 µs tick moves the reference of a charger toward its target by SLEW at most. Charger faults of Table
9.6: CHG_EN high for CHG_TIMEOUT µs and CHG_FLT_N low put the charger into FAULT with their cause and take CHG_EN away
(R216); the end of an exposure slot opens a new slot in every window of 17 (R218). Completion, under conditions on the state
and the operands alone: CHARGER_SAMPLE, RAMP_TICK, CHG_TIMEOUT, CHG_EXT_FAULT, EXP_SLOT_END. -/
def Obligations.Chargers : Prop :=
  (∀ (s : State) (t k code : Nat) (f : Bool), s.Awake → t % 20 = 0 → k < 4 → code < 16384 →
    code ≤ s.fld P.CHG_LIMITS.OV_LIMIT → s.chgActive k = true → ∃ u, exec (.chargerSample t k code f) s = .next u ∧
      u.chgCode k = code ∧ u.chgState k = s.chgState k ∧ (u.charger k).fltLow = f ∧ (u.charger k).ovRun = 0 ∧
      (u.charger k).chgEn = (if 2 * code + s.fld (P.CHG_SET.BAND.idx k) < 2 * s.fld (P.CHG_STATUS.REF.idx k) then true
        else if 2 * s.fld (P.CHG_STATUS.REF.idx k) + s.fld (P.CHG_SET.BAND.idx k) < 2 * code then false
        else (s.charger k).chgEn) ∧
      (∀ j, j ≠ k → u.charger j = s.charger j) ∧ (∀ j, j ≠ (P.CHG_STATUS.MEAS.idx k).key → u.reg j = s.reg j) ∧
      { u with regs := s.regs, emit_ := s.emit_ } = s.at_ t) ∧
  (∀ (s : State) (t k code : Nat) (f : Bool), s.Awake → t % 20 = 0 → k < 4 → code < 16384 →
    s.fld P.CHG_LIMITS.OV_LIMIT < code → 2 ≤ (s.charger k).ovRun → s.chgActive k = true →
    ∃ u, exec (.chargerSample t k code f) s = .next u ∧ u.chgState k = 4 ∧ u.fld (P.CHG_STATUS.FAULT_CAUSE.idx k) = 1) ∧
  (∀ (s : State) (t : Nat), s.Awake → t % 1000 = 0 → ∃ u, exec (.rampTick t) s = .next u ∧ u.now = (s.at_ t).now ∧
    (∀ k, k < 4 → s.chgActive k = true → (s.charger k).loadDue = false →
      (u.charger k).refF = slewTo (s.charger k).refF (100 * s.fld (P.CHG_STATUS.TGT.idx k)) (s.fld (P.CHG_SET.SLEW.idx k)) ∧
      ((u.charger k).refF = 100 * s.fld (P.CHG_STATUS.TGT.idx k) → u.chgState k = 3)) ∧
    (∀ k, k < 4 → s.chgActive k = false → u.charger k = s.charger k ∧ u.chgState k = s.chgState k) ∧
    { u with regs := s.regs, emit_ := s.emit_ } = s.at_ t) ∧
  (∀ (s : State) (t k t0 : Nat), s.Awake → k < 4 → (s.charger k).enSince = some t0 →
    t0 + 1000 * s.fld P.CHG_LIMITS.CHG_TIMEOUT ≤ t → s.chgActive k = true → ∃ u, exec (.chgTimeout t k) s = .next u ∧
      u.chgState k = 4 ∧ u.fld (P.CHG_STATUS.FAULT_CAUSE.idx k) = 2 ∧ (u.charger k).chgEn = false ∧
      (∀ j, j ≠ k → u.charger j = s.charger j) ∧ u.hist = s.hist ∧ u.mirror = s.mirror ∧ u.nv = s.nv) ∧
  (∀ (s : State) (t k : Nat), s.Awake → k < 4 → s.chgActive k = true → ∃ u, exec (.chgExtFault t k) s = .next u ∧
      u.chgState k = 4 ∧ u.fld (P.CHG_STATUS.FAULT_CAUSE.idx k) = 4 ∧ (u.charger k).chgEn = false ∧
      (∀ j, j ≠ k → u.charger j = s.charger j) ∧ u.hist = s.hist ∧ u.mirror = s.mirror ∧ u.nv = s.nv) ∧
  (∀ (s : State) (t : Nat), s.Awake → t % (1000 * s.forceFld P.EXP_CFG.EXP_SLOT) = 0 → ∃ u, exec (.expSlotEnd t) s = .next u ∧
      u.emit_.windows = s.emit_.windows.map (fun e => (e.1, (0 :: e.2).take 17)) ∧ u.emit_.chargers = s.emit_.chargers ∧
      { u with emit_ := s.emit_ } = s.at_ t)

/-- Accepted writes on the emitters: EMIT_EN = 0 turns every charger OFF, and EMIT_EN = 1 starts each enabled one that is OFF
and not latched (R208, R217, Table 9.4); a set-point is stored and the charger's target, formed at once, does not exceed it
(R222); CHG_CLEAR starts a charger in FAULT whose cause is gone, and leaves a latched one (R214, R217); the exposure slot,
its lock and a budget are stored (R220). Completion, under conditions on the state and the operands alone: EMIT_CTRL_WRITE,
CHG_SET_WRITE, CHG_CLEAR, EXP_CFG_WRITE, EXP_BUDGET_WRITE. -/
def Obligations.EmitterWrites : Prop :=
  (∀ (s : State) (h : HostWrite), s.Accepts K.EMIT_CTRL h → brings h P.EMIT_CTRL.EMIT_EN 0 → ∃ u,
    exec (.emitCtrlWrite h) s = .next u ∧ (∀ k < 4, u.chgState k = 0) ∧ u.reg K.EMIT_CTRL = s.mergedWord K.EMIT_CTRL h ∧
    u.SameRegs s [K.EMIT_CTRL, K.CHG_STATUS, K.CHG_STATUS + 1, K.CHG_STATUS + 2, K.CHG_STATUS + 3, K.EMIT_FLAGS] ∧
    u.mirror = s.mirror ∧ u.scan = s.scan ∧ u.sup = s.sup ∧ u.nv = s.nv) ∧
  (∀ (s : State) (h : HostWrite) (k : Nat), s.Accepts K.EMIT_CTRL h → brings h P.EMIT_CTRL.EMIT_EN 1 → k < 4 →
    s.bit (P.CHG_SET.CH_EN.idx k) = true → s.domOn 33 = true → s.chgState k = 0 → s.bit (P.CHG_STATUS.LATCHED.idx k) = false →
    ∃ u, exec (.emitCtrlWrite h) s = .next u ∧ u.chgState k = 1 ∧ u.reg K.EMIT_CTRL = s.mergedWord K.EMIT_CTRL h ∧
    u.SameRegs s [K.EMIT_CTRL, K.CHG_STATUS, K.CHG_STATUS + 1, K.CHG_STATUS + 2, K.CHG_STATUS + 3, K.EMIT_FLAGS] ∧
    u.mirror = s.mirror ∧ u.scan = s.scan ∧ u.sup = s.sup ∧ u.nv = s.nv) ∧
  (∀ (s : State) (h : HostWrite) (k v : Nat), k < 4 → s.Accepts (K.CHG_SET + k) h → brings h (P.CHG_SET.SETPOINT.idx k) v →
    ∃ u, exec (.chgSetWrite k h) s = .next u ∧ u.reg (K.CHG_SET + k) = s.mergedWord (K.CHG_SET + k) h ∧
    u.fld (P.CHG_SET.SETPOINT.idx k) = v ∧ u.fld (P.CHG_STATUS.TGT.idx k) ≤ v ∧
    u.SameRegs s [K.CHG_SET + k, K.CHG_STATUS + k, K.ADAPT_VIEW, K.EMIT_FLAGS] ∧ u.mirror = s.mirror ∧ u.scan = s.scan ∧ u.sup = s.sup) ∧
  (∀ (s : State) (h : HostWrite) (m k : Nat), s.Accepts K.CHG_CLEAR h → brings h P.CHG_CLEAR.CLEAR m → k < 4 → h.coinc = 0 → ∃ u,
    exec (.chgClear h) s = .next u ∧ u.chgState k = (if bitOf m k ∧ s.chgState k = 4 ∧ (s.charger k).fltLow = false ∧
      (s.charger k).ovRun < 3 ∧
      s.bit (P.CHG_STATUS.LATCHED.idx k) = false ∧ s.bit P.EMIT_CTRL.EMIT_EN = true ∧
      s.bit (P.CHG_SET.CH_EN.idx k) = true then 1 else s.chgState k) ∧
    { u with regs := s.regs, emit_ := s.emit_ } = s.at_ h.t ∧
    u.SameRegs s [K.CHG_STATUS, K.CHG_STATUS + 1, K.CHG_STATUS + 2, K.CHG_STATUS + 3]) ∧
  (∀ (s : State) (h : HostWrite), s.Accepts K.EXP_CFG h → ∃ u, exec (.expCfgWrite h) s = .next u ∧
    u.reg K.EXP_CFG = s.mergedWord K.EXP_CFG h ∧ u.SameRegs s [K.EXP_CFG] ∧ { u with regs := s.regs } = s.at_ h.t) ∧
  (∀ (s : State) (h : HostWrite), s.HostOpen → s.bit P.EXP_CFG.LOCK = true → ¬ s.Accepts K.EXP_CFG h) ∧
  (∀ (s : State) (b v : Nat) (h : HostWrite), b < 16 → s.Accepts (K.EXP_BUDGET + b) h → brings h (P.EXP_BUDGET.BUDGET.idx b) v →
    ∃ u, exec (.expBudgetWrite b h) s = .next u ∧ u.fld (P.EXP_BUDGET.BUDGET.idx b) = v ∧
    u.SameRegs s [K.EXP_BUDGET + b, K.CHG_STATUS + b / 4, K.EMIT_FLAGS] ∧
    { u with regs := s.regs, flagCnt := s.flagCnt } = s.at_ h.t)

/-- The mirror's bridge (R228 to R230, Table 10.4): a current inside I_TRIP lets the drive follow the reference, held within
I_LIMIT, to IBAND; a drive that moves no current for STUCK_US is a bridge fault: with a spare that has not failed the spare
takes over 1 µs later, and without one the mirror stands in FAULT, RUN cleared, CAUSE 5. The mirror's angle and its loops:
an angle that reaches the engine becomes the latest sample (R231, R232); STALE_US without one parks the mirror blind with
CAUSE 3 (R232, R247); a position-loop tick leaves a reference current inside I_LIMIT and no overrun pending (R240); the
third overrun in a row parks it blind with CAUSE 4 (R241). A bridge that can drive takes the gate commands of Table 10.2:
those that the state leaves low fall at once, and once the dead time is over exactly its own are high (R226, R227); no half-
bridge has both commands high. A second current sample in a row above I_TRIP is a bridge fault too. A RUN or a DRV_EN
written before acts at a tick (R248): DRV_EN = 0 turns the mirror OFF there before all else, RUN = 0 spins it down after all
else. Completion, under conditions on the state and the operands alone: CURRENT_SAMPLE, BRIDGE_STUCK, BRIDGE_TAKEOVER,
ANGLE_SAMPLE, ANGLE_STALE, POSITION_LOOP_TICK, OUTER_LOOP_OVERRUN. -/
def Obligations.MirrorControl : Prop :=
  (∀ (s : State) (t : Nat) (i : Int), s.Awake → t % 20 = 0 → 1 ≤ s.mirSt → s.mirSt ≤ 5 → s.mirror.takeover = none →
    currentCode i = true → s.bridgeFailed (s.fld P.MIR_STATUS.BRIDGE) = false → i.natAbs ≤ s.fld P.MIR_CFG.I_TRIP →
    s.mirror.drvDue = false → s.mirror.runDue = false → ∃ u, exec (.currentSample t i) s = .next u ∧ u.mirror.ocRun = 0 ∧
      u.mirror.iRef = clampI (-(s.fld P.MIR_CFG.I_LIMIT : Int)) (s.fld P.MIR_CFG.I_LIMIT) s.mirror.iRef ∧
      u.mirror.drive = (if 2 * i < 2 * u.mirror.iRef - (s.fld P.MIR_CFG.IBAND : Int) then Drive.pos
        else if 2 * u.mirror.iRef + (s.fld P.MIR_CFG.IBAND : Int) < 2 * i then Drive.neg else s.mirror.drive) ∧ { u with mirror := s.mirror, out := s.out } = s.at_ t) ∧
  (∀ (s : State) (t : Nat) (i : Int), s.Awake → currentCode i = true → 1 ≤ s.mirSt → s.mirSt ≤ 5 → s.fld P.MIR_STATUS.BRIDGE = 0 →
    s.mirror.drive = .pos → s.mirror.driveSince + 1000 * s.fld P.MIR_CFG.STUCK_US ≤ t →
    max s.mirror.driveGone (i - s.mirror.driveI) < (s.fld P.MIR_CFG.IBAND : Int) → s.bit P.MIR_CTRL.SPARE_EN = true →
    s.bit P.MIR_STATUS.B1_FAILED = false → ∃ u, exec (.bridgeStuck t i) s = .next u ∧
      u.fld P.MIR_STATUS.B0_FAILED = 1 ∧ u.mirror.takeover = some ((s.at_ t).now + 1000) ∧ u.mirror.drive = .off ∧
      u.mirSt = s.mirSt ∧ u.fld P.MIR_FLAGS.BRIDGE_FAULT = 1 ∧ u.emit_ = s.emit_ ∧ u.scan = s.scan ∧ u.nv = s.nv) ∧
  (∀ (s : State) (t : Nat) (i : Int), s.Awake → currentCode i = true → 1 ≤ s.mirSt → s.mirSt ≤ 5 → s.fld P.MIR_STATUS.BRIDGE = 0 →
    s.mirror.drive = .pos → s.mirror.driveSince + 1000 * s.fld P.MIR_CFG.STUCK_US ≤ t →
    max s.mirror.driveGone (i - s.mirror.driveI) < (s.fld P.MIR_CFG.IBAND : Int) → s.bit P.MIR_CTRL.SPARE_EN = false →
    s.mirror.runAt ≠ some (s.at_ t).now →
    ∃ u, exec (.bridgeStuck t i) s = .next u ∧ u.fld P.MIR_STATUS.B0_FAILED = 1 ∧ u.mirSt = 7 ∧
      u.fld P.MIR_STATUS.CAUSE = 5 ∧ u.fld P.MIR_CTRL.RUN = 0 ∧ u.mirror.drive = .off ∧ u.mirror.inhibit = true) ∧
  (∀ (s : State) (t : Nat) (i : Int), s.Awake → currentCode i = true → s.mirror.takeover = some t → ∃ u, exec (.bridgeTakeover i) s = .next u ∧
      u.fld P.MIR_STATUS.BRIDGE = 1 ∧ u.mirror.takeover = none ∧ u.mirSt = s.mirSt ∧
      (s.mirSt = 6 → s.bridgeFailed 1 = false → u.mirror.drive = .brake) ∧
      { u with mirror := s.mirror, regs := s.regs, out := s.out } = s.at_ t) ∧
  (∀ (s : State) (a : AngIn) (l : List AngIn), s.Awake → s.fe.angDue = a :: l → a.invalid = false → a.skipped = false →
    ∃ u x, exec .angleSample s = .next u ∧ u.mirror.n = some x ∧ x.t = a.tn ∧ x.arrived = s.now ∧
      u.mirror.m = s.mirror.n ∧ u.fe.angDue = l ∧ u.now = s.now ∧ u.nv = s.nv ∧ u.emit_ = s.emit_) ∧
  (∀ (s : State) (t : Nat) (n : AngSample), s.Awake → 1 ≤ s.mirSt → s.mirSt ≤ 5 → s.mirror.n = some n →
    n.arrived + 1000 * s.fld P.MIR_TOL.STALE_US ≤ t → s.bridgeFailed (s.fld P.MIR_STATUS.BRIDGE) = false →
    s.mirror.runAt ≠ some (s.at_ t).now → ∃ u, exec (.angleStale t) s = .next u ∧ u.mirSt = 6 ∧
      u.fld P.MIR_STATUS.CAUSE = 3 ∧ u.fld P.MIR_CTRL.RUN = 0 ∧ u.mirror.drive = .brake ∧ u.mirror.inhibit = true ∧
      u.mirror.sched = none ∧ u.fld P.MIR_FLAGS.PARKED_BY_FAULT = 1 ∧ u.emit_ = s.emit_ ∧ u.scan = s.scan ∧ u.nv = s.nv) ∧
  (∀ (s : State) (t : Nat), s.Awake → t % 10000 = 0 → 2 ≤ s.mirSt → s.mirSt ≤ 4 →
    s.mirror.drvDue = false → s.mirror.runDue = false → ∃ u, exec (.positionLoopTick t) s = .next u ∧
      - (s.fld P.MIR_CFG.I_LIMIT : Int) ≤ u.mirror.iRef ∧ u.mirror.iRef ≤ (s.fld P.MIR_CFG.I_LIMIT : Int) ∧
      u.mirror.overRun = 0 ∧ u.mirror.h = slewTo s.mirror.h s.ampl (10 * s.fld P.MIR_TRAJ.AMP_SLEW) ∧ u.now = (s.at_ t).now ∧
      u.emit_ = s.emit_ ∧ u.nv = s.nv ∧ u.scan = s.scan) ∧
  (∀ (s : State) (t : Nat), s.Awake → t % 10000 = 0 → 2 ≤ s.mirSt → s.mirSt ≤ 4 → s.mirror.overRun < 2 → s.mirror.drvDue = false →
    s.mirror.runDue = false →
    ∃ u, exec (.outerLoopOverrun t) s = .next u ∧ u.mirror.overRun = s.mirror.overRun + 1 ∧ u.mirror.iRef = s.mirror.iRef ∧
      u.mirSt = s.mirSt ∧ u.fld P.MIR_FLAGS.OVERRUN_SEEN = 1) ∧
  (∀ (s : State) (t : Nat), s.Awake → t % 10000 = 0 → 2 ≤ s.mirSt → s.mirSt ≤ 4 → 2 ≤ s.mirror.overRun → s.mirror.drvDue = false →
    s.mirror.runDue = false →
    s.bridgeFailed (s.fld P.MIR_STATUS.BRIDGE) = false →
    ∃ u, exec (.outerLoopOverrun t) s = .next u ∧ u.mirSt = 6 ∧ u.fld P.MIR_STATUS.CAUSE = 4 ∧ u.mirror.drive = .brake) ∧
  (∀ (s : State) (b t : Nat) (d : Drive), b < 2 → s.bridgeFailed b = false → s.mirror.onAt = none →
    (s.setDrive b d t).mirror.drive = d ∧
    (s.setDrive b d t).mirror.hs &&& (d.gates b).1 = (s.setDrive b d t).mirror.hs ∧
    (s.setDrive b d t).mirror.ls &&& (d.gates b).2 = (s.setDrive b d t).mirror.ls ∧
    ((s.setDrive b d t).gatesOn (t + s.fld P.MIR_CFG.DEAD_NS)).mirror.hs = (d.gates b).1 ∧
    ((s.setDrive b d t).gatesOn (t + s.fld P.MIR_CFG.DEAD_NS)).mirror.ls = (d.gates b).2) ∧
  (∀ (b : Nat) (d : Drive), (d.gates b).1 &&& (d.gates b).2 = 0) ∧
  (∀ (s : State) (t : Nat) (i : Int), s.Awake → t % 20 = 0 → 1 ≤ s.mirSt → s.mirSt ≤ 5 → s.mirror.takeover = none →
    currentCode i = true → s.fld P.MIR_CFG.I_TRIP < i.natAbs → 1 ≤ s.mirror.ocRun → s.fld P.MIR_STATUS.BRIDGE = 0 →
    s.bit P.MIR_CTRL.SPARE_EN = true → s.bit P.MIR_STATUS.B1_FAILED = false → s.mirror.drvDue = false → s.mirror.runDue = false →
    ∃ u, exec (.currentSample t i) s = .next u ∧ u.fld P.MIR_STATUS.B0_FAILED = 1 ∧
      u.mirror.takeover = some ((s.at_ t).now + 1000) ∧ u.mirror.drive = .off ∧ u.mirror.ocRun = 0 ∧ u.mirSt = s.mirSt ∧
      u.fld P.MIR_FLAGS.BRIDGE_FAULT = 1 ∧ u.emit_ = s.emit_ ∧ u.scan = s.scan ∧ u.nv = s.nv) ∧
  (∀ (s : State) (t : Nat) (i : Int), s.Awake → t % 20 = 0 → 1 ≤ s.mirSt → s.mirSt ≤ 5 → s.mirror.takeover = none →
    currentCode i = true → s.fld P.MIR_CFG.I_TRIP < i.natAbs → 1 ≤ s.mirror.ocRun → s.fld P.MIR_STATUS.BRIDGE = 0 →
    s.bit P.MIR_CTRL.SPARE_EN = false → s.mirror.drvDue = false → s.mirror.runDue = false →
    s.mirror.runAt ≠ some (s.at_ t).now → ∃ u, exec (.currentSample t i) s = .next u ∧ u.fld P.MIR_STATUS.B0_FAILED = 1 ∧
      u.mirSt = 7 ∧ u.fld P.MIR_STATUS.CAUSE = 5 ∧ u.fld P.MIR_CTRL.RUN = 0 ∧ u.mirror.drive = .off ∧ u.mirror.inhibit = true) ∧
  (∀ (s : State) (t : Nat), s.Awake → t % 10000 = 0 → 1 ≤ s.mirSt → s.mirror.drvDue = true → s.bit P.MIR_CTRL.DRV_EN = false →
    ∃ u, exec (.positionLoopTick t) s = .next u ∧ u.mirSt = 0 ∧ u.fld P.MIR_STATUS.CAUSE = 8 ∧ u.mirror.drive = .off ∧
      u.mirror.iRef = 0 ∧ u.mirror.drvDue = false ∧ u.mirror.runDue = false ∧ u.nv = s.nv) ∧
  (∀ (s : State) (t : Nat), s.Awake → t % 10000 = 0 → 2 ≤ s.mirSt → s.mirSt ≤ 4 → s.mirror.drvDue = false →
    s.mirror.runDue = true → s.bit P.MIR_CTRL.RUN = false → ∃ u, exec (.positionLoopTick t) s = .next u ∧ u.mirSt = 5 ∧
      u.fld P.MIR_STATUS.CAUSE = 1 ∧ u.mirror.runDue = false ∧ u.nv = s.nv)

/-- Accepted writes on the mirror (Table 10.6): a write of RUN or DRV_EN is stored and acts at the next current sample, angle
sample or tick (R248), in the instant of one at once: RUN = 0 spins a moving mirror down with cause 1, RUN = 1 starts a
parked one (R237, R238); DRV_EN = 0 turns it OFF with cause 8 and no drive, DRV_EN = 1 with a fresh sample parks it (R231).
An accepted RESTART brings it from BLIND_PARK or FAULT to PARKED, from where it may start at once (R237); RC_CLEAR clears
the repetitive tables (R244). Outside such an instant a write of RUN or of DRV_EN is only kept for the next one. Completion,
under conditions on the state and the operands alone: MIRROR_RUN, MIRROR_DRV_EN, MIRROR_RESTART, RC_CLEAR. -/
def Obligations.MirrorWrites : Prop :=
  (∀ (s : State) (h : HostWrite), s.Accepts K.MIR_CTRL h → brings h P.MIR_CTRL.RUN 0 → brings h P.MIR_CTRL.DRV_EN 1 →
    brings h P.MIR_CTRL.RESTART 0 → s.mirror.tickAt = some (s.at_ h.t).now → 2 ≤ s.mirSt → s.mirSt ≤ 4 →
    ∃ u, exec (.mirrorRun h) s = .next u ∧ u.mirSt = 5 ∧
    u.fld P.MIR_STATUS.CAUSE = 1 ∧ u.fld P.MIR_CTRL.RUN = 0 ∧ u.mirror.p = s.mirror.p ∧
    u.SameRegs s [K.MIR_CTRL, K.MIR_STATUS] ∧
    { u with regs := s.regs, mirror := s.mirror, farrier := s.farrier } = s.at_ h.t) ∧
  (∀ (s : State) (h : HostWrite), s.Accepts K.MIR_CTRL h → brings h P.MIR_CTRL.RUN 1 → brings h P.MIR_CTRL.DRV_EN 1 →
    brings h P.MIR_CTRL.RESTART 0 → s.mirror.tickAt = some (s.at_ h.t).now → s.mirSt = 1 → s.mirror.p = 0 →
    ∃ u, exec (.mirrorRun h) s = .next u ∧ u.mirSt = 2 ∧
    u.fld P.MIR_CTRL.RUN = 1 ∧ u.emit_ = s.emit_ ∧ u.sup = s.sup ∧ u.nv = s.nv) ∧
  (∀ (s : State) (h : HostWrite), s.Accepts K.MIR_CTRL h → brings h P.MIR_CTRL.DRV_EN 0 → brings h P.MIR_CTRL.RESTART 0 →
    s.mirror.tickAt = some (s.at_ h.t).now → s.mirSt ≠ 0 → ∃ u, exec (.mirrorDrvEn h) s = .next u ∧ u.mirSt = 0 ∧
    u.fld P.MIR_STATUS.CAUSE = 8 ∧ u.mirror.iRef = 0 ∧
    u.mirror.drive = .off ∧ u.SameRegs s [K.MIR_CTRL, K.MIR_STATUS] ∧
    { u with regs := s.regs, mirror := s.mirror, farrier := s.farrier, out := s.out } = s.at_ h.t) ∧
  (∀ (s : State) (h : HostWrite) (n : AngSample), s.Accepts K.MIR_CTRL h → brings h P.MIR_CTRL.DRV_EN 1 →
    brings h P.MIR_CTRL.RESTART 0 → s.mirror.tickAt = some (s.at_ h.t).now → s.mirSt = 0 → s.mirror.n = some n →
    (s.at_ h.t).now ≤ n.arrived + 1000 * s.fld P.MIR_TOL.STALE_US → ∃ u, exec (.mirrorDrvEn h) s = .next u ∧
    (u.mirSt = 1 ∨ u.mirSt = 2) ∧ u.emit_ = s.emit_ ∧ u.sup = s.sup ∧ u.nv = s.nv) ∧
  (∀ (s : State) (h : HostWrite), s.Accepts K.MIR_CTRL h → brings h P.MIR_CTRL.DRV_EN 1 → brings h P.MIR_CTRL.RESTART 1 →
    ∃ u, exec (.mirrorRestart h) s = .next u ∧ (s.mirSt = 6 ∨ s.mirSt = 7) ∧ (u.mirSt = 1 ∨ u.mirSt = 2) ∧
    u.emit_ = s.emit_ ∧ u.sup = s.sup ∧ u.nv = s.nv) ∧
  (∀ (s : State) (h : HostWrite), s.Accepts K.MIR_RC h → brings h P.MIR_RC.RC_CLEAR 1 → ∃ u, exec (.rcClear h) s = .next u ∧
    u.mirror = { s.mirror with table := [] } ∧ u.reg K.MIR_RC = s.mergedWord K.MIR_RC h ∧ u.SameRegs s [K.MIR_RC] ∧
    { u with regs := s.regs, mirror := s.mirror } = s.at_ h.t) ∧
  (∀ (s : State) (h : HostWrite), s.Accepts K.MIR_CTRL h → brings h P.MIR_CTRL.RUN 0 → brings h P.MIR_CTRL.DRV_EN 1 →
    brings h P.MIR_CTRL.RESTART 0 → s.mirror.tickAt ≠ some (s.at_ h.t).now → ∃ u, exec (.mirrorRun h) s = .next u ∧
    u.mirror = { s.mirror with drvDue := true, runDue := true } ∧ u.reg K.MIR_CTRL = s.mergedWord K.MIR_CTRL h ∧
    u.SameRegs s [K.MIR_CTRL] ∧ { u with regs := s.regs, mirror := s.mirror } = s.at_ h.t) ∧
  (∀ (s : State) (h : HostWrite), s.Accepts K.MIR_CTRL h → brings h P.MIR_CTRL.DRV_EN 0 → brings h P.MIR_CTRL.RUN 1 →
    brings h P.MIR_CTRL.RESTART 0 → s.mirror.tickAt ≠ some (s.at_ h.t).now → ∃ u, exec (.mirrorDrvEn h) s = .next u ∧
    u.mirror = { s.mirror with drvDue := true, runDue := true, runAt := some (s.at_ h.t).now } ∧
    u.reg K.MIR_CTRL = s.mergedWord K.MIR_CTRL h ∧
    u.SameRegs s [K.MIR_CTRL] ∧ { u with regs := s.regs, mirror := s.mirror } = s.at_ h.t)

/-- CONVERTER_OUTPUT: 2,400 ns after its t_n the next output of a converter is in its result registers, with SEQ moved on by
one, READY, the time, the preset and the code (R259 to R269, Table 7.7), and the next output of its grid is due. Completion,
under conditions on the state and the operands alone: CONVERTER_OUTPUT. -/
def Obligations.ConverterOutput : Prop :=
  ∀ (s : State) (v : Nat) (bits : List Bool) (g : Grid) (l : List Grid), s.Awake → v < 2 → (s.conv v).due = g :: l →
    g.preset < 4 → ∃ u, exec (.converterOutput v bits) s = .next u ∧
      u.now = (s.at_ (g.t0 + g.n * presetR g.preset * 50 + 2400)).now ∧
      u.fld (P.RES_HDR.SEQ.idx (2 * v)) = (s.fld (P.RES_HDR.SEQ.idx (2 * v)) + 1) % 65536 ∧
      u.fld (P.RES_HDR.STATE.idx (2 * v)) = 1 ∧ u.fld (P.RES_HDR.PRESET.idx (2 * v)) = g.preset ∧
      u.fld (P.RES_HDR.T_N.idx (2 * v)) = (g.t0 + g.n * presetR g.preset * 50) % 2 ^ 32 ∧
      u.fldI (P.RES_VAL.CODE.idx (2 * v)) = s.outputCode g (g.t0 + g.n * presetR g.preset * 50) bits ∧
      (u.conv v).grids = { g with n := g.n + 1 } :: l ∧ u.conv (1 - v) = s.conv (1 - v) ∧
      u.scan = s.scan ∧ u.mirror = s.mirror ∧ u.emit_ = s.emit_ ∧ u.nv = s.nv

/-- Overloads and impedance checks (R257, R271 to R273): a flagged sample begins a run, is counted and sets its flag, or
lengthens the run; a check runs for IMP_CYC periods of IMP_FREQ and leaves the impedances in IMP_RESULT. Excitation,
synchronisation and the frequency outputs (R252, R254, R258, R274, R275): a source out of compliance marks the samples from
the next on, its return ends the mark; a chopped source swaps its pins and sets the next swap; a synchronising reset ends
the running grid and opens a new one; a frequency output held low shows 0 at the end of its period. Completion, under
conditions on the state and the operands alone: OVERLOAD_DETECTED, IMPEDANCE_CHECK_START, IMPEDANCE_CHECK_END,
EXC_COMPLIANCE_FAULT, EXC_COMPLIANCE_RESTORED, CHOP_PHASE, SYNC_RESET, FOUT_PERIOD_END. -/
def Obligations.FrontEndEvents : Prop :=
  (∀ (s : State) (t v : Nat), s.Awake → t % 50 = 0 → v < 2 → s.bit (P.CONV_CFG.EN.idx v) = true →
    s.domOn 31 = true → (s.conv v).flagged = [] →
    ∃ u, exec (.overloadDetected t v) s = .next u ∧ (u.conv v).flagged = [(t, t)] ∧
      u.fld (P.FE_FLAGS.OVERLOAD_SEEN.bitAt v) = 1 ∧
      u.liveFld (if v = 0 then P.FE_COUNTS.OVERLOADS0 else P.FE_COUNTS.OVERLOADS1) =
        wrapAdd (P.FE_COUNTS.OVERLOADS0.width) (s.liveFld (if v = 0 then P.FE_COUNTS.OVERLOADS0 else P.FE_COUNTS.OVERLOADS1)) 1 ∧
      (∀ k, k ≠ K.FE_FLAGS → u.reg k = s.reg k) ∧
      { u with regs := s.regs, live := s.live, fe := s.fe, flagCnt := s.flagCnt } = s.at_ t) ∧
  (∀ (s : State) (t v a b : Nat) (l : List (Nat × Nat)), s.Awake → t % 50 = 0 → v < 2 → s.bit (P.CONV_CFG.EN.idx v) = true →
    s.domOn 31 = true → (s.conv v).flagged = (a, b) :: l → t = b + 50 → ∃ u, exec (.overloadDetected t v) s = .next u ∧
      (u.conv v).flagged = (a, t) :: l ∧ { u with fe := s.fe } = s.at_ t) ∧
  (∀ (s : State) (t v : Nat), s.Awake → v < 2 → s.bit (P.IMP_CFG.IMP_EN.bitAt v) = true →
    s.domOn 31 = true → (s.conv v).impRun = none →
    (∀ x, (s.conv v).impFrom = some x → x + 1000000 * s.fld P.IMP_CFG.IMP_PERIOD ≤ t) →
    ∃ u, exec (.impedanceCheckStart t v) s = .next u ∧ (u.conv v).impRun = some (t, t + s.impLen) ∧
      (u.conv v).impFrom = some t ∧
      (∃ tone, tone = SenseDrive.tone (s.fld P.IMP_CFG.IMP_AMP) (s.fld P.IMP_CFG.IMP_FREQ) (s.fld P.IMP_CFG.IMP_CYC) ∧
        u.out = .sense (s.fld (P.CONV_CFG.NPIN.idx v)) t tone :: .sense (s.fld (P.CONV_CFG.PPIN.idx v)) t tone :: s.out) ∧
      { u with fe := s.fe, out := s.out } = s.at_ t) ∧
  (∀ (s : State) (v zp zn a e : Nat), s.Awake → v < 2 → (s.conv v).impRun = some (a, e) → zp < 2 ^ 32 → zn < 2 ^ 32 →
    ∃ u, exec (.impedanceCheckEnd v zp zn) s = .next u ∧ u.now = (s.at_ e).now ∧ (u.conv v).impRun = none ∧
      u.fld (P.IMP_RESULT.Z_P.idx v) = zp ∧ u.fld (P.IMP_RESULT.Z_N.idx v) = zn ∧ u.live = s.live ∧ u.mirror = s.mirror ∧
      u.scan = s.scan ∧ u.emit_ = s.emit_ ∧ u.nv = s.nv) ∧
  (∀ (s : State) (t j : Nat), s.Awake → j < 2 → s.bit (P.EXC_CFG.EN.idx j) = true → s.bit (P.EXC_CFG.MODE.idx j) = true →
    s.domOn 31 = true → marked (s.exc j).marks (nextSample t) = false → ∃ u, exec (.excComplianceFault t j) s = .next u ∧
      (u.exc j).marks.head? = some (nextSample t, none) ∧ u.fld (P.FE_FLAGS.EXC_FAULT.bitAt j) = 1 ∧ u.live = s.live ∧
      u.mirror = s.mirror ∧ u.scan = s.scan ∧ u.emit_ = s.emit_ ∧ u.nv = s.nv) ∧
  (∀ (s : State) (t j a : Nat) (l : List (Nat × Option Nat)), s.Awake → j < 2 → (s.exc j).marks = (a, none) :: l →
    ∃ u, exec (.excComplianceRestored t j) s = .next u ∧ (u.exc j).marks = (a, some t) :: l ∧
      u.exc (1 - j) = s.exc (1 - j) ∧ { u with fe := s.fe } = s.at_ t) ∧
  (∀ (s : State) (j x : Nat), s.Awake → j < 2 → s.bit (P.EXC_CFG.CHOP.idx j) = true → (s.exc j).since = some x →
    ∃ u, exec (.chopPhase j) s = .next u ∧ (u.exc j).second = !(s.exc j).second ∧
      (u.exc j).nextSwap = (s.exc j).nextSwap + 50 * s.fld (P.EXC_CFG.CHOP_HALF.idx j) ∧ u.exc (1 - j) = s.exc (1 - j) ∧
      { u with fe := s.fe, out := s.out } = s.at_ (s.exc j).nextSwap) ∧
  (∀ (s : State) (v d : Nat) (l : List Nat), s.Awake → v < 2 → s.domOn 31 = true → (s.conv v).syncDue = d :: l →
    wordFld (s.convCfg v d) P.CONV_CFG.EN = 1 →
    ∃ u, exec (.syncReset v) s = .next u ∧ (u.conv v).syncDue = l ∧
      (u.conv v).grids.getLast? = some {
        t0 := d, preset := wordFld (s.convCfg v d) P.CONV_CFG.PRESET, demod := wordFld (s.convCfg v d) P.CONV_CFG.DEMOD } ∧
      u.conv (1 - v) = s.conv (1 - v) ∧ { u with fe := s.fe } = s.at_ d) ∧
  (∀ (s : State) (t o : Nat) (f : Fout), s.Awake → o < 2 → s.domOn 31 = true → Map.get {} s.fe.fouts o = f → f.run = none →
    (s.at_ t : State).foutX o = none → ∃ u, exec (.foutPeriodEnd t o) s = .next u ∧
      u.out = Out.pin "FOUT" o t 0 :: s.out ∧ (Map.get {} u.fe.fouts o).run = none ∧
      { u with fe := s.fe, out := s.out } = s.at_ t) ∧
  (∀ (s : State) (t o a p h : Nat) (x : Int), s.Awake → o < 2 → s.domOn 31 = true →
    (Map.get {} s.fe.fouts o).run = some (a, p, h) → a + p ≤ t →
    (s.at_ (a + p)).foutX o = some x → ∃ u, exec (.foutPeriodEnd t o) s = .next u ∧
      (Map.get {} u.fe.fouts o).run = some (a + p, s.foutWave o x) ∧
      { u with fe := s.fe, out := s.out } = s.at_ (a + p))

/-- Housekeeping: a conversion goes to every enabled accumulator of its converter and channel, and to no other, and the round
moves on, or begins anew with the settings of that moment (R278, R279, R281, R284). An accumulator whose 2^LOG2N values are
in forms their mean, rounded half to even, and begins anew (R283); the comparator leaves the window upward above HIGH and
downward below LOW and comes back HYST inside, and only leaving it is noted (R285). Completion, under conditions on the
state and the operands alone: HK_CONVERSION. -/
def Obligations.HousekeepingConversion : Prop :=
  (∀ (s : State) (t v code ch : Nat) (l : List Nat), s.Awake → v < 3 → code < 4096 → s.domOn 32 = true → (s.hkc v).round = ch :: l →
    (∀ j, j < 64 → s.bit (P.ACC_CFG.EN.idx j) = true → s.fld (P.ACC_CFG.CONV.idx j) = v → s.fld (P.ACC_CFG.CH.idx j) = ch →
      (s.hacc j).n + 1 < 2 ^ s.fld (P.ACC_CFG.LOG2N.idx j)) → ∃ u, exec (.hkConversion t v code) s = .next u ∧
      (∀ j, j < 64 → s.bit (P.ACC_CFG.EN.idx j) = true → s.fld (P.ACC_CFG.CONV.idx j) = v → s.fld (P.ACC_CFG.CH.idx j) = ch →
        (u.hacc j).sum = (s.hacc j).sum + s.hkValue ch code ∧ (u.hacc j).n = (s.hacc j).n + 1 ∧
        (u.hacc j).lo = min (s.hacc j).lo (s.hkValue ch code) ∧ (u.hacc j).hi = max (s.hacc j).hi (s.hkValue ch code) ∧
        (u.hacc j).mean = (s.hacc j).mean ∧ (u.hacc j).st = (s.hacc j).st) ∧
      (∀ j, 64 ≤ j ∨ s.bit (P.ACC_CFG.EN.idx j) = false ∨ s.fld (P.ACC_CFG.CONV.idx j) ≠ v ∨ s.fld (P.ACC_CFG.CH.idx j) ≠ ch →
        u.hacc j = s.hacc j) ∧
      (u.hkc v).round = (if l.isEmpty then s.hkRound v else l) ∧ (∀ w, w ≠ v → u.hkc w = s.hkc w) ∧
      { u with hk := s.hk } = s.at_ t) ∧
  (∀ (s : State) (j : Nat) (v : Int), 2 ^ s.fld (P.ACC_CFG.LOG2N.idx j) ≤ (s.hacc j).n + 1 →
    ((s.accTake j v).hacc j).mean = some (roundHalfEven ((s.hacc j).sum + v) (2 ^ s.fld (P.ACC_CFG.LOG2N.idx j))) ∧
    ((s.accTake j v).hacc j).valid = true ∧ ((s.accTake j v).hacc j).sum = 0 ∧ ((s.accTake j v).hacc j).n = 0 ∧
    ((s.accTake j v).hacc j).lo = min (s.hacc j).lo v ∧ ((s.accTake j v).hacc j).hi = max (s.hacc j).hi v ∧
    (∀ i, i ≠ j → (s.accTake j v).hacc i = s.hacc i)) ∧
  (∀ (lo hi h m : Int), lo ≤ hi → 0 ≤ h →
    (accMove lo hi h m .in_ = (if hi < m then (.high, true) else if m < lo then (.low, true) else (.in_, false))) ∧
    (∀ st, hi < m → st ≠ .high → accMove lo hi h m st = (.high, true)) ∧
    (∀ st, m < lo → st ≠ .low → accMove lo hi h m st = (.low, true)) ∧
    (∀ st, (accMove lo hi h m st).2 = true → (accMove lo hi h m st).1 ≠ .in_ ∧ (accMove lo hi h m st).1 ≠ st) ∧
    (hi - h < m → m ≤ hi → lo ≤ m → accMove lo hi h m .high = (.high, false)) ∧
    (lo ≤ m → m < lo + h → m ≤ hi → accMove lo hi h m .low = (.low, false)))

/-- Accepted writes on the front end, the housekeeping accumulators and Farrier: enabling a converter makes its synchronising
reset due at the next modulator sample (R251, R258), SYNC makes one due from 1,000 ns on at a multiple of 50 ns (R258);
IMP_CLEAR after a good check ends the marking (R273); LIN_COMMIT commits the 24 staged coefficients, to be copied at the
next output boundary (R266); a write of an accumulator restarts its window (R286); RUN_REQ asks for a calibration run with
cause 2 (R303). Completion, under conditions on the state and the operands alone: CONV_CFG_WRITE, CONVERTER_SYNC, IMP_CLEAR,
LIN_COMMIT, ACC_CFG_WRITE, RUN_REQ. -/
def Obligations.SensorWrites : Prop :=
  (∀ (s : State) (v : Nat) (h : HostWrite), v < 2 → s.Accepts (K.CONV_CFG + v) h → brings h (P.CONV_CFG.EN.idx v) 1 →
    s.bit (P.CONV_CFG.EN.idx v) = false → ∃ u, exec (.convCfgWrite v h) s = .next u ∧
    u.reg (K.CONV_CFG + v) = s.mergedWord (K.CONV_CFG + v) h ∧ nextSample ((s.at_ h.t).now) ∈ (u.conv v).syncDue ∧
    u.SameRegs s [K.CONV_CFG + v] ∧ { u with regs := s.regs, fe := s.fe, live := s.live } = s.at_ h.t) ∧
  (∀ (s : State) (m v : Nat) (h : HostWrite), s.Accepts K.FE_CTRL h → brings h P.FE_CTRL.SYNC m → m ≠ 0 → v < 2 →
    bitOf m v = true → s.bit (P.CONV_CFG.EN.idx v) = true → ∃ u, exec (.converterSync h) s = .next u ∧
    ((s.at_ h.t).now + 1000 + 49) / 50 * 50 ∈ (u.conv v).syncDue ∧ u.SameRegs s [] ∧
    { u with regs := s.regs, fe := s.fe } = s.at_ h.t) ∧
  (∀ (s : State) (m v a : Nat) (l : List (Nat × Option Nat)) (h : HostWrite), s.Accepts K.FE_CTRL h →
    brings h P.FE_CTRL.IMP_CLEAR m → brings h P.FE_CTRL.SYNC 0 → m ≠ 0 → v < 2 → bitOf m v = true → (s.conv v).impGood = true →
    h.coinc = 0 → (s.conv v).impMarks = (a, none) :: l → ∃ u,
    exec (.impClear h) s = .next u ∧
    u.conv v = { s.conv v with impGood := false, impMarks := (a, some ((s.at_ h.t).now)) :: l } ∧ u.SameRegs s [] ∧
    { u with regs := s.regs, fe := s.fe } = s.at_ h.t) ∧
  (∀ (s : State) (m v : Nat) (h : HostWrite), s.Accepts K.LIN_CTRL h → brings h P.LIN_CTRL.COMMIT m → v < 2 →
    bitOf m v = true → (s.conv v).commit = none → ∃ u, exec (.linCommit h) s = .next u ∧
    u.conv v = { s.conv v with commit := some (s.at_ h.t).now } ∧
    u.SameRegs s [K.LIN_CTRL] ∧ { u with regs := s.regs, fe := s.fe } = s.at_ h.t) ∧
  (∀ (s : State) (j : Nat) (h : HostWrite), j < 64 → s.Accepts (K.ACC_CFG + j) h →
    (s.merged (entryOf (K.ACC_CFG + j) h)).1 ≠ 0 → ∃ u, exec (.accCfgWrite j h) s = .next u ∧
    u.reg (K.ACC_CFG + j) = s.mergedWord (K.ACC_CFG + j) h ∧ (u.hacc j).sum = 0 ∧ (u.hacc j).n = 0 ∧
    (u.hacc j).valid = false ∧ (∀ i, i ≠ j → u.hacc i = s.hacc i) ∧ u.SameRegs s [K.ACC_CFG + j] ∧
    { u with regs := s.regs, hk := s.hk } = s.at_ h.t) ∧
  (∀ (s : State) (h : HostWrite), s.Accepts K.CAL_CTRL h → brings h P.CAL_CTRL.RUN_REQ 1 → s.farrier.waiting = none → ∃ u,
    exec (.runReq h) s = .next u ∧ u.farrier = { s.farrier with waiting := some 2, runFrom := false } ∧ u.fld P.CAL_STATUS.PENDING = 1 ∧
    u.SameRegs s [K.CAL_CTRL, K.CAL_STATUS] ∧ { u with regs := s.regs, farrier := s.farrier } = s.at_ h.t)

/-- Strobe windows and calibration runs (R291, R303, R305, R307): a window opens 100 µs after the active part and closes with
the temperatures of its groups; a waiting run starts in it, is solved from its measurement, and the start-up run is
installed at once; RERUN_MAX after the last run another one is asked for. Estimates in the background (R299, R302): a full
gathering of a cluster is fitted and begins anew, and a template close to the active one is not installed; enough edge pairs
give a new angle lag, which a plausible one awaits the boundary as. Completion, under conditions on the state and the
operands alone: STROBE_WINDOW_START, STROBE_WINDOW_END, CAL_RUN_START, CAL_RUN_SOLVED, STARTUP_RUN_INSTALLED,
RERUN_MAX_EXPIRY, TEMPLATE_ESTIMATE, ANGLE_LAG_ESTIMATE. -/
def Obligations.Calibration : Prop :=
  (∀ (s : State) (t : Nat), s.Awake → s.farrier.strobe = false → s.scan.fired = true →
    sweepEnd s.gait s.phi s.scan.k + 100000 ≤ t → t ≤ s.boundaryTime → ∃ u, exec (.strobeWindowStart t []) s = .next u ∧ u.farrier.strobe = true ∧
      u.farrier.gatesToo = s.scanStopped ∧ { u with farrier := s.farrier } = s.at_ t) ∧
  (∀ (s : State) (t : Nat), s.Awake → s.farrier.strobe = true → s.farrier.startup = false → s.windowOver t = true →
    ∃ u, exec (.strobeWindowEnd t []) s = .next u ∧ u.farrier.strobe = false ∧ u.farrier.gatesToo = false ∧
      u.farrier.winTemps.length = 5 ∧ { u with farrier := s.farrier, fresh := s.fresh } = s.at_ t) ∧
  (∀ (s : State) (t c : Nat), s.Awake → s.farrier.waiting = some c → c < 4 → s.bit P.CAL_STATUS.RUNNING = false →
    c = 0 ∨ (s.farrier.strobe && s.farrier.runFrom) = true → ∃ u, exec (.calRunStart t) s = .next u ∧ u.farrier.waiting = none ∧
      u.farrier.strobe = true ∧ u.farrier.startup = (c == 0) ∧ u.fld P.CAL_STATUS.RUNNING = 1 ∧ u.fld P.CAL_STATUS.PENDING = 0 ∧
      u.fld P.CAL_STATUS.CAUSE = c ∧ (∀ k, k ≠ K.CAL_STATUS → u.reg k = s.reg k) ∧
      { u with farrier := s.farrier, regs := s.regs } = s.at_ t) ∧
  (∀ (s : State) (t : Nat) (m : CalMeasure), s.Awake → s.bit P.CAL_STATUS.RUNNING = true → s.farrier.solved = none →
    (s.farrier.startup || s.farrier.winEnded) = true →
    ∃ u, exec (.calRunSolved t m) s = .next u ∧ u.farrier.solved.isSome = true ∧ u.nv = s.nv ∧ u.scan = s.scan ∧
      u.hist = s.hist ∧ u.mirror = s.mirror ∧ u.emit_ = s.emit_) ∧
  (∀ (s : State) (t : Nat) (r : RunResult), s.Awake → s.farrier.solved = some r → s.farrier.startup = true →
    ∃ u, exec (.startupRunInstalled t) s = .next u ∧ u.fld P.CAL_STATUS.STARTUP_DONE = 1 ∧ u.fld P.CAL_STATUS.RUNNING = 0 ∧
      u.farrier.solved = none ∧ u.farrier.startup = false ∧ u.farrier.strobe = false ∧ u.nv = s.nv ∧ u.mirror = s.mirror ∧
      u.hist = s.hist) ∧
  (∀ (s : State) (t : Nat), s.Awake → wordFld s.farrier.runCtrl P.CAL_CTRL.RERUN_MAX ≠ 0 →
    s.bit P.CAL_STATUS.STARTUP_DONE = true →
    s.farrier.lastRun + ((wordFld s.farrier.runCtrl P.CAL_CTRL.RERUN_MAX * 1000000000 : Nat) : Int) ≤ ((s.at_ t).now : Int) →
    s.farrier.waiting = none →
    ∃ u, exec (.rerunMaxExpiry t) s = .next u ∧ u.farrier.waiting = some 3 ∧ u.fld P.CAL_STATUS.PENDING = 1 ∧
      (∀ k, k ≠ K.CAL_STATUS → u.reg k = s.reg k) ∧
      { u with farrier := s.farrier, regs := s.regs } = s.at_ t) ∧
  (∀ (s : State) (t k : Nat) (x : Template), s.Awake → k < 12 → (Map.get {} s.farrier.gather k).full = true →
    fitTemplate (Map.get {} s.farrier.gather k).a (Map.get {} s.farrier.gather k).sigmaSum
      (Map.get {} s.farrier.gather k).log2 = some x →
    fitError x ((s.cluster k).bank (s.cluster k).active) < (Map.get {} s.farrier.gather k).refit →
    ∃ u, exec (.templateEstimate t k) s = .next u ∧ u.clusters = s.clusters ∧
      Map.get 0 u.farrier.tplE k = fitError x ((s.cluster k).bank (s.cluster k).active) ∧
      (Map.get {} u.farrier.gather k).full = false ∧ { u with farrier := s.farrier } = s.at_ t) ∧
  (∀ (s : State) (t n : Nat) (d : List Int) (lag new : Int), s.Awake → s.farrier.angEdges = n → 0 < n →
    n ≤ s.farrier.pairs.length → s.fieldW ≠ 0 → d = s.farrier.pairs.take n → lag = s.fldI P.ANG_VIEW.LAG →
    new = lag + roundHalfEven (-(sumI d) * gaitD s.gait) (2000 * n * s.fieldW) → new.natAbs ≤ 20000 →
    (new - lag).natAbs ≤ 2000 → n < 2 ^ P.ANG_VIEW.EDGES.width → ∃ u, exec (.angleLagEstimate t) s = .next u ∧
      u.farrier.newLag = some new ∧ u.farrier.pairs = [] ∧ u.fld P.ANG_VIEW.EDGES = n ∧ u.fldI P.ANG_VIEW.LAG = lag ∧
      (∀ k, k ≠ K.ANG_VIEW → u.reg k = s.reg k) ∧
      { u with farrier := s.farrier, regs := s.regs, fresh := s.fresh } = s.at_ t)

/-- The safety outputs after a task tick (R326, R473, R510): the settings written so far are in force, and an output is ON only
where the start latch and every die-level cause are clear, the output is not faulty, no stop or cut is latched, and every
active Paddock that drives it reads CLEAR or PENDING with FULL or HALTER coverage. Completion, under conditions on the state
and the operands alone: TASK_TICK. -/
def Obligations.SafetyOutputs : Prop :=
  ∀ (s : State) (t : Nat), s.Awake → ∃ u, exec (.taskTick t) s = .next u ∧ u.now = (s.at_ t).now ∧
    (∀ k ∈ [K.PD_CTRL, K.PD_GEOM, K.SIO_CFG], planeGet u.force k = s.reg k) ∧
    (∀ p, p < 16 → planeGet u.force (K.PD_ACT + p) = s.reg (K.PD_ACT + p)) ∧
    (∀ o, o < 2 → bitOf (u.fld P.SAFETY_STATUS.OUT_ON) o = true → u.bit P.RESET_STATUS.START_LATCH = false ∧
      u.fld P.SAFETY_STATUS.SAFE_CAUSE = 0 ∧ u.thermalPresent = false ∧ bitOf (u.fld P.SAFETY_STATUS.OUT_FAULT) o = false ∧
      (∀ p, p < 16 → (u.pad p).active = true → bitOf (u.forceFld (P.PD_ACT.OUT_MAP.idx p)) o = true →
        u.verdict p ≤ 1 ∧ u.coverage p ≤ 1)) ∧
    u.sup.resetAsked = none ∧ u.nv = s.nv ∧ u.mirror = s.mirror ∧ u.emit_ = s.emit_ ∧ u.scan = s.scan ∧ u.hist = s.hist

/-- The causes a check of the safety path registers (Table 14.4, R327): lockstep, memory and clock latch their bit of
SAFE_CAUSE, a self-test that fails latches SELFTEST and is counted, one that passes ends its presence and leaves what is
latched. HALTER and the interval tables (R324, R335): HALTER_S after a Paddock entered HALTER its time-out is due, for the
next task tick; once the interval tables of a Paddock are computed its BUSY reads 0. Completion, under conditions on the
state and the operands alone: LOCKSTEP_MISMATCH, SUPERVISOR_MEMORY_ERROR, SAFETY_CLOCK_CHECK, TURNAROUND_SELFTEST,
HALTER_TIMEOUT, INTERVAL_TABLES_DONE. -/
def Obligations.SafetyCauses : Prop :=
  (∀ (s : State) (t : Nat), s.Awake → ∃ u, exec (.lockstepMismatch t) s = .next u ∧
    u.bit (P.SAFETY_STATUS.SAFE_CAUSE.bitAt 1) = true ∧ bitOf u.sup.present 1 = true ∧ u.live = s.live ∧ u.scan = s.scan ∧
    u.emit_ = s.emit_ ∧ u.mirror = s.mirror ∧ u.hist = s.hist ∧ u.nv = s.nv) ∧
  (∀ (s : State) (t : Nat), s.Awake → ∃ u, exec (.supervisorMemoryError t) s = .next u ∧
    u.bit (P.SAFETY_STATUS.SAFE_CAUSE.bitAt 2) = true ∧ bitOf u.sup.present 2 = true ∧ u.live = s.live ∧ u.scan = s.scan ∧
    u.emit_ = s.emit_ ∧ u.mirror = s.mirror ∧ u.hist = s.hist ∧ u.nv = s.nv) ∧
  (∀ (s : State) (t : Nat) (ppm : Int), s.Awake → 50000 < ppm.natAbs → ∃ u, exec (.safetyClockCheck t ppm) s = .next u ∧
    u.bit (P.SAFETY_STATUS.SAFE_CAUSE.bitAt 3) = true ∧ bitOf u.sup.present 3 = true ∧ u.live = s.live ∧ u.nv = s.nv) ∧
  (∀ (s : State) (t : Nat) (ppm : Int), s.Awake → ppm.natAbs ≤ 50000 → ∃ u, exec (.safetyClockCheck t ppm) s = .next u ∧
    bitOf u.sup.present 3 = false ∧ { u with sup := s.sup } = s.at_ t) ∧
  (∀ (s : State) (t : Nat), s.Awake → s.anyPad = true → ∃ u, exec (.turnaroundSelftest t false) s = .next u ∧
    u.bit (P.SAFETY_STATUS.SAFE_CAUSE.bitAt 5) = true ∧ bitOf u.sup.present 5 = true ∧
    u.liveFld P.SAFETY_COUNTS.SELFTEST_FAILS = wrapAdd P.SAFETY_COUNTS.SELFTEST_FAILS.width
      (s.liveFld P.SAFETY_COUNTS.SELFTEST_FAILS) 1 ∧ u.nv = s.nv) ∧
  (∀ (s : State) (t : Nat), s.Awake → s.anyPad = true → ∃ u, exec (.turnaroundSelftest t true) s = .next u ∧
    bitOf u.sup.present 5 = false ∧ { u with sup := s.sup } = s.at_ t) ∧
  (∀ (s : State) (t p : Nat) (b : Int), s.Awake → p < 16 → (s.pad p).halterFrom = some b → s.coverage p = 1 →
    b + ((s.forceFld P.PD_CTRL.HALTER_S * 1000000000 : Nat) : Int) ≤ ((s.at_ t).now : Int) →
    ∃ u, exec (.halterTimeout t p) s = .next u ∧ u.pad p = { s.pad p with halterDue := true } ∧
      (∀ q, q ≠ p → u.pad q = s.pad q) ∧ { u with sup := s.sup } = s.at_ t) ∧
  (∀ (s : State) (t p : Nat), s.Awake → p < 16 → s.bit (P.PD_CFG.BUSY.idx p) = true → s.salsol.executing = none →
    ∃ u, exec (.intervalTablesDone t p) s = .next u ∧ u.bit (P.PD_CFG.BUSY.idx p) = false ∧
      (∀ q, q < 16 → q ≠ p → u.reg (P.PD_CFG.BUSY.idx q).key = s.reg (P.PD_CFG.BUSY.idx q).key) ∧
      (u.pad p).merged = s.rayMerged (s.pad p).verts ∧ { u with regs := s.regs, sup := s.sup } = s.at_ t)

/-- Safety inputs (R329 to R331): the test supplies pulse low for 400 µs; outside the pulses the samples are values; in the last
100 µs of a pulse a low sample under the input's own supply clears its stuck finding; IN_FILTER after a level began it is
the filtered value; a pair at odds for longer than DISC_MS makes both of its inputs faulty. The channels of the safety
outputs (R332): a channel of an ON output pulses low for OUT_TP × 10 µs at its time; four pads that read as driven leave no
wrong reading; a channel's second wrong reading in a row makes its output faulty. Completion, under conditions on the state
and the operands alone: TPS_PULSE, SAFETY_INPUT_SAMPLE, IN_FILTER_EXPIRY, PAIR_DISCREPANCY, SOUT_TEST_PULSE, SOUT_READBACK. -/
def Obligations.SafetyPins : Prop :=
  (∀ (s : State) (t j : Nat), s.Awake → j < 4 → t % 20000000 = 5000000 * j → exec (.tpsPulse t j) s =
    .next { s.at_ t with out := .pin "TPS" j (t + 400000) 1 :: .pin "TPS" j t 0 :: s.out }) ∧
  (∀ (s : State) (t l : Nat), s.Awake → testPulseOf t = none → ∃ u, exec (.safetyInputSample t l) s = .next u ∧
    (∀ i, i < 8 → (u.sin i).value = bitOf l i ∧ (u.sin i).filt = (s.sin i).filt ∧ (u.sin i).fault = (s.sin i).fault ∧
      ((u.sin i).newSince = none ↔ bitOf l i = (s.sin i).filt)) ∧ { u with sup := s.sup } = s.at_ t) ∧
  (∀ (s : State) (t j l : Nat), s.Awake → testPulseOf t = some (j, true) → 300000 ≤ t % 5000000 →
    (∀ i, i < 8 → s.forceFld ⟨K.SIO_CFG, 2 * i + 17, 2 * i + 16⟩ = j ∧ bitOf l i = false) →
    ∃ u, exec (.safetyInputSample t l) s = .next u ∧
      (∀ i, i < 8 → (u.sin i).stuck = none ∧ (u.sin i).fault = (s.sin i).fault ∧ (u.sin i).value = (s.sin i).value) ∧
      { u with sup := s.sup } = s.at_ t) ∧
  (∀ (s : State) (t i a : Nat), s.Awake → i < 8 → (s.sin i).newSince = some a →
    a + s.forceFld P.SIO_CFG.IN_FILTER * 1000000 ≤ (s.at_ t).now → (s.sin i).fault = false →
    ∃ u, exec (.inFilterExpiry t i) s = .next u ∧ (u.sin i).filt = (s.sin i).value ∧ (u.sin i).newSince = none ∧
      bitOf (u.fld P.SAFETY_STATUS.IN_VAL) i = (s.sin i).value ∧ (∀ k, k ≠ i → u.sin k = s.sin k) ∧
      (∀ k, k ≠ K.SAFETY_STATUS → u.reg k = s.reg k) ∧
      { u with sup := s.sup, regs := s.regs } = s.at_ t) ∧
  (∀ (s : State) (t p : Nat), s.Awake → p < 4 → (s.at_ t).discrepant s.sup.disagree p = true → (s.sin (2 * p)).fault = false →
    (s.sin (2 * p + 1)).fault = false → ∃ u, exec (.pairDiscrepancy t p) s = .next u ∧ (u.sin (2 * p)).fault = true ∧
      (u.sin (2 * p + 1)).fault = true ∧ bitOf (u.fld P.SAFETY_STATUS.IN_FAULT) (2 * p) = true ∧
      bitOf (u.fld P.SAFETY_STATUS.IN_FAULT) (2 * p + 1) = true ∧ u.nv = s.nv ∧ u.live = s.live) ∧
  (∀ (s : State) (t o c : Nat), s.Awake → o < 2 → c < 2 → t % 20000000 = 2500000 + 5000000 * (2 * o + c) →
    bitOf (s.fld P.SAFETY_STATUS.OUT_ON) o = true → ∃ u, exec (.soutTestPulse t o c) s = .next u ∧
      (u.sout (2 * o + c)).pulse = some (t, t + 10000 * s.forceFld P.SIO_CFG.OUT_TP) ∧
      u.out = .soutPulse (2 * o + c) t (t + 10000 * s.forceFld P.SIO_CFG.OUT_TP) :: s.out ∧
      (∀ k, k ≠ 2 * o + c → u.sout k = s.sout k) ∧ { u with sup := s.sup, out := s.out } = s.at_ t) ∧
  (∀ (s : State) (t l : Nat), s.Awake → (∀ c, c < 4 → bitOf l c = (s.at_ t).soutExpected c) →
    ∃ u, exec (.soutReadback t l) s = .next u ∧ (∀ c, c < 4 → (u.sout c).wrong = 0 ∧ (u.sout c).pulse = (s.sout c).pulse) ∧
      { u with sup := s.sup } = s.at_ t) ∧
  (∀ (s : State) (t l c : Nat), s.Awake → c < 4 → bitOf l c ≠ (s.at_ t).soutExpected c → 1 ≤ (s.sout c).wrong →
    ∃ u, exec (.soutReadback t l) s = .next u ∧ bitOf (u.fld P.SAFETY_STATUS.OUT_FAULT) (c / 2) = true)

/-- Accepted writes on the safety functions and the links between devices: PD_COMMIT makes the staged vertices a Paddock's,
shows their count and CRC, and keeps BUSY at 1 until its tables are computed (R335); EN = 1 takes a Paddock to STARTING with
FULL coverage, EN = 0 ends it (R322); SAFE_RESET keeps what was latched, for the next tick (R327); a written Bridle source
starts again (R342, R350); SLIP moves a lane by one UI, to 39 at most (R357); LEAVE sends a LEAVE on each SECURE link and
its lanes detach (R359); an eye scan begins (R360). Completion, under conditions on the state and the operands alone:
PD_COMMIT, PADDOCK_EN_WRITE, SAFE_RESET_BIT, BR_SRC_WRITE, HITCH_SLIP, LEAVE, EYE_SCAN_START. -/
def Obligations.SafetyWrites : Prop :=
  (∀ (s : State) (p n : Nat) (h : HostWrite), s.Accepts K.PD_COMMIT h → brings h P.PD_COMMIT.PADDOCK p →
    brings h P.PD_COMMIT.NV n → ∃ u, exec (.pdCommit h) s = .next u ∧ u.pad p = { s.pad p with verts := s.stagedVerts n } ∧
    u.fld (P.PD_CFG.NV.idx p) = n ∧ u.fld (P.PD_CFG.BUSY.idx p) = 1 ∧
    u.fld (P.PD_CRC.CRC.idx p) = bridleCrc ((s.stagedVerts n).flatMap (fun x =>
        leBytes 2 (trunc 16 x.1) ++ leBytes 2 (trunc 16 x.2)) ++ leBytes 2 (s.fld (P.PD_CFG.Z_LO.idx p)) ++
      leBytes 2 (s.fld (P.PD_CFG.Z_HI.idx p)) ++ leBytes 1 (s.fld (P.PD_CFG.MIN_POINTS.idx p))) % 2 ^ 32 ∧
    (∀ i, i ≠ p → u.pad i = s.pad i) ∧ u.SameRegs s [K.PD_CFG + p, K.PD_CRC + p] ∧
    { u with regs := s.regs, sup := s.sup } = s.at_ h.t) ∧
  (∀ (s : State) (p : Nat) (h : HostWrite), p < 16 → s.Accepts (K.PD_CFG + p) h → brings h (P.PD_CFG.EN.idx p) 1 →
    s.padOn p = false → ∃ u, exec (.paddockEnWrite p h) s = .next u ∧ u.padOn p = true ∧ u.fld (verdictRef p) = 3 ∧
    u.fld (coverageRef p) = 0 ∧ (u.pad p).since = (s.at_ h.t).now ∧ (u.pad p).clear = 0 ∧ (∀ i, i ≠ p → u.pad i = s.pad i) ∧
    u.SameRegs s [K.PD_CFG + p, K.PD_STATE, K.PD_CRC + p] ∧ { u with regs := s.regs, sup := s.sup } = s.at_ h.t) ∧
  (∀ (s : State) (p : Nat) (h : HostWrite), p < 16 → s.Accepts (K.PD_CFG + p) h → brings h (P.PD_CFG.EN.idx p) 0 →
    s.padOn p = true → ∃ u, exec (.paddockEnWrite p h) s = .next u ∧ u.padOn p = false ∧ u.fld (verdictRef p) = 3 ∧
    u.fld (coverageRef p) = 3 ∧ (u.pad p).active = false ∧ (∀ i, i ≠ p → u.pad i = s.pad i) ∧
    u.SameRegs s [K.PD_CFG + p, K.PD_STATE, K.PD_CRC + p] ∧ { u with regs := s.regs, sup := s.sup } = s.at_ h.t) ∧
  (∀ (s : State) (h : HostWrite), s.Accepts K.PD_CTRL h → brings h P.PD_CTRL.SAFE_RESET 1 → ∃ u,
    exec (.safeResetBit h) s = .next u ∧ u.sup = { s.sup with resetAsked := some (s.fld P.SAFETY_STATUS.SAFE_CAUSE,
      s.fld P.SAFETY_STATUS.IN_FAULT, s.fld P.SAFETY_STATUS.OUT_FAULT) } ∧ u.reg K.PD_CTRL = s.mergedWord K.PD_CTRL h ∧
    u.SameRegs s [K.PD_CTRL] ∧ { u with regs := s.regs, sup := s.sup } = s.at_ h.t) ∧
  (∀ (s : State) (e : Nat) (h : HostWrite), e < 16 → s.Accepts (K.BR_SRC + e) h → (s.merged (entryOf (K.BR_SRC + e) h)).1 ≠ 0 →
    ∃ u, exec (.brSrcWrite e h) s = .next u ∧ u.src e = { s.src e with
      written := true, enabledAt := bif !s.bit (P.BR_SRC.EN.idx e) && u.bit (P.BR_SRC.EN.idx e) then some (s.at_ h.t).now
        else (s.src e).enabledAt } ∧
    (∀ i, i ≠ e → u.src i = s.src i) ∧ u.reg (K.BR_SRC + e) = s.mergedWord (K.BR_SRC + e) h ∧ u.SameRegs s [K.BR_SRC + e] ∧
    { u with regs := s.regs, bridle := s.bridle } = s.at_ h.t) ∧
  (∀ (s : State) (l : Nat) (h : HostWrite), s.Accepts K.HITCH_CMD h → brings h P.HITCH_CMD.SLIP 1 →
    brings h P.HITCH_CMD.LANE l → brings h P.HITCH_CMD.LEAVE 0 → ∃ u, exec (.hitchSlip h) s = .next u ∧
    u.fld (P.LANE_STATUS.SLIPS.idx l) = (if s.fld (P.LANE_STATUS.SLIPS.idx l) < 39 then s.fld (P.LANE_STATUS.SLIPS.idx l) + 1
      else s.fld (P.LANE_STATUS.SLIPS.idx l)) ∧ u.SameRegs s [K.LANE_STATUS + l] ∧ { u with regs := s.regs } = s.at_ h.t) ∧
  (∀ (s : State) (h : HostWrite) (k : Nat), s.Accepts K.HITCH_CMD h → brings h P.HITCH_CMD.LEAVE 1 →
    brings h P.HITCH_CMD.SLIP 0 → k < 8 → s.linkId k = k → s.linkSecure k = true → ∃ u, exec (.leave h) s = .next u ∧
    (∃ l, u.out = l ++ (forEach ((List.range 8).filter (fun j => s.linkId j == j && s.linkSecure j))
      (fun j x => x.hitchSend j 0x15 (leBytes 8 s.devId)) (s.at_ h.t)).out) ∧
    (∀ l ∈ s.linkLanes k, 4 ≤ s.laneSt l → u.laneSt l ≤ 1) ∧ u.scan.fired = s.scan.fired ∧ u.sup = s.sup ∧ u.emit_ = s.emit_) ∧
  (∀ (s : State) (h : HostWrite), s.Accepts K.EYE_CTRL h → brings h P.EYE_CTRL.START 1 → ∃ u,
    exec (.eyeScanStart h) s = .next u ∧ u.fld P.EYE_CTRL.BUSY = 1 ∧
    u.hitch = { s.hitch with eye := some ⟨u.fld P.EYE_CTRL.LANE, (s.at_ h.t).now, u.fld P.EYE_CTRL.DWELL,
      s.bit (P.LANE_STATUS.FROZEN.idx (u.fld P.EYE_CTRL.LANE))⟩ } ∧
    u.SameRegs s [K.EYE_CTRL, K.EYE_RESULT] ∧ { u with regs := s.regs, hitch := s.hitch } = s.at_ h.t)

/-- Bridle reception (R341, R342, Table 15.3): bytes that do not complete a frame are kept in their slot; a completed frame with
a wrong CRC is counted and changes no source; a frame that passes every check from a source that was LIVE keeps it LIVE,
with its SEQ and TIME. SOURCE_EXPECTATION_EXPIRY: WDOG_MS without an accepted frame from an enabled source its expectation
is over, for the next task tick, at which it is LOST, its flag is set, and it must synchronise anew (R343). A frame that
passes the checks before SEQ, from a synchronised source (R342): up to SEQ_WIN ahead it is accepted and the frames it skips
are counted as lost; the same SEQ is a duplicate and a farther one a sequence error: both are counted, and the source keeps
its SEQ and TIME. Completion, under conditions on the state and the operands alone: BRIDLE_FRAME_RECEIVE,
SOURCE_EXPECTATION_EXPIRY. -/
def Obligations.BridleReceive : Prop :=
  (∀ (s : State) (t n off : Nat) (b : List Byte), s.Awake → s.linkUp = true → n < 16 → b ≠ [] → off + b.length < 32 →
    ∃ u, exec (.bridleFrameReceive t n off b) s = .next u ∧
      (∀ i, i < b.length → Map.get 0 u.bridle.rx (32 * n + off + i) = b.getD i 0) ∧
      (∀ a, (a < 32 * n + off ∨ 32 * n + off + b.length ≤ a) → Map.get 0 u.bridle.rx a = Map.get 0 s.bridle.rx a) ∧
      u.bridle.srcs = s.bridle.srcs ∧ { u with bridle := s.bridle } = s.at_ t) ∧
  (∀ (s : State) (t n : Nat) (b : List Byte), s.Awake → s.linkUp = true → n < 16 → b.length = 32 →
    frameField b 28 4 ≠ bridleCrc (b.take 28) → ∃ u, exec (.bridleFrameReceive t n 0 b) s = .next u ∧
      u.liveFld P.BR_RX_COUNTS.CRC_ERR = wrapAdd P.BR_RX_COUNTS.CRC_ERR.width (s.liveFld P.BR_RX_COUNTS.CRC_ERR) 1 ∧
      u.fld P.BR_FLAGS.RX_ERR_SEEN = 1 ∧ u.bridle.srcs = s.bridle.srcs ∧ (∀ k, k ≠ K.BR_FLAGS → u.reg k = s.reg k) ∧
      { u with bridle := s.bridle, regs := s.regs, live := s.live, flagCnt := s.flagCnt } = s.at_ t) ∧
  (∀ (s : State) (b : List Byte) (e : Nat), frameField b 28 4 = bridleCrc (b.take 28) → frameField b 4 4 = s.brId →
    frameField b 0 4 ≠ s.brId → s.srcOf (frameField b 0 4) false = some e → kindOk e b = true →
    s.forceBit (P.BR_SRC.TIMED.idx e) = false → (s.src e).time = none → (s.src e).synced = false → s.srcState e ≤ 1 →
    e < 16 → (s.bridleReceive false b).srcState e = 1 ∧
      (s.bridleReceive false b).src e = { s.src e with
        synced := true, seq := frameField b 8 2, time := some (frameField b 10 4), timer := s.now, recover := 0, expired := false } ∧
      (∀ d, d ≠ e → (s.bridleReceive false b).src d = s.src d) ∧
      { s.bridleReceive false b with bridle := s.bridle, regs := s.regs } = s) ∧
  (∀ (s : State) (t e : Nat), s.Awake → e < 16 → s.forceBit (P.BR_SRC.EN.idx e) = true → s.srcState e ≠ 2 →
    (s.src e).timer + s.forceFld (P.BR_SRC.WDOG_MS.idx e) * 1000000 ≤ (s.at_ t).now →
    ∃ u, exec (.sourceExpectationExpiry t e) s = .next u ∧
      u.src e = { s.src e with expired := true } ∧ (∀ d, d ≠ e → u.src d = s.src d) ∧ { u with bridle := s.bridle } = s.at_ t) ∧
  (∀ (s : State) (e : Nat), e < 16 → s.forceBit (P.BR_SRC.EN.idx e) = true → s.srcState e ≠ 2 → (s.src e).expired = true →
    (s.srcExpire e).srcState e = 2 ∧
      (s.srcExpire e).src e = { s.src e with synced := false, time := none, recover := 0, expired := false } ∧
      (s.srcExpire e).fld (P.BR_FLAGS.SRC_LOST_SEEN.bitAt e) = 1 ∧ (∀ d, d ≠ e → (s.srcExpire e).src d = s.src d) ∧
      (s.srcExpire e).live = s.live ∧ (s.srcExpire e).nv = s.nv ∧ (s.srcExpire e).sup = s.sup ∧
      (s.srcExpire e).scan = s.scan) ∧
  (∀ (s : State) (hitch : Bool) (b : List Byte) (e d : Nat), frameField b 28 4 = bridleCrc (b.take 28) → frameField b 4 4 = s.brId →
    frameField b 0 4 ≠ s.brId → s.srcOf (frameField b 0 4) hitch = some e → kindOk e b = true →
    s.forceBit (P.BR_SRC.TIMED.idx e) = false → (∀ l, (s.src e).time = some l → 0 < sext 32 (frameField b 10 4 + 2 ^ 32 - l)) →
    (s.src e).synced = true → d = (frameField b 8 2 + 2 ^ 16 - (s.src e).seq) % 2 ^ 16 → 1 ≤ d →
    d ≤ s.forceFld P.BR_CFG.SEQ_WIN → s.srcState e ≤ 1 → e < 16 → (s.bridleReceive hitch b).srcState e = 1 ∧
      (s.bridleReceive hitch b).src e = { s.src e with
        synced := true, seq := frameField b 8 2, time := some (frameField b 10 4), timer := s.now, recover := 0, expired := false } ∧
      (s.bridleReceive hitch b).liveFld P.BR_TX_COUNTS.LOST_FRAMES =
        wrapAdd P.BR_TX_COUNTS.LOST_FRAMES.width (s.liveFld P.BR_TX_COUNTS.LOST_FRAMES) (d - 1) ∧
      (∀ i, i ≠ e → (s.bridleReceive hitch b).src i = s.src i) ∧
      { s.bridleReceive hitch b with bridle := s.bridle, regs := s.regs, live := s.live } = s) ∧
  (∀ (s : State) (hitch : Bool) (b : List Byte) (e d : Nat), frameField b 28 4 = bridleCrc (b.take 28) → frameField b 4 4 = s.brId →
    frameField b 0 4 ≠ s.brId → s.srcOf (frameField b 0 4) hitch = some e → kindOk e b = true →
    s.forceBit (P.BR_SRC.TIMED.idx e) = false → (∀ l, (s.src e).time = some l → 0 < sext 32 (frameField b 10 4 + 2 ^ 32 - l)) →
    (s.src e).synced = true → d = (frameField b 8 2 + 2 ^ 16 - (s.src e).seq) % 2 ^ 16 →
    (d = 0 ∨ s.forceFld P.BR_CFG.SEQ_WIN < d) → e < 16 →
      (s.bridleReceive hitch b).src e = { s.src e with recover := 0 } ∧
      (s.bridleReceive hitch b).liveFld P.BR_TX_COUNTS.DUP =
        (if d = 0 then wrapAdd P.BR_TX_COUNTS.DUP.width (s.liveFld P.BR_TX_COUNTS.DUP) 1 else s.liveFld P.BR_TX_COUNTS.DUP) ∧
      (s.bridleReceive hitch b).liveFld P.BR_TX_COUNTS.SEQ_ERR =
        (if d = 0 then s.liveFld P.BR_TX_COUNTS.SEQ_ERR
          else wrapAdd P.BR_TX_COUNTS.SEQ_ERR.width (s.liveFld P.BR_TX_COUNTS.SEQ_ERR) 1) ∧
      (s.bridleReceive hitch b).fld P.BR_FLAGS.RX_ERR_SEEN = 1 ∧
      (∀ i, i ≠ e → (s.bridleReceive hitch b).src i = s.src i) ∧
      { s.bridleReceive hitch b with bridle := s.bridle, regs := s.regs, live := s.live, flagCnt := s.flagCnt } = s)

/-- Lane bring-up (Table 16.4, R356 to R358): an enabled and powered lane enters BEACON; BEACON sets for 100 µs take it to
TRAIN, 1 ms of adaptation to ALIGN; a slip is counted; an aligned lane is LINKED, or SECURE where the link it joins is
(R352); 39 slips without alignment are counted and take it back to BEACON, with adaptation running; adaptation freezes and
resumes. Every other lane stands as it did. A lane that is aligned itself waits in ALIGN for its peer, and says so in its
BEACON (R357). Completion, under conditions on the state and the operands alone: LANE_ENABLE, BEACON_SEEN, TRAINING_DONE,
ALIGN_SLIP, ALIGNMENT_DONE, ADAPTATION_FREEZE. -/
def Obligations.LaneBringUp : Prop :=
  (∀ (s : State) (t l : Nat), s.Awake → l < 8 → s.laneSt l = 0 → bitOf (s.fld P.HITCH_CTRL.LANE_EN) l = true →
    s.lanePowered l = true → ∃ u, exec (.laneEnable t l) s = .next u ∧ u.laneSt l = 1 ∧ (u.lanePhy l).since = (s.at_ t).now ∧
      (u.lanePhy l).bond = bitOf (s.fld P.HITCH_CTRL.BOND) (l / 2) ∧ (∀ j, j ≠ l → u.lanePhy j = s.lanePhy j) ∧
      (∀ k, k ≠ K.LANE_STATUS + l → u.reg k = s.reg k) ∧ { u with regs := s.regs, hitch := s.hitch, out := s.out } = s.at_ t) ∧
  (∀ (s : State) (t l p : Nat), s.Awake → l < 8 → p < 8 → s.laneSt l = 1 → (s.lanePhy l).since + 100000 ≤ (s.at_ t).now →
    ∃ u, exec (.beaconSeen t l p) s = .next u ∧ u.laneSt l = 2 ∧ u.fld (P.LANE_STATUS.LOCK.idx l) = 1 ∧
      u.fld (P.LANE_STATUS.PEER_LANE.idx l) = p ∧ (∀ k, k ≠ K.LANE_STATUS + l → u.reg k = s.reg k) ∧
      { u with regs := s.regs, hitch := s.hitch, out := s.out } = s.at_ t) ∧
  (∀ (s : State) (t l : Nat), s.Awake → l < 8 → s.laneSt l = 2 → (s.lanePhy l).since + 1000000 ≤ (s.at_ t).now →
    ∃ u, exec (.trainingDone t l) s = .next u ∧ u.laneSt l = 3 ∧ u.fld (P.LANE_STATUS.SLIPS.idx l) = 0 ∧
      (∀ k, k ≠ K.LANE_STATUS + l → u.reg k = s.reg k) ∧
      { u with regs := s.regs, hitch := s.hitch, out := s.out, fresh := s.fresh } = s.at_ t) ∧
  (∀ (s : State) (t l : Nat), s.Awake → l < 8 → s.laneSt l = 3 → s.bit P.HITCH_CTRL.AUTO_ALIGN = true →
    s.fld (P.LANE_STATUS.SLIPS.idx l) < 39 → ∃ u, exec (.alignSlip t l) s = .next u ∧
      u.fld (P.LANE_STATUS.SLIPS.idx l) = s.fld (P.LANE_STATUS.SLIPS.idx l) + 1 ∧ u.laneSt l = 3 ∧
      (∀ k, k ≠ K.LANE_STATUS + l → u.reg k = s.reg k) ∧ { u with regs := s.regs } = s.at_ t) ∧
  (∀ (s : State) (t l : Nat), s.Awake → l < 8 → s.laneSt l = 3 → ∃ u, exec (.alignmentDone t l ⟨true, true⟩) s = .next u ∧
      u.laneSt l = (if s.linkSecure (s.pickLink l) then 5 else 4) ∧ (u.lanePhy l).link = s.pickLink l ∧ (∀ j, j < 8 → j ≠ l → u.laneSt j = s.laneSt j) ∧
      u.now = (s.at_ t).now ∧ u.live = s.live ∧ u.scan = s.scan ∧ u.nv = s.nv) ∧
  (∀ (s : State) (t l : Nat) (p : Bool), s.Awake → l < 8 → s.laneSt l = 3 → s.fld (P.LANE_STATUS.SLIPS.idx l) = 39 →
    ∃ u, exec (.alignmentDone t l ⟨false, p⟩) s = .next u ∧ u.laneSt l = 1 ∧
      u.fld (P.LANE_STATUS.ALIGN_FAILS.idx l) = satAdd 4 (s.fld (P.LANE_STATUS.ALIGN_FAILS.idx l)) 1 ∧
      u.fld (P.LANE_STATUS.FROZEN.idx l) = 0 ∧ (∀ k, k ≠ K.LANE_STATUS + l → u.reg k = s.reg k) ∧
      { u with regs := s.regs, hitch := s.hitch, out := s.out, fresh := s.fresh } = s.at_ t) ∧
  (∀ (s : State) (t l : Nat) (f : Bool), s.Awake → l < 8 → 3 ≤ s.laneSt l → ∃ u, exec (.adaptationFreeze t l f) s = .next u ∧
      u.bit (P.LANE_STATUS.FROZEN.idx l) = f ∧ u.laneSt l = s.laneSt l ∧ (∀ k, k ≠ K.LANE_STATUS + l → u.reg k = s.reg k) ∧
      { u with regs := s.regs, hitch := s.hitch } = s.at_ t) ∧
  (∀ (s : State) (t l : Nat), s.Awake → l < 8 → s.laneSt l = 3 → ∃ u, exec (.alignmentDone t l ⟨true, false⟩) s = .next u ∧
    u.laneSt l = 3 ∧ (u.lanePhy l).aligned = true ∧ (∀ j, j ≠ l → u.lanePhy j = s.lanePhy j) ∧
    { u with hitch := s.hitch, out := s.out } = s.at_ t)

/-- A lane that loses lock detaches (R359): it is back in BEACON where it is enabled and OFF where it is not, out of lock, and
the loss is counted and flagged; at the peer's LEAVE every lane of the link detaches so. EYE_SCAN_DONE: once 2^DWELL bits of
0.16 ns have passed the scan ends, with its errors, BUSY clear and the result slot READY (R360). Completion, under
conditions on the state and the operands alone: LANE_DETACH, LEAVE_MESSAGE, EYE_SCAN_DONE. -/
def Obligations.LaneDetach : Prop :=
  (∀ (s : State) (t l : Nat), s.Awake → l < 8 → 2 ≤ s.laneSt l → s.laneSt l < 4 → s.hitch.eye = none →
    ∃ u, exec (.laneDetach t l) s = .next u ∧ u.laneSt l = (if bitOf (s.fld P.HITCH_CTRL.LANE_EN) l then 1 else 0) ∧
      u.fld (P.LANE_STATUS.LOCK.idx l) = 0 ∧ u.fld (P.LANE_STATUS.DETACHES.idx l) = (s.fld (P.LANE_STATUS.DETACHES.idx l) + 1) % 65536 ∧
      u.fld P.HITCH_FLAGS.DETACH_SEEN = 1 ∧ (∀ j, j < 8 → j ≠ l → u.reg (K.LANE_STATUS + j) = s.reg (K.LANE_STATUS + j)) ∧
      u.hitch.links = s.hitch.links ∧ u.now = (s.at_ t).now ∧ u.live = s.live ∧ u.scan = s.scan ∧ u.nv = s.nv) ∧
  (∀ (s : State) (t l : Nat), s.Awake → l < 8 → 4 ≤ s.laneSt l → ∃ u, exec (.laneDetach t l) s = .next u ∧
      u.laneSt l = (if bitOf (s.fld P.HITCH_CTRL.LANE_EN) l then 1 else 0) ∧ u.now = (s.at_ t).now ∧ u.nv = s.nv) ∧
  (∀ (s v : State) (t l : Nat) (w : LaneStreams) (b : List Byte), s.Awake → (s.at_ t).hitchReceive l 0x15 w = (some b, v) →
    exec (.leaveMessage t l w) s = .next (forEach (v.linkLanes (v.linkId l)) (fun j x => x.detachLane j 1) v)) ∧
  (∀ (s v : State) (t l : Nat) (w : LaneStreams), s.Awake → (s.at_ t).hitchReceive l 0x15 w = (none, v) →
    exec (.leaveMessage t l w) s = .next v) ∧
  (∀ (s : State) (t n : Nat) (e : EyeScan), s.Awake → s.hitch.eye = some e → n < 2 ^ 40 → e.start ≤ (s.at_ t).now →
    4 * 2 ^ e.dwell ≤ 25 * ((s.at_ t).now - e.start) → ∃ u, exec (.eyeScanDone t n) s = .next u ∧ u.hitch.eye = none ∧
      u.fld P.EYE_RESULT.ERRORS = n ∧ u.fld P.EYE_RESULT.DWELL_CUT = 0 ∧ u.fld P.EYE_RESULT.STATE = 1 ∧
      u.fld P.EYE_RESULT.SEQ = (s.fld P.EYE_RESULT.SEQ + 1) % 65536 ∧ u.fld P.EYE_CTRL.BUSY = 0 ∧
      (∀ k, k ≠ K.EYE_RESULT → k ≠ K.EYE_CTRL → u.reg k = s.reg k) ∧
      { u with hitch := s.hitch, regs := s.regs } = s.at_ t)

/-- The handshake of a link (R363 to R366): a retry sends HELLO anew; a peer's HELLO is kept and answered with the certificate;
certificate pieces are gathered, they end the wait of this end's HELLO (R362), and a whole certificate goes to verification;
verified, this end encapsulates and sends the ciphertext, and refused, the back-off doubles; the peer's ciphertext is
decapsulated; a FINISH that confirms makes the link's lanes SECURE, one that does not fails the step. A message unanswered
for 10 ms is sent again, and counted, up to three times; after that the link detaches (R362). What comes again on a link
shows that the answer was lost, and is answered again (R362): HELLO with the certificate, and FINISH with TEAM; the
certificate is sent again like any message without an answer. Completion, under conditions on the state and the operands
alone: HANDSHAKE_RETRY, HELLO, CERT, CERT_VERIFIED, KEM_CT, FINISH, HITCH_RETRY_TIMEOUT. -/
def Obligations.LinkHandshake : Prop :=
  (∀ (s : State) (t l r : Nat), s.Awake → l < 8 → s.laneSt l = 4 → (s.link (s.linkId l)).retryAt = some r → r ≤ (s.at_ t).now →
    s.bit P.HITCH_CTRL.TEAM_EN = true → ∃ u, exec (.handshakeRetry t l) s = .next u ∧
      (u.link (s.linkId l)).retryAt = none ∧ (u.link (s.linkId l)).backoff = (s.link (s.linkId l)).backoff ∧
      (u.link (s.linkId l)).helloTx.take 8 = leBytes 8 s.devId ∧ (u.link (s.linkId l)).helloRx = [] ∧
      Map.find? (u.link (s.linkId l)).waits 0x01 = some { sent := (s.at_ t).now, body := (u.link (s.linkId l)).helloTx } ∧
      u.out = ((s.at_ t).hitchSend (s.linkId l) 0x01 (u.link (s.linkId l)).helloTx).out ∧
      { u with hitch := s.hitch, out := s.out } = s.at_ t) ∧
  (∀ (s v : State) (t l : Nat) (w : LaneStreams) (b : List Byte), s.Awake → (s.at_ t).hitchReceive l 0x01 w = (some b, v) →
    leNat ((b.drop 8).take 1) ≤ 1 → leNat ((b.drop 9).take 1) ≤ 15 → 1 ≤ leNat ((b.drop 18).take 1) →
    leNat ((b.drop 18).take 1) ≤ 16 → leNat ((b.drop 19).take 1) ≤ 15 → bitOf (leNat ((b.drop 19).take 1)) (l / 2) = true →
    v.linkSecure (v.linkId l) = false → v.bit P.HITCH_CTRL.TEAM_EN = true → (v.link (v.linkId l)).retryAt = none →
    (v.link (v.linkId l)).helloRx ≠ b → leNat (b.take 8) ≠ v.devId → ∃ u, exec (.hello t l w) s = .next u ∧
      (u.link (v.linkId l)).helloRx = b ∧ Map.find? (u.link (v.linkId l)).waits 0x02 = some { sent := (s.at_ t).now } ∧
      u.out = (v.sendCert (v.linkId l)).out ∧ (∀ k, k ≠ v.linkId l → u.link k = s.link k) ∧ u.live = s.live ∧
      u.scan = s.scan ∧ u.nv = s.nv) ∧
  (∀ (s v : State) (t l : Nat) (w : LaneStreams) (b : List Byte), s.Awake → (s.at_ t).hitchReceive l 0x02 w = (some b, v) →
    leNat (b.take 4) + (b.length - 8) ≤ leNat ((b.drop 4).take 4) → (s.link (s.linkId l)).verifying = false →
    (s.link (s.linkId l)).certOk = false → (s.link (s.linkId l)).helloRx ≠ [] → (s.link (s.linkId l)).retryAt = none →
    ∃ u, exec (.cert t l w) s = .next u ∧ Map.find? (u.link (s.linkId l)).waits 0x01 = none ∧
      (u.link (s.linkId l)).pieces = Map.insert (s.link (s.linkId l)).pieces (leNat (b.take 4)) (b.drop 8) ∧
      ((u.link (s.linkId l)).verifying = true ↔ (assemble (Map.insert (s.link (s.linkId l)).pieces (leNat (b.take 4))
        (b.drop 8))).length = leNat ((b.drop 4).take 4)) ∧
      (∀ k, k ≠ s.linkId l → u.link k = s.link k) ∧ { u with hitch := s.hitch, fresh := s.fresh } = s.at_ t) ∧
  (∀ (s : State) (t l : Nat), s.Awake → l < 8 → (s.link (s.linkId l)).verifying = true →
    s.hitchCertOk (assemble (s.link (s.linkId l)).pieces) = true →
    frameField (assemble (s.link (s.linkId l)).pieces) 8 8 = (s.link (s.linkId l)).peerId →
    (s.link (s.linkId l)).peerId ≠ s.devId → ∃ u, exec (.certVerified t l) s = .next u ∧
      (u.link (s.linkId l)).certOk = true ∧ (u.link (s.linkId l)).verifying = false ∧
      (u.link (s.linkId l)).ctTx = (Config.mlKemEncaps (((assemble (s.link (s.linkId l)).pieces).drop 32).take 1184) s.fresh).1 ∧
      ((s.link (s.linkId l)).ctRx = [] → u.out =
        (({ s.at_ t with fresh := s.fresh + 1 } : State).hitchSend (s.linkId l) 0x03 (u.link (s.linkId l)).ctTx).out) ∧
      (∀ k, k ≠ s.linkId l → u.link k = s.link k) ∧
      { u with hitch := s.hitch, out := s.out, fresh := s.fresh } = s.at_ t) ∧
  (∀ (s : State) (t l : Nat), s.Awake → l < 8 → (s.link (s.linkId l)).verifying = true →
    s.hitchCertOk (assemble (s.link (s.linkId l)).pieces) = false → ∃ u, exec (.certVerified t l) s = .next u ∧
      (u.link (s.linkId l)).backoff = min 64 (2 * (s.link (s.linkId l)).backoff) ∧
      (u.link (s.linkId l)).retryAt = some ((s.at_ t).now + (s.link (s.linkId l)).backoff * 1000000000) ∧
      (u.link (s.linkId l)).verifying = false ∧ u.fld P.HITCH_FLAGS.AUTH_FAIL_SEEN = 1) ∧
  (∀ (s v : State) (t l : Nat) (w : LaneStreams) (b : List Byte), s.Awake → (s.at_ t).hitchReceive l 0x03 w = (some b, v) →
    (s.link (s.linkId l)).ctRx = [] → (s.link (s.linkId l)).helloRx ≠ [] → (s.link (s.linkId l)).retryAt = none →
    ∃ u, exec (.kemCt t l w) s = .next u ∧ (u.link (s.linkId l)).ctRx = b ∧
      (u.link (s.linkId l)).ssRx = Config.mlKemDecaps b ∧ Map.find? (u.link (s.linkId l)).waits 0x02 = none ∧
      { u with hitch := s.hitch, out := s.out, fresh := s.fresh } = s.at_ t) ∧
  (∀ (s v : State) (t l : Nat) (w : LaneStreams) (b : List Byte) (y : Session), s.Awake →
    (s.at_ t).hitchReceive l 0x04 w = (some b, v) →
    (v.link (v.linkId l)).session = some y → (v.link (v.linkId l)).finishOk = false →
    b.take 16 = (hmacSha256 y.macRx (labelFinish ++ v.transcript (v.linkId l))).take 16 →
    v.bit P.HITCH_CTRL.TEAM_AUTH = false → ∃ u, exec (.finish t l w) s = .next u ∧
      (u.link (v.linkId l)).finishOk = true ∧ Map.find? (u.link (v.linkId l)).waits 0x03 = none ∧
      (∀ j ∈ v.linkLanes (v.linkId l), u.laneSt j = 5) ∧
      (∀ j, j < 8 → j ∉ v.linkLanes (v.linkId l) → u.laneSt j = s.laneSt j) ∧ u.scan = s.scan ∧ u.nv = s.nv) ∧
  (∀ (s v : State) (t l : Nat) (w : LaneStreams) (b : List Byte) (y : Session), s.Awake →
    (s.at_ t).hitchReceive l 0x04 w = (some b, v) →
    (v.link (v.linkId l)).session = some y → (v.link (v.linkId l)).finishOk = false →
    b.take 16 ≠ (hmacSha256 y.macRx (labelFinish ++ v.transcript (v.linkId l))).take 16 →
    exec (.finish t l w) s = .next (v.authFail (v.linkId l) 2)) ∧
  (∀ (s : State) (t l k : Nat) (w : HitchWait), s.Awake → l < 8 → 4 ≤ s.laneSt l →
    Map.find? (s.link (s.linkId l)).waits k = some w →
    w.sent + 10000000 ≤ (s.at_ t).now → w.again < 3 → k ≠ 0x02 → ∃ u, exec (.hitchRetryTimeout t l k) s = .next u ∧
      Map.find? (u.link (s.linkId l)).waits k = some { sent := (s.at_ t).now, again := w.again + 1, body := w.body } ∧
      u.out = ((s.at_ t).hitchSend (s.linkId l) k w.body).out ∧
      (∀ j, j ≠ s.linkId l → u.link j = s.link j) ∧ { u with hitch := s.hitch, out := s.out, fresh := s.fresh } = s.at_ t) ∧
  (∀ (s : State) (t l k : Nat) (w : HitchWait), s.Awake → l < 8 → 4 ≤ s.laneSt l →
    Map.find? (s.link (s.linkId l)).waits k = some w →
    w.sent + 10000000 ≤ (s.at_ t).now → 3 ≤ w.again → exec (.hitchRetryTimeout t l k) s =
      .next (forEach (s.linkLanes (s.linkId l)) (fun j x => x.detachLane j 0) (s.at_ t))) ∧
  (∀ (s v : State) (t l : Nat) (w : LaneStreams) (b : List Byte), s.Awake → (s.at_ t).hitchReceive l 0x01 w = (some b, v) →
    leNat ((b.drop 8).take 1) ≤ 1 → leNat ((b.drop 9).take 1) ≤ 15 → 1 ≤ leNat ((b.drop 18).take 1) →
    leNat ((b.drop 18).take 1) ≤ 16 → leNat ((b.drop 19).take 1) ≤ 15 →
    v.linkSecure (v.linkId l) = false → v.bit P.HITCH_CTRL.TEAM_EN = true → (v.link (v.linkId l)).retryAt = none →
    (v.link (v.linkId l)).helloRx = b → exec (.hello t l w) s = .next (v.sendCert (v.linkId l))) ∧
  (∀ (s v : State) (t l : Nat) (w : LaneStreams) (b : List Byte) (y : Session), s.Awake →
    (s.at_ t).hitchReceive l 0x04 w = (some b, v) → (v.link (v.linkId l)).session = some y →
    (v.link (v.linkId l)).finishOk = true →
    exec (.finish t l w) s = .next (v.hitchSend (v.linkId l) 0x10 (teamBytes (v.teamOf v.table)))) ∧
  (∀ (s : State) (t l : Nat) (w : HitchWait), s.Awake → l < 8 → 4 ≤ s.laneSt l →
    Map.find? (s.link (s.linkId l)).waits 0x02 = some w → w.sent + 10000000 ≤ (s.at_ t).now → w.again < 3 →
    ∃ u, exec (.hitchRetryTimeout t l 0x02) s = .next u ∧
      Map.find? (u.link (s.linkId l)).waits 0x02 = some { sent := (s.at_ t).now, again := w.again + 1 } ∧
      u.out = ((s.at_ t).sendCert (s.linkId l)).out ∧ (∀ j, j ≠ s.linkId l → u.link j = s.link j) ∧
      { u with hitch := s.hitch, out := s.out, fresh := s.fresh } = s.at_ t)

/-- The team's messages (R56, R368 to R375): a new link's TEAM is kept for its turn and then decides by Table 16.7; the lead
admits the devices of a JOIN_REQ; a member takes its phase from the lead's SLOT, for the gait it asked for, and passes the
message on; a member takes its first epoch from EPOCH, for its first sweep from t_E on, and passes it on, encrypted anew for
each link; the lead keeps the gait of a PHASE_REQ with its slot and answers with SLOT; a slot held for 50 ms is due to be
freed; a Bridle frame on a team link is taken to the receive checks. The layouts of the bodies are the model's
(notes/assumptions 29). A SLOT message whose phase is not the one for the gait requested leaves TEAM_WAIT set (R44), and the
first task tick at or after a held slot's time frees it (R372). Completion, under conditions on the state and the operands
alone: TEAM, JOIN_REQ, SLOT, EPOCH, PHASE_REQ, SLOT_HOLD_EXPIRY, BRIDLE_MESSAGE, TASK_TICK. -/
def Obligations.TeamMessages : Prop :=
  (∀ (s v : State) (t l : Nat) (e o : List LaneWord) (b : List Byte) (x : TeamBody), s.Awake →
    (s.at_ t).hitchReceive l 0x10 ⟨e, o⟩ = (some b, v) → readTeam b = some x →
    (v.link (v.linkId l)).role = .none → exec (.team t l e o) s =
      .next ((v.hitchAnswered (v.linkId l) 0x04).withLink (v.linkId l) fun y => { y with teamHeld := some x }).teamTurns) ∧
  (∀ (s v : State) (t l : Nat) (e o : List LaneWord) (b : List Byte) (x : TeamBody), s.Awake →
    (s.at_ t).hitchReceive l 0x10 ⟨e, o⟩ = (some b, v) → readTeam b = some x → v.linkId l < 8 →
    (v.link (v.linkId l)).role = .none → x.lead = v.leadId → (∀ j, j ≠ v.linkId l → (v.link j).teamHeld = none) →
    (∀ j, j < v.linkId l → (v.link j).finishOk = false ∨ (v.link j).role ≠ .none) → ∃ u, exec (.team t l e o) s = .next u ∧
      (u.link (v.linkId l)).role = .standby ∧ u.leadId = s.leadId ∧ u.hitch.slots = s.hitch.slots ∧ u.scan = s.scan) ∧
  (∀ (s v : State) (t l : Nat) (e o : List LaneWord) (b : List Byte) (x : JoinBody), s.Awake →
    (s.at_ t).hitchReceive l 0x11 ⟨e, o⟩ = (some b, v) → readJoin b = some x → (v.link (v.linkId l)).role = .child →
    v.isMember = false → exec (.joinReq t l e o) s = .next (v.admitJoiners x)) ∧
  (∀ (s v : State) (t l g p : Nat) (e o : List LaneWord) (b : List Byte) (x : SlotBody), s.Awake →
    (s.at_ t).hitchReceive l 0x12 ⟨e, o⟩ = (some b, v) → readSlot b = some x → v.isMember = true → x.lead = v.leadId →
    (v.link (v.linkId l)).role = .parent → x.phases[v.fld P.TEAM_STATUS.OWN_SLOT]? = some (g, p) →
    g = v.fld P.GAIT.GAIT_NEXT → ∃ u, exec (.slot t l e o) s = .next u ∧
      u.scan.leadPhase = some p ∧ u.fld P.GAIT.TEAM_WAIT = 0 ∧ u.hitch.needPhase = false ∧
      u.out = (v.toChildren 0x12 b).out ∧ (∀ k, k ≠ K.GAIT → u.reg k = s.reg k) ∧ u.nv = s.nv ∧ u.live = s.live) ∧
  (∀ (s v : State) (t l n te : Nat) (e o : List LaneWord) (b sec : List Byte), s.Awake →
    (s.at_ t).hitchReceive l 0x13 ⟨e, o⟩ = (some b, v) → readEpoch b = ⟨v.leadId, some (n, sec, te), none⟩ →
    v.isMember = true → (v.link (v.linkId l)).role = .parent → v.hitch.needEpoch = true →
    ∃ u, exec (.epoch t l e o) s = .next u ∧
      u.scan = { s.scan with epochJoin := some ⟨n, sec, te, none⟩ } ∧ u.out = (v.toChildren 0x13 b).out ∧
      u.regs = s.regs ∧ u.hitch.needEpoch = false ∧ u.nv = s.nv ∧ u.live = s.live) ∧
  (∀ (s v : State) (t l g id n : Nat) (e o : List LaneWord) (b : List Byte), s.Awake →
    (s.at_ t).hitchReceive l 0x14 ⟨e, o⟩ = (some b, v) → readPhaseReq b = some (id, g) →
    (v.link (v.linkId l)).role = .child → v.isMember = false → slotOf v.table id = some n →
    ∃ u x, exec (.phaseReq t l e o) s = .next u ∧ Map.find? u.hitch.slots n = some x ∧ x.gait = g ∧
      u = (v.withHitch fun h => { h with slots := u.hitch.slots }).sendSlot ∧
      u.scan = s.scan ∧ u.regs = s.regs ∧ u.live = s.live) ∧
  (∀ (s : State) (t n : Nat) (x : TeamSlot), s.Awake → Map.find? s.hitch.slots n = some x → x.state = 2 →
    x.holdUntil ≤ (s.at_ t).now → ∃ u, exec (.slotHoldExpiry t n) s = .next u ∧
      Map.find? u.hitch.slots n = some { x with due := true } ∧
      (∀ m, m ≠ n → Map.find? u.hitch.slots m = Map.find? s.hitch.slots m) ∧ { u with hitch := s.hitch } = s.at_ t) ∧
  (∀ (s v : State) (t l : Nat) (w : LaneStreams) (b : List Byte), s.Awake → (s.at_ t).hitchReceive l 0x30 w = (some b, v) →
    v.teamLinks.contains (v.linkId l) = true → frameField b 4 4 ≠ 0xFFFFFFFF →
    exec (.bridleMessage t l w) s = .next (v.bridleReceive true b)) ∧
  (∀ (s v : State) (t l : Nat) (w : LaneStreams) (b : List Byte), s.Awake → (s.at_ t).hitchReceive l 0x30 w = (some b, v) →
    v.teamLinks.contains (v.linkId l) = false → exec (.bridleMessage t l w) s = .next v) ∧
  (∀ (s v : State) (t l g p : Nat) (e o : List LaneWord) (b : List Byte) (x : SlotBody), s.Awake →
    (s.at_ t).hitchReceive l 0x12 ⟨e, o⟩ = (some b, v) → readSlot b = some x → v.isMember = true → x.lead = v.leadId →
    (v.link (v.linkId l)).role = .parent → x.phases[v.fld P.TEAM_STATUS.OWN_SLOT]? = some (g, p) →
    g ≠ v.fld P.GAIT.GAIT_NEXT → ∃ u, exec (.slot t l e o) s = .next u ∧
      u.scan.leadPhase = some p ∧ u.hitch.needPhase = false ∧ u.regs = s.regs ∧ u.nv = s.nv ∧ u.live = s.live) ∧
  (∀ (s : State) (t : Nat), s.Awake → ∃ u, exec (.taskTick t) s = .next u ∧ u.now = (s.at_ t).now ∧
    ∀ e ∈ u.hitch.slots, e.2.state = 2 → e.2.due = false)

/-- Time transfer (R376, R377): a member with no exchange open starts one and sends the marker with its ID; a parent answers a
marker on a SECURE lane; a good answer closes the exchange and THETA shows its theta, half of 2 theta, an odd one rounded
either way (notes/assumptions 30); 1 ms without one is a miss, counted. Completion, under conditions on the state and the
operands alone: TIME_EXCHANGE_START, TSYNC_RECEIVE, TIME_RSP, TIME_EXCHANGE_MISS. -/
def Obligations.TimeTransfer : Prop :=
  (∀ (s : State) (t x l : Nat), s.Awake → s.parentLane = some l → s.hitch.xfer.open_ = none → s.hitch.xfer.lastStart = none →
    ∃ u, exec (.timeExchangeStart t x) s = .next u ∧
      u.hitch.xfer.open_ = some (s.hitch.xfer.nextId, (x : Int) + Map.get 0 s.ident.txLat l, (s.at_ t).now) ∧
      u.hitch.xfer.nextId = wrapAdd 8 s.hitch.xfer.nextId 1 ∧ u.out = ((s.at_ t).laneSend l 7 [tsyncSet s.hitch.xfer.nextId]).out ∧
      { u with hitch := s.hitch, out := s.out } = s.at_ t) ∧
  (∀ (s : State) (t l id rx tx : Nat), s.Awake → l < 8 → s.laneSt l = 5 → exec (.tsyncReceive t l id rx tx) s =
    .next ((s.at_ t).hitchSend (s.linkId l) 0x20 (leBytes 1 id ++ leBytes 8 (trunc 64 ((rx : Int) - s.rxDelay l)) ++
      leBytes 8 (trunc 64 ((tx : Int) + Map.get 0 s.ident.txLat l))))) ∧
  (∀ (s v : State) (t l x id start : Nat) (t1 d : Int) (w : LaneStreams) (b : List Byte), s.Awake →
    (s.at_ t).hitchReceive l 0x20 w = (some b, v) → v.hitch.xfer.open_ = some (id, t1, start) → leNat (b.take 1) = id →
    v.parentLane = some l → (s.at_ t).now ≤ start + 1000000 →
    d = (t1 - sext 64 (leNat ((b.drop 1).take 8))) + ((x : Int) - v.rxDelay l - sext 64 (leNat ((b.drop 9).take 8))) +
      sext 16 (wordFld (v.lanePhy l).cfg P.LANE_CFG.ASYM) → ∃ u, exec (.timeRsp t l w x) s = .next u ∧
      u.hitch.xfer.open_ = none ∧ (∃ r : Int, (r = 0 ∨ r = 1 ∧ d % 2 ≠ 0) ∧
        sext 32 (u.fld P.TIME_STATUS.THETA) = clampI (-2147483648) 2147483647 (d / 2 + r)) ∧
      (∀ k, k ≠ K.TIME_STATUS → k ≠ K.TEAM_STATUS → u.reg k = s.reg k) ∧ u.now = (s.at_ t).now ∧
      u.scan = s.scan ∧ u.live = s.live ∧ u.nv = s.nv) ∧
  (∀ (s : State) (t id start : Nat) (t1 : Int), s.Awake → s.hitch.xfer.open_ = some (id, t1, start) →
    start + 1000000 ≤ (s.at_ t).now →
    ∃ u, exec (.timeExchangeMiss t) s = .next u ∧ u.hitch.xfer.open_ = none ∧
      u.liveFld P.HITCH_COUNTS.TIME_MISSES = wrapAdd P.HITCH_COUNTS.TIME_MISSES.width (s.liveFld P.HITCH_COUNTS.TIME_MISSES) 1 ∧
      { u with hitch := s.hitch, live := s.live } = s.at_ t)

/-- A host write of a parameter (R384, R411, R418). An accepted one stores the RW bits it covers and has the parameter's own
effects, which a tap of the staged template has none of; a write that a check refuses, and one of a parameter without
writable bits, changes nothing but to set PROTECTED_SEEN and to form a record of its offset (R416); an offset of the window
that is no parameter's is ignored, and so is every write while the link moves no TLPs; Function 0's MSI-X table takes a
write of a word or half of it (R382, Table 17.2; the keys of its words are the model's, notes/assumptions 11). Completion,
under conditions on the state and the operands alone: BAR0_PARAM_WRITE. -/
def Obligations.ParameterWrite : Prop :=
  (∀ (s : State) (t key : Nat) (half : Half) (v c : Word), s.Accepts key ⟨t, .bar0 half, v, c⟩ → ∃ u w,
    exec (.bar0ParamWrite t key half v c) s = .next u ∧
    w = (s.at_ t).storeEntry ((maskBits 64 c.toNat).map (64 * key + ·)) (entryOf key ⟨t, .bar0 half, v, c⟩) ∧
    u = ((w.levelEffect key (s.reg key) ((s.merged (entryOf key ⟨t, .bar0 half, v, c⟩)).1)).orderEffect key
      (s.merged (entryOf key ⟨t, .bar0 half, v, c⟩)).1 (s.merged (entryOf key ⟨t, .bar0 half, v, c⟩)).2
      (coWord ((maskBits 64 c.toNat).map (64 * key + ·)) key)).runAsked) ∧
  (∀ (s : State) (t i : Nat) (half : Half) (v c : Word), i < 4 → s.Accepts (K.TPL_TAPS + i) ⟨t, .bar0 half, v, c⟩ → ∃ u,
    exec (.bar0ParamWrite t (K.TPL_TAPS + i) half v c) s = .next u ∧
    u.reg (K.TPL_TAPS + i) = s.mergedWord (K.TPL_TAPS + i) ⟨t, .bar0 half, v, c⟩ ∧
    u.SameRegs s [K.TPL_TAPS + i] ∧ { u with regs := s.regs } = s.at_ t) ∧
  (∀ (s : State) (t key : Nat) (half : Half) (v c : Word), s.HostOpen → s.OffBoundary t → (paramRow? key).isSome →
    (writableMask key = 0 ∨ (s.at_ t).entriesFail false [entryOf key ⟨t, .bar0 half, v, c⟩] ≠ none) → ∃ u,
    exec (.bar0ParamWrite t key half v c) s = .next u ∧ u.bit P.SALSOL_FLAGS.PROTECTED_SEEN = true ∧
    u.recs.log.getLast? = some ⟨0x1202, 12, 2, s.fld P.FAULT_LOG_STATUS.NEXT_SEQ, (s.at_ t).now,
      padTo 16 (leBytes 1 0 ++ leBytes 4 (0x100000 + 8 * key + (match half with | .high => 4 | _ => 0)))⟩ ∧
    u.SameRegs s [K.SALSOL_FLAGS, K.FAULT_LOG_STATUS] ∧ u.recs.queue = s.recs.queue ∧
    u.scan = s.scan ∧ u.mirror = s.mirror ∧ u.emit_ = s.emit_ ∧ u.sup = s.sup ∧ u.stamp = s.stamp ∧ u.hist = s.hist ∧
    u.host = s.host ∧ u.nv = s.nv ∧ u.out = s.out) ∧
  (∀ (s : State) (t key : Nat) (half : Half) (v c : Word), s.HostOpen → s.OffBoundary t → key < 0x10000 →
    paramRow? key = none → exec (.bar0ParamWrite t key half v c) s = .next (s.at_ t)) ∧
  (∀ (s : State) (t key : Nat) (half : Half) (v c : Word), s.Awake → s.linkUp = false →
    exec (.bar0ParamWrite t key half v c) s = .next s) ∧
  (∀ (s : State) (t n : Nat) (half : Half) (v c : Word), s.Awake → s.linkUp = true → n < 128 → ∃ u,
    exec (.bar0ParamWrite t (0x21E000 + n) half v c) s = .next u ∧
    Map.get 0 u.host.msix0.words n = ((Map.get 0 s.host.msix0.words n &&& ~~~ halfBits half) ||| (v &&& halfBits half)) ∧
    (∀ m, m ≠ n → Map.get 0 u.host.msix0.words m = Map.get 0 s.host.msix0.words m) ∧
    { u with host := s.host, out := s.out } = s.at_ t)

/-- R13: a W1C flag that the host writes 1 to clears, unless the hardware sets it in the same cycle: then it stays set, and both
of its counters go up by one (R484). A flag the host writes 0 to keeps its level. For every parameter whose writable bits
are W1C alone, written whole by BAR0. Completion, under conditions on the state and the operands alone: BAR0_PARAM_WRITE. -/
def Obligations.SetWins : Prop :=
  ∀ (s : State) (t key b : Nat) (v c : Word), accessMask key .rw = 0 → accessMask key .wo = 0 →
    s.Accepts key ⟨t, .bar0 .whole, v, c⟩ → isFlag key b = true → b < 64 → ∃ u,
    exec (.bar0ParamWrite t key .whole v c) s = .next u ∧
    (bitOf v.toNat b = true → bitOf c.toNat b = true → bitOf (u.reg key).toNat b = true ∧
      u.flagCounts (64 * key + b) = (wrapAdd 16 (s.flagCounts (64 * key + b)).1 1, wrapAdd 16 (s.flagCounts (64 * key + b)).2 1)) ∧
    (bitOf v.toNat b = true → bitOf c.toNat b = false → bitOf (u.reg key).toNat b = false ∧
      u.flagCounts (64 * key + b) = s.flagCounts (64 * key + b)) ∧
    (bitOf v.toNat b = false → bitOf (u.reg key).toNat b = bitOf (s.reg key).toNat b ∧
      u.flagCounts (64 * key + b) = s.flagCounts (64 * key + b)) ∧
    u.SameRegs s [key] ∧ { u with regs := s.regs, flagCnt := s.flagCnt } = s.at_ t

/-- R485: a write of FLAG_SEL copies the named bit's level and both counters into FLAG_VIEW; a key or bit with no W1C field is
refused. Completion, under conditions on the state and the operands alone: FLAG_SEL. -/
def Obligations.FlagSelection : Prop :=
  (∀ (s : State) (h : HostWrite) (k b : Nat), s.Accepts K.FLAG_SEL h → brings h P.FLAG_SEL.KEY k → brings h P.FLAG_SEL.BIT b →
    ∃ u, exec (.flagSel h) s = .next u ∧ isFlag k b = true ∧ u.fld P.FLAG_VIEW.LEVEL = ofBit (bitOf (s.reg k).toNat b) ∧
    u.fld P.FLAG_VIEW.SET_COUNT = (s.flagCounts (64 * k + b)).1 % 2 ^ 16 ∧
    u.fld P.FLAG_VIEW.COINC = (s.flagCounts (64 * k + b)).2 % 2 ^ 16 ∧ u.SameRegs s [K.FLAG_SEL, K.FLAG_VIEW] ∧
    { u with regs := s.regs } = s.at_ h.t) ∧
  (∀ (s : State) (h : HostWrite) (k b : Nat), brings h P.FLAG_SEL.KEY k → brings h P.FLAG_SEL.BIT b → isFlag k b = false →
    ¬ s.Accepts K.FLAG_SEL h)

/-- Writes of a selector copy one item's state into its view, and change nothing else (R12, R75, R84, R107, R115, R205, R225,
R287). Where a mean forms in the very cycle of a CLR_MINMAX write, its value is the first of the new tracking (R284, R287).
Completion, under conditions on the state and the operands alone: CNT_SEL, CAL_SEL, FREEZE_SEL, BG_SEL, MASK_SEL, EXP_SEL,
ACC_SEL. -/
def Obligations.ViewWrites : Prop :=
  (∀ (s : State) (h : HostWrite) (c : Nat), s.Accepts K.CNT_SEL h → brings h P.CNT_SEL.CHANNEL c → ∃ u,
    exec (.cntSel h) s = .next u ∧ u.fld P.CNT_A.STRAY = (s.ch c).stray % 2 ^ 32 ∧ u.fld P.CNT_A.GATED = (s.ch c).gated % 2 ^ 32 ∧
    u.fld P.CNT_B.DISARMED = (s.ch c).disarmed % 2 ^ 32 ∧ u.fld P.CNT_B.RATE_DROPS = (s.ch c).rateDrops % 2 ^ 32 ∧
    u.fld P.CNT_SEL.CHANNEL = c ∧ u.SameRegs s [K.CNT_SEL, K.CNT_A, K.CNT_B] ∧ { u with regs := s.regs } = s.at_ h.t) ∧
  (∀ (s : State) (h : HostWrite) (i : Nat), s.Accepts K.CAL_SEL h → brings h P.CAL_SEL.INPUT i → ∃ u,
    exec (.calSel h) s = .next u ∧ u.fldI P.CAL_VIEW.SKEW = sext 16 (trunc 16 (s.skewAt i)) ∧
    (i < 384 → u.fld P.CAL_VIEW.PATH = s.pathOf i % 9 ∧ u.bit P.CAL_VIEW.DEGRADED = (s.ch i).degraded ∧
      u.bit P.CAL_VIEW.LOST = (s.ch i).lost) ∧
    u.SameRegs s [K.CAL_SEL, K.CAL_VIEW] ∧ { u with regs := s.regs } = s.at_ h.t) ∧
  (∀ (s : State) (h : HostWrite) (c : Nat), s.Accepts K.FREEZE_SEL h → brings h P.FREEZE_SEL.CHANNEL c → ∃ u,
    exec (.freezeSel h) s = .next u ∧
    u.fld P.FREEZE_VIEW.STATE = (match (s.buf (2 * c)).st with | .filling => 0 | .handed => 1 | .read => 2 | .frozen => 3) ∧
    u.bit P.FREEZE_VIEW.BY_MASK = (s.buf (2 * c)).mask ∧ u.bit P.FREEZE_VIEW.BY_DUMP = (s.buf (2 * c)).dump ∧
    u.bit P.FREEZE_VIEW.POISON = (s.buf (2 * c)).poison ∧
    u.fld P.FREEZE_VIEW.STATE1 = (match (s.buf (2 * c + 1)).st with | .filling => 0 | .handed => 1 | .read => 2 | .frozen => 3) ∧
    u.bit P.FREEZE_VIEW.BY_MASK1 = (s.buf (2 * c + 1)).mask ∧ u.bit P.FREEZE_VIEW.BY_DUMP1 = (s.buf (2 * c + 1)).dump ∧
    u.bit P.FREEZE_VIEW.POISON1 = (s.buf (2 * c + 1)).poison ∧
    u.SameRegs s [K.FREEZE_SEL, K.FREEZE_VIEW] ∧ { u with regs := s.regs } = s.at_ h.t) ∧
  (∀ (s : State) (h : HostWrite) (c : Nat), s.Accepts K.BG_SEL h → brings h P.BG_SEL.CHANNEL c → ∃ u,
    exec (.bgSel h) s = .next u ∧ u.fld P.BG_VIEW.BQ = Map.get 0 s.bq c % 2 ^ 20 ∧ u.SameRegs s [K.BG_SEL, K.BG_VIEW] ∧
    { u with regs := s.regs } = s.at_ h.t) ∧
  (∀ (s : State) (h : HostWrite) (c : Nat) (m : ChanMask), s.Accepts K.MASK_SEL h → brings h P.MASK_SEL.CHANNEL c →
    m = Map.get {} s.masks c → ∃ u, exec (.maskSel h) s = .next u ∧ u.fld P.MASK_VIEW.FIRST_BIN = m.firstBin % 2 ^ 12 ∧
    u.fld P.MASK_VIEW.NBINS = m.nbins % 2 ^ 8 ∧ u.fld P.MASK_VIEW.COLUMN = m.column % 2 ^ 11 ∧
    u.fld P.MASK_VIEW.RUN = m.run % 16 ∧ u.fld P.MASK_VIEW.VIOL_CNT = m.violCnt % 2 ^ 24 ∧
    u.bit P.MASK_VIEW.TEST = m.full ∧ u.bit P.MASK_VIEW.UPPER = m.upper ∧ u.bit P.MASK_VIEW.LOWER = m.lower ∧
    u.fld P.MASK_VIEW.MASKED = ofBit (s.buf (2 * c)).mask + 2 * ofBit (s.buf (2 * c + 1)).mask ∧
    u.SameRegs s [K.MASK_SEL, K.MASK_VIEW] ∧ { u with regs := s.regs } = s.at_ h.t) ∧
  (∀ (s : State) (h : HostWrite) (b : Nat), s.Accepts K.EXP_SEL h → brings h P.EXP_SEL.BANK b → ∃ u,
    exec (.expSel h) s = .next u ∧ u.fld P.EXP_VIEW.ACC = s.acc b % 2 ^ 64 ∧ u.SameRegs s [K.EXP_SEL, K.EXP_VIEW] ∧
    { u with regs := s.regs } = s.at_ h.t) ∧
  (∀ (s : State) (h : HostWrite) (j c : Nat), s.Accepts K.ACC_SEL h → brings h P.ACC_SEL.ACC j →
    brings h P.ACC_SEL.CLR_MINMAX c → ∃ u, exec (.accSel h) s = .next u ∧
    u.fld P.ACC_VIEW.MEAN = trunc 16 ((s.hacc j).mean.getD 0) ∧ u.fld P.ACC_VIEW.MIN = trunc 16 (s.hacc j).lo ∧
    u.fld P.ACC_VIEW.MAX = trunc 16 (s.hacc j).hi ∧ u.bit P.ACC_VIEW.VALID = (s.hacc j).valid ∧
    u.fld P.ACC_VIEW.LEAVES = (s.hacc j).leaves % 2 ^ 13 ∧ u.fld P.ACC_VIEW.STATE = (s.hacc j).st.code % 4 ∧
    (c = 1 → h.coinc = 0 → u.hacc j = { s.hacc j with lo := 32767, hi := -32768 }) ∧ (∀ i, (i ≠ j ∨ c = 0) → u.hacc i = s.hacc i) ∧
    u.SameRegs s [K.ACC_SEL, K.ACC_VIEW] ∧ { u with regs := s.regs, hk := s.hk } = s.at_ h.t) ∧
  (∀ (s : State) (h : HostWrite) (j : Nat), s.Accepts K.ACC_SEL h → brings h P.ACC_SEL.ACC j → brings h P.ACC_SEL.CLR_MINMAX 1 →
    wordFld h.coinc P.ACC_SEL.CLR_MINMAX = 1 → ∃ u, exec (.accSel h) s = .next u ∧
      u.hacc j = { s.hacc j with lo := (s.hacc j).last, hi := (s.hacc j).last } ∧ (∀ i, i ≠ j → u.hacc i = s.hacc i) ∧
      u.SameRegs s [K.ACC_SEL, K.ACC_VIEW] ∧ { u with regs := s.regs, hk := s.hk } = s.at_ h.t)

/-- Accepted writes on the histogram, template, mask, Evoth and stream parameters: a dump of a target column waits for it (R102,
R103); a template and a swap go to each masked cluster by Table 5.4 (R118, R120, R121); a staged envelope waits in each
masked cluster (R185); MASK_RELEASE clears the MASK cause (R192); RESTART leaves no masked core halted or faulted (R161); a
keyframe is asked for in every region (R173); enabling a ring starts its offsets at 0 (R175), and RD_OFF takes the host's
value (R179). Completion, under conditions on the state and the operands alone: DUMP_REQ, TPL_COMMIT, TPL_SWAP, ENV_COMMIT,
MASK_RELEASE, EVOTH_RESTART, KEY_REQ, RING_ENABLE, RING_RD_WRITE. -/
def Obligations.ChainWrites : Prop :=
  (∀ (s : State) (h : HostWrite) (any col c n : Nat), s.Accepts K.DUMP_REQ h → brings h P.DUMP_REQ.FROZEN_SRC 0 →
    brings h P.DUMP_REQ.ANY_COL any → brings h P.DUMP_REQ.COLUMN col → brings h P.DUMP_REQ.CHANNEL c →
    brings h P.DUMP_REQ.COUNT n → ∃ u, exec (.dumpReq h) s = .next u ∧
    u.hist = { s.hist with dump := some ⟨false, any == 1, col, c, n, (s.at_ h.t).now, true, [], false⟩ } ∧
    u.fld P.DUMP_STATUS.BUSY = 1 ∧ u.fld P.DUMP_STATUS.WAITING = 1 ∧ u.fld P.DUMP_STATUS.SKIPPED = 0 ∧
    u.SameRegs s [K.DUMP_REQ, K.DUMP_STATUS] ∧ { u with regs := s.regs, hist := s.hist } = s.at_ h.t) ∧
  (∀ (s : State) (h : HostWrite) (b m k : Nat), s.Accepts K.TPL_COMMIT h → brings h P.TPL_COMMIT.BANK b →
    brings h P.TPL_COMMIT.CLUSTER_MASK m → k < 12 → ∃ u, exec (.tplCommit h) s = .next u ∧
    u.cluster k = (if bitOf m k then (s.cluster k).takeCommit b ((s.at_ h.t).now) s.stagedTemplate else s.cluster k) ∧
    u.SameRegs s [] ∧ { u with regs := s.regs, clusters := s.clusters } = s.at_ h.t) ∧
  (∀ (s : State) (h : HostWrite) (b f m k : Nat), s.Accepts K.TPL_SWAP h → brings h P.TPL_SWAP.BANK b →
    brings h P.TPL_SWAP.FADE_COLS f → brings h P.TPL_SWAP.CLUSTER_MASK m → k < 12 → ∃ u, exec (.tplSwap h) s = .next u ∧
    u.cluster k = (if bitOf m k then (s.cluster k).takeSwap b f ((s.at_ h.t).now) else s.cluster k) ∧
    u.SameRegs s [] ∧ { u with regs := s.regs, clusters := s.clusters } = s.at_ h.t) ∧
  (∀ (s : State) (h : HostWrite) (e m k : Nat), s.Accepts K.ENV_COMMIT h → brings h P.ENV_COMMIT.SET e →
    brings h P.ENV_COMMIT.CLUSTER_MASK m → k < 12 → ∃ u, exec (.envCommit h) s = .next u ∧
    u.cluster k = (if bitOf m k then { s.cluster k with envPend := Map.insert (s.cluster k).envPend e s.stagedEnv }
      else s.cluster k) ∧ u.SameRegs s [] ∧ { u with regs := s.regs, clusters := s.clusters } = s.at_ h.t) ∧
  (∀ (s : State) (h : HostWrite) (c : Nat), s.Accepts K.MASK_RELEASE h → brings h P.MASK_RELEASE.ALL 0 →
    brings h P.MASK_RELEASE.BUF0 1 → brings h P.MASK_RELEASE.BUF1 0 → brings h P.MASK_RELEASE.CHANNEL c → h.coinc = 0 → ∃ u,
    exec (.maskRelease h) s = .next u ∧ (u.buf (2 * c)).mask = false ∧
    ((u.buf (2 * c)).st = .frozen → (s.buf (2 * c)).dump = true) ∧ (∀ k, k ≠ 2 * c → u.buf k = s.buf k) ∧
    u.hist.words = s.hist.words ∧ u.SameRegs s [] ∧ { u with regs := s.regs, hist := s.hist } = s.at_ h.t) ∧
  (∀ (s : State) (h : HostWrite) (m q : Nat), s.Accepts K.EVOTH_CTRL h → brings h P.EVOTH_CTRL.RESTART m → m ≠ 0 → q < 16 →
    bitOf m q = true → ∃ u, exec (.evothRestart h) s = .next u ∧ u.fld (P.CORE_STATUS.HALTED.idx q) = 0 ∧
    u.fld (P.CORE_STATUS.FAULT_CODE.idx q) = 0 ∧ u.hist = s.hist ∧ u.mirror = s.mirror ∧ u.sup = s.sup ∧ u.out = s.out) ∧
  (∀ (s : State) (h : HostWrite), s.Accepts K.STREAM_CFG h → brings h P.STREAM_CFG.KEY_REQ 1 → ∃ u,
    exec (.keyReq h) s = .next u ∧ (∀ r < 4, u.stream r = { s.stream r with causes := (s.stream r).causes ||| 8 }) ∧
    u.reg K.STREAM_CFG = s.mergedWord K.STREAM_CFG h ∧ u.SameRegs s [K.STREAM_CFG] ∧
    { u with regs := s.regs, streams := s.streams } = s.at_ h.t) ∧
  (∀ (s : State) (ring : Nat) (h : HostWrite), isRing ring = true → s.Accepts (ringKey ring) h → s.ringOn ring = false →
    (s.setReg (ringKey ring) (s.mergedWord (ringKey ring) h)).ringOn ring = true → ∃ u,
    exec (.ringEnable ring h) s = .next u ∧ u.ringOn ring = true ∧ u.fld (ringWrField ring) = 0 ∧
    u.fld (ringRdField ring) = 0 ∧ (ring < 4 → (u.stream ring).causes = (s.stream ring).causes ||| 32) ∧
    u.SameRegs s [ringKey ring, (ringWrField ring).key, (ringRdField ring).key] ∧
    { u with regs := s.regs, streams := s.streams } = s.at_ h.t) ∧
  (∀ (s : State) (ring v : Nat) (h : HostWrite), isRing ring = true → s.Accepts (ringRdKey ring) h →
    brings h (ringRdField ring) v → ∃ u, exec (.ringRdWrite ring h) s = .next u ∧ u.fld (ringRdField ring) = v ∧
    u.SameRegs s [ringRdKey ring] ∧ { u with regs := s.regs } = s.at_ h.t)

/-- Reads of BAR0. A read of a low half returns it and keeps the high half, which the next read of the high half returns (R14,
R183); a read of a result slot's header takes READY to READ, and leaves every other state of the slot as it is (R182); a
read of REC_DATA removes the FIFO's head word, and from an empty FIFO it is an underrun (R202). Completion, under conditions
on the state and the operands alone: LOW_HALF_READ, RESULT_HEADER_READ, REC_DATA_READ. -/
def Obligations.HostReads : Prop :=
  (∀ (s : State) (t key : Nat), s.Awake → s.linkUp = true → key < 0x10000 → key ≠ K.REC_DATA → key ∉ resultHeaders → ∃ u,
    exec (.lowHalfRead t key .low) s = .next u ∧ u.out = .read key .low (((s.at_ t).readParam key).toNat % 2 ^ 32) :: s.out ∧
    Map.find? u.shadows (2 * key) = some (BitVec.ofNat 32 (((s.at_ t).readParam key).toNat / 2 ^ 32)) ∧
    { u with out := s.out, shadows := s.shadows } = s.at_ t) ∧
  (∀ (s : State) (t key : Nat) (x : BitVec 32), s.Awake → s.linkUp = true → key < 0x10000 → Map.find? s.shadows (2 * key) = some x → ∃ u,
    exec (.lowHalfRead t key .high) s = .next u ∧ u.out = .read key .high x.toNat :: s.out ∧
    Map.find? u.shadows (2 * key) = none ∧ { u with out := s.out, shadows := s.shadows } = s.at_ t) ∧
  (∀ (s : State) (t slot key : Nat), s.Awake → s.linkUp = true → resultHeaders[slot]? = some key → ∃ u,
    exec (.resultHeaderRead t slot .whole) s = .next u ∧
    u.out = .read key .whole ((s.at_ t).readParam key).toNat :: s.out ∧
    u.fld ⟨key, 47, 46⟩ = (if s.fld ⟨key, 47, 46⟩ = 1 then 2 else s.fld ⟨key, 47, 46⟩) ∧
    u.fld ⟨key, 63, 48⟩ = s.fld ⟨key, 63, 48⟩ ∧ u.SameRegs s [key] ∧ { u with out := s.out, regs := s.regs } = s.at_ t) ∧
  (∀ (s : State) (t : Nat) (w : FifoWord) (l : List FifoWord), s.Awake → s.linkUp = true → s.bit P.REC_CTRL.DRAIN = false →
    s.recSt ≠ 3 → s.recorder.due = [] → s.recorder.fifo = w :: l → ∃ u, exec (.recDataRead t .whole) s = .next u ∧
    u.out = .read K.REC_DATA .whole (BitVec.ofNat 64 w.word).toNat :: s.out ∧
    u.recorder = { s.recorder with fifo := l, lastWord := w.word } ∧ u.SameRegs s [K.REC_STATUS, K.REC_COUNTS] ∧
    { u with out := s.out, regs := s.regs, recorder := s.recorder } = s.at_ t) ∧
  (∀ (s : State) (t : Nat), s.Awake → s.linkUp = true → s.recSt ≠ 3 → s.recorder.due = [] → s.recorder.fifo = [] → ∃ u,
    exec (.recDataRead t .whole) s = .next u ∧
    u.out = .read K.REC_DATA .whole (BitVec.ofNat 64 s.recorder.lastWord).toNat :: s.out ∧ u.recorder = s.recorder ∧
    u.bit P.REC_STATUS.UNDERRUN = true ∧
    u.fld P.REC_COUNTS.UNDERRUNS = wrapAdd P.REC_COUNTS.UNDERRUNS.width (s.fld P.REC_COUNTS.UNDERRUNS) 1 ∧
    { u with out := s.out, regs := s.regs, flagCnt := s.flagCnt } = s.at_ t)

/-- The host port. LINK_UP and RETRAIN_DONE set the link's state (R380, R381); BUS_MASTER_ENABLE brings a function the host's
configuration: Bus Master Enable, the sizes the device honours, MSI-X and the BARs (R382, R385, R387, R396); the answers to
a table walk that can have come (R381, R387) cache a translation for the address, or stall the channel with the cause Table
17.6 gives (R390, R393); STU_INVALIDATION_DONE clears BUSY (R391); a doorbell within its ring is taken, and any other sets
DOORBELL_ERR and moves nothing (R403, R404); MB_GO copies the request of a mailbox that is free (R408). Completion, under
conditions on the state and the operands alone: LINK_UP, RETRAIN_DONE, BUS_MASTER_ENABLE, TABLE_WALK_COMPLETE,
STU_INVALIDATION_DONE, SQ_DOORBELL, CQ_DOORBELL, MB_GO. -/
def Obligations.HostPort : Prop :=
  (∀ (s : State) (t rate : Nat) (x8 : Bool), s.Awake → s.bit P.LINK_CTRL.LINK_UP = false → rate < 4 → ∃ u,
    exec (.linkUp t rate x8) s = .next u ∧ u.bit P.LINK_CTRL.LINK_UP = true ∧
    u.fld P.LINK_CTRL.CUR_RATE = (if s.ctl.linked then rate else 0) ∧ u.bit P.LINK_CTRL.X8 = x8 ∧ u.nv = s.nv ∧
    u.scan = s.scan ∧ u.mirror = s.mirror ∧ u.emit_ = s.emit_ ∧ u.sup = s.sup) ∧
  (∀ (s : State) (t rate : Nat) (x8 : Bool), s.Awake → s.host.retraining = true → rate ≤ s.fld P.LINK_CTRL.TARGET_RATE → ∃ u,
    exec (.retrainDone t rate x8) s = .next u ∧ u.host.retraining = false ∧ u.fld P.LINK_CTRL.CUR_RATE = rate ∧
    u.bit P.LINK_CTRL.X8 = x8 ∧ u.bridle.waiting = [] ∧ u.nv = s.nv ∧ u.scan = s.scan ∧ u.mirror = s.mirror ∧ u.sup = s.sup) ∧
  (∀ (s : State) (t : Nat) (c : FnConfig), s.Awake → s.linkUp = true → ∃ u, exec (.busMasterEnable t 0 c) s = .next u ∧
    u.host.bme0 = c.bme ∧ u.host.bme1 = s.host.bme1 ∧ u.fld P.DMA_STATE.BM_OFF = (if c.bme then 0 else 0xFF) ∧
    u.host.maxPayload = min 256 (128 * 2 ^ c.maxPayload) ∧ u.host.maxRead = min 512 (128 * 2 ^ c.maxRead) ∧
    u.host.timeout = c.timeout ∧ u.host.msix0.on = c.msixOn ∧ u.host.msix0.mask = c.msixMask ∧
    Map.get 0 u.host.bars 0 = c.bar0 % 2 ^ 64 / 2 ^ 24 * 2 ^ 24 ∧ u.nv = s.nv ∧
    u.scan = s.scan ∧ u.mirror = s.mirror ∧ u.sup = s.sup) ∧
  (∀ (s : State) (t : Nat) (c : FnConfig), s.Awake → s.linkUp = true → ∃ u, exec (.busMasterEnable t 1 c) s = .next u ∧
    u.host.bme1 = c.bme ∧ u.host.bme0 = s.host.bme0 ∧ u.host.msix1.on = c.msixOn ∧ u.host.msix1.mask = c.msixMask ∧
    Map.get 0 u.host.bars 4 = c.bar0 % 2 ^ 64 / 2 ^ 16 * 2 ^ 16 ∧ Map.get 0 u.host.bars 6 = c.bar2 % 2 ^ 64 / 2 ^ 12 * 2 ^ 12 ∧
    u.host.tlb = s.host.tlb ∧ u.host.chans = s.host.chans ∧ { u with host := s.host, out := s.out } = s.at_ t) ∧
  (∀ (s : State) (t c : Nat) (w : Walk) (l1 l2 : Option Word) (cause : Nat), s.Awake → c < 8 → (s.chan c).walk = some w →
    s.walkCheck c w l1 l2 = .inl cause → w.va < 2 ^ 48 → (s.chan c).resumeDue = false → s.walkCan l1 = true → ∃ u,
    exec (.tableWalkComplete t c l1 l2) s = .next u ∧
    u.bit (P.DMA_STATE.STALLED.bitAt c) = true ∧ u.fld (P.DMA_STATUS.FAULT_VA.idx c) = w.va ∧
    u.fld ((⟨0x1111, 35, 32⟩ : FieldRef).sub c 4) = cause ∧ u.bit (P.DMA_STATE.XLATE_FAULT.bitAt c) = true ∧
    u.host.tlb = s.host.tlb ∧ u.nv = s.nv ∧ u.scan = s.scan ∧ u.sup = s.sup) ∧
  (∀ (s : State) (t c : Nat) (w : Walk) (l1 l2 : Option Word) (e : TlbEntry), s.Awake → c < 8 → (s.chan c).walk = some w →
    s.walkCheck c w l1 l2 = .inr e → s.walkCan l1 = true → ∃ u, exec (.tableWalkComplete t c l1 l2) s = .next u ∧ e ∈ u.host.tlb ∧
    e.covers w.va = true ∧ u.host.tlb.length ≤ 64 ∧ u.nv = s.nv ∧ u.scan = s.scan ∧ u.sup = s.sup) ∧
  (∀ (s : State) (t c : Nat) (l1 l2 : Option Word), s.Awake → (s.chan c).walk = none →
    exec (.tableWalkComplete t c l1 l2) s = .next (s.at_ t)) ∧
  (∀ (s : State) (t : Nat), s.Awake → ∃ u, exec (.stuInvalidationDone t) s = .next u ∧ u.fld P.STU_INV.BUSY = 0 ∧
    u.SameRegs s [K.STU_INV] ∧ { u with regs := s.regs } = s.at_ t) ∧
  (∀ (s : State) (t v : Nat), s.Awake → s.linkUp = true → v < 2 ^ 32 →
    wrapAdd 32 v (2 ^ 32 - s.fld P.SQ_POS.SQ_RD) ≤ 2 ^ s.fld P.SQ_CFG.LOG2_ENTRIES → ∃ u,
    exec (.sqDoorbell t v 32) s = .next u ∧ u.fld P.SQ_POS.SQ_WR = v ∧ u.fld P.SQ_POS.SQ_RD = s.fld P.SQ_POS.SQ_RD ∧
    u.SameRegs s [K.SQ_POS] ∧ { u with regs := s.regs } = s.at_ t) ∧
  (∀ (s : State) (t v : Nat), s.Awake → s.linkUp = true → v < 2 ^ 32 →
    2 ^ s.fld P.SQ_CFG.LOG2_ENTRIES < wrapAdd 32 v (2 ^ 32 - s.fld P.SQ_POS.SQ_RD) → ∃ u,
    exec (.sqDoorbell t v 32) s = .next u ∧ u.reg K.SQ_POS = s.reg K.SQ_POS ∧ u.bit P.SALSOL_FLAGS.DOORBELL_ERR = true ∧
    u.salsol = s.salsol ∧ u.host = s.host ∧ u.nv = s.nv) ∧
  (∀ (s : State) (t v : Nat), s.Awake → s.linkUp = true → v < 2 ^ 32 →
    wrapAdd 32 v (2 ^ 32 - s.fld P.CQ_POS.CQ_RD) ≤ wrapAdd 32 (s.fld P.CQ_POS.CQ_WR) (2 ^ 32 - s.fld P.CQ_POS.CQ_RD) → ∃ u,
    exec (.cqDoorbell t v 32) s = .next u ∧ u.fld P.CQ_POS.CQ_RD = v ∧ u.fld P.CQ_POS.CQ_WR = s.fld P.CQ_POS.CQ_WR ∧
    u.SameRegs s [K.CQ_POS] ∧ { u with regs := s.regs } = s.at_ t) ∧
  (∀ (s : State) (t : Nat) (l : List Byte), s.Awake → s.linkUp = true → s.fld P.SALSOL_STATUS.MB_STATE ≠ 1 → ∃ u,
    exec (.mbGo t 1 l) s = .next u ∧ u.salsol = { s.salsol with mbRequest := padTo 2048 l, mbCmd := some (padTo 2048 l) } ∧
    u.fld P.SALSOL_STATUS.MB_STATE = 1 ∧ u.SameRegs s [K.SALSOL_STATUS] ∧
    { u with regs := s.regs, salsol := s.salsol } = s.at_ t) ∧
  (∀ (s : State) (t : Nat) (l : List Byte), s.Awake → s.linkUp = true → s.fld P.SALSOL_STATUS.MB_STATE = 1 → ∃ u,
    exec (.mbGo t 1 l) s = .next u ∧ u.salsol = s.salsol ∧ u.bit P.SALSOL_FLAGS.DOORBELL_ERR = true ∧
    u.SameRegs s [K.SALSOL_FLAGS] ∧ { u with regs := s.regs, flagCnt := s.flagCnt } = s.at_ t)

/-- The command rings (R402 to R406, R482). COMMAND_FETCH takes a command of one entry, once its translation is cached; a reply
and a notice leave for their rings through channel 7, a notice before the completions that have not begun (R180). NOP
answers with no data, IDENTIFY with Table 18.8's; RINGS_INIT starts the command rings afresh (R421). Completion, under
conditions on the state and the operands alone: COMMAND_FETCH, REPLY_WRITE, NOTICE_WRITE, NOP, IDENTIFY, RINGS_INIT. -/
def Obligations.CommandRings : Prop :=
  (∀ (s : State) (t pa : Nat) (b : List Byte), s.Awake → s.bit P.SQ_CFG.EN = true → s.chanFree 6 = true →
    s.fld P.SALSOL_STATUS.OUTSTANDING < 32 → s.sqPosted ≠ 0 → s.inRecovery = false → s.ctl.restart = none →
    s.host.fetchPart = [] → b.length = 64 → s.fetchEntries (natAt b 4 2) = 1 →
    s.translate 6 (s.fld P.SQ_CFG.BASE * 4096 + 64 * (s.fld P.SQ_POS.SQ_RD % s.sqEntries)) false = .ok pa → ∃ u,
    exec (.commandFetch t b) s = .next u ∧ u.salsol.fetched = s.salsol.fetched ++ [b] ∧ u.host.fetchPart = [] ∧
    u.fld P.SQ_POS.SQ_RD = wrapAdd 32 (s.fld P.SQ_POS.SQ_RD) 1 ∧
    u.fld P.SALSOL_STATUS.OUTSTANDING = s.fld P.SALSOL_STATUS.OUTSTANDING + 1 ∧
    u.out = .fetch (s.fld P.SQ_CFG.BASE * 4096 + 64 * (s.fld P.SQ_POS.SQ_RD % s.sqEntries)) pa 64 :: s.out ∧
    u.SameRegs s [K.SQ_POS, K.SALSOL_STATUS] ∧
    { u with regs := s.regs, salsol := s.salsol, host := s.host, out := s.out } = s.at_ t) ∧
  (∀ (s : State) (t : Nat) (r : Reply) (l : List Reply), s.Awake → s.salsol.replies = r :: l → s.bit P.CQ_CFG.EN = true →
    s.cqUsed + s.cqQueued + entriesOf r.bytes.length ≤ 2 ^ s.fld P.CQ_CFG.LOG2_ENTRIES → exec (.replyWrite t) s =
    .next (({ s.at_ t with salsol := { s.salsol with replies := l } } : State).dmaPush 7
      { payload := padTo (64 * entriesOf r.bytes.length) r.bytes, done := .reply (entriesOf r.bytes.length) (!r.quiet) })) ∧
  (∀ (s : State) (t : Nat) (r : Record) (l : List Record), s.Awake → s.recs.queue = r :: l → s.ringOn 7 = true →
    32 ≤ s.ringFree 7 → s.chanFree 7 = true → (s.chan 7).items.all (fun i => !i.started && i.isReply) = true → s.recs.held = 0 →
    exec (.noticeWrite t) s = .next ((({ s.at_ t with recs := { s.recs with queue := l } } : State).seqFixed.setChan 7
      { s.chan 7 with items := { payload := r.bytes, done := .notice } :: (s.chan 7).items }).pump 7)) ∧
  (∀ (s v : State) (t : Nat) (path : Sys2Proof.Path) (raw : List Byte), s.Executes t path raw 1 v →
    (readCommand path raw).body = [] → exec (.nop t path) s = .next (v.answerOk (readCommand path raw) []).commandOver) ∧
  (∀ (s v : State) (t : Nat) (path : Sys2Proof.Path) (raw : List Byte), s.Executes t path raw 2 v →
    (readCommand path raw).body = [] → exec (.identify t path) s = .next (v.answerOk (readCommand path raw)
      (leBytes 8 v.devId ++ leBytes 8 (v.reg K.BOOT_ID).toNat ++ leBytes 8 (v.reg K.FW_VERSION).toNat ++
        leBytes 8 (v.fld P.TACK_LOADED_VER.VERSION) ++ leBytes 2 (v.fld P.ID_INFO.STEP) ++ leBytes 1 (slotBits 4 v.nv.cmdKeys) ++
        leBytes 1 (v.fld P.TACK_STATUS.TACK_DEFAULTED) ++ leBytes 4 0)).commandOver) ∧
  (∀ (s v : State) (t : Nat) (path : Sys2Proof.Path) (raw : List Byte) (sq cq nt : Nat), s.Executes t path raw 4 v →
    (readCommand path raw).body = leBytes 8 sq ++ leBytes 8 cq ++ leBytes 8 nt → sq < 2 ^ 64 → cq < 2 ^ 64 → nt < 2 ^ 64 →
    ringsReservedOk sq cq nt = true → 4 ≤ bitsOf sq 3 0 → bitsOf sq 3 0 ≤ 10 → 6 ≤ bitsOf cq 3 0 → bitsOf cq 3 0 ≤ 12 → ∃ (w : State) (d : List Byte),
    exec (.ringsInit t path) s = .next (w.answerOk (readCommand path raw) d).commandOver ∧ w.reg K.SQ_CFG = BitVec.ofNat 64 sq ∧
    w.reg K.CQ_CFG = BitVec.ofNat 64 cq ∧ w.reg K.CQ_NOTIFY = BitVec.ofNat 64 nt ∧ w.reg K.SQ_POS = 0 ∧ w.reg K.CQ_POS = 0 ∧
    w.fld P.SALSOL_STATUS.OUTSTANDING = 0 ∧ w.salsol.fetched = [] ∧ w.salsol.replies = [] ∧ (w.chan 7).items = [] ∧
    d = leBytes 4 v.salsol.fetched.length ++
      leBytes 4 (v.salsol.replies.length + v.salsol.heldReply.toList.length + v.repliesInFlight) ∧ w.salsol.heldReply = none ∧
    w.scan = s.scan ∧ w.mirror = s.mirror ∧ w.sup = s.sup ∧ w.nv = s.nv)

/-- What every answer does (R405, R406, R411, R414, R416, Table 18.5): a command that fails one of the checks 1 to 6 is answered
with that check's status, whichever command it is, and has no other effect than Table 18.7's (ATTEST's three operations and
unknown opcodes with clauses of their own); a good answer is counted and put into its place, the mailbox's reply area, the
queue of the completion ring, or, where a RINGS_INIT waits, a place of its own (R421); PROTECTED sets PROTECTED_SEEN; a
command that is over is no longer shown in execution (R424). Completion, under conditions on the state and the operands
alone: NOP. -/
def Obligations.CommandReplies : Prop :=
  (∀ (s v : State) (t op : Nat) (path : Sys2Proof.Path) (raw : List Byte) (f : Failure) (i : Instr), s.Awake →
    s.OffBoundary t → s.nextPacket path = some raw → (readCommand path raw).opcode = op →
    (op, i) ∈ [(0x0001, Instr.nop t path), (0x0002, .identify t path), (0x0003, .profileApply t path []), (0x0004, .ringsInit t path),
      (0x0201, .setGait t path), (0x0202, .setField t path), (0x0410, .histDump t path), (0x0701, .streamMode t path),
      (0x0801, .recorder t path), (0x0901, .emittersOn t path), (0x0902, .emittersOff t path), (0x0A01, .mirror t path),
      (0x0D01, .calibrate t path), (0x0E01, .paddockDefine t path), (0x0E02, .paddockEnable t path), (0x0E03, .safeReset t path),
      (0x1001, .teamLeave t path), (0x1302, .tackCommit t path), (0x1303, .fwData t path), (0x8001, .paramRead t path),
      (0x8002, .paramWrite t path []), (0x8003, .faultLogRead t path), (0x8601, .evothLoad t path), (0x8602, .evothMsgRead t path),
      (0x9301, .keyEnroll t path), (0x9302, .keyRetire t path)] →
    (s.taken t path raw).checkHead (readCommand path raw) raw = (some f, v) →
    exec i s = .next (v.answerFail (readCommand path raw) f).commandOver ∧ v = s.taken t path raw) ∧
  (∀ (s : State) (c : Command) (d : List Byte), c.path = .ring → s.initWaits = false → (s.answerOk c d).salsol =
    { s.salsol with replies := s.salsol.replies ++
      [⟨replyHeader c.opcode c.tag (16 + d.length) 0 0xFFFF 0 ++ d, c.quiet⟩] } ∧
    (s.answerOk c d).liveFld P.SALSOL_COUNTS.EXECUTED =
      wrapAdd P.SALSOL_COUNTS.EXECUTED.width (s.liveFld P.SALSOL_COUNTS.EXECUTED) 1 ∧
    { s.answerOk c d with salsol := s.salsol, live := s.live } = s) ∧
  (∀ (s : State) (c : Command) (d : List Byte), c.path = .mailbox → (s.answerOk c d).salsol =
    { s.salsol with mbReply := replyHeader c.opcode c.tag (16 + d.length) 0 0xFFFF 0 ++ d } ∧
    (s.answerOk c d).fld P.SALSOL_STATUS.MB_STATE = 2 ∧ (s.answerOk c d).SameRegs s [K.SALSOL_STATUS] ∧
    (s.answerOk c d).out = (s.msix 0 0).out ∧ (s.answerOk c d).host = (s.msix 0 0).host ∧
    { s.answerOk c d with salsol := s.salsol, live := s.live, regs := s.regs, out := s.out, host := s.host } = s) ∧
  (∀ (s : State) (c : Command) (f : Failure), c.path = .ring → s.initWaits = false → (s.answerFail c f).salsol =
    { s.salsol with replies := s.salsol.replies ++
      [⟨replyHeader c.opcode c.tag 16 f.status.code f.detail f.key, false⟩] } ∧
    (s.answerFail c f).liveFld P.SALSOL_COUNTS.ERRORS =
      wrapAdd P.SALSOL_COUNTS.ERRORS.width (s.liveFld P.SALSOL_COUNTS.ERRORS) 1 ∧
    (f.status = .protected_ → (s.answerFail c f).bit P.SALSOL_FLAGS.PROTECTED_SEEN = true) ∧
    (f.status = .badTag ∨ f.status = .staleCounter → (s.answerFail c f).bit P.SALSOL_FLAGS.AUTH_FAIL_SEEN = true) ∧
    (s.answerFail c f).nv = s.nv ∧ (s.answerFail c f).scan = s.scan ∧ (s.answerFail c f).sup = s.sup ∧
    (s.answerFail c f).mirror = s.mirror ∧ (s.answerFail c f).emit_ = s.emit_ ∧ (s.answerFail c f).host = s.host) ∧
  (∀ (s v : State) (t : Nat) (path : Sys2Proof.Path) (raw : List Byte) (f : Failure) (i : Instr), s.Awake → s.OffBoundary t →
    s.nextPacket path = some raw → (readCommand path raw).opcode = 0x1301 →
    i = (match natAt (readCommand path raw).body 0 1 with
      | 1 => Instr.attestReadReport t path
      | 2 => .attestReadRecord t path
      | _ => .attestStart t path) → (s.taken t path raw).checkHead (readCommand path raw) raw = (some f, v) →
    exec i s = .next (v.answerFail (readCommand path raw) f).commandOver ∧ v = s.taken t path raw) ∧
  (∀ (s : State) (t : Nat) (path : Sys2Proof.Path) (raw : List Byte), s.Awake → s.OffBoundary t → s.nextPacket path = some raw →
    (readCommand path raw).opcode ∉ opcodes → ∃ f : Failure,
    exec (.nop t path) s = .next ((s.taken t path raw).answerFail (readCommand path raw) f).commandOver ∧
    (f.status = .badLength ∨ f.status = .badFormat ∨ f.status = .badOpcode) ∧ ((s.taken t path raw).lenBad (readCommand path raw) = false →
      (readCommand path raw).headBad raw = false → f.status = .badOpcode)) ∧
  (∀ (s : State) (c : Command) (d : List Byte), c.path = .ring → s.initWaits = true → (s.answerOk c d).salsol =
    { s.salsol with heldReply := some ⟨replyHeader c.opcode c.tag (16 + d.length) 0 0xFFFF 0 ++ d, c.quiet⟩ }) ∧
  (∀ s : State, s.commandOver.fld P.SALSOL_STATUS.EXECUTING = 0 ∧ s.commandOver.SameRegs s [K.SALSOL_STATUS] ∧
    s.commandOver.salsol = { s.salsol with replies := s.salsol.replies ++ s.salsol.heldReply.toList, heldReply := none } ∧
    { s.commandOver with salsol := s.salsol, regs := s.regs } = s)

/-- The basic commands are writes of the fields Table 18.8 (R415) names for them, with the values of their bodies: where those
writes pass (`w` being the state after them), the command is answered with no data. Completion, under conditions on the
state and the operands alone: SET_GAIT, SET_FIELD, HIST_DUMP, STREAM_MODE, RECORDER, EMITTERS_ON, EMITTERS_OFF, MIRROR,
CALIBRATE, SAFE_RESET, TEAM_LEAVE, PADDOCK_ENABLE, PADDOCK_DEFINE. -/
def Obligations.BasicCommands : Prop :=
  (∀ (s v w : State) (t g : Nat) (path : Sys2Proof.Path) (raw : List Byte), s.Executes t path raw 0x0201 v → g < 4 →
    (readCommand path raw).body = leBytes 8 g →
    v.basicWrites (readCommand path raw).auth [fieldEntry [(P.GAIT.GAIT_REQ, g)]] = .ok w →
    exec (.setGait t path) s = .next (w.answerOk (readCommand path raw) []).commandOver ∧ w.fld P.GAIT.GAIT_REQ = g ∧ w.gait = v.gait) ∧
  (∀ (s v w : State) (t x : Nat) (path : Sys2Proof.Path) (raw : List Byte), s.Executes t path raw 0x0202 v → x < 2 ^ 32 →
    (readCommand path raw).body = leBytes 8 x →
    v.basicWrites (readCommand path raw).auth [fieldEntry [(P.FIELD.W, x)]] = .ok w →
    exec (.setField t path) s = .next (w.answerOk (readCommand path raw) []).commandOver ∧ w.fld P.FIELD.W = x ∧ w.fieldW = v.fieldW) ∧
  (∀ (s v w : State) (t : Nat) (x : Word) (path : Sys2Proof.Path) (raw : List Byte), s.Executes t path raw 0x0410 v →
    (readCommand path raw).body = leBytes 8 x.toNat → x &&& ~~~ writableMask K.DUMP_REQ = 0 →
    v.basicWrites (readCommand path raw).auth [(⟨K.DUMP_REQ, writableMask K.DUMP_REQ, x⟩, true)] = .ok w →
    exec (.histDump t path) s = .next (w.answerOk (readCommand path raw) []).commandOver) ∧
  (∀ (s v w : State) (t d k m n : Nat) (path : Sys2Proof.Path) (raw : List Byte), s.Executes t path raw 0x0701 v → d < 2 → k < 256 →
    m < 2 ^ 16 → n < 2 ^ 16 → (readCommand path raw).body = leBytes 1 d ++ leBytes 1 k ++ leBytes 2 m ++ leBytes 2 n ++ leBytes 2 0 →
    v.basicWrites (readCommand path raw).auth [fieldEntry [(P.STREAM_CFG.KEY_INTERVAL, k), (P.STREAM_CFG.DELTA_EN, d)],
      fieldEntry [(P.DELTA_THR.DELTA_MM, m), (P.DELTA_THR.DELTA_INT, n)]] = .ok w →
    exec (.streamMode t path) s = .next (w.answerOk (readCommand path raw) []).commandOver ∧ w.fld P.STREAM_CFG.DELTA_EN = d ∧
    w.fld P.STREAM_CFG.KEY_INTERVAL = k) ∧
  (∀ (s v w : State) (t b : Nat) (path : Sys2Proof.Path) (raw : List Byte), s.Executes t path raw 0x0801 v → b < 8 →
    (readCommand path raw).body = leBytes 8 b → v.basicWrites (readCommand path raw).auth
      [fieldEntry [(P.REC_CTRL.SW_TRIG, bitsOf b 2 2), (P.REC_CTRL.MODE, bitsOf b 1 1), (P.REC_CTRL.EN, bitsOf b 0 0)]] = .ok w →
    exec (.recorder t path) s = .next (w.answerOk (readCommand path raw) []).commandOver ∧ w.fld P.REC_CTRL.EN = bitsOf b 0 0 ∧
    w.fld P.REC_CTRL.MODE = bitsOf b 1 1) ∧
  (∀ (s v w : State) (t m a b c d : Nat) (path : Sys2Proof.Path) (raw : List Byte), s.Executes t path raw 0x0901 v → m < 2 ^ 16 →
    a < 2 ^ 16 → b < 2 ^ 16 → c < 2 ^ 16 → d < 2 ^ 16 → (readCommand path raw).body =
      leBytes 2 m ++ leBytes 2 a ++ leBytes 2 b ++ leBytes 2 c ++ leBytes 2 d ++ leBytes 6 0 →
    v.basicWrites (readCommand path raw).auth (fieldEntry [(P.EMIT_CTRL.EMIT_EN, 1), (P.EMIT_CTRL.BANK_EN, m)] ::
      [(0, a), (1, b), (2, c), (3, d)].map (fun x => fieldEntry [(P.CHG_SET.SETPOINT.idx x.1, x.2),
        (P.CHG_SET.CH_EN.idx x.1, ofBit (decide (0 < x.2)))])) = .ok w →
    exec (.emittersOn t path) s = .next (w.answerOk (readCommand path raw) []).commandOver ∧ w.fld P.EMIT_CTRL.EMIT_EN = 1 ∧
    w.fld P.EMIT_CTRL.BANK_EN = m) ∧
  (∀ (s v w : State) (t : Nat) (path : Sys2Proof.Path) (raw : List Byte), s.Executes t path raw 0x0902 v →
    (readCommand path raw).body = [] → v.basicWrites (readCommand path raw).auth (fieldEntry [(P.EMIT_CTRL.EMIT_EN, 0)] ::
      [0, 1, 2, 3].map (fun k => fieldEntry [(P.CHG_SET.CH_EN.idx k, 0)])) = .ok w →
    exec (.emittersOff t path) s = .next (w.answerOk (readCommand path raw) []).commandOver ∧ w.fld P.EMIT_CTRL.EMIT_EN = 0 ∧
    (∀ k < 4, w.fld (P.CHG_SET.CH_EN.idx k) = 0 ∧ w.chgState k = 0)) ∧
  (∀ (s v w : State) (t m : Nat) (path : Sys2Proof.Path) (raw : List Byte), s.Executes t path raw 0x0A01 v → m < 3 →
    (readCommand path raw).body = leBytes 8 m → v.basicWrites (readCommand path raw).auth
      [fieldEntry [(P.MIR_CTRL.DRV_EN, ofBit (decide (1 ≤ m))), (P.MIR_CTRL.RUN, ofBit (m == 2))]] = .ok w →
    exec (.mirror t path) s = .next (w.answerOk (readCommand path raw) []).commandOver ∧ w.fld P.MIR_CTRL.DRV_EN = ofBit (decide (1 ≤ m))) ∧
  (∀ (s v w : State) (t : Nat) (path : Sys2Proof.Path) (raw : List Byte), s.Executes t path raw 0x0D01 v →
    (readCommand path raw).body = [] →
    v.basicWrites (readCommand path raw).auth [fieldEntry [(P.CAL_CTRL.RUN_REQ, 1)]] = .ok w →
    exec (.calibrate t path) s = .next (w.answerOk (readCommand path raw) []).commandOver ∧ w.farrier.waiting.isSome = true) ∧
  (∀ (s v w : State) (t : Nat) (path : Sys2Proof.Path) (raw : List Byte), s.Executes t path raw 0x0E03 v →
    (readCommand path raw).body = [] →
    v.basicWrites (readCommand path raw).auth [fieldEntry [(P.PD_CTRL.SAFE_RESET, 1)]] = .ok w →
    exec (.safeReset t path) s = .next (w.answerOk (readCommand path raw) []).commandOver ∧
    w.sup.resetAsked = some (v.fld P.SAFETY_STATUS.SAFE_CAUSE, v.fld P.SAFETY_STATUS.IN_FAULT, v.fld P.SAFETY_STATUS.OUT_FAULT)) ∧
  (∀ (s v w : State) (t : Nat) (path : Sys2Proof.Path) (raw : List Byte), s.Executes t path raw 0x1001 v →
    (readCommand path raw).body = [] →
    v.basicWrites (readCommand path raw).auth [fieldEntry [(P.HITCH_CMD.LEAVE, 1)]] = .ok w →
    exec (.teamLeave t path) s = .next (w.answerOk (readCommand path raw) []).commandOver ∧ w.sup = v.sup) ∧
  (∀ (s v w : State) (t a b : Nat) (path : Sys2Proof.Path) (raw : List Byte), s.Executes t path raw 0x0E02 v → a < 2 ^ 16 →
    b < 2 ^ 16 → a &&& b = 0 → (readCommand path raw).body = leBytes 2 a ++ leBytes 2 b ++ leBytes 4 0 →
    v.basicWrites (readCommand path raw).auth ((maskBits 16 b).map (fun p => fieldEntry [(P.PD_CFG.EN.idx p, 0)]) ++
      (maskBits 16 a).map (fun p => fieldEntry [(P.PD_CFG.EN.idx p, 1)])) = .ok w →
    exec (.paddockEnable t path) s = .next (w.answerOk (readCommand path raw) []).commandOver) ∧
  (∀ (s v w : State) (t p n : Nat) (path : Sys2Proof.Path) (raw b : List Byte), s.Executes t path raw 0x0E01 v →
    b = (readCommand path raw).body → natAt b 0 1 = p → natAt b 1 1 = n → p < 16 → 3 ≤ n → n ≤ 32 → natAt b 3 1 < 4 →
    b.length = 16 + up8 (4 * n) → allZero (bytesAt b 12 4) = true → allZero (b.drop (16 + 4 * n)) = true →
    v.basicWrites (readCommand path raw).auth (padDefineWrites b) = .ok w →
    exec (.paddockDefine t path) s = .next (w.showExecuting (some ⟨path, (readCommand path raw).bytes, p⟩)) ∧
    w.bit (P.PD_CFG.BUSY.idx p) = true)

/-- The expert commands. PARAM_READ answers with the value of every key (R417), PARAM_WRITE makes all of its writes or none
(R418), PROFILE_APPLY those of a profile of the stored Tack image (R419); FAULT_LOG_READ answers with the summary and the
oldest records from FROM_SEQ on (R481), EVOTH_MSG_READ with words of a core's message area (R422). Completion, under
conditions on the state and the operands alone: PARAM_READ, PARAM_WRITE, PROFILE_APPLY, FAULT_LOG_READ, EVOTH_MSG_READ. -/
def Obligations.ExpertCommands : Prop :=
  (∀ (s v : State) (t n : Nat) (path : Sys2Proof.Path) (raw b : List Byte), s.Executes t path raw 0x8001 v →
    b = (readCommand path raw).body → n = natAt b 0 2 → 8 ≤ b.length → 1 ≤ n → n ≤ 256 → b.length = 8 + up8 (2 * n) →
    (path = .mailbox → n ≤ 254) → allZero (bytesAt b 2 6) = true → allZero (b.drop (8 + 2 * n)) = true →
    (∀ k ∈ readKeys n b, (paramRow? k).isSome ∧ k ≠ K.REC_DATA ∧ k ∉ resultHeaders) →
    exec (.paramRead t path) s = .next (v.answerOk (readCommand path raw)
      ((readKeys n b).flatMap (fun k => leBytes 8 (v.readParam k).toNat))).commandOver) ∧
  (∀ (s v w : State) (t n : Nat) (co : List Nat) (path : Sys2Proof.Path) (raw b r : List Byte) (l : List Entry),
    s.Executes t path raw 0x8002 v → b = (readCommand path raw).body → n = natAt b 0 2 → 1 ≤ n → n ≤ 128 →
    b.length = 8 + 24 * n → allZero (bytesAt b 2 6) = true → entryReserved n b = none →
    readEntries n (b.drop 8) = some (l, r) → v.writeEntries (readCommand path raw).auth co l = .ok w →
    exec (.paramWrite t path co) s = .next ((w.answerOk (readCommand path raw) []).commandOver.runAsked)) ∧
  (∀ (s v : State) (t n : Nat) (co : List Nat) (path : Sys2Proof.Path) (raw b r : List Byte) (l : List Entry) (f : Failure),
    s.Executes t path raw 0x8002 v → b = (readCommand path raw).body → n = natAt b 0 2 → 1 ≤ n → n ≤ 128 →
    b.length = 8 + 24 * n → allZero (bytesAt b 2 6) = true → entryReserved n b = none →
    readEntries n (b.drop 8) = some (l, r) → v.writeEntries (readCommand path raw).auth co l = .error f →
    exec (.paramWrite t path co) s = .next (v.answerFail (readCommand path raw) f).commandOver) ∧
  (∀ (s v w : State) (t p : Nat) (co : List Nat) (path : Sys2Proof.Path) (raw : List Byte) (x : TackImage) (l : List Entry),
    s.Executes t path raw 0x0003 v → p < 16 → (readCommand path raw).body = leBytes 8 p → v.storedTack = .ok x →
    Map.find? x.profiles p = some l → v.writeEntries (readCommand path raw).auth co l = .ok w →
    exec (.profileApply t path co) s = .next ((w.answerOk (readCommand path raw) []).commandOver.runAsked)) ∧
  (∀ (s v : State) (t a n : Nat) (path : Sys2Proof.Path) (raw : List Byte), s.Executes t path raw 0x8003 v → a < 2 ^ 32 → 1 ≤ n →
    n ≤ 64 → (path = .mailbox → n ≠ 64) → (readCommand path raw).body = leBytes 4 a ++ leBytes 2 n ++ leBytes 2 0 → ∃ l : List Record,
    l = (v.recs.log.filter (fun r => decide ((r.seq + 2 ^ 32 - a) % 2 ^ 32 < 2 ^ 31))).take n ∧
    exec (.faultLogRead t path) s = .next (v.answerOk (readCommand path raw) (leBytes 4 (v.fld P.FAULT_LOG_STATUS.NEXT_SEQ) ++
      leBytes 4 (match v.recs.log with | r :: _ => r.seq | [] => v.fld P.FAULT_LOG_STATUS.NEXT_SEQ) ++
      leBytes 4 (v.fld P.FAULT_LOG_STATUS.OVERWRITTEN) ++ leBytes 2 l.length ++ leBytes 2 0 ++ l.flatMap Record.bytes)).commandOver) ∧
  (∀ (s v : State) (t q a n : Nat) (path : Sys2Proof.Path) (raw : List Byte), s.Executes t path raw 0x8602 v → q < 16 → a % 4 = 0 →
    n % 4 = 0 → 4 ≤ n → n ≤ 2048 → (path = .mailbox → n ≤ 2032) → a + n ≤ 8192 →
    (readCommand path raw).body = leBytes 1 q ++ leBytes 1 0 ++ leBytes 2 a ++ leBytes 2 n ++ leBytes 2 0 →
    exec (.evothMsgRead t path) s = .next (v.answerOk (readCommand path raw) ((List.range (n / 4)).flatMap (fun i =>
      leBytes 4 (Map.get 0 (v.core q).data ((0xE000 + a) / 4 + i)).toNat))).commandOver)

/-- Images in pieces (R420) and keys: a piece that continues its transfer is kept; the last one of a good image stores a Tack
image (R443), makes the bank that does not run pending (R433), or installs an Evoth image (R158); KEY_ENROLL and KEY_RETIRE
change the key of one kind and slot (R437 to R440). Completion, under conditions on the state and the operands alone:
TACK_COMMIT, FW_DATA, EVOTH_LOAD, KEY_ENROLL, KEY_RETIRE. -/
def Obligations.ImageCommands : Prop :=
  (∀ (s v : State) (t : Nat) (path : Sys2Proof.Path) (raw : List Byte) (p : Piece) (x : Xfer), s.Executes t path raw 0x1302 v →
    (readCommand path raw).Carries p → v.salsol.tack.take 65536 p = some x → x.whole = none → exec (.tackCommit t path) s =
    .next (({ v with salsol := { v.salsol with tack := x } } : State).answerOk (readCommand path raw) []).commandOver) ∧
  (∀ (s v : State) (t : Nat) (path : Sys2Proof.Path) (raw b : List Byte) (p : Piece) (x : Xfer), s.Executes t path raw 0x1302 v →
    (readCommand path raw).Carries p → v.salsol.tack.take 65536 p = some x → x.whole = some b → tackStorable b = true → ∃ w : State,
    exec (.tackCommit t path) s = .next (w.answerOk (readCommand path raw) []).commandOver ∧ 
    w.nv = { v.nv with tack := b, tackWrite := some v.now, tackTorn := none } ∧
    w.fld P.TACK_STORED_VER.VERSION = natAt b 8 8 ∧ w.salsol = { v.salsol with tack := {} } ∧
    { w with nv := v.nv, salsol := v.salsol, regs := v.regs } = v) ∧
  (∀ (s v : State) (t : Nat) (path : Sys2Proof.Path) (raw : List Byte) (p : Piece) (x : Xfer), s.Executes t path raw 0x1303 v →
    (readCommand path raw).Carries p → v.nv.trial = none → v.salsol.fw.take 393216 p = some x → x.whole = none → p.off ≠ 0 →
    exec (.fwData t path) s =
    .next (({ v with salsol := { v.salsol with fw := x } } : State).answerOk (readCommand path raw) []).commandOver) ∧
  (∀ (s v : State) (t : Nat) (path : Sys2Proof.Path) (raw : List Byte) (p : Piece) (x : Xfer), s.Executes t path raw 0x1303 v →
    (readCommand path raw).Carries p → v.nv.trial = none → v.salsol.fw.take 393216 p = some x → x.whole = none → p.off = 0 →
    ∃ w : State, exec (.fwData t path) s = .next (w.answerOk (readCommand path raw) []).commandOver ∧ w.salsol = { v.salsol with fw := x } ∧
    w.nv = (if v.bit P.FW_STATUS.RUNNING_BANK then { v.nv with bankA := none, pending := none }
      else { v.nv with bankB := none, pending := none }) ∧ { w with nv := v.nv, salsol := v.salsol } = v) ∧
  (∀ (s v : State) (t : Nat) (path : Sys2Proof.Path) (raw b : List Byte) (p : Piece) (x : Xfer), s.Executes t path raw 0x1303 v →
    (readCommand path raw).Carries p → v.nv.trial = none → v.salsol.fw.take 393216 p = some x → x.whole = some b → p.off ≠ 0 →
    fwHeaderOk b = true → bitOf v.nv.revoked (natAt b 7 1 - 1) = false →
    bothVerify (Config.rootKey (natAt b 7 1)) (digestBlock labelFirmware (b.take (64 + natAt b 16 4))) (b.drop (64 + natAt b 16 4)) = true →
    v.nv.rollback ≤ natAt b 6 1 → ∃ (w : State) (k : FwBank), exec (.fwData t path) s = .next (w.answerOk (readCommand path raw) []).commandOver ∧
    k = (⟨natAt b 6 1, natAt b 7 1, natAt b 8 8, natAt b 20 1 % 16, sha384 (b.take (64 + natAt b 16 4)), true, b⟩ : FwBank) ∧
    w.nv = (if v.bit P.FW_STATUS.RUNNING_BANK then { v.nv with bankA := some k, pending := some false }
      else { v.nv with bankB := some k, pending := some true }) ∧ w.salsol = { v.salsol with fw := {} } ∧
    { w with nv := v.nv, salsol := v.salsol } = v) ∧
  (∀ (s v : State) (t : Nat) (path : Sys2Proof.Path) (raw : List Byte) (p : Piece) (x : Xfer), s.Executes t path raw 0x8601 v →
    (readCommand path raw).Carries p → v.salsol.evoth.take 98304 p = some x → x.whole = none → exec (.evothLoad t path) s =
    .next (({ v with salsol := { v.salsol with evoth := x } } : State).answerOk (readCommand path raw) []).commandOver) ∧
  (∀ (s v : State) (t : Nat) (path : Sys2Proof.Path) (raw b : List Byte) (p : Piece) (x : Xfer) (keys : List Byte × List Byte),
    s.Executes t path raw 0x8601 v → (readCommand path raw).Carries p → v.salsol.evoth.take 98304 p = some x → x.whole = some b →
    evothHeaderOk b = true → natAt b 6 1 = 1 → Map.find? v.nv.imageKeys (natAt b 32 4) = some keys →
    bothVerify keys (digestBlock labelEvoth (b.take (64 + natAt b 8 4 + natAt b 12 4))) (b.drop (64 + natAt b 8 4 + natAt b 12 4)) = true →
    ∃ (w : State) (y : EvothImage), exec (.evothLoad t path) s = .next (w.answerOk (readCommand path raw) []).commandOver ∧ w.evoth = { v.evoth with refine := some y } ∧
    y.prog = bytesAt b 64 (natAt b 8 4) ∧ y.data = bytesAt b (64 + natAt b 8 4) (natAt b 12 4) ∧ y.entry = natAt b 16 4 ∧
    y.keySlot = natAt b 32 4 ∧ { w with evoth := v.evoth, salsol := v.salsol } = v) ∧
  (∀ (s v : State) (t q : Nat) (path : Sys2Proof.Path) (raw b : List Byte) (p : Piece) (x : Xfer) (keys : List Byte × List Byte),
    s.Executes t path raw 0x8601 v → (readCommand path raw).Carries p → v.salsol.evoth.take 98304 p = some x → x.whole = some b →
    evothHeaderOk b = true → natAt b 6 1 = 2 → Map.find? v.nv.imageKeys (natAt b 32 4) = some keys →
    bothVerify keys (digestBlock labelEvoth (b.take (64 + natAt b 8 4 + natAt b 12 4))) (b.drop (64 + natAt b 8 4 + natAt b 12 4)) = true →
    q < 16 → bitOf (natAt b 20 2) q = true → ∃ (w : State) (y : EvothImage),
    exec (.evothLoad t path) s = .next (w.answerOk (readCommand path raw) []).commandOver ∧ Map.find? w.evoth.bgImages q = some y ∧
    y.prog = bytesAt b 64 (natAt b 8 4) ∧ y.data = bytesAt b (64 + natAt b 8 4) (natAt b 12 4) ∧ y.entry = natAt b 16 4 ∧
    w.fld (P.CORE_STATUS.BG_LOADED.idx q) = 1 ∧ w.evoth.refine = v.evoth.refine ∧ w.nv = v.nv ∧ w.scan = v.scan ∧ w.sup = v.sup) ∧
  (∀ (s v : State) (t slot : Nat) (path : Sys2Proof.Path) (raw b : List Byte), s.Executes t path raw 0x9301 v →
    b = (readCommand path raw).body → b.length = 440 → natAt b 0 1 = 2 → natAt b 1 1 = slot → slot < 4 →
    allZero (bytesAt b 2 6) = true → (readCommand path raw).auth = true → ∃ w : State,
    exec (.keyEnroll t path) s = .next (w.answerOk (readCommand path raw) []).commandOver ∧
    w.nv = { v.nv with imageKeys := Map.insert v.nv.imageKeys slot (bytesAt b 8 384, bytesAt b 392 48) } ∧
    (∀ x, w.evoth.refine = some x → x.keySlot ≠ slot) ∧ w.salsol = v.salsol ∧ w.sup = v.sup) ∧
  (∀ (s v : State) (t slot : Nat) (path : Sys2Proof.Path) (raw b k : List Byte), s.Executes t path raw 0x9301 v →
    b = (readCommand path raw).body → b.length = 1144 → natAt b 0 1 = 1 → natAt b 1 1 = slot → slot < 4 →
    allZero (bytesAt b 2 6) = true → ((readCommand path raw).auth = true ∨ v.nv.cmdKeys = []) →
    v.unwrapKey 1 slot (b.drop 8) = some k → ∃ w : State,
    exec (.keyEnroll t path) s = .next (w.answerOk (readCommand path raw) []).commandOver ∧
    w.nv = { v.nv with cmdKeys := Map.insert v.nv.cmdKeys slot k } ∧ w.fld (P.KEY_STATE.LAST_COUNTER.idx slot) = 0 ∧
    w.SameRegs v [K.KEY_STATE + slot] ∧ { w with nv := v.nv, regs := v.regs } = v) ∧
  (∀ (s v : State) (t slot : Nat) (path : Sys2Proof.Path) (raw : List Byte), s.Executes t path raw 0x9302 v → slot < 4 →
    (readCommand path raw).body = leBytes 1 1 ++ leBytes 1 slot ++ leBytes 6 0 → (readCommand path raw).auth = true →
    (Map.find? v.nv.cmdKeys slot).isSome = true → v.nv.cmdKeys.length ≠ 1 → ∃ w : State,
    exec (.keyRetire t path) s = .next (w.answerOk (readCommand path raw) []).commandOver ∧
    w.nv = { v.nv with cmdKeys := Map.erase v.nv.cmdKeys slot } ∧ w.fld (P.KEY_STATE.LAST_COUNTER.idx slot) = 0 ∧
    w.SameRegs v [K.KEY_STATE + slot] ∧ { w with nv := v.nv, regs := v.regs } = v) ∧
  (∀ (s v : State) (t slot : Nat) (path : Sys2Proof.Path) (raw : List Byte), s.Executes t path raw 0x9302 v → slot < 4 →
    (readCommand path raw).body = leBytes 1 2 ++ leBytes 1 slot ++ leBytes 6 0 → (readCommand path raw).auth = true →
    (Map.find? v.nv.imageKeys slot).isSome = true → ∃ w : State,
    exec (.keyRetire t path) s = .next (w.answerOk (readCommand path raw) []).commandOver ∧
    w.nv = { v.nv with imageKeys := Map.erase v.nv.imageKeys slot } ∧
    (∀ x, w.evoth.refine = some x → x.keySlot ≠ slot) ∧ w.salsol = v.salsol ∧ w.sup = v.sup) ∧
  (∀ (s v : State) (t : Nat) (path : Sys2Proof.Path) (raw : List Byte), s.Executes t path raw 0x9302 v →
    (readCommand path raw).body = leBytes 8 3 → (readCommand path raw).auth = true → v.nv.teamKey.isSome = true →
    exec (.keyRetire t path) s =
    .next (({ v with nv := { v.nv with teamKey := none } } : State).answerOk (readCommand path raw) []).commandOver)

/-- Attestation (R430, R431): ATTEST of operation 0 takes the nonce and starts a computation, unless one runs; the report is
ready with 16,864 bytes, the first of them Table 19.6's; operations 1 and 2 read the report, after a copy of its header, and
the sections of the identity record. Completion, under conditions on the state and the operands alone: ATTEST_START,
ATTEST_REPORT_READY, ATTEST_READ_REPORT, ATTEST_READ_RECORD. -/
def Obligations.Attestation : Prop :=
  (∀ (s v : State) (t : Nat) (path : Sys2Proof.Path) (raw n : List Byte), s.Executes t path raw 0x1301 v → n.length = 32 →
    (readCommand path raw).body = leBytes 8 0 ++ n → v.attest.running = none → ∃ w : State,
    exec (.attestStart t path) s = .next (w.answerOk (readCommand path raw) []).commandOver ∧
    w.attest = { v.attest with running := some (n, v.now) } ∧ w.fld P.ATTEST_HDR.STATE ≠ 2 ∧ w.SameRegs v [K.ATTEST_HDR] ∧
    { w with attest := v.attest, regs := v.regs } = v) ∧
  (∀ (s : State) (t t0 : Nat) (n : List Byte), s.Awake → s.attest.running = some (n, t0) → ∃ u sig,
    exec (.attestReportReady t) s = .next u ∧ u.attest.running = none ∧ u.attest.report = s.reportBody n t0 ++ sig ∧
    sig.length = 16608 ∧ u.fld P.ATTEST_HDR.REPORT_LEN = 16864 ∧ u.fld P.ATTEST_HDR.STATE = 1 ∧
    u.fld P.ATTEST_HDR.SEQ = wrapAdd 16 (s.fld P.ATTEST_HDR.SEQ) 1 ∧ u.SameRegs s [K.ATTEST_HDR] ∧
    { u with attest := s.attest, regs := s.regs, fresh := s.fresh } = s.at_ t) ∧
  (∀ (s v : State) (t a n : Nat) (path : Sys2Proof.Path) (raw : List Byte), s.Executes t path raw 0x1301 v → a < 2 ^ 32 → a % 8 = 0 →
    n % 8 = 0 → 8 ≤ n → n ≤ 4072 → (path = .mailbox → n ≤ 2024) → a + n ≤ v.fld P.ATTEST_HDR.REPORT_LEN →
    (readCommand path raw).body = leBytes 4 1 ++ leBytes 4 a ++ leBytes 4 n ++ leBytes 4 0 → ∃ w : State,
    exec (.attestReadReport t path) s = .next (w.answerOk (readCommand path raw)
      (leBytes 8 (v.reg K.ATTEST_HDR).toNat ++ bytesAt v.attest.report a n)).commandOver ∧
    w.fld P.ATTEST_HDR.STATE = (if a = 0 ∧ v.fld P.ATTEST_HDR.STATE = 1 then 2 else v.fld P.ATTEST_HDR.STATE) ∧
    w.SameRegs v [K.ATTEST_HDR] ∧ { w with regs := v.regs } = v) ∧
  (∀ (s v : State) (t k a n : Nat) (path : Sys2Proof.Path) (raw : List Byte), s.Executes t path raw 0x1301 v → k ≤ 4 → a < 2 ^ 32 →
    a % 8 = 0 → n % 8 = 0 → 8 ≤ n → n ≤ 4072 → (path = .mailbox → n ≤ 2024) → a + n ≤ (v.ident.section_ k).length →
    (readCommand path raw).body = leBytes 1 2 ++ leBytes 1 k ++ leBytes 2 0 ++ leBytes 4 a ++ leBytes 4 n ++ leBytes 4 0 →
    exec (.attestReadRecord t path) s = .next (v.answerOk (readCommand path raw) (bytesAt (v.ident.section_ k) a n)).commandOver)

/-- Accepted writes on the host port, the firmware, the clock and the power states: RETRAIN starts a training (R381); STU_INV
removes the cached translations of a page, or all (R391); RESUME walks the faulting page again, or waits where four walks
are outstanding or no TLP can move, and ABORT discards the stalled item (R381, R387, R392, R395); CONFIRM makes the running
bank the active one and burns ROLLBACK (R435); PFD_MODE waits for the next boundary (R449); a power state is asked for
(R456); RESUME clears the thermal latch (R466); a detector transfer is asked for (R497). Completion, under conditions on the
state and the operands alone: RETRAIN, STU_INV, DMA_RESUME, DMA_ABORT, CONFIRM, PFD_MODE_WRITE, POWER_STATE_REQUEST, RESUME,
DCL_XFER. -/
def Obligations.SystemWrites : Prop :=
  (∀ (s : State) (h : HostWrite), s.Accepts K.LINK_CTRL h → brings h P.LINK_CTRL.RETRAIN 1 → ∃ u,
    exec (.retrain h) s = .next u ∧ u.host = { s.host with retraining := true } ∧ u.linkUp = false ∧
    u.SameRegs s [K.LINK_CTRL] ∧ { u with regs := s.regs, host := s.host } = s.at_ h.t) ∧
  (∀ (s : State) (h : HostWrite), s.Accepts K.STU_INV h → brings h P.STU_INV.START 1 → ∃ u, exec (.stuInv h) s = .next u ∧
    u.fld P.STU_INV.BUSY = 1 ∧ (∀ e, e ∈ u.host.tlb ↔
      e ∈ s.host.tlb ∧ u.bit P.STU_INV.ALL = false ∧ e.covers (u.fld P.STU_INV.VA * 4096) = false) ∧
    u.SameRegs s [K.STU_INV] ∧ { u with regs := s.regs, host := { u.host with tlb := s.host.tlb } } = s.at_ h.t) ∧
  (∀ (s : State) (c : Nat) (h : HostWrite), s.Accepts K.DMA_CMD h → brings h P.DMA_CMD.ACTION 1 →
    brings h P.DMA_CMD.CHANNEL c → s.inWindow (s.fld (P.DMA_STATUS.FAULT_VA.idx c)) = true → s.walks < 4 →
    s.linkUp = true → s.host.bme0 = true → ∃ u,
    exec (.dmaResume h) s = .next u ∧ u.chan c = { s.chan c with
      walk := some ⟨s.fld (P.DMA_STATUS.FAULT_VA.idx c), true, decide (c ≠ 6)⟩, resumeDue := false } ∧
    u.liveFld P.STU_COUNTS.TLB_MISSES = wrapAdd 32 (s.liveFld P.STU_COUNTS.TLB_MISSES) 1 ∧
    u.out = .tableRead c (s.fld P.STU_L1_BASE.L1_BASE * 4096 +
      8 * ((s.fld (P.DMA_STATUS.FAULT_VA.idx c) - s.fld P.STU_CFG.WIN_LO * 2 ^ 21) / 2 ^ 21)) :: s.out ∧
    u.SameRegs s [] ∧ { u with regs := s.regs, host := s.host, live := s.live, out := s.out } = s.at_ h.t) ∧
  (∀ (s : State) (i : DmaItem) (n m : Nat) (h : HostWrite), s.Accepts K.DMA_CMD h → brings h P.DMA_CMD.ACTION 2 →
    brings h P.DMA_CMD.CHANNEL 5 → (s.chan 5).items = [i] → i.done = .capture n m → ∃ u, exec (.dmaAbort h) s = .next u ∧
    (u.chan 5).items = [] ∧ (u.chan 5).walk = none ∧ u.bit (P.DMA_STATE.STALLED.bitAt 5) = false ∧
    u.fld P.REC_COUNTS.REC_DROPPED = wrapAdd P.REC_COUNTS.REC_DROPPED.width (s.fld P.REC_COUNTS.REC_DROPPED) 1 ∧
    u.SameRegs s [K.DMA_STATE, K.REC_COUNTS] ∧ { u with regs := s.regs, host := s.host } = s.at_ h.t) ∧
  (∀ (s : State) (h : HostWrite), s.Accepts K.FW_CTRL h → brings h P.FW_CTRL.CONFIRM 1 → ∃ u, exec (.confirm h) s = .next u ∧
    s.nv.trial.isSome = true ∧ u.nv.trial = none ∧ u.nv.activeB = s.bit P.FW_STATUS.RUNNING_BANK ∧ s.nv.rollback ≤ u.nv.rollback ∧
    (∀ b, (if s.bit P.FW_STATUS.RUNNING_BANK then s.nv.bankB else s.nv.bankA) = some b →
      u.nv.rollback = max s.nv.rollback b.svn ∧ u.nv.revoked = s.nv.revoked ||| b.revoke) ∧ u.SameRegs s [] ∧
    { u with regs := s.regs, nv := s.nv } = s.at_ h.t) ∧
  (∀ (s : State) (m : Nat) (h : HostWrite), s.Accepts K.CLK_CTRL h → brings h P.CLK_CTRL.PFD_MODE m → ∃ u,
    exec (.pfdModeWrite h) s = .next u ∧ u.fld P.CLK_CTRL.PFD_MODE = m ∧
    u.power = { s.power with pfdPend := some (pfdDividers m), pfdDue := false } ∧ u.SameRegs s [K.CLK_CTRL] ∧
    { u with regs := s.regs, power := s.power } = s.at_ h.t) ∧
  (∀ (s : State) (x : Nat) (h : HostWrite), s.Accepts K.PWR_CTRL h → brings h P.PWR_CTRL.STATE x →
    x ≠ s.fld P.PWR_STATUS.STATE → ∃ u, exec (.powerStateRequest h) s = .next u ∧ u.fld P.PWR_STATUS.TRANSITION = 1 ∧
    u.fld P.PWR_STATUS.STATE = s.fld P.PWR_STATUS.STATE ∧ u.power.target = some x ∧
    u.power.draining = decide (s.fld P.PWR_STATUS.STATE < x) ∧ u.nv = s.nv ∧ u.now = (s.at_ h.t).now) ∧
  (∀ (s : State) (h : HostWrite), s.Accepts K.THERM_CTRL h → brings h P.THERM_CTRL.RESUME 1 → ∃ u,
    exec (.resume h) s = .next u ∧ u.fld P.THERM_STATUS.THERM_STATE = ofBit s.power.warn ∧ bitOf u.sup.present 4 = false ∧
    u.SameRegs s [K.THERM_STATUS] ∧ { u with regs := s.regs, sup := s.sup } = s.at_ h.t) ∧
  (∀ (s : State) (l w a d : Nat) (h : HostWrite), s.Accepts K.DCL_XFER h → brings h P.DCL_XFER.LANE l →
    brings h P.DCL_XFER.WRITE w → brings h P.DCL_XFER.ADDR a → brings h P.DCL_XFER.DATA d → ∃ u,
    exec (.dclXfer h) s = .next u ∧ u.dcl = some ⟨l, w == 1, a, d, (s.at_ h.t).now, false, 0⟩ ∧ u.SameRegs s [] ∧
    { u with regs := s.regs, dcl := s.dcl } = s.at_ h.t) ∧
  (∀ (s : State) (c : Nat) (h : HostWrite), s.Accepts K.DMA_CMD h → brings h P.DMA_CMD.ACTION 1 →
    brings h P.DMA_CMD.CHANNEL c → s.inWindow (s.fld (P.DMA_STATUS.FAULT_VA.idx c)) = true →
    (4 ≤ s.walks ∨ s.linkUp = false ∨ s.host.bme0 = false) → ∃ u, exec (.dmaResume h) s = .next u ∧
    u.chan c = { s.chan c with resumeDue := true } ∧ u.SameRegs s [] ∧
    { u with regs := s.regs, host := s.host } = s.at_ h.t)

/-- Power states and domains (R455, R456, R511): the requested state comes into force when its domains have switched, or, where
it has domains off that the ranging chain needs, once the chain is empty; DOMAIN_ON then shows the switched domains. The
clock (R446 to R450): 140 ns without an edge lose the reference, and locked PLLs hold over; 1,024 good edges bring it back,
and held PLLs relock; a lock is shown as LOCKED; the divider shadows are taken in at the first edge after the boundary.
Completion, under conditions on the state and the operands alone: POWER_TRANSITION_DONE, DOMAIN_SWITCH_OFF, REF_LOST,
REF_PRESENT, PLL_LOCKED, PFD_SHADOW_LOAD. -/
def Obligations.PowerAndClock : Prop :=
  (∀ (s : State) (t st : Nat), s.Awake → s.power.target = some st → st ≤ 2 → s.power.draining = false →
    ∃ u, exec (.powerTransitionDone t) s = .next u ∧ u.fld P.PWR_STATUS.STATE = st ∧ u.fld P.PWR_STATUS.TRANSITION = 0 ∧
      u.power.target = none ∧ u.nv = s.nv) ∧
  (∀ (s : State) (t st : Nat), s.Awake → s.power.target = some st → st ≤ 2 → s.power.draining = true → s.chainEmpty = true →
    s.ctl.restart = none → ∃ u, exec (.domainSwitchOff t) s = .next u ∧ u.fld P.PWR_STATUS.STATE = st ∧
      u.fld P.PWR_STATUS.TRANSITION = 0 ∧ u.power.target = none ∧ u.power.draining = false ∧ u.nv = s.nv) ∧
  (∀ (s : State) (t st : Nat), s.Awake → s.power.target = some st → s.power.draining = true → s.chainEmpty = false →
    exec (.domainSwitchOff t) s = .next s ∧ exec (.powerTransitionDone t) s = .next s) ∧
  (∀ (s : State) (on : Nat) (ret : Bool), on < 2 ^ 36 → (s.setDomains on ret).fld P.PWR_STATUS.DOMAIN_ON = on) ∧
  (∀ (s : State) (t : Nat), s.Awake → s.bit P.CLK_STATUS.REF_PRESENT = true → ∃ u, exec (.refLost t) s = .next u ∧
      u.fld P.CLK_STATUS.REF_PRESENT = 0 ∧ u.pll = (if s.pll = 1 ∨ s.pll = 3 then 2 else s.pll) ∧
      u.fld P.CLK_THERM_FLAGS.REF_LOST_SEEN = 1 ∧ u.scan = s.scan ∧ u.mirror = s.mirror ∧ u.emit_ = s.emit_ ∧ u.nv = s.nv) ∧
  (∀ (s : State) (t : Nat), s.Awake → s.bit P.CLK_STATUS.REF_PRESENT = false → ∃ u, exec (.refPresent t) s = .next u ∧
      u.bit P.CLK_STATUS.REF_PRESENT = true ∧ u.pll = (if s.pll = 2 then 3 else s.pll) ∧
      (∀ k, k ≠ K.CLK_STATUS → u.reg k = s.reg k) ∧ { u with regs := s.regs } = s.at_ t) ∧
  (∀ (s : State) (t : Nat), s.Awake → s.bit P.CLK_STATUS.REF_PRESENT = true → s.pll = 0 ∨ s.pll = 3 →
    ∃ u, exec (.pllLocked t) s = .next u ∧ u.pll = 1 ∧
      u.fld P.CLK_THERM_FLAGS.RELOCKED_SEEN = (if s.pll = 3 then 1 else s.fld P.CLK_THERM_FLAGS.RELOCKED_SEEN) ∧
      { u with regs := s.regs, flagCnt := s.flagCnt } = s.at_ t) ∧
  (∀ (s : State) (t : Nat) (d : PllDividers), s.Awake → s.power.pfdPend = some d → s.power.pfdDue = true →
    s.bit P.CLK_STATUS.REF_PRESENT = true → d.mode < 2 ^ P.CLK_STATUS.PFD_CUR.width → ∃ u,
      exec (.pfdShadowLoad t) s = .next u ∧ u.fld P.CLK_STATUS.PFD_CUR = d.mode ∧
      (∀ k, k ≠ K.CLK_STATUS → u.reg k = s.reg k) ∧
      { u with regs := s.regs } =
        { s.at_ t with power := { s.power with dividers := d, pfdPend := none, pfdDue := false } })

/-- The thermal tick keeps the 128 latest means of each sensor, and a sensor below the rate limit has no run of trips (R462,
R463). An orderly stop (R464): once begun, with the ranging chain empty and both safety outputs OFF it completes in HOLD,
STOPPED, and THERM_LOG holds its causes; a stop that is due to begin clears EMIT_EN and RUN. Completion, under conditions on
the state and the operands alone: THERMAL_TICK, ORDERLY_STOP. -/
def Obligations.ThermalStop : Prop :=
  (∀ (s : State) (t : Nat), s.Awake → t % 1000000 = 0 →
    (∀ j m d, j < 9 → s.thermDelta j = some (m, d) → s.rateHot m d = false ∧ d ≤ 0) →
    ∃ u, exec (.thermalTick t) s = .next u ∧ u.therm = s.therm ∧
      (∀ j, j < 9 → Map.get 0 u.power.trips j = 0 ∧ Map.get [] u.power.record j = (match (s.hacc j).mean with
        | some m => m :: (Map.get [] s.power.record j).take 127
        | none => Map.get [] s.power.record j)) ∧
      u.power.stop = s.power.stop ∧ u.power.target = s.power.target ∧ (∀ k, k ≠ K.THERM_STATUS → u.reg k = s.reg k) ∧
      { u with power := s.power, regs := s.regs } = s.at_ t) ∧
  (∀ (s : State) (t : Nat) (x : OrderlyStop), s.Awake → s.power.stop = some x → x.begun = true → s.chainEmpty = true →
    s.fld P.SAFETY_STATUS.OUT_ON = 0 → x.causes < 16 → ∃ u, exec (.orderlyStop t) s = .next u ∧ u.power.stop = none ∧ u.therm = 3 ∧
      u.fld P.PWR_STATUS.STATE = 1 ∧ u.fld P.PWR_STATUS.TRANSITION = 0 ∧ u.fld P.CLK_THERM_FLAGS.STOP_SEEN = 1 ∧
      u.fld P.THERM_LOG.CAUSE = x.causes ∧ u.nv = s.nv) ∧
  (∀ (s : State) (t : Nat) (x : OrderlyStop), s.Awake → s.power.stop = some x → x.begun = false → s.stopBegun = true →
    s.scan.fired = false → ∃ u, exec (.orderlyStop t) s = .next u ∧ u.power.stop = some { x with begun := true } ∧
      u.fld P.EMIT_CTRL.EMIT_EN = 0 ∧ u.fld P.MIR_CTRL.RUN = 0 ∧ u.now = (s.at_ t).now ∧ u.nv = s.nv) ∧
  (∀ (s : State) (t : Nat) (x : OrderlyStop), s.Awake → s.power.stop = some x → x.begun = false → s.stopBegun = true →
    exec (.orderlyStop t) s = .next ((s.at_ t).stopBegin x))

/-- Resets other than power-on (R469, R471, R474, Table 21.1). A control restart, by CTRL_RESTART or by the watchdog after 100
ms without a heartbeat, sets START_LATCH, drops READY, brakes the mirror and opens no further column; the rest of it follows
once BRAKE has been driven for 50 ms and the ranging chain is empty (R511). What a restart keeps beside R472's items is the
model's reading (notes/assumptions 17). A Function Level Reset of Function 0 idles the DMA and returns its parameters to
their reset values, one of Function 1 closes the Bridle window; a link reset does both. Completion, under conditions on the
state and the operands alone: CONTROL_WATCHDOG, CTRL_RESTART, FUNCTION_RESET, LINK_RESET, DOMAIN_SWITCH_OFF. -/
def Obligations.Resets : Prop :=
  (∀ (s : State) (t : Nat), s.Awake → s.ctl.beat + 100000000 ≤ t → s.ctl.restart = none → s.domOn 33 = true →
    s.bridgeFailed (s.fld P.MIR_STATUS.BRIDGE) = false → ∃ u, exec (.controlWatchdog t) s = .next u ∧
    u.ctl.restart = some 2 ∧ u.ctl.restartAt = (s.at_ t).now ∧ u.ctl.ready = false ∧
    u.fld P.RESET_STATUS.START_LATCH = 1 ∧ u.mirror.drive = .brake ∧
    (u.scan.fired = true → u.scan.seq = gaitC u.gait) ∧ u.nv = s.nv) ∧
  (∀ (s : State) (t : Nat), s.Awake → t < s.ctl.beat + 100000000 → exec (.controlWatchdog t) s = .next s) ∧
  (∀ (s : State) (h : HostWrite), s.Accepts K.RESET_CTRL h → brings h P.RESET_CTRL.CTRL_RESTART 1 → s.domOn 33 = true →
    s.bridgeFailed (s.fld P.MIR_STATUS.BRIDGE) = false → ∃ u, exec (.ctrlRestart h) s = .next u ∧
    u.ctl.restart = some (if s.nv.pending.isSome then 3 else 1) ∧ u.ctl.restartAt = (s.at_ h.t).now ∧ u.ctl.ready = false ∧
    u.fld P.RESET_STATUS.START_LATCH = 1 ∧ u.mirror.drive = .brake ∧
    (u.scan.fired = true → u.scan.seq = gaitC u.gait) ∧ u.nv = s.nv) ∧
  (∀ (s : State) (t : Nat), s.Awake → ∃ u, exec (.functionReset t 0) s = .next u ∧
    (∀ k ∈ function0Keys, u.reg k = BitVec.ofNat 64 (resetWord k)) ∧ u.host.bme0 = false ∧ u.host.tlb = [] ∧ u.host.chans = [] ∧
    u.host.msix0 = {} ∧ u.host.maxPayload = 256 ∧ u.host.maxRead = 512 ∧ u.fld P.DMA_STATE.BM_OFF = 0xFF ∧
    u.fld P.DMA_STATE.STALLED = 0 ∧ u.salsol.fetched = [] ∧ u.salsol.replies = [] ∧ u.recs.log = s.recs.log ∧
    u.host.bme1 = s.host.bme1 ∧ u.scan = s.scan ∧ u.mirror = s.mirror ∧ u.emit_ = s.emit_ ∧ u.sup = s.sup ∧ u.nv = s.nv) ∧
  (∀ (s : State) (t : Nat), s.Awake → ∃ u, exec (.functionReset t 1) s = .next u ∧
    u.host = { s.host with
      bme1 := false, bars := Map.erase (Map.erase s.host.bars 4) 6, msix1 := { s.host.msix1 with on := true, mask := false } } ∧
    u.fld P.BR_WIN.WIN_EN = 0 ∧ u.bridle.rx = [] ∧ (u.src 0).synced = false ∧ (u.src 0).time = none ∧
    (∀ e, e ≠ 0 → u.src e = s.src e) ∧ u.SameRegs s [K.BR_WIN, K.BR_SRC] ∧
    { u with regs := s.regs, force := s.force, host := s.host, bridle := s.bridle } = s.at_ t) ∧
  (∀ (s : State) (t : Nat), s.Awake → ∃ u, exec (.linkReset t) s = .next u ∧ u.bit P.LINK_CTRL.LINK_UP = false ∧
    u.host.retraining = false ∧ u.host.bme0 = false ∧ u.host.bme1 = false ∧ u.host.tlb = [] ∧ u.host.chans = [] ∧
    u.bridle.rx = [] ∧ u.scan = s.scan ∧ u.mirror = s.mirror ∧ u.emit_ = s.emit_ ∧ u.sup = s.sup ∧ u.nv = s.nv) ∧
  (∀ (s : State) (t c : Nat), s.Awake → s.chainEmpty = true → s.ctl.restart = some c → s.ctl.restartAt + 50000000 ≤ t →
    exec (.domainSwitchOff t) s = .next ((s.at_ t).restartEnd c)) ∧
  (∀ (s : State) (t c : Nat), s.Awake → s.ctl.restart = some c → s.chainEmpty = false ∨ t < s.ctl.restartAt + 50000000 →
    exec (.domainSwitchOff t) s = .next s)

/-- Detector control (R495 to R497): a transfer sends its word in one frame, bit 0 first, with odd parity, on its lane, and a
read's second frame 800 ns later; once its last frame is over the response completes it, its result is READY with SEQ one
up, and a read whose response has even parity or names another register is marked in error. Completion, under conditions on
the state and the operands alone: DCL_TRANSFER_START, DCL_TRANSFER_DONE. -/
def Obligations.DetectorControl : Prop :=
  (∀ (s : State) (x : DclXfer) (t : Nat), s.Awake → s.dcl = some x → x.started = false → x.asked ≤ t →
    s.bit P.DCL_CFG.SYNC_TURN = false → x.addr < 2 ^ 14 → x.data < 2 ^ 16 → ∃ u w, exec (.dclTransferStart t) s = .next u ∧
    u.dcl = some { x with started := true, startAt := t } ∧ onesOf w % 2 = 1 ∧ w < 2 ^ 32 ∧ bitOf w 31 = x.write ∧
    bitsOf w 29 16 = x.addr ∧ bitsOf w 15 0 = (if x.write then x.data else 0) ∧
    u.out = (if x.write then .dclFrame x.lane t ((List.range 32).map (bitOf w)) :: s.out
      else .dclFrame x.lane (t + 800) ((List.range 32).map (bitOf 0x7FFF0000)) ::
        .dclFrame x.lane t ((List.range 32).map (bitOf w)) :: s.out) ∧
    u.SameRegs s [K.DCL_RESULT] ∧ { u with dcl := s.dcl, out := s.out, regs := s.regs } = s.at_ t) ∧
  (∀ (s : State) (x : DclXfer) (t : Nat) (r : BitVec 32), s.Awake → s.dcl = some x → x.started = true →
    x.startAt + (if x.write then 640 else 1440) ≤ t → x.lane < 4 →
    x.addr < 2 ^ 14 → x.data < 2 ^ 16 → ∃ u, exec (.dclTransferDone t r) s = .next u ∧ u.dcl = none ∧
    u.bit P.DCL_RESULT.ERROR = (!x.write && (onesOf r.toNat % 2 == 0 || bitsOf r.toNat 29 16 != x.addr)) ∧
    u.fld P.DCL_RESULT.LANE = x.lane ∧ u.bit P.DCL_RESULT.WRITE = x.write ∧ u.fld P.DCL_RESULT.ADDR = x.addr ∧
    u.fld P.DCL_RESULT.DATA = (if x.write then x.data else r.toNat % 2 ^ 16) ∧ u.fld P.DCL_RESULT.STATE = 1 ∧
    u.fld P.DCL_RESULT.SEQ = wrapAdd 16 (s.fld P.DCL_RESULT.SEQ) 1 ∧ u.SameRegs s [K.DCL_RESULT] ∧
    { u with dcl := s.dcl, regs := s.regs } = s.at_ t)

/-- Every step keeps the histogram memory and its valid rows (R98, R99) in their canonical form: words and row marks by rising
address, none equal to what an unlisted one reads as. The form is the model's (notes/assumptions 38). -/
def Obligations.HistogramForm : Prop :=
  ∀ s t : State, s.HistWf → step s = .next t → t.HistWf
end

