-- ==== Sys2Proof/Laws/Maps.lean ====
section
/-! SUPPORT. Laws of the sparse maps: a read after a write, and the canonical form. -/
namespace Sys2Proof.Machine

/-- Reading the key just written. -/
@[simp] theorem Map.find?_insert_self {α : Type} (m : SMap α) (n : Nat) (x : α) : Map.find? (Map.insert m n x) n = some x := by
  induction m with
  | nil => simp [Map.insert, Map.find?]
  | cons e m ih =>
    obtain ⟨k, v⟩ := e
    simp only [Map.insert]
    split
    · simp [Map.find?]
    · split
      · simp [Map.find?]
      · simp [Map.find?, *]

/-- Reading another key after a write. -/
theorem Map.find?_insert_ne {α : Type} (m : SMap α) {n j : Nat} (x : α) (h : j ≠ n) :
    Map.find? (Map.insert m n x) j = Map.find? m j := by
  induction m with
  | nil => simp [Map.insert, Map.find?, Ne.symm h]
  | cons e m ih =>
    obtain ⟨k, v⟩ := e
    simp only [Map.insert]
    split
    · simp [Map.find?, Ne.symm h]
    · split
      · subst_vars; simp [Map.find?, Ne.symm h]
      · simp [Map.find?, ih]

/-- An erased key is not listed. -/
@[simp] theorem Map.find?_erase_self {α : Type} (m : SMap α) (n : Nat) : Map.find? (Map.erase m n) n = none := by
  induction m with
  | nil => rfl
  | cons e m ih =>
    obtain ⟨k, v⟩ := e
    simp only [Map.erase]
    split
    · exact ih
    · simp [Map.find?, *]

/-- Erasing a key leaves the others. -/
theorem Map.find?_erase_ne {α : Type} (m : SMap α) {n j : Nat} (h : j ≠ n) :
    Map.find? (Map.erase m n) j = Map.find? m j := by
  induction m with
  | nil => rfl
  | cons e m ih =>
    obtain ⟨k, v⟩ := e
    simp only [Map.erase]
    split
    · rename_i hk; subst hk; simp [Map.find?, Ne.symm h, ih]
    · simp [Map.find?, ih]

/-- A key reads what was written to it. -/
@[simp] theorem Map.get_set_self {α : Type} [DecidableEq α] (d : α) (m : SMap α) (n : Nat) (v : α) :
    Map.get d (Map.set d m n v) n = v := by
  unfold Map.get Map.set
  split <;> simp_all

/-- A write leaves every other key alone. -/
theorem Map.get_set_ne {α : Type} [DecidableEq α] (d : α) (m : SMap α) {n j : Nat} (v : α) (h : j ≠ n) :
    Map.get d (Map.set d m n v) j = Map.get d m j := by
  unfold Map.get Map.set
  split
  · rw [Map.find?_erase_ne m h]
  · rw [Map.find?_insert_ne m v h]

/-- A list that rises from a number rises from any smaller one. -/
theorem Map.risesFrom_mono {α : Type} (m : SMap α) {a b : Nat} (h : a ≤ b) (hm : Map.risesFrom b m = true) :
    Map.risesFrom a m = true := by
  cases m with
  | nil => rfl
  | cons e m =>
    simp only [Map.risesFrom, Bool.and_eq_true, decide_eq_true_eq] at hm ⊢
    exact ⟨by omega, hm.2⟩

/-- Erasing keeps the keys rising. -/
theorem Map.risesFrom_erase {α : Type} (m : SMap α) (n a : Nat) (hm : Map.risesFrom a m = true) :
    Map.risesFrom a (Map.erase m n) = true := by
  induction m generalizing a with
  | nil => rfl
  | cons e m ih =>
    obtain ⟨k, v⟩ := e
    simp only [Map.risesFrom, Bool.and_eq_true, decide_eq_true_eq] at hm
    simp only [Map.erase]
    split
    · exact ih a (Map.risesFrom_mono m (by omega) hm.2)
    · simp only [Map.risesFrom, Bool.and_eq_true, decide_eq_true_eq]
      exact ⟨hm.1, ih _ hm.2⟩

/-- Inserting keeps the keys rising. -/
theorem Map.risesFrom_insert {α : Type} (m : SMap α) (n a : Nat) (x : α) (ha : a ≤ n) (hm : Map.risesFrom a m = true) :
    Map.risesFrom a (Map.insert m n x) = true := by
  induction m generalizing a with
  | nil => simp [Map.insert, Map.risesFrom, ha]
  | cons e m ih =>
    obtain ⟨k, v⟩ := e
    simp only [Map.risesFrom, Bool.and_eq_true, decide_eq_true_eq] at hm
    simp only [Map.insert]
    split
    · simp only [Map.risesFrom, Bool.and_eq_true, decide_eq_true_eq]
      exact ⟨ha, by omega, hm.2⟩
    · split
      · subst_vars
        simp only [Map.risesFrom, Bool.and_eq_true, decide_eq_true_eq]
        exact ⟨hm.1, hm.2⟩
      · simp only [Map.risesFrom, Bool.and_eq_true, decide_eq_true_eq]
        exact ⟨hm.1, ih _ (by omega) hm.2⟩

/-- Every listed value passes a test after an erasure if it did before. -/
theorem Map.all_erase {α : Type} (p : Nat × α → Bool) (m : SMap α) (n : Nat) (h : m.all p = true) : (Map.erase m n).all p = true := by
  induction m with
  | nil => rfl
  | cons e m ih =>
    obtain ⟨k, v⟩ := e
    simp only [List.all_cons, Bool.and_eq_true] at h
    simp only [Map.erase]
    split
    · exact ih h.2
    · simp [h.1, ih h.2]

/-- Every listed value passes a test after an insertion that passes it. -/
theorem Map.all_insert {α : Type} (p : Nat × α → Bool) (m : SMap α) (n : Nat) (x : α) (hx : p (n, x) = true) (h : m.all p = true) :
    (Map.insert m n x).all p = true := by
  induction m with
  | nil => simp [Map.insert, hx]
  | cons e m ih =>
    obtain ⟨k, v⟩ := e
    simp only [List.all_cons, Bool.and_eq_true] at h
    simp only [Map.insert]
    split
    · simp [hx, h.1, h.2]
    · split
      · simp [hx, h.2]
      · simp [h.1, ih h.2]

/-- A write keeps the canonical form. -/
theorem Map.wf_set {α : Type} [DecidableEq α] (d : α) (m : SMap α) (n : Nat) (v : α) (h : Map.wf d m = true) :
    Map.wf d (Map.set d m n v) = true := by
  unfold Map.wf at h ⊢
  simp only [Bool.and_eq_true] at h ⊢
  unfold Map.set
  split
  · exact ⟨Map.risesFrom_erase m n 0 h.1, Map.all_erase _ m n h.2⟩
  · exact ⟨Map.risesFrom_insert m n 0 v (Nat.zero_le _) h.1, Map.all_insert _ m n v (by simpa using ‹_›) h.2⟩

/-- Leaving entries out keeps the keys rising. -/
theorem Map.risesFrom_filter {α : Type} (p : Nat × α → Bool) (m : SMap α) (a : Nat) (hm : Map.risesFrom a m = true) :
    Map.risesFrom a (m.filter p) = true := by
  induction m generalizing a with
  | nil => rfl
  | cons e m ih =>
    obtain ⟨k, v⟩ := e
    simp only [Map.risesFrom, Bool.and_eq_true, decide_eq_true_eq] at hm
    by_cases hp : p (k, v) = true
    · rw [List.filter_cons_of_pos hp]
      simp only [Map.risesFrom, Bool.and_eq_true, decide_eq_true_eq]
      exact ⟨hm.1, ih _ hm.2⟩
    · rw [List.filter_cons_of_neg hp]
      exact ih a (Map.risesFrom_mono m (by omega) hm.2)

/-- Leaving entries out keeps the canonical form. -/
theorem Map.wf_filter {α : Type} [DecidableEq α] (d : α) (p : Nat × α → Bool) (m : SMap α) (h : Map.wf d m = true) :
    Map.wf d (m.filter p) = true := by
  unfold Map.wf at h ⊢
  simp only [Bool.and_eq_true] at h ⊢
  refine ⟨Map.risesFrom_filter p m 0 h.1, ?_⟩
  have h2 := h.2
  simp only [List.all_eq_true] at h2 ⊢
  exact fun e he => h2 e (List.mem_of_mem_filter he)

end Sys2Proof.Machine
end

