-- ==== Sys2Proof/Laws/Hist.lean ====
section
/-! SUPPORT. The histogram memory and the memories of the cores are held as canonical lists: every operation that writes
them keeps the form. -/
namespace Sys2Proof.Machine

/-- A word reads as it was written. -/
theorem State.binWord_setBinWord_self (s : State) (k bin : Nat) (w : Word) : (s.setBinWord k bin w).binWord k bin = w := by
  simp [State.binWord, State.rowValid, State.setBinWord]

/-- A word written leaves the words of other buffers as they read. -/
theorem State.binWord_setBinWord_row (s : State) (k bin j bin' : Nat) (w : Word)
    (hr : 256 * j + bin' / 16 ≠ 256 * k + bin / 16) (hw : 4096 * j + bin' ≠ 4096 * k + bin)
    (hv : s.rowValid k bin = true) : (s.setBinWord k bin w).binWord j bin' = s.binWord j bin' := by
  simp only [State.binWord, State.rowValid, State.setBinWord] at *
  simp only [hv, if_true, Map.get_set_ne _ _ _ hr, Map.get_set_ne _ _ _ hw]
  rfl

/-- Writing a word keeps the canonical form. -/
theorem State.setBinWord_wf (s : State) (k bin : Nat) (w : Word) (h : s.HistWf) : (s.setBinWord k bin w).HistWf := by
  obtain ⟨hw, hr⟩ := h
  have hrow := Map.wf_set false s.hist.rows (256 * k + bin / 16) true hr
  refine ⟨Map.wf_set 0 _ (4096 * k + bin) w ?_, hrow⟩
  split
  · exact hw
  · exact Map.wf_filter _ _ _ hw

/-- A buffer's record has no part in the form. -/
theorem State.setBuf_wf (s : State) (k : Nat) (b : Buf) (h : s.HistWf) : (s.setBuf k b).HistWf := h

/-- Emptying a buffer at its fill start keeps the form. -/
theorem State.fillStart_wf (s : State) (k t : Nat) (m : BufMeta) (h : s.HistWf) : (s.fillStart k t m).HistWf := by
  unfold State.fillStart
  dsimp only
  split
  · exact ⟨Map.wf_filter _ _ _ h.1, Map.wf_filter _ _ _ h.2⟩
  · exact h

/-- So does the fill start of every channel's buffer. -/
theorem State.fillAll_wf (s : State) (t : Nat) (m : BufMeta) (h : s.HistWf) : (s.fillAll t m).HistWf :=
  ⟨Map.wf_filter _ _ _ h.1, Map.wf_filter _ _ _ h.2⟩

/-- And the loss of a cluster's SRAM. -/
theorem State.sramLost_wf (s : State) (k : Nat) (h : s.HistWf) : (s.sramLost k).HistWf := by
  unfold State.sramLost
  dsimp only
  split <;> exact ⟨Map.wf_filter _ _ _ h.1, Map.wf_filter _ _ _ h.2⟩

/-- After power-on reset the histogram memory lists nothing. -/
theorem histWf_reset : State.reset.HistWf := by decide

/-- A store of a core keeps the form of its data memory. -/
theorem storeValue_wf (narrow : Bool) (m : SMap (BitVec 32)) (addr v : Nat) (h : Map.wf 0 m = true) :
    Map.wf 0 (storeValue narrow m addr v) = true := by
  unfold storeValue
  exact Map.wf_set _ _ _ _ h

/-- Loading bytes keeps the form of a core's memory. -/
theorem putWords_wf (m : SMap (BitVec 32)) (base : Nat) (bytes : List Byte) (h : Map.wf 0 m = true) :
    Map.wf 0 (putWords m base bytes) = true := by
  unfold putWords
  generalize List.range ((bytes.length + 3) / 4) = l
  induction l generalizing m with
  | nil => exact h
  | cons i l ih =>
    rw [List.foldl_cons]
    exact ih _ (Map.wf_set _ _ _ _ h)

/-- A core reads what it stored. -/
theorem loadValue_storeValue_wide (m : SMap (BitVec 32)) (addr v : Nat) (hv : v < 2 ^ 24) :
    loadValue false (storeValue false m addr v) addr = v := by
  simp only [loadValue, storeValue, Map.get_set_self]
  simp only [Bool.false_eq_true, if_false, trunc, sext, BitVec.toNat_ofNat]
  split <;> omega

end Sys2Proof.Machine
end

