-- ==== Sys2Proof/Laws/Kept.lean ====
section
/-! SUPPORT. What no operation touches but the power-on reset pair: the queue, the factory identity and power-on reset
(State.kept). Here: the shared operations over registers, flags, records, Hitch messages, the scan and the buffers. -/
namespace Sys2Proof.Machine

/-! ## Ops -/

/-- What no command but the power-on reset pair touches: the queue, the factory identity, and whether power-on reset is
asserted. -/
def State.kept (s : State) : List Instr × Identity × Bool := (s.pending, s.ident, s.ctl.por)

/-- The state a meaning answers; the state before where it answers none. -/
def stateOf (s : State) (r : Result) : State :=
  match r with
  | .next t => t
  | _ => s

@[simp] theorem stateOf_next (s t : State) : stateOf s (.next t) = t := id rfl
@[simp] theorem stateOf_ite (s : State) (c : Prop) [Decidable c] (a b : Result) :
    stateOf s (if c then a else b) = if c then stateOf s a else stateOf s b := by split <;> rfl
@[simp] theorem kept_mk (s : State)
    (x_now) (x_fresh) (x_regs) (x_live) (x_force) (x_flagCnt) (x_shadows) (x_recs) (x_out) (x_scan) (x_stamp) (x_hist) (x_clusters) (x_bq) (x_masks) (x_evoth) (x_streams) (x_recorder) (x_emit_) (x_mirror) (x_fe) (x_hk) (x_farrier) (x_sup) (x_bridle) (x_hitch) (x_host) (x_salsol) (x_nv) (x_attest) (x_power) (x_dcl) :
    State.kept ⟨x_now, x_fresh, x_regs, x_live, x_force, x_flagCnt, x_shadows, x_recs, x_out, s.pending, x_scan, x_stamp, x_hist, x_clusters, x_bq, x_masks, x_evoth, x_streams, x_recorder, x_emit_, x_mirror, x_fe, x_hk, x_farrier, x_sup, x_bridle, x_hitch, x_host, x_salsol, s.ident, x_nv, x_attest, x_power, s.ctl, x_dcl⟩ = s.kept := id rfl

theorem kept_ite (c : Prop) [Decidable c] (a b : State) :
    (if c then a else b).kept = if c then a.kept else b.kept := by split <;> rfl
@[simp] theorem kept_ite_same (c : Prop) [Decidable c] {a b : State} {k : List Instr × Identity × Bool} (ha : a.kept = k) (hb : b.kept = k) :
    (if c then a else b).kept = k := by split <;> assumption
@[simp] theorem forUpto_kept (n : Nat) (f : Nat → State → State) (s : State) (h : ∀ i s, (f i s).kept = s.kept) :
    (forUpto n f s).kept = s.kept := by
  unfold forUpto
  generalize List.range n = l
  induction l generalizing s with
  | nil => rfl
  | cons a l ih => simp only [List.foldl_cons]; rw [ih, h]
@[simp] theorem forEach_kept {ι : Type} (l : List ι) (f : ι → State → State) (s : State) (h : ∀ i s, (f i s).kept = s.kept) :
    (forEach l f s).kept = s.kept := by
  unfold forEach
  induction l generalizing s with
  | nil => rfl
  | cons a l ih => simp only [List.foldl_cons]; rw [ih, h]

theorem foldl_kept {ι : Type} (l : List ι) (f : State → ι → State) (s : State) (h : ∀ s i, (f s i).kept = s.kept) :
    (l.foldl f s).kept = s.kept := by
  induction l generalizing s with
  | nil => rfl
  | cons a l ih => simp only [List.foldl_cons]; rw [ih, h]
theorem foldl_kept_fst {ι α : Type} (l : List ι) (f : State × α → ι → State × α) (a : State × α)
    (h : ∀ a i, (f a i).1.kept = a.1.kept) : (l.foldl f a).1.kept = a.1.kept := by
  induction l generalizing a with
  | nil => rfl
  | cons x l ih => simp only [List.foldl_cons]; rw [ih, h]
theorem foldl_kept_snd {ι α : Type} (l : List ι) (f : α × State → ι → α × State) (a : α × State)
    (h : ∀ a i, (f a i).2.kept = a.2.kept) : (l.foldl f a).2.kept = a.2.kept := by
  induction l generalizing a with
  | nil => rfl
  | cons x l ih => simp only [List.foldl_cons]; rw [ih, h]
/-- A record update of the control fields keeps what is kept where it keeps `por`. -/
theorem kept_ctl (s : State) (c : Control) (h : c.por = s.ctl.por) : State.kept { s with ctl := c } = s.kept := by
  simp [State.kept, h]

/-! ## Regs -/

@[simp] theorem State.at__kept (s : State) (t : Nat) :
    (State.at_ s t).kept = s.kept := by
  simp [State.at_]

@[simp] theorem State.emit_kept (s : State) (o : Out) :
    (State.emit s o).kept = s.kept := by
  simp [State.emit]

@[simp] theorem State.draw_kept (s : State) (w : Nat) :
    (State.draw s w).2.kept = s.kept := by
  simp [State.draw]

@[simp] theorem State.setReg_kept (s : State) (key : Nat) (w : Word) :
    (State.setReg s key w).kept = s.kept := by
  simp [State.setReg]

@[simp] theorem State.setFld_kept (s : State) (f : FieldRef) (v : Nat) :
    (State.setFld s f v).kept = s.kept := by
  simp [State.setFld]

@[simp] theorem State.setFldI_kept (s : State) (f : FieldRef) (v : Int) :
    (State.setFldI s f v).kept = s.kept := by
  simp [State.setFldI]

@[simp] theorem State.addWrap_kept (s : State) (f : FieldRef) (n : Nat) :
    (State.addWrap s f n).kept = s.kept := by
  simp [State.addWrap]

@[simp] theorem State.addSat_kept (s : State) (f : FieldRef) (n : Nat) :
    (State.addSat s f n).kept = s.kept := by
  simp [State.addSat]

@[simp] theorem State.setLive_kept (s : State) (f : FieldRef) (v : Nat) :
    (State.setLive s f v).kept = s.kept := by
  simp [State.setLive]

@[simp] theorem State.liveWrap_kept (s : State) (f : FieldRef) (n : Nat) :
    (State.liveWrap s f n).kept = s.kept := by
  simp [State.liveWrap]

@[simp] theorem State.liveSat_kept (s : State) (f : FieldRef) (n : Nat) :
    (State.liveSat s f n).kept = s.kept := by
  simp [State.liveSat]

@[simp] theorem State.takeForce_kept (s : State) (key : Nat) :
    (State.takeForce s key).kept = s.kept := by
  simp [State.takeForce]

@[simp] theorem State.snapshot_kept (s : State) (key : Nat) :
    (State.snapshot s key).kept = s.kept := by
  simp [State.snapshot]

/-! ## Flags -/

@[simp] theorem State.setFlag_kept (s : State) (f : FieldRef) :
    (State.setFlag s f).kept = s.kept := by
  simp [State.setFlag]

@[simp] theorem State.clearFlag_kept (s : State) (key bit : Nat) (coinc : Bool) :
    (State.clearFlag s key bit coinc).kept = s.kept := by
  simp [State.clearFlag]

@[simp] theorem State.flagView_kept (s : State) :
    (State.flagView s).kept = s.kept := by
  simp [State.flagView]

/-! ## Recorder -/

@[simp] theorem State.withRec_kept (s : State) (f : Recorder → Recorder) :
    (State.withRec s f).kept = s.kept := by
  simp [State.withRec]

@[simp] theorem State.setRecSt_kept (s : State) (v : Nat) :
    (State.setRecSt s v).kept = s.kept := by
  simp [State.setRecSt]

@[simp] theorem State.recShow_kept (s : State) :
    (State.recShow s).kept = s.kept := by
  simp [State.recShow]

@[simp] theorem State.recLayout_kept (s : State) :
    (State.recLayout s).kept = s.kept := by
  unfold State.recLayout; split <;> simp

@[simp] theorem State.recFlow_kept (s : State) (t : Nat) :
    (State.recFlow s t).kept = s.kept := by
  simp [State.recFlow]

@[simp] theorem State.recEnd_kept (s : State) (e : Nat) (aborted timeEnd : Bool) :
    (State.recEnd s e aborted timeEnd).kept = s.kept := by
  simp [State.recEnd]

@[simp] theorem State.recPost_kept (s : State) (e : RecEntry) :
    (State.recPost s e).kept = s.kept := by
  simp [State.recPost]

@[simp] theorem State.recTrigger_kept (s : State) (terms : Nat) (e : RecEntry) :
    (State.recTrigger s terms e).kept = s.kept := by
  unfold State.recTrigger; (repeat' split) <;> simp

@[simp] theorem State.recLevels_kept (s : State) (given state : Nat) :
    (State.recLevels s given state).kept = s.kept := by
  simp [State.recLevels]

@[simp] theorem State.recArm_kept (s : State) (e : Nat) :
    (State.recArm s e).kept = s.kept := by
  simp [State.recArm]

@[simp] theorem State.recEvent_kept (s : State) (kind cluster : Nat) :
    (State.recEvent s kind cluster).kept = s.kept := by
  simp [State.recEvent]

@[simp] theorem State.recInPost_kept (s : State) (k : RecTick) (terms : Nat) (e : RecEntry) :
    (State.recInPost s k terms e).kept = s.kept := by
  simp [State.recInPost]

@[simp] theorem State.recAct_kept (s : State) (t given new pulsed sources : Nat) :
    (State.recAct s t given new pulsed sources).kept = s.kept := by
  unfold State.recAct
  try dsimp only
  (repeat' split) <;> simp

@[simp] theorem State.recDue_kept (lim n : Nat) (s : State) : (State.recDue lim n s).kept = s.kept := by
  induction n generalizing s with
  | zero => rfl
  | succ n ih =>
    unfold State.recDue
    (repeat' split) <;> simp [ih]

@[simp] theorem State.recTo_kept (s : State) (lim t : Nat) : (State.recTo s lim t).kept = s.kept := by
  simp [State.recTo]

@[simp] theorem execRecorderChange_kept (t levels pulsed : Nat) (s : State) :
    (stateOf s (execRecorderChange t levels pulsed s)).kept = s.kept := by
  unfold execRecorderChange
  try dsimp only
  (repeat' split) <;> simp

@[simp] theorem execCaptureEnd_kept (t : Nat) (s : State) :
    (stateOf s (execCaptureEnd t s)).kept = s.kept := by
  simp [execCaptureEnd]

@[simp] theorem execRecorderRearm_kept (t : Nat) (s : State) :
    (stateOf s (execRecorderRearm t s)).kept = s.kept := by
  unfold execRecorderRearm; split <;> simp

@[simp] theorem State.recRead_kept (s : State) :
    (State.recRead s).2.kept = s.kept := by
  unfold State.recRead; dsimp only; split <;> simp

@[simp] theorem State.recEnable_kept (s : State) (on : Bool) :
    (State.recEnable s on).kept = s.kept := by
  unfold State.recEnable
  try dsimp only
  (repeat' split) <;> simp

@[simp] theorem State.recSwTrig_kept (s : State) :
    (State.recSwTrig s).kept = s.kept := by
  simp [State.recSwTrig]

@[simp] theorem State.recStop_kept (s : State) :
    (State.recStop s).kept = s.kept := by
  simp [State.recStop]

@[simp] theorem State.recPattern_kept (s : State) :
    (State.recPattern s).kept = s.kept := by
  simp [State.recPattern]

/-! ## Ops -/

@[simp] theorem State.queueNotice_kept (s : State) (r : Record) (n : Nat) :
    (State.queueNotice s r n).kept = s.kept := by
  simp [State.queueNotice]

@[simp] theorem State.logRecord_kept (s : State) (r : Record) (n : Nat) :
    (State.logRecord s r n).kept = s.kept := by
  simp [State.logRecord]

@[simp] theorem State.seqFixed_kept (s : State) :
    (State.seqFixed s).kept = s.kept := by
  simp [State.seqFixed]

@[simp] theorem State.record_kept (s : State) (kind cls : Nat) (log notice : Bool) (data : List Byte) :
    (State.record s kind cls log notice data).kept = s.kept := by
  simp [State.record]

@[simp] theorem State.flushHeld_kept (s : State) :
    (State.flushHeld s).kept = s.kept := by
  simp [State.flushHeld]

@[simp] theorem State.dropNotices_kept (s : State) :
    (State.dropNotices s).kept = s.kept := by
  simp [State.dropNotices]

@[simp] theorem State.slotStart_kept (s : State) (hdr : Nat) :
    (State.slotStart s hdr).kept = s.kept := by
  simp [State.slotStart]

@[simp] theorem State.slotDone_kept (s : State) (hdr : Nat) :
    (State.slotDone s hdr).kept = s.kept := by
  simp [State.slotDone]

@[simp] theorem State.slotRead_kept (s : State) (hdr : Nat) :
    (State.slotRead s hdr).kept = s.kept := by
  simp [State.slotRead]

@[simp] theorem State.setMsix_kept (s : State) (fn : Nat) (m : Msix) :
    (State.setMsix s fn m).kept = s.kept := by
  simp [State.setMsix]

@[simp] theorem State.msix_kept (s : State) (fn vec : Nat) :
    (State.msix s fn vec).kept = s.kept := by
  simp [State.msix]

@[simp] theorem State.msixFlush_kept (s : State) (fn : Nat) :
    (State.msixFlush s fn).kept = s.kept := by
  simp [State.msixFlush]

@[simp] theorem State.columnLost_kept (s : State) (r frame column : Nat) (stales : Bool) :
    (State.columnLost s r frame column stales).kept = s.kept := by
  simp [State.columnLost]

/-! ## HitchMsg -/

@[simp] theorem State.withHitch_kept (s : State) (f : Hitch → Hitch) :
    (State.withHitch s f).kept = s.kept := by
  simp [State.withHitch]

@[simp] theorem State.withLane_kept (s : State) (l : Nat) (f : LanePhy → LanePhy) :
    (State.withLane s l f).kept = s.kept := by
  simp [State.withLane]

@[simp] theorem State.withLink_kept (s : State) (k : Nat) (f : Link → Link) :
    (State.withLink s k f).kept = s.kept := by
  simp [State.withLink]

@[simp] theorem State.nextCtr_kept (s : State) (k : Nat) :
    (State.nextCtr s k).2.kept = s.kept := by
  unfold State.nextCtr; split <;> simp

@[simp] theorem State.skipsTo_kept (s : State) (l time : Nat) :
    (State.skipsTo s l time).kept = s.kept := by
  simp [State.skipsTo]

@[simp] theorem State.skipAt_kept (s : State) (l time : Nat) :
    (State.skipAt s l time).kept = s.kept := by
  simp [State.skipAt]

@[simp] theorem State.laneSend_kept (s : State) (l d : Nat) (words : List LaneWord) :
    (State.laneSend s l d words).kept = s.kept := by
  simp [State.laneSend]

@[simp] theorem State.linkFrame_kept (s : State) (k len : Nat) (data : List Byte) :
    (State.linkFrame s k len data).kept = s.kept := by
  unfold State.linkFrame; split <;> simp

@[simp] theorem State.elastic_kept (n : Nat) (ls : List Nat) (s : State) : (State.elastic n ls s).kept = s.kept := by
  induction n generalizing s with
  | zero => rfl
  | succ n ih =>
    unfold State.elastic
    dsimp only
    rw [ih, forEach_kept _ _ _ (fun i s => by simp)]
    simp

@[simp] theorem State.elasticTo_kept (s : State) (l : Nat) : (State.elasticTo s l).kept = s.kept := by
  unfold State.elasticTo
  dsimp only
  split
  · rfl
  · rw [forEach_kept _ _ _ (fun i s => by simp)]
    simp

@[simp] theorem State.hitchFrame_kept (s : State) (k : Nat) (m : List Byte) :
    (State.hitchFrame s k m).kept = s.kept := by
  simp [State.hitchFrame]

@[simp] theorem State.hitchSend_kept (s : State) (k type : Nat) (body : List Byte) :
    (State.hitchSend s k type body).kept = s.kept := by
  unfold State.hitchSend
  try dsimp only
  (repeat' split) <;> simp

@[simp] theorem State.toChildren_kept (s : State) (type : Nat) (body : List Byte) :
    (State.toChildren s type body).kept = s.kept := by
  simp [State.toChildren]

@[simp] theorem State.toParent_kept (s : State) (type : Nat) (body : List Byte) :
    (State.toParent s type body).kept = s.kept := by
  simp [State.toParent]

@[simp] theorem State.hitchAsk_kept (s : State) (k type : Nat) (body : List Byte) :
    (State.hitchAsk s k type body).kept = s.kept := by
  simp [State.hitchAsk]

@[simp] theorem State.hitchAnswered_kept (s : State) (k type : Nat) :
    (State.hitchAnswered s k type).kept = s.kept := by
  simp [State.hitchAnswered]

@[simp] theorem State.hitchUnprotect_kept (s : State) (k : Nat) (m : List Byte) :
    (State.hitchUnprotect s k m).2.kept = s.kept := by
  unfold State.hitchUnprotect
  try dsimp only
  (repeat' split) <;> simp

@[simp] theorem State.hitchReceive_kept (s : State) (l type : Nat) (wire : LaneStreams) :
    (State.hitchReceive s l type wire).2.kept = s.kept := by
  unfold State.hitchReceive
  try dsimp only
  (repeat' split) <;> simp

@[simp] theorem State.formatErr_kept (s : State) :
    (State.formatErr s).kept = s.kept := by
  simp [State.formatErr]

/-! ## Scan -/

@[simp] theorem State.withScan_kept (s : State) (f : Scan → Scan) :
    (State.withScan s f).kept = s.kept := by
  simp [State.withScan]

@[simp] theorem State.epochDrawAfter_kept (s : State) (e0 : Nat) :
    (State.epochDrawAfter s e0).kept = s.kept := by
  simp [State.epochDrawAfter]

@[simp] theorem State.sendEpoch_kept (s : State) :
    (State.sendEpoch s).kept = s.kept := by
  simp [State.sendEpoch]

@[simp] theorem State.epochDraw_kept (s : State) :
    (State.epochDraw s).kept = s.kept := by
  simp [State.epochDraw]

@[simp] theorem State.startScanning_kept (s : State) :
    (State.startScanning s).kept = s.kept := by
  simp [State.startScanning]

@[simp] theorem State.epochReceive_kept (s : State) (e : Nat) (secret : List Byte) (tE : Nat) :
    (State.epochReceive s e secret tE).kept = s.kept := by
  simp [State.epochReceive]

@[simp] theorem State.epochJoin_kept (s : State) (e : Nat) (secret : List Byte) (tE : Nat) :
    (State.epochJoin s e secret tE).kept = s.kept := by
  simp [State.epochJoin]

@[simp] theorem State.deriveKey_kept (s : State) :
    (State.deriveKey s).kept = s.kept := by
  unfold State.deriveKey; (repeat' split) <;> simp

@[simp] theorem State.epochTake_kept (s : State) (p : CodeEpoch) (tk : Nat) :
    (State.epochTake s p tk).kept = s.kept := by
  simp [State.epochTake]

@[simp] theorem State.epochApply_kept (s : State) (tkNext : Nat) :
    (State.epochApply s tkNext).kept = s.kept := by
  unfold State.epochApply
  try dsimp only
  (repeat' split) <;> simp

@[simp] theorem State.waitPhase_kept (s : State) :
    (State.waitPhase s).kept = s.kept := by
  simp [State.waitPhase]

@[simp] theorem State.requestGait_kept (s : State) (g : Nat) :
    (State.requestGait s g).kept = s.kept := by
  simp [State.requestGait]

@[simp] theorem execEpochPeriodExpiry_kept (t : Nat) (s : State) :
    (stateOf s (execEpochPeriodExpiry t s)).kept = s.kept := by
  unfold execEpochPeriodExpiry; (repeat' split) <;> simp

@[simp] theorem execCodeKeyDerived_kept (t : Nat) (s : State) :
    (stateOf s (execCodeKeyDerived t s)).kept = s.kept := by
  simp [execCodeKeyDerived]

@[simp] theorem execSyncInEdge_kept (t : Nat) (s : State) :
    (stateOf s (execSyncInEdge t s)).kept = s.kept := by
  simp [execSyncInEdge]

/-! ## Buffers -/

@[simp] theorem State.setBuf_kept (s : State) (k : Nat) (b : Buf) :
    (State.setBuf s k b).kept = s.kept := by
  simp [State.setBuf]

@[simp] theorem State.setBinWord_kept (s : State) (k bin : Nat) (w : Word) :
    (State.setBinWord s k bin w).kept = s.kept := by
  simp [State.setBinWord]

@[simp] theorem State.fillStart_kept (s : State) (k t : Nat) (m : BufMeta) :
    (State.fillStart s k t m).kept = s.kept := by
  simp [State.fillStart]

@[simp] theorem State.freeze_kept (s : State) (k : Nat) (mask : Bool) :
    (State.freeze s k mask).kept = s.kept := by
  simp [State.freeze]

@[simp] theorem State.unfreeze_kept (s : State) (k : Nat) (mask : Bool) :
    (State.unfreeze s k mask).kept = s.kept := by
  simp [State.unfreeze]

@[simp] theorem State.poison_kept (s : State) (c buf frame : Nat) :
    (State.poison s c buf frame).kept = s.kept := by
  simp [State.poison]

/-! ## Emitters -/

@[simp] theorem State.setCharger_kept (s : State) (k : Nat) (c : Charger) :
    (State.setCharger s k c).kept = s.kept := by
  simp [State.setCharger]

@[simp] theorem State.setChgState_kept (s : State) (k v : Nat) :
    (State.setChgState s k v).kept = s.kept := by
  simp [State.setChgState]

@[simp] theorem State.chargerEnable_kept (s : State) (k : Nat) :
    (State.chargerEnable s k).kept = s.kept := by
  simp [State.chargerEnable]

@[simp] theorem State.chargerFault_kept (s : State) (k cause banks : Nat) :
    (State.chargerFault s k cause banks).kept = s.kept := by
  simp [State.chargerFault]

@[simp] theorem State.targetForm_kept (s : State) (gait k : Nat) :
    (State.targetForm s gait k).kept = s.kept := by
  simp [State.targetForm]

@[simp] theorem State.targetsForm_kept (s : State) (gait : Nat) :
    (State.targetsForm s gait).kept = s.kept := by
  simp [State.targetsForm]

@[simp] theorem State.adaptUpdate_kept (s : State) (k : Nat) :
    (State.adaptUpdate s k).kept = s.kept := by
  simp [State.adaptUpdate]

@[simp] theorem State.adaptFix_kept (s : State) (k : Nat) :
    (State.adaptFix s k).kept = s.kept := by
  simp [State.adaptFix]

@[simp] theorem State.adaptTake_kept (s : State) :
    (State.adaptTake s).kept = s.kept := by
  simp [State.adaptTake]

@[simp] theorem State.expTake_kept (s : State) :
    (State.expTake s).kept = s.kept := by
  simp [State.expTake]

@[simp] theorem State.addWeight_kept (s : State) (b w : Nat) :
    (State.addWeight s b w).kept = s.kept := by
  simp [State.addWeight]

@[simp] theorem execChargerSample_kept (t charger code : Nat) (fltLow : Bool) (s : State) :
    (stateOf s (execChargerSample t charger code fltLow s)).kept = s.kept := by
  unfold execChargerSample
  try dsimp only
  (repeat' split) <;> simp

@[simp] theorem State.rampOne_kept (t k : Nat) (s : State) :
    (State.rampOne t k s).kept = s.kept := by
  simp [State.rampOne]

@[simp] theorem execRampTick_kept (t : Nat) (s : State) :
    (stateOf s (execRampTick t s)).kept = s.kept := by
  unfold execRampTick; split <;> simp

@[simp] theorem execChgTimeout_kept (t charger : Nat) (s : State) :
    (stateOf s (execChgTimeout t charger s)).kept = s.kept := by
  unfold execChgTimeout
  try dsimp only
  (repeat' split) <;> simp

@[simp] theorem execChgExtFault_kept (t charger : Nat) (s : State) :
    (stateOf s (execChgExtFault t charger s)).kept = s.kept := by
  simp [execChgExtFault]

@[simp] theorem execExpSlotEnd_kept (t : Nat) (s : State) :
    (stateOf s (execExpSlotEnd t s)).kept = s.kept := by
  simp [execExpSlotEnd]

@[simp] theorem State.strayMonitor_kept (s : State) (b : Nat) :
    (State.strayMonitor s b).kept = s.kept := by
  simp [State.strayMonitor]

@[simp] theorem State.chargerClear_kept (s : State) (k : Nat) :
    (State.chargerClear s k).kept = s.kept := by
  simp [State.chargerClear]

/-! ## Templates -/

@[simp] theorem State.withCluster_kept (s : State) (k : Nat) (f : Cluster → Cluster) :
    (State.withCluster s k f).kept = s.kept := by
  simp [State.withCluster]

@[simp] theorem State.withFar_kept (s : State) (f : Farrier → Farrier) :
    (State.withFar s f).kept = s.kept := by
  simp [State.withFar]

@[simp] theorem State.autoTemplate_kept (s : State) (k : Nat) (x : Template) :
    (State.autoTemplate s k x).kept = s.kept := by
  unfold State.autoTemplate; dsimp only; split <;> simp

@[simp] theorem State.gatherRestart_kept (s : State) (k : Nat) :
    (State.gatherRestart s k).kept = s.kept := by
  simp [State.gatherRestart]

@[simp] theorem State.fadeEnd_kept (s : State) (k : Nat) :
    (State.fadeEnd s k).kept = s.kept := by
  simp [State.fadeEnd]

@[simp] theorem State.tplHandOff_kept (s : State) (h : Nat) :
    (State.tplHandOff s h).kept = s.kept := by
  unfold State.tplHandOff
  refine (forUpto_kept _ _ _ ?_).trans ?_
  · intro i s; (try dsimp only); (repeat' split) <;> simp
  · simp

end Sys2Proof.Machine
end

