-- ==== Sys2Proof/Laws/KeptScan.lean ====
section
/-! SUPPORT. What no operation touches but the power-on reset pair: the queue, the factory identity and power-on reset
(State.kept). Here: stamping, histograms, the mirror, the columns and the streams. -/
namespace Sys2Proof.Machine

/-! ## Stamping -/

@[simp] theorem State.withStamp_kept (s : State) (f : Stamping → Stamping) :
    (State.withStamp s f).kept = s.kept := by
  simp [State.withStamp]

@[simp] theorem State.withCh_kept (s : State) (c : Nat) (f : Chan → Chan) :
    (State.withCh s c f).kept = s.kept := by
  simp [State.withCh]

@[simp] theorem State.withSpare_kept (s : State) (u : Nat) (f : Spare → Spare) :
    (State.withSpare s u f).kept = s.kept := by
  simp [State.withSpare]

@[simp] theorem State.setGate_kept (s : State) (g : Nat) (x : Gate) :
    (State.setGate s g x).kept = s.kept := by
  simp [State.setGate]

@[simp] theorem State.withCol_kept (s : State) (frame seq : Nat) (f : Column → Column) :
    (State.withCol s frame seq f).kept = s.kept := by
  simp [State.withCol]

@[simp] theorem State.setPile_kept (s : State) (k bin : Nat) :
    (State.setPile s k bin).kept = s.kept := by
  unfold State.setPile; split <;> simp

@[simp] theorem State.pileDrop_kept (s : State) (c : Nat) (k : Column) (tick : Nat) :
    (State.pileDrop s c k tick).kept = s.kept := by
  unfold State.pileDrop
  try dsimp only
  (repeat' split) <;> simp

@[simp] theorem State.dispose_kept (s : State) (k : Column) (e : RetEvent) (f : Fate) :
    (State.dispose s k e f).kept = s.kept := by
  unfold State.dispose; split <;> simp

@[simp] theorem State.settleCol_kept (s : State) (frame seq : Nat) (last : Bool) :
    (State.settleCol s frame seq last).kept = s.kept := by
  unfold State.settleCol; split <;> simp

@[simp] theorem State.holdOff_kept (s : State) (start : Option Nat) (ns raw : Nat) :
    (State.holdOff s start ns raw).2.kept = s.kept := by
  unfold State.holdOff
  try dsimp only
  (repeat' split) <;> simp

@[simp] theorem State.levelTest_kept (s : State) (stay : Nat) :
    (State.levelTest s stay).2.kept = s.kept := by
  unfold State.levelTest
  try dsimp only
  (repeat' split) <;> simp

@[simp] theorem execReturnEvent_kept (channel tick code stay : Nat) (s : State) :
    (stateOf s (execReturnEvent channel tick code stay s)).kept = s.kept := by
  unfold execReturnEvent
  try dsimp only
  (repeat' split) <;> simp

@[simp] theorem execCreditRestore_kept (t : Nat) (s : State) :
    (stateOf s (execCreditRestore t s)).kept = s.kept := by
  simp [execCreditRestore]

@[simp] theorem State.statSample_kept (s : State) (src : Nat) (v : Int) :
    (State.statSample s src v).kept = s.kept := by
  simp [State.statSample]

@[simp] theorem execStatResultComplete_kept (t : Nat) (s : State) :
    (stateOf s (execStatResultComplete t s)).kept = s.kept := by
  unfold execStatResultComplete; (repeat' split) <;> simp

@[simp] theorem State.statStart_kept (s : State) :
    (State.statStart s).kept = s.kept := by
  simp [State.statStart]

@[simp] theorem execArmingDecision_kept (bank pulse : Nat) (s : State) :
    (stateOf s (execArmingDecision bank pulse s)).kept = s.kept := by
  unfold execArmingDecision
  try dsimp only
  (repeat' split) <;> simp

@[simp] theorem execGateEdge_kept (gate tick code : Nat) (rising : Bool) (s : State) :
    (stateOf s (execGateEdge gate tick code rising s)).kept = s.kept := by
  unfold execGateEdge
  try dsimp only
  (repeat' split) <;> simp

@[simp] theorem execMonitorEvent_kept (bank tick code : Nat) (s : State) :
    (stateOf s (execMonitorEvent bank tick code s)).kept = s.kept := by
  unfold execMonitorEvent
  try dsimp only
  (repeat' split) <;> simp

@[simp] theorem execMonWinExpiry_kept (bank pulse : Nat) (s : State) :
    (stateOf s (execMonWinExpiry bank pulse s)).kept = s.kept := by
  unfold execMonWinExpiry
  try dsimp only
  (repeat' split) <;> simp

/-! ## Dma -/

@[simp] theorem State.setChan_kept (s : State) (c : Nat) (d : DmaChan) :
    (State.setChan s c d).kept = s.kept := by
  simp [State.setChan]

@[simp] theorem State.setStalled_kept (s : State) (c : Nat) (v : Bool) :
    (State.setStalled s c v).kept = s.kept := by
  simp [State.setStalled]

@[simp] theorem State.dumpDone_kept (s : State) :
    (State.dumpDone s).kept = s.kept := by
  unfold State.dumpDone; split <;> simp

@[simp] theorem State.dumpArrived_kept (s : State) (q : Dump) :
    (State.dumpArrived s q).kept = s.kept := by
  simp [State.dumpArrived]

@[simp] theorem State.wordsOut_kept (s : State) (d : DmaDone) :
    (State.wordsOut s d).kept = s.kept := by
  unfold State.wordsOut; split <;> simp

@[simp] theorem State.dumpMoved_kept (s : State) :
    (State.dumpMoved s).kept = s.kept := by
  unfold State.dumpMoved; split <;> simp

@[simp] theorem State.itemDone_kept (s : State) (d : DmaDone) :
    (State.itemDone s d).kept = s.kept := by
  unfold State.itemDone; split <;> simp

@[simp] theorem State.stall_kept (s : State) (c cause va : Nat) :
    (State.stall s c cause va).kept = s.kept := by
  simp [State.stall]

@[simp] theorem State.startWalk_kept (s : State) (c va : Nat) (resume write : Bool) :
    (State.startWalk s c va resume write).kept = s.kept := by
  simp [State.startWalk]

@[simp] theorem State.issue_kept (s : State) (c va pa : Nat) (bytes : List Byte) :
    (State.issue s c va pa bytes).kept = s.kept := by
  unfold State.issue
  refine (foldl_kept_fst _ _ _ ?_).trans rfl
  intro a i; simp

theorem State.pump1_kept (s : State) (c : Nat) (t : State) (h : s.pump1 c = some t) : t.kept = s.kept := by
  unfold State.pump1 at h
  dsimp only at h
  (repeat' split at h) <;> simp_all <;> (subst h; simp)

@[simp] theorem State.pumpAux_kept (c n : Nat) (s : State) : (State.pumpAux c n s).kept = s.kept := by
  induction n generalizing s with
  | zero => rfl
  | succ n ih =>
    unfold State.pumpAux
    split
    · rename_i h; rw [ih, State.pump1_kept _ _ _ h]
    · rfl

@[simp] theorem State.pump_kept (s : State) (c : Nat) : (State.pump s c).kept = s.kept := by
  unfold State.pump; simp

@[simp] theorem State.resumeWalk_kept (s : State) (c : Nat) :
    (State.resumeWalk s c).kept = s.kept := by
  simp [State.resumeWalk]

@[simp] theorem State.pumpAll_kept (s : State) :
    (State.pumpAll s).kept = s.kept := by
  simp [State.pumpAll]

@[simp] theorem State.dmaPush_kept (s : State) (c : Nat) (i : DmaItem) :
    (State.dmaPush s c i).kept = s.kept := by
  simp [State.dmaPush]

@[simp] theorem State.cache_kept (s : State) (t : TlbEntry) :
    (State.cache s t).kept = s.kept := by
  simp [State.cache]

@[simp] theorem State.walkDone_kept (s : State) (c : Nat) (l1 l2 : TableRead) :
    (State.walkDone s c l1 l2).kept = s.kept := by
  unfold State.walkDone
  try dsimp only
  (repeat' split) <;> simp

@[simp] theorem State.pushReply_kept (s : State) (r : Reply) :
    (State.pushReply s r).kept = s.kept := by
  simp [State.pushReply]

@[simp] theorem State.discardColumn_kept (s : State) (r frame : Nat) (i : DmaItem) :
    (State.discardColumn s r frame i).kept = s.kept := by
  simp [State.discardColumn]

@[simp] theorem State.chanIdle_kept (s : State) (c : Nat) :
    (State.chanIdle s c).kept = s.kept := by
  unfold State.chanIdle
  dsimp only
  refine (forEach_kept _ _ _ ?_).trans ?_
  · intro i s; (try dsimp only); (repeat' split) <;> simp
  · simp

@[simp] theorem State.abortItem_kept (s : State) (c : Nat) :
    (State.abortItem s c).kept = s.kept := by
  unfold State.abortItem
  try dsimp only
  (repeat' split) <;> simp

@[simp] theorem State.abortFetch_kept (s : State) :
    (State.abortFetch s).kept = s.kept := by
  simp [State.abortFetch]

@[simp] theorem State.dmaAbort_kept (s : State) (c : Nat) :
    (State.dmaAbort s c).kept = s.kept := by
  simp [State.dmaAbort]

@[simp] theorem State.dmaResume_kept (s : State) (c : Nat) :
    (State.dmaResume s c).kept = s.kept := by
  simp [State.dmaResume]

@[simp] theorem State.showBm_kept (s : State) :
    (State.showBm s).kept = s.kept := by
  simp [State.showBm]

/-! ## Histogram -/

@[simp] theorem State.accumulate_kept (s : State) (c buf frame bin r : Nat) (high : Bool) :
    (State.accumulate s c buf frame bin r high).kept = s.kept := by
  unfold State.accumulate; dsimp only; split <;> simp

@[simp] theorem State.binOne_kept (s : State) (k : Column) (e : BinEvent) :
    (State.binOne s k e).kept = s.kept := by
  simp [State.binOne]

@[simp] theorem State.binAll_kept (s : State) (c : Nat) (k : Column) :
    (State.binAll s c k).kept = s.kept := by
  simp [State.binAll]

@[simp] theorem execHistogramAccumulate_kept (channel : Nat) (s : State) :
    (stateOf s (execHistogramAccumulate channel s)).kept = s.kept := by
  unfold execHistogramAccumulate; (repeat' split) <;> simp

@[simp] theorem State.dumpStart_kept (s : State) (frozenSrc anyCol : Bool) (column first count : Nat) :
    (State.dumpStart s frozenSrc anyCol column first count).kept = s.kept := by
  simp [State.dumpStart]

@[simp] theorem State.dumpRecheck_kept (s : State) :
    (State.dumpRecheck s).kept = s.kept := by
  unfold State.dumpRecheck; split <;> simp

@[simp] theorem execDumpRecord_kept (s : State) :
    (stateOf s (execDumpRecord s)).kept = s.kept := by
  unfold execDumpRecord; (repeat' split) <;> simp

@[simp] theorem State.freezeView_kept (s : State) (c : Nat) :
    (State.freezeView s c).kept = s.kept := by
  simp [State.freezeView]

/-! ## Mirror -/

@[simp] theorem State.withMir_kept (s : State) (f : Mirror → Mirror) :
    (State.withMir s f).kept = s.kept := by
  simp [State.withMir]

@[simp] theorem State.emitGates_kept (s : State) (hs ls t v : Nat) :
    (State.emitGates s hs ls t v).kept = s.kept := by
  simp [State.emitGates]

@[simp] theorem State.gatesOn_kept (s : State) (t : Nat) :
    (State.gatesOn s t).kept = s.kept := by
  unfold State.gatesOn; split <;> simp

@[simp] theorem State.setDrive_kept (s : State) (b : Nat) (d : Drive) (t : Nat) :
    (State.setDrive s b d t).kept = s.kept := by
  simp [State.setDrive]

@[simp] theorem State.enterMir_kept (s : State) (st : Nat) :
    (State.enterMir s st).kept = s.kept := by
  simp [State.enterMir]

@[simp] theorem State.parkCause_kept (s : State) (c : Nat) :
    (State.parkCause s c).kept = s.kept := by
  simp [State.parkCause]

@[simp] theorem State.blindPark_kept (s : State) (cause : Nat) :
    (State.blindPark s cause).kept = s.kept := by
  simp [State.blindPark]

@[simp] theorem State.mirrorOff_kept (s : State) :
    (State.mirrorOff s).kept = s.kept := by
  simp [State.mirrorOff]

@[simp] theorem State.setAmpl_kept (s : State) (h : Nat) :
    (State.setAmpl s h).kept = s.kept := by
  simp [State.setAmpl]

@[simp] theorem State.tryRamp_kept (s : State) :
    (State.tryRamp s).kept = s.kept := by
  unfold State.tryRamp; split <;> simp

@[simp] theorem State.spinDown_kept (s : State) (cause : Nat) :
    (State.spinDown s cause).kept = s.kept := by
  simp [State.spinDown]

@[simp] theorem State.parkFromRest_kept (s : State) :
    (State.parkFromRest s).kept = s.kept := by
  simp [State.parkFromRest]

@[simp] theorem State.tryPark_kept (s : State) :
    (State.tryPark s).kept = s.kept := by
  unfold State.tryPark; (repeat' split) <;> simp

@[simp] theorem State.bridgeFault_kept (s : State) (cause : Nat) (i : Int) :
    (State.bridgeFault s cause i).kept = s.kept := by
  simp [State.bridgeFault]

@[simp] theorem State.mirDrv_kept (s : State) :
    (State.mirDrv s).kept = s.kept := by
  simp [State.mirDrv]

@[simp] theorem State.mirRun_kept (s : State) :
    (State.mirRun s).kept = s.kept := by
  simp [State.mirRun]

@[simp] theorem State.limitIRef_kept (s : State) :
    (State.limitIRef s).kept = s.kept := by
  simp [State.limitIRef]

@[simp] theorem State.chooseDrive_kept (s : State) (t : Nat) (i : Int) :
    (State.chooseDrive s t i).kept = s.kept := by
  simp [State.chooseDrive]

@[simp] theorem State.currentAt_kept (s : State) (t : Nat) (code : Int) :
    (State.currentAt s t code).kept = s.kept := by
  simp [State.currentAt]

@[simp] theorem execCurrentSample_kept (t : Nat) (code : Int) (s : State) :
    (stateOf s (execCurrentSample t code s)).kept = s.kept := by
  unfold execCurrentSample; (repeat' split) <;> simp

@[simp] theorem execBridgeStuck_kept (t : Nat) (code : Int) (s : State) :
    (stateOf s (execBridgeStuck t code s)).kept = s.kept := by
  simp [execBridgeStuck]

@[simp] theorem execBridgeTakeover_kept (code : Int) (s : State) :
    (stateOf s (execBridgeTakeover code s)).kept = s.kept := by
  unfold execBridgeTakeover; (repeat' split) <;> simp

@[simp] theorem State.angleTaken_kept (s : State) (q : Frac) (tn g : Nat) (invalid skipped : Bool) :
    (State.angleTaken s q tn g invalid skipped).kept = s.kept := by
  unfold State.angleTaken
  try dsimp only
  (repeat' split) <;> simp

@[simp] theorem State.angleArrive_kept (s : State) (q : Frac) (tn g : Nat) (invalid skipped : Bool) :
    (State.angleArrive s q tn g invalid skipped).kept = s.kept := by
  unfold State.angleArrive
  try dsimp only
  (repeat' split) <;> simp

@[simp] theorem execAngleStale_kept (t : Nat) (s : State) :
    (stateOf s (execAngleStale t s)).kept = s.kept := by
  simp [execAngleStale]

@[simp] theorem State.ampSlew_kept (s : State) :
    (State.ampSlew s).kept = s.kept := by
  simp [State.ampSlew]

@[simp] theorem State.tickEnd_kept (s : State) :
    (State.tickEnd s).kept = s.kept := by
  simp [State.tickEnd]

@[simp] theorem State.learn_kept (s : State) (t : Int) (e : Int) :
    (State.learn s t e).kept = s.kept := by
  simp [State.learn]

@[simp] theorem State.mirMax_kept (s : State) (f : FieldRef) (v : Nat) :
    (State.mirMax s f v).kept = s.kept := by
  simp [State.mirMax]

@[simp] theorem State.trackError_kept (s : State) (t : Int) (e : Int) :
    (State.trackError s t e).kept = s.kept := by
  simp [State.trackError]

@[simp] theorem State.positionLoop_kept (s : State) (t : Nat) :
    (State.positionLoop s t).kept = s.kept := by
  simp [State.positionLoop]

@[simp] theorem execPositionLoopTick_kept (t : Nat) (s : State) :
    (stateOf s (execPositionLoopTick t s)).kept = s.kept := by
  unfold execPositionLoopTick; split <;> simp

@[simp] theorem State.overrun_kept (s : State) :
    (State.overrun s).kept = s.kept := by
  simp [State.overrun]

@[simp] theorem execOuterLoopOverrun_kept (t : Nat) (s : State) :
    (stateOf s (execOuterLoopOverrun t s)).kept = s.kept := by
  unfold execOuterLoopOverrun; (repeat' split) <;> simp

@[simp] theorem State.mirrorBoundary_kept (s : State) :
    (State.mirrorBoundary s).kept = s.kept := by
  unfold State.mirrorBoundary; split <;> simp

@[simp] theorem State.rcLimit_kept (s : State) :
    (State.rcLimit s).kept = s.kept := by
  simp [State.rcLimit]

@[simp] theorem State.rcClear_kept (s : State) :
    (State.rcClear s).kept = s.kept := by
  simp [State.rcClear]

@[simp] theorem State.mirRestart_kept (s : State) :
    (State.mirRestart s).kept = s.kept := by
  simp [State.mirRestart]

/-! ## Columns -/

@[simp] theorem State.fillAll_kept (s : State) (t : Nat) (m : BufMeta) :
    (State.fillAll s t m).kept = s.kept := by
  simp [State.fillAll]

@[simp] theorem State.setBase_kept (s : State) (frame seq hPrev : Nat) :
    (State.setBase s frame seq hPrev).kept = s.kept := by
  unfold State.setBase; split <;> simp

@[simp] theorem State.openColumn_kept (s : State) (t : Nat) (angle : Int) (skipped : Bool) :
    (State.openColumn s t angle skipped).kept = s.kept := by
  unfold State.openColumn; dsimp only; split <;> simp

@[simp] theorem execColumnTrigger_kept (s : State) :
    (stateOf s (execColumnTrigger s)).kept = s.kept := by
  unfold execColumnTrigger; (repeat' split) <;> simp

@[simp] theorem execColumnSkipTimeout_kept (s : State) :
    (stateOf s (execColumnSkipTimeout s)).kept = s.kept := by
  simp [execColumnSkipTimeout]

@[simp] theorem execFireCommand_kept (bank pulse : Nat) (s : State) :
    (stateOf s (execFireCommand bank pulse s)).kept = s.kept := by
  unfold execFireCommand; (repeat' split) <;> simp

@[simp] theorem State.handBuffers_kept (s : State) (c : Column) :
    (State.handBuffers s c).kept = s.kept := by
  simp [State.handBuffers]

@[simp] theorem State.dumpTarget_kept (s : State) (c : Column) :
    (State.dumpTarget s c).kept = s.kept := by
  unfold State.dumpTarget; split <;> simp

@[simp] theorem execHandOff_kept (s : State) :
    (stateOf s (execHandOff s)).kept = s.kept := by
  unfold execHandOff; (repeat' split) <;> simp

/-! ## Paddocks -/

@[simp] theorem State.withSup_kept (s : State) (f : Supervisor → Supervisor) :
    (State.withSup s f).kept = s.kept := by
  simp [State.withSup]

@[simp] theorem State.withPad_kept (s : State) (p : Nat) (f : Paddock → Paddock) :
    (State.withPad s p f).kept = s.kept := by
  simp [State.withPad]

@[simp] theorem State.paddockCount_kept (s : State) (c : Cand) (index : Nat) :
    (State.paddockCount s c index).kept = s.kept := by
  unfold State.paddockCount; dsimp only; split <;> simp

@[simp] theorem State.engineCount_kept (s : State) (c : Cand) (index : Nat) :
    (State.engineCount s c index).kept = s.kept := by
  unfold State.engineCount
  dsimp only
  split
  · refine (forUpto_kept _ _ _ ?_).trans ?_
    · intro i s; (repeat' split) <;> simp_all <;> (repeat' split) <;> simp
    · rfl
  · rfl

@[simp] theorem execIntervalEngineCandidate_kept (t : Nat) (s : State) :
    (stateOf s (execIntervalEngineCandidate t s)).kept = s.kept := by
  unfold execIntervalEngineCandidate
  try dsimp only
  (repeat' split) <;> simp

@[simp] theorem State.showMerged_kept (s : State) :
    (State.showMerged s).kept = s.kept := by
  simp [State.showMerged]

@[simp] theorem State.padTables_kept (s : State) (paddock : Nat) :
    (State.padTables s paddock).kept = s.kept := by
  simp [State.padTables]

@[simp] theorem State.retable_kept (s : State) :
    (State.retable s).kept = s.kept := by
  simp [State.retable]

/-! ## Pipe -/

@[simp] theorem State.readTrack_kept (s : State) (c buf frame : Nat) :
    (State.readTrack s c buf frame).2.kept = s.kept := by
  unfold State.readTrack
  dsimp only
  refine (foldl_kept_snd _ _ _ ?_).trans rfl
  intro a i; split <;> simp

@[simp] theorem State.maskViolation_kept (s : State) (k : Column) (c : Nat) (full : Bool) (v : List (Nat × Bool × Bool)) :
    (State.maskViolation s k c full v).kept = s.kept := by
  simp [State.maskViolation]

@[simp] theorem State.maskTest_kept (s : State) (k : Column) (c : Nat) (t : Track) :
    (State.maskTest s k c t).kept = s.kept := by
  unfold State.maskTest; dsimp only; split <;> simp

@[simp] theorem State.extract_kept (s : State) (k : Column) (c : Nat) (t : Track) (poison : Bool) :
    (State.extract s k c t poison).kept = s.kept := by
  simp [State.extract]

@[simp] theorem execPipeChannelRead_kept (channel : Nat) (s : State) :
    (stateOf s (execPipeChannelRead channel s)).kept = s.kept := by
  unfold execPipeChannelRead; (repeat' split) <;> simp

@[simp] theorem State.gatherCand_kept (s : State) (k : Nat) (c : Cand) :
    (State.gatherCand s k c).kept = s.kept := by
  simp [State.gatherCand]

@[simp] theorem State.edgeCand_kept (s : State) (k : Column) (c : Cand) :
    (State.edgeCand s k c).kept = s.kept := by
  unfold State.edgeCand
  try dsimp only
  (repeat' split) <;> simp

@[simp] theorem State.satColumn_kept (s : State) (c : Cand) :
    (State.satColumn s c).kept = s.kept := by
  simp [State.satColumn]

@[simp] theorem State.toQueue_kept (s : State) (region : Nat) (x : QueueRec) :
    (State.toQueue s region x).kept = s.kept := by
  simp [State.toQueue]

@[simp] theorem State.markerOut_kept (s : State) (m : EndMarker) :
    (State.markerOut s m).kept = s.kept := by
  simp [State.markerOut]

@[simp] theorem State.markersOut_kept (s : State) (cluster : Nat) (l : List QueueRec) :
    (State.markersOut s cluster l).kept = s.kept := by
  induction l generalizing s with
  | nil => simp [State.markersOut]
  | cons q l ih => cases q <;> simp [State.markersOut, ih]

@[simp] theorem execMomentSolve_kept (cluster : Nat) (s : State) :
    (stateOf s (execMomentSolve cluster s)).kept = s.kept := by
  unfold execMomentSolve
  dsimp only
  (repeat' split) <;> simp

@[simp] theorem execColumnEndMarker_kept (cluster : Nat) (s : State) :
    (stateOf s (execColumnEndMarker cluster s)).kept = s.kept := by
  unfold execColumnEndMarker
  dsimp only
  (repeat' split) <;> simp

@[simp] theorem State.bgView_kept (s : State) (c : Nat) :
    (State.bgView s c).kept = s.kept := by
  simp [State.bgView]

@[simp] theorem State.maskView_kept (s : State) (c : Nat) :
    (State.maskView s c).kept = s.kept := by
  simp [State.maskView]

@[simp] theorem State.maskRelease_kept (s : State) (all co b0 b1 : Bool) (c : Nat) :
    (State.maskRelease s all co b0 b1 c).kept = s.kept := by
  unfold State.maskRelease
  dsimp only
  (repeat' split)
  · refine (foldl_kept _ _ _ ?_)
    intro s i; simp
  all_goals simp

/-! ## Stream -/

@[simp] theorem State.withStream_kept (s : State) (r : Nat) (f : Stream → Stream) :
    (State.withStream s r f).kept = s.kept := by
  simp [State.withStream]

@[simp] theorem State.countSlots_kept (s : State) (plane : SMap Word) (valid : SMap Bool) (index row : Nat) :
    (State.countSlots s plane valid index row).kept = s.kept := by
  simp [State.countSlots]

@[simp] theorem State.updatePrev_kept (s : State) (r : Nat) (k : Column) (es : List Echo) :
    (State.updatePrev s r k es).kept = s.kept := by
  simp [State.updatePrev]

@[simp] theorem State.sendColumn_kept (s : State) (r : Nat) (k : Column) (recs : List Rec) (whole : Bool) (unref : Nat) :
    (State.sendColumn s r k recs whole unref).kept = s.kept := by
  unfold State.sendColumn; split <;> simp

@[simp] theorem State.endJobs_kept (s : State) (r : Nat) (k : Column) :
    (State.endJobs s r k).kept = s.kept := by
  unfold State.endJobs
  refine (forUpto_kept _ _ _ ?_).trans ?_
  · intro i s; (try dsimp only); (repeat' split) <;> simp
  · simp

@[simp] theorem State.releaseRest_kept (s : State) (r : Nat) :
    (State.releaseRest s r).kept = s.kept := by
  unfold State.releaseRest; split <;> simp

@[simp] theorem State.cutFrame_kept (s : State) (drop : Bool) :
    (State.cutFrame s drop).kept = s.kept := by
  unfold State.cutFrame; split <;> simp

@[simp] theorem execReleaseDeadline_kept (region : Nat) (s : State) :
    (stateOf s (execReleaseDeadline region s)).kept = s.kept := by
  unfold execReleaseDeadline; (repeat' split) <;> simp

@[simp] theorem execRingWriteback_kept (t region : Nat) (s : State) :
    (stateOf s (execRingWriteback t region s)).kept = s.kept := by
  unfold execRingWriteback
  try dsimp only
  (repeat' split) <;> simp

@[simp] theorem execCoalUsExpiry_kept (region : Nat) (s : State) :
    (stateOf s (execCoalUsExpiry region s)).kept = s.kept := by
  unfold execCoalUsExpiry; (repeat' split) <;> simp

@[simp] theorem State.pointRingEnable_kept (s : State) (r : Nat) :
    (State.pointRingEnable s r).kept = s.kept := by
  simp [State.pointRingEnable]

end Sys2Proof.Machine
end

