-- ==== Sys2Proof/Laws/KeptUnits.lean ====
section
/-! SUPPORT. What no operation touches but the power-on reset pair: the queue, the factory identity and power-on reset
(State.kept). Here: the processors, the sense front end, Farrier, the supervisor and the Bridle. -/
namespace Sys2Proof.Machine

/-! ## Evoth -/

@[simp] theorem State.withCore_kept (s : State) (q : Nat) (f : EvothCore → EvothCore) :
    (State.withCore s q f).kept = s.kept := by
  simp [State.withCore]

@[simp] theorem State.setLevel_kept (s : State) (q v : Nat) :
    (State.setLevel s q v).kept = s.kept := by
  simp [State.setLevel]

@[simp] theorem State.coreFault_kept (s : State) (q code addr : Nat) :
    (State.coreFault s q code addr).kept = s.kept := by
  simp [State.coreFault]

@[simp] theorem State.loadColumnProg_kept (s : State) (q : Nat) :
    (State.loadColumnProg s q).kept = s.kept := by
  simp [State.loadColumnProg]

@[simp] theorem State.startBg_kept (s : State) (q : Nat) :
    (State.startBg s q).kept = s.kept := by
  unfold State.startBg; split <;> simp

@[simp] theorem State.bgDo_kept (s : State) (q : Nat) (d : BgDue) : (State.bgDo s q d).kept = s.kept := by
  cases d <;> unfold State.bgDo <;> dsimp only <;> (repeat' split) <;> simp

@[simp] theorem State.bgAsk_kept (s : State) (q : Nat) (d : BgDue) :
    (State.bgAsk s q d).kept = s.kept := by
  unfold State.bgAsk
  split <;> simp

@[simp] theorem State.holdBg_kept (s : State) (q : Nat) :
    (State.holdBg s q).kept = s.kept := by
  simp [State.holdBg]

@[simp] theorem State.endColumnJob_kept (s : State) (q : Nat) :
    (State.endColumnJob s q).kept = s.kept := by
  simp [State.endColumnJob]

@[simp] theorem State.repeatEnd_kept (s : State) (q : Nat) :
    (State.repeatEnd s q).kept = s.kept := by
  unfold State.repeatEnd
  dsimp only
  (repeat' split) <;> simp [*]

@[simp] theorem State.evothRun_kept (s : State) (q : Nat) (f : EvothRegs → SMap (BitVec 32) → InstrStep) :
    (State.evothRun s q f).kept = s.kept := by
  unfold State.evothRun
  try dsimp only
  (repeat' split) <;> simp

@[simp] theorem State.instrFault_kept (s : State) (q code addr : Nat) :
    (State.instrFault s q code addr).kept = s.kept := by
  simp [State.instrFault]

@[simp] theorem execEvothInstructionFetch_kept (core pc : Nat) (verdict : FetchVerdict) (s : State) :
    (stateOf s (execEvothInstructionFetch core pc verdict s)).kept = s.kept := by
  unfold execEvothInstructionFetch
  try dsimp only
  (repeat' split) <;> simp

@[simp] theorem execEvothRepeat_kept (core : Nat) (count : RepeatCount) (allowed : Bool) (s : State) :
    (stateOf s (execEvothRepeat core count allowed s)).kept = s.kept := by
  simp [execEvothRepeat]

@[simp] theorem execEvothModeSwitch_kept (core : Nat) (narrow : Bool) (s : State) :
    (stateOf s (execEvothModeSwitch core narrow s)).kept = s.kept := by
  simp [execEvothModeSwitch]

@[simp] theorem execEvothAccMove_kept (core acc : Nat) (dest : MoveDest) (s : State) :
    (stateOf s (execEvothAccMove core acc dest s)).kept = s.kept := by
  simp [execEvothAccMove]

@[simp] theorem execEvothLoadSc_kept (core : Nat) (value : BitVec 8) (s : State) :
    (stateOf s (execEvothLoadSc core value s)).kept = s.kept := by
  simp [execEvothLoadSc]

@[simp] theorem execEvothLoadCbsel_kept (core : Nat) (value : BitVec 24) (s : State) :
    (stateOf s (execEvothLoadCbsel core value s)).kept = s.kept := by
  simp [execEvothLoadCbsel]

@[simp] theorem State.drawAccess_kept (s : State) (u v : Option MemAccess) :
    (State.drawAccess s u v).2.kept = s.kept := by
  unfold State.drawAccess; split <;> simp

@[simp] theorem execEvothMac_kept (core acc da db : Nat) (rest : MacRest) (s : State) :
    (stateOf s (execEvothMac core acc da db rest s)).kept = s.kept := by
  simp [execEvothMac]

@[simp] theorem execEvothDataAccess_kept (core : Nat) (u v : Option MemAccess) (s : State) :
    (stateOf s (execEvothDataAccess core u v s)).kept = s.kept := by
  unfold execEvothDataAccess
  split
  · simp
  · simp

@[simp] theorem execBkBlockRepeat_kept (core len count : Nat) (s : State) :
    (stateOf s (execBkBlockRepeat core len count s)).kept = s.kept := by
  unfold execBkBlockRepeat; split <;> simp

@[simp] theorem execBkUnsupportedInstruction_kept (core : Nat) (s : State) :
    (stateOf s (execBkUnsupportedInstruction core s)).kept = s.kept := by
  simp [execBkUnsupportedInstruction]

@[simp] theorem State.loadColumnImage_kept (s : State) (q : Nat) :
    (State.loadColumnImage s q).kept = s.kept := by
  simp [State.loadColumnImage]

@[simp] theorem State.refineBoundary_kept (s : State) :
    (State.refineBoundary s).kept = s.kept := by
  unfold State.refineBoundary
  try dsimp only
  (repeat' split) <;> simp

@[simp] theorem State.loadBg_kept (s : State) (q : Nat) (x : EvothImage) :
    (State.loadBg s q x).kept = s.kept := by
  simp [State.loadBg]

@[simp] theorem State.dropBg_kept (s : State) (q : Nat) :
    (State.dropBg s q).kept = s.kept := by
  simp [State.dropBg]

@[simp] theorem State.coreRestart_kept (s : State) (q : Nat) :
    (State.coreRestart s q).kept = s.kept := by
  simp [State.coreRestart]

@[simp] theorem State.bgEnables_kept (s : State) :
    (State.bgEnables s).kept = s.kept := by
  simp [State.bgEnables]

@[simp] theorem execRowReady_kept (t row : Nat) (s : State) :
    (stateOf s (execRowReady t row s)).kept = s.kept := by
  unfold execRowReady
  try dsimp only
  (repeat' split) <;> simp

@[simp] theorem execColumnJobStart_kept (t core : Nat) (s : State) :
    (stateOf s (execColumnJobStart t core s)).kept = s.kept := by
  unfold execColumnJobStart
  try dsimp only
  (repeat' split) <;> simp

@[simp] theorem execJobDispatch_kept (t core : Nat) (s : State) :
    (stateOf s (execJobDispatch t core s)).kept = s.kept := by
  simp [execJobDispatch]

@[simp] theorem execEvothReloadDone_kept (t region : Nat) (s : State) :
    (stateOf s (execEvothReloadDone t region s)).kept = s.kept := by
  unfold execEvothReloadDone
  dsimp only
  (repeat' split) <;> simp only [stateOf_next, State.at__kept]
  refine (forUpto_kept _ _ _ ?_).trans ?_
  · intro i s; split <;> simp
  · simp

@[simp] theorem State.coresLost_kept (s : State) (region : Nat) :
    (State.coresLost s region).kept = s.kept := by
  simp [State.coresLost]

/-! ## Housekeeping -/

@[simp] theorem State.setHkc_kept (s : State) (v : Nat) (c : HkConv) :
    (State.setHkc s v c).kept = s.kept := by
  simp [State.setHkc]

@[simp] theorem State.setHacc_kept (s : State) (j : Nat) (a : Acc) :
    (State.setHacc s j a).kept = s.kept := by
  simp [State.setHacc]

@[simp] theorem State.hkStart_kept (s : State) (v : Nat) :
    (State.hkStart s v).kept = s.kept := by
  simp [State.hkStart]

@[simp] theorem State.hkWritten_kept (s : State) :
    (State.hkWritten s).kept = s.kept := by
  unfold State.hkWritten; split <;> simp

@[simp] theorem State.accMean_kept (s : State) (j : Nat) (a : Acc) (mean : Int) :
    (State.accMean s j a mean).kept = s.kept := by
  simp [State.accMean]

@[simp] theorem State.accTake_kept (s : State) (j : Nat) (v : Int) :
    (State.accTake s j v).kept = s.kept := by
  simp [State.accTake]

@[simp] theorem State.calRequest_kept (s : State) (cause : Nat) :
    (State.calRequest s cause).kept = s.kept := by
  simp [State.calRequest]

@[simp] theorem State.calTemp_kept (s : State) :
    (State.calTemp s).kept = s.kept := by
  simp [State.calTemp]

@[simp] theorem State.accWritten_kept (s : State) (j : Nat) (old : Word) :
    (State.accWritten s j old).kept = s.kept := by
  simp [State.accWritten]

@[simp] theorem State.accSelect_kept (s : State) (j : Nat) (clr co : Bool) :
    (State.accSelect s j clr co).kept = s.kept := by
  simp [State.accSelect]

@[simp] theorem State.hkPowerUp_kept (s : State) :
    (State.hkPowerUp s).kept = s.kept := by
  simp [State.hkPowerUp]

/-! ## FrontEnd -/

@[simp] theorem State.withFe_kept (s : State) (f : FrontEnd → FrontEnd) :
    (State.withFe s f).kept = s.kept := by
  simp [State.withFe]

@[simp] theorem State.withConv_kept (s : State) (v : Nat) (f : Conv → Conv) :
    (State.withConv s v f).kept = s.kept := by
  simp [State.withConv]

@[simp] theorem State.withExc_kept (s : State) (j : Nat) (f : Exc → Exc) :
    (State.withExc s j f).kept = s.kept := by
  simp [State.withExc]

@[simp] theorem State.rangeChange_kept (s : State) (v t r : Nat) (byHost : Bool) :
    (State.rangeChange s v t r byHost).kept = s.kept := by
  unfold State.rangeChange; dsimp only; split <;> simp

@[simp] theorem State.takeLin_kept (s : State) (v t : Nat) :
    (State.takeLin s v t).kept = s.kept := by
  unfold State.takeLin; split <;> simp

@[simp] theorem State.tsrc_kept (s : State) (v tn : Nat) :
    (State.tsrc s v tn).2.kept = s.kept := by
  unfold State.tsrc
  try dsimp only
  (repeat' split) <;> simp

@[simp] theorem State.crossed_kept (s : State) (v : Nat) (upper : Bool) (q tn : Nat) :
    (State.crossed s v upper q tn).kept = s.kept := by
  simp [State.crossed]

@[simp] theorem State.thresholds_kept (s : State) (v q tn : Nat) :
    (State.thresholds s v q tn).kept = s.kept := by
  simp [State.thresholds]

@[simp] theorem State.autoRange_kept (s : State) (v k tn : Nat) (code : Int) :
    (State.autoRange s v k tn code).kept = s.kept := by
  unfold State.autoRange
  try dsimp only
  (repeat' split) <;> simp

@[simp] theorem State.outputValue_kept (s : State) (v tn range : Nat) (code : Int) (bad : Bool) :
    (State.outputValue s v tn range code bad).2.kept = s.kept := by
  unfold State.outputValue; split <;> simp

@[simp] theorem State.resultWords_kept (s : State) (v cause preset range tn q : Nat) (rtrans unset : Bool) (code : Int) :
    (State.resultWords s v cause preset range tn q rtrans unset code).kept = s.kept := by
  simp [State.resultWords]

@[simp] theorem State.toEngine_kept (s : State) (v : Nat) (x : AngIn) :
    (State.toEngine s v x).kept = s.kept := by
  simp [State.toEngine]

@[simp] theorem execConverterOutput_kept (conv : Nat) (bits : List Bool) (s : State) :
    (stateOf s (execConverterOutput conv bits s)).kept = s.kept := by
  unfold execConverterOutput
  split
  · simp
  split
  · simp
  split
  · simp
  · dsimp only
    split <;> simp

@[simp] theorem execAngleSample_kept (s : State) :
    (stateOf s (execAngleSample s)).kept = s.kept := by
  unfold execAngleSample; (repeat' split) <;> simp

@[simp] theorem execOverloadDetected_begins_kept (t conv : Nat) (s : State) :
    (execOverloadDetected.begins t conv s).kept = s.kept := by
  unfold execOverloadDetected.begins; simp

@[simp] theorem execOverloadDetected_kept (t conv : Nat) (s : State) :
    (stateOf s (execOverloadDetected t conv s)).kept = s.kept := by
  unfold execOverloadDetected
  dsimp only
  (repeat' split) <;> simp

@[simp] theorem execImpedanceCheckStart_kept (t conv : Nat) (s : State) :
    (stateOf s (execImpedanceCheckStart t conv s)).kept = s.kept := by
  unfold execImpedanceCheckStart; split <;> simp

@[simp] theorem State.impShow_kept (s : State) (conv : Nat) (now_ : List Bool) :
    (State.impShow s conv now_).kept = s.kept := by
  simp [State.impShow]

@[simp] theorem execImpedanceCheckEnd_kept (conv zp zn : Nat) (s : State) :
    (stateOf s (execImpedanceCheckEnd conv zp zn s)).kept = s.kept := by
  unfold execImpedanceCheckEnd
  split
  · simp
  split
  · simp
  split
  · simp
  · simp only [stateOf_next]
    refine (forEach_kept _ _ _ ?_).trans ?_
    · intro i s; simp
    · simp

@[simp] theorem State.impClear_kept (s : State) (v : Nat) :
    (State.impClear s v).kept = s.kept := by
  simp [State.impClear]

@[simp] theorem execExcComplianceFault_kept (t source : Nat) (s : State) :
    (stateOf s (execExcComplianceFault t source s)).kept = s.kept := by
  unfold execExcComplianceFault; split <;> simp

@[simp] theorem execExcComplianceRestored_kept (t source : Nat) (s : State) :
    (stateOf s (execExcComplianceRestored t source s)).kept = s.kept := by
  simp [execExcComplianceRestored]

@[simp] theorem State.senseExc_kept (s : State) (j t : Nat) :
    (State.senseExc s j t).kept = s.kept := by
  simp [State.senseExc]

@[simp] theorem State.sensePins_kept (s : State) (pins : List Nat) (t : Nat) :
    (State.sensePins s pins t).kept = s.kept := by
  simp [State.sensePins]

@[simp] theorem State.senseOff_kept (s : State) (pins : List Nat) (t : Nat) :
    (State.senseOff s pins t).kept = s.kept := by
  simp [State.senseOff]

@[simp] theorem State.senseBias_kept (s : State) (t : Nat) :
    (State.senseBias s t).kept = s.kept := by
  simp [State.senseBias]

@[simp] theorem execChopPhase_kept (source : Nat) (s : State) :
    (stateOf s (execChopPhase source s)).kept = s.kept := by
  simp [execChopPhase]

@[simp] theorem execSyncReset_kept (conv : Nat) (s : State) :
    (stateOf s (execSyncReset conv s)).kept = s.kept := by
  unfold execSyncReset; (repeat' split) <;> simp

@[simp] theorem State.askSync_kept (s : State) (v t : Nat) :
    (State.askSync s v t).kept = s.kept := by
  simp [State.askSync]

@[simp] theorem execFoutPeriodEnd_kept (t output : Nat) (s : State) :
    (stateOf s (execFoutPeriodEnd t output s)).kept = s.kept := by
  unfold execFoutPeriodEnd
  try dsimp only
  (repeat' split) <;> simp

@[simp] theorem State.convWritten_kept (s : State) (v : Nat) (cov old : Word) :
    (State.convWritten s v cov old).kept = s.kept := by
  simp [State.convWritten]

@[simp] theorem State.excStart_kept (s : State) (j nx : Nat) :
    (State.excStart s j nx).kept = s.kept := by
  simp [State.excStart]

@[simp] theorem State.excWritten_kept (s : State) (j : Nat) (old : Word) :
    (State.excWritten s j old).kept = s.kept := by
  simp [State.excWritten]

@[simp] theorem State.feWritten_kept (s : State) (key : Nat) (cov old new : Word) :
    (State.feWritten s key cov old new).kept = s.kept := by
  unfold State.feWritten; (repeat' split) <;> simp

@[simp] theorem State.foutsLow_kept (s : State) :
    (State.foutsLow s).kept = s.kept := by
  simp [State.foutsLow]

@[simp] theorem State.impStop_kept (s : State) :
    (State.impStop s).kept = s.kept := by
  simp [State.impStop]

@[simp] theorem State.feOff_kept (s : State) :
    (State.feOff s).kept = s.kept := by
  simp [State.feOff]

@[simp] theorem State.feOn_kept (s : State) :
    (State.feOn s).kept = s.kept := by
  simp [State.feOn]

/-! ## Farrier -/

@[simp] theorem State.eitherRound_kept (s : State) (exact : Bool) (q : Nat) :
    (State.eitherRound s exact q).2.kept = s.kept := by
  unfold State.eitherRound; split <;> simp

@[simp] theorem State.groupTemp_kept (s : State) (g : Nat) :
    (State.groupTemp s g).2.kept = s.kept := by
  unfold State.groupTemp; split <;> simp

@[simp] theorem State.groupTemps_kept (s : State) :
    (State.groupTemps s).2.kept = s.kept := by
  unfold State.groupTemps
  refine (foldl_kept_snd _ _ _ ?_).trans rfl
  intro a i; simp

@[simp] theorem State.itemFail_kept (s : State) (item which : Nat) (v : Int) :
    (State.itemFail s item which v).kept = s.kept := by
  simp [State.itemFail]

@[simp] theorem State.itemFailFree_kept (s : State) (item which : Nat) :
    (State.itemFailFree s item which).kept = s.kept := by
  simp [State.itemFailFree]

@[simp] theorem State.showLost_kept (s : State) :
    (State.showLost s).kept = s.kept := by
  simp [State.showLost]

@[simp] theorem State.loseChannel_kept (s : State) (c : Nat) :
    (State.loseChannel s c).kept = s.kept := by
  simp [State.loseChannel]

@[simp] theorem State.regularFailed_kept (s : State) (u i : Nat) :
    (State.regularFailed s u i).kept = s.kept := by
  unfold State.regularFailed; dsimp only; split <;> simp

@[simp] theorem State.spareFailed_kept (s : State) (u : Nat) :
    (State.spareFailed s u).kept = s.kept := by
  unfold State.spareFailed
  try dsimp only
  (repeat' split) <;> simp

@[simp] theorem State.failPath_kept (s : State) (path finding : Nat) :
    (State.failPath s path finding).kept = s.kept := by
  unfold State.failPath; split <;> simp

@[simp] theorem State.spareCompare_kept (s : State) (x : SpareCompare) :
    (State.spareCompare s x).kept = s.kept := by
  unfold State.spareCompare
  try dsimp only
  (repeat' split) <;> simp

@[simp] theorem State.strobeCheck_kept (s : State) (x : StrobeCheck) :
    (State.strobeCheck s x).kept = s.kept := by
  simp [State.strobeCheck]

@[simp] theorem execStrobeWindowStart_kept (t : Nat) (comps : List SpareCompare) (s : State) :
    (stateOf s (execStrobeWindowStart t comps s)).kept = s.kept := by
  unfold execStrobeWindowStart; split <;> simp

@[simp] theorem execStrobeWindowEnd_kept (t : Nat) (checks : List StrobeCheck) (s : State) :
    (stateOf s (execStrobeWindowEnd t checks s)).kept = s.kept := by
  unfold execStrobeWindowEnd; split <;> simp

@[simp] theorem execCalRunStart_kept (t : Nat) (s : State) :
    (stateOf s (execCalRunStart t s)).kept = s.kept := by
  unfold execCalRunStart; (repeat' split) <;> simp

@[simp] theorem State.runVerdict_kept (s : State) (path : Nat) (bad : Bool) :
    (State.runVerdict s path bad).kept = s.kept := by
  simp [State.runVerdict]

@[simp] theorem State.solveSelections_kept (s : State) (m : CalMeasure) (r : RunResult) :
    (State.solveSelections s m r).1.kept = s.kept := by
  unfold State.solveSelections
  dsimp only
  refine (foldl_kept_fst _ _ _ ?_).trans ((foldl_kept_fst _ _ _ ?_).trans rfl)
  · intro a i; split <;> simp
  · intro a i; split
    · split <;> simp
    · simp

@[simp] theorem State.solveTables_kept (s : State) (m : CalMeasure) (r : RunResult) :
    (State.solveTables s m r).1.kept = s.kept := by
  unfold State.solveTables
  dsimp only
  refine (foldl_kept_fst _ _ _ ?_).trans rfl
  intro a i; (repeat' split) <;> simp

@[simp] theorem State.solveSkews_kept (s : State) (m : CalMeasure) (r : RunResult) :
    (State.solveSkews s m r).1.kept = s.kept := by
  unfold State.solveSkews
  dsimp only
  refine (foldl_kept_fst _ _ _ ?_).trans rfl
  intro a i; split
  · simp
  · (try dsimp only); split <;> simp

@[simp] theorem State.figure16_kept (s : State) (exact : Bool) (x : Nat) :
    (State.figure16 s exact x).2.kept = s.kept := by
  unfold State.figure16; dsimp only; split <;> simp

@[simp] theorem State.runTempsNow_kept (s : State) :
    (State.runTempsNow s).2.kept = s.kept := by
  unfold State.runTempsNow; split <;> simp

@[simp] theorem State.runTake_kept (s : State) (meas : CalMeasure) (r : RunResult) (worst : Nat) (tdc : Frac) :
    (State.runTake s meas r worst tdc).kept = s.kept := by
  simp [State.runTake]

@[simp] theorem execCalRunSolved_kept (t : Nat) (meas : CalMeasure) (s : State) :
    (stateOf s (execCalRunSolved t meas s)).kept = s.kept := by
  simp [execCalRunSolved]

@[simp] theorem State.installGroup_kept (s : State) (g : Nat) (t : Int) (of : Option Nat) :
    (State.installGroup s g t of).kept = s.kept := by
  unfold State.installGroup
  have h : ∀ (l₁ l₂ : List Nat) (f g : Nat → State → State) (u : State), (∀ i u, (f i u).kept = u.kept) →
      (∀ i u, (g i u).kept = u.kept) → (forEach l₁ f (forEach l₂ g u)).kept = u.kept := by
    intro l₁ l₂ f g u hf hg
    rw [forEach_kept _ _ _ hf, forEach_kept _ _ _ hg]
  dsimp only
  (repeat' split) <;> try simp only [State.setFldI_kept]
  all_goals
    refine h _ _ _ _ _ ?_ ?_
    · intro i u; split <;> simp
    · intro i u; simp

@[simp] theorem State.installSets_kept (s : State) (of : Option Nat) :
    (State.installSets s of).kept = s.kept := by
  unfold State.installSets
  refine (forUpto_kept _ _ _ ?_).trans ?_
  · intro i s; (try dsimp only); (repeat' split) <;> simp
  · simp

@[simp] theorem State.writeSet_kept (s : State) (r : RunResult) (g : Nat) :
    (State.writeSet s r g).kept = s.kept := by
  simp [State.writeSet]

@[simp] theorem State.installSelections_kept (s : State) (r : RunResult) :
    (State.installSelections s r).kept = s.kept := by
  simp [State.installSelections]

@[simp] theorem State.calInstall_kept (s : State) (r : RunResult) :
    (State.calInstall s r).kept = s.kept := by
  simp [State.calInstall]

@[simp] theorem execStartupRunInstalled_kept (t : Nat) (s : State) :
    (stateOf s (execStartupRunInstalled t s)).kept = s.kept := by
  unfold execStartupRunInstalled; (repeat' split) <;> simp

@[simp] theorem execRerunMaxExpiry_kept (t : Nat) (s : State) :
    (stateOf s (execRerunMaxExpiry t s)).kept = s.kept := by
  simp [execRerunMaxExpiry]

@[simp] theorem execTemplateEstimate_kept (t cluster : Nat) (s : State) :
    (stateOf s (execTemplateEstimate t cluster s)).kept = s.kept := by
  unfold execTemplateEstimate
  try dsimp only
  (repeat' split) <;> simp

@[simp] theorem State.lagFigure_kept (s : State) (n : Nat) (d : List Int) :
    (State.lagFigure s n d).2.kept = s.kept := by
  simp [State.lagFigure]

@[simp] theorem State.gatherAngles_kept (s : State) :
    (State.gatherAngles s).kept = s.kept := by
  simp [State.gatherAngles]

@[simp] theorem State.lagTake_kept (s : State) (n res : Nat) (lag new : Int) :
    (State.lagTake s n res lag new).kept = s.kept := by
  simp [State.lagTake]

@[simp] theorem execAngleLagEstimate_kept (t : Nat) (s : State) :
    (stateOf s (execAngleLagEstimate t s)).kept = s.kept := by
  simp [execAngleLagEstimate]

@[simp] theorem State.fteBoundary_kept (s : State) (b : Nat) :
    (State.fteBoundary s b).kept = s.kept := by
  simp [State.fteBoundary]

@[simp] theorem State.spareBoundary_kept (s : State) (u : Nat) :
    (State.spareBoundary s u).kept = s.kept := by
  unfold State.spareBoundary; dsimp only; split <;> simp

@[simp] theorem State.edgePairs_kept (s : State) :
    (State.edgePairs s).kept = s.kept := by
  simp [State.edgePairs]

@[simp] theorem State.farrierBoundary_kept (s : State) (reverse keep : Bool) :
    (State.farrierBoundary s reverse keep).kept = s.kept := by
  unfold State.farrierBoundary
  try dsimp only
  (repeat' split) <;> simp

@[simp] theorem State.calView_kept (s : State) (i : Nat) :
    (State.calView s i).kept = s.kept := by
  simp [State.calView]

@[simp] theorem State.spareRequest_kept (s : State) (release : Bool) (u i : Nat) :
    (State.spareRequest s release u i).kept = s.kept := by
  simp [State.spareRequest]

/-! ## Supervisor -/

@[simp] theorem State.padStart_kept (s : State) (p : Nat) :
    (State.padStart s p).kept = s.kept := by
  simp [State.padStart]

@[simp] theorem State.padStop_kept (s : State) (p : Nat) :
    (State.padStop s p).kept = s.kept := by
  simp [State.padStop]

@[simp] theorem State.safeCause_kept (s : State) (i : Nat) :
    (State.safeCause s i).kept = s.kept := by
  simp [State.safeCause]

@[simp] theorem State.causeGone_kept (s : State) (i : Nat) :
    (State.causeGone s i).kept = s.kept := by
  simp [State.causeGone]

@[simp] theorem State.verdictStep_kept (s : State) (p : Nat) (occupied : Bool) (lost : Nat) :
    (State.verdictStep s p occupied lost).kept = s.kept := by
  unfold State.verdictStep; (repeat' split) <;> simp

@[simp] theorem State.padSafe_kept (s : State) (p : Nat) :
    (State.padSafe s p).kept = s.kept := by
  simp [State.padSafe]

@[simp] theorem State.coverageStep_kept (s : State) (p : Nat) (fired : Bool) (boundary lost : Nat) :
    (State.coverageStep s p fired boundary lost).kept = s.kept := by
  unfold State.coverageStep; (repeat' split) <;> simp

@[simp] theorem State.compareCounts_kept (s : State) (r : FrameResult) (pads : List Nat) :
    (State.compareCounts s r pads).kept = s.kept := by
  simp [State.compareCounts]

@[simp] theorem State.applyResult_kept (s : State) (r : FrameResult) :
    (State.applyResult s r).kept = s.kept := by
  simp [State.applyResult]

@[simp] theorem State.halterExpire_kept (s : State) (p : Nat) :
    (State.halterExpire s p).kept = s.kept := by
  unfold State.halterExpire; split <;> simp

@[simp] theorem State.activate_kept (s : State) (p : Nat) :
    (State.activate s p).kept = s.kept := by
  simp [State.activate]

@[simp] theorem State.withSin_kept (s : State) (i : Nat) (f : SafetyInput → SafetyInput) :
    (State.withSin s i f).kept = s.kept := by
  simp [State.withSin]

@[simp] theorem State.withSout_kept (s : State) (c : Nat) (f : SafetyChannel → SafetyChannel) :
    (State.withSout s c f).kept = s.kept := by
  simp [State.withSout]

@[simp] theorem State.showInputs_kept (s : State) :
    (State.showInputs s).kept = s.kept := by
  simp [State.showInputs]

@[simp] theorem State.driveOutput_kept (s : State) (o : Nat) :
    (State.driveOutput s o).kept = s.kept := by
  simp [State.driveOutput]

@[simp] theorem State.driveOutputs_kept (s : State) :
    (State.driveOutputs s).kept = s.kept := by
  simp [State.driveOutputs]

@[simp] theorem State.applySafeReset_kept (s : State) :
    (State.applySafeReset s).kept = s.kept := by
  unfold State.applySafeReset; split <;> simp

@[simp] theorem State.safeReset_kept (s : State) :
    (State.safeReset s).kept = s.kept := by
  simp [State.safeReset]

@[simp] theorem State.supervise_kept (s : State) :
    (State.supervise s).kept = s.kept := by
  unfold State.supervise; dsimp only; split <;> simp

@[simp] theorem execHalterTimeout_kept (t paddock : Nat) (s : State) :
    (stateOf s (execHalterTimeout t paddock s)).kept = s.kept := by
  simp [execHalterTimeout]

@[simp] theorem execTurnaroundSelftest_kept (t : Nat) (passed : Bool) (s : State) :
    (stateOf s (execTurnaroundSelftest t passed s)).kept = s.kept := by
  unfold execTurnaroundSelftest; split <;> simp

@[simp] theorem execLockstepMismatch_kept (t : Nat) (s : State) :
    (stateOf s (execLockstepMismatch t s)).kept = s.kept := by
  simp [execLockstepMismatch]

@[simp] theorem execSupervisorMemoryError_kept (t : Nat) (s : State) :
    (stateOf s (execSupervisorMemoryError t s)).kept = s.kept := by
  simp [execSupervisorMemoryError]

@[simp] theorem execSafetyClockCheck_kept (t : Nat) (ppm : Int) (s : State) :
    (stateOf s (execSafetyClockCheck t ppm s)).kept = s.kept := by
  simp [execSafetyClockCheck]

@[simp] theorem execTpsPulse_kept (t supply : Nat) (s : State) :
    (stateOf s (execTpsPulse t supply s)).kept = s.kept := by
  simp [execTpsPulse]

@[simp] theorem State.inputFault_kept (s : State) (i finding other : Nat) :
    (State.inputFault s i finding other).kept = s.kept := by
  simp [State.inputFault]

@[simp] theorem State.inputFaultFree_kept (s : State) (i finding : Nat) :
    (State.inputFaultFree s i finding).kept = s.kept := by
  simp [State.inputFaultFree]

@[simp] theorem State.testSample_kept (s : State) (i supply m : Nat) (level : Bool) :
    (State.testSample s i supply m level).kept = s.kept := by
  unfold State.testSample; split <;> simp

@[simp] theorem State.valueSample_kept (s : State) (i : Nat) (level : Bool) :
    (State.valueSample s i level).kept = s.kept := by
  simp [State.valueSample]

@[simp] theorem execSafetyInputSample_kept (t levels : Nat) (s : State) :
    (stateOf s (execSafetyInputSample t levels s)).kept = s.kept := by
  unfold execSafetyInputSample; (repeat' split) <;> simp

@[simp] theorem execInFilterExpiry_kept (t input : Nat) (s : State) :
    (stateOf s (execInFilterExpiry t input s)).kept = s.kept := by
  unfold execInFilterExpiry
  try dsimp only
  (repeat' split) <;> simp

@[simp] theorem execPairDiscrepancy_kept (t pair : Nat) (s : State) :
    (stateOf s (execPairDiscrepancy t pair s)).kept = s.kept := by
  simp [execPairDiscrepancy]

@[simp] theorem execSoutTestPulse_kept (t output ch : Nat) (s : State) :
    (stateOf s (execSoutTestPulse t output ch s)).kept = s.kept := by
  simp [execSoutTestPulse]

@[simp] theorem State.outputFault_kept (s : State) (c : Nat) :
    (State.outputFault s c).kept = s.kept := by
  simp [State.outputFault]

@[simp] theorem execSoutReadback_kept (t levels : Nat) (s : State) :
    (stateOf s (execSoutReadback t levels s)).kept = s.kept := by
  unfold execSoutReadback
  split
  · simp
  · simp only [stateOf_next]
    refine (forUpto_kept _ _ _ ?_).trans ?_
    · intro i s; (try dsimp only); (repeat' split) <;> simp
    · simp

/-! ## Bridle -/

@[simp] theorem State.withBridle_kept (s : State) (f : Bridle → Bridle) :
    (State.withBridle s f).kept = s.kept := by
  simp [State.withBridle]

@[simp] theorem State.withSrc_kept (s : State) (e : Nat) (f : Source → Source) :
    (State.withSrc s e f).kept = s.kept := by
  simp [State.withSrc]

@[simp] theorem State.rxFail_kept (s : State) (counter : FieldRef) :
    (State.rxFail s counter).kept = s.kept := by
  simp [State.rxFail]

@[simp] theorem State.srcAccept_kept (s : State) (e seq time : Nat) :
    (State.srcAccept s e seq time).kept = s.kept := by
  simp [State.srcAccept]

@[simp] theorem State.srcDiscard_kept (s : State) (e : Nat) (counter : FieldRef) :
    (State.srcDiscard s e counter).kept = s.kept := by
  simp [State.srcDiscard]

@[simp] theorem State.bridleReceive_kept (s : State) (hitch : Bool) (f : List Byte) :
    (State.bridleReceive s hitch f).kept = s.kept := by
  unfold State.bridleReceive
  try dsimp only
  (repeat' split) <;> simp

@[simp] theorem execBridleFrameReceive_kept (t slot off : Nat) (bytes : List Byte) (s : State) :
    (stateOf s (execBridleFrameReceive t slot off bytes s)).kept = s.kept := by
  unfold execBridleFrameReceive; split <;> simp

@[simp] theorem State.srcExpire_kept (s : State) (e : Nat) :
    (State.srcExpire s e).kept = s.kept := by
  simp [State.srcExpire]

@[simp] theorem execSourceExpectationExpiry_kept (t entry : Nat) (s : State) :
    (stateOf s (execSourceExpectationExpiry t entry s)).kept = s.kept := by
  simp [execSourceExpectationExpiry]

@[simp] theorem State.srcFresh_kept (s : State) (e t : Nat) :
    (State.srcFresh s e t).kept = s.kept := by
  simp [State.srcFresh]

@[simp] theorem State.srcUnsync_kept (s : State) (e : Nat) :
    (State.srcUnsync s e).kept = s.kept := by
  simp [State.srcUnsync]

@[simp] theorem State.srcTake_kept (s : State) (e : Nat) :
    (State.srcTake s e).kept = s.kept := by
  unfold State.srcTake
  try dsimp only
  (repeat' split) <;> simp

@[simp] theorem State.bridleTake_kept (s : State) :
    (State.bridleTake s).kept = s.kept := by
  unfold State.bridleTake
  dsimp only
  refine (forUpto_kept _ _ _ ?_).trans ?_
  · intro i s; simp
  · simp

@[simp] theorem State.statusToHost_kept (s : State) (payload : List Byte) :
    (State.statusToHost s payload).kept = s.kept := by
  simp [State.statusToHost]

@[simp] theorem State.statusToTeam_kept (s : State) (payload : List Byte) :
    (State.statusToTeam s payload).2.kept = s.kept := by
  simp [State.statusToTeam]

@[simp] theorem State.srcWritten_kept (s : State) (e : Nat) (was : Bool) :
    (State.srcWritten s e was).kept = s.kept := by
  simp [State.srcWritten]

end Sys2Proof.Machine
end

