-- ==== Sys2Proof/Laws/KeptTeam.lean ====
section
/-! SUPPORT. What no operation touches but the power-on reset pair: the queue, the factory identity and power-on reset
(State.kept). Here: the Hitch, power, the heat response, the effects of writes and Tack. -/
namespace Sys2Proof.Machine

/-! ## Team -/

@[simp] theorem State.showTeam_kept (s : State) :
    (State.showTeam s).kept = s.kept := by
  simp [State.showTeam]

@[simp] theorem State.setSrc_kept (s : State) (e : Nat) (w : Word) :
    (State.setSrc s e w).kept = s.kept := by
  simp [State.setSrc]

@[simp] theorem State.fillSources_kept (s : State) :
    (State.fillSources s).kept = s.kept := by
  unfold State.fillSources
  dsimp only
  refine (forEach_kept _ _ _ ?_).trans ((forEach_kept _ _ _ ?_).trans rfl)
  · intro i s; (try dsimp only); (repeat' split) <;> simp
  · intro i s; (try dsimp only); (repeat' split) <;> simp

@[simp] theorem State.teamChanged_kept (s : State) :
    (State.teamChanged s).kept = s.kept := by
  simp [State.teamChanged]

@[simp] theorem State.sendTeam_kept (s : State) :
    (State.sendTeam s).kept = s.kept := by
  simp [State.sendTeam]

@[simp] theorem State.sendSlot_kept (s : State) :
    (State.sendSlot s).kept = s.kept := by
  simp [State.sendSlot]

@[simp] theorem State.report_kept (s : State) (t : SMap TeamSlot) :
    (State.report s t).kept = s.kept := by
  simp [State.report]

@[simp] theorem State.takeRank_kept (s : State) :
    (State.takeRank s).kept = s.kept := by
  simp [State.takeRank]

@[simp] theorem State.leaveTeam_kept (s : State) :
    (State.leaveTeam s).kept = s.kept := by
  simp [State.leaveTeam]

@[simp] theorem State.askPhase_kept (s : State) :
    (State.askPhase s).kept = s.kept := by
  unfold State.askPhase; (repeat' split) <;> simp

@[simp] theorem State.becomeLead_kept (s : State) (e0 : Nat) :
    (State.becomeLead s e0).kept = s.kept := by
  simp [State.becomeLead]

@[simp] theorem State.followLead_kept (s : State) (lead : Nat) :
    (State.followLead s lead).kept = s.kept := by
  simp [State.followLead]

@[simp] theorem State.takeLead_kept (s : State) (t : SMap TeamSlot) :
    (State.takeLead s t).kept = s.kept := by
  simp [State.takeLead]

@[simp] theorem State.newParent_kept (s : State) (k : Nat) :
    (State.newParent s k).kept = s.kept := by
  simp [State.newParent]

@[simp] theorem State.partition_kept (s : State) :
    (State.partition s).kept = s.kept := by
  unfold State.partition
  try dsimp only
  (repeat' split) <;> simp

@[simp] theorem State.childLost_kept (s : State) (peer : Nat) :
    (State.childLost s peer).kept = s.kept := by
  unfold State.childLost; dsimp only; split <;> simp

@[simp] theorem State.linkStandby_kept (s : State) (k v : Nat) :
    (State.linkStandby s k v).kept = s.kept := by
  simp [State.linkStandby]

@[simp] theorem State.linkDown_kept (s : State) (k : Nat) :
    (State.linkDown s k).kept = s.kept := by
  unfold State.linkDown
  try dsimp only
  (repeat' split) <;> simp

@[simp] theorem State.teamDecide_kept (s : State) (k : Nat) (b : TeamBody) :
    (State.teamDecide s k b).kept = s.kept := by
  unfold State.teamDecide
  try dsimp only
  (repeat' split) <;> simp

@[simp] theorem State.takeTeam_kept (s : State) (b : TeamBody) :
    (State.takeTeam s b).kept = s.kept := by
  simp [State.takeTeam]

@[simp] theorem State.newLead_kept (s : State) (k : Nat) (b : TeamBody) :
    (State.newLead s k b).kept = s.kept := by
  simp [State.newLead]

@[simp] theorem State.takeReport_kept (s : State) (b : TeamBody) :
    (State.takeReport s b).kept = s.kept := by
  simp [State.takeReport]

@[simp] theorem State.teamUpdate_kept (s : State) (k : Nat) (b : TeamBody) (raw : List Byte) :
    (State.teamUpdate s k b raw).kept = s.kept := by
  unfold State.teamUpdate; (repeat' split) <;> simp

@[simp] theorem State.adopt_kept (s : State) (k : Nat) (b : TeamBody) (raw : List Byte) :
    (State.adopt s k b raw).kept = s.kept := by
  simp [State.adopt]

@[simp] theorem State.teamTurns_kept (s : State) :
    (State.teamTurns s).kept = s.kept := by
  unfold State.teamTurns
  refine forUpto_kept _ _ _ ?_
  intro i s
  dsimp only
  (repeat' split) <;> simp

@[simp] theorem execTeam_kept (t lane : Nat) (even odd : List LaneWord) (s : State) :
    (stateOf s (execTeam t lane even odd s)).kept = s.kept := by
  have e := State.hitchReceive_kept (s.at_ t) lane 0x10 ⟨even, odd⟩
  unfold execTeam
  split
  · simp
  dsimp only
  revert e
  rcases (s.at_ t).hitchReceive lane 0x10 ⟨even, odd⟩ with ⟨_ | raw, u⟩ <;> intro e <;> simp only [State.at__kept] at e
  · simp [e]
  · dsimp only
    (repeat' split) <;> simp [e]

@[simp] theorem State.admitJoiners_kept (s : State) (b : JoinBody) :
    (State.admitJoiners s b).kept = s.kept := by
  simp [State.admitJoiners]

@[simp] theorem execJoinReq_kept (t lane : Nat) (even odd : List LaneWord) (s : State) :
    (stateOf s (execJoinReq t lane even odd s)).kept = s.kept := by
  have e := State.hitchReceive_kept (s.at_ t) lane 0x11 ⟨even, odd⟩
  unfold execJoinReq
  split
  · simp
  dsimp only
  revert e
  rcases (s.at_ t).hitchReceive lane 0x11 ⟨even, odd⟩ with ⟨_ | raw, u⟩ <;> intro e <;> simp only [State.at__kept] at e
  · simp [e]
  · dsimp only
    (repeat' split) <;> simp [e]

@[simp] theorem execSlot_kept (t lane : Nat) (even odd : List LaneWord) (s : State) :
    (stateOf s (execSlot t lane even odd s)).kept = s.kept := by
  have e := State.hitchReceive_kept (s.at_ t) lane 0x12 ⟨even, odd⟩
  unfold execSlot
  split
  · simp
  dsimp only
  revert e
  rcases (s.at_ t).hitchReceive lane 0x12 ⟨even, odd⟩ with ⟨_ | raw, u⟩ <;> intro e <;> simp only [State.at__kept] at e
  · simp [e]
  · dsimp only
    (repeat' split) <;> simp [e]

@[simp] theorem State.takeEpochs_kept (s : State) (b : EpochBody) :
    (State.takeEpochs s b).kept = s.kept := by
  unfold State.takeEpochs; (repeat' split) <;> simp

@[simp] theorem execEpoch_kept (t lane : Nat) (even odd : List LaneWord) (s : State) :
    (stateOf s (execEpoch t lane even odd s)).kept = s.kept := by
  have e := State.hitchReceive_kept (s.at_ t) lane 0x13 ⟨even, odd⟩
  unfold execEpoch
  split
  · simp
  dsimp only
  revert e
  rcases (s.at_ t).hitchReceive lane 0x13 ⟨even, odd⟩ with ⟨_ | raw, u⟩ <;> intro e <;> simp only [State.at__kept] at e
  · simp [e]
  · dsimp only
    (repeat' split) <;> simp [e]

@[simp] theorem execPhaseReq_kept (t lane : Nat) (even odd : List LaneWord) (s : State) :
    (stateOf s (execPhaseReq t lane even odd s)).kept = s.kept := by
  have e := State.hitchReceive_kept (s.at_ t) lane 0x14 ⟨even, odd⟩
  unfold execPhaseReq
  split
  · simp
  dsimp only
  revert e
  rcases (s.at_ t).hitchReceive lane 0x14 ⟨even, odd⟩ with ⟨_ | raw, u⟩ <;> intro e <;> simp only [State.at__kept] at e
  · simp [e]
  · dsimp only
    (repeat' split) <;> simp [e]

@[simp] theorem State.freeHeld_kept (s : State) :
    (State.freeHeld s).kept = s.kept := by
  simp [State.freeHeld]

@[simp] theorem execSlotHoldExpiry_kept (t slot : Nat) (s : State) :
    (stateOf s (execSlotHoldExpiry t slot s)).kept = s.kept := by
  unfold execSlotHoldExpiry
  try dsimp only
  (repeat' split) <;> simp

@[simp] theorem execBridleMessage_kept (t lane : Nat) (wire : LaneStreams) (s : State) :
    (stateOf s (execBridleMessage t lane wire s)).kept = s.kept := by
  unfold execBridleMessage
  split
  · simp
  · dsimp only
    split
    · rename_i h; have e := congrArg (fun p => State.kept p.2) h; simp at e; simp [e]
    · rename_i h; have e := congrArg (fun p => State.kept p.2) h; simp at e
      (repeat' split) <;> simp [e]

/-! ## HitchLink -/

@[simp] theorem State.beacon_kept (s : State) (l : Nat) :
    (State.beacon s l).kept = s.kept := by
  simp [State.beacon]

@[simp] theorem State.setLaneSt_kept (s : State) (l v : Nat) :
    (State.setLaneSt s l v).kept = s.kept := by
  simp [State.setLaneSt]

@[simp] theorem State.laneBeacon_kept (s : State) (l : Nat) :
    (State.laneBeacon s l).kept = s.kept := by
  simp [State.laneBeacon]

@[simp] theorem execLaneEnable_kept (t lane : Nat) (s : State) :
    (stateOf s (execLaneEnable t lane s)).kept = s.kept := by
  simp [execLaneEnable]

@[simp] theorem execBeaconSeen_kept (t lane peerLane : Nat) (s : State) :
    (stateOf s (execBeaconSeen t lane peerLane s)).kept = s.kept := by
  simp [execBeaconSeen]

@[simp] theorem execTrainingDone_kept (t lane : Nat) (s : State) :
    (stateOf s (execTrainingDone t lane s)).kept = s.kept := by
  simp [execTrainingDone]

@[simp] theorem State.slip_kept (s : State) (l : Nat) :
    (State.slip s l).kept = s.kept := by
  simp [State.slip]

@[simp] theorem execAlignSlip_kept (t lane : Nat) (s : State) :
    (stateOf s (execAlignSlip t lane s)).kept = s.kept := by
  simp [execAlignSlip]

@[simp] theorem State.startHandshake_kept (s : State) (k : Nat) :
    (State.startHandshake s k).kept = s.kept := by
  simp [State.startHandshake]

@[simp] theorem State.showBonded_kept (s : State) (k : Nat) :
    (State.showBonded s k).kept = s.kept := by
  simp [State.showBonded]

@[simp] theorem State.splitLink_kept (s : State) (k : Nat) :
    (State.splitLink s k).kept = s.kept := by
  unfold State.splitLink; split <;> simp

@[simp] theorem State.laneLinked_kept (s : State) (l : Nat) :
    (State.laneLinked s l).kept = s.kept := by
  simp [State.laneLinked]

@[simp] theorem execAlignmentDone_kept (t lane : Nat) (aligned : LaneAligned) (s : State) :
    (stateOf s (execAlignmentDone t lane aligned s)).kept = s.kept := by
  unfold execAlignmentDone; (repeat' split) <;> simp

@[simp] theorem execAdaptationFreeze_kept (t lane : Nat) (frozen : Bool) (s : State) :
    (stateOf s (execAdaptationFreeze t lane frozen s)).kept = s.kept := by
  simp [execAdaptationFreeze]

@[simp] theorem State.eyeEnd_kept (s : State) (e : EyeScan) (errors : Nat) (cut : Bool) :
    (State.eyeEnd s e errors cut).kept = s.kept := by
  simp [State.eyeEnd]

@[simp] theorem State.eyeCut_kept (s : State) (l : Nat) :
    (State.eyeCut s l).kept = s.kept := by
  unfold State.eyeCut; split <;> simp

@[simp] theorem State.laneLost_kept (s : State) (l : Nat) :
    (State.laneLost s l).kept = s.kept := by
  simp [State.laneLost]

@[simp] theorem State.linkLess_kept (s : State) (k : Nat) :
    (State.linkLess s k).kept = s.kept := by
  simp [State.linkLess]

@[simp] theorem State.detachLane_kept (s : State) (l kind : Nat) :
    (State.detachLane s l kind).kept = s.kept := by
  unfold State.detachLane
  try dsimp only
  (repeat' split) <;> simp

@[simp] theorem execLaneDetach_kept (t lane : Nat) (s : State) :
    (stateOf s (execLaneDetach t lane s)).kept = s.kept := by
  unfold execLaneDetach; split <;> simp

@[simp] theorem execLeaveMessage_kept (t lane : Nat) (wire : LaneStreams) (s : State) :
    (stateOf s (execLeaveMessage t lane wire s)).kept = s.kept := by
  unfold execLeaveMessage
  split
  · simp
  · dsimp only
    split
    · rename_i h; have e := congrArg (fun p => State.kept p.2) h; simp at e; simp [e]
    · rename_i h; have e := congrArg (fun p => State.kept p.2) h; simp at e
      (repeat' split) <;> simp [e]

@[simp] theorem State.leave_kept (s : State) :
    (State.leave s).kept = s.kept := by
  unfold State.leave; dsimp only; simp

@[simp] theorem State.authFail_kept (s : State) (k step : Nat) :
    (State.authFail s k step).kept = s.kept := by
  simp [State.authFail]

@[simp] theorem execHandshakeRetry_kept (t lane : Nat) (s : State) :
    (stateOf s (execHandshakeRetry t lane s)).kept = s.kept := by
  unfold execHandshakeRetry
  try dsimp only
  (repeat' split) <;> simp

@[simp] theorem State.sendCert_kept (s : State) (k : Nat) :
    (State.sendCert s k).kept = s.kept := by
  simp [State.sendCert]

@[simp] theorem execHello_kept (t lane : Nat) (wire : LaneStreams) (s : State) :
    (stateOf s (execHello t lane wire s)).kept = s.kept := by
  unfold execHello
  split
  · simp
  · dsimp only
    split
    · rename_i h; have e := congrArg (fun p => State.kept p.2) h; simp at e; simp [e]
    · rename_i h; have e := congrArg (fun p => State.kept p.2) h; simp at e
      (repeat' split) <;> simp [e]

@[simp] theorem execCert_kept (t lane : Nat) (wire : LaneStreams) (s : State) :
    (stateOf s (execCert t lane wire s)).kept = s.kept := by
  unfold execCert
  split
  · simp
  · dsimp only
    split
    · rename_i h; have e := congrArg (fun p => State.kept p.2) h; simp at e; simp [e]
    · rename_i h; have e := congrArg (fun p => State.kept p.2) h; simp at e
      (repeat' split) <;> simp [e]

@[simp] theorem State.deriveSession_kept (s : State) (k : Nat) :
    (State.deriveSession s k).kept = s.kept := by
  simp [State.deriveSession]

@[simp] theorem execCertVerified_kept (t lane : Nat) (s : State) :
    (stateOf s (execCertVerified t lane s)).kept = s.kept := by
  unfold execCertVerified
  try dsimp only
  (repeat' split) <;> simp

@[simp] theorem execKemCt_kept (t lane : Nat) (wire : LaneStreams) (s : State) :
    (stateOf s (execKemCt t lane wire s)).kept = s.kept := by
  unfold execKemCt
  split
  · simp
  · dsimp only
    split
    · rename_i h; have e := congrArg (fun p => State.kept p.2) h; simp at e; simp [e]
    · rename_i h; have e := congrArg (fun p => State.kept p.2) h; simp at e
      (repeat' split) <;> simp [e]

@[simp] theorem execFinish_kept (t lane : Nat) (wire : LaneStreams) (s : State) :
    (stateOf s (execFinish t lane wire s)).kept = s.kept := by
  unfold execFinish
  split
  · simp
  · dsimp only
    split
    · rename_i h; have e := congrArg (fun p => State.kept p.2) h; simp at e; simp [e]
    · rename_i h; have e := congrArg (fun p => State.kept p.2) h; simp at e
      (repeat' split) <;> simp [e]

@[simp] theorem execHitchRetryTimeout_kept (t lane kind : Nat) (s : State) :
    (stateOf s (execHitchRetryTimeout t lane kind s)).kept = s.kept := by
  unfold execHitchRetryTimeout
  try dsimp only
  (repeat' split) <;> simp

@[simp] theorem execTimeExchangeStart_kept (t stamp : Nat) (s : State) :
    (stateOf s (execTimeExchangeStart t stamp s)).kept = s.kept := by
  unfold execTimeExchangeStart; (repeat' split) <;> simp

@[simp] theorem execTsyncReceive_kept (t lane id rxStamp txStamp : Nat) (s : State) :
    (stateOf s (execTsyncReceive t lane id rxStamp txStamp s)).kept = s.kept := by
  simp [execTsyncReceive]

@[simp] theorem State.discipline_kept (s : State) (d theta : Int) :
    (State.discipline s d theta).kept = s.kept := by
  unfold State.discipline; dsimp only; split <;> simp

@[simp] theorem execTimeRsp_kept (t lane : Nat) (wire : LaneStreams) (stamp : Nat) (s : State) :
    (stateOf s (execTimeRsp t lane wire stamp s)).kept = s.kept := by
  unfold execTimeRsp
  split
  · simp
  · dsimp only
    split
    · rename_i h; have e := congrArg (fun p => State.kept p.2) h; simp at e; simp [e]
    · rename_i h; have e := congrArg (fun p => State.kept p.2) h; simp at e
      (repeat' split) <;> simp [e]

@[simp] theorem execTimeExchangeMiss_kept (t : Nat) (s : State) :
    (stateOf s (execTimeExchangeMiss t s)).kept = s.kept := by
  unfold execTimeExchangeMiss
  try dsimp only
  (repeat' split) <;> simp

@[simp] theorem execEyeScanDone_kept (t errors : Nat) (s : State) :
    (stateOf s (execEyeScanDone t errors s)).kept = s.kept := by
  unfold execEyeScanDone
  try dsimp only
  (repeat' split) <;> simp

@[simp] theorem State.eyeStart_kept (s : State) :
    (State.eyeStart s).kept = s.kept := by
  simp [State.eyeStart]

@[simp] theorem State.laneOff_kept (s : State) (l : Nat) :
    (State.laneOff s l).kept = s.kept := by
  simp [State.laneOff]

@[simp] theorem State.lanesOff_kept (s : State) :
    (State.lanesOff s).kept = s.kept := by
  unfold State.lanesOff; (repeat' split) <;> simp

@[simp] theorem State.lanesDown_kept (s : State) (mask : Nat) :
    (State.lanesDown s mask).kept = s.kept := by
  unfold State.lanesDown; (repeat' split) <;> simp

/-! ## Power -/

@[simp] theorem State.withPower_kept (s : State) (f : Power → Power) :
    (State.withPower s f).kept = s.kept := by
  simp [State.withPower]

@[simp] theorem State.logicOff_kept (s : State) (k : Nat) :
    (State.logicOff s k).kept = s.kept := by
  simp [State.logicOff]

@[simp] theorem State.sramLost_kept (s : State) (k : Nat) :
    (State.sramLost s k).kept = s.kept := by
  simp [State.sramLost]

@[simp] theorem State.regionOff_kept (s : State) (r : Nat) :
    (State.regionOff s r).kept = s.kept := by
  simp [State.regionOff]

@[simp] theorem State.motionOff_kept (s : State) :
    (State.motionOff s).kept = s.kept := by
  simp [State.motionOff]

@[simp] theorem State.domainOff_kept (s : State) (b : Nat) :
    (State.domainOff s b).kept = s.kept := by
  unfold State.domainOff; (repeat' split) <;> simp

@[simp] theorem State.sramUp_kept (s : State) (k : Nat) :
    (State.sramUp s k).kept = s.kept := by
  simp [State.sramUp]

@[simp] theorem State.domainOn_kept (s : State) (b : Nat) :
    (State.domainOn s b).kept = s.kept := by
  unfold State.domainOn; (repeat' split) <;> simp

@[simp] theorem State.setDomains_kept (s : State) (on : Nat) (ret : Bool) :
    (State.setDomains s on ret).kept = s.kept := by
  simp [State.setDomains]

@[simp] theorem State.stateInForce_kept (s : State) (st : Nat) :
    (State.stateInForce s st).kept = s.kept := by
  simp [State.stateInForce]

@[simp] theorem State.powerWritten_kept (s : State) (cov : Word) :
    (State.powerWritten s cov).kept = s.kept := by
  simp [State.powerWritten]

@[simp] theorem execPowerTransitionDone_kept (t : Nat) (s : State) :
    (stateOf s (execPowerTransitionDone t s)).kept = s.kept := by
  unfold execPowerTransitionDone; (repeat' split) <;> simp

@[simp] theorem execRefLost_kept (t : Nat) (s : State) :
    (stateOf s (execRefLost t s)).kept = s.kept := by
  unfold execRefLost; split <;> simp

@[simp] theorem execRefPresent_kept (t : Nat) (s : State) :
    (stateOf s (execRefPresent t s)).kept = s.kept := by
  unfold execRefPresent; split <;> simp

@[simp] theorem execPllLocked_kept (t : Nat) (s : State) :
    (stateOf s (execPllLocked t s)).kept = s.kept := by
  unfold execPllLocked; (repeat' split) <;> simp

@[simp] theorem execPfdShadowLoad_kept (t : Nat) (s : State) :
    (stateOf s (execPfdShadowLoad t s)).kept = s.kept := by
  unfold execPfdShadowLoad; (repeat' split) <;> simp

/-! ## Thermal -/

@[simp] theorem State.thermLog_kept (s : State) (t causes sensor : Nat) (mean : Int) :
    (State.thermLog s t causes sensor mean).kept = s.kept := by
  simp [State.thermLog]

@[simp] theorem State.stopDecide_kept (s : State) (cause sensor : Nat) (mean : Int) :
    (State.stopDecide s cause sensor mean).kept = s.kept := by
  unfold State.stopDecide; split <;> simp

@[simp] theorem State.loseColumns_kept (s : State) :
    (State.loseColumns s).kept = s.kept := by
  unfold State.loseColumns
  dsimp only
  simp only [State.withPower_kept, State.withScan_kept]
  have h1 : ∀ u : State, (forUpto 4 (fun r s => s.chanIdle r) u).kept = u.kept :=
    fun u => forUpto_kept _ _ _ (fun i s => by simp)
  have h2 : ∀ (l : List Column) (v u : State), (forEach l (fun c s =>
      forUpto 4 (fun r s => if bitOf c.released r then s else s.columnLost r c.frame c.index (s.stales c)) s) u).kept = u.kept :=
    fun l v u => forEach_kept _ _ _ (fun c s => forUpto_kept _ _ _ (fun r s => by split <;> simp))
  split
  · rw [h2 _ s, h1]
  · rw [forUpto_kept, h2 _ s, h1]
    intro r s
    split
    · exact forUpto_kept _ _ _ (fun i s => by simp)
    · rfl

@[simp] theorem State.emitOff_kept (s : State) :
    (State.emitOff s).kept = s.kept := by
  simp [State.emitOff]

@[simp] theorem State.hardCut_kept (s : State) (cause sensor : Nat) (mean : Int) :
    (State.hardCut s cause sensor mean).kept = s.kept := by
  simp [State.hardCut]

@[simp] theorem State.thermMean_kept (s : State) :
    (State.thermMean s).kept = s.kept := by
  unfold State.thermMean
  try dsimp only
  (repeat' split) <;> simp

@[simp] theorem execThermalTick_kept (t : Nat) (s : State) :
    (stateOf s (execThermalTick t s)).kept = s.kept := by
  unfold execThermalTick
  dsimp only
  split
  · simp
  split
  · simp
  simp only [stateOf_next]
  refine (forUpto_kept _ _ _ ?_).trans ?_
  · intro i s; split <;> simp
  have h : ∀ (d : List (Nat × Int × Int)) (u : State), (forUpto 9 (fun j s =>
      s.withPower fun p => { p with trips := Map.set 0 p.trips j (match d.find? (fun e => e.1 == j) with
        | some (_, m, d) => if s.rateHot m d then Nat.min 3 (Map.get 0 s.power.trips j + 1) else 0
        | none => 0) }) u).kept = u.kept := by
    intro d u
    refine forUpto_kept _ _ _ ?_
    intro i s; simp
  (repeat' split) <;> simp [h]

@[simp] theorem State.stopBegin_kept (s : State) (x : OrderlyStop) :
    (State.stopBegin s x).kept = s.kept := by
  simp [State.stopBegin]

@[simp] theorem State.stopEnd_kept (s : State) (x : OrderlyStop) :
    (State.stopEnd s x).kept = s.kept := by
  simp [State.stopEnd]

@[simp] theorem execOrderlyStop_kept (t : Nat) (s : State) :
    (stateOf s (execOrderlyStop t s)).kept = s.kept := by
  unfold execOrderlyStop; (repeat' split) <;> simp

@[simp] theorem State.resume_kept (s : State) :
    (State.resume s).kept = s.kept := by
  simp [State.resume]

@[simp] theorem execHkConversion_kept (t conv code : Nat) (s : State) :
    (stateOf s (execHkConversion t conv code s)).kept = s.kept := by
  unfold execHkConversion
  have h : ∀ (conv ch : Nat) (v : Int) (u : State), (forUpto 64 (fun j s =>
        if s.bit (P.ACC_CFG.EN.idx j) ∧ s.fld (P.ACC_CFG.CONV.idx j) = conv ∧ s.fld (P.ACC_CFG.CH.idx j) = ch then
          let full := 2 ^ s.fld (P.ACC_CFG.LOG2N.idx j) ≤ (s.hacc j).n + 1
          let s := s.accTake j v
          if full ∧ j ≤ 8 then s.thermMean else s
        else s) u).kept = u.kept := by
    intro conv ch v u
    refine forUpto_kept _ _ _ ?_
    intro i s; (try dsimp only); (repeat' split) <;> simp
  dsimp only at h ⊢
  (repeat' split) <;> simp_all

/-! ## WriteFx -/

@[simp] theorem State.countersView_kept (s : State) (c : Nat) :
    (State.countersView s c).kept = s.kept := by
  simp [State.countersView]

@[simp] theorem State.ringEnable_kept (s : State) (c : Nat) :
    (State.ringEnable s c).kept = s.kept := by
  simp [State.ringEnable]

@[simp] theorem State.padCrc_kept (s : State) (p : Nat) :
    (State.padCrc s p).kept = s.kept := by
  simp [State.padCrc]

@[simp] theorem State.padCommit_kept (s : State) (p nv : Nat) :
    (State.padCommit s p nv).kept = s.kept := by
  simp [State.padCommit]

@[simp] theorem State.padEnWritten_kept (s : State) (p : Nat) (was : Bool) :
    (State.padEnWritten s p was).kept = s.kept := by
  simp [State.padEnWritten]

@[simp] theorem State.confirm_kept (s : State) :
    (State.confirm s).kept = s.kept := by
  simp [State.confirm]

@[simp] theorem State.stuInvalidate_kept (s : State) :
    (State.stuInvalidate s).kept = s.kept := by
  simp [State.stuInvalidate]

@[simp] theorem State.mirCtrl_kept (s : State) (cov : Word) :
    (State.mirCtrl s cov).kept = s.kept := by
  simp [State.mirCtrl]

@[simp] theorem State.level02_kept (s : State) (key : Nat) (old cov : Word) :
    (State.level02 s key old cov).kept = s.kept := by
  unfold State.level02; split <;> simp

@[simp] theorem State.level09_kept (s : State) (key : Nat) :
    (State.level09 s key).kept = s.kept := by
  unfold State.level09; split <;> simp

@[simp] theorem State.level0A_kept (s : State) (key : Nat) (old cov : Word) :
    (State.level0A s key old cov).kept = s.kept := by
  unfold State.level0A; (repeat' split) <;> simp

@[simp] theorem State.level10_kept (s : State) (key : Nat) (old cov : Word) :
    (State.level10 s key old cov).kept = s.kept := by
  unfold State.level10; split <;> simp

@[simp] theorem State.levelEffect_kept (s : State) (key : Nat) (old cov : Word) :
    (State.levelEffect s key old cov).kept = s.kept := by
  unfold State.levelEffect; (repeat' split) <;> simp

@[simp] theorem State.order03_kept (s : State) (key : Nat) (cov new co : Word) :
    (State.order03 s key cov new co).kept = s.kept := by
  unfold State.order03; split <;> simp

@[simp] theorem State.order0D_kept (s : State) (key : Nat) (new : Word) :
    (State.order0D s key new).kept = s.kept := by
  unfold State.order0D
  split <;> (try dsimp only) <;> (repeat' split) <;> first | (simp; done) | exact kept_ctl _ _ rfl

@[simp] theorem State.orderEffect_kept (s : State) (key : Nat) (cov new co : Word) :
    (State.orderEffect s key cov new co).kept = s.kept := by
  simp [State.orderEffect]

@[simp] theorem State.clearFlags_kept (s : State) (coinc : List Nat) (e : Entry) :
    (State.clearFlags s coinc e).kept = s.kept := by
  simp [State.clearFlags]

@[simp] theorem State.storeEntry_kept (s : State) (coinc : List Nat) (e : Entry) :
    (State.storeEntry s coinc e).kept = s.kept := by
  simp [State.storeEntry]

@[simp] theorem State.applyEntry_kept (s : State) (coinc : List Nat) (e : Entry) :
    (State.applyEntry s coinc e).kept = s.kept := by
  simp [State.applyEntry]

@[simp] theorem State.bar0Ignored_kept (s : State) (offset : Nat) :
    (State.bar0Ignored s offset).kept = s.kept := by
  simp [State.bar0Ignored]

@[simp] theorem commitEntries_kept (s0 : State) (coinc : List Nat) (all l : List Entry) (s : State) :
    (commitEntries s0 coinc all l s).kept = s.kept := by
  induction l generalizing s with
  | nil => rfl
  | cons e l ih =>
    unfold commitEntries
    dsimp only
    (repeat' split) <;> simp [ih]

theorem State.writeEntries_kept {s : State} {auth : Bool} {coinc : List Nat} {l : List Entry} {t : State}
    (h : s.writeEntries auth coinc l = .ok t) : t.kept = s.kept := by
  unfold State.writeEntries at h
  split at h
  · cases h
  · cases h; simp

@[simp] theorem State.bar0Write_kept (s : State) (key : Nat) (half : Half) (value coinc : Word) :
    (State.bar0Write s key half value coinc).kept = s.kept := by
  unfold State.bar0Write
  dsimp only
  (repeat' split) <;> first | (simp; done) | exact State.writeEntries_kept (by assumption)

/-! ## Tack -/

@[simp] theorem State.tearTack_kept (s : State) :
    (State.tearTack s).kept = s.kept := by
  unfold State.tearTack; split <;> simp

@[simp] theorem State.applyTack_kept (s : State) :
    (State.applyTack s).kept = s.kept := by
  unfold State.applyTack
  dsimp only
  split
  · simp
  · split
    · simp
    · rename_i h
      have e := State.writeEntries_kept h
      simp_all

end Sys2Proof.Machine
end

