-- ==== Sys2Proof/Laws/KeptHost.lean ====
section
/-! SUPPORT. What no operation touches but the power-on reset pair: the queue, the factory identity and power-on reset
(State.kept). Here: the boot, the host port, Salsol, the commands and the frame boundary. -/
namespace Sys2Proof.Machine

/-! ## Read -/

@[simp] theorem State.readWhole_kept (s : State) (key : Nat) :
    (State.readWhole s key).2.kept = s.kept := by
  unfold State.readWhole; split <;> simp

@[simp] theorem State.bar0Read_kept (s : State) (key : Nat) (half : Half) :
    (State.bar0Read s key half).kept = s.kept := by
  unfold State.bar0Read
  try dsimp only
  (repeat' split) <;> simp

/-! ## TimeStep -/

@[simp] theorem State.timeStep_kept (s : State) (d frac : Int) :
    (State.timeStep s d frac).kept = s.kept := by
  unfold State.timeStep
  dsimp only
  exact kept_ctl _ _ rfl

/-! ## Frame -/

@[simp] theorem State.unfiredHeader_kept (s : State) (r : Nat) :
    (State.unfiredHeader s r).kept = s.kept := by
  simp [State.unfiredHeader]

@[simp] theorem State.streamEnd_kept (s : State) (r : Nat) :
    (State.streamEnd s r).kept = s.kept := by
  simp [State.streamEnd]

@[simp] theorem State.streamStart_kept (s : State) (r : Nat) :
    (State.streamStart s r).kept = s.kept := by
  simp [State.streamStart]

@[simp] theorem State.keyCauseAll_kept (s : State) (c : Nat) :
    (State.keyCauseAll s c).kept = s.kept := by
  simp [State.keyCauseAll]

@[simp] theorem State.nearViews_kept (s : State) :
    (State.nearViews s).kept = s.kept := by
  simp [State.nearViews]

@[simp] theorem State.gatherClose_kept (s : State) (tb : Nat) :
    (State.gatherClose s tb).kept = s.kept := by
  simp [State.gatherClose]

@[simp] theorem State.boundarySnapshots_kept (s : State) :
    (State.boundarySnapshots s).kept = s.kept := by
  simp [State.boundarySnapshots]

@[simp] theorem State.nextGrid_kept (s : State) (gNew : Nat) :
    (State.nextGrid s gNew).kept = s.kept := by
  unfold State.nextGrid; split <;> simp

@[simp] theorem State.dropEdges_kept (s : State) :
    (State.dropEdges s).kept = s.kept := by
  simp [State.dropEdges]

@[simp] theorem State.scanChanges_kept (s : State) (gaitNew : Bool) (wNew : Bool) :
    (State.scanChanges s gaitNew wNew).kept = s.kept := by
  simp [State.scanChanges]

@[simp] theorem State.takeAll_kept (s : State) :
    (State.takeAll s).kept = s.kept := by
  simp [State.takeAll]

@[simp] theorem State.epochBoundary_kept (s : State) :
    (State.epochBoundary s).kept = s.kept := by
  simp [State.epochBoundary]

@[simp] theorem State.beginFrame_kept (s : State) (fired : Bool) :
    (State.beginFrame s fired).kept = s.kept := by
  simp [State.beginFrame]

@[simp] theorem State.frameStep_kept (s : State) :
    (State.frameStep s).kept = s.kept := by
  simp [State.frameStep]

@[simp] theorem State.creditsFull_kept (s : State) :
    (State.creditsFull s).kept = s.kept := by
  simp [State.creditsFull]

@[simp] theorem State.crossBoundary_kept (s : State) :
    (State.crossBoundary s).kept = s.kept := by
  simp [State.crossBoundary]

@[simp] theorem execFrameBoundary_kept (s : State) :
    (stateOf s (execFrameBoundary s)).kept = s.kept := by
  unfold execFrameBoundary; split <;> simp

@[simp] theorem State.boundaryFirst_kept (s : State) (t : Nat) :
    (State.boundaryFirst s t).kept = s.kept := by
  simp [State.boundaryFirst]

/-! ## Boot -/

@[simp] theorem State.withCtl_kept (s : State) (f : Control → Control) (h : (f s.ctl).por = s.ctl.por) :
    (State.withCtl s f).kept = s.kept := kept_ctl _ _ h

@[simp] theorem State.showIdentity_kept (s : State) :
    (State.showIdentity s).kept = s.kept := by
  simp [State.showIdentity]

@[simp] theorem State.boot_kept (s : State) :
    (State.boot s).kept = s.kept := by
  unfold State.boot; dsimp only; split <;> simp

@[simp] theorem State.pinsRest_kept (s : State) :
    (State.pinsRest s).kept = s.kept := by
  simp [State.pinsRest]

@[simp] theorem State.startScan_kept (s : State) :
    (State.startScan s).kept = s.kept := by
  simp [State.startScan]

@[simp] theorem State.factoryTables_kept (s : State) :
    (State.factoryTables s).kept = s.kept := by
  simp [State.factoryTables]

@[simp] theorem State.resetParams_kept (s : State) :
    (State.resetParams s).kept = s.kept := by
  simp [State.resetParams]

@[simp] theorem State.resetBlocks_kept (s : State) :
    (State.resetBlocks s).kept = s.kept := by
  simp [State.resetBlocks]

@[simp] theorem State.restartEnd_kept (s : State) (cause : Nat) :
    (State.restartEnd s cause).kept = s.kept := by
  simp [State.restartEnd]

@[simp] theorem State.showRun_kept (s : State) (x : Option (Path × Nat × Nat)) :
    (State.showRun s x).kept = s.kept := by
  simp [State.showRun]

@[simp] theorem State.showExecuting_kept (s : State) (x : Option Executing) :
    (State.showExecuting s x).kept = s.kept := by
  simp [State.showExecuting]

@[simp] theorem State.restartBegin_kept (s : State) (cause : Nat) :
    (State.restartBegin s cause).kept = s.kept := by
  have h : ∀ u : State, (u.withCtl fun c => { c with ready := false, asked := none, restart := some cause, restartAt := u.now }).kept = u.kept :=
    fun u => kept_ctl u _ rfl
  unfold State.restartBegin
  dsimp only
  rw [State.cutFrame_kept, State.withPower_kept]
  split <;> simp only [State.setDrive_kept, State.showExecuting_kept, State.mirrorOff_kept,
    State.emitOff_kept, h, State.driveOutputs_kept, State.withSup_kept, State.setFld_kept]

@[simp] theorem State.controlRestart_kept (s : State) (cause : Nat) :
    (State.controlRestart s cause).kept = s.kept := by
  simp [State.controlRestart]

@[simp] theorem State.runAsked_kept (s : State) :
    (State.runAsked s).kept = s.kept := by
  unfold State.runAsked; split <;> simp

@[simp] theorem State.dmaIdle_kept (s : State) :
    (State.dmaIdle s).kept = s.kept := by
  simp [State.dmaIdle]

@[simp] theorem State.functionReset0_kept (s : State) :
    (State.functionReset0 s).kept = s.kept := by
  simp [State.functionReset0]

@[simp] theorem State.functionReset1_kept (s : State) :
    (State.functionReset1 s).kept = s.kept := by
  simp [State.functionReset1]

@[simp] theorem State.linkReset_kept (s : State) :
    (State.linkReset s).kept = s.kept := by
  simp [State.linkReset]

@[simp] theorem execControlWatchdog_kept (t : Nat) (s : State) :
    (stateOf s (execControlWatchdog t s)).kept = s.kept := by
  simp [execControlWatchdog]

@[simp] theorem execFunctionReset_kept (t function : Nat) (s : State) :
    (stateOf s (execFunctionReset t function s)).kept = s.kept := by
  unfold execFunctionReset; (repeat' split) <;> simp

@[simp] theorem execLinkReset_kept (t : Nat) (s : State) :
    (stateOf s (execLinkReset t s)).kept = s.kept := by
  simp [execLinkReset]

@[simp] theorem execDomainSwitchOff_kept (t : Nat) (s : State) :
    (stateOf s (execDomainSwitchOff t s)).kept = s.kept := by
  unfold execDomainSwitchOff; (repeat' split) <;> simp

@[simp] theorem State.hostWrite_kept (s : State) (key : Nat) (h : HostWrite) :
    (State.hostWrite s key h).kept = s.kept := by
  unfold State.hostWrite
  dsimp only
  (repeat' split) <;> first | (simp; done) | (have e := State.writeEntries_kept ‹_ = Except.ok _›; simp_all)

/-! ## HostPort -/

@[simp] theorem execTableWalkComplete_kept (t chan : Nat) (l1 l2 : Option Word) (s : State) :
    (stateOf s (execTableWalkComplete t chan l1 l2 s)).kept = s.kept := by
  simp [execTableWalkComplete]

@[simp] theorem execStuInvalidationDone_kept (t : Nat) (s : State) :
    (stateOf s (execStuInvalidationDone t s)).kept = s.kept := by
  simp [execStuInvalidationDone]

@[simp] theorem State.bridleFlush_kept (s : State) :
    (State.bridleFlush s).kept = s.kept := by
  simp [State.bridleFlush]

@[simp] theorem execRetrainDone_kept (t rate : Nat) (x8 : Bool) (s : State) :
    (stateOf s (execRetrainDone t rate x8 s)).kept = s.kept := by
  simp [execRetrainDone]

@[simp] theorem execLinkUp_kept (t rate : Nat) (x8 : Bool) (s : State) :
    (stateOf s (execLinkUp t rate x8 s)).kept = s.kept := by
  unfold execLinkUp
  split
  · simp
  split
  · simp
  · simp only [stateOf_next, State.pumpAll_kept, State.showBm_kept]
    exact (kept_ctl _ _ rfl).trans (by simp)

@[simp] theorem State.setBar_kept (s : State) (function bar a : Nat) :
    (State.setBar s function bar a).kept = s.kept := by
  simp [State.setBar]

@[simp] theorem execBusMasterEnable_kept (t function : Nat) (c : FnConfig) (s : State) :
    (stateOf s (execBusMasterEnable t function c s)).kept = s.kept := by
  unfold execBusMasterEnable; (repeat' split) <;> simp

@[simp] theorem State.hostRead_kept (s : State) (t key : Nat) (half : Half) :
    (State.hostRead s t key half).kept = s.kept := by
  simp [State.hostRead]

@[simp] theorem State.areaRead_kept (s : State) (t key : Nat) (half : Half) :
    (State.areaRead s t key half).kept = s.kept := by
  simp [State.areaRead]

@[simp] theorem execLowHalfRead_kept (t key : Nat) (half : Half) (s : State) :
    (stateOf s (execLowHalfRead t key half s)).kept = s.kept := by
  simp [execLowHalfRead]

@[simp] theorem execResultHeaderRead_kept (t slot : Nat) (half : Half) (s : State) :
    (stateOf s (execResultHeaderRead t slot half s)).kept = s.kept := by
  unfold execResultHeaderRead; (repeat' split) <;> simp

@[simp] theorem execRecDataRead_kept (t : Nat) (half : Half) (s : State) :
    (stateOf s (execRecDataRead t half s)).kept = s.kept := by
  simp [execRecDataRead]

@[simp] theorem State.msixWrite_kept (s : State) (fn w : Nat) (half : Half) (value : BitVec 64) :
    (State.msixWrite s fn w half value).kept = s.kept := by
  simp [State.msixWrite]

@[simp] theorem State.areaWrite_kept (s : State) (t key : Nat) (half : Half) (value : BitVec 64) :
    (State.areaWrite s t key half value).kept = s.kept := by
  unfold State.areaWrite; split <;> simp

@[simp] theorem execBar0ParamWrite_kept (t key : Nat) (half : Half) (value coinc : BitVec 64) (s : State) :
    (stateOf s (execBar0ParamWrite t key half value coinc s)).kept = s.kept := by
  simp [execBar0ParamWrite]

@[simp] theorem State.doorbellErr_kept (s : State) (offset : Nat) :
    (State.doorbellErr s offset).kept = s.kept := by
  simp [State.doorbellErr]

@[simp] theorem execSqDoorbell_kept (t value size : Nat) (s : State) :
    (stateOf s (execSqDoorbell t value size s)).kept = s.kept := by
  unfold execSqDoorbell; split <;> simp

@[simp] theorem execCqDoorbell_kept (t value size : Nat) (s : State) :
    (stateOf s (execCqDoorbell t value size s)).kept = s.kept := by
  unfold execCqDoorbell; split <;> simp

@[simp] theorem execMbGo_kept (t value : Nat) (request : List Byte) (s : State) :
    (stateOf s (execMbGo t value request s)).kept = s.kept := by
  unfold execMbGo; split <;> simp

/-! ## Salsol -/

@[simp] theorem State.checkHead_kept (s : State) (c : Command) (raw : List Byte) :
    (State.checkHead s c raw).2.kept = s.kept := by
  unfold State.checkHead; (repeat' split) <;> simp

@[simp] theorem State.noteFailure_kept (s : State) (c : Command) (f : Failure) :
    (State.noteFailure s c f).kept = s.kept := by
  unfold State.noteFailure; dsimp only; split <;> simp

@[simp] theorem State.sendReply_kept (s : State) (c : Command) (ok : Bool) (bytes : List Byte) :
    (State.sendReply s c ok bytes).kept = s.kept := by
  unfold State.sendReply; split <;> simp

@[simp] theorem State.answerOk_kept (s : State) (c : Command) (data : List Byte) :
    (State.answerOk s c data).kept = s.kept := by
  simp [State.answerOk]

@[simp] theorem State.answerFail_kept (s : State) (c : Command) (f : Failure) :
    (State.answerFail s c f).kept = s.kept := by
  simp [State.answerFail]

@[simp] theorem State.takePacket_kept (s : State) (path : Path) :
    (State.takePacket s path).kept = s.kept := by
  unfold State.takePacket; split <;> simp

@[simp] theorem State.commandOver_kept (s : State) :
    (State.commandOver s).kept = s.kept := by
  unfold State.commandOver; dsimp only; split <;> simp

/-- The state an outcome of a command carries; the state before where it carries none that is used. -/
def outState (s : State) (o : Outcome) : State :=
  match o with
  | .fail _ => s
  | .ended _ t => t
  | .ok r => r.2
  | .wait t => t

@[simp] theorem outState_fail (s : State) (f : Failure) : outState s (.fail f) = s := id rfl
@[simp] theorem outState_failWith (s : State) (f : Status) : outState s (failWith f) = s := id rfl
@[simp] theorem outState_ended (s t : State) (f : Failure) : outState s (.ended f t) = t := id rfl
@[simp] theorem outState_ok (s t : State) (d : List Byte) : outState s (.ok (d, t)) = t := id rfl
@[simp] theorem outState_wait (s t : State) : outState s (.wait t) = t := id rfl
@[simp] theorem outState_noBody (s : State) (c : Command) (k : Outcome) (h : (outState s k).kept = s.kept) :
    (outState s (noBody c k)).kept = s.kept := by unfold noBody; split <;> simp [h]

@[simp] theorem State.command_kept (s : State) (t : Nat) (path : Path) (mine : Command → Bool)
    (run : Command → State → Outcome) (h : ∀ c u, (outState u (run c u)).kept = u.kept) :
    (State.command s t path mine run).kept = s.kept := by
  unfold State.command
  dsimp only
  split
  · rfl
  split
  · rfl
  split
  · rename_i u e
    have e := congrArg (fun p => State.kept p.2) e; simp at e; simp [e]
  · rename_i u e
    have e := congrArg (fun p => State.kept p.2) e; simp at e
    have hh := h (readCommand path ‹_›) u
    split <;> simp_all

@[simp] theorem execNop_kept (t : Nat) (path : Path) (s : State) :
    (stateOf s (execNop t path s)).kept = s.kept := by
  unfold execNop; split <;> simp

@[simp] theorem execIdentify_kept (t : Nat) (path : Path) (s : State) :
    (stateOf s (execIdentify t path s)).kept = s.kept := by
  unfold execIdentify; split <;> simp

@[simp] theorem State.fetchStep_kept (bytes : List Byte) (n : Nat) (s : State) :
    (State.fetchStep bytes n s).kept = s.kept := by
  induction n generalizing s with
  | zero => rfl
  | succ n ih =>
    unfold State.fetchStep
    dsimp only
    (repeat' split) <;> simp [ih]

@[simp] theorem execCommandFetch_kept (t : Nat) (bytes : List Byte) (s : State) :
    (stateOf s (execCommandFetch t bytes s)).kept = s.kept := by
  unfold execCommandFetch
  (repeat' split) <;> simp

@[simp] theorem execReplyWrite_kept (t : Nat) (s : State) :
    (stateOf s (execReplyWrite t s)).kept = s.kept := by
  unfold execReplyWrite; (repeat' split) <;> simp

@[simp] theorem execNoticeWrite_kept (t : Nat) (s : State) :
    (stateOf s (execNoticeWrite t s)).kept = s.kept := by
  unfold execNoticeWrite; (repeat' split) <;> simp

/-! ## Commands -/

theorem State.basicWrites_kept {s : State} {auth : Bool} {l : List (Entry × Bool)} {t : State}
    (h : s.basicWrites auth l = .ok t) : t.kept = s.kept := by
  unfold State.basicWrites at h
  dsimp only at h
  (repeat' split at h) <;> first | cases h; done | (cases h; simp)

@[simp] theorem outState_basic (s : State) (c : Command) (l : List (Entry × Bool)) :
    (outState s (s.basic c l)).kept = s.kept := by
  unfold State.basic
  split
  · simpa using State.basicWrites_kept ‹_›
  · simp

@[simp] theorem execSetGait_kept (t : Nat) (path : Path) (s : State) :
    (stateOf s (execSetGait t path s)).kept = s.kept := by
  unfold execSetGait
  split
  · simp
  simp only [stateOf_next]
  refine State.command_kept _ _ _ _ _ ?_
  intro c u
  try simp only [bodyOf, noBody]
  (repeat' split) <;> first
    | (simp; done)
    | (have e := State.writeEntries_kept ‹_ = Except.ok _›; simp_all; done)
    | (have e := State.basicWrites_kept ‹_ = Except.ok _›; simp_all; done)

@[simp] theorem execSetField_kept (t : Nat) (path : Path) (s : State) :
    (stateOf s (execSetField t path s)).kept = s.kept := by
  unfold execSetField
  split
  · simp
  simp only [stateOf_next]
  refine State.command_kept _ _ _ _ _ ?_
  intro c u
  try simp only [bodyOf, noBody]
  (repeat' split) <;> first
    | (simp; done)
    | (have e := State.writeEntries_kept ‹_ = Except.ok _›; simp_all; done)
    | (have e := State.basicWrites_kept ‹_ = Except.ok _›; simp_all; done)

@[simp] theorem execHistDump_kept (t : Nat) (path : Path) (s : State) :
    (stateOf s (execHistDump t path s)).kept = s.kept := by
  unfold execHistDump
  split
  · simp
  simp only [stateOf_next]
  refine State.command_kept _ _ _ _ _ ?_
  intro c u
  try simp only [bodyOf, noBody]
  (repeat' split) <;> first
    | (simp; done)
    | (have e := State.writeEntries_kept ‹_ = Except.ok _›; simp_all; done)
    | (have e := State.basicWrites_kept ‹_ = Except.ok _›; simp_all; done)

@[simp] theorem execStreamMode_kept (t : Nat) (path : Path) (s : State) :
    (stateOf s (execStreamMode t path s)).kept = s.kept := by
  unfold execStreamMode
  split
  · simp
  simp only [stateOf_next]
  refine State.command_kept _ _ _ _ _ ?_
  intro c u
  try simp only [bodyOf, noBody]
  (repeat' split) <;> first
    | (simp; done)
    | (have e := State.writeEntries_kept ‹_ = Except.ok _›; simp_all; done)
    | (have e := State.basicWrites_kept ‹_ = Except.ok _›; simp_all; done)

@[simp] theorem execRecorder_kept (t : Nat) (path : Path) (s : State) :
    (stateOf s (execRecorder t path s)).kept = s.kept := by
  unfold execRecorder
  split
  · simp
  simp only [stateOf_next]
  refine State.command_kept _ _ _ _ _ ?_
  intro c u
  try simp only [bodyOf, noBody]
  (repeat' split) <;> first
    | (simp; done)
    | (have e := State.writeEntries_kept ‹_ = Except.ok _›; simp_all; done)
    | (have e := State.basicWrites_kept ‹_ = Except.ok _›; simp_all; done)

@[simp] theorem execEmittersOn_kept (t : Nat) (path : Path) (s : State) :
    (stateOf s (execEmittersOn t path s)).kept = s.kept := by
  unfold execEmittersOn
  split
  · simp
  simp only [stateOf_next]
  refine State.command_kept _ _ _ _ _ ?_
  intro c u
  try simp only [bodyOf, noBody]
  (repeat' split) <;> first
    | (simp; done)
    | (have e := State.writeEntries_kept ‹_ = Except.ok _›; simp_all; done)
    | (have e := State.basicWrites_kept ‹_ = Except.ok _›; simp_all; done)

@[simp] theorem execEmittersOff_kept (t : Nat) (path : Path) (s : State) :
    (stateOf s (execEmittersOff t path s)).kept = s.kept := by
  unfold execEmittersOff
  split
  · simp
  simp only [stateOf_next]
  refine State.command_kept _ _ _ _ _ ?_
  intro c u
  try simp only [bodyOf, noBody]
  (repeat' split) <;> first
    | (simp; done)
    | (have e := State.writeEntries_kept ‹_ = Except.ok _›; simp_all; done)
    | (have e := State.basicWrites_kept ‹_ = Except.ok _›; simp_all; done)

@[simp] theorem execMirror_kept (t : Nat) (path : Path) (s : State) :
    (stateOf s (execMirror t path s)).kept = s.kept := by
  unfold execMirror
  split
  · simp
  simp only [stateOf_next]
  refine State.command_kept _ _ _ _ _ ?_
  intro c u
  try simp only [bodyOf, noBody]
  (repeat' split) <;> first
    | (simp; done)
    | (have e := State.writeEntries_kept ‹_ = Except.ok _›; simp_all; done)
    | (have e := State.basicWrites_kept ‹_ = Except.ok _›; simp_all; done)

@[simp] theorem execCalibrate_kept (t : Nat) (path : Path) (s : State) :
    (stateOf s (execCalibrate t path s)).kept = s.kept := by
  unfold execCalibrate
  split
  · simp
  simp only [stateOf_next]
  refine State.command_kept _ _ _ _ _ ?_
  intro c u
  try simp only [bodyOf, noBody]
  (repeat' split) <;> first
    | (simp; done)
    | (have e := State.writeEntries_kept ‹_ = Except.ok _›; simp_all; done)
    | (have e := State.basicWrites_kept ‹_ = Except.ok _›; simp_all; done)

@[simp] theorem execSafeReset_kept (t : Nat) (path : Path) (s : State) :
    (stateOf s (execSafeReset t path s)).kept = s.kept := by
  unfold execSafeReset
  split
  · simp
  simp only [stateOf_next]
  refine State.command_kept _ _ _ _ _ ?_
  intro c u
  try simp only [bodyOf, noBody]
  (repeat' split) <;> first
    | (simp; done)
    | (have e := State.writeEntries_kept ‹_ = Except.ok _›; simp_all; done)
    | (have e := State.basicWrites_kept ‹_ = Except.ok _›; simp_all; done)

@[simp] theorem execTeamLeave_kept (t : Nat) (path : Path) (s : State) :
    (stateOf s (execTeamLeave t path s)).kept = s.kept := by
  unfold execTeamLeave
  split
  · simp
  simp only [stateOf_next]
  refine State.command_kept _ _ _ _ _ ?_
  intro c u
  try simp only [bodyOf, noBody]
  (repeat' split) <;> first
    | (simp; done)
    | (have e := State.writeEntries_kept ‹_ = Except.ok _›; simp_all; done)
    | (have e := State.basicWrites_kept ‹_ = Except.ok _›; simp_all; done)

@[simp] theorem execPaddockDefine_kept (t : Nat) (path : Path) (s : State) :
    (stateOf s (execPaddockDefine t path s)).kept = s.kept := by
  unfold execPaddockDefine
  split
  · simp
  simp only [stateOf_next]
  refine State.command_kept _ _ _ _ _ ?_
  intro c u
  try simp only [bodyOf, noBody]
  (repeat' split) <;> first
    | (simp; done)
    | (have e := State.writeEntries_kept ‹_ = Except.ok _›; simp_all; done)
    | (have e := State.basicWrites_kept ‹_ = Except.ok _›; simp_all; done)

@[simp] theorem State.padDefineEnd_kept (s : State) (p : Nat) :
    (State.padDefineEnd s p).kept = s.kept := by
  unfold State.padDefineEnd; split <;> simp

@[simp] theorem execIntervalTablesDone_kept (t paddock : Nat) (s : State) :
    (stateOf s (execIntervalTablesDone t paddock s)).kept = s.kept := by
  simp [execIntervalTablesDone]

@[simp] theorem execPaddockEnable_kept (t : Nat) (path : Path) (s : State) :
    (stateOf s (execPaddockEnable t path s)).kept = s.kept := by
  unfold execPaddockEnable
  split
  · simp
  simp only [stateOf_next]
  refine State.command_kept _ _ _ _ _ ?_
  intro c u
  try simp only [bodyOf, noBody]
  (repeat' split) <;> first
    | (simp; done)
    | (have e := State.writeEntries_kept ‹_ = Except.ok _›; simp_all; done)
    | (have e := State.basicWrites_kept ‹_ = Except.ok _›; simp_all; done)

@[simp] theorem execProfileApply_kept (t : Nat) (path : Path) (coinc : List Nat) (s : State) :
    (stateOf s (execProfileApply t path coinc s)).kept = s.kept := by
  unfold execProfileApply
  split
  · simp
  simp only [stateOf_next]
  refine State.command_kept _ _ _ _ _ ?_
  intro c u
  try simp only [bodyOf, noBody]
  (repeat' split) <;> first
    | (simp; done)
    | (have e := State.writeEntries_kept ‹_ = Except.ok _›; simp_all; done)
    | (have e := State.basicWrites_kept ‹_ = Except.ok _›; simp_all; done)

@[simp] theorem execParamRead_kept (t : Nat) (path : Path) (s : State) :
    (stateOf s (execParamRead t path s)).kept = s.kept := by
  unfold execParamRead
  split
  · simp
  simp only [stateOf_next]
  refine State.command_kept _ _ _ _ _ ?_
  intro c u
  try simp only [bodyOf, noBody]
  (repeat' split) <;> first
    | (simp; done)
    | (have e := State.writeEntries_kept ‹_ = Except.ok _›; simp_all; done)
    | (have e := State.basicWrites_kept ‹_ = Except.ok _›; simp_all; done)

@[simp] theorem execParamWrite_kept (t : Nat) (path : Path) (coinc : List Nat) (s : State) :
    (stateOf s (execParamWrite t path coinc s)).kept = s.kept := by
  unfold execParamWrite
  split
  · simp
  simp only [stateOf_next]
  refine State.command_kept _ _ _ _ _ ?_
  intro c u
  try simp only [bodyOf, noBody]
  (repeat' split) <;> first
    | (simp; done)
    | (have e := State.writeEntries_kept ‹_ = Except.ok _›; simp_all; done)
    | (have e := State.basicWrites_kept ‹_ = Except.ok _›; simp_all; done)

@[simp] theorem execFaultLogRead_kept (t : Nat) (path : Path) (s : State) :
    (stateOf s (execFaultLogRead t path s)).kept = s.kept := by
  unfold execFaultLogRead
  split
  · simp
  simp only [stateOf_next]
  refine State.command_kept _ _ _ _ _ ?_
  intro c u
  try simp only [bodyOf, noBody]
  (repeat' split) <;> first
    | (simp; done)
    | (have e := State.writeEntries_kept ‹_ = Except.ok _›; simp_all; done)
    | (have e := State.basicWrites_kept ‹_ = Except.ok _›; simp_all; done)

@[simp] theorem execEvothMsgRead_kept (t : Nat) (path : Path) (s : State) :
    (stateOf s (execEvothMsgRead t path s)).kept = s.kept := by
  unfold execEvothMsgRead
  split
  · simp
  simp only [stateOf_next]
  refine State.command_kept _ _ _ _ _ ?_
  intro c u
  try simp only [bodyOf, noBody]
  (repeat' split) <;> first
    | (simp; done)
    | (have e := State.writeEntries_kept ‹_ = Except.ok _›; simp_all; done)
    | (have e := State.basicWrites_kept ‹_ = Except.ok _›; simp_all; done)

@[simp] theorem State.ringsInit_kept (s : State) (sq cq nt : Nat) :
    (State.ringsInit s sq cq nt).kept = s.kept := by
  simp [State.ringsInit]

@[simp] theorem execRingsInit_kept (t : Nat) (path : Path) (s : State) :
    (stateOf s (execRingsInit t path s)).kept = s.kept := by
  unfold execRingsInit
  split
  · simp
  simp only [stateOf_next]
  refine State.command_kept _ _ _ _ _ ?_
  intro c u
  try simp only [bodyOf, noBody]
  (repeat' split) <;> first
    | (simp; done)
    | (have e := State.writeEntries_kept ‹_ = Except.ok _›; simp_all; done)
    | (have e := State.basicWrites_kept ‹_ = Except.ok _›; simp_all; done)

/-! ## Attest -/

@[simp] theorem execAttestStart_kept (t : Nat) (path : Path) (s : State) :
    (stateOf s (execAttestStart t path s)).kept = s.kept := by
  unfold execAttestStart
  split
  · simp
  simp only [stateOf_next]
  refine State.command_kept _ _ _ _ _ ?_
  intro c u
  try simp only [bodyOf, noBody, readWindow]
  (repeat' split) <;> first
    | (simp; done)
    | (have e := State.writeEntries_kept ‹_ = Except.ok _›; simp_all; done)
    | (have e := State.basicWrites_kept ‹_ = Except.ok _›; simp_all; done)

@[simp] theorem execAttestReportReady_kept (t : Nat) (s : State) :
    (stateOf s (execAttestReportReady t s)).kept = s.kept := by
  unfold execAttestReportReady; (repeat' split) <;> simp

@[simp] theorem execAttestReadReport_kept (t : Nat) (path : Path) (s : State) :
    (stateOf s (execAttestReadReport t path s)).kept = s.kept := by
  unfold execAttestReadReport
  split
  · simp
  simp only [stateOf_next]
  refine State.command_kept _ _ _ _ _ ?_
  intro c u
  try simp only [bodyOf, noBody, readWindow]
  (repeat' split) <;> first
    | (simp; done)
    | (have e := State.writeEntries_kept ‹_ = Except.ok _›; simp_all; done)
    | (have e := State.basicWrites_kept ‹_ = Except.ok _›; simp_all; done)

@[simp] theorem execAttestReadRecord_kept (t : Nat) (path : Path) (s : State) :
    (stateOf s (execAttestReadRecord t path s)).kept = s.kept := by
  unfold execAttestReadRecord
  split
  · simp
  simp only [stateOf_next]
  refine State.command_kept _ _ _ _ _ ?_
  intro c u
  try simp only [bodyOf, noBody, readWindow]
  (repeat' split) <;> first
    | (simp; done)
    | (have e := State.writeEntries_kept ‹_ = Except.ok _›; simp_all; done)
    | (have e := State.basicWrites_kept ‹_ = Except.ok _›; simp_all; done)

/-! ## Dcl -/

@[simp] theorem State.dclSend_kept (s : State) (lane t word : Nat) :
    (State.dclSend s lane t word).kept = s.kept := by
  simp [State.dclSend]

@[simp] theorem execDclTransferStart_kept (t : Nat) (s : State) :
    (stateOf s (execDclTransferStart t s)).kept = s.kept := by
  unfold execDclTransferStart; (repeat' split) <;> simp

@[simp] theorem execDclTransferDone_kept (t : Nat) (response : BitVec 32) (s : State) :
    (stateOf s (execDclTransferDone t response s)).kept = s.kept := by
  unfold execDclTransferDone; (repeat' split) <;> simp

/-! ## Drain -/

@[simp] theorem execRecDrainCapture_kept (t : Nat) (s : State) :
    (stateOf s (execRecDrainCapture t s)).kept = s.kept := by
  unfold execRecDrainCapture
  try dsimp only
  (repeat' split) <;> simp

/-! ## HostWrites -/

@[simp] theorem execGaitReq_kept (h : HostWrite) (s : State) :
    (stateOf s (execGaitReq h s)).kept = s.kept := by
  simp [execGaitReq]

@[simp] theorem execFieldWrite_kept (h : HostWrite) (s : State) :
    (stateOf s (execFieldWrite h s)).kept = s.kept := by
  simp [execFieldWrite]

@[simp] theorem execPhaseRequest_kept (h : HostWrite) (s : State) :
    (stateOf s (execPhaseRequest h s)).kept = s.kept := by
  simp [execPhaseRequest]

@[simp] theorem execCntSel_kept (h : HostWrite) (s : State) :
    (stateOf s (execCntSel h s)).kept = s.kept := by
  simp [execCntSel]

@[simp] theorem execStatStart_kept (h : HostWrite) (s : State) :
    (stateOf s (execStatStart h s)).kept = s.kept := by
  simp [execStatStart]

@[simp] theorem execCalSel_kept (h : HostWrite) (s : State) :
    (stateOf s (execCalSel h s)).kept = s.kept := by
  simp [execCalSel]

@[simp] theorem execSpareSubstitute_kept (h : HostWrite) (s : State) :
    (stateOf s (execSpareSubstitute h s)).kept = s.kept := by
  simp [execSpareSubstitute]

@[simp] theorem execSpareRelease_kept (h : HostWrite) (s : State) :
    (stateOf s (execSpareRelease h s)).kept = s.kept := by
  simp [execSpareRelease]

@[simp] theorem execDumpReq_kept (h : HostWrite) (s : State) :
    (stateOf s (execDumpReq h s)).kept = s.kept := by
  simp [execDumpReq]

@[simp] theorem execFreezeSel_kept (h : HostWrite) (s : State) :
    (stateOf s (execFreezeSel h s)).kept = s.kept := by
  simp [execFreezeSel]

@[simp] theorem execTplCommit_kept (h : HostWrite) (s : State) :
    (stateOf s (execTplCommit h s)).kept = s.kept := by
  simp [execTplCommit]

@[simp] theorem execTplSwap_kept (h : HostWrite) (s : State) :
    (stateOf s (execTplSwap h s)).kept = s.kept := by
  simp [execTplSwap]

@[simp] theorem execBgSel_kept (h : HostWrite) (s : State) :
    (stateOf s (execBgSel h s)).kept = s.kept := by
  simp [execBgSel]

@[simp] theorem execEvothRestart_kept (h : HostWrite) (s : State) :
    (stateOf s (execEvothRestart h s)).kept = s.kept := by
  simp [execEvothRestart]

@[simp] theorem execKeyReq_kept (h : HostWrite) (s : State) :
    (stateOf s (execKeyReq h s)).kept = s.kept := by
  simp [execKeyReq]

@[simp] theorem execRingEnable_kept (ring : Nat) (h : HostWrite) (s : State) :
    (stateOf s (execRingEnable ring h s)).kept = s.kept := by
  simp [execRingEnable]

@[simp] theorem execRingRdWrite_kept (ring : Nat) (h : HostWrite) (s : State) :
    (stateOf s (execRingRdWrite ring h s)).kept = s.kept := by
  simp [execRingRdWrite]

@[simp] theorem execEnvCommit_kept (h : HostWrite) (s : State) :
    (stateOf s (execEnvCommit h s)).kept = s.kept := by
  simp [execEnvCommit]

@[simp] theorem execMaskRelease_kept (h : HostWrite) (s : State) :
    (stateOf s (execMaskRelease h s)).kept = s.kept := by
  simp [execMaskRelease]

@[simp] theorem execMaskSel_kept (h : HostWrite) (s : State) :
    (stateOf s (execMaskSel h s)).kept = s.kept := by
  simp [execMaskSel]

@[simp] theorem execRecEn_kept (h : HostWrite) (s : State) :
    (stateOf s (execRecEn h s)).kept = s.kept := by
  simp [execRecEn]

@[simp] theorem execRecStop_kept (h : HostWrite) (s : State) :
    (stateOf s (execRecStop h s)).kept = s.kept := by
  simp [execRecStop]

@[simp] theorem execRecSwTrig_kept (h : HostWrite) (s : State) :
    (stateOf s (execRecSwTrig h s)).kept = s.kept := by
  simp [execRecSwTrig]

@[simp] theorem execEmitCtrlWrite_kept (h : HostWrite) (s : State) :
    (stateOf s (execEmitCtrlWrite h s)).kept = s.kept := by
  simp [execEmitCtrlWrite]

@[simp] theorem execChgSetWrite_kept (charger : Nat) (h : HostWrite) (s : State) :
    (stateOf s (execChgSetWrite charger h s)).kept = s.kept := by
  simp [execChgSetWrite]

@[simp] theorem execChgClear_kept (h : HostWrite) (s : State) :
    (stateOf s (execChgClear h s)).kept = s.kept := by
  simp [execChgClear]

@[simp] theorem execExpCfgWrite_kept (h : HostWrite) (s : State) :
    (stateOf s (execExpCfgWrite h s)).kept = s.kept := by
  simp [execExpCfgWrite]

@[simp] theorem execExpBudgetWrite_kept (bank : Nat) (h : HostWrite) (s : State) :
    (stateOf s (execExpBudgetWrite bank h s)).kept = s.kept := by
  simp [execExpBudgetWrite]

@[simp] theorem execExpSel_kept (h : HostWrite) (s : State) :
    (stateOf s (execExpSel h s)).kept = s.kept := by
  simp [execExpSel]

@[simp] theorem execMirrorRun_kept (h : HostWrite) (s : State) :
    (stateOf s (execMirrorRun h s)).kept = s.kept := by
  simp [execMirrorRun]

@[simp] theorem execMirrorDrvEn_kept (h : HostWrite) (s : State) :
    (stateOf s (execMirrorDrvEn h s)).kept = s.kept := by
  simp [execMirrorDrvEn]

@[simp] theorem execMirrorRestart_kept (h : HostWrite) (s : State) :
    (stateOf s (execMirrorRestart h s)).kept = s.kept := by
  simp [execMirrorRestart]

@[simp] theorem execRcClear_kept (h : HostWrite) (s : State) :
    (stateOf s (execRcClear h s)).kept = s.kept := by
  simp [execRcClear]

@[simp] theorem execConvCfgWrite_kept (conv : Nat) (h : HostWrite) (s : State) :
    (stateOf s (execConvCfgWrite conv h s)).kept = s.kept := by
  simp [execConvCfgWrite]

@[simp] theorem execConverterSync_kept (h : HostWrite) (s : State) :
    (stateOf s (execConverterSync h s)).kept = s.kept := by
  simp [execConverterSync]

@[simp] theorem execImpClear_kept (h : HostWrite) (s : State) :
    (stateOf s (execImpClear h s)).kept = s.kept := by
  simp [execImpClear]

@[simp] theorem execLinCommit_kept (h : HostWrite) (s : State) :
    (stateOf s (execLinCommit h s)).kept = s.kept := by
  simp [execLinCommit]

@[simp] theorem execAccCfgWrite_kept (acc : Nat) (h : HostWrite) (s : State) :
    (stateOf s (execAccCfgWrite acc h s)).kept = s.kept := by
  simp [execAccCfgWrite]

@[simp] theorem execAccSel_kept (h : HostWrite) (s : State) :
    (stateOf s (execAccSel h s)).kept = s.kept := by
  simp [execAccSel]

@[simp] theorem execRunReq_kept (h : HostWrite) (s : State) :
    (stateOf s (execRunReq h s)).kept = s.kept := by
  simp [execRunReq]

@[simp] theorem execPdCommit_kept (h : HostWrite) (s : State) :
    (stateOf s (execPdCommit h s)).kept = s.kept := by
  simp [execPdCommit]

@[simp] theorem execPaddockEnWrite_kept (paddock : Nat) (h : HostWrite) (s : State) :
    (stateOf s (execPaddockEnWrite paddock h s)).kept = s.kept := by
  simp [execPaddockEnWrite]

@[simp] theorem execSafeResetBit_kept (h : HostWrite) (s : State) :
    (stateOf s (execSafeResetBit h s)).kept = s.kept := by
  simp [execSafeResetBit]

@[simp] theorem execBrSrcWrite_kept (entry : Nat) (h : HostWrite) (s : State) :
    (stateOf s (execBrSrcWrite entry h s)).kept = s.kept := by
  simp [execBrSrcWrite]

@[simp] theorem execHitchSlip_kept (h : HostWrite) (s : State) :
    (stateOf s (execHitchSlip h s)).kept = s.kept := by
  simp [execHitchSlip]

@[simp] theorem execLeave_kept (h : HostWrite) (s : State) :
    (stateOf s (execLeave h s)).kept = s.kept := by
  simp [execLeave]

@[simp] theorem execEyeScanStart_kept (h : HostWrite) (s : State) :
    (stateOf s (execEyeScanStart h s)).kept = s.kept := by
  simp [execEyeScanStart]

@[simp] theorem execRetrain_kept (h : HostWrite) (s : State) :
    (stateOf s (execRetrain h s)).kept = s.kept := by
  simp [execRetrain]

@[simp] theorem execStuInv_kept (h : HostWrite) (s : State) :
    (stateOf s (execStuInv h s)).kept = s.kept := by
  simp [execStuInv]

@[simp] theorem execDmaResume_kept (h : HostWrite) (s : State) :
    (stateOf s (execDmaResume h s)).kept = s.kept := by
  simp [execDmaResume]

@[simp] theorem execDmaAbort_kept (h : HostWrite) (s : State) :
    (stateOf s (execDmaAbort h s)).kept = s.kept := by
  simp [execDmaAbort]

@[simp] theorem execConfirm_kept (h : HostWrite) (s : State) :
    (stateOf s (execConfirm h s)).kept = s.kept := by
  simp [execConfirm]

@[simp] theorem execPfdModeWrite_kept (h : HostWrite) (s : State) :
    (stateOf s (execPfdModeWrite h s)).kept = s.kept := by
  simp [execPfdModeWrite]

@[simp] theorem execPowerStateRequest_kept (h : HostWrite) (s : State) :
    (stateOf s (execPowerStateRequest h s)).kept = s.kept := by
  simp [execPowerStateRequest]

@[simp] theorem execResume_kept (h : HostWrite) (s : State) :
    (stateOf s (execResume h s)).kept = s.kept := by
  simp [execResume]

@[simp] theorem execCtrlRestart_kept (h : HostWrite) (s : State) :
    (stateOf s (execCtrlRestart h s)).kept = s.kept := by
  simp [execCtrlRestart]

@[simp] theorem execFlagSel_kept (h : HostWrite) (s : State) :
    (stateOf s (execFlagSel h s)).kept = s.kept := by
  simp [execFlagSel]

@[simp] theorem execDclXfer_kept (h : HostWrite) (s : State) :
    (stateOf s (execDclXfer h s)).kept = s.kept := by
  simp [execDclXfer]

/-! ## Images -/

@[simp] theorem outState_evothImage (s : State) (b : List Byte) : (outState s (s.evothImage b)).kept = s.kept := by
  unfold State.evothImage
  dsimp only
  (repeat' split) <;> simp

@[simp] theorem outState_evothImage' (u s : State) (b : List Byte) (h : s.kept = u.kept) :
    (outState u (s.evothImage b)).kept = u.kept := by
  unfold State.evothImage
  dsimp only
  (repeat' split) <;> simp [h]

@[simp] theorem execEvothLoad_kept (t : Nat) (path : Path) (s : State) :
    (stateOf s (execEvothLoad t path s)).kept = s.kept := by
  unfold execEvothLoad
  split
  · simp
  simp only [stateOf_next]
  refine State.command_kept _ _ _ _ _ ?_
  intro c u
  try simp only [bodyOf, noBody, pieceOf]
  (repeat' split) <;> first
    | (simp; done)
    | (have e := State.writeEntries_kept ‹_ = Except.ok _›; simp_all; done)
    | (have e := State.basicWrites_kept ‹_ = Except.ok _›; simp_all; done)

@[simp] theorem State.setOtherBank_kept (s : State) (b : Option FwBank) :
    (State.setOtherBank s b).kept = s.kept := by
  simp [State.setOtherBank]

theorem outState_fwImage (u s : State) (b : List Byte) (h : s.kept = u.kept) :
    (outState u (s.fwImage b)).kept = u.kept := by
  unfold State.fwImage
  dsimp only
  (repeat' split) <;> simp [h]

@[simp] theorem execFwData_kept (t : Nat) (path : Path) (s : State) :
    (stateOf s (execFwData t path s)).kept = s.kept := by
  unfold execFwData
  split
  · simp
  simp only [stateOf_next]
  refine State.command_kept _ _ _ _ _ ?_
  intro c u
  try simp only [bodyOf, noBody, pieceOf]
  (repeat' split) <;> first
    | (simp; done)
    | (have e := State.writeEntries_kept ‹_ = Except.ok _›; simp_all; done)
    | (have e := State.basicWrites_kept ‹_ = Except.ok _›; simp_all; done)
    | (refine outState_fwImage _ _ _ ?_; (repeat' split) <;> simp; done)

@[simp] theorem execTackCommit_kept (t : Nat) (path : Path) (s : State) :
    (stateOf s (execTackCommit t path s)).kept = s.kept := by
  unfold execTackCommit
  split
  · simp
  simp only [stateOf_next]
  refine State.command_kept _ _ _ _ _ ?_
  intro c u
  try simp only [bodyOf, noBody, pieceOf]
  (repeat' split) <;> first
    | (simp; done)
    | (have e := State.writeEntries_kept ‹_ = Except.ok _›; simp_all; done)
    | (have e := State.basicWrites_kept ‹_ = Except.ok _›; simp_all; done)

@[simp] theorem State.imageKeyGone_kept (s : State) (slot : Nat) :
    (State.imageKeyGone s slot).kept = s.kept := by
  unfold State.imageKeyGone; split <;> simp

@[simp] theorem execKeyEnroll_kept (t : Nat) (path : Path) (s : State) :
    (stateOf s (execKeyEnroll t path s)).kept = s.kept := by
  unfold execKeyEnroll
  split
  · simp
  simp only [stateOf_next]
  refine State.command_kept _ _ _ _ _ ?_
  intro c u
  try simp only [bodyOf, noBody, pieceOf]
  (repeat' split) <;> first
    | (simp; done)
    | (have e := State.writeEntries_kept ‹_ = Except.ok _›; simp_all; done)
    | (have e := State.basicWrites_kept ‹_ = Except.ok _›; simp_all; done)

@[simp] theorem execKeyRetire_kept (t : Nat) (path : Path) (s : State) :
    (stateOf s (execKeyRetire t path s)).kept = s.kept := by
  unfold execKeyRetire
  split
  · simp
  simp only [stateOf_next]
  refine State.command_kept _ _ _ _ _ ?_
  intro c u
  try simp only [bodyOf, noBody, pieceOf]
  (repeat' split) <;> first
    | (simp; done)
    | (have e := State.writeEntries_kept ‹_ = Except.ok _›; simp_all; done)
    | (have e := State.basicWrites_kept ‹_ = Except.ok _›; simp_all; done)

/-! ## Refine -/

@[simp] theorem State.intensity_kept (s : State) (c : Cand) (amp nA v : Nat) :
    (State.intensity s c amp nA v).2.kept = s.kept := by
  unfold State.intensity
  try dsimp only
  (repeat' split) <;> simp

@[simp] theorem State.refineRow_kept (s : State) (k : Column) (row : Nat) :
    (State.refineRow s k row).2.kept = s.kept := by
  unfold State.refineRow
  dsimp only
  rw [State.countSlots_kept]
  refine (foldl_kept_snd _ _ _ ?_).trans rfl
  intro a i; simp

@[simp] theorem State.postError_kept (s : State) (k : Column) (row : Nat) :
    (State.postError s k row).kept = s.kept := by
  simp [State.postError]

@[simp] theorem State.jobFinish_kept (s : State) (k : Column) (q : Nat) :
    (State.jobFinish s k q).kept = s.kept := by
  unfold State.jobFinish; split <;> simp

@[simp] theorem State.takePost_kept (s : State) (k : Column) (q : Nat) (e : BitVec 128) :
    (State.takePost s k q e).kept = s.kept := by
  unfold State.takePost
  try dsimp only
  (repeat' split) <;> simp

@[simp] theorem State.vendorPost_kept (s : State) (k : Column) (row : Nat) :
    (State.vendorPost s k row).kept = s.kept := by
  unfold State.vendorPost
  try dsimp only
  (repeat' split) <;> simp

@[simp] theorem execPostEntry_kept (t row : Nat) (entry : BitVec 128) (s : State) :
    (stateOf s (execPostEntry t row entry s)).kept = s.kept := by
  unfold execPostEntry
  try dsimp only
  (repeat' split) <;> simp

/-! ## Tick -/

@[simp] theorem State.sendStatus_kept (s : State) :
    (State.sendStatus s).kept = s.kept := by
  unfold State.sendStatus; dsimp only; split <;> simp

@[simp] theorem execTaskTick_kept (t : Nat) (s : State) :
    (stateOf s (execTaskTick t s)).kept = s.kept := by
  simp [execTaskTick]

/-- Power-on reset keeps the queue and the identity, and asserts itself. -/
theorem powerOnReset_kept (s : State) : s.powerOnReset.kept = (s.pending, s.ident, true) := by
  have h : s.tearTack.pinsRest.kept = s.kept := by simp
  simp only [State.kept, Prod.mk.injEq] at h
  exact Prod.ext_iff.2 ⟨h.1, Prod.ext_iff.2 ⟨h.2.1, rfl⟩⟩
/-- The release keeps the queue and the identity, and ends power-on reset. -/
theorem porRelease_kept (s : State) (g : Nat) : (s.porRelease g).kept = (s.pending, s.ident, false) := by
  have h : (s.emit (.allPins .rest)).kept = s.kept := by simp
  simp only [State.kept, Prod.mk.injEq] at h
  unfold State.porRelease State.factoryTables
  simp only [State.boot_kept, State.startScan_kept, State.setDomains_kept, State.showBm_kept]
  exact Prod.ext_iff.2 ⟨h.1, Prod.ext_iff.2 ⟨h.2.1, rfl⟩⟩
end Sys2Proof.Machine
end

