-- ==== Sys2Proof/Laws/Params.lean ====
section
/-! SUPPORT. Laws of the parameter planes and their fields: a field read after a write of that field, of another field,
or of another parameter. -/
namespace Sys2Proof.Machine

/-- A parameter reads what was written to it. -/
@[simp] theorem planeGet_planeSet_self (m : SMap Word) (k : Nat) (w : Word) : planeGet (planeSet m k w) k = w := by
  unfold planeGet planeSet
  split <;> simp_all

/-- A write leaves every other parameter alone. -/
theorem planeGet_planeSet_ne (m : SMap Word) {k j : Nat} (w : Word) (h : j ≠ k) : planeGet (planeSet m k w) j = planeGet m j := by
  unfold planeGet planeSet
  split
  · rw [Map.find?_erase_ne m h]
  · rw [Map.find?_insert_ne m w h]

@[simp] theorem State.reg_setReg_self (s : State) (k : Nat) (w : Word) : (s.setReg k w).reg k = w := by
  simp [State.reg, State.setReg]
theorem State.reg_setReg_ne (s : State) {k j : Nat} (w : Word) (h : j ≠ k) : (s.setReg k w).reg j = s.reg j := by
  simp [State.reg, State.setReg, planeGet_planeSet_ne _ _ h]
@[simp] theorem State.reg_setFld_self (s : State) (f : FieldRef) (v : Nat) : (s.setFld f v).reg f.key = wordSet (s.reg f.key) f v := by
  simp [State.setFld]
theorem State.reg_setFld_ne (s : State) (f : FieldRef) (v : Nat) {j : Nat} (h : j ≠ f.key) : (s.setFld f v).reg j = s.reg j :=
  State.reg_setReg_ne s _ h

/-- The parts of a word: below a field, the field, and above it. -/
theorem bitsOf_split (n lo hi : Nat) (h : lo ≤ hi) :
    n = n % 2 ^ lo + bitsOf n hi lo * 2 ^ lo + n / 2 ^ (hi + 1) * 2 ^ (hi + 1) := by
  unfold bitsOf
  have e : 2 ^ (hi + 1) = 2 ^ lo * 2 ^ (hi + 1 - lo) := by rw [← pow_add]; congr 1; omega
  have h1 := Nat.mod_add_div n (2 ^ lo)
  have h2 := Nat.mod_add_div (n / 2 ^ lo) (2 ^ (hi + 1 - lo))
  have h3 : n / 2 ^ (hi + 1) = n / 2 ^ lo / 2 ^ (hi + 1 - lo) := by rw [e, Nat.div_div_eq_div_mul]
  have h4 : n % 2 ^ lo + n / 2 ^ lo % 2 ^ (hi + 1 - lo) * 2 ^ lo + n / 2 ^ lo / 2 ^ (hi + 1 - lo) * (2 ^ lo * 2 ^ (hi + 1 - lo)) =
      n % 2 ^ lo + 2 ^ lo * (n / 2 ^ lo % 2 ^ (hi + 1 - lo) + 2 ^ (hi + 1 - lo) * (n / 2 ^ lo / 2 ^ (hi + 1 - lo))) := by ring
  rw [h3, e, h4, h2, h1]

/-- The word a field write gives, as a number. -/
theorem wordSet_toNat (w : Word) (f : FieldRef) (v : Nat) (h : f.lo ≤ f.hi) (h64 : f.hi < 64) :
    (wordSet w f v).toNat = w.toNat % 2 ^ f.lo + v % 2 ^ f.width * 2 ^ f.lo + w.toNat / 2 ^ (f.hi + 1) * 2 ^ (f.hi + 1) := by
  have hs := bitsOf_split w.toNat f.lo f.hi h
  have hw := w.isLt
  have e : 2 ^ (f.hi + 1) = 2 ^ f.lo * 2 ^ f.width := by
    rw [← pow_add]; congr 1; unfold FieldRef.width; omega
  have ea : w.toNat % 2 ^ f.lo < 2 ^ f.lo := Nat.mod_lt _ (by positivity)
  have ev : v % 2 ^ f.width < 2 ^ f.width := Nat.mod_lt _ (by positivity)
  have e64 : 2 ^ 64 = 2 ^ (f.hi + 1) * 2 ^ (63 - f.hi) := by rw [← pow_add]; congr 1; omega
  have hc : w.toNat / 2 ^ (f.hi + 1) < 2 ^ (63 - f.hi) := by
    apply Nat.div_lt_of_lt_mul; rw [← e64]; exact hw
  have hlow : w.toNat % 2 ^ f.lo + v % 2 ^ f.width * 2 ^ f.lo < 2 ^ (f.hi + 1) := by
    rw [e]
    have : (v % 2 ^ f.width + 1) * 2 ^ f.lo ≤ 2 ^ f.width * 2 ^ f.lo := Nat.mul_le_mul_right _ ev
    nlinarith
  have hlt : w.toNat % 2 ^ f.lo + v % 2 ^ f.width * 2 ^ f.lo + w.toNat / 2 ^ (f.hi + 1) * 2 ^ (f.hi + 1) < 2 ^ 64 := by
    rw [e64]
    have : (w.toNat / 2 ^ (f.hi + 1) + 1) * 2 ^ (f.hi + 1) ≤ 2 ^ (63 - f.hi) * 2 ^ (f.hi + 1) := Nat.mul_le_mul_right _ hc
    nlinarith
  unfold wordSet
  simp only [BitVec.toNat_ofNat]
  have hsub : w.toNat - bitsOf w.toNat f.hi f.lo * 2 ^ f.lo + v % 2 ^ f.width * 2 ^ f.lo =
      w.toNat % 2 ^ f.lo + v % 2 ^ f.width * 2 ^ f.lo + w.toNat / 2 ^ (f.hi + 1) * 2 ^ (f.hi + 1) := by
    omega
  rw [hsub, Nat.mod_eq_of_lt hlt]

/-- A field reads what was written to it, cut to its width. -/
theorem wordFld_wordSet_self (w : Word) (f : FieldRef) (v : Nat) (h : f.lo ≤ f.hi) (h64 : f.hi < 64) :
    wordFld (wordSet w f v) f = v % 2 ^ f.width := by
  unfold wordFld
  rw [wordSet_toNat w f v h h64]
  have e : 2 ^ (f.hi + 1) = 2 ^ f.lo * 2 ^ f.width := by
    rw [← pow_add]; congr 1; unfold FieldRef.width; omega
  have ea : w.toNat % 2 ^ f.lo < 2 ^ f.lo := Nat.mod_lt _ (by positivity)
  unfold bitsOf
  have e2 : f.hi + 1 - f.lo = f.width := rfl
  rw [e2, e]
  have : w.toNat % 2 ^ f.lo + v % 2 ^ f.width * 2 ^ f.lo + w.toNat / (2 ^ f.lo * 2 ^ f.width) * (2 ^ f.lo * 2 ^ f.width) =
      w.toNat % 2 ^ f.lo + 2 ^ f.lo * (v % 2 ^ f.width + 2 ^ f.width * (w.toNat / (2 ^ f.lo * 2 ^ f.width))) := by ring
  rw [this, Nat.add_mul_div_left _ _ (by positivity), Nat.div_eq_of_lt ea, Nat.zero_add, Nat.add_mul_mod_self_left,
    Nat.mod_mod]

/-- A write of a field leaves a field above or below it alone. -/
theorem wordFld_wordSet_ne (w : Word) (f g : FieldRef) (v : Nat) (h : f.lo ≤ f.hi) (h64 : f.hi < 64)
    (hd : f.hi < g.lo ∨ g.hi < f.lo) : wordFld (wordSet w f v) g = wordFld w g := by
  unfold wordFld
  rw [wordSet_toNat w f v h h64]
  have e : 2 ^ (f.hi + 1) = 2 ^ f.lo * 2 ^ f.width := by
    rw [← pow_add]; congr 1; unfold FieldRef.width; omega
  have ea : w.toNat % 2 ^ f.lo < 2 ^ f.lo := Nat.mod_lt _ (by positivity)
  have ev : v % 2 ^ f.width < 2 ^ f.width := Nat.mod_lt _ (by positivity)
  unfold bitsOf
  rcases hd with hd | hd
  · have hlow : w.toNat % 2 ^ f.lo + v % 2 ^ f.width * 2 ^ f.lo < 2 ^ (f.hi + 1) := by
      rw [e]
      have : (v % 2 ^ f.width + 1) * 2 ^ f.lo ≤ 2 ^ f.width * 2 ^ f.lo := Nat.mul_le_mul_right _ ev
      nlinarith
    have eg : 2 ^ g.lo = 2 ^ (f.hi + 1) * 2 ^ (g.lo - (f.hi + 1)) := by rw [← pow_add]; congr 1; omega
    rw [eg, ← Nat.div_div_eq_div_mul, ← Nat.div_div_eq_div_mul]
    congr 2
    rw [Nat.mul_comm (w.toNat / 2 ^ (f.hi + 1)), Nat.add_mul_div_left _ _ (by positivity), Nat.div_eq_of_lt hlow, Nat.zero_add]
  · by_cases hg : g.lo ≤ g.hi
    · have key : ∀ x : Nat, x / 2 ^ g.lo % 2 ^ (g.hi + 1 - g.lo) = x % 2 ^ f.lo / 2 ^ g.lo % 2 ^ (g.hi + 1 - g.lo) := by
        intro x
        have e1 : 2 ^ f.lo = 2 ^ g.lo * 2 ^ (f.lo - g.lo) := by rw [← pow_add]; congr 1; omega
        rw [e1, Nat.mod_mul_right_div_self, Nat.mod_mod_of_dvd]
        exact pow_dvd_pow 2 (by omega)
      rw [key, key w.toNat]
      congr 2
      have : w.toNat % 2 ^ f.lo + v % 2 ^ f.width * 2 ^ f.lo + w.toNat / 2 ^ (f.hi + 1) * 2 ^ (f.hi + 1) =
          w.toNat % 2 ^ f.lo + 2 ^ f.lo * (v % 2 ^ f.width + 2 ^ f.width * (w.toNat / 2 ^ (f.hi + 1))) := by
        rw [e]; ring
      rw [this, Nat.add_mul_mod_self_left, Nat.mod_mod]
    · have : g.hi + 1 - g.lo = 0 := by omega
      rw [this]; simp [Nat.mod_one]

/-- A field of a parameter after a write of that field. -/
theorem State.fld_setFld_self (s : State) (f : FieldRef) (v : Nat) (h : f.lo ≤ f.hi) (h64 : f.hi < 64) :
    (s.setFld f v).fld f = v % 2 ^ f.width := by
  unfold State.fld
  rw [State.reg_setFld_self]
  exact wordFld_wordSet_self _ f v h h64

/-- A field of another parameter after a write. -/
theorem State.fld_setFld_key (s : State) (f g : FieldRef) (v : Nat) (h : g.key ≠ f.key) : (s.setFld f v).fld g = s.fld g := by
  unfold State.fld
  rw [State.reg_setFld_ne s f v h]

/-- A field that does not meet the one written. -/
theorem State.fld_setFld_ne (s : State) (f g : FieldRef) (v : Nat) (h : f.lo ≤ f.hi) (h64 : f.hi < 64)
    (hd : f.hi < g.lo ∨ g.hi < f.lo) : (s.setFld f v).fld g = s.fld g := by
  by_cases hk : g.key = f.key
  · unfold State.fld
    rw [hk, State.reg_setFld_self]
    exact wordFld_wordSet_ne _ f g v h h64 hd
  · exact State.fld_setFld_key s f g v hk

/-- A flag the hardware sets reads 1, whatever it was (R13). -/
theorem State.fld_setFlag_self (s : State) (f : FieldRef) (h : f.lo = f.hi) (h64 : f.hi < 64) : (s.setFlag f).fld f = 1 := by
  have : (s.setFlag f).fld f = (s.setFld f 1).fld f := rfl
  rw [this, State.fld_setFld_self s f 1 (by omega) h64]
  have : f.width = 1 := by unfold FieldRef.width; omega
  rw [this]; rfl

end Sys2Proof.Machine
end

