-- ==== Sys2Proof/Laws/State.lean ====
section
/-! SUPPORT. One lemma per field of State per named update: what the update writes, and that it leaves the rest. It stands
after the files on State.kept, whose proofs do not use these lemmas. -/
namespace Sys2Proof.Machine

/-! ### at_ -/
@[simp] theorem State.at_now (s : State) (t : Nat) : (State.at_ s t).now = Nat.max s.now (sysTime t) := id rfl
@[simp] theorem State.at_fresh (s : State) (t : Nat) : (State.at_ s t).fresh = s.fresh := id rfl
@[simp] theorem State.at_regs (s : State) (t : Nat) : (State.at_ s t).regs = s.regs := id rfl
@[simp] theorem State.at_live (s : State) (t : Nat) : (State.at_ s t).live = s.live := id rfl
@[simp] theorem State.at_force (s : State) (t : Nat) : (State.at_ s t).force = s.force := id rfl
@[simp] theorem State.at_flagCnt (s : State) (t : Nat) : (State.at_ s t).flagCnt = s.flagCnt := id rfl
@[simp] theorem State.at_shadows (s : State) (t : Nat) : (State.at_ s t).shadows = s.shadows := id rfl
@[simp] theorem State.at_recs (s : State) (t : Nat) : (State.at_ s t).recs = s.recs := id rfl
@[simp] theorem State.at_out (s : State) (t : Nat) : (State.at_ s t).out = s.out := id rfl
@[simp] theorem State.at_pending (s : State) (t : Nat) : (State.at_ s t).pending = s.pending := id rfl
@[simp] theorem State.at_scan (s : State) (t : Nat) : (State.at_ s t).scan = s.scan := id rfl
@[simp] theorem State.at_stamp (s : State) (t : Nat) : (State.at_ s t).stamp = s.stamp := id rfl
@[simp] theorem State.at_hist (s : State) (t : Nat) : (State.at_ s t).hist = s.hist := id rfl
@[simp] theorem State.at_clusters (s : State) (t : Nat) : (State.at_ s t).clusters = s.clusters := id rfl
@[simp] theorem State.at_bq (s : State) (t : Nat) : (State.at_ s t).bq = s.bq := id rfl
@[simp] theorem State.at_masks (s : State) (t : Nat) : (State.at_ s t).masks = s.masks := id rfl
@[simp] theorem State.at_evoth (s : State) (t : Nat) : (State.at_ s t).evoth = s.evoth := id rfl
@[simp] theorem State.at_streams (s : State) (t : Nat) : (State.at_ s t).streams = s.streams := id rfl
@[simp] theorem State.at_recorder (s : State) (t : Nat) : (State.at_ s t).recorder = s.recorder := id rfl
@[simp] theorem State.at_emit_ (s : State) (t : Nat) : (State.at_ s t).emit_ = s.emit_ := id rfl
@[simp] theorem State.at_mirror (s : State) (t : Nat) : (State.at_ s t).mirror = s.mirror := id rfl
@[simp] theorem State.at_fe (s : State) (t : Nat) : (State.at_ s t).fe = s.fe := id rfl
@[simp] theorem State.at_hk (s : State) (t : Nat) : (State.at_ s t).hk = s.hk := id rfl
@[simp] theorem State.at_farrier (s : State) (t : Nat) : (State.at_ s t).farrier = s.farrier := id rfl
@[simp] theorem State.at_sup (s : State) (t : Nat) : (State.at_ s t).sup = s.sup := id rfl
@[simp] theorem State.at_bridle (s : State) (t : Nat) : (State.at_ s t).bridle = s.bridle := id rfl
@[simp] theorem State.at_hitch (s : State) (t : Nat) : (State.at_ s t).hitch = s.hitch := id rfl
@[simp] theorem State.at_host (s : State) (t : Nat) : (State.at_ s t).host = s.host := id rfl
@[simp] theorem State.at_salsol (s : State) (t : Nat) : (State.at_ s t).salsol = s.salsol := id rfl
@[simp] theorem State.at_ident (s : State) (t : Nat) : (State.at_ s t).ident = s.ident := id rfl
@[simp] theorem State.at_nv (s : State) (t : Nat) : (State.at_ s t).nv = s.nv := id rfl
@[simp] theorem State.at_attest (s : State) (t : Nat) : (State.at_ s t).attest = s.attest := id rfl
@[simp] theorem State.at_power (s : State) (t : Nat) : (State.at_ s t).power = s.power := id rfl
@[simp] theorem State.at_ctl (s : State) (t : Nat) : (State.at_ s t).ctl = s.ctl := id rfl
@[simp] theorem State.at_dcl (s : State) (t : Nat) : (State.at_ s t).dcl = s.dcl := id rfl

/-! ### emit -/
@[simp] theorem State.emit_now (s : State) (o : Out) : (State.emit s o).now = s.now := id rfl
@[simp] theorem State.emit_fresh (s : State) (o : Out) : (State.emit s o).fresh = s.fresh := id rfl
@[simp] theorem State.emit_regs (s : State) (o : Out) : (State.emit s o).regs = s.regs := id rfl
@[simp] theorem State.emit_live (s : State) (o : Out) : (State.emit s o).live = s.live := id rfl
@[simp] theorem State.emit_force (s : State) (o : Out) : (State.emit s o).force = s.force := id rfl
@[simp] theorem State.emit_flagCnt (s : State) (o : Out) : (State.emit s o).flagCnt = s.flagCnt := id rfl
@[simp] theorem State.emit_shadows (s : State) (o : Out) : (State.emit s o).shadows = s.shadows := id rfl
@[simp] theorem State.emit_recs (s : State) (o : Out) : (State.emit s o).recs = s.recs := id rfl
@[simp] theorem State.emit_out (s : State) (o : Out) : (State.emit s o).out = o :: s.out := id rfl
@[simp] theorem State.emit_pending (s : State) (o : Out) : (State.emit s o).pending = s.pending := id rfl
@[simp] theorem State.emit_scan (s : State) (o : Out) : (State.emit s o).scan = s.scan := id rfl
@[simp] theorem State.emit_stamp (s : State) (o : Out) : (State.emit s o).stamp = s.stamp := id rfl
@[simp] theorem State.emit_hist (s : State) (o : Out) : (State.emit s o).hist = s.hist := id rfl
@[simp] theorem State.emit_clusters (s : State) (o : Out) : (State.emit s o).clusters = s.clusters := id rfl
@[simp] theorem State.emit_bq (s : State) (o : Out) : (State.emit s o).bq = s.bq := id rfl
@[simp] theorem State.emit_masks (s : State) (o : Out) : (State.emit s o).masks = s.masks := id rfl
@[simp] theorem State.emit_evoth (s : State) (o : Out) : (State.emit s o).evoth = s.evoth := id rfl
@[simp] theorem State.emit_streams (s : State) (o : Out) : (State.emit s o).streams = s.streams := id rfl
@[simp] theorem State.emit_recorder (s : State) (o : Out) : (State.emit s o).recorder = s.recorder := id rfl
@[simp] theorem State.emit_emit_ (s : State) (o : Out) : (State.emit s o).emit_ = s.emit_ := id rfl
@[simp] theorem State.emit_mirror (s : State) (o : Out) : (State.emit s o).mirror = s.mirror := id rfl
@[simp] theorem State.emit_fe (s : State) (o : Out) : (State.emit s o).fe = s.fe := id rfl
@[simp] theorem State.emit_hk (s : State) (o : Out) : (State.emit s o).hk = s.hk := id rfl
@[simp] theorem State.emit_farrier (s : State) (o : Out) : (State.emit s o).farrier = s.farrier := id rfl
@[simp] theorem State.emit_sup (s : State) (o : Out) : (State.emit s o).sup = s.sup := id rfl
@[simp] theorem State.emit_bridle (s : State) (o : Out) : (State.emit s o).bridle = s.bridle := id rfl
@[simp] theorem State.emit_hitch (s : State) (o : Out) : (State.emit s o).hitch = s.hitch := id rfl
@[simp] theorem State.emit_host (s : State) (o : Out) : (State.emit s o).host = s.host := id rfl
@[simp] theorem State.emit_salsol (s : State) (o : Out) : (State.emit s o).salsol = s.salsol := id rfl
@[simp] theorem State.emit_ident (s : State) (o : Out) : (State.emit s o).ident = s.ident := id rfl
@[simp] theorem State.emit_nv (s : State) (o : Out) : (State.emit s o).nv = s.nv := id rfl
@[simp] theorem State.emit_attest (s : State) (o : Out) : (State.emit s o).attest = s.attest := id rfl
@[simp] theorem State.emit_power (s : State) (o : Out) : (State.emit s o).power = s.power := id rfl
@[simp] theorem State.emit_ctl (s : State) (o : Out) : (State.emit s o).ctl = s.ctl := id rfl
@[simp] theorem State.emit_dcl (s : State) (o : Out) : (State.emit s o).dcl = s.dcl := id rfl

/-! ### setReg -/
@[simp] theorem State.setReg_now (s : State) (key : Nat) (w : Word) : (State.setReg s key w).now = s.now := id rfl
@[simp] theorem State.setReg_fresh (s : State) (key : Nat) (w : Word) : (State.setReg s key w).fresh = s.fresh := id rfl
@[simp] theorem State.setReg_regs (s : State) (key : Nat) (w : Word) : (State.setReg s key w).regs = planeSet s.regs key w := id rfl
@[simp] theorem State.setReg_live (s : State) (key : Nat) (w : Word) : (State.setReg s key w).live = s.live := id rfl
@[simp] theorem State.setReg_force (s : State) (key : Nat) (w : Word) : (State.setReg s key w).force = s.force := id rfl
@[simp] theorem State.setReg_flagCnt (s : State) (key : Nat) (w : Word) : (State.setReg s key w).flagCnt = s.flagCnt := id rfl
@[simp] theorem State.setReg_shadows (s : State) (key : Nat) (w : Word) : (State.setReg s key w).shadows = s.shadows := id rfl
@[simp] theorem State.setReg_recs (s : State) (key : Nat) (w : Word) : (State.setReg s key w).recs = s.recs := id rfl
@[simp] theorem State.setReg_out (s : State) (key : Nat) (w : Word) : (State.setReg s key w).out = s.out := id rfl
@[simp] theorem State.setReg_pending (s : State) (key : Nat) (w : Word) : (State.setReg s key w).pending = s.pending := id rfl
@[simp] theorem State.setReg_scan (s : State) (key : Nat) (w : Word) : (State.setReg s key w).scan = s.scan := id rfl
@[simp] theorem State.setReg_stamp (s : State) (key : Nat) (w : Word) : (State.setReg s key w).stamp = s.stamp := id rfl
@[simp] theorem State.setReg_hist (s : State) (key : Nat) (w : Word) : (State.setReg s key w).hist = s.hist := id rfl
@[simp] theorem State.setReg_clusters (s : State) (key : Nat) (w : Word) : (State.setReg s key w).clusters = s.clusters := id rfl
@[simp] theorem State.setReg_bq (s : State) (key : Nat) (w : Word) : (State.setReg s key w).bq = s.bq := id rfl
@[simp] theorem State.setReg_masks (s : State) (key : Nat) (w : Word) : (State.setReg s key w).masks = s.masks := id rfl
@[simp] theorem State.setReg_evoth (s : State) (key : Nat) (w : Word) : (State.setReg s key w).evoth = s.evoth := id rfl
@[simp] theorem State.setReg_streams (s : State) (key : Nat) (w : Word) : (State.setReg s key w).streams = s.streams := id rfl
@[simp] theorem State.setReg_recorder (s : State) (key : Nat) (w : Word) : (State.setReg s key w).recorder = s.recorder := id rfl
@[simp] theorem State.setReg_emit_ (s : State) (key : Nat) (w : Word) : (State.setReg s key w).emit_ = s.emit_ := id rfl
@[simp] theorem State.setReg_mirror (s : State) (key : Nat) (w : Word) : (State.setReg s key w).mirror = s.mirror := id rfl
@[simp] theorem State.setReg_fe (s : State) (key : Nat) (w : Word) : (State.setReg s key w).fe = s.fe := id rfl
@[simp] theorem State.setReg_hk (s : State) (key : Nat) (w : Word) : (State.setReg s key w).hk = s.hk := id rfl
@[simp] theorem State.setReg_farrier (s : State) (key : Nat) (w : Word) : (State.setReg s key w).farrier = s.farrier := id rfl
@[simp] theorem State.setReg_sup (s : State) (key : Nat) (w : Word) : (State.setReg s key w).sup = s.sup := id rfl
@[simp] theorem State.setReg_bridle (s : State) (key : Nat) (w : Word) : (State.setReg s key w).bridle = s.bridle := id rfl
@[simp] theorem State.setReg_hitch (s : State) (key : Nat) (w : Word) : (State.setReg s key w).hitch = s.hitch := id rfl
@[simp] theorem State.setReg_host (s : State) (key : Nat) (w : Word) : (State.setReg s key w).host = s.host := id rfl
@[simp] theorem State.setReg_salsol (s : State) (key : Nat) (w : Word) : (State.setReg s key w).salsol = s.salsol := id rfl
@[simp] theorem State.setReg_ident (s : State) (key : Nat) (w : Word) : (State.setReg s key w).ident = s.ident := id rfl
@[simp] theorem State.setReg_nv (s : State) (key : Nat) (w : Word) : (State.setReg s key w).nv = s.nv := id rfl
@[simp] theorem State.setReg_attest (s : State) (key : Nat) (w : Word) : (State.setReg s key w).attest = s.attest := id rfl
@[simp] theorem State.setReg_power (s : State) (key : Nat) (w : Word) : (State.setReg s key w).power = s.power := id rfl
@[simp] theorem State.setReg_ctl (s : State) (key : Nat) (w : Word) : (State.setReg s key w).ctl = s.ctl := id rfl
@[simp] theorem State.setReg_dcl (s : State) (key : Nat) (w : Word) : (State.setReg s key w).dcl = s.dcl := id rfl

/-! ### setLive -/
@[simp] theorem State.setLive_now (s : State) (f : FieldRef) (v : Nat) : (State.setLive s f v).now = s.now := id rfl
@[simp] theorem State.setLive_fresh (s : State) (f : FieldRef) (v : Nat) : (State.setLive s f v).fresh = s.fresh := id rfl
@[simp] theorem State.setLive_regs (s : State) (f : FieldRef) (v : Nat) : (State.setLive s f v).regs = s.regs := id rfl
@[simp] theorem State.setLive_live (s : State) (f : FieldRef) (v : Nat) : (State.setLive s f v).live = planeSet s.live f.key (wordSet (planeGet s.live f.key) f v) := id rfl
@[simp] theorem State.setLive_force (s : State) (f : FieldRef) (v : Nat) : (State.setLive s f v).force = s.force := id rfl
@[simp] theorem State.setLive_flagCnt (s : State) (f : FieldRef) (v : Nat) : (State.setLive s f v).flagCnt = s.flagCnt := id rfl
@[simp] theorem State.setLive_shadows (s : State) (f : FieldRef) (v : Nat) : (State.setLive s f v).shadows = s.shadows := id rfl
@[simp] theorem State.setLive_recs (s : State) (f : FieldRef) (v : Nat) : (State.setLive s f v).recs = s.recs := id rfl
@[simp] theorem State.setLive_out (s : State) (f : FieldRef) (v : Nat) : (State.setLive s f v).out = s.out := id rfl
@[simp] theorem State.setLive_pending (s : State) (f : FieldRef) (v : Nat) : (State.setLive s f v).pending = s.pending := id rfl
@[simp] theorem State.setLive_scan (s : State) (f : FieldRef) (v : Nat) : (State.setLive s f v).scan = s.scan := id rfl
@[simp] theorem State.setLive_stamp (s : State) (f : FieldRef) (v : Nat) : (State.setLive s f v).stamp = s.stamp := id rfl
@[simp] theorem State.setLive_hist (s : State) (f : FieldRef) (v : Nat) : (State.setLive s f v).hist = s.hist := id rfl
@[simp] theorem State.setLive_clusters (s : State) (f : FieldRef) (v : Nat) : (State.setLive s f v).clusters = s.clusters := id rfl
@[simp] theorem State.setLive_bq (s : State) (f : FieldRef) (v : Nat) : (State.setLive s f v).bq = s.bq := id rfl
@[simp] theorem State.setLive_masks (s : State) (f : FieldRef) (v : Nat) : (State.setLive s f v).masks = s.masks := id rfl
@[simp] theorem State.setLive_evoth (s : State) (f : FieldRef) (v : Nat) : (State.setLive s f v).evoth = s.evoth := id rfl
@[simp] theorem State.setLive_streams (s : State) (f : FieldRef) (v : Nat) : (State.setLive s f v).streams = s.streams := id rfl
@[simp] theorem State.setLive_recorder (s : State) (f : FieldRef) (v : Nat) : (State.setLive s f v).recorder = s.recorder := id rfl
@[simp] theorem State.setLive_emit_ (s : State) (f : FieldRef) (v : Nat) : (State.setLive s f v).emit_ = s.emit_ := id rfl
@[simp] theorem State.setLive_mirror (s : State) (f : FieldRef) (v : Nat) : (State.setLive s f v).mirror = s.mirror := id rfl
@[simp] theorem State.setLive_fe (s : State) (f : FieldRef) (v : Nat) : (State.setLive s f v).fe = s.fe := id rfl
@[simp] theorem State.setLive_hk (s : State) (f : FieldRef) (v : Nat) : (State.setLive s f v).hk = s.hk := id rfl
@[simp] theorem State.setLive_farrier (s : State) (f : FieldRef) (v : Nat) : (State.setLive s f v).farrier = s.farrier := id rfl
@[simp] theorem State.setLive_sup (s : State) (f : FieldRef) (v : Nat) : (State.setLive s f v).sup = s.sup := id rfl
@[simp] theorem State.setLive_bridle (s : State) (f : FieldRef) (v : Nat) : (State.setLive s f v).bridle = s.bridle := id rfl
@[simp] theorem State.setLive_hitch (s : State) (f : FieldRef) (v : Nat) : (State.setLive s f v).hitch = s.hitch := id rfl
@[simp] theorem State.setLive_host (s : State) (f : FieldRef) (v : Nat) : (State.setLive s f v).host = s.host := id rfl
@[simp] theorem State.setLive_salsol (s : State) (f : FieldRef) (v : Nat) : (State.setLive s f v).salsol = s.salsol := id rfl
@[simp] theorem State.setLive_ident (s : State) (f : FieldRef) (v : Nat) : (State.setLive s f v).ident = s.ident := id rfl
@[simp] theorem State.setLive_nv (s : State) (f : FieldRef) (v : Nat) : (State.setLive s f v).nv = s.nv := id rfl
@[simp] theorem State.setLive_attest (s : State) (f : FieldRef) (v : Nat) : (State.setLive s f v).attest = s.attest := id rfl
@[simp] theorem State.setLive_power (s : State) (f : FieldRef) (v : Nat) : (State.setLive s f v).power = s.power := id rfl
@[simp] theorem State.setLive_ctl (s : State) (f : FieldRef) (v : Nat) : (State.setLive s f v).ctl = s.ctl := id rfl
@[simp] theorem State.setLive_dcl (s : State) (f : FieldRef) (v : Nat) : (State.setLive s f v).dcl = s.dcl := id rfl

/-! ### takeForce -/
@[simp] theorem State.takeForce_now (s : State) (key : Nat) : (State.takeForce s key).now = s.now := id rfl
@[simp] theorem State.takeForce_fresh (s : State) (key : Nat) : (State.takeForce s key).fresh = s.fresh := id rfl
@[simp] theorem State.takeForce_regs (s : State) (key : Nat) : (State.takeForce s key).regs = s.regs := id rfl
@[simp] theorem State.takeForce_live (s : State) (key : Nat) : (State.takeForce s key).live = s.live := id rfl
@[simp] theorem State.takeForce_force (s : State) (key : Nat) : (State.takeForce s key).force = planeSet s.force key (s.reg key) := id rfl
@[simp] theorem State.takeForce_flagCnt (s : State) (key : Nat) : (State.takeForce s key).flagCnt = s.flagCnt := id rfl
@[simp] theorem State.takeForce_shadows (s : State) (key : Nat) : (State.takeForce s key).shadows = s.shadows := id rfl
@[simp] theorem State.takeForce_recs (s : State) (key : Nat) : (State.takeForce s key).recs = s.recs := id rfl
@[simp] theorem State.takeForce_out (s : State) (key : Nat) : (State.takeForce s key).out = s.out := id rfl
@[simp] theorem State.takeForce_pending (s : State) (key : Nat) : (State.takeForce s key).pending = s.pending := id rfl
@[simp] theorem State.takeForce_scan (s : State) (key : Nat) : (State.takeForce s key).scan = s.scan := id rfl
@[simp] theorem State.takeForce_stamp (s : State) (key : Nat) : (State.takeForce s key).stamp = s.stamp := id rfl
@[simp] theorem State.takeForce_hist (s : State) (key : Nat) : (State.takeForce s key).hist = s.hist := id rfl
@[simp] theorem State.takeForce_clusters (s : State) (key : Nat) : (State.takeForce s key).clusters = s.clusters := id rfl
@[simp] theorem State.takeForce_bq (s : State) (key : Nat) : (State.takeForce s key).bq = s.bq := id rfl
@[simp] theorem State.takeForce_masks (s : State) (key : Nat) : (State.takeForce s key).masks = s.masks := id rfl
@[simp] theorem State.takeForce_evoth (s : State) (key : Nat) : (State.takeForce s key).evoth = s.evoth := id rfl
@[simp] theorem State.takeForce_streams (s : State) (key : Nat) : (State.takeForce s key).streams = s.streams := id rfl
@[simp] theorem State.takeForce_recorder (s : State) (key : Nat) : (State.takeForce s key).recorder = s.recorder := id rfl
@[simp] theorem State.takeForce_emit_ (s : State) (key : Nat) : (State.takeForce s key).emit_ = s.emit_ := id rfl
@[simp] theorem State.takeForce_mirror (s : State) (key : Nat) : (State.takeForce s key).mirror = s.mirror := id rfl
@[simp] theorem State.takeForce_fe (s : State) (key : Nat) : (State.takeForce s key).fe = s.fe := id rfl
@[simp] theorem State.takeForce_hk (s : State) (key : Nat) : (State.takeForce s key).hk = s.hk := id rfl
@[simp] theorem State.takeForce_farrier (s : State) (key : Nat) : (State.takeForce s key).farrier = s.farrier := id rfl
@[simp] theorem State.takeForce_sup (s : State) (key : Nat) : (State.takeForce s key).sup = s.sup := id rfl
@[simp] theorem State.takeForce_bridle (s : State) (key : Nat) : (State.takeForce s key).bridle = s.bridle := id rfl
@[simp] theorem State.takeForce_hitch (s : State) (key : Nat) : (State.takeForce s key).hitch = s.hitch := id rfl
@[simp] theorem State.takeForce_host (s : State) (key : Nat) : (State.takeForce s key).host = s.host := id rfl
@[simp] theorem State.takeForce_salsol (s : State) (key : Nat) : (State.takeForce s key).salsol = s.salsol := id rfl
@[simp] theorem State.takeForce_ident (s : State) (key : Nat) : (State.takeForce s key).ident = s.ident := id rfl
@[simp] theorem State.takeForce_nv (s : State) (key : Nat) : (State.takeForce s key).nv = s.nv := id rfl
@[simp] theorem State.takeForce_attest (s : State) (key : Nat) : (State.takeForce s key).attest = s.attest := id rfl
@[simp] theorem State.takeForce_power (s : State) (key : Nat) : (State.takeForce s key).power = s.power := id rfl
@[simp] theorem State.takeForce_ctl (s : State) (key : Nat) : (State.takeForce s key).ctl = s.ctl := id rfl
@[simp] theorem State.takeForce_dcl (s : State) (key : Nat) : (State.takeForce s key).dcl = s.dcl := id rfl

/-! ### withRec -/
@[simp] theorem State.withRec_now (s : State) (f : Recorder → Recorder) : (State.withRec s f).now = s.now := id rfl
@[simp] theorem State.withRec_fresh (s : State) (f : Recorder → Recorder) : (State.withRec s f).fresh = s.fresh := id rfl
@[simp] theorem State.withRec_regs (s : State) (f : Recorder → Recorder) : (State.withRec s f).regs = s.regs := id rfl
@[simp] theorem State.withRec_live (s : State) (f : Recorder → Recorder) : (State.withRec s f).live = s.live := id rfl
@[simp] theorem State.withRec_force (s : State) (f : Recorder → Recorder) : (State.withRec s f).force = s.force := id rfl
@[simp] theorem State.withRec_flagCnt (s : State) (f : Recorder → Recorder) : (State.withRec s f).flagCnt = s.flagCnt := id rfl
@[simp] theorem State.withRec_shadows (s : State) (f : Recorder → Recorder) : (State.withRec s f).shadows = s.shadows := id rfl
@[simp] theorem State.withRec_recs (s : State) (f : Recorder → Recorder) : (State.withRec s f).recs = s.recs := id rfl
@[simp] theorem State.withRec_out (s : State) (f : Recorder → Recorder) : (State.withRec s f).out = s.out := id rfl
@[simp] theorem State.withRec_pending (s : State) (f : Recorder → Recorder) : (State.withRec s f).pending = s.pending := id rfl
@[simp] theorem State.withRec_scan (s : State) (f : Recorder → Recorder) : (State.withRec s f).scan = s.scan := id rfl
@[simp] theorem State.withRec_stamp (s : State) (f : Recorder → Recorder) : (State.withRec s f).stamp = s.stamp := id rfl
@[simp] theorem State.withRec_hist (s : State) (f : Recorder → Recorder) : (State.withRec s f).hist = s.hist := id rfl
@[simp] theorem State.withRec_clusters (s : State) (f : Recorder → Recorder) : (State.withRec s f).clusters = s.clusters := id rfl
@[simp] theorem State.withRec_bq (s : State) (f : Recorder → Recorder) : (State.withRec s f).bq = s.bq := id rfl
@[simp] theorem State.withRec_masks (s : State) (f : Recorder → Recorder) : (State.withRec s f).masks = s.masks := id rfl
@[simp] theorem State.withRec_evoth (s : State) (f : Recorder → Recorder) : (State.withRec s f).evoth = s.evoth := id rfl
@[simp] theorem State.withRec_streams (s : State) (f : Recorder → Recorder) : (State.withRec s f).streams = s.streams := id rfl
@[simp] theorem State.withRec_recorder (s : State) (f : Recorder → Recorder) : (State.withRec s f).recorder = f s.recorder := id rfl
@[simp] theorem State.withRec_emit_ (s : State) (f : Recorder → Recorder) : (State.withRec s f).emit_ = s.emit_ := id rfl
@[simp] theorem State.withRec_mirror (s : State) (f : Recorder → Recorder) : (State.withRec s f).mirror = s.mirror := id rfl
@[simp] theorem State.withRec_fe (s : State) (f : Recorder → Recorder) : (State.withRec s f).fe = s.fe := id rfl
@[simp] theorem State.withRec_hk (s : State) (f : Recorder → Recorder) : (State.withRec s f).hk = s.hk := id rfl
@[simp] theorem State.withRec_farrier (s : State) (f : Recorder → Recorder) : (State.withRec s f).farrier = s.farrier := id rfl
@[simp] theorem State.withRec_sup (s : State) (f : Recorder → Recorder) : (State.withRec s f).sup = s.sup := id rfl
@[simp] theorem State.withRec_bridle (s : State) (f : Recorder → Recorder) : (State.withRec s f).bridle = s.bridle := id rfl
@[simp] theorem State.withRec_hitch (s : State) (f : Recorder → Recorder) : (State.withRec s f).hitch = s.hitch := id rfl
@[simp] theorem State.withRec_host (s : State) (f : Recorder → Recorder) : (State.withRec s f).host = s.host := id rfl
@[simp] theorem State.withRec_salsol (s : State) (f : Recorder → Recorder) : (State.withRec s f).salsol = s.salsol := id rfl
@[simp] theorem State.withRec_ident (s : State) (f : Recorder → Recorder) : (State.withRec s f).ident = s.ident := id rfl
@[simp] theorem State.withRec_nv (s : State) (f : Recorder → Recorder) : (State.withRec s f).nv = s.nv := id rfl
@[simp] theorem State.withRec_attest (s : State) (f : Recorder → Recorder) : (State.withRec s f).attest = s.attest := id rfl
@[simp] theorem State.withRec_power (s : State) (f : Recorder → Recorder) : (State.withRec s f).power = s.power := id rfl
@[simp] theorem State.withRec_ctl (s : State) (f : Recorder → Recorder) : (State.withRec s f).ctl = s.ctl := id rfl
@[simp] theorem State.withRec_dcl (s : State) (f : Recorder → Recorder) : (State.withRec s f).dcl = s.dcl := id rfl

/-! ### withScan -/
@[simp] theorem State.withScan_now (s : State) (f : Scan → Scan) : (State.withScan s f).now = s.now := id rfl
@[simp] theorem State.withScan_fresh (s : State) (f : Scan → Scan) : (State.withScan s f).fresh = s.fresh := id rfl
@[simp] theorem State.withScan_regs (s : State) (f : Scan → Scan) : (State.withScan s f).regs = s.regs := id rfl
@[simp] theorem State.withScan_live (s : State) (f : Scan → Scan) : (State.withScan s f).live = s.live := id rfl
@[simp] theorem State.withScan_force (s : State) (f : Scan → Scan) : (State.withScan s f).force = s.force := id rfl
@[simp] theorem State.withScan_flagCnt (s : State) (f : Scan → Scan) : (State.withScan s f).flagCnt = s.flagCnt := id rfl
@[simp] theorem State.withScan_shadows (s : State) (f : Scan → Scan) : (State.withScan s f).shadows = s.shadows := id rfl
@[simp] theorem State.withScan_recs (s : State) (f : Scan → Scan) : (State.withScan s f).recs = s.recs := id rfl
@[simp] theorem State.withScan_out (s : State) (f : Scan → Scan) : (State.withScan s f).out = s.out := id rfl
@[simp] theorem State.withScan_pending (s : State) (f : Scan → Scan) : (State.withScan s f).pending = s.pending := id rfl
@[simp] theorem State.withScan_scan (s : State) (f : Scan → Scan) : (State.withScan s f).scan = f s.scan := id rfl
@[simp] theorem State.withScan_stamp (s : State) (f : Scan → Scan) : (State.withScan s f).stamp = s.stamp := id rfl
@[simp] theorem State.withScan_hist (s : State) (f : Scan → Scan) : (State.withScan s f).hist = s.hist := id rfl
@[simp] theorem State.withScan_clusters (s : State) (f : Scan → Scan) : (State.withScan s f).clusters = s.clusters := id rfl
@[simp] theorem State.withScan_bq (s : State) (f : Scan → Scan) : (State.withScan s f).bq = s.bq := id rfl
@[simp] theorem State.withScan_masks (s : State) (f : Scan → Scan) : (State.withScan s f).masks = s.masks := id rfl
@[simp] theorem State.withScan_evoth (s : State) (f : Scan → Scan) : (State.withScan s f).evoth = s.evoth := id rfl
@[simp] theorem State.withScan_streams (s : State) (f : Scan → Scan) : (State.withScan s f).streams = s.streams := id rfl
@[simp] theorem State.withScan_recorder (s : State) (f : Scan → Scan) : (State.withScan s f).recorder = s.recorder := id rfl
@[simp] theorem State.withScan_emit_ (s : State) (f : Scan → Scan) : (State.withScan s f).emit_ = s.emit_ := id rfl
@[simp] theorem State.withScan_mirror (s : State) (f : Scan → Scan) : (State.withScan s f).mirror = s.mirror := id rfl
@[simp] theorem State.withScan_fe (s : State) (f : Scan → Scan) : (State.withScan s f).fe = s.fe := id rfl
@[simp] theorem State.withScan_hk (s : State) (f : Scan → Scan) : (State.withScan s f).hk = s.hk := id rfl
@[simp] theorem State.withScan_farrier (s : State) (f : Scan → Scan) : (State.withScan s f).farrier = s.farrier := id rfl
@[simp] theorem State.withScan_sup (s : State) (f : Scan → Scan) : (State.withScan s f).sup = s.sup := id rfl
@[simp] theorem State.withScan_bridle (s : State) (f : Scan → Scan) : (State.withScan s f).bridle = s.bridle := id rfl
@[simp] theorem State.withScan_hitch (s : State) (f : Scan → Scan) : (State.withScan s f).hitch = s.hitch := id rfl
@[simp] theorem State.withScan_host (s : State) (f : Scan → Scan) : (State.withScan s f).host = s.host := id rfl
@[simp] theorem State.withScan_salsol (s : State) (f : Scan → Scan) : (State.withScan s f).salsol = s.salsol := id rfl
@[simp] theorem State.withScan_ident (s : State) (f : Scan → Scan) : (State.withScan s f).ident = s.ident := id rfl
@[simp] theorem State.withScan_nv (s : State) (f : Scan → Scan) : (State.withScan s f).nv = s.nv := id rfl
@[simp] theorem State.withScan_attest (s : State) (f : Scan → Scan) : (State.withScan s f).attest = s.attest := id rfl
@[simp] theorem State.withScan_power (s : State) (f : Scan → Scan) : (State.withScan s f).power = s.power := id rfl
@[simp] theorem State.withScan_ctl (s : State) (f : Scan → Scan) : (State.withScan s f).ctl = s.ctl := id rfl
@[simp] theorem State.withScan_dcl (s : State) (f : Scan → Scan) : (State.withScan s f).dcl = s.dcl := id rfl

/-! ### setBuf -/
@[simp] theorem State.setBuf_now (s : State) (k : Nat) (b : Buf) : (State.setBuf s k b).now = s.now := id rfl
@[simp] theorem State.setBuf_fresh (s : State) (k : Nat) (b : Buf) : (State.setBuf s k b).fresh = s.fresh := id rfl
@[simp] theorem State.setBuf_regs (s : State) (k : Nat) (b : Buf) : (State.setBuf s k b).regs = s.regs := id rfl
@[simp] theorem State.setBuf_live (s : State) (k : Nat) (b : Buf) : (State.setBuf s k b).live = s.live := id rfl
@[simp] theorem State.setBuf_force (s : State) (k : Nat) (b : Buf) : (State.setBuf s k b).force = s.force := id rfl
@[simp] theorem State.setBuf_flagCnt (s : State) (k : Nat) (b : Buf) : (State.setBuf s k b).flagCnt = s.flagCnt := id rfl
@[simp] theorem State.setBuf_shadows (s : State) (k : Nat) (b : Buf) : (State.setBuf s k b).shadows = s.shadows := id rfl
@[simp] theorem State.setBuf_recs (s : State) (k : Nat) (b : Buf) : (State.setBuf s k b).recs = s.recs := id rfl
@[simp] theorem State.setBuf_out (s : State) (k : Nat) (b : Buf) : (State.setBuf s k b).out = s.out := id rfl
@[simp] theorem State.setBuf_pending (s : State) (k : Nat) (b : Buf) : (State.setBuf s k b).pending = s.pending := id rfl
@[simp] theorem State.setBuf_scan (s : State) (k : Nat) (b : Buf) : (State.setBuf s k b).scan = s.scan := id rfl
@[simp] theorem State.setBuf_stamp (s : State) (k : Nat) (b : Buf) : (State.setBuf s k b).stamp = s.stamp := id rfl
@[simp] theorem State.setBuf_hist (s : State) (k : Nat) (b : Buf) : (State.setBuf s k b).hist = { s.hist with bufs := Map.set {} s.hist.bufs k b } := id rfl
@[simp] theorem State.setBuf_clusters (s : State) (k : Nat) (b : Buf) : (State.setBuf s k b).clusters = s.clusters := id rfl
@[simp] theorem State.setBuf_bq (s : State) (k : Nat) (b : Buf) : (State.setBuf s k b).bq = s.bq := id rfl
@[simp] theorem State.setBuf_masks (s : State) (k : Nat) (b : Buf) : (State.setBuf s k b).masks = s.masks := id rfl
@[simp] theorem State.setBuf_evoth (s : State) (k : Nat) (b : Buf) : (State.setBuf s k b).evoth = s.evoth := id rfl
@[simp] theorem State.setBuf_streams (s : State) (k : Nat) (b : Buf) : (State.setBuf s k b).streams = s.streams := id rfl
@[simp] theorem State.setBuf_recorder (s : State) (k : Nat) (b : Buf) : (State.setBuf s k b).recorder = s.recorder := id rfl
@[simp] theorem State.setBuf_emit_ (s : State) (k : Nat) (b : Buf) : (State.setBuf s k b).emit_ = s.emit_ := id rfl
@[simp] theorem State.setBuf_mirror (s : State) (k : Nat) (b : Buf) : (State.setBuf s k b).mirror = s.mirror := id rfl
@[simp] theorem State.setBuf_fe (s : State) (k : Nat) (b : Buf) : (State.setBuf s k b).fe = s.fe := id rfl
@[simp] theorem State.setBuf_hk (s : State) (k : Nat) (b : Buf) : (State.setBuf s k b).hk = s.hk := id rfl
@[simp] theorem State.setBuf_farrier (s : State) (k : Nat) (b : Buf) : (State.setBuf s k b).farrier = s.farrier := id rfl
@[simp] theorem State.setBuf_sup (s : State) (k : Nat) (b : Buf) : (State.setBuf s k b).sup = s.sup := id rfl
@[simp] theorem State.setBuf_bridle (s : State) (k : Nat) (b : Buf) : (State.setBuf s k b).bridle = s.bridle := id rfl
@[simp] theorem State.setBuf_hitch (s : State) (k : Nat) (b : Buf) : (State.setBuf s k b).hitch = s.hitch := id rfl
@[simp] theorem State.setBuf_host (s : State) (k : Nat) (b : Buf) : (State.setBuf s k b).host = s.host := id rfl
@[simp] theorem State.setBuf_salsol (s : State) (k : Nat) (b : Buf) : (State.setBuf s k b).salsol = s.salsol := id rfl
@[simp] theorem State.setBuf_ident (s : State) (k : Nat) (b : Buf) : (State.setBuf s k b).ident = s.ident := id rfl
@[simp] theorem State.setBuf_nv (s : State) (k : Nat) (b : Buf) : (State.setBuf s k b).nv = s.nv := id rfl
@[simp] theorem State.setBuf_attest (s : State) (k : Nat) (b : Buf) : (State.setBuf s k b).attest = s.attest := id rfl
@[simp] theorem State.setBuf_power (s : State) (k : Nat) (b : Buf) : (State.setBuf s k b).power = s.power := id rfl
@[simp] theorem State.setBuf_ctl (s : State) (k : Nat) (b : Buf) : (State.setBuf s k b).ctl = s.ctl := id rfl
@[simp] theorem State.setBuf_dcl (s : State) (k : Nat) (b : Buf) : (State.setBuf s k b).dcl = s.dcl := id rfl

/-! ### setCharger -/
@[simp] theorem State.setCharger_now (s : State) (k : Nat) (c : Charger) : (State.setCharger s k c).now = s.now := id rfl
@[simp] theorem State.setCharger_fresh (s : State) (k : Nat) (c : Charger) : (State.setCharger s k c).fresh = s.fresh := id rfl
@[simp] theorem State.setCharger_regs (s : State) (k : Nat) (c : Charger) : (State.setCharger s k c).regs = s.regs := id rfl
@[simp] theorem State.setCharger_live (s : State) (k : Nat) (c : Charger) : (State.setCharger s k c).live = s.live := id rfl
@[simp] theorem State.setCharger_force (s : State) (k : Nat) (c : Charger) : (State.setCharger s k c).force = s.force := id rfl
@[simp] theorem State.setCharger_flagCnt (s : State) (k : Nat) (c : Charger) : (State.setCharger s k c).flagCnt = s.flagCnt := id rfl
@[simp] theorem State.setCharger_shadows (s : State) (k : Nat) (c : Charger) : (State.setCharger s k c).shadows = s.shadows := id rfl
@[simp] theorem State.setCharger_recs (s : State) (k : Nat) (c : Charger) : (State.setCharger s k c).recs = s.recs := id rfl
@[simp] theorem State.setCharger_out (s : State) (k : Nat) (c : Charger) : (State.setCharger s k c).out = s.out := id rfl
@[simp] theorem State.setCharger_pending (s : State) (k : Nat) (c : Charger) : (State.setCharger s k c).pending = s.pending := id rfl
@[simp] theorem State.setCharger_scan (s : State) (k : Nat) (c : Charger) : (State.setCharger s k c).scan = s.scan := id rfl
@[simp] theorem State.setCharger_stamp (s : State) (k : Nat) (c : Charger) : (State.setCharger s k c).stamp = s.stamp := id rfl
@[simp] theorem State.setCharger_hist (s : State) (k : Nat) (c : Charger) : (State.setCharger s k c).hist = s.hist := id rfl
@[simp] theorem State.setCharger_clusters (s : State) (k : Nat) (c : Charger) : (State.setCharger s k c).clusters = s.clusters := id rfl
@[simp] theorem State.setCharger_bq (s : State) (k : Nat) (c : Charger) : (State.setCharger s k c).bq = s.bq := id rfl
@[simp] theorem State.setCharger_masks (s : State) (k : Nat) (c : Charger) : (State.setCharger s k c).masks = s.masks := id rfl
@[simp] theorem State.setCharger_evoth (s : State) (k : Nat) (c : Charger) : (State.setCharger s k c).evoth = s.evoth := id rfl
@[simp] theorem State.setCharger_streams (s : State) (k : Nat) (c : Charger) : (State.setCharger s k c).streams = s.streams := id rfl
@[simp] theorem State.setCharger_recorder (s : State) (k : Nat) (c : Charger) : (State.setCharger s k c).recorder = s.recorder := id rfl
@[simp] theorem State.setCharger_emit_ (s : State) (k : Nat) (c : Charger) : (State.setCharger s k c).emit_ = { s.emit_ with chargers := Map.set {} s.emit_.chargers k c } := id rfl
@[simp] theorem State.setCharger_mirror (s : State) (k : Nat) (c : Charger) : (State.setCharger s k c).mirror = s.mirror := id rfl
@[simp] theorem State.setCharger_fe (s : State) (k : Nat) (c : Charger) : (State.setCharger s k c).fe = s.fe := id rfl
@[simp] theorem State.setCharger_hk (s : State) (k : Nat) (c : Charger) : (State.setCharger s k c).hk = s.hk := id rfl
@[simp] theorem State.setCharger_farrier (s : State) (k : Nat) (c : Charger) : (State.setCharger s k c).farrier = s.farrier := id rfl
@[simp] theorem State.setCharger_sup (s : State) (k : Nat) (c : Charger) : (State.setCharger s k c).sup = s.sup := id rfl
@[simp] theorem State.setCharger_bridle (s : State) (k : Nat) (c : Charger) : (State.setCharger s k c).bridle = s.bridle := id rfl
@[simp] theorem State.setCharger_hitch (s : State) (k : Nat) (c : Charger) : (State.setCharger s k c).hitch = s.hitch := id rfl
@[simp] theorem State.setCharger_host (s : State) (k : Nat) (c : Charger) : (State.setCharger s k c).host = s.host := id rfl
@[simp] theorem State.setCharger_salsol (s : State) (k : Nat) (c : Charger) : (State.setCharger s k c).salsol = s.salsol := id rfl
@[simp] theorem State.setCharger_ident (s : State) (k : Nat) (c : Charger) : (State.setCharger s k c).ident = s.ident := id rfl
@[simp] theorem State.setCharger_nv (s : State) (k : Nat) (c : Charger) : (State.setCharger s k c).nv = s.nv := id rfl
@[simp] theorem State.setCharger_attest (s : State) (k : Nat) (c : Charger) : (State.setCharger s k c).attest = s.attest := id rfl
@[simp] theorem State.setCharger_power (s : State) (k : Nat) (c : Charger) : (State.setCharger s k c).power = s.power := id rfl
@[simp] theorem State.setCharger_ctl (s : State) (k : Nat) (c : Charger) : (State.setCharger s k c).ctl = s.ctl := id rfl
@[simp] theorem State.setCharger_dcl (s : State) (k : Nat) (c : Charger) : (State.setCharger s k c).dcl = s.dcl := id rfl

/-! ### withStamp -/
@[simp] theorem State.withStamp_now (s : State) (f : Stamping → Stamping) : (State.withStamp s f).now = s.now := id rfl
@[simp] theorem State.withStamp_fresh (s : State) (f : Stamping → Stamping) : (State.withStamp s f).fresh = s.fresh := id rfl
@[simp] theorem State.withStamp_regs (s : State) (f : Stamping → Stamping) : (State.withStamp s f).regs = s.regs := id rfl
@[simp] theorem State.withStamp_live (s : State) (f : Stamping → Stamping) : (State.withStamp s f).live = s.live := id rfl
@[simp] theorem State.withStamp_force (s : State) (f : Stamping → Stamping) : (State.withStamp s f).force = s.force := id rfl
@[simp] theorem State.withStamp_flagCnt (s : State) (f : Stamping → Stamping) : (State.withStamp s f).flagCnt = s.flagCnt := id rfl
@[simp] theorem State.withStamp_shadows (s : State) (f : Stamping → Stamping) : (State.withStamp s f).shadows = s.shadows := id rfl
@[simp] theorem State.withStamp_recs (s : State) (f : Stamping → Stamping) : (State.withStamp s f).recs = s.recs := id rfl
@[simp] theorem State.withStamp_out (s : State) (f : Stamping → Stamping) : (State.withStamp s f).out = s.out := id rfl
@[simp] theorem State.withStamp_pending (s : State) (f : Stamping → Stamping) : (State.withStamp s f).pending = s.pending := id rfl
@[simp] theorem State.withStamp_scan (s : State) (f : Stamping → Stamping) : (State.withStamp s f).scan = s.scan := id rfl
@[simp] theorem State.withStamp_stamp (s : State) (f : Stamping → Stamping) : (State.withStamp s f).stamp = f s.stamp := id rfl
@[simp] theorem State.withStamp_hist (s : State) (f : Stamping → Stamping) : (State.withStamp s f).hist = s.hist := id rfl
@[simp] theorem State.withStamp_clusters (s : State) (f : Stamping → Stamping) : (State.withStamp s f).clusters = s.clusters := id rfl
@[simp] theorem State.withStamp_bq (s : State) (f : Stamping → Stamping) : (State.withStamp s f).bq = s.bq := id rfl
@[simp] theorem State.withStamp_masks (s : State) (f : Stamping → Stamping) : (State.withStamp s f).masks = s.masks := id rfl
@[simp] theorem State.withStamp_evoth (s : State) (f : Stamping → Stamping) : (State.withStamp s f).evoth = s.evoth := id rfl
@[simp] theorem State.withStamp_streams (s : State) (f : Stamping → Stamping) : (State.withStamp s f).streams = s.streams := id rfl
@[simp] theorem State.withStamp_recorder (s : State) (f : Stamping → Stamping) : (State.withStamp s f).recorder = s.recorder := id rfl
@[simp] theorem State.withStamp_emit_ (s : State) (f : Stamping → Stamping) : (State.withStamp s f).emit_ = s.emit_ := id rfl
@[simp] theorem State.withStamp_mirror (s : State) (f : Stamping → Stamping) : (State.withStamp s f).mirror = s.mirror := id rfl
@[simp] theorem State.withStamp_fe (s : State) (f : Stamping → Stamping) : (State.withStamp s f).fe = s.fe := id rfl
@[simp] theorem State.withStamp_hk (s : State) (f : Stamping → Stamping) : (State.withStamp s f).hk = s.hk := id rfl
@[simp] theorem State.withStamp_farrier (s : State) (f : Stamping → Stamping) : (State.withStamp s f).farrier = s.farrier := id rfl
@[simp] theorem State.withStamp_sup (s : State) (f : Stamping → Stamping) : (State.withStamp s f).sup = s.sup := id rfl
@[simp] theorem State.withStamp_bridle (s : State) (f : Stamping → Stamping) : (State.withStamp s f).bridle = s.bridle := id rfl
@[simp] theorem State.withStamp_hitch (s : State) (f : Stamping → Stamping) : (State.withStamp s f).hitch = s.hitch := id rfl
@[simp] theorem State.withStamp_host (s : State) (f : Stamping → Stamping) : (State.withStamp s f).host = s.host := id rfl
@[simp] theorem State.withStamp_salsol (s : State) (f : Stamping → Stamping) : (State.withStamp s f).salsol = s.salsol := id rfl
@[simp] theorem State.withStamp_ident (s : State) (f : Stamping → Stamping) : (State.withStamp s f).ident = s.ident := id rfl
@[simp] theorem State.withStamp_nv (s : State) (f : Stamping → Stamping) : (State.withStamp s f).nv = s.nv := id rfl
@[simp] theorem State.withStamp_attest (s : State) (f : Stamping → Stamping) : (State.withStamp s f).attest = s.attest := id rfl
@[simp] theorem State.withStamp_power (s : State) (f : Stamping → Stamping) : (State.withStamp s f).power = s.power := id rfl
@[simp] theorem State.withStamp_ctl (s : State) (f : Stamping → Stamping) : (State.withStamp s f).ctl = s.ctl := id rfl
@[simp] theorem State.withStamp_dcl (s : State) (f : Stamping → Stamping) : (State.withStamp s f).dcl = s.dcl := id rfl

/-! ### withCol -/
@[simp] theorem State.withCol_now (s : State) (frame seq : Nat) (f : Column → Column) : (State.withCol s frame seq f).now = s.now := id rfl
@[simp] theorem State.withCol_fresh (s : State) (frame seq : Nat) (f : Column → Column) : (State.withCol s frame seq f).fresh = s.fresh := id rfl
@[simp] theorem State.withCol_regs (s : State) (frame seq : Nat) (f : Column → Column) : (State.withCol s frame seq f).regs = s.regs := id rfl
@[simp] theorem State.withCol_live (s : State) (frame seq : Nat) (f : Column → Column) : (State.withCol s frame seq f).live = s.live := id rfl
@[simp] theorem State.withCol_force (s : State) (frame seq : Nat) (f : Column → Column) : (State.withCol s frame seq f).force = s.force := id rfl
@[simp] theorem State.withCol_flagCnt (s : State) (frame seq : Nat) (f : Column → Column) : (State.withCol s frame seq f).flagCnt = s.flagCnt := id rfl
@[simp] theorem State.withCol_shadows (s : State) (frame seq : Nat) (f : Column → Column) : (State.withCol s frame seq f).shadows = s.shadows := id rfl
@[simp] theorem State.withCol_recs (s : State) (frame seq : Nat) (f : Column → Column) : (State.withCol s frame seq f).recs = s.recs := id rfl
@[simp] theorem State.withCol_out (s : State) (frame seq : Nat) (f : Column → Column) : (State.withCol s frame seq f).out = s.out := id rfl
@[simp] theorem State.withCol_pending (s : State) (frame seq : Nat) (f : Column → Column) : (State.withCol s frame seq f).pending = s.pending := id rfl
@[simp] theorem State.withCol_scan (s : State) (frame seq : Nat) (f : Column → Column) : (State.withCol s frame seq f).scan = { s.scan with columns := s.scan.columns.map (fun c => if c.frame = frame ∧ c.seq = seq then f c else c) } := id rfl
@[simp] theorem State.withCol_stamp (s : State) (frame seq : Nat) (f : Column → Column) : (State.withCol s frame seq f).stamp = s.stamp := id rfl
@[simp] theorem State.withCol_hist (s : State) (frame seq : Nat) (f : Column → Column) : (State.withCol s frame seq f).hist = s.hist := id rfl
@[simp] theorem State.withCol_clusters (s : State) (frame seq : Nat) (f : Column → Column) : (State.withCol s frame seq f).clusters = s.clusters := id rfl
@[simp] theorem State.withCol_bq (s : State) (frame seq : Nat) (f : Column → Column) : (State.withCol s frame seq f).bq = s.bq := id rfl
@[simp] theorem State.withCol_masks (s : State) (frame seq : Nat) (f : Column → Column) : (State.withCol s frame seq f).masks = s.masks := id rfl
@[simp] theorem State.withCol_evoth (s : State) (frame seq : Nat) (f : Column → Column) : (State.withCol s frame seq f).evoth = s.evoth := id rfl
@[simp] theorem State.withCol_streams (s : State) (frame seq : Nat) (f : Column → Column) : (State.withCol s frame seq f).streams = s.streams := id rfl
@[simp] theorem State.withCol_recorder (s : State) (frame seq : Nat) (f : Column → Column) : (State.withCol s frame seq f).recorder = s.recorder := id rfl
@[simp] theorem State.withCol_emit_ (s : State) (frame seq : Nat) (f : Column → Column) : (State.withCol s frame seq f).emit_ = s.emit_ := id rfl
@[simp] theorem State.withCol_mirror (s : State) (frame seq : Nat) (f : Column → Column) : (State.withCol s frame seq f).mirror = s.mirror := id rfl
@[simp] theorem State.withCol_fe (s : State) (frame seq : Nat) (f : Column → Column) : (State.withCol s frame seq f).fe = s.fe := id rfl
@[simp] theorem State.withCol_hk (s : State) (frame seq : Nat) (f : Column → Column) : (State.withCol s frame seq f).hk = s.hk := id rfl
@[simp] theorem State.withCol_farrier (s : State) (frame seq : Nat) (f : Column → Column) : (State.withCol s frame seq f).farrier = s.farrier := id rfl
@[simp] theorem State.withCol_sup (s : State) (frame seq : Nat) (f : Column → Column) : (State.withCol s frame seq f).sup = s.sup := id rfl
@[simp] theorem State.withCol_bridle (s : State) (frame seq : Nat) (f : Column → Column) : (State.withCol s frame seq f).bridle = s.bridle := id rfl
@[simp] theorem State.withCol_hitch (s : State) (frame seq : Nat) (f : Column → Column) : (State.withCol s frame seq f).hitch = s.hitch := id rfl
@[simp] theorem State.withCol_host (s : State) (frame seq : Nat) (f : Column → Column) : (State.withCol s frame seq f).host = s.host := id rfl
@[simp] theorem State.withCol_salsol (s : State) (frame seq : Nat) (f : Column → Column) : (State.withCol s frame seq f).salsol = s.salsol := id rfl
@[simp] theorem State.withCol_ident (s : State) (frame seq : Nat) (f : Column → Column) : (State.withCol s frame seq f).ident = s.ident := id rfl
@[simp] theorem State.withCol_nv (s : State) (frame seq : Nat) (f : Column → Column) : (State.withCol s frame seq f).nv = s.nv := id rfl
@[simp] theorem State.withCol_attest (s : State) (frame seq : Nat) (f : Column → Column) : (State.withCol s frame seq f).attest = s.attest := id rfl
@[simp] theorem State.withCol_power (s : State) (frame seq : Nat) (f : Column → Column) : (State.withCol s frame seq f).power = s.power := id rfl
@[simp] theorem State.withCol_ctl (s : State) (frame seq : Nat) (f : Column → Column) : (State.withCol s frame seq f).ctl = s.ctl := id rfl
@[simp] theorem State.withCol_dcl (s : State) (frame seq : Nat) (f : Column → Column) : (State.withCol s frame seq f).dcl = s.dcl := id rfl

/-! ### setChan -/
@[simp] theorem State.setChan_now (s : State) (c : Nat) (d : DmaChan) : (State.setChan s c d).now = s.now := id rfl
@[simp] theorem State.setChan_fresh (s : State) (c : Nat) (d : DmaChan) : (State.setChan s c d).fresh = s.fresh := id rfl
@[simp] theorem State.setChan_regs (s : State) (c : Nat) (d : DmaChan) : (State.setChan s c d).regs = s.regs := id rfl
@[simp] theorem State.setChan_live (s : State) (c : Nat) (d : DmaChan) : (State.setChan s c d).live = s.live := id rfl
@[simp] theorem State.setChan_force (s : State) (c : Nat) (d : DmaChan) : (State.setChan s c d).force = s.force := id rfl
@[simp] theorem State.setChan_flagCnt (s : State) (c : Nat) (d : DmaChan) : (State.setChan s c d).flagCnt = s.flagCnt := id rfl
@[simp] theorem State.setChan_shadows (s : State) (c : Nat) (d : DmaChan) : (State.setChan s c d).shadows = s.shadows := id rfl
@[simp] theorem State.setChan_recs (s : State) (c : Nat) (d : DmaChan) : (State.setChan s c d).recs = s.recs := id rfl
@[simp] theorem State.setChan_out (s : State) (c : Nat) (d : DmaChan) : (State.setChan s c d).out = s.out := id rfl
@[simp] theorem State.setChan_pending (s : State) (c : Nat) (d : DmaChan) : (State.setChan s c d).pending = s.pending := id rfl
@[simp] theorem State.setChan_scan (s : State) (c : Nat) (d : DmaChan) : (State.setChan s c d).scan = s.scan := id rfl
@[simp] theorem State.setChan_stamp (s : State) (c : Nat) (d : DmaChan) : (State.setChan s c d).stamp = s.stamp := id rfl
@[simp] theorem State.setChan_hist (s : State) (c : Nat) (d : DmaChan) : (State.setChan s c d).hist = s.hist := id rfl
@[simp] theorem State.setChan_clusters (s : State) (c : Nat) (d : DmaChan) : (State.setChan s c d).clusters = s.clusters := id rfl
@[simp] theorem State.setChan_bq (s : State) (c : Nat) (d : DmaChan) : (State.setChan s c d).bq = s.bq := id rfl
@[simp] theorem State.setChan_masks (s : State) (c : Nat) (d : DmaChan) : (State.setChan s c d).masks = s.masks := id rfl
@[simp] theorem State.setChan_evoth (s : State) (c : Nat) (d : DmaChan) : (State.setChan s c d).evoth = s.evoth := id rfl
@[simp] theorem State.setChan_streams (s : State) (c : Nat) (d : DmaChan) : (State.setChan s c d).streams = s.streams := id rfl
@[simp] theorem State.setChan_recorder (s : State) (c : Nat) (d : DmaChan) : (State.setChan s c d).recorder = s.recorder := id rfl
@[simp] theorem State.setChan_emit_ (s : State) (c : Nat) (d : DmaChan) : (State.setChan s c d).emit_ = s.emit_ := id rfl
@[simp] theorem State.setChan_mirror (s : State) (c : Nat) (d : DmaChan) : (State.setChan s c d).mirror = s.mirror := id rfl
@[simp] theorem State.setChan_fe (s : State) (c : Nat) (d : DmaChan) : (State.setChan s c d).fe = s.fe := id rfl
@[simp] theorem State.setChan_hk (s : State) (c : Nat) (d : DmaChan) : (State.setChan s c d).hk = s.hk := id rfl
@[simp] theorem State.setChan_farrier (s : State) (c : Nat) (d : DmaChan) : (State.setChan s c d).farrier = s.farrier := id rfl
@[simp] theorem State.setChan_sup (s : State) (c : Nat) (d : DmaChan) : (State.setChan s c d).sup = s.sup := id rfl
@[simp] theorem State.setChan_bridle (s : State) (c : Nat) (d : DmaChan) : (State.setChan s c d).bridle = s.bridle := id rfl
@[simp] theorem State.setChan_hitch (s : State) (c : Nat) (d : DmaChan) : (State.setChan s c d).hitch = s.hitch := id rfl
@[simp] theorem State.setChan_host (s : State) (c : Nat) (d : DmaChan) : (State.setChan s c d).host = { s.host with chans := Map.set {} s.host.chans c d } := id rfl
@[simp] theorem State.setChan_salsol (s : State) (c : Nat) (d : DmaChan) : (State.setChan s c d).salsol = s.salsol := id rfl
@[simp] theorem State.setChan_ident (s : State) (c : Nat) (d : DmaChan) : (State.setChan s c d).ident = s.ident := id rfl
@[simp] theorem State.setChan_nv (s : State) (c : Nat) (d : DmaChan) : (State.setChan s c d).nv = s.nv := id rfl
@[simp] theorem State.setChan_attest (s : State) (c : Nat) (d : DmaChan) : (State.setChan s c d).attest = s.attest := id rfl
@[simp] theorem State.setChan_power (s : State) (c : Nat) (d : DmaChan) : (State.setChan s c d).power = s.power := id rfl
@[simp] theorem State.setChan_ctl (s : State) (c : Nat) (d : DmaChan) : (State.setChan s c d).ctl = s.ctl := id rfl
@[simp] theorem State.setChan_dcl (s : State) (c : Nat) (d : DmaChan) : (State.setChan s c d).dcl = s.dcl := id rfl

/-! ### withMir -/
@[simp] theorem State.withMir_now (s : State) (f : Mirror → Mirror) : (State.withMir s f).now = s.now := id rfl
@[simp] theorem State.withMir_fresh (s : State) (f : Mirror → Mirror) : (State.withMir s f).fresh = s.fresh := id rfl
@[simp] theorem State.withMir_regs (s : State) (f : Mirror → Mirror) : (State.withMir s f).regs = s.regs := id rfl
@[simp] theorem State.withMir_live (s : State) (f : Mirror → Mirror) : (State.withMir s f).live = s.live := id rfl
@[simp] theorem State.withMir_force (s : State) (f : Mirror → Mirror) : (State.withMir s f).force = s.force := id rfl
@[simp] theorem State.withMir_flagCnt (s : State) (f : Mirror → Mirror) : (State.withMir s f).flagCnt = s.flagCnt := id rfl
@[simp] theorem State.withMir_shadows (s : State) (f : Mirror → Mirror) : (State.withMir s f).shadows = s.shadows := id rfl
@[simp] theorem State.withMir_recs (s : State) (f : Mirror → Mirror) : (State.withMir s f).recs = s.recs := id rfl
@[simp] theorem State.withMir_out (s : State) (f : Mirror → Mirror) : (State.withMir s f).out = s.out := id rfl
@[simp] theorem State.withMir_pending (s : State) (f : Mirror → Mirror) : (State.withMir s f).pending = s.pending := id rfl
@[simp] theorem State.withMir_scan (s : State) (f : Mirror → Mirror) : (State.withMir s f).scan = s.scan := id rfl
@[simp] theorem State.withMir_stamp (s : State) (f : Mirror → Mirror) : (State.withMir s f).stamp = s.stamp := id rfl
@[simp] theorem State.withMir_hist (s : State) (f : Mirror → Mirror) : (State.withMir s f).hist = s.hist := id rfl
@[simp] theorem State.withMir_clusters (s : State) (f : Mirror → Mirror) : (State.withMir s f).clusters = s.clusters := id rfl
@[simp] theorem State.withMir_bq (s : State) (f : Mirror → Mirror) : (State.withMir s f).bq = s.bq := id rfl
@[simp] theorem State.withMir_masks (s : State) (f : Mirror → Mirror) : (State.withMir s f).masks = s.masks := id rfl
@[simp] theorem State.withMir_evoth (s : State) (f : Mirror → Mirror) : (State.withMir s f).evoth = s.evoth := id rfl
@[simp] theorem State.withMir_streams (s : State) (f : Mirror → Mirror) : (State.withMir s f).streams = s.streams := id rfl
@[simp] theorem State.withMir_recorder (s : State) (f : Mirror → Mirror) : (State.withMir s f).recorder = s.recorder := id rfl
@[simp] theorem State.withMir_emit_ (s : State) (f : Mirror → Mirror) : (State.withMir s f).emit_ = s.emit_ := id rfl
@[simp] theorem State.withMir_mirror (s : State) (f : Mirror → Mirror) : (State.withMir s f).mirror = f s.mirror := id rfl
@[simp] theorem State.withMir_fe (s : State) (f : Mirror → Mirror) : (State.withMir s f).fe = s.fe := id rfl
@[simp] theorem State.withMir_hk (s : State) (f : Mirror → Mirror) : (State.withMir s f).hk = s.hk := id rfl
@[simp] theorem State.withMir_farrier (s : State) (f : Mirror → Mirror) : (State.withMir s f).farrier = s.farrier := id rfl
@[simp] theorem State.withMir_sup (s : State) (f : Mirror → Mirror) : (State.withMir s f).sup = s.sup := id rfl
@[simp] theorem State.withMir_bridle (s : State) (f : Mirror → Mirror) : (State.withMir s f).bridle = s.bridle := id rfl
@[simp] theorem State.withMir_hitch (s : State) (f : Mirror → Mirror) : (State.withMir s f).hitch = s.hitch := id rfl
@[simp] theorem State.withMir_host (s : State) (f : Mirror → Mirror) : (State.withMir s f).host = s.host := id rfl
@[simp] theorem State.withMir_salsol (s : State) (f : Mirror → Mirror) : (State.withMir s f).salsol = s.salsol := id rfl
@[simp] theorem State.withMir_ident (s : State) (f : Mirror → Mirror) : (State.withMir s f).ident = s.ident := id rfl
@[simp] theorem State.withMir_nv (s : State) (f : Mirror → Mirror) : (State.withMir s f).nv = s.nv := id rfl
@[simp] theorem State.withMir_attest (s : State) (f : Mirror → Mirror) : (State.withMir s f).attest = s.attest := id rfl
@[simp] theorem State.withMir_power (s : State) (f : Mirror → Mirror) : (State.withMir s f).power = s.power := id rfl
@[simp] theorem State.withMir_ctl (s : State) (f : Mirror → Mirror) : (State.withMir s f).ctl = s.ctl := id rfl
@[simp] theorem State.withMir_dcl (s : State) (f : Mirror → Mirror) : (State.withMir s f).dcl = s.dcl := id rfl

/-! ### withStream -/
@[simp] theorem State.withStream_now (s : State) (r : Nat) (f : Stream → Stream) : (State.withStream s r f).now = s.now := id rfl
@[simp] theorem State.withStream_fresh (s : State) (r : Nat) (f : Stream → Stream) : (State.withStream s r f).fresh = s.fresh := id rfl
@[simp] theorem State.withStream_regs (s : State) (r : Nat) (f : Stream → Stream) : (State.withStream s r f).regs = s.regs := id rfl
@[simp] theorem State.withStream_live (s : State) (r : Nat) (f : Stream → Stream) : (State.withStream s r f).live = s.live := id rfl
@[simp] theorem State.withStream_force (s : State) (r : Nat) (f : Stream → Stream) : (State.withStream s r f).force = s.force := id rfl
@[simp] theorem State.withStream_flagCnt (s : State) (r : Nat) (f : Stream → Stream) : (State.withStream s r f).flagCnt = s.flagCnt := id rfl
@[simp] theorem State.withStream_shadows (s : State) (r : Nat) (f : Stream → Stream) : (State.withStream s r f).shadows = s.shadows := id rfl
@[simp] theorem State.withStream_recs (s : State) (r : Nat) (f : Stream → Stream) : (State.withStream s r f).recs = s.recs := id rfl
@[simp] theorem State.withStream_out (s : State) (r : Nat) (f : Stream → Stream) : (State.withStream s r f).out = s.out := id rfl
@[simp] theorem State.withStream_pending (s : State) (r : Nat) (f : Stream → Stream) : (State.withStream s r f).pending = s.pending := id rfl
@[simp] theorem State.withStream_scan (s : State) (r : Nat) (f : Stream → Stream) : (State.withStream s r f).scan = s.scan := id rfl
@[simp] theorem State.withStream_stamp (s : State) (r : Nat) (f : Stream → Stream) : (State.withStream s r f).stamp = s.stamp := id rfl
@[simp] theorem State.withStream_hist (s : State) (r : Nat) (f : Stream → Stream) : (State.withStream s r f).hist = s.hist := id rfl
@[simp] theorem State.withStream_clusters (s : State) (r : Nat) (f : Stream → Stream) : (State.withStream s r f).clusters = s.clusters := id rfl
@[simp] theorem State.withStream_bq (s : State) (r : Nat) (f : Stream → Stream) : (State.withStream s r f).bq = s.bq := id rfl
@[simp] theorem State.withStream_masks (s : State) (r : Nat) (f : Stream → Stream) : (State.withStream s r f).masks = s.masks := id rfl
@[simp] theorem State.withStream_evoth (s : State) (r : Nat) (f : Stream → Stream) : (State.withStream s r f).evoth = s.evoth := id rfl
@[simp] theorem State.withStream_streams (s : State) (r : Nat) (f : Stream → Stream) : (State.withStream s r f).streams = Map.set {} s.streams r (f (s.stream r)) := id rfl
@[simp] theorem State.withStream_recorder (s : State) (r : Nat) (f : Stream → Stream) : (State.withStream s r f).recorder = s.recorder := id rfl
@[simp] theorem State.withStream_emit_ (s : State) (r : Nat) (f : Stream → Stream) : (State.withStream s r f).emit_ = s.emit_ := id rfl
@[simp] theorem State.withStream_mirror (s : State) (r : Nat) (f : Stream → Stream) : (State.withStream s r f).mirror = s.mirror := id rfl
@[simp] theorem State.withStream_fe (s : State) (r : Nat) (f : Stream → Stream) : (State.withStream s r f).fe = s.fe := id rfl
@[simp] theorem State.withStream_hk (s : State) (r : Nat) (f : Stream → Stream) : (State.withStream s r f).hk = s.hk := id rfl
@[simp] theorem State.withStream_farrier (s : State) (r : Nat) (f : Stream → Stream) : (State.withStream s r f).farrier = s.farrier := id rfl
@[simp] theorem State.withStream_sup (s : State) (r : Nat) (f : Stream → Stream) : (State.withStream s r f).sup = s.sup := id rfl
@[simp] theorem State.withStream_bridle (s : State) (r : Nat) (f : Stream → Stream) : (State.withStream s r f).bridle = s.bridle := id rfl
@[simp] theorem State.withStream_hitch (s : State) (r : Nat) (f : Stream → Stream) : (State.withStream s r f).hitch = s.hitch := id rfl
@[simp] theorem State.withStream_host (s : State) (r : Nat) (f : Stream → Stream) : (State.withStream s r f).host = s.host := id rfl
@[simp] theorem State.withStream_salsol (s : State) (r : Nat) (f : Stream → Stream) : (State.withStream s r f).salsol = s.salsol := id rfl
@[simp] theorem State.withStream_ident (s : State) (r : Nat) (f : Stream → Stream) : (State.withStream s r f).ident = s.ident := id rfl
@[simp] theorem State.withStream_nv (s : State) (r : Nat) (f : Stream → Stream) : (State.withStream s r f).nv = s.nv := id rfl
@[simp] theorem State.withStream_attest (s : State) (r : Nat) (f : Stream → Stream) : (State.withStream s r f).attest = s.attest := id rfl
@[simp] theorem State.withStream_power (s : State) (r : Nat) (f : Stream → Stream) : (State.withStream s r f).power = s.power := id rfl
@[simp] theorem State.withStream_ctl (s : State) (r : Nat) (f : Stream → Stream) : (State.withStream s r f).ctl = s.ctl := id rfl
@[simp] theorem State.withStream_dcl (s : State) (r : Nat) (f : Stream → Stream) : (State.withStream s r f).dcl = s.dcl := id rfl

/-! ### withCore -/
@[simp] theorem State.withCore_now (s : State) (q : Nat) (f : EvothCore → EvothCore) : (State.withCore s q f).now = s.now := id rfl
@[simp] theorem State.withCore_fresh (s : State) (q : Nat) (f : EvothCore → EvothCore) : (State.withCore s q f).fresh = s.fresh := id rfl
@[simp] theorem State.withCore_regs (s : State) (q : Nat) (f : EvothCore → EvothCore) : (State.withCore s q f).regs = s.regs := id rfl
@[simp] theorem State.withCore_live (s : State) (q : Nat) (f : EvothCore → EvothCore) : (State.withCore s q f).live = s.live := id rfl
@[simp] theorem State.withCore_force (s : State) (q : Nat) (f : EvothCore → EvothCore) : (State.withCore s q f).force = s.force := id rfl
@[simp] theorem State.withCore_flagCnt (s : State) (q : Nat) (f : EvothCore → EvothCore) : (State.withCore s q f).flagCnt = s.flagCnt := id rfl
@[simp] theorem State.withCore_shadows (s : State) (q : Nat) (f : EvothCore → EvothCore) : (State.withCore s q f).shadows = s.shadows := id rfl
@[simp] theorem State.withCore_recs (s : State) (q : Nat) (f : EvothCore → EvothCore) : (State.withCore s q f).recs = s.recs := id rfl
@[simp] theorem State.withCore_out (s : State) (q : Nat) (f : EvothCore → EvothCore) : (State.withCore s q f).out = s.out := id rfl
@[simp] theorem State.withCore_pending (s : State) (q : Nat) (f : EvothCore → EvothCore) : (State.withCore s q f).pending = s.pending := id rfl
@[simp] theorem State.withCore_scan (s : State) (q : Nat) (f : EvothCore → EvothCore) : (State.withCore s q f).scan = s.scan := id rfl
@[simp] theorem State.withCore_stamp (s : State) (q : Nat) (f : EvothCore → EvothCore) : (State.withCore s q f).stamp = s.stamp := id rfl
@[simp] theorem State.withCore_hist (s : State) (q : Nat) (f : EvothCore → EvothCore) : (State.withCore s q f).hist = s.hist := id rfl
@[simp] theorem State.withCore_clusters (s : State) (q : Nat) (f : EvothCore → EvothCore) : (State.withCore s q f).clusters = s.clusters := id rfl
@[simp] theorem State.withCore_bq (s : State) (q : Nat) (f : EvothCore → EvothCore) : (State.withCore s q f).bq = s.bq := id rfl
@[simp] theorem State.withCore_masks (s : State) (q : Nat) (f : EvothCore → EvothCore) : (State.withCore s q f).masks = s.masks := id rfl
@[simp] theorem State.withCore_evoth (s : State) (q : Nat) (f : EvothCore → EvothCore) : (State.withCore s q f).evoth = { s.evoth with cores := Map.set {} s.evoth.cores q (f (s.core q)) } := id rfl
@[simp] theorem State.withCore_streams (s : State) (q : Nat) (f : EvothCore → EvothCore) : (State.withCore s q f).streams = s.streams := id rfl
@[simp] theorem State.withCore_recorder (s : State) (q : Nat) (f : EvothCore → EvothCore) : (State.withCore s q f).recorder = s.recorder := id rfl
@[simp] theorem State.withCore_emit_ (s : State) (q : Nat) (f : EvothCore → EvothCore) : (State.withCore s q f).emit_ = s.emit_ := id rfl
@[simp] theorem State.withCore_mirror (s : State) (q : Nat) (f : EvothCore → EvothCore) : (State.withCore s q f).mirror = s.mirror := id rfl
@[simp] theorem State.withCore_fe (s : State) (q : Nat) (f : EvothCore → EvothCore) : (State.withCore s q f).fe = s.fe := id rfl
@[simp] theorem State.withCore_hk (s : State) (q : Nat) (f : EvothCore → EvothCore) : (State.withCore s q f).hk = s.hk := id rfl
@[simp] theorem State.withCore_farrier (s : State) (q : Nat) (f : EvothCore → EvothCore) : (State.withCore s q f).farrier = s.farrier := id rfl
@[simp] theorem State.withCore_sup (s : State) (q : Nat) (f : EvothCore → EvothCore) : (State.withCore s q f).sup = s.sup := id rfl
@[simp] theorem State.withCore_bridle (s : State) (q : Nat) (f : EvothCore → EvothCore) : (State.withCore s q f).bridle = s.bridle := id rfl
@[simp] theorem State.withCore_hitch (s : State) (q : Nat) (f : EvothCore → EvothCore) : (State.withCore s q f).hitch = s.hitch := id rfl
@[simp] theorem State.withCore_host (s : State) (q : Nat) (f : EvothCore → EvothCore) : (State.withCore s q f).host = s.host := id rfl
@[simp] theorem State.withCore_salsol (s : State) (q : Nat) (f : EvothCore → EvothCore) : (State.withCore s q f).salsol = s.salsol := id rfl
@[simp] theorem State.withCore_ident (s : State) (q : Nat) (f : EvothCore → EvothCore) : (State.withCore s q f).ident = s.ident := id rfl
@[simp] theorem State.withCore_nv (s : State) (q : Nat) (f : EvothCore → EvothCore) : (State.withCore s q f).nv = s.nv := id rfl
@[simp] theorem State.withCore_attest (s : State) (q : Nat) (f : EvothCore → EvothCore) : (State.withCore s q f).attest = s.attest := id rfl
@[simp] theorem State.withCore_power (s : State) (q : Nat) (f : EvothCore → EvothCore) : (State.withCore s q f).power = s.power := id rfl
@[simp] theorem State.withCore_ctl (s : State) (q : Nat) (f : EvothCore → EvothCore) : (State.withCore s q f).ctl = s.ctl := id rfl
@[simp] theorem State.withCore_dcl (s : State) (q : Nat) (f : EvothCore → EvothCore) : (State.withCore s q f).dcl = s.dcl := id rfl

/-! ### setHkc -/
@[simp] theorem State.setHkc_now (s : State) (v : Nat) (c : HkConv) : (State.setHkc s v c).now = s.now := id rfl
@[simp] theorem State.setHkc_fresh (s : State) (v : Nat) (c : HkConv) : (State.setHkc s v c).fresh = s.fresh := id rfl
@[simp] theorem State.setHkc_regs (s : State) (v : Nat) (c : HkConv) : (State.setHkc s v c).regs = s.regs := id rfl
@[simp] theorem State.setHkc_live (s : State) (v : Nat) (c : HkConv) : (State.setHkc s v c).live = s.live := id rfl
@[simp] theorem State.setHkc_force (s : State) (v : Nat) (c : HkConv) : (State.setHkc s v c).force = s.force := id rfl
@[simp] theorem State.setHkc_flagCnt (s : State) (v : Nat) (c : HkConv) : (State.setHkc s v c).flagCnt = s.flagCnt := id rfl
@[simp] theorem State.setHkc_shadows (s : State) (v : Nat) (c : HkConv) : (State.setHkc s v c).shadows = s.shadows := id rfl
@[simp] theorem State.setHkc_recs (s : State) (v : Nat) (c : HkConv) : (State.setHkc s v c).recs = s.recs := id rfl
@[simp] theorem State.setHkc_out (s : State) (v : Nat) (c : HkConv) : (State.setHkc s v c).out = s.out := id rfl
@[simp] theorem State.setHkc_pending (s : State) (v : Nat) (c : HkConv) : (State.setHkc s v c).pending = s.pending := id rfl
@[simp] theorem State.setHkc_scan (s : State) (v : Nat) (c : HkConv) : (State.setHkc s v c).scan = s.scan := id rfl
@[simp] theorem State.setHkc_stamp (s : State) (v : Nat) (c : HkConv) : (State.setHkc s v c).stamp = s.stamp := id rfl
@[simp] theorem State.setHkc_hist (s : State) (v : Nat) (c : HkConv) : (State.setHkc s v c).hist = s.hist := id rfl
@[simp] theorem State.setHkc_clusters (s : State) (v : Nat) (c : HkConv) : (State.setHkc s v c).clusters = s.clusters := id rfl
@[simp] theorem State.setHkc_bq (s : State) (v : Nat) (c : HkConv) : (State.setHkc s v c).bq = s.bq := id rfl
@[simp] theorem State.setHkc_masks (s : State) (v : Nat) (c : HkConv) : (State.setHkc s v c).masks = s.masks := id rfl
@[simp] theorem State.setHkc_evoth (s : State) (v : Nat) (c : HkConv) : (State.setHkc s v c).evoth = s.evoth := id rfl
@[simp] theorem State.setHkc_streams (s : State) (v : Nat) (c : HkConv) : (State.setHkc s v c).streams = s.streams := id rfl
@[simp] theorem State.setHkc_recorder (s : State) (v : Nat) (c : HkConv) : (State.setHkc s v c).recorder = s.recorder := id rfl
@[simp] theorem State.setHkc_emit_ (s : State) (v : Nat) (c : HkConv) : (State.setHkc s v c).emit_ = s.emit_ := id rfl
@[simp] theorem State.setHkc_mirror (s : State) (v : Nat) (c : HkConv) : (State.setHkc s v c).mirror = s.mirror := id rfl
@[simp] theorem State.setHkc_fe (s : State) (v : Nat) (c : HkConv) : (State.setHkc s v c).fe = s.fe := id rfl
@[simp] theorem State.setHkc_hk (s : State) (v : Nat) (c : HkConv) : (State.setHkc s v c).hk = { s.hk with convs := Map.set {} s.hk.convs v c } := id rfl
@[simp] theorem State.setHkc_farrier (s : State) (v : Nat) (c : HkConv) : (State.setHkc s v c).farrier = s.farrier := id rfl
@[simp] theorem State.setHkc_sup (s : State) (v : Nat) (c : HkConv) : (State.setHkc s v c).sup = s.sup := id rfl
@[simp] theorem State.setHkc_bridle (s : State) (v : Nat) (c : HkConv) : (State.setHkc s v c).bridle = s.bridle := id rfl
@[simp] theorem State.setHkc_hitch (s : State) (v : Nat) (c : HkConv) : (State.setHkc s v c).hitch = s.hitch := id rfl
@[simp] theorem State.setHkc_host (s : State) (v : Nat) (c : HkConv) : (State.setHkc s v c).host = s.host := id rfl
@[simp] theorem State.setHkc_salsol (s : State) (v : Nat) (c : HkConv) : (State.setHkc s v c).salsol = s.salsol := id rfl
@[simp] theorem State.setHkc_ident (s : State) (v : Nat) (c : HkConv) : (State.setHkc s v c).ident = s.ident := id rfl
@[simp] theorem State.setHkc_nv (s : State) (v : Nat) (c : HkConv) : (State.setHkc s v c).nv = s.nv := id rfl
@[simp] theorem State.setHkc_attest (s : State) (v : Nat) (c : HkConv) : (State.setHkc s v c).attest = s.attest := id rfl
@[simp] theorem State.setHkc_power (s : State) (v : Nat) (c : HkConv) : (State.setHkc s v c).power = s.power := id rfl
@[simp] theorem State.setHkc_ctl (s : State) (v : Nat) (c : HkConv) : (State.setHkc s v c).ctl = s.ctl := id rfl
@[simp] theorem State.setHkc_dcl (s : State) (v : Nat) (c : HkConv) : (State.setHkc s v c).dcl = s.dcl := id rfl

/-! ### setHacc -/
@[simp] theorem State.setHacc_now (s : State) (j : Nat) (a : Acc) : (State.setHacc s j a).now = s.now := id rfl
@[simp] theorem State.setHacc_fresh (s : State) (j : Nat) (a : Acc) : (State.setHacc s j a).fresh = s.fresh := id rfl
@[simp] theorem State.setHacc_regs (s : State) (j : Nat) (a : Acc) : (State.setHacc s j a).regs = s.regs := id rfl
@[simp] theorem State.setHacc_live (s : State) (j : Nat) (a : Acc) : (State.setHacc s j a).live = s.live := id rfl
@[simp] theorem State.setHacc_force (s : State) (j : Nat) (a : Acc) : (State.setHacc s j a).force = s.force := id rfl
@[simp] theorem State.setHacc_flagCnt (s : State) (j : Nat) (a : Acc) : (State.setHacc s j a).flagCnt = s.flagCnt := id rfl
@[simp] theorem State.setHacc_shadows (s : State) (j : Nat) (a : Acc) : (State.setHacc s j a).shadows = s.shadows := id rfl
@[simp] theorem State.setHacc_recs (s : State) (j : Nat) (a : Acc) : (State.setHacc s j a).recs = s.recs := id rfl
@[simp] theorem State.setHacc_out (s : State) (j : Nat) (a : Acc) : (State.setHacc s j a).out = s.out := id rfl
@[simp] theorem State.setHacc_pending (s : State) (j : Nat) (a : Acc) : (State.setHacc s j a).pending = s.pending := id rfl
@[simp] theorem State.setHacc_scan (s : State) (j : Nat) (a : Acc) : (State.setHacc s j a).scan = s.scan := id rfl
@[simp] theorem State.setHacc_stamp (s : State) (j : Nat) (a : Acc) : (State.setHacc s j a).stamp = s.stamp := id rfl
@[simp] theorem State.setHacc_hist (s : State) (j : Nat) (a : Acc) : (State.setHacc s j a).hist = s.hist := id rfl
@[simp] theorem State.setHacc_clusters (s : State) (j : Nat) (a : Acc) : (State.setHacc s j a).clusters = s.clusters := id rfl
@[simp] theorem State.setHacc_bq (s : State) (j : Nat) (a : Acc) : (State.setHacc s j a).bq = s.bq := id rfl
@[simp] theorem State.setHacc_masks (s : State) (j : Nat) (a : Acc) : (State.setHacc s j a).masks = s.masks := id rfl
@[simp] theorem State.setHacc_evoth (s : State) (j : Nat) (a : Acc) : (State.setHacc s j a).evoth = s.evoth := id rfl
@[simp] theorem State.setHacc_streams (s : State) (j : Nat) (a : Acc) : (State.setHacc s j a).streams = s.streams := id rfl
@[simp] theorem State.setHacc_recorder (s : State) (j : Nat) (a : Acc) : (State.setHacc s j a).recorder = s.recorder := id rfl
@[simp] theorem State.setHacc_emit_ (s : State) (j : Nat) (a : Acc) : (State.setHacc s j a).emit_ = s.emit_ := id rfl
@[simp] theorem State.setHacc_mirror (s : State) (j : Nat) (a : Acc) : (State.setHacc s j a).mirror = s.mirror := id rfl
@[simp] theorem State.setHacc_fe (s : State) (j : Nat) (a : Acc) : (State.setHacc s j a).fe = s.fe := id rfl
@[simp] theorem State.setHacc_hk (s : State) (j : Nat) (a : Acc) : (State.setHacc s j a).hk = { s.hk with accs := Map.set {} s.hk.accs j a } := id rfl
@[simp] theorem State.setHacc_farrier (s : State) (j : Nat) (a : Acc) : (State.setHacc s j a).farrier = s.farrier := id rfl
@[simp] theorem State.setHacc_sup (s : State) (j : Nat) (a : Acc) : (State.setHacc s j a).sup = s.sup := id rfl
@[simp] theorem State.setHacc_bridle (s : State) (j : Nat) (a : Acc) : (State.setHacc s j a).bridle = s.bridle := id rfl
@[simp] theorem State.setHacc_hitch (s : State) (j : Nat) (a : Acc) : (State.setHacc s j a).hitch = s.hitch := id rfl
@[simp] theorem State.setHacc_host (s : State) (j : Nat) (a : Acc) : (State.setHacc s j a).host = s.host := id rfl
@[simp] theorem State.setHacc_salsol (s : State) (j : Nat) (a : Acc) : (State.setHacc s j a).salsol = s.salsol := id rfl
@[simp] theorem State.setHacc_ident (s : State) (j : Nat) (a : Acc) : (State.setHacc s j a).ident = s.ident := id rfl
@[simp] theorem State.setHacc_nv (s : State) (j : Nat) (a : Acc) : (State.setHacc s j a).nv = s.nv := id rfl
@[simp] theorem State.setHacc_attest (s : State) (j : Nat) (a : Acc) : (State.setHacc s j a).attest = s.attest := id rfl
@[simp] theorem State.setHacc_power (s : State) (j : Nat) (a : Acc) : (State.setHacc s j a).power = s.power := id rfl
@[simp] theorem State.setHacc_ctl (s : State) (j : Nat) (a : Acc) : (State.setHacc s j a).ctl = s.ctl := id rfl
@[simp] theorem State.setHacc_dcl (s : State) (j : Nat) (a : Acc) : (State.setHacc s j a).dcl = s.dcl := id rfl

/-! ### withFe -/
@[simp] theorem State.withFe_now (s : State) (f : FrontEnd → FrontEnd) : (State.withFe s f).now = s.now := id rfl
@[simp] theorem State.withFe_fresh (s : State) (f : FrontEnd → FrontEnd) : (State.withFe s f).fresh = s.fresh := id rfl
@[simp] theorem State.withFe_regs (s : State) (f : FrontEnd → FrontEnd) : (State.withFe s f).regs = s.regs := id rfl
@[simp] theorem State.withFe_live (s : State) (f : FrontEnd → FrontEnd) : (State.withFe s f).live = s.live := id rfl
@[simp] theorem State.withFe_force (s : State) (f : FrontEnd → FrontEnd) : (State.withFe s f).force = s.force := id rfl
@[simp] theorem State.withFe_flagCnt (s : State) (f : FrontEnd → FrontEnd) : (State.withFe s f).flagCnt = s.flagCnt := id rfl
@[simp] theorem State.withFe_shadows (s : State) (f : FrontEnd → FrontEnd) : (State.withFe s f).shadows = s.shadows := id rfl
@[simp] theorem State.withFe_recs (s : State) (f : FrontEnd → FrontEnd) : (State.withFe s f).recs = s.recs := id rfl
@[simp] theorem State.withFe_out (s : State) (f : FrontEnd → FrontEnd) : (State.withFe s f).out = s.out := id rfl
@[simp] theorem State.withFe_pending (s : State) (f : FrontEnd → FrontEnd) : (State.withFe s f).pending = s.pending := id rfl
@[simp] theorem State.withFe_scan (s : State) (f : FrontEnd → FrontEnd) : (State.withFe s f).scan = s.scan := id rfl
@[simp] theorem State.withFe_stamp (s : State) (f : FrontEnd → FrontEnd) : (State.withFe s f).stamp = s.stamp := id rfl
@[simp] theorem State.withFe_hist (s : State) (f : FrontEnd → FrontEnd) : (State.withFe s f).hist = s.hist := id rfl
@[simp] theorem State.withFe_clusters (s : State) (f : FrontEnd → FrontEnd) : (State.withFe s f).clusters = s.clusters := id rfl
@[simp] theorem State.withFe_bq (s : State) (f : FrontEnd → FrontEnd) : (State.withFe s f).bq = s.bq := id rfl
@[simp] theorem State.withFe_masks (s : State) (f : FrontEnd → FrontEnd) : (State.withFe s f).masks = s.masks := id rfl
@[simp] theorem State.withFe_evoth (s : State) (f : FrontEnd → FrontEnd) : (State.withFe s f).evoth = s.evoth := id rfl
@[simp] theorem State.withFe_streams (s : State) (f : FrontEnd → FrontEnd) : (State.withFe s f).streams = s.streams := id rfl
@[simp] theorem State.withFe_recorder (s : State) (f : FrontEnd → FrontEnd) : (State.withFe s f).recorder = s.recorder := id rfl
@[simp] theorem State.withFe_emit_ (s : State) (f : FrontEnd → FrontEnd) : (State.withFe s f).emit_ = s.emit_ := id rfl
@[simp] theorem State.withFe_mirror (s : State) (f : FrontEnd → FrontEnd) : (State.withFe s f).mirror = s.mirror := id rfl
@[simp] theorem State.withFe_fe (s : State) (f : FrontEnd → FrontEnd) : (State.withFe s f).fe = f s.fe := id rfl
@[simp] theorem State.withFe_hk (s : State) (f : FrontEnd → FrontEnd) : (State.withFe s f).hk = s.hk := id rfl
@[simp] theorem State.withFe_farrier (s : State) (f : FrontEnd → FrontEnd) : (State.withFe s f).farrier = s.farrier := id rfl
@[simp] theorem State.withFe_sup (s : State) (f : FrontEnd → FrontEnd) : (State.withFe s f).sup = s.sup := id rfl
@[simp] theorem State.withFe_bridle (s : State) (f : FrontEnd → FrontEnd) : (State.withFe s f).bridle = s.bridle := id rfl
@[simp] theorem State.withFe_hitch (s : State) (f : FrontEnd → FrontEnd) : (State.withFe s f).hitch = s.hitch := id rfl
@[simp] theorem State.withFe_host (s : State) (f : FrontEnd → FrontEnd) : (State.withFe s f).host = s.host := id rfl
@[simp] theorem State.withFe_salsol (s : State) (f : FrontEnd → FrontEnd) : (State.withFe s f).salsol = s.salsol := id rfl
@[simp] theorem State.withFe_ident (s : State) (f : FrontEnd → FrontEnd) : (State.withFe s f).ident = s.ident := id rfl
@[simp] theorem State.withFe_nv (s : State) (f : FrontEnd → FrontEnd) : (State.withFe s f).nv = s.nv := id rfl
@[simp] theorem State.withFe_attest (s : State) (f : FrontEnd → FrontEnd) : (State.withFe s f).attest = s.attest := id rfl
@[simp] theorem State.withFe_power (s : State) (f : FrontEnd → FrontEnd) : (State.withFe s f).power = s.power := id rfl
@[simp] theorem State.withFe_ctl (s : State) (f : FrontEnd → FrontEnd) : (State.withFe s f).ctl = s.ctl := id rfl
@[simp] theorem State.withFe_dcl (s : State) (f : FrontEnd → FrontEnd) : (State.withFe s f).dcl = s.dcl := id rfl

/-! ### withBridle -/
@[simp] theorem State.withBridle_now (s : State) (f : Bridle → Bridle) : (State.withBridle s f).now = s.now := id rfl
@[simp] theorem State.withBridle_fresh (s : State) (f : Bridle → Bridle) : (State.withBridle s f).fresh = s.fresh := id rfl
@[simp] theorem State.withBridle_regs (s : State) (f : Bridle → Bridle) : (State.withBridle s f).regs = s.regs := id rfl
@[simp] theorem State.withBridle_live (s : State) (f : Bridle → Bridle) : (State.withBridle s f).live = s.live := id rfl
@[simp] theorem State.withBridle_force (s : State) (f : Bridle → Bridle) : (State.withBridle s f).force = s.force := id rfl
@[simp] theorem State.withBridle_flagCnt (s : State) (f : Bridle → Bridle) : (State.withBridle s f).flagCnt = s.flagCnt := id rfl
@[simp] theorem State.withBridle_shadows (s : State) (f : Bridle → Bridle) : (State.withBridle s f).shadows = s.shadows := id rfl
@[simp] theorem State.withBridle_recs (s : State) (f : Bridle → Bridle) : (State.withBridle s f).recs = s.recs := id rfl
@[simp] theorem State.withBridle_out (s : State) (f : Bridle → Bridle) : (State.withBridle s f).out = s.out := id rfl
@[simp] theorem State.withBridle_pending (s : State) (f : Bridle → Bridle) : (State.withBridle s f).pending = s.pending := id rfl
@[simp] theorem State.withBridle_scan (s : State) (f : Bridle → Bridle) : (State.withBridle s f).scan = s.scan := id rfl
@[simp] theorem State.withBridle_stamp (s : State) (f : Bridle → Bridle) : (State.withBridle s f).stamp = s.stamp := id rfl
@[simp] theorem State.withBridle_hist (s : State) (f : Bridle → Bridle) : (State.withBridle s f).hist = s.hist := id rfl
@[simp] theorem State.withBridle_clusters (s : State) (f : Bridle → Bridle) : (State.withBridle s f).clusters = s.clusters := id rfl
@[simp] theorem State.withBridle_bq (s : State) (f : Bridle → Bridle) : (State.withBridle s f).bq = s.bq := id rfl
@[simp] theorem State.withBridle_masks (s : State) (f : Bridle → Bridle) : (State.withBridle s f).masks = s.masks := id rfl
@[simp] theorem State.withBridle_evoth (s : State) (f : Bridle → Bridle) : (State.withBridle s f).evoth = s.evoth := id rfl
@[simp] theorem State.withBridle_streams (s : State) (f : Bridle → Bridle) : (State.withBridle s f).streams = s.streams := id rfl
@[simp] theorem State.withBridle_recorder (s : State) (f : Bridle → Bridle) : (State.withBridle s f).recorder = s.recorder := id rfl
@[simp] theorem State.withBridle_emit_ (s : State) (f : Bridle → Bridle) : (State.withBridle s f).emit_ = s.emit_ := id rfl
@[simp] theorem State.withBridle_mirror (s : State) (f : Bridle → Bridle) : (State.withBridle s f).mirror = s.mirror := id rfl
@[simp] theorem State.withBridle_fe (s : State) (f : Bridle → Bridle) : (State.withBridle s f).fe = s.fe := id rfl
@[simp] theorem State.withBridle_hk (s : State) (f : Bridle → Bridle) : (State.withBridle s f).hk = s.hk := id rfl
@[simp] theorem State.withBridle_farrier (s : State) (f : Bridle → Bridle) : (State.withBridle s f).farrier = s.farrier := id rfl
@[simp] theorem State.withBridle_sup (s : State) (f : Bridle → Bridle) : (State.withBridle s f).sup = s.sup := id rfl
@[simp] theorem State.withBridle_bridle (s : State) (f : Bridle → Bridle) : (State.withBridle s f).bridle = f s.bridle := id rfl
@[simp] theorem State.withBridle_hitch (s : State) (f : Bridle → Bridle) : (State.withBridle s f).hitch = s.hitch := id rfl
@[simp] theorem State.withBridle_host (s : State) (f : Bridle → Bridle) : (State.withBridle s f).host = s.host := id rfl
@[simp] theorem State.withBridle_salsol (s : State) (f : Bridle → Bridle) : (State.withBridle s f).salsol = s.salsol := id rfl
@[simp] theorem State.withBridle_ident (s : State) (f : Bridle → Bridle) : (State.withBridle s f).ident = s.ident := id rfl
@[simp] theorem State.withBridle_nv (s : State) (f : Bridle → Bridle) : (State.withBridle s f).nv = s.nv := id rfl
@[simp] theorem State.withBridle_attest (s : State) (f : Bridle → Bridle) : (State.withBridle s f).attest = s.attest := id rfl
@[simp] theorem State.withBridle_power (s : State) (f : Bridle → Bridle) : (State.withBridle s f).power = s.power := id rfl
@[simp] theorem State.withBridle_ctl (s : State) (f : Bridle → Bridle) : (State.withBridle s f).ctl = s.ctl := id rfl
@[simp] theorem State.withBridle_dcl (s : State) (f : Bridle → Bridle) : (State.withBridle s f).dcl = s.dcl := id rfl

/-! ### withPower -/
@[simp] theorem State.withPower_now (s : State) (f : Power → Power) : (State.withPower s f).now = s.now := id rfl
@[simp] theorem State.withPower_fresh (s : State) (f : Power → Power) : (State.withPower s f).fresh = s.fresh := id rfl
@[simp] theorem State.withPower_regs (s : State) (f : Power → Power) : (State.withPower s f).regs = s.regs := id rfl
@[simp] theorem State.withPower_live (s : State) (f : Power → Power) : (State.withPower s f).live = s.live := id rfl
@[simp] theorem State.withPower_force (s : State) (f : Power → Power) : (State.withPower s f).force = s.force := id rfl
@[simp] theorem State.withPower_flagCnt (s : State) (f : Power → Power) : (State.withPower s f).flagCnt = s.flagCnt := id rfl
@[simp] theorem State.withPower_shadows (s : State) (f : Power → Power) : (State.withPower s f).shadows = s.shadows := id rfl
@[simp] theorem State.withPower_recs (s : State) (f : Power → Power) : (State.withPower s f).recs = s.recs := id rfl
@[simp] theorem State.withPower_out (s : State) (f : Power → Power) : (State.withPower s f).out = s.out := id rfl
@[simp] theorem State.withPower_pending (s : State) (f : Power → Power) : (State.withPower s f).pending = s.pending := id rfl
@[simp] theorem State.withPower_scan (s : State) (f : Power → Power) : (State.withPower s f).scan = s.scan := id rfl
@[simp] theorem State.withPower_stamp (s : State) (f : Power → Power) : (State.withPower s f).stamp = s.stamp := id rfl
@[simp] theorem State.withPower_hist (s : State) (f : Power → Power) : (State.withPower s f).hist = s.hist := id rfl
@[simp] theorem State.withPower_clusters (s : State) (f : Power → Power) : (State.withPower s f).clusters = s.clusters := id rfl
@[simp] theorem State.withPower_bq (s : State) (f : Power → Power) : (State.withPower s f).bq = s.bq := id rfl
@[simp] theorem State.withPower_masks (s : State) (f : Power → Power) : (State.withPower s f).masks = s.masks := id rfl
@[simp] theorem State.withPower_evoth (s : State) (f : Power → Power) : (State.withPower s f).evoth = s.evoth := id rfl
@[simp] theorem State.withPower_streams (s : State) (f : Power → Power) : (State.withPower s f).streams = s.streams := id rfl
@[simp] theorem State.withPower_recorder (s : State) (f : Power → Power) : (State.withPower s f).recorder = s.recorder := id rfl
@[simp] theorem State.withPower_emit_ (s : State) (f : Power → Power) : (State.withPower s f).emit_ = s.emit_ := id rfl
@[simp] theorem State.withPower_mirror (s : State) (f : Power → Power) : (State.withPower s f).mirror = s.mirror := id rfl
@[simp] theorem State.withPower_fe (s : State) (f : Power → Power) : (State.withPower s f).fe = s.fe := id rfl
@[simp] theorem State.withPower_hk (s : State) (f : Power → Power) : (State.withPower s f).hk = s.hk := id rfl
@[simp] theorem State.withPower_farrier (s : State) (f : Power → Power) : (State.withPower s f).farrier = s.farrier := id rfl
@[simp] theorem State.withPower_sup (s : State) (f : Power → Power) : (State.withPower s f).sup = s.sup := id rfl
@[simp] theorem State.withPower_bridle (s : State) (f : Power → Power) : (State.withPower s f).bridle = s.bridle := id rfl
@[simp] theorem State.withPower_hitch (s : State) (f : Power → Power) : (State.withPower s f).hitch = s.hitch := id rfl
@[simp] theorem State.withPower_host (s : State) (f : Power → Power) : (State.withPower s f).host = s.host := id rfl
@[simp] theorem State.withPower_salsol (s : State) (f : Power → Power) : (State.withPower s f).salsol = s.salsol := id rfl
@[simp] theorem State.withPower_ident (s : State) (f : Power → Power) : (State.withPower s f).ident = s.ident := id rfl
@[simp] theorem State.withPower_nv (s : State) (f : Power → Power) : (State.withPower s f).nv = s.nv := id rfl
@[simp] theorem State.withPower_attest (s : State) (f : Power → Power) : (State.withPower s f).attest = s.attest := id rfl
@[simp] theorem State.withPower_power (s : State) (f : Power → Power) : (State.withPower s f).power = f s.power := id rfl
@[simp] theorem State.withPower_ctl (s : State) (f : Power → Power) : (State.withPower s f).ctl = s.ctl := id rfl
@[simp] theorem State.withPower_dcl (s : State) (f : Power → Power) : (State.withPower s f).dcl = s.dcl := id rfl

/-! ### withCtl -/
@[simp] theorem State.withCtl_now (s : State) (f : Control → Control) : (State.withCtl s f).now = s.now := id rfl
@[simp] theorem State.withCtl_fresh (s : State) (f : Control → Control) : (State.withCtl s f).fresh = s.fresh := id rfl
@[simp] theorem State.withCtl_regs (s : State) (f : Control → Control) : (State.withCtl s f).regs = s.regs := id rfl
@[simp] theorem State.withCtl_live (s : State) (f : Control → Control) : (State.withCtl s f).live = s.live := id rfl
@[simp] theorem State.withCtl_force (s : State) (f : Control → Control) : (State.withCtl s f).force = s.force := id rfl
@[simp] theorem State.withCtl_flagCnt (s : State) (f : Control → Control) : (State.withCtl s f).flagCnt = s.flagCnt := id rfl
@[simp] theorem State.withCtl_shadows (s : State) (f : Control → Control) : (State.withCtl s f).shadows = s.shadows := id rfl
@[simp] theorem State.withCtl_recs (s : State) (f : Control → Control) : (State.withCtl s f).recs = s.recs := id rfl
@[simp] theorem State.withCtl_out (s : State) (f : Control → Control) : (State.withCtl s f).out = s.out := id rfl
@[simp] theorem State.withCtl_pending (s : State) (f : Control → Control) : (State.withCtl s f).pending = s.pending := id rfl
@[simp] theorem State.withCtl_scan (s : State) (f : Control → Control) : (State.withCtl s f).scan = s.scan := id rfl
@[simp] theorem State.withCtl_stamp (s : State) (f : Control → Control) : (State.withCtl s f).stamp = s.stamp := id rfl
@[simp] theorem State.withCtl_hist (s : State) (f : Control → Control) : (State.withCtl s f).hist = s.hist := id rfl
@[simp] theorem State.withCtl_clusters (s : State) (f : Control → Control) : (State.withCtl s f).clusters = s.clusters := id rfl
@[simp] theorem State.withCtl_bq (s : State) (f : Control → Control) : (State.withCtl s f).bq = s.bq := id rfl
@[simp] theorem State.withCtl_masks (s : State) (f : Control → Control) : (State.withCtl s f).masks = s.masks := id rfl
@[simp] theorem State.withCtl_evoth (s : State) (f : Control → Control) : (State.withCtl s f).evoth = s.evoth := id rfl
@[simp] theorem State.withCtl_streams (s : State) (f : Control → Control) : (State.withCtl s f).streams = s.streams := id rfl
@[simp] theorem State.withCtl_recorder (s : State) (f : Control → Control) : (State.withCtl s f).recorder = s.recorder := id rfl
@[simp] theorem State.withCtl_emit_ (s : State) (f : Control → Control) : (State.withCtl s f).emit_ = s.emit_ := id rfl
@[simp] theorem State.withCtl_mirror (s : State) (f : Control → Control) : (State.withCtl s f).mirror = s.mirror := id rfl
@[simp] theorem State.withCtl_fe (s : State) (f : Control → Control) : (State.withCtl s f).fe = s.fe := id rfl
@[simp] theorem State.withCtl_hk (s : State) (f : Control → Control) : (State.withCtl s f).hk = s.hk := id rfl
@[simp] theorem State.withCtl_farrier (s : State) (f : Control → Control) : (State.withCtl s f).farrier = s.farrier := id rfl
@[simp] theorem State.withCtl_sup (s : State) (f : Control → Control) : (State.withCtl s f).sup = s.sup := id rfl
@[simp] theorem State.withCtl_bridle (s : State) (f : Control → Control) : (State.withCtl s f).bridle = s.bridle := id rfl
@[simp] theorem State.withCtl_hitch (s : State) (f : Control → Control) : (State.withCtl s f).hitch = s.hitch := id rfl
@[simp] theorem State.withCtl_host (s : State) (f : Control → Control) : (State.withCtl s f).host = s.host := id rfl
@[simp] theorem State.withCtl_salsol (s : State) (f : Control → Control) : (State.withCtl s f).salsol = s.salsol := id rfl
@[simp] theorem State.withCtl_ident (s : State) (f : Control → Control) : (State.withCtl s f).ident = s.ident := id rfl
@[simp] theorem State.withCtl_nv (s : State) (f : Control → Control) : (State.withCtl s f).nv = s.nv := id rfl
@[simp] theorem State.withCtl_attest (s : State) (f : Control → Control) : (State.withCtl s f).attest = s.attest := id rfl
@[simp] theorem State.withCtl_power (s : State) (f : Control → Control) : (State.withCtl s f).power = s.power := id rfl
@[simp] theorem State.withCtl_ctl (s : State) (f : Control → Control) : (State.withCtl s f).ctl = f s.ctl := id rfl
@[simp] theorem State.withCtl_dcl (s : State) (f : Control → Control) : (State.withCtl s f).dcl = s.dcl := id rfl

/-! ### setFld -/
@[simp] theorem State.setFld_now (s : State) (f : FieldRef) (v : Nat) : (State.setFld s f v).now = s.now := id rfl
@[simp] theorem State.setFld_fresh (s : State) (f : FieldRef) (v : Nat) : (State.setFld s f v).fresh = s.fresh := id rfl
@[simp] theorem State.setFld_regs (s : State) (f : FieldRef) (v : Nat) : (State.setFld s f v).regs = planeSet s.regs f.key (wordSet (s.reg f.key) f v) := id rfl
@[simp] theorem State.setFld_live (s : State) (f : FieldRef) (v : Nat) : (State.setFld s f v).live = s.live := id rfl
@[simp] theorem State.setFld_force (s : State) (f : FieldRef) (v : Nat) : (State.setFld s f v).force = s.force := id rfl
@[simp] theorem State.setFld_flagCnt (s : State) (f : FieldRef) (v : Nat) : (State.setFld s f v).flagCnt = s.flagCnt := id rfl
@[simp] theorem State.setFld_shadows (s : State) (f : FieldRef) (v : Nat) : (State.setFld s f v).shadows = s.shadows := id rfl
@[simp] theorem State.setFld_recs (s : State) (f : FieldRef) (v : Nat) : (State.setFld s f v).recs = s.recs := id rfl
@[simp] theorem State.setFld_out (s : State) (f : FieldRef) (v : Nat) : (State.setFld s f v).out = s.out := id rfl
@[simp] theorem State.setFld_pending (s : State) (f : FieldRef) (v : Nat) : (State.setFld s f v).pending = s.pending := id rfl
@[simp] theorem State.setFld_scan (s : State) (f : FieldRef) (v : Nat) : (State.setFld s f v).scan = s.scan := id rfl
@[simp] theorem State.setFld_stamp (s : State) (f : FieldRef) (v : Nat) : (State.setFld s f v).stamp = s.stamp := id rfl
@[simp] theorem State.setFld_hist (s : State) (f : FieldRef) (v : Nat) : (State.setFld s f v).hist = s.hist := id rfl
@[simp] theorem State.setFld_clusters (s : State) (f : FieldRef) (v : Nat) : (State.setFld s f v).clusters = s.clusters := id rfl
@[simp] theorem State.setFld_bq (s : State) (f : FieldRef) (v : Nat) : (State.setFld s f v).bq = s.bq := id rfl
@[simp] theorem State.setFld_masks (s : State) (f : FieldRef) (v : Nat) : (State.setFld s f v).masks = s.masks := id rfl
@[simp] theorem State.setFld_evoth (s : State) (f : FieldRef) (v : Nat) : (State.setFld s f v).evoth = s.evoth := id rfl
@[simp] theorem State.setFld_streams (s : State) (f : FieldRef) (v : Nat) : (State.setFld s f v).streams = s.streams := id rfl
@[simp] theorem State.setFld_recorder (s : State) (f : FieldRef) (v : Nat) : (State.setFld s f v).recorder = s.recorder := id rfl
@[simp] theorem State.setFld_emit_ (s : State) (f : FieldRef) (v : Nat) : (State.setFld s f v).emit_ = s.emit_ := id rfl
@[simp] theorem State.setFld_mirror (s : State) (f : FieldRef) (v : Nat) : (State.setFld s f v).mirror = s.mirror := id rfl
@[simp] theorem State.setFld_fe (s : State) (f : FieldRef) (v : Nat) : (State.setFld s f v).fe = s.fe := id rfl
@[simp] theorem State.setFld_hk (s : State) (f : FieldRef) (v : Nat) : (State.setFld s f v).hk = s.hk := id rfl
@[simp] theorem State.setFld_farrier (s : State) (f : FieldRef) (v : Nat) : (State.setFld s f v).farrier = s.farrier := id rfl
@[simp] theorem State.setFld_sup (s : State) (f : FieldRef) (v : Nat) : (State.setFld s f v).sup = s.sup := id rfl
@[simp] theorem State.setFld_bridle (s : State) (f : FieldRef) (v : Nat) : (State.setFld s f v).bridle = s.bridle := id rfl
@[simp] theorem State.setFld_hitch (s : State) (f : FieldRef) (v : Nat) : (State.setFld s f v).hitch = s.hitch := id rfl
@[simp] theorem State.setFld_host (s : State) (f : FieldRef) (v : Nat) : (State.setFld s f v).host = s.host := id rfl
@[simp] theorem State.setFld_salsol (s : State) (f : FieldRef) (v : Nat) : (State.setFld s f v).salsol = s.salsol := id rfl
@[simp] theorem State.setFld_ident (s : State) (f : FieldRef) (v : Nat) : (State.setFld s f v).ident = s.ident := id rfl
@[simp] theorem State.setFld_nv (s : State) (f : FieldRef) (v : Nat) : (State.setFld s f v).nv = s.nv := id rfl
@[simp] theorem State.setFld_attest (s : State) (f : FieldRef) (v : Nat) : (State.setFld s f v).attest = s.attest := id rfl
@[simp] theorem State.setFld_power (s : State) (f : FieldRef) (v : Nat) : (State.setFld s f v).power = s.power := id rfl
@[simp] theorem State.setFld_ctl (s : State) (f : FieldRef) (v : Nat) : (State.setFld s f v).ctl = s.ctl := id rfl
@[simp] theorem State.setFld_dcl (s : State) (f : FieldRef) (v : Nat) : (State.setFld s f v).dcl = s.dcl := id rfl

/-! ### setFldI -/
@[simp] theorem State.setFldI_now (s : State) (f : FieldRef) (v : Int) : (State.setFldI s f v).now = s.now := id rfl
@[simp] theorem State.setFldI_fresh (s : State) (f : FieldRef) (v : Int) : (State.setFldI s f v).fresh = s.fresh := id rfl
@[simp] theorem State.setFldI_regs (s : State) (f : FieldRef) (v : Int) : (State.setFldI s f v).regs = planeSet s.regs f.key (wordSet (s.reg f.key) f (trunc f.width v)) := id rfl
@[simp] theorem State.setFldI_live (s : State) (f : FieldRef) (v : Int) : (State.setFldI s f v).live = s.live := id rfl
@[simp] theorem State.setFldI_force (s : State) (f : FieldRef) (v : Int) : (State.setFldI s f v).force = s.force := id rfl
@[simp] theorem State.setFldI_flagCnt (s : State) (f : FieldRef) (v : Int) : (State.setFldI s f v).flagCnt = s.flagCnt := id rfl
@[simp] theorem State.setFldI_shadows (s : State) (f : FieldRef) (v : Int) : (State.setFldI s f v).shadows = s.shadows := id rfl
@[simp] theorem State.setFldI_recs (s : State) (f : FieldRef) (v : Int) : (State.setFldI s f v).recs = s.recs := id rfl
@[simp] theorem State.setFldI_out (s : State) (f : FieldRef) (v : Int) : (State.setFldI s f v).out = s.out := id rfl
@[simp] theorem State.setFldI_pending (s : State) (f : FieldRef) (v : Int) : (State.setFldI s f v).pending = s.pending := id rfl
@[simp] theorem State.setFldI_scan (s : State) (f : FieldRef) (v : Int) : (State.setFldI s f v).scan = s.scan := id rfl
@[simp] theorem State.setFldI_stamp (s : State) (f : FieldRef) (v : Int) : (State.setFldI s f v).stamp = s.stamp := id rfl
@[simp] theorem State.setFldI_hist (s : State) (f : FieldRef) (v : Int) : (State.setFldI s f v).hist = s.hist := id rfl
@[simp] theorem State.setFldI_clusters (s : State) (f : FieldRef) (v : Int) : (State.setFldI s f v).clusters = s.clusters := id rfl
@[simp] theorem State.setFldI_bq (s : State) (f : FieldRef) (v : Int) : (State.setFldI s f v).bq = s.bq := id rfl
@[simp] theorem State.setFldI_masks (s : State) (f : FieldRef) (v : Int) : (State.setFldI s f v).masks = s.masks := id rfl
@[simp] theorem State.setFldI_evoth (s : State) (f : FieldRef) (v : Int) : (State.setFldI s f v).evoth = s.evoth := id rfl
@[simp] theorem State.setFldI_streams (s : State) (f : FieldRef) (v : Int) : (State.setFldI s f v).streams = s.streams := id rfl
@[simp] theorem State.setFldI_recorder (s : State) (f : FieldRef) (v : Int) : (State.setFldI s f v).recorder = s.recorder := id rfl
@[simp] theorem State.setFldI_emit_ (s : State) (f : FieldRef) (v : Int) : (State.setFldI s f v).emit_ = s.emit_ := id rfl
@[simp] theorem State.setFldI_mirror (s : State) (f : FieldRef) (v : Int) : (State.setFldI s f v).mirror = s.mirror := id rfl
@[simp] theorem State.setFldI_fe (s : State) (f : FieldRef) (v : Int) : (State.setFldI s f v).fe = s.fe := id rfl
@[simp] theorem State.setFldI_hk (s : State) (f : FieldRef) (v : Int) : (State.setFldI s f v).hk = s.hk := id rfl
@[simp] theorem State.setFldI_farrier (s : State) (f : FieldRef) (v : Int) : (State.setFldI s f v).farrier = s.farrier := id rfl
@[simp] theorem State.setFldI_sup (s : State) (f : FieldRef) (v : Int) : (State.setFldI s f v).sup = s.sup := id rfl
@[simp] theorem State.setFldI_bridle (s : State) (f : FieldRef) (v : Int) : (State.setFldI s f v).bridle = s.bridle := id rfl
@[simp] theorem State.setFldI_hitch (s : State) (f : FieldRef) (v : Int) : (State.setFldI s f v).hitch = s.hitch := id rfl
@[simp] theorem State.setFldI_host (s : State) (f : FieldRef) (v : Int) : (State.setFldI s f v).host = s.host := id rfl
@[simp] theorem State.setFldI_salsol (s : State) (f : FieldRef) (v : Int) : (State.setFldI s f v).salsol = s.salsol := id rfl
@[simp] theorem State.setFldI_ident (s : State) (f : FieldRef) (v : Int) : (State.setFldI s f v).ident = s.ident := id rfl
@[simp] theorem State.setFldI_nv (s : State) (f : FieldRef) (v : Int) : (State.setFldI s f v).nv = s.nv := id rfl
@[simp] theorem State.setFldI_attest (s : State) (f : FieldRef) (v : Int) : (State.setFldI s f v).attest = s.attest := id rfl
@[simp] theorem State.setFldI_power (s : State) (f : FieldRef) (v : Int) : (State.setFldI s f v).power = s.power := id rfl
@[simp] theorem State.setFldI_ctl (s : State) (f : FieldRef) (v : Int) : (State.setFldI s f v).ctl = s.ctl := id rfl
@[simp] theorem State.setFldI_dcl (s : State) (f : FieldRef) (v : Int) : (State.setFldI s f v).dcl = s.dcl := id rfl

/-! ### addWrap -/
@[simp] theorem State.addWrap_now (s : State) (f : FieldRef) (n : Nat) : (State.addWrap s f n).now = s.now := id rfl
@[simp] theorem State.addWrap_fresh (s : State) (f : FieldRef) (n : Nat) : (State.addWrap s f n).fresh = s.fresh := id rfl
@[simp] theorem State.addWrap_regs (s : State) (f : FieldRef) (n : Nat) : (State.addWrap s f n).regs = planeSet s.regs f.key (wordSet (s.reg f.key) f (wrapAdd f.width (s.fld f) n)) := id rfl
@[simp] theorem State.addWrap_live (s : State) (f : FieldRef) (n : Nat) : (State.addWrap s f n).live = s.live := id rfl
@[simp] theorem State.addWrap_force (s : State) (f : FieldRef) (n : Nat) : (State.addWrap s f n).force = s.force := id rfl
@[simp] theorem State.addWrap_flagCnt (s : State) (f : FieldRef) (n : Nat) : (State.addWrap s f n).flagCnt = s.flagCnt := id rfl
@[simp] theorem State.addWrap_shadows (s : State) (f : FieldRef) (n : Nat) : (State.addWrap s f n).shadows = s.shadows := id rfl
@[simp] theorem State.addWrap_recs (s : State) (f : FieldRef) (n : Nat) : (State.addWrap s f n).recs = s.recs := id rfl
@[simp] theorem State.addWrap_out (s : State) (f : FieldRef) (n : Nat) : (State.addWrap s f n).out = s.out := id rfl
@[simp] theorem State.addWrap_pending (s : State) (f : FieldRef) (n : Nat) : (State.addWrap s f n).pending = s.pending := id rfl
@[simp] theorem State.addWrap_scan (s : State) (f : FieldRef) (n : Nat) : (State.addWrap s f n).scan = s.scan := id rfl
@[simp] theorem State.addWrap_stamp (s : State) (f : FieldRef) (n : Nat) : (State.addWrap s f n).stamp = s.stamp := id rfl
@[simp] theorem State.addWrap_hist (s : State) (f : FieldRef) (n : Nat) : (State.addWrap s f n).hist = s.hist := id rfl
@[simp] theorem State.addWrap_clusters (s : State) (f : FieldRef) (n : Nat) : (State.addWrap s f n).clusters = s.clusters := id rfl
@[simp] theorem State.addWrap_bq (s : State) (f : FieldRef) (n : Nat) : (State.addWrap s f n).bq = s.bq := id rfl
@[simp] theorem State.addWrap_masks (s : State) (f : FieldRef) (n : Nat) : (State.addWrap s f n).masks = s.masks := id rfl
@[simp] theorem State.addWrap_evoth (s : State) (f : FieldRef) (n : Nat) : (State.addWrap s f n).evoth = s.evoth := id rfl
@[simp] theorem State.addWrap_streams (s : State) (f : FieldRef) (n : Nat) : (State.addWrap s f n).streams = s.streams := id rfl
@[simp] theorem State.addWrap_recorder (s : State) (f : FieldRef) (n : Nat) : (State.addWrap s f n).recorder = s.recorder := id rfl
@[simp] theorem State.addWrap_emit_ (s : State) (f : FieldRef) (n : Nat) : (State.addWrap s f n).emit_ = s.emit_ := id rfl
@[simp] theorem State.addWrap_mirror (s : State) (f : FieldRef) (n : Nat) : (State.addWrap s f n).mirror = s.mirror := id rfl
@[simp] theorem State.addWrap_fe (s : State) (f : FieldRef) (n : Nat) : (State.addWrap s f n).fe = s.fe := id rfl
@[simp] theorem State.addWrap_hk (s : State) (f : FieldRef) (n : Nat) : (State.addWrap s f n).hk = s.hk := id rfl
@[simp] theorem State.addWrap_farrier (s : State) (f : FieldRef) (n : Nat) : (State.addWrap s f n).farrier = s.farrier := id rfl
@[simp] theorem State.addWrap_sup (s : State) (f : FieldRef) (n : Nat) : (State.addWrap s f n).sup = s.sup := id rfl
@[simp] theorem State.addWrap_bridle (s : State) (f : FieldRef) (n : Nat) : (State.addWrap s f n).bridle = s.bridle := id rfl
@[simp] theorem State.addWrap_hitch (s : State) (f : FieldRef) (n : Nat) : (State.addWrap s f n).hitch = s.hitch := id rfl
@[simp] theorem State.addWrap_host (s : State) (f : FieldRef) (n : Nat) : (State.addWrap s f n).host = s.host := id rfl
@[simp] theorem State.addWrap_salsol (s : State) (f : FieldRef) (n : Nat) : (State.addWrap s f n).salsol = s.salsol := id rfl
@[simp] theorem State.addWrap_ident (s : State) (f : FieldRef) (n : Nat) : (State.addWrap s f n).ident = s.ident := id rfl
@[simp] theorem State.addWrap_nv (s : State) (f : FieldRef) (n : Nat) : (State.addWrap s f n).nv = s.nv := id rfl
@[simp] theorem State.addWrap_attest (s : State) (f : FieldRef) (n : Nat) : (State.addWrap s f n).attest = s.attest := id rfl
@[simp] theorem State.addWrap_power (s : State) (f : FieldRef) (n : Nat) : (State.addWrap s f n).power = s.power := id rfl
@[simp] theorem State.addWrap_ctl (s : State) (f : FieldRef) (n : Nat) : (State.addWrap s f n).ctl = s.ctl := id rfl
@[simp] theorem State.addWrap_dcl (s : State) (f : FieldRef) (n : Nat) : (State.addWrap s f n).dcl = s.dcl := id rfl

/-! ### addSat -/
@[simp] theorem State.addSat_now (s : State) (f : FieldRef) (n : Nat) : (State.addSat s f n).now = s.now := id rfl
@[simp] theorem State.addSat_fresh (s : State) (f : FieldRef) (n : Nat) : (State.addSat s f n).fresh = s.fresh := id rfl
@[simp] theorem State.addSat_regs (s : State) (f : FieldRef) (n : Nat) : (State.addSat s f n).regs = planeSet s.regs f.key (wordSet (s.reg f.key) f (satAdd f.width (s.fld f) n)) := id rfl
@[simp] theorem State.addSat_live (s : State) (f : FieldRef) (n : Nat) : (State.addSat s f n).live = s.live := id rfl
@[simp] theorem State.addSat_force (s : State) (f : FieldRef) (n : Nat) : (State.addSat s f n).force = s.force := id rfl
@[simp] theorem State.addSat_flagCnt (s : State) (f : FieldRef) (n : Nat) : (State.addSat s f n).flagCnt = s.flagCnt := id rfl
@[simp] theorem State.addSat_shadows (s : State) (f : FieldRef) (n : Nat) : (State.addSat s f n).shadows = s.shadows := id rfl
@[simp] theorem State.addSat_recs (s : State) (f : FieldRef) (n : Nat) : (State.addSat s f n).recs = s.recs := id rfl
@[simp] theorem State.addSat_out (s : State) (f : FieldRef) (n : Nat) : (State.addSat s f n).out = s.out := id rfl
@[simp] theorem State.addSat_pending (s : State) (f : FieldRef) (n : Nat) : (State.addSat s f n).pending = s.pending := id rfl
@[simp] theorem State.addSat_scan (s : State) (f : FieldRef) (n : Nat) : (State.addSat s f n).scan = s.scan := id rfl
@[simp] theorem State.addSat_stamp (s : State) (f : FieldRef) (n : Nat) : (State.addSat s f n).stamp = s.stamp := id rfl
@[simp] theorem State.addSat_hist (s : State) (f : FieldRef) (n : Nat) : (State.addSat s f n).hist = s.hist := id rfl
@[simp] theorem State.addSat_clusters (s : State) (f : FieldRef) (n : Nat) : (State.addSat s f n).clusters = s.clusters := id rfl
@[simp] theorem State.addSat_bq (s : State) (f : FieldRef) (n : Nat) : (State.addSat s f n).bq = s.bq := id rfl
@[simp] theorem State.addSat_masks (s : State) (f : FieldRef) (n : Nat) : (State.addSat s f n).masks = s.masks := id rfl
@[simp] theorem State.addSat_evoth (s : State) (f : FieldRef) (n : Nat) : (State.addSat s f n).evoth = s.evoth := id rfl
@[simp] theorem State.addSat_streams (s : State) (f : FieldRef) (n : Nat) : (State.addSat s f n).streams = s.streams := id rfl
@[simp] theorem State.addSat_recorder (s : State) (f : FieldRef) (n : Nat) : (State.addSat s f n).recorder = s.recorder := id rfl
@[simp] theorem State.addSat_emit_ (s : State) (f : FieldRef) (n : Nat) : (State.addSat s f n).emit_ = s.emit_ := id rfl
@[simp] theorem State.addSat_mirror (s : State) (f : FieldRef) (n : Nat) : (State.addSat s f n).mirror = s.mirror := id rfl
@[simp] theorem State.addSat_fe (s : State) (f : FieldRef) (n : Nat) : (State.addSat s f n).fe = s.fe := id rfl
@[simp] theorem State.addSat_hk (s : State) (f : FieldRef) (n : Nat) : (State.addSat s f n).hk = s.hk := id rfl
@[simp] theorem State.addSat_farrier (s : State) (f : FieldRef) (n : Nat) : (State.addSat s f n).farrier = s.farrier := id rfl
@[simp] theorem State.addSat_sup (s : State) (f : FieldRef) (n : Nat) : (State.addSat s f n).sup = s.sup := id rfl
@[simp] theorem State.addSat_bridle (s : State) (f : FieldRef) (n : Nat) : (State.addSat s f n).bridle = s.bridle := id rfl
@[simp] theorem State.addSat_hitch (s : State) (f : FieldRef) (n : Nat) : (State.addSat s f n).hitch = s.hitch := id rfl
@[simp] theorem State.addSat_host (s : State) (f : FieldRef) (n : Nat) : (State.addSat s f n).host = s.host := id rfl
@[simp] theorem State.addSat_salsol (s : State) (f : FieldRef) (n : Nat) : (State.addSat s f n).salsol = s.salsol := id rfl
@[simp] theorem State.addSat_ident (s : State) (f : FieldRef) (n : Nat) : (State.addSat s f n).ident = s.ident := id rfl
@[simp] theorem State.addSat_nv (s : State) (f : FieldRef) (n : Nat) : (State.addSat s f n).nv = s.nv := id rfl
@[simp] theorem State.addSat_attest (s : State) (f : FieldRef) (n : Nat) : (State.addSat s f n).attest = s.attest := id rfl
@[simp] theorem State.addSat_power (s : State) (f : FieldRef) (n : Nat) : (State.addSat s f n).power = s.power := id rfl
@[simp] theorem State.addSat_ctl (s : State) (f : FieldRef) (n : Nat) : (State.addSat s f n).ctl = s.ctl := id rfl
@[simp] theorem State.addSat_dcl (s : State) (f : FieldRef) (n : Nat) : (State.addSat s f n).dcl = s.dcl := id rfl

/-! ### liveWrap -/
@[simp] theorem State.liveWrap_now (s : State) (f : FieldRef) (n : Nat) : (State.liveWrap s f n).now = s.now := id rfl
@[simp] theorem State.liveWrap_fresh (s : State) (f : FieldRef) (n : Nat) : (State.liveWrap s f n).fresh = s.fresh := id rfl
@[simp] theorem State.liveWrap_regs (s : State) (f : FieldRef) (n : Nat) : (State.liveWrap s f n).regs = s.regs := id rfl
@[simp] theorem State.liveWrap_live (s : State) (f : FieldRef) (n : Nat) : (State.liveWrap s f n).live = planeSet s.live f.key (wordSet (planeGet s.live f.key) f (wrapAdd f.width (s.liveFld f) n)) := id rfl
@[simp] theorem State.liveWrap_force (s : State) (f : FieldRef) (n : Nat) : (State.liveWrap s f n).force = s.force := id rfl
@[simp] theorem State.liveWrap_flagCnt (s : State) (f : FieldRef) (n : Nat) : (State.liveWrap s f n).flagCnt = s.flagCnt := id rfl
@[simp] theorem State.liveWrap_shadows (s : State) (f : FieldRef) (n : Nat) : (State.liveWrap s f n).shadows = s.shadows := id rfl
@[simp] theorem State.liveWrap_recs (s : State) (f : FieldRef) (n : Nat) : (State.liveWrap s f n).recs = s.recs := id rfl
@[simp] theorem State.liveWrap_out (s : State) (f : FieldRef) (n : Nat) : (State.liveWrap s f n).out = s.out := id rfl
@[simp] theorem State.liveWrap_pending (s : State) (f : FieldRef) (n : Nat) : (State.liveWrap s f n).pending = s.pending := id rfl
@[simp] theorem State.liveWrap_scan (s : State) (f : FieldRef) (n : Nat) : (State.liveWrap s f n).scan = s.scan := id rfl
@[simp] theorem State.liveWrap_stamp (s : State) (f : FieldRef) (n : Nat) : (State.liveWrap s f n).stamp = s.stamp := id rfl
@[simp] theorem State.liveWrap_hist (s : State) (f : FieldRef) (n : Nat) : (State.liveWrap s f n).hist = s.hist := id rfl
@[simp] theorem State.liveWrap_clusters (s : State) (f : FieldRef) (n : Nat) : (State.liveWrap s f n).clusters = s.clusters := id rfl
@[simp] theorem State.liveWrap_bq (s : State) (f : FieldRef) (n : Nat) : (State.liveWrap s f n).bq = s.bq := id rfl
@[simp] theorem State.liveWrap_masks (s : State) (f : FieldRef) (n : Nat) : (State.liveWrap s f n).masks = s.masks := id rfl
@[simp] theorem State.liveWrap_evoth (s : State) (f : FieldRef) (n : Nat) : (State.liveWrap s f n).evoth = s.evoth := id rfl
@[simp] theorem State.liveWrap_streams (s : State) (f : FieldRef) (n : Nat) : (State.liveWrap s f n).streams = s.streams := id rfl
@[simp] theorem State.liveWrap_recorder (s : State) (f : FieldRef) (n : Nat) : (State.liveWrap s f n).recorder = s.recorder := id rfl
@[simp] theorem State.liveWrap_emit_ (s : State) (f : FieldRef) (n : Nat) : (State.liveWrap s f n).emit_ = s.emit_ := id rfl
@[simp] theorem State.liveWrap_mirror (s : State) (f : FieldRef) (n : Nat) : (State.liveWrap s f n).mirror = s.mirror := id rfl
@[simp] theorem State.liveWrap_fe (s : State) (f : FieldRef) (n : Nat) : (State.liveWrap s f n).fe = s.fe := id rfl
@[simp] theorem State.liveWrap_hk (s : State) (f : FieldRef) (n : Nat) : (State.liveWrap s f n).hk = s.hk := id rfl
@[simp] theorem State.liveWrap_farrier (s : State) (f : FieldRef) (n : Nat) : (State.liveWrap s f n).farrier = s.farrier := id rfl
@[simp] theorem State.liveWrap_sup (s : State) (f : FieldRef) (n : Nat) : (State.liveWrap s f n).sup = s.sup := id rfl
@[simp] theorem State.liveWrap_bridle (s : State) (f : FieldRef) (n : Nat) : (State.liveWrap s f n).bridle = s.bridle := id rfl
@[simp] theorem State.liveWrap_hitch (s : State) (f : FieldRef) (n : Nat) : (State.liveWrap s f n).hitch = s.hitch := id rfl
@[simp] theorem State.liveWrap_host (s : State) (f : FieldRef) (n : Nat) : (State.liveWrap s f n).host = s.host := id rfl
@[simp] theorem State.liveWrap_salsol (s : State) (f : FieldRef) (n : Nat) : (State.liveWrap s f n).salsol = s.salsol := id rfl
@[simp] theorem State.liveWrap_ident (s : State) (f : FieldRef) (n : Nat) : (State.liveWrap s f n).ident = s.ident := id rfl
@[simp] theorem State.liveWrap_nv (s : State) (f : FieldRef) (n : Nat) : (State.liveWrap s f n).nv = s.nv := id rfl
@[simp] theorem State.liveWrap_attest (s : State) (f : FieldRef) (n : Nat) : (State.liveWrap s f n).attest = s.attest := id rfl
@[simp] theorem State.liveWrap_power (s : State) (f : FieldRef) (n : Nat) : (State.liveWrap s f n).power = s.power := id rfl
@[simp] theorem State.liveWrap_ctl (s : State) (f : FieldRef) (n : Nat) : (State.liveWrap s f n).ctl = s.ctl := id rfl
@[simp] theorem State.liveWrap_dcl (s : State) (f : FieldRef) (n : Nat) : (State.liveWrap s f n).dcl = s.dcl := id rfl

/-! ### liveSat -/
@[simp] theorem State.liveSat_now (s : State) (f : FieldRef) (n : Nat) : (State.liveSat s f n).now = s.now := id rfl
@[simp] theorem State.liveSat_fresh (s : State) (f : FieldRef) (n : Nat) : (State.liveSat s f n).fresh = s.fresh := id rfl
@[simp] theorem State.liveSat_regs (s : State) (f : FieldRef) (n : Nat) : (State.liveSat s f n).regs = s.regs := id rfl
@[simp] theorem State.liveSat_live (s : State) (f : FieldRef) (n : Nat) : (State.liveSat s f n).live = planeSet s.live f.key (wordSet (planeGet s.live f.key) f (satAdd f.width (s.liveFld f) n)) := id rfl
@[simp] theorem State.liveSat_force (s : State) (f : FieldRef) (n : Nat) : (State.liveSat s f n).force = s.force := id rfl
@[simp] theorem State.liveSat_flagCnt (s : State) (f : FieldRef) (n : Nat) : (State.liveSat s f n).flagCnt = s.flagCnt := id rfl
@[simp] theorem State.liveSat_shadows (s : State) (f : FieldRef) (n : Nat) : (State.liveSat s f n).shadows = s.shadows := id rfl
@[simp] theorem State.liveSat_recs (s : State) (f : FieldRef) (n : Nat) : (State.liveSat s f n).recs = s.recs := id rfl
@[simp] theorem State.liveSat_out (s : State) (f : FieldRef) (n : Nat) : (State.liveSat s f n).out = s.out := id rfl
@[simp] theorem State.liveSat_pending (s : State) (f : FieldRef) (n : Nat) : (State.liveSat s f n).pending = s.pending := id rfl
@[simp] theorem State.liveSat_scan (s : State) (f : FieldRef) (n : Nat) : (State.liveSat s f n).scan = s.scan := id rfl
@[simp] theorem State.liveSat_stamp (s : State) (f : FieldRef) (n : Nat) : (State.liveSat s f n).stamp = s.stamp := id rfl
@[simp] theorem State.liveSat_hist (s : State) (f : FieldRef) (n : Nat) : (State.liveSat s f n).hist = s.hist := id rfl
@[simp] theorem State.liveSat_clusters (s : State) (f : FieldRef) (n : Nat) : (State.liveSat s f n).clusters = s.clusters := id rfl
@[simp] theorem State.liveSat_bq (s : State) (f : FieldRef) (n : Nat) : (State.liveSat s f n).bq = s.bq := id rfl
@[simp] theorem State.liveSat_masks (s : State) (f : FieldRef) (n : Nat) : (State.liveSat s f n).masks = s.masks := id rfl
@[simp] theorem State.liveSat_evoth (s : State) (f : FieldRef) (n : Nat) : (State.liveSat s f n).evoth = s.evoth := id rfl
@[simp] theorem State.liveSat_streams (s : State) (f : FieldRef) (n : Nat) : (State.liveSat s f n).streams = s.streams := id rfl
@[simp] theorem State.liveSat_recorder (s : State) (f : FieldRef) (n : Nat) : (State.liveSat s f n).recorder = s.recorder := id rfl
@[simp] theorem State.liveSat_emit_ (s : State) (f : FieldRef) (n : Nat) : (State.liveSat s f n).emit_ = s.emit_ := id rfl
@[simp] theorem State.liveSat_mirror (s : State) (f : FieldRef) (n : Nat) : (State.liveSat s f n).mirror = s.mirror := id rfl
@[simp] theorem State.liveSat_fe (s : State) (f : FieldRef) (n : Nat) : (State.liveSat s f n).fe = s.fe := id rfl
@[simp] theorem State.liveSat_hk (s : State) (f : FieldRef) (n : Nat) : (State.liveSat s f n).hk = s.hk := id rfl
@[simp] theorem State.liveSat_farrier (s : State) (f : FieldRef) (n : Nat) : (State.liveSat s f n).farrier = s.farrier := id rfl
@[simp] theorem State.liveSat_sup (s : State) (f : FieldRef) (n : Nat) : (State.liveSat s f n).sup = s.sup := id rfl
@[simp] theorem State.liveSat_bridle (s : State) (f : FieldRef) (n : Nat) : (State.liveSat s f n).bridle = s.bridle := id rfl
@[simp] theorem State.liveSat_hitch (s : State) (f : FieldRef) (n : Nat) : (State.liveSat s f n).hitch = s.hitch := id rfl
@[simp] theorem State.liveSat_host (s : State) (f : FieldRef) (n : Nat) : (State.liveSat s f n).host = s.host := id rfl
@[simp] theorem State.liveSat_salsol (s : State) (f : FieldRef) (n : Nat) : (State.liveSat s f n).salsol = s.salsol := id rfl
@[simp] theorem State.liveSat_ident (s : State) (f : FieldRef) (n : Nat) : (State.liveSat s f n).ident = s.ident := id rfl
@[simp] theorem State.liveSat_nv (s : State) (f : FieldRef) (n : Nat) : (State.liveSat s f n).nv = s.nv := id rfl
@[simp] theorem State.liveSat_attest (s : State) (f : FieldRef) (n : Nat) : (State.liveSat s f n).attest = s.attest := id rfl
@[simp] theorem State.liveSat_power (s : State) (f : FieldRef) (n : Nat) : (State.liveSat s f n).power = s.power := id rfl
@[simp] theorem State.liveSat_ctl (s : State) (f : FieldRef) (n : Nat) : (State.liveSat s f n).ctl = s.ctl := id rfl
@[simp] theorem State.liveSat_dcl (s : State) (f : FieldRef) (n : Nat) : (State.liveSat s f n).dcl = s.dcl := id rfl

/-! ### snapshot -/
@[simp] theorem State.snapshot_now (s : State) (key : Nat) : (State.snapshot s key).now = s.now := id rfl
@[simp] theorem State.snapshot_fresh (s : State) (key : Nat) : (State.snapshot s key).fresh = s.fresh := id rfl
@[simp] theorem State.snapshot_regs (s : State) (key : Nat) : (State.snapshot s key).regs = planeSet s.regs key (planeGet s.live key) := id rfl
@[simp] theorem State.snapshot_live (s : State) (key : Nat) : (State.snapshot s key).live = s.live := id rfl
@[simp] theorem State.snapshot_force (s : State) (key : Nat) : (State.snapshot s key).force = s.force := id rfl
@[simp] theorem State.snapshot_flagCnt (s : State) (key : Nat) : (State.snapshot s key).flagCnt = s.flagCnt := id rfl
@[simp] theorem State.snapshot_shadows (s : State) (key : Nat) : (State.snapshot s key).shadows = s.shadows := id rfl
@[simp] theorem State.snapshot_recs (s : State) (key : Nat) : (State.snapshot s key).recs = s.recs := id rfl
@[simp] theorem State.snapshot_out (s : State) (key : Nat) : (State.snapshot s key).out = s.out := id rfl
@[simp] theorem State.snapshot_pending (s : State) (key : Nat) : (State.snapshot s key).pending = s.pending := id rfl
@[simp] theorem State.snapshot_scan (s : State) (key : Nat) : (State.snapshot s key).scan = s.scan := id rfl
@[simp] theorem State.snapshot_stamp (s : State) (key : Nat) : (State.snapshot s key).stamp = s.stamp := id rfl
@[simp] theorem State.snapshot_hist (s : State) (key : Nat) : (State.snapshot s key).hist = s.hist := id rfl
@[simp] theorem State.snapshot_clusters (s : State) (key : Nat) : (State.snapshot s key).clusters = s.clusters := id rfl
@[simp] theorem State.snapshot_bq (s : State) (key : Nat) : (State.snapshot s key).bq = s.bq := id rfl
@[simp] theorem State.snapshot_masks (s : State) (key : Nat) : (State.snapshot s key).masks = s.masks := id rfl
@[simp] theorem State.snapshot_evoth (s : State) (key : Nat) : (State.snapshot s key).evoth = s.evoth := id rfl
@[simp] theorem State.snapshot_streams (s : State) (key : Nat) : (State.snapshot s key).streams = s.streams := id rfl
@[simp] theorem State.snapshot_recorder (s : State) (key : Nat) : (State.snapshot s key).recorder = s.recorder := id rfl
@[simp] theorem State.snapshot_emit_ (s : State) (key : Nat) : (State.snapshot s key).emit_ = s.emit_ := id rfl
@[simp] theorem State.snapshot_mirror (s : State) (key : Nat) : (State.snapshot s key).mirror = s.mirror := id rfl
@[simp] theorem State.snapshot_fe (s : State) (key : Nat) : (State.snapshot s key).fe = s.fe := id rfl
@[simp] theorem State.snapshot_hk (s : State) (key : Nat) : (State.snapshot s key).hk = s.hk := id rfl
@[simp] theorem State.snapshot_farrier (s : State) (key : Nat) : (State.snapshot s key).farrier = s.farrier := id rfl
@[simp] theorem State.snapshot_sup (s : State) (key : Nat) : (State.snapshot s key).sup = s.sup := id rfl
@[simp] theorem State.snapshot_bridle (s : State) (key : Nat) : (State.snapshot s key).bridle = s.bridle := id rfl
@[simp] theorem State.snapshot_hitch (s : State) (key : Nat) : (State.snapshot s key).hitch = s.hitch := id rfl
@[simp] theorem State.snapshot_host (s : State) (key : Nat) : (State.snapshot s key).host = s.host := id rfl
@[simp] theorem State.snapshot_salsol (s : State) (key : Nat) : (State.snapshot s key).salsol = s.salsol := id rfl
@[simp] theorem State.snapshot_ident (s : State) (key : Nat) : (State.snapshot s key).ident = s.ident := id rfl
@[simp] theorem State.snapshot_nv (s : State) (key : Nat) : (State.snapshot s key).nv = s.nv := id rfl
@[simp] theorem State.snapshot_attest (s : State) (key : Nat) : (State.snapshot s key).attest = s.attest := id rfl
@[simp] theorem State.snapshot_power (s : State) (key : Nat) : (State.snapshot s key).power = s.power := id rfl
@[simp] theorem State.snapshot_ctl (s : State) (key : Nat) : (State.snapshot s key).ctl = s.ctl := id rfl
@[simp] theorem State.snapshot_dcl (s : State) (key : Nat) : (State.snapshot s key).dcl = s.dcl := id rfl

end Sys2Proof.Machine
end

