-- ==== Sys2Proof/WellFormed.lean ====
section
/-! DEFINITION. Which commands name things the device has: the ranges of channels, banks, cores, lanes and the rest
(00_scope.md, Table 0.1 and the chapters' own counts). Times, addresses, byte strings and written words take any value. -/
namespace Sys2Proof

/-- Banks (R206). -/
def bankOk (b : Nat) : Bool := decide (b < 16)
/-- Pulses of a column: at most the 24 of Walk (Table 0.3). -/
def pulseOk (j : Nat) : Bool := decide (j < 24)
/-- Return channels and rows (R1). -/
def rowOk (r : Nat) : Bool := decide (r < 384)
/-- Raw sub-nanosecond codes (R64). -/
def codeOk (r : Nat) : Bool := decide (r < 128)
/-- Clusters. -/
def clusterOk (k : Nat) : Bool := decide (k < 12)
/-- Regions. -/
def regionOk (r : Nat) : Bool := decide (r < 4)
/-- Evoth cores (R135). -/
def coreOk (q : Nat) : Bool := decide (q < 16)
/-- One of eight: a core's registers of a kind, Hitch lanes, DMA channels, safety inputs. -/
def eightOk (n : Nat) : Bool := decide (n < 8)
/-- Lane words of four symbols (R351). -/
def wordsOk (l : List LaneWord) : Bool := l.all (fun w => w.length == 4)
/-- The words of a link's lanes. -/
def streamsOk (x : LaneStreams) : Bool := wordsOk x.even && wordsOk x.odd
/-- One of four: accumulators, chargers, Hitch or test-pulse supplies, pairs, key slots. -/
def fourOk (n : Nat) : Bool := decide (n < 4)
/-- One of two: gates, converters, excitation sources, FOUT outputs, safety outputs, PCIe Functions. -/
def twoOk (n : Nat) : Bool := decide (n < 2)
/-- One of sixteen: Paddocks, Bridle sources, team slots. -/
def sixteenOk (n : Nat) : Bool := decide (n < 16)
/-- Words of a core's program memory, or halfwords in BK mode (R136, R146). -/
def pcOk (n : Nat) : Bool := decide (n < 16384)
/-- A 12-bit sample of the bridge current (R228). -/
def currentOk (i : Int) : Bool := decide (-2048 ≤ i) && decide (i ≤ 2047)
/-- The byte rings by number: 0 to 3 of the regions, 4 dump, 5 recorder, 7 events (Table 17.4). -/
def ringOk (n : Nat) : Bool := decide (n < 6) || n == 7
/-- Parameter keys: the 16-bit key space (R11). -/
def keyOk (k : Nat) : Bool := decide (k < 65536)
/-- Words a host can read: parameters, and from 0x10000, 0x20000 and 0x400000 the 64-bit words of Function 1's BAR0, of Function
0's BAR0 and of Function 1's BAR2, from 0x500000 and 0x600000 those of their configuration headers (Tables 15.6, 17.2 and 18.1,
R382; notes/assumptions 11). -/
def readKeyOk (k : Nat) : Bool :=
  keyOk k || decide (0x10000 ≤ k ∧ k < 0x12000) || decide (0x20000 ≤ k ∧ k < 0x220000) || decide (0x400000 ≤ k ∧ k < 0x400200) ||
    decide (0x500000 ≤ k ∧ k < 0x500008) || decide (0x600000 ≤ k ∧ k < 0x600008)

/-- Words a host can write by BAR0: parameters, and the MSI-X tables of Function 0 (Table 17.2) and Function 1 (R382;
notes/assumptions 11). -/
def writeKeyOk (k : Nat) : Bool := keyOk k || k / 128 == 0x21E000 / 128 || k / 16 == 0x400000 / 16
/-- Codes of a configuration write that PCIe gives a meaning, and addresses of 64 bits (Table 17.1). -/
def FnConfig.wf (c : FnConfig) : Bool :=
  decide (c.maxPayload < 6) && decide (c.maxRead < 6) && decide (c.timeout < 16) && decide (c.bar0 < 2 ^ 64) && decide (c.bar2 < 2 ^ 64)

/-- The count of a repeat (R142). -/
def RepeatCount.wf : RepeatCount → Bool
  | .imm n => decide (n < 2048)
  | .reg d => eightOk d
/-- A move's destination names a register (R141). -/
def MoveDest.wf : MoveDest → Bool
  | .reg d => eightOk d
  | .mem k _ => eightOk k
/-- An access names an address register and a data register (R140). -/
def MemAccess.wf (m : MemAccess) : Bool := eightOk m.ad && eightOk m.reg
/-- A register write names a register of its kind (Table 6.1). -/
def RegWrite.wf : RegWrite → Bool
  | .d k _ => eightOk k
  | .ad k _ => eightOk k
  | .st k _ => eightOk k
  | .cb k _ => fourOk k
  | .clearAv k => fourOk k
  | .clearSv => true
/-- What a fetched word is to the decoder names registers of their kinds. -/
def FetchVerdict.wf : FetchVerdict → Bool
  | .legal => true
  | .illegal => true
  | .uncorrectable => true
  | .other l => l.all RegWrite.wf
/-- The optional second product of a MAC names an accumulator and two data registers (R138). -/
def secondWf : Option (Nat × Nat × Nat) → Bool
  | none => true
  | some (a, x, y) => fourOk a && eightOk x && eightOk y
/-- An optional access. -/
def accessWf : Option MemAccess → Bool
  | none => true
  | some m => m.wf

/-- Is a command well formed? -/
def Instr.wf : Instr → Bool
  | .fireCommand b j => bankOk b && pulseOk j
  | .monitorEvent b _ c => bankOk b && codeOk c
  | .monWinExpiry b j => bankOk b && pulseOk j
  | .returnEvent c _ r _ => rowOk c && codeOk r
  | .armingDecision b j => bankOk b && pulseOk j
  | .histogramAccumulate c => rowOk c
  | .gateEdge g _ c _ => twoOk g && codeOk c
  | .pipeChannelRead c => rowOk c
  | .momentSolve k => clusterOk k
  | .columnEndMarker k => clusterOk k
  | .rowReady _ r => rowOk r
  | .columnJobStart _ q => coreOk q
  | .jobDispatch _ q => coreOk q
  | .postEntry _ r _ => rowOk r
  | .evothInstructionFetch q pc x => coreOk q && pcOk pc && x.wf
  | .evothRepeat q n _ => coreOk q && n.wf
  | .evothModeSwitch q _ => coreOk q
  | .evothMac q a x y z => coreOk q && fourOk a && eightOk x && eightOk y && secondWf z.second && accessWf z.u && accessWf z.v
  | .evothAccMove q a d => coreOk q && fourOk a && d.wf
  | .evothLoadSc q _ => coreOk q
  | .evothLoadCbsel q _ => coreOk q
  | .evothDataAccess q u v => coreOk q && accessWf u && accessWf v
  | .bkBlockRepeat q _ _ => coreOk q
  | .bkUnsupportedInstruction q => coreOk q
  | .intervalTablesDone _ p => sixteenOk p
  | .evothReloadDone _ r => regionOk r
  | .releaseDeadline r => regionOk r
  | .ringWriteback _ r => regionOk r
  | .coalUsExpiry r => regionOk r
  | .chargerSample _ k c _ => fourOk k && decide (c < 16384)
  | .chgTimeout _ k => fourOk k
  | .chgExtFault _ k => fourOk k
  | .converterOutput v _ => twoOk v
  | .overloadDetected _ v => twoOk v
  | .impedanceCheckStart _ v => twoOk v
  | .impedanceCheckEnd v _ _ => twoOk v
  | .excComplianceFault _ j => twoOk j
  | .excComplianceRestored _ j => twoOk j
  | .chopPhase j => twoOk j
  | .syncReset v => twoOk v
  | .foutPeriodEnd _ o => twoOk o
  | .hkConversion _ v c => fourOk v && decide (c < 4096)
  | .templateEstimate _ k => clusterOk k
  | .halterTimeout _ p => sixteenOk p
  | .tpsPulse _ x => fourOk x
  | .safetyInputSample _ l => decide (l < 256)
  | .inFilterExpiry _ i => eightOk i
  | .pairDiscrepancy _ p => fourOk p
  | .soutTestPulse _ o c => twoOk o && twoOk c
  | .soutReadback _ l => decide (l < 16)
  | .bridleFrameReceive _ n o b => sixteenOk n && decide (o + b.length ≤ 32)
  | .sourceExpectationExpiry _ e => sixteenOk e
  | .laneEnable _ l => eightOk l
  | .beaconSeen _ l p => eightOk l && eightOk p
  | .trainingDone _ l => eightOk l
  | .alignSlip _ l => eightOk l
  | .alignmentDone _ l _ => eightOk l
  | .adaptationFreeze _ l _ => eightOk l
  | .laneDetach _ l => eightOk l
  | .hello _ l w => eightOk l && streamsOk w
  | .cert _ l w => eightOk l && streamsOk w
  | .certVerified _ l => eightOk l
  | .kemCt _ l w => eightOk l && streamsOk w
  | .finish _ l w => eightOk l && streamsOk w
  | .team _ l a b => eightOk l && wordsOk a && wordsOk b
  | .joinReq _ l a b => eightOk l && wordsOk a && wordsOk b
  | .slot _ l a b => eightOk l && wordsOk a && wordsOk b
  | .epoch _ l a b => eightOk l && wordsOk a && wordsOk b
  | .phaseReq _ l a b => eightOk l && wordsOk a && wordsOk b
  | .leaveMessage _ l w => eightOk l && streamsOk w
  | .bridleMessage _ l w => eightOk l && streamsOk w
  | .hitchRetryTimeout _ l _ => eightOk l
  | .handshakeRetry _ l => eightOk l
  | .tsyncReceive _ l i _ _ => eightOk l && decide (i < 256)
  | .timeRsp _ l w _ => eightOk l && streamsOk w
  | .slotHoldExpiry _ n => sixteenOk n
  | .tableWalkComplete _ c _ _ => eightOk c
  | .retrainDone _ r _ => fourOk r
  | .linkUp _ r _ => fourOk r
  | .busMasterEnable _ f c => twoOk f && c.wf
  | .lowHalfRead _ k _ => readKeyOk k
  | .resultHeaderRead _ k _ => decide (k < 6)
  | .bar0ParamWrite _ k _ _ _ => writeKeyOk k
  | .sqDoorbell _ _ n => n == 32 || n == 64
  | .cqDoorbell _ _ n => n == 32 || n == 64
  | .porRelease g => fourOk g
  | .functionReset _ f => twoOk f
  | .ringEnable r _ => ringOk r
  | .ringRdWrite r _ => ringOk r
  | .chgSetWrite k _ => fourOk k
  | .expBudgetWrite b _ => bankOk b
  | .convCfgWrite v _ => twoOk v
  | .accCfgWrite a _ => decide (a < 64)
  | .paddockEnWrite p _ => sixteenOk p
  | .brSrcWrite e _ => sixteenOk e
  | .columnTrigger => true
  | .columnSkipTimeout => true
  | .syncInEdge _ => true
  | .creditRestore _ => true
  | .handOff => true
  | .statResultComplete _ => true
  | .dumpRecord => true
  | .epochPeriodExpiry _ => true
  | .codeKeyDerived _ => true
  | .intervalEngineCandidate _ => true
  | .recorderChange _ _ _ => true
  | .captureEnd _ => true
  | .recorderRearm _ => true
  | .recDrainCapture _ => true
  | .rampTick _ => true
  | .expSlotEnd _ => true
  | .currentSample _ i => currentOk i
  | .bridgeStuck _ i => currentOk i
  | .bridgeTakeover i => currentOk i
  | .angleSample => true
  | .angleStale _ => true
  | .positionLoopTick _ => true
  | .outerLoopOverrun _ => true
  | .strobeWindowStart _ _ => true
  | .strobeWindowEnd _ _ => true
  | .calRunStart _ => true
  | .calRunSolved _ _ => true
  | .startupRunInstalled _ => true
  | .rerunMaxExpiry _ => true
  | .angleLagEstimate _ => true
  | .taskTick _ => true
  | .turnaroundSelftest _ _ => true
  | .lockstepMismatch _ => true
  | .supervisorMemoryError _ => true
  | .safetyClockCheck _ _ => true
  | .timeExchangeStart _ _ => true
  | .timeExchangeMiss _ => true
  | .eyeScanDone _ _ => true
  | .stuInvalidationDone _ => true
  | .recDataRead _ _ => true
  | .mbGo _ _ _ => true
  | .nop _ _ => true
  | .identify _ _ => true
  | .profileApply _ _ _ => true
  | .ringsInit _ _ => true
  | .setGait _ _ => true
  | .setField _ _ => true
  | .histDump _ _ => true
  | .streamMode _ _ => true
  | .recorder _ _ => true
  | .emittersOn _ _ => true
  | .emittersOff _ _ => true
  | .mirror _ _ => true
  | .calibrate _ _ => true
  | .paddockDefine _ _ => true
  | .paddockEnable _ _ => true
  | .safeReset _ _ => true
  | .teamLeave _ _ => true
  | .paramRead _ _ => true
  | .paramWrite _ _ _ => true
  | .faultLogRead _ _ => true
  | .evothMsgRead _ _ => true
  | .commandFetch _ _ => true
  | .replyWrite _ => true
  | .noticeWrite _ => true
  | .attestStart _ _ => true
  | .attestReadReport _ _ => true
  | .attestReadRecord _ _ => true
  | .attestReportReady _ => true
  | .tackCommit _ _ => true
  | .fwData _ _ => true
  | .evothLoad _ _ => true
  | .keyEnroll _ _ => true
  | .keyRetire _ _ => true
  | .powerOnReset => true
  | .controlWatchdog _ => true
  | .linkReset _ => true
  | .thermalTick _ => true
  | .orderlyStop _ => true
  | .pfdShadowLoad _ => true
  | .domainSwitchOff _ => true
  | .powerTransitionDone _ => true
  | .refLost _ => true
  | .refPresent _ => true
  | .pllLocked _ => true
  | .dclTransferStart _ => true
  | .dclTransferDone _ _ => true
  | .frameBoundary => true
  | .gaitReq _ => true
  | .fieldWrite _ => true
  | .phaseRequest _ => true
  | .cntSel _ => true
  | .statStart _ => true
  | .calSel _ => true
  | .spareSubstitute _ => true
  | .spareRelease _ => true
  | .dumpReq _ => true
  | .freezeSel _ => true
  | .tplCommit _ => true
  | .tplSwap _ => true
  | .bgSel _ => true
  | .evothRestart _ => true
  | .keyReq _ => true
  | .envCommit _ => true
  | .maskRelease _ => true
  | .maskSel _ => true
  | .recEn _ => true
  | .recStop _ => true
  | .recSwTrig _ => true
  | .emitCtrlWrite _ => true
  | .chgClear _ => true
  | .expCfgWrite _ => true
  | .expSel _ => true
  | .mirrorRun _ => true
  | .mirrorDrvEn _ => true
  | .mirrorRestart _ => true
  | .rcClear _ => true
  | .converterSync _ => true
  | .impClear _ => true
  | .linCommit _ => true
  | .accSel _ => true
  | .runReq _ => true
  | .pdCommit _ => true
  | .safeResetBit _ => true
  | .hitchSlip _ => true
  | .leave _ => true
  | .eyeScanStart _ => true
  | .retrain _ => true
  | .stuInv _ => true
  | .dmaResume _ => true
  | .dmaAbort _ => true
  | .confirm _ => true
  | .pfdModeWrite _ => true
  | .powerStateRequest _ => true
  | .resume _ => true
  | .ctrlRestart _ => true
  | .flagSel _ => true
  | .dclXfer _ => true

end Sys2Proof
end

