-- ==== Sys2Proof/Tests/Slice0.lean ====
section
/-! SUPPORT. Tests: worked examples of the spec, small steps, ill-formed commands, and for every statement of Obligations.lean
states and operands that meet the hypotheses of its clauses (a clause with no hypothesis has none). -/
namespace Sys2Proof.Tests
set_option Elab.async false
open Sys2Proof.Machine

/-! ## Worked examples of the spec -/

/-- 06_evoth_processors.md: the accumulator move in wide mode, with SCALE = 20 and RND = 1, and with SCALE = 8. -/
theorem test_move_wide : scaleShift false (20 + 128) 12345678901 = (11774, false) ∧ scaleShift false 8 12345678901 = (8388607, true) := by
  decide
/-- The same in narrow mode. -/
theorem test_move_narrow : scaleShift true (2 + 128) 14 = (4, false) ∧ scaleShift true 2 14 = (3, false) ∧
    scaleShift true 1 (-100000) = (-32768, true) := by decide
/-- Table 15.3: the check value of the single byte 0. -/
theorem test_bridle_crc : bridleCrc [0] = 0x993B6806 := by decide
/-- R483: the record of charger 2's OV. -/
theorem test_record_bytes : (Record.mk 0x0901 2 3 47 1250000000000 [2, 1, 0xDE, 0x30]).bytes =
    [0x01, 0x09, 0x02, 0x03, 0x2F, 0, 0, 0, 0, 0x54, 0xCE, 0x09, 0x23, 0x01, 0, 0, 0x02, 0x01, 0xDE, 0x30, 0, 0, 0, 0, 0, 0, 0, 0, 0, 0, 0, 0] := by
  decide
/-- R165: the wall on row 150. -/
theorem test_point_record : pointWord ⟨150, 1, ⟨11500, 39, 1, 9, 131, 0, false, false, 26⟩⟩ false = 0x0289626424182CEC := by decide
/-- R266, R267: code 3,145,728 of the angle bridge on ±78.125 mV at 50 °C gives 46,091,080 µ°. -/
theorem test_linearise :
    let z := intF32 0
    let q := linearise [z, z, z, z, intF32 1600, toF32 ⟨-1, 2⟩, z, z, z, z, z, z, intF32 (-2048), z, z, z, z, z, z, z, z, z, z, z]
      2 3145728 (intF32 50)
    roundHalfEven ((ofF32 q).num * 1000000) (ofF32 q).den = 46091080 := by decide +kernel
/-- R275: source 1 for Paddock 3. -/
theorem test_fout_wave :
    ((((State.reset.setFld P.FOUT_MAP.X1 5000).setFld P.FOUT_CFG.OUT0 2000).setFld P.FOUT_CFG.OUT1 200).foutWave 0 1850) = (749625, 374812) := by
  decide
/-- R462: sensor 3 passes both conditions. -/
theorem test_rate : ((State.reset.setFld P.THERM_CFG.RATE_ARM 120).setFld P.THERM_CFG.RATE_LIM 80).rateHot 2096 (2096 - 2016) = true := by decide
/-- R36 and R245: column 812 of a forward sweep in Canter with W = 100,000 m°. -/
theorem test_column_angle : columnAngle 100000 (gaitC 2) 812 = 750000 := by decide
/-- R245: it is triggered at 1,250,000,000,000 ns. -/
theorem test_trigger_time :
    (({ State.reset with
        force := planeSet State.reset.force P.FIELD.W.key (wordSet 0 P.FIELD.W 100000),
        scan := { State.reset.scan with seq := 812 },
        mirror := { State.reset.mirror with sched := some ⟨⟨739334, 1249999996800, 1249999999200⟩, 16668, 5000⟩ } } : State).trigTime) =
      some 1250000000000 := by decide
/-- R79: the mean of the fire-to-emission samples. -/
theorem test_stat_mean : roundHalfEven (256 * 5736) 4 = 0x59A00 := by decide

/-! ## Ill-formed commands -/

/-- A term for each check of WellFormed.lean, which the check refuses, beside one at the end of its range, which it takes. -/
theorem smoke_ranges :
    bankOk 16 = false ∧ bankOk 15 = true ∧ pulseOk 24 = false ∧ pulseOk 23 = true ∧ rowOk 384 = false ∧ rowOk 383 = true ∧
    codeOk 128 = false ∧ codeOk 127 = true ∧ clusterOk 12 = false ∧ clusterOk 11 = true ∧ regionOk 4 = false ∧ regionOk 3 = true ∧
    coreOk 16 = false ∧ coreOk 15 = true ∧ eightOk 8 = false ∧ eightOk 7 = true ∧ fourOk 4 = false ∧ fourOk 3 = true ∧
    twoOk 2 = false ∧ twoOk 1 = true ∧ sixteenOk 16 = false ∧ sixteenOk 15 = true ∧ pcOk 16384 = false ∧ pcOk 16383 = true ∧
    currentOk 2048 = false ∧ currentOk (-2049) = false ∧ currentOk (-2048) = true ∧
    ringOk 6 = false ∧ ringOk 8 = false ∧ ringOk 7 = true ∧ keyOk 65536 = false ∧ keyOk 65535 = true ∧ readKeyOk 0x12000 = false ∧
    readKeyOk 0x11FFF = true ∧ readKeyOk 0x220000 = false ∧ readKeyOk 0x21FFFF = true ∧ readKeyOk 0x400200 = false ∧
    readKeyOk 0x4001FF = true ∧ readKeyOk 0x500008 = false ∧ readKeyOk 0x500007 = true ∧ readKeyOk 0x600008 = false ∧
    readKeyOk 0x600007 = true ∧ writeKeyOk 65536 = false ∧ writeKeyOk 65535 = true ∧ writeKeyOk 0x21E080 = false ∧
    writeKeyOk 0x21E07F = true ∧ writeKeyOk 0x400010 = false ∧ writeKeyOk 0x40000F = true ∧
    wordsOk [[⟨false, 0⟩]] = false ∧ wordsOk [[⟨true, 0xBC⟩, ⟨false, 0⟩, ⟨false, 0⟩, ⟨false, 0⟩]] = true ∧
    streamsOk ⟨[], [[]]⟩ = false ∧ streamsOk ⟨[], []⟩ = true := by decide
theorem smoke_config :
    (FnConfig.mk true 6 0 0 true false 0 0).wf = false ∧ (FnConfig.mk true 0 6 0 true false 0 0).wf = false ∧
    (FnConfig.mk true 0 0 16 true false 0 0).wf = false ∧ (FnConfig.mk true 0 0 0 true false (2 ^ 64) 0).wf = false ∧
    (FnConfig.mk true 0 0 0 true false 0 (2 ^ 64)).wf = false ∧
    (FnConfig.mk true 5 5 15 true false (2 ^ 64 - 1) (2 ^ 64 - 1)).wf = true := by decide
theorem smoke_operands :
    (RepeatCount.imm 2048).wf = false ∧ (RepeatCount.reg 8).wf = false ∧ (RepeatCount.imm 2047).wf = true ∧ (MoveDest.reg 8).wf = false ∧
    (MoveDest.mem 8 true).wf = false ∧ (MoveDest.mem 7 true).wf = true ∧ (MemAccess.mk 8 false 0 false).wf = false ∧
    (MemAccess.mk 0 false 8 false).wf = false ∧ secondWf (some (4, 0, 0)) = false ∧ secondWf (some (3, 7, 8)) = false ∧
    secondWf none = true ∧ accessWf (some ⟨8, true, 0, false⟩) = false ∧ accessWf none = true ∧
    (RegWrite.cb 4 0).wf = false ∧ (RegWrite.st 8 0).wf = false ∧ (RegWrite.clearAv 4).wf = false ∧ (RegWrite.ad 7 0).wf = true ∧
    (FetchVerdict.other [.d 7 0, .d 8 0]).wf = false ∧ (FetchVerdict.other [.d 7 0, .clearSv]).wf = true := by decide
theorem smoke_commands :
    (Instr.fireCommand 16 0).wf = false ∧ (Instr.fireCommand 15 24).wf = false ∧ (Instr.fireCommand 15 23).wf = true ∧
    (Instr.chargerSample 0 3 16384 false).wf = false ∧ (Instr.hkConversion 0 3 4096).wf = false ∧ (Instr.safetyInputSample 0 256).wf = false ∧
    (Instr.soutReadback 0 16).wf = false ∧ (Instr.bridleFrameReceive 0 15 30 [1, 2, 3]).wf = false ∧ (Instr.tsyncReceive 0 7 256 0 0).wf = false ∧
    (Instr.resultHeaderRead 0 6 .whole).wf = false ∧ (Instr.sqDoorbell 0 0 16).wf = false ∧ (Instr.evothMac 15 3 7 8 ⟨none, none, none⟩).wf = false ∧
    (Instr.evothMac 15 3 7 7 ⟨none, none, some ⟨8, false, 0, false⟩⟩).wf = false := by decide

/-! ## States and operands that meet the hypotheses -/
/-- A device out of reset, its link up. -/
def up : State := ({ State.reset with ctl := { por := false } } : State).setFld P.LINK_CTRL.LINK_UP 1
/-- A tagged Salsol write of the given fields at 5 ns. -/
def wr (l : List (FieldRef × Nat)) : HostWrite := let e := (fieldEntry l).1; ⟨5, .salsol e.mask true, e.value, 0⟩
/-- The first column of frame 0, its epoch at 100 ns. -/
def col : Column :=
  { frame := 0, seq := 0, index := 0, epoch := 100, base := some 200, gait := 2, reverse := false, held := false, skipped := false,
    angle := 0, codeE := 0, offsets := [], volts := [], inhibited := 0, pulses := [], waiting := [], accepted := [], lastBin := [],
    handoff := none, piped := [], blind := [], sent := [], markers := 0, released := 0, ready := [], posts := [], ordinal := 0,
    degraded := [], degr := [] }
/-- `up` with columns in flight. -/
def flight (l : List Column) : State := { up with scan := { up.scan with seq := 1, fired := true, columns := l } }
/-- A candidate of a row in the first column. -/
def cand1 (row : Nat) : Cand :=
  { channel := row, frame := 0, seq := 0, cand := 0, ncand := 1, nw := 5, peak := 100, nomon := false, bank := row / 24, fade := false,
    overflow := false, poison := false, pile := false, sat := false, n := 40, sigmaRef16 := 40, s1 := 1000, s2 := 30000, c256 := 0,
    sigma16 := 40, rangeMm := 0, bq := 0, track := [] }

/-- A Hitch message as it stands on a lane: SOF, header, body, tag under `mac` where the type has one, CRC, a fill of zeros, EOF. -/
def onWire (mac : List Byte) (type ctr : Nat) (b : List Byte) : LaneStreams :=
  let m := leBytes 1 type ++ leBytes 1 (hitchFlags type) ++ leBytes 2 b.length ++ leBytes 8 ctr ++ b
  let p := if type < 4 then m else m ++ (hmacSha256 mac m).take 16
  let f := p ++ leBytes 4 (ieeeCrc p)
  ⟨frameWords f.length (f ++ List.replicate ((4 - f.length % 4) % 4) 0), []⟩
/-- What the checks of a good message with CTR 1 on lane 7 leave. -/
def received (s : State) (t type : Nat) : State :=
  if type < 4 then s.at_ t
  else (s.at_ t).withLink 7 fun y => { y with session := y.session.map fun x => { x with rxCtr := 1 } }
/-- `up` with link 7 in SECURE state and of a role to the team. -/
def linked (r : LinkRole) : State :=
  ((up.setLaneSt 7 5).withLane 7 fun y => { y with link := 7 }).withLink 7 fun x =>
    { x with role := r, session := some ⟨List.replicate 16 0, List.replicate 16 0, [], [], 0, 0⟩ }
/-- `up` with link 7 in its handshake. -/
def shaking (x : Link) : State := ((up.setLaneSt 7 4).withLane 7 fun y => { y with link := 7 }).withLink 7 fun _ => x

/-- `up` with AUTO_TPL off and a template of one tap of 100 at the staging parameters. -/
def tpl : State :=
  ((({ up with force := planeSet up.force K.TPL_CTRL (wordSet (planeGet up.force K.TPL_CTRL) P.TPL_CTRL.AUTO_TPL 0) } : State).setFld
    P.TPL_TAPS.TAP 100).setFld P.TPL_SHAPE.L 4).setFld P.TPL_SHAPE.ANCHOR 0

/-- A command packet, untagged. -/
def packet (op : Nat) (body : List Byte) : List Byte :=
  leBytes 2 op ++ leBytes 2 7 ++ leBytes 2 (16 + body.length) ++ List.replicate 10 0 ++ body
/-- A device that holds command key 3, with a packet in its mailbox. -/
def boxed (s : State) (r : List Byte) : State :=
  { s with salsol := { s.salsol with mbCmd := some r }, nv := { s.nv with cmdKeys := [(2, [5]), (3, [6, 7])] } }
/-- A command packet tagged under key 3. -/
def signed (op : Nat) (body : List Byte) : List Byte :=
  let h := leBytes 2 op ++ leBytes 2 7 ++ leBytes 2 (32 + body.length) ++ leBytes 2 1 ++ leBytes 4 3 ++ leBytes 4 9 ++ body
  h ++ up.commandTag [6, 7] (readCommand .mailbox (h ++ List.replicate 16 0))
/-- The device once the packet of its mailbox has passed checks 1 to 6. -/
def passed (s : State) (r : List Byte) : State := ((s.taken 7 .mailbox r).checkHead (readCommand .mailbox r) r).2
/-- What the writes of a basic command leave. -/
def wrote (s : State) (auth : Bool) (l : List (Entry × Bool)) : State :=
  match s.basicWrites auth l with
  | .ok w => w
  | .error _ => up

/-- A Tack image: version 5, no boot list, profile 15 with one write of W. -/
def tackImage : List Byte :=
  let b := leBytes 4 0x4B434154 ++ leBytes 2 1 ++ leBytes 2 0 ++ leBytes 8 5 ++ leBytes 4 72 ++ leBytes 2 0 ++ leBytes 2 0x8000 ++ leBytes 8 0 ++ leBytes 8 1 ++ leBytes 8 K.FIELD ++ leBytes 8 (fieldEntry [(P.FIELD.W, 90000)]).1.mask.toNat ++ leBytes 8 90000 ++ leBytes 4 0
  b ++ leBytes 4 (bridleCrc b)

/-- A SLOT body of the device's own lead: gait `g` and phase `p` in slot 1. -/
def slotGiven (g p : Nat) : SlotBody := ⟨up.leadId, 5, (List.replicate 16 (0, 0)).set 1 (g, p)⟩

/-- An EPOCH body with E of 4294967295, encrypted under a key of zeros with CTR 1. -/
def epochSealed : List Byte :=
  leBytes 96
    413683894132036316289092913058445300506946786632606733467983460669365951892083336129419724525863192789748317388537259955540006618337340096677963252154212787237213060555878138340014659810873527142848196131232635267253441126725087559

/-- Where no listed link holds a TEAM message, no link does. -/
theorem held_none (s : State) (h : s.hitch.links.all (fun e => e.2.teamHeld.isNone) = true) (j : Nat) : (s.link j).teamHeld = none := by
  suffices w : ∀ l : SMap Link, l.all (fun e => e.2.teamHeld.isNone) = true → (Map.get {} l j).teamHeld = none from w _ h
  intro l
  induction l with
  | nil => intro _; rfl
  | cons e l ih =>
    intro h
    obtain ⟨k, v⟩ := e
    rw [List.all_cons, Bool.and_eq_true, Option.isNone_iff_eq_none] at h
    by_cases c : k = j
    · simpa [Map.get, Map.find?, c] using h.1
    · simpa [Map.get, Map.find?, c] using ih h.2

/-- Where there is no last time, anything holds of it. -/
theorem no_time {o : Option Nat} (e : o = none) {P : Nat → Prop} : ∀ l, o = some l → P l := by
  subst e
  intro l h
  cases h

/-- Nothing schedules a trigger of `flight []`. -/
theorem no_trigger :
    ∀ x, (flight []).trigTime = some x → (flight []).tk + ((flight []).scan.seq + 2) * gaitT (flight []).gait < x := by
  intro x h
  have e : (flight []).trigTime = none := by decide
  rw [e] at h
  cases h

theorem witness_StepRunsFront :
    (∃ (c : Instr) (l : List Instr) (s : State),
      s.pending = c :: l) ∧
    (∃ (s : State),
      s.pending = []) :=
  ⟨⟨.refPresent 7,
     [.refLost 9],
     { up with pending := [.refPresent 7, .refLost 9] },
     by decide +kernel⟩,
    ⟨up,
     by decide +kernel⟩⟩

theorem witness_StepConsumesOne :
    (∃ (s : State) (t : State),
      step s = .next t) :=
  ⟨{ up with pending := [.refPresent 7, .refLost 9] },
     match step { up with pending := [.refPresent 7, .refLost 9] } with | .next t => t | _ => up,
     rfl⟩

theorem witness_PowerOnReset :
    (∃ (s : State),
      s.ctl.por = true) ∧
    (∃ (s : State),
      s.Awake) ∧
    (∃ (i : Instr) (s : State),
      s.ctl.por = true ∧
      i ≠ .powerOnReset ∧
      (∀ g, i ≠ .porRelease g)) :=
  ⟨⟨State.reset,
     by decide +kernel⟩,
    ⟨up,
     by decide +kernel⟩,
    ⟨.refLost 7,
     State.reset,
     by decide,
     by decide,
     by intro g h; cases h⟩⟩

theorem witness_ResetInvariant :
    (∃ (s : State) (t : State),
      s.HeldInReset ∧
      step s = .next t) :=
  ⟨{ State.reset with pending := [.porRelease 0] },
     match step { State.reset with pending := [.porRelease 0] } with | .next t => t | _ => up,
     by decide,
     rfl⟩

theorem witness_FrameBoundary :
    (∃ (s : State),
      s.Awake ∧
      s.frameDrained = true ∧
      s.scan.crossed ≠ some s.now) ∧
    (∃ (s : State),
      s.Awake ∧
      s.frameDrained = false ∧
      s.scan.crossed ≠ some s.now) ∧
    (∃ (s : State) (h : HostWrite) (w : Nat),
      s.HostOpen ∧
      s.boundaryTime = (s.at_ h.t).now ∧
      s.frameDrained = true ∧
      ((s.boundaryFirst h.t).at_ h.t).entriesFail (authOf h) [entryOf K.FIELD h] = none ∧
      brings h P.FIELD.W w) ∧
    (∃ (s : State),
      s.Awake ∧
      s.scan.crossed = some s.now) :=
  ⟨⟨up,
     by decide +kernel⟩,
    ⟨flight [col],
     by decide +kernel⟩,
    ⟨({ up with now := up.boundaryTime } : State),
     wr [(P.FIELD.W, 90000)],
     90000,
     by decide +kernel⟩,
    ⟨{ up with scan := { up.scan with crossed := some 0 } },
     by decide +kernel⟩⟩

theorem witness_FieldOfView :
    (∃ (s : State) (h : HostWrite) (w : Nat),
      s.Accepts K.FIELD h ∧
      brings h P.FIELD.W w) ∧
    (∃ (s : State),
      s.Awake ∧
      s.frameDrained = true ∧
      s.scan.crossed ≠ some s.now) ∧
    (∃ (s : State) (h : HostWrite) (w : Nat),
      s.HostOpen ∧
      s.OffBoundary h.t ∧
      brings h P.FIELD.W w ∧
      (w < 30000 ∨ 120000 < w)) :=
  ⟨⟨up,
     wr [(P.FIELD.W, 90000)],
     90000,
     by decide +kernel⟩,
    ⟨up,
     by decide +kernel⟩,
    ⟨up,
     wr [(P.FIELD.W, 29999)],
     29999,
     by decide +kernel⟩⟩

theorem witness_ScanClock :
    (∃ (s : State),
      s.Awake) ∧
    (∃ (s : State) (p : CodeEpoch),
      s.Awake ∧
      s.scan.epochPend = some p) ∧
    (∃ (s : State) (t : Nat) (x : Nat),
      s.Awake ∧
      s.scan.expiry = some x ∧
      x ≤ t ∧
      s.fld P.TEAM_STATUS.ROLE ≠ 2 ∧
      s.epochInForce = true) ∧
    (∃ (s : State) (h : HostWrite) (g : Nat),
      s.Accepts K.GAIT h ∧
      brings h P.GAIT.GAIT_REQ g) ∧
    (∃ (s : State) (h : HostWrite) (p : Nat),
      s.Accepts K.FRAME_SYNC h ∧
      brings h P.FRAME_SYNC.PHASE p) ∧
    (∃ (s : State) (h : HostWrite),
      s.Accepts K.STAT_CTRL h ∧
      brings h P.STAT_CTRL.START 1) ∧
    (∃ (s : State) (h : HostWrite) (n : Nat) (i : Nat),
      s.Accepts K.SPARE_FORCE h ∧
      brings h P.SPARE_FORCE.ACTION 1 ∧
      brings h P.SPARE_FORCE.UNIT n ∧
      brings h P.SPARE_FORCE.CHANNEL i) ∧
    (∃ (s : State) (h : HostWrite) (n : Nat) (i : Nat),
      s.Accepts K.SPARE_FORCE h ∧
      brings h P.SPARE_FORCE.ACTION 2 ∧
      brings h P.SPARE_FORCE.UNIT n ∧
      brings h P.SPARE_FORCE.CHANNEL i) :=
  ⟨⟨up,
     by decide +kernel⟩,
    ⟨{ up with scan := { up.scan with epochPend := some ⟨2, [], 9, none⟩ } },
     ⟨2, [], 9, none⟩,
     by decide +kernel⟩,
    ⟨{ up with scan := { up.scan with epochCur := some ⟨1, [], 0, none⟩, expiry := some 7 } },
     7,
     7,
     by decide +kernel⟩,
    ⟨up,
     wr [(P.GAIT.GAIT_REQ, 1)],
     1,
     by decide +kernel⟩,
    ⟨up,
     wr [(P.FRAME_SYNC.PHASE, 77)],
     77,
     by decide +kernel⟩,
    ⟨up,
     wr [(P.STAT_CTRL.START, 1), (P.STAT_CTRL.SRC, 3)],
     by decide +kernel⟩,
    ⟨up.withCh 27 fun c => { c with lost := true },
     wr [(P.SPARE_FORCE.ACTION, 1), (P.SPARE_FORCE.UNIT, 3), (P.SPARE_FORCE.CHANNEL, 3)],
     3,
     3,
     by decide +kernel⟩,
    ⟨up.withSpare 3 fun x => { x with channel := some 27 },
     wr [(P.SPARE_FORCE.ACTION, 2), (P.SPARE_FORCE.UNIT, 3), (P.SPARE_FORCE.CHANNEL, 3)],
     3,
     3,
     by decide +kernel⟩⟩

theorem witness_ColumnOpens :
    (∃ (s : State) (t : Nat),
      s.Awake ∧
      s.trigTime = some t ∧
      s.scan.fired = true ∧
      s.scan.seq < gaitC s.gait ∧
      t ≤ s.tk + (s.scan.seq + 2) * gaitT s.gait ∧
      s.stopBegun = false) ∧
    (∃ (s : State),
      s.Awake ∧
      s.scan.fired = true ∧
      s.scan.seq < gaitC s.gait ∧
      (∀ x, s.trigTime = some x → s.tk + (s.scan.seq + 2) * gaitT s.gait < x) ∧
      s.stopBegun = false) :=
  ⟨⟨{ up with scan := { up.scan with fired := true }, mirror := { up.mirror with sched := some ⟨⟨0, 1000, 2000⟩, 1, 1⟩ } },
     (({ up with scan := { up.scan with fired := true }, mirror := { up.mirror with sched := some ⟨⟨0, 1000, 2000⟩, 1, 1⟩ } } : State).trigTime.getD 0),
     by decide +kernel⟩,
    ⟨flight [],
     by decide,
     by decide,
     by decide,
     no_trigger,
     by decide⟩⟩

theorem witness_Firing :
    (∃ (s : State) (b : Nat) (p : Nat) (f : Nat) (c : Column) (base : Nat),
      s.Awake ∧
      s.openCol = some c ∧
      c.base = some base ∧
      b < 16 ∧
      p < gaitN c.gait ∧
      c.skipped = false ∧
      c.pulse b p = {} ∧
      s.gateOpen b = true ∧
      bitOf c.inhibited b = false ∧
      f = base + p * gaitT c.gait / gaitN c.gait + c.offsets.getD p 0 + s.forceFld (P.STAGGER.STG.sub b 4) ∧
      s.acc b + s.chgCode (b / 4) * s.chgCode (b / 4) ≤ s.fld (P.EXP_BUDGET.BUDGET.idx b)) ∧
    (∃ (s : State) (b : Nat) (p : Nat) (f : Nat) (c : Column) (base : Nat),
      s.Awake ∧
      s.openCol = some c ∧
      c.base = some base ∧
      b < 16 ∧
      p < gaitN c.gait ∧
      c.skipped = false ∧
      c.pulse b p = {} ∧
      (s.gateOpen b = false ∨ bitOf c.inhibited b = true) ∧
      f = base + p * gaitT c.gait / gaitN c.gait + c.offsets.getD p 0 + s.forceFld (P.STAGGER.STG.sub b 4)) ∧
    (∃ (s : State) (b : Nat) (p : Nat) (f : Nat) (c : Column) (base : Nat),
      s.Awake ∧
      s.openCol = some c ∧
      c.base = some base ∧
      b < 16 ∧
      p < gaitN c.gait ∧
      c.skipped = false ∧
      c.pulse b p = {} ∧
      s.gateOpen b = true ∧
      bitOf c.inhibited b = false ∧
      f = base + p * gaitT c.gait / gaitN c.gait + c.offsets.getD p 0 + s.forceFld (P.STAGGER.STG.sub b 4) ∧
      s.fld (P.EXP_BUDGET.BUDGET.idx b) < s.acc b + s.chgCode (b / 4) * s.chgCode (b / 4)) ∧
    (∃ (s : State) (b : Nat) (p : Nat) (c : Column) (m : Int),
      s.Awake ∧
      s.openCol = some c ∧
      (c.pulse b p).emission = some m ∧
      (c.pulse b p).armed = none) ∧
    (∃ (s : State) (b : Nat) (p : Nat) (f : Nat) (c : Column),
      s.Awake ∧
      s.openCol = some c ∧
      (c.pulse b p).fire = some f ∧
      (c.pulse b p).emission = none) :=
  ⟨⟨((({ flight [col] with mirror := { up.mirror with inhibit := false } } : State).setFld P.EMIT_CTRL.EMIT_EN 1).setFld P.EMIT_CTRL.BANK_EN 65535).setChgState 3 3,
     15,
     1,
     200 + gaitT 2 / gaitN 2 + (((({ flight [col] with mirror := { up.mirror with inhibit := false } } : State).setFld P.EMIT_CTRL.EMIT_EN 1).setFld P.EMIT_CTRL.BANK_EN 65535).setChgState 3 3).forceFld (P.STAGGER.STG.sub 15 4),
     col,
     200,
     by decide +kernel⟩,
    ⟨flight [col],
     0,
     0,
     200 + (flight [col]).forceFld (P.STAGGER.STG.sub 0 4),
     col,
     200,
     by decide +kernel⟩,
    ⟨((((({ flight [col] with mirror := { up.mirror with inhibit := false } } : State).setFld P.EMIT_CTRL.EMIT_EN 1).setFld P.EMIT_CTRL.BANK_EN 65535).setChgState 3 3).setFld (P.EXP_BUDGET.BUDGET.idx 15) 0).setFld (P.CHG_STATUS.MEAS.idx 3) 900,
     15,
     1,
     200 + gaitT 2 / gaitN 2 + (((({ flight [col] with mirror := { up.mirror with inhibit := false } } : State).setFld P.EMIT_CTRL.EMIT_EN 1).setFld P.EMIT_CTRL.BANK_EN 65535).setChgState 3 3).forceFld (P.STAGGER.STG.sub 15 4),
     col,
     200,
     by decide +kernel⟩,
    ⟨flight [(col.setPulse 15 1 { fire := some 300, emission := some 25700 })],
     15,
     1,
     (col.setPulse 15 1 { fire := some 300, emission := some 25700 }),
     25700,
     by decide +kernel⟩,
    ⟨flight [(col.setPulse 15 1 { fire := some 300 })],
     15,
     1,
     300,
     (col.setPulse 15 1 { fire := some 300 }),
     by decide +kernel⟩⟩

theorem witness_ColumnEnd :
    (∃ (s : State) (c : Column) (h : Nat),
      s.Awake ∧
      s.openCol = some c ∧
      s.handOffTime c = some h) ∧
    (∃ (s : State) (r : Nat) (k : Column),
      s.Awake ∧
      r < 4 ∧
      s.scan.columns.find? (fun k => k.handoff.isSome && !bitOf k.released r) = some k ∧
      s.power.rest = none) ∧
    (∃ (s : State) (r : Nat) (f : Nat) (c : Nat) (i : DmaItem) (l : List DmaItem),
      s.Awake ∧
      r < 4 ∧
      (s.chan r).items = i :: l ∧
      i.done = .column r f c ∧
      i.started = true ∧
      i.segs = []) ∧
    (∃ (s : State) (r : Nat) (t0 : Nat),
      s.Awake ∧
      r < 4 ∧
      (s.stream r).firstCol = some t0) :=
  ⟨⟨flight [{ col with skipped := true }],
     { col with skipped := true },
     100 + gaitT 2,
     by decide +kernel⟩,
    ⟨flight [{ col with handoff := some 5000 }],
     3,
     { col with handoff := some 5000 },
     by decide +kernel⟩,
    ⟨up.setChan 3 { items := [{ payload := [1, 2], started := true, done := .column 3 0 0 }] },
     3,
     0,
     0,
     { payload := [1, 2], started := true, done := .column 3 0 0 },
     [],
     by decide +kernel⟩,
    ⟨up.withStream 3 fun g => { g with firstCol := some 40 },
     3,
     40,
     by decide +kernel⟩⟩

theorem witness_ReturnCredits :
    (∃ (s : State) (c : Nat) (code : Nat),
      s.Awake ∧
      c < 384 ∧
      code < 128 ∧
      s.forceFld ((P.INPUT_CFG.EN.idx (c / 8)).sub (c % 8) 8) = 1 ∧
      (s.ch c).holdFrom = none ∧
      s.domOn (c / 32) = true ∧
      s.farrier.strobe = false ∧
      (s.ch c).lost = false ∧
      s.openCol = none ∧
      0 < (s.ch c).credits) ∧
    (∃ (s : State) (c : Nat) (code : Nat),
      s.Awake ∧
      c < 384 ∧
      code < 128 ∧
      s.forceFld ((P.INPUT_CFG.EN.idx (c / 8)).sub (c % 8) 8) = 1 ∧
      (s.ch c).holdFrom = none ∧
      s.domOn (c / 32) = true ∧
      s.farrier.strobe = false ∧
      (s.ch c).lost = false ∧
      s.openCol = none ∧
      (s.ch c).credits = 0) ∧
    (∃ (s : State) (t : Nat),
      s.Awake ∧
      Map.wf {} s.stamp.chans = true ∧
      (∀ a, s.stamp.creditAt = some a → a + 4 ≤ (s.at_ t).now)) ∧
    (∃ (s : State) (c : Nat) (tick : Nat) (code : Nat) (stay : Nat) (high : Bool) (k : Column) (x : Int),
      s.Awake ∧
      c < 384 ∧
      code < 128 ∧
      s.forceFld ((P.INPUT_CFG.EN.idx (c / 8)).sub (c % 8) 8) = 1 ∧
      (s.ch c).holdFrom = none ∧
      s.domOn (c / 32) = true ∧
      s.farrier.strobe = false ∧
      (s.ch c).lost = false ∧
      0 < (s.ch c).credits ∧
      s.openCol = some k ∧
      s.accepts c k = true ∧
      (stay + 128 < 128 * s.forceFld P.HIST_CFG.SAT_LEN ∧ high = false) ∨ (128 * s.forceFld P.HIST_CFG.SAT_LEN + 128 ≤ stay ∧ high = true) ∧
      x = s.stampOf (s.pathOf c) c tick code k.epoch ∧
      k.fate (c / 24) x = .undecided) ∧
    (∃ (s : State) (c : Nat) (code : Nat),
      s.Awake ∧
      c < 384 ∧
      code < 128 ∧
      s.forceFld ((P.INPUT_CFG.EN.idx (c / 8)).sub (c % 8) 8) = 0 ∧
      (s.ch c).holdFrom = none) ∧
    (∃ (s : State) (c : Nat) (tick : Nat) (code : Nat) (a : Nat),
      s.Awake ∧
      c < 384 ∧
      code < 128 ∧
      (s.ch c).holdFrom = some a ∧
      128 * tick + code + 32 < a + 128 * s.forceFld ((P.INPUT_CFG.HOLDOFF.idx (c / 8)).sub (c % 8) 8)) ∧
    (∃ (s : State) (t : Nat) (a : Nat),
      s.Awake ∧
      s.stamp.creditAt = some a ∧
      (s.at_ t).now < a + 4) :=
  ⟨⟨(({ up with force := planeSet up.force (P.INPUT_CFG.EN.idx 47).key (wordSet 0 ((P.INPUT_CFG.EN.idx 47).sub 7 8) 1) } : State).setFld P.PWR_STATUS.DOMAIN_ON (2 ^ 36 - 1)),
     383,
     127,
     by decide +kernel⟩,
    ⟨(({ up with force := planeSet up.force (P.INPUT_CFG.EN.idx 47).key (wordSet 0 ((P.INPUT_CFG.EN.idx 47).sub 7 8) 1) } : State).setFld P.PWR_STATUS.DOMAIN_ON (2 ^ 36 - 1)).withCh 383 fun c => { c with credits := 0 },
     383,
     127,
     by decide +kernel⟩,
    ⟨up,
     7,
     by decide +kernel⟩,
    ⟨({ (({ up with force := planeSet up.force (P.INPUT_CFG.EN.idx 47).key (wordSet 0 ((P.INPUT_CFG.EN.idx 47).sub 7 8) 1) } : State).setFld P.PWR_STATUS.DOMAIN_ON (2 ^ 36 - 1)) with scan := (flight [(col.setPulse 15 1 { fire := some 300, emission := some 25700 })]).scan, hist := { up.hist with bufs := [(766, { st := .filling })] } } : State),
     383,
     1000,
     127,
     0,
     false,
     (col.setPulse 15 1 { fire := some 300, emission := some 25700 }),
     ((({ (({ up with force := planeSet up.force (P.INPUT_CFG.EN.idx 47).key (wordSet 0 ((P.INPUT_CFG.EN.idx 47).sub 7 8) 1) } : State).setFld P.PWR_STATUS.DOMAIN_ON (2 ^ 36 - 1)) with scan := (flight [(col.setPulse 15 1 { fire := some 300, emission := some 25700 })]).scan, hist := { up.hist with bufs := [(766, { st := .filling })] } } : State)).stampOf ((({ (({ up with force := planeSet up.force (P.INPUT_CFG.EN.idx 47).key (wordSet 0 ((P.INPUT_CFG.EN.idx 47).sub 7 8) 1) } : State).setFld P.PWR_STATUS.DOMAIN_ON (2 ^ 36 - 1)) with scan := (flight [(col.setPulse 15 1 { fire := some 300, emission := some 25700 })]).scan, hist := { up.hist with bufs := [(766, { st := .filling })] } } : State)).pathOf 383) 383 1000 127 100),
     by decide +kernel⟩,
    ⟨{ up with force := planeSet up.force (P.INPUT_CFG.EN.idx 47).key 0 },
     383,
     127,
     by decide +kernel⟩,
    ⟨up.withCh 383 fun c => { c with holdFrom := some 1200 },
     383,
     9,
     10,
     1200,
     by decide +kernel⟩,
    ⟨{ up with stamp := { up.stamp with creditAt := some 5 } },
     8,
     5,
     by decide +kernel⟩⟩

theorem witness_StampingEvents :
    (∃ (s : State) (r : StatRun) (rest : List StatRun),
      s.Awake ∧
      s.stamp.stat.done = r :: rest ∧
      r.src < 32 ∧
      r.nm1 < 65536) ∧
    (∃ (s : State) (g : Nat) (code : Nat),
      s.Awake ∧
      g < 2 ∧
      code < 128 ∧
      s.pathFailed (448 + g) = false ∧
      (s.farrier.strobe && s.farrier.gatesToo) = false) ∧
    (∃ (s : State) (g : Nat) (code : Nat),
      s.Awake ∧
      g < 2 ∧
      code < 128 ∧
      s.pathFailed (448 + g) = true) ∧
    (∃ (s : State) (b : Nat) (tick : Nat) (code : Nat) (j : Nat) (k : Column) (p : Pulse),
      s.Awake ∧
      b < 16 ∧
      code < 128 ∧
      Map.find? s.stamp.monHold b = none ∧
      s.farrier.strobe = false ∧
      s.pathFailed (432 + b) = false ∧
      s.openCol = some k ∧
      (k.firedOf b).find? (fun e => decide (k.fireStamp (e.2.fire.getD 0) ≤ s.stampOf (432 + b) (384 + b) tick code k.epoch) && decide (s.stampOf (432 + b) (384 + b) tick code k.epoch ≤ k.fireStamp (e.2.fire.getD 0) + (128 * s.forceFld P.MON_WIN.MON_WIN : Nat))) = some (j, p) ∧
      p.emission = none) :=
  ⟨⟨{ up with stamp := { up.stamp with stat := { done := [⟨31, 65535, 77, 99, 1, 2⟩] } } },
     ⟨31, 65535, 77, 99, 1, 2⟩,
     [],
     by decide +kernel⟩,
    ⟨up,
     1,
     127,
     by decide +kernel⟩,
    ⟨{ up with farrier := { up.farrier with health := [(449, { failed := true })] } },
     1,
     127,
     by decide +kernel⟩,
    ⟨flight [(col.setPulse 15 1 { fire := some 300 })],
     15,
     310,
     64,
     1,
     (col.setPulse 15 1 { fire := some 300 }),
     { fire := some 300 },
     by decide +kernel⟩⟩

theorem witness_HistogramAccumulate :
    (∃ (s : State) (ch : Nat) (d : Nat) (c : Column) (e : BinEvent),
      s.Awake ∧
      s.scan.columns.find? (fun c => c.accepted.any (fun e => e.channel == ch)) = some c ∧
      c.accepted.find? (fun e => e.channel == ch) = some e ∧
      e.bin < 4096 ∧
      s.bit P.INJECT_SEL.ARM = false ∧
      s.binsOf ch c = true ∧
      decodeWord (s.binWord (2 * ch + c.seq % 2) e.bin) = .clean d) ∧
    (∃ (n : Nat) (r : Nat) (rs : Nat) (qs : Nat),
      n < 4096 ∧
      r < 64 ∧
      rs + 63 < 2 ^ 18 ∧
      qs + 3969 < 2 ^ 24) ∧
    (∃ (s : State) (ch : Nat) (c : Column) (e : BinEvent),
      s.Awake ∧
      s.scan.columns.find? (fun c => c.accepted.any (fun e => e.channel == ch)) = some c ∧
      c.accepted.find? (fun e => e.channel == ch) = some e ∧
      s.binsOf ch c = false) ∧
    (∃ (s : State) (ch : Nat) (d : Nat) (c : Column) (e : BinEvent),
      s.Awake ∧
      s.scan.columns.find? (fun c => c.accepted.any (fun e => e.channel == ch)) = some c ∧
      c.accepted.find? (fun e => e.channel == ch) = some e ∧
      e.bin < 4096 ∧
      s.bit P.INJECT_SEL.ARM = true ∧
      s.fld P.INJECT_SEL.CHANNEL = ch ∧
      s.fld P.INJECT_SEL.BIN = e.bin ∧
      s.binsOf ch c = true ∧
      decodeWord (s.binWord (2 * ch + c.seq % 2) e.bin) = .clean d) :=
  ⟨⟨({ flight [{ col with accepted := [⟨383, 1, 4095, 63, true⟩] }] with hist := { up.hist with bufs := [(766, { st := .handed })] } } : State),
     383,
     0,
     { col with accepted := [⟨383, 1, 4095, 63, true⟩] },
     ⟨383, 1, 4095, 63, true⟩,
     by decide +kernel⟩,
    ⟨4095,
     63,
     262080,
     16773246,
     by decide +kernel⟩,
    ⟨flight [{ col with accepted := [⟨383, 1, 4095, 63, true⟩] }],
     383,
     { col with accepted := [⟨383, 1, 4095, 63, true⟩] },
     ⟨383, 1, 4095, 63, true⟩,
     by decide +kernel⟩,
    ⟨((((({ flight [{ col with accepted := [⟨383, 1, 4095, 63, true⟩] }] with hist := { up.hist with bufs := [(766, { st := .handed })] } } : State).setFld P.INJECT_SEL.ARM 1).setFld P.INJECT_SEL.CHANNEL 383).setFld P.INJECT_SEL.BIN 4095).setReg K.INJECT_MASK 3),
     383,
     0,
     { col with accepted := [⟨383, 1, 4095, 63, true⟩] },
     ⟨383, 1, 4095, 63, true⟩,
     by decide +kernel⟩⟩

theorem witness_CheckByte :
    (∃ (d : Nat),
      d < 2 ^ 56) ∧
    (∃ (d : Nat) (i : Nat),
      d < 2 ^ 56 ∧
      i < 64) ∧
    (∃ (d : Nat) (i : Nat) (j : Nat),
      d < 2 ^ 56 ∧
      i < j ∧
      j < 64) :=
  ⟨⟨2 ^ 56 - 1,
     by decide +kernel⟩,
    ⟨2 ^ 56 - 1,
     63,
     by decide +kernel⟩,
    ⟨2 ^ 56 - 1,
     0,
     63,
     by decide +kernel⟩⟩

theorem witness_DumpRecord :
    (∃ (s : State) (d : Dump) (c : Nat) (b : Nat) (l : List (Nat × Nat)),
      s.Awake ∧
      s.hist.dump = some d ∧
      d.left = (c, b) :: l ∧
      d.waiting = false ∧
      d.inFlight = false ∧
      s.isFrozen (2 * c + b) = true ∧
      (d.frozenSrc = true ∨ s.slotEnded c b = true) ∧
      s.ringOn 4 = true ∧
      32832 ≤ s.ringFree 4) ∧
    (∃ (s : State) (d : Dump) (c : Nat) (b : Nat) (l : List (Nat × Nat)),
      s.Awake ∧
      s.hist.dump = some d ∧
      d.left = (c, b) :: l ∧
      d.waiting = false ∧
      d.inFlight = false ∧
      s.isFrozen (2 * c + b) = true ∧
      d.frozenSrc = true ∧
      (s.ringOn 4 = false ∨ s.ringFree 4 < 32832)) ∧
    (∃ (s : State) (d : Dump) (c : Nat) (b : Nat) (l : List (Nat × Nat)),
      s.Awake ∧
      s.hist.dump = some d ∧
      d.left = (c, b) :: l ∧
      d.waiting = false ∧
      d.inFlight = false ∧
      s.isFrozen (2 * c + b) = true ∧
      d.frozenSrc = false ∧
      s.slotEnded c b = true ∧
      (s.ringOn 4 = false ∨ s.ringFree 4 < 32832)) :=
  ⟨⟨(({ up with hist := { up.hist with dump := some ⟨true, false, 0, 383, 1, 0, false, [(383, 1)], false⟩, bufs := [(767, { st := .frozen })] } } : State).setFld P.DUMP_RING.EN 1).setFld P.DUMP_RING.LOG2_SIZE 16,
     ⟨true, false, 0, 383, 1, 0, false, [(383, 1)], false⟩,
     383,
     1,
     [],
     by decide +kernel⟩,
    ⟨({ up with hist := { up.hist with dump := some ⟨true, false, 0, 383, 1, 0, false, [(383, 1)], false⟩, bufs := [(767, { st := .frozen })] } } : State),
     ⟨true, false, 0, 383, 1, 0, false, [(383, 1)], false⟩,
     383,
     1,
     [],
     by decide +kernel⟩,
    ⟨({ up with hist := { up.hist with dump := some ⟨false, false, 0, 383, 1, 0, false, [(383, 1)], false⟩, bufs := [(767, { st := .frozen })] } } : State),
     ⟨false, false, 0, 383, 1, 0, false, [(383, 1)], false⟩,
     383,
     1,
     [],
     by decide +kernel⟩⟩

theorem witness_ExtractionPipe :
    (∃ (s : State) (c : Nat) (k : Column),
      s.Awake ∧
      c < 384 ∧
      s.pipeCol c = some k ∧
      Map.get 0 k.piped (c / 32) % 2 ^ (c % 32) = 2 ^ (c % 32) - 1 ∧
      k.accepted.any (fun e => e.channel == c) = false ∧
      (s.buf (2 * c + k.seq % 2)).content.frame ≠ k.frame) ∧
    (∃ (s : State) (c : Nat) (k : Column),
      s.Awake ∧
      c < 384 ∧
      s.pipeCol c = some k ∧
      Map.get 0 k.piped (c / 32) % 2 ^ (c % 32) = 2 ^ (c % 32) - 1 ∧
      (s.buf (2 * c + k.seq % 2)).st = .handed ∧
      (s.buf (2 * c + k.seq % 2)).content.frame = k.frame ∧
      (s.buf (2 * c + k.seq % 2)).content.seq = k.seq) ∧
    (∃ (s : State) (cl : Nat) (k : Column),
      s.Awake ∧
      cl < 12 ∧
      s.scan.columns.find? (fun k => k.handoff.isSome && !bitOf k.ended cl) = some k ∧
      Map.get 0 k.piped cl = 2 ^ 32 - 1 ∧
      (s.cluster cl).solver = []) ∧
    (∃ (s : State) (cl : Nat) (c : Cand) (l : List QueueRec) (k : Column),
      s.Awake ∧
      (s.cluster cl).solver = .cand c :: l ∧
      (∀ m, l.head? ≠ some (.marker m)) ∧
      s.scan.columns.find? (fun k => decide (k.frame = c.frame ∧ k.seq = c.seq)) = some k) ∧
    (∃ (s : State) (c : Cand) (k : Nat) (l : List (Cand × Nat)),
      s.Awake ∧
      s.sup.engineQ = (c, k) :: l) ∧
    (∃ (s : State) (cl : Nat) (k : Column) (c : Cand) (l : List QueueRec),
      s.Awake ∧
      cl < 12 ∧
      s.scan.columns.find? (fun k => k.handoff.isSome && !bitOf k.ended cl) = some k ∧
      Map.get 0 k.piped cl = 2 ^ 32 - 1 ∧
      (s.cluster cl).solver = .cand c :: l) ∧
    (∃ (s : State) (cl : Nat) (c : Cand) (m : EndMarker) (k : Column),
      s.Awake ∧
      (s.cluster cl).solver = [.cand c, .marker m] ∧
      m.cluster / 3 = c.channel / 96 ∧
      s.scan.columns.find? (fun k => decide (k.frame = c.frame ∧ k.seq = c.seq)) = some k) :=
  ⟨⟨{ flight [{ col with handoff := some 5000, piped := [(11, 2 ^ 31 - 1)] }] with hist := { up.hist with bufs := [(766, { content := { frame := 1 } })] } },
     383,
     { col with handoff := some 5000, piped := [(11, 2 ^ 31 - 1)] },
     by decide +kernel⟩,
    ⟨{ flight [{ col with handoff := some 5000, piped := [(11, 2 ^ 31 - 1)] }] with hist := { up.hist with bufs := [(766, { st := .handed })] } },
     383,
     { col with handoff := some 5000, piped := [(11, 2 ^ 31 - 1)] },
     by decide +kernel⟩,
    ⟨{ flight [{ col with handoff := some 5000, piped := [(11, 2 ^ 32 - 1)] }] with scan := { columns := [{ col with handoff := some 5000, piped := [(11, 2 ^ 32 - 1)] }] } },
     11,
     { col with handoff := some 5000, piped := [(11, 2 ^ 32 - 1)] },
     by decide +kernel⟩,
    ⟨({ flight [{ col with handoff := some 5000 }] with clusters := [(11, { solver := [.cand (cand1 383)] })] } : State),
     11,
     cand1 383,
     [],
     { col with handoff := some 5000 },
     by decide +kernel,
     by decide +kernel,
     (by
      intro m h
      cases h),
     by decide +kernel⟩,
    ⟨{ up with sup := { up.sup with engineQ := [(cand1 383, 9)] } },
     cand1 383,
     9,
     [],
     by decide +kernel⟩,
    ⟨({ flight [{ col with handoff := some 5000, piped := [(11, 2 ^ 32 - 1)] }] with clusters := [(11, { solver := [.cand (cand1 383)] })] } : State),
     11,
     { col with handoff := some 5000, piped := [(11, 2 ^ 32 - 1)] },
     cand1 383,
     [],
     by decide +kernel⟩,
    ⟨({ flight [{ col with handoff := some 5000 }] with clusters := [(11, { solver := [.cand (cand1 383), .marker (col.endMarker 11)] })] } : State),
     11,
     cand1 383,
     col.endMarker 11,
     { col with handoff := some 5000 },
     by decide +kernel⟩⟩

theorem witness_MacArithmetic :
    (∃ (a : Nat),
      a < 4) :=
  ⟨3,
     by decide +kernel⟩

theorem witness_EvothRegisters :
    (∃ (s : State) (q : Nat),
      s.Awake ∧
      s.CoreRuns q) ∧
    (∃ (s : State) (q : Nat),
      s.Awake ∧
      s.CoreRuns q) ∧
    (∃ (s : State) (q : Nat) (v : BitVec 8),
      s.Awake ∧
      s.CoreRuns q ∧
      scaleOk (s.coreCtx q).narrow v.toNat = true) ∧
    (∃ (s : State) (q : Nat) (v : BitVec 24),
      s.Awake ∧
      s.CoreRuns q ∧
      (∀ k, k < 8 → bitsOf v.toNat (3 * k + 2) (3 * k) ≤ 4)) ∧
    (∃ (s : State) (q : Nat) (n : Bool),
      s.Awake ∧
      s.CoreRuns q ∧
      s.bkJob q = false ∧
      scaleOk n (s.coreCtx q).sc.toNat = true) ∧
    (∃ (s : State) (q : Nat) (n : Nat),
      s.Awake ∧
      s.CoreRuns q ∧
      1 ≤ n ∧
      n ≤ 1024) ∧
    (∃ (s : State) (q : Nat) (a : Nat) (x : Nat) (y : Nat) (k : Nat) (r : Nat),
      s.Awake ∧
      s.CoreRuns q ∧
      s.bkJob q = false ∧
      a < 4 ∧
      x < 8 ∧
      y < 8 ∧
      k < 8 ∧
      r < 8 ∧
      dataOwn (s.level q) ((s.coreCtx q).adReg k) = true ∧
      (if (s.coreCtx q).narrow then (s.coreCtx q).adReg k % 2 else (s.coreCtx q).adReg k % 4) = 0) :=
  ⟨⟨(({ up with evoth := { up.evoth with cores := [(15, { col := { acc := [(3, 77)], d := [(6, 2 ^ 23), (7, 2 ^ 23)], ad := [(7, 0x9FFC)], st := [(7, 4)] } })] } } : State).setLevel 15 1),
     15,
     by decide +kernel⟩,
    ⟨(({ up with evoth := { up.evoth with cores := [(15, { col := { acc := [(3, 77)], d := [(6, 2 ^ 23), (7, 2 ^ 23)], ad := [(7, 0x9FFC)], st := [(7, 4)] } })] } } : State).setLevel 15 1),
     15,
     by decide +kernel⟩,
    ⟨(({ up with evoth := { up.evoth with cores := [(15, { col := { acc := [(3, 77)], d := [(6, 2 ^ 23), (7, 2 ^ 23)], ad := [(7, 0x9FFC)], st := [(7, 4)] } })] } } : State).setLevel 15 1),
     15,
     47,
     by decide +kernel⟩,
    ⟨(({ up with evoth := { up.evoth with cores := [(15, { col := { acc := [(3, 77)], d := [(6, 2 ^ 23), (7, 2 ^ 23)], ad := [(7, 0x9FFC)], st := [(7, 4)] } })] } } : State).setLevel 15 1),
     15,
     0x924924,
     by decide +kernel⟩,
    ⟨(({ up with evoth := { up.evoth with cores := [(15, { bg := { sr := 1, ad := [(7, 0xA002)] } })] } } : State).setLevel 15 2),
     15,
     false,
     by decide +kernel⟩,
    ⟨(({ up with evoth := { up.evoth with cores := [(15, { bg := { sr := 1, ad := [(7, 0xA002)] } })] } } : State).setLevel 15 2),
     15,
     1024,
     by decide +kernel⟩,
    ⟨((({ up with evoth := { up.evoth with cores := [(15, { col := { acc := [(3, 77)], d := [(6, 2 ^ 23), (7, 2 ^ 23)], ad := [(7, 0x9FFC)], st := [(7, 4)] } })] } } : State).setLevel 15 1)),
     15,
     3,
     6,
     7,
     7,
     6,
     by decide +kernel⟩⟩

theorem witness_EvothMemory :
    (∃ (s : State) (q : Nat) (pc : Nat),
      s.Awake ∧
      q < 16 ∧
      s.level q = 1 ∧
      4 * (pc % 8192) < 0x5000) ∧
    (∃ (s : State) (q : Nat),
      s.Awake ∧
      s.CoreRuns q) ∧
    (∃ (s : State) (q : Nat) (n : Nat),
      s.Awake ∧
      s.CoreRuns q ∧
      (n = 0 ∨ 1024 < n)) ∧
    (∃ (s : State) (q : Nat),
      s.Awake ∧
      q < 16 ∧
      s.level q = 2 ∧
      s.bit (P.CORE_STATUS.BG_BK.idx q) = true) ∧
    (∃ (s : State) (q : Nat) (pc : Nat),
      s.Awake ∧
      q < 16 ∧
      s.level q = 1 ∧
      4 * (pc % 8192) < 0x5000) ∧
    (∃ (s : State) (q : Nat) (k : Nat) (r : Nat),
      s.Awake ∧
      s.CoreRuns q ∧
      s.bkJob q = false ∧
      k < 8 ∧
      r < 8 ∧
      dataOwn (s.level q) ((s.coreCtx q).adReg k) = true ∧
      (if (s.coreCtx q).narrow then (s.coreCtx q).adReg k % 2 else (s.coreCtx q).adReg k % 4) = 0) ∧
    (∃ (s : State) (q : Nat) (k : Nat) (r : Nat),
      s.Awake ∧
      s.CoreRuns q ∧
      s.bkJob q = false ∧
      k < 8 ∧
      r < 8 ∧
      dataOwn (s.level q) ((s.coreCtx q).adReg k) = true ∧
      (if (s.coreCtx q).narrow then (s.coreCtx q).adReg k % 2 else (s.coreCtx q).adReg k % 4) = 0) :=
  ⟨⟨(({ up with evoth := { up.evoth with cores := [(15, { col := { acc := [(3, 77)], d := [(6, 2 ^ 23), (7, 2 ^ 23)], ad := [(7, 0x9FFC)], st := [(7, 4)] } })] } } : State).setLevel 15 1),
     15,
     5119,
     by decide +kernel⟩,
    ⟨(({ up with evoth := { up.evoth with cores := [(15, { col := { acc := [(3, 77)], d := [(6, 2 ^ 23), (7, 2 ^ 23)], ad := [(7, 0x9FFC)], st := [(7, 4)] } })] } } : State).setLevel 15 1),
     15,
     by decide +kernel⟩,
    ⟨(({ up with evoth := { up.evoth with cores := [(15, { col := { acc := [(3, 77)], d := [(6, 2 ^ 23), (7, 2 ^ 23)], ad := [(7, 0x9FFC)], st := [(7, 4)] } })] } } : State).setLevel 15 1),
     15,
     1025,
     by decide +kernel⟩,
    ⟨(({ up with evoth := { up.evoth with cores := [(15, { bg := { sr := 1, ad := [(7, 0xA002)] } })] } } : State).setLevel 15 2).setFld (P.CORE_STATUS.BG_BK.idx 15) 1,
     15,
     by decide +kernel⟩,
    ⟨(({ up with evoth := { up.evoth with cores := [(15, { col := { acc := [(3, 77)], d := [(6, 2 ^ 23), (7, 2 ^ 23)], ad := [(7, 0x9FFC)], st := [(7, 4)] } })] } } : State).setLevel 15 1),
     15,
     5119,
     by decide +kernel⟩,
    ⟨(({ up with evoth := { up.evoth with cores := [(15, { col := { acc := [(3, 77)], d := [(6, 2 ^ 23), (7, 2 ^ 23)], ad := [(7, 0x9FFC)], st := [(7, 4)] } })] } } : State).setLevel 15 1),
     15,
     7,
     6,
     by decide +kernel⟩,
    ⟨(({ up with evoth := { up.evoth with cores := [(15, { col := { acc := [(3, 77)], d := [(6, 2 ^ 23), (7, 2 ^ 23)], ad := [(7, 0x9FFC)], st := [(7, 4)] } })] } } : State).setLevel 15 1),
     15,
     7,
     6,
     by decide +kernel⟩⟩

theorem witness_EvothJobs :
    (∃ (s : State) (row : Nat) (k : Column) (c : Cand),
      s.Awake ∧
      row < 384 ∧
      s.scan.columns.find? (fun k => k.handoff.isSome && !bitOf k.released (row / 96) && !Map.get false k.ready row) = some k ∧
      c ∈ s.rowCands k row ∧
      c.cand + 1 = c.ncand) ∧
    (∃ (s : State) (q : Nat) (k : Column),
      s.Awake ∧
      s.coreUp q = true ∧
      s.level q = 0 ∧
      s.jobColumn q = some k ∧
      k.rowsWaiting q = true) ∧
    (∃ (s : State) (q : Nat),
      s.Awake ∧
      s.coreUp q = true ∧
      s.jobColumn q = none ∧
      s.level q = 0 ∧
      bitOf (s.fld P.EVOTH_CTRL.BG_EN) q = true ∧
      (s.core q).bgPhase = .ready) ∧
    (∃ (s : State) (q : Nat) (len : Nat) (n : Nat),
      s.Awake ∧
      q < 16 ∧
      s.level q = 2 ∧
      s.bit (P.CORE_STATUS.BG_BK.idx q) = true ∧
      (s.core q).block = none ∧
      0 < n ∧
      0 < len) ∧
    (∃ (s : State) (r : Nat),
      s.Awake ∧
      r < 4 ∧
      bitOf s.evoth.reloading r = true ∧
      s.domOn (24 + r) = true) ∧
    (∃ (s : State) (t : Nat) (row : Nat) (e : BitVec 128) (k : Column) (f : Nat) (n : Nat),
      s.Awake ∧
      row < 384 ∧
      s.evoth.refineOn.isSome = true ∧
      (s.core (row / 24)).job = some (f, n) ∧
      s.scan.columns.find? (fun k => decide (k.frame = f ∧ k.seq = n)) = some k ∧
      s.level (row / 24) = 1 ∧
      s.pastColumn (row / 24) k.seq t = false ∧
      t ≤ k.deadline ∧
      bitsOf e.toNat 8 0 = row ∧
      bitsOf e.toNat 31 16 = k.seq ∧
      (k.post row).done = none ∧
      bitOf e.toNat 15 = false ∧
      (∀ x ∈ (k.post row).entries, x.echo ≠ bitsOf e.toNat 79 78)) ∧
    (∃ (s : State) (t : Nat) (row : Nat) (e : BitVec 128) (k : Column) (f : Nat) (n : Nat),
      s.Awake ∧
      row < 384 ∧
      s.evoth.refineOn.isSome = true ∧
      (s.core (row / 24)).job = some (f, n) ∧
      s.scan.columns.find? (fun k => decide (k.frame = f ∧ k.seq = n)) = some k ∧
      s.level (row / 24) = 1 ∧
      s.pastColumn (row / 24) (bitsOf e.toNat 31 16) t = false ∧
      t ≤ k.deadline ∧
      384 ≤ bitsOf e.toNat 8 0) ∧
    (∃ (s : State) (q : Nat) (k : Column),
      s.Awake ∧
      s.coreUp q = true ∧
      s.level q = 2 ∧
      (s.core q).bg.lc = 0 ∧
      s.jobColumn q = some k ∧
      k.rowsWaiting q = true) ∧
    (∃ (s : State) (q : Nat),
      s.Awake ∧
      s.level q = 2 ∧
      (s.core q).bg.lc ≠ 0) ∧
    (∃ (s : State) (t : Nat) (row : Nat) (x : Nat) (e : BitVec 128) (k : Column) (f : Nat) (n : Nat),
      s.Awake ∧
      row < 384 ∧
      s.evoth.refineOn.isSome = true ∧
      (s.core (row / 24)).job = some (f, n) ∧
      s.scan.columns.find? (fun k => decide (k.frame = f ∧ k.seq = n)) = some k ∧
      s.level (row / 24) = 1 ∧
      s.pastColumn (row / 24) (bitsOf e.toNat 31 16) t = false ∧
      t ≤ k.deadline ∧
      x = bitsOf e.toNat 8 0 ∧
      x < 384 ∧
      x / 24 ≠ row / 24 ∧
      (k.post x).error = false) ∧
    (∃ (s : State) (t : Nat) (row : Nat) (e : BitVec 128) (k : Column) (f : Nat) (n : Nat),
      s.Awake ∧
      row < 384 ∧
      s.evoth.refineOn.isSome = true ∧
      (s.core (row / 24)).job = some (f, n) ∧
      s.scan.columns.find? (fun k => decide (k.frame = f ∧ k.seq = n)) = some k ∧
      s.level (row / 24) = 1 ∧
      s.pastColumn (row / 24) k.seq t = false ∧
      k.deadline < t ∧
      bitsOf e.toNat 31 16 = k.seq) :=
  ⟨⟨({ flight [{ col with handoff := some 5000, ready := [(383, true)] }] with evoth := { up.evoth with queues := [(3, [.cand (cand1 382)])] } } : State),
     382,
     { col with handoff := some 5000, ready := [(383, true)] },
     cand1 382,
     by decide +kernel⟩,
    ⟨(({ flight [{ col with handoff := some 5000, ready := [(383, true)] }] with evoth := { up.evoth with queues := [(3, [.cand (cand1 382)])] } } : State).setFld P.PWR_STATUS.DOMAIN_ON (2 ^ 36 - 1)),
     15,
     { col with handoff := some 5000, ready := [(383, true)] },
     by decide +kernel⟩,
    ⟨(({ up with evoth := { up.evoth with cores := [(15, { bgPhase := .ready })] } } : State).setFld P.PWR_STATUS.DOMAIN_ON (2 ^ 36 - 1)).setFld P.EVOTH_CTRL.BG_EN 65535,
     15,
     by decide +kernel⟩,
    ⟨(({ up with evoth := { up.evoth with cores := [(15, { bg := { sr := 1, ad := [(7, 0xA002)] } })] } } : State).setLevel 15 2).setFld (P.CORE_STATUS.BG_BK.idx 15) 1,
     15,
     9,
     5,
     by decide +kernel⟩,
    ⟨({ up with evoth := { up.evoth with reloading := 8 } } : State).setFld P.PWR_STATUS.DOMAIN_ON (2 ^ 36 - 1),
     3,
     by decide +kernel⟩,
    ⟨({ flight [{ col with handoff := some 5000 }] with evoth := { up.evoth with refineOn := some ⟨false, 0, [], [], 0, 0, []⟩, cores := [(15, { job := some (0, 0) })] } } : State).setFld (P.CORE_STATUS.LEVEL.idx 15) 1,
     7,
     383,
     383,
     { col with handoff := some 5000 },
     0,
     0,
     by decide +kernel⟩,
    ⟨({ flight [{ col with handoff := some 5000 }] with evoth := { up.evoth with refineOn := some ⟨false, 0, [], [], 0, 0, []⟩, cores := [(15, { job := some (0, 0) })] } } : State).setFld (P.CORE_STATUS.LEVEL.idx 15) 1,
     7,
     383,
     384,
     { col with handoff := some 5000 },
     0,
     0,
     by decide +kernel⟩,
    ⟨((({ flight [{ col with handoff := some 5000, ready := [(383, true)] }] with evoth := { up.evoth with cores := [(15, { bg := { sr := 1 }, bgPhase := .running, block := some { len := 4, left := 2, cache := [1] } })] } } : State).setFld P.PWR_STATUS.DOMAIN_ON (2 ^ 36 - 1)).setLevel 15 2),
     15,
     { col with handoff := some 5000, ready := [(383, true)] },
     by decide +kernel⟩,
    ⟨(({ up with evoth := { up.evoth with cores := [(15, { bg := { lc := 3 } })] } } : State).setLevel 15 2),
     15,
     by decide +kernel⟩,
    ⟨({ flight [{ col with handoff := some 5000 }] with evoth := { up.evoth with refineOn := some ⟨false, 0, [], [], 0, 0, []⟩, cores := [(15, { job := some (0, 0) })] } } : State).setFld (P.CORE_STATUS.LEVEL.idx 15) 1,
     7,
     383,
     359,
     359,
     { col with handoff := some 5000 },
     0,
     0,
     by decide +kernel⟩,
    ⟨({ flight [{ col with handoff := some 5000 }] with evoth := { up.evoth with refineOn := some ⟨false, 0, [], [], 0, 0, []⟩, cores := [(15, { job := some (0, 0) })] } } : State).setFld (P.CORE_STATUS.LEVEL.idx 15) 1,
     10 ^ 9,
     383,
     0,
     { col with handoff := some 5000 },
     0,
     0,
     by decide +kernel⟩⟩

theorem witness_EventRecorder :
    (∃ (s : State) (t : Nat) (l : Nat) (p : Nat) (n : Nat),
      s.Awake ∧
      s.recSt = 1 ∧
      s.recorder.due = [] ∧
      p < 2 ^ 32 ∧
      n = s.slotState l t ∧
      s.recorder.tick.all (fun k => k.at_ != t) = true ∧
      s.recTerms (s.recorder.levels &&& s.recEnabled) n (p &&& s.recEnabled) s.recorder.patPrev = 0 ∧
      (s.recorder.levels &&& s.recEnabled ≠ n ∨ p &&& s.recEnabled ≠ 0)) ∧
    (∃ (s : State) (t : Nat) (l : Nat),
      s.Awake ∧
      s.recSt = 1 ∧
      s.recorder.due = [] ∧
      s.recorder.tick.all (fun k => k.at_ != t) = true ∧
      s.recorder.levels &&& s.recEnabled = s.slotState l t ∧
      s.recTerms (s.recorder.levels &&& s.recEnabled) (s.slotState l t) 0 s.recorder.patPrev = 0) ∧
    (∃ (s : State) (t : Nat),
      s.Awake ∧
      s.recSt = 2 ∧
      s.recorder.due = [] ∧
      s.fld P.REC_DEPTH.POST_TIME ≠ 0 ∧
      s.recorder.trigTime + s.fld P.REC_DEPTH.POST_TIME ≤ t) ∧
    (∃ (s : State) (t : Nat),
      s.Awake ∧
      s.recSt = 3 ∧
      s.recorder.due = [] ∧
      s.recorder.unload = [] ∧
      s.recorder.ends = none ∧
      s.recorder.unloadFrom + 48 + 7 * s.recorder.unloadRecs ≤ t) ∧
    (∃ (s : State) (ws : List FifoWord) (rest : List FifoWord),
      s.Awake ∧
      s.recSt ≠ 3 ∧
      s.recorder.due = [] ∧
      s.bit P.REC_CTRL.DRAIN = true ∧
      s.stalled 5 = false ∧
      (s.chan 5).items = [] ∧
      splitCapture s.recorder.fifo = some (ws, rest) ∧
      s.ringOn 5 = false) ∧
    (∃ (s : State) (h : HostWrite),
      s.Accepts K.REC_CTRL h ∧
      brings h P.REC_CTRL.EN 1 ∧
      brings h P.REC_CTRL.SW_TRIG 0 ∧
      brings h P.REC_CTRL.STOP 0 ∧
      s.recSt = 0 ∧
      s.recorder.due = []) ∧
    (∃ (s : State) (h : HostWrite),
      s.Accepts K.REC_CTRL h ∧
      brings h P.REC_CTRL.EN 0 ∧
      brings h P.REC_CTRL.SW_TRIG 0 ∧
      brings h P.REC_CTRL.STOP 0 ∧
      s.recSt = 1 ∧
      s.recorder.due = []) ∧
    (∃ (s : State) (h : HostWrite),
      s.Accepts K.REC_CTRL h ∧
      brings h P.REC_CTRL.STOP 1 ∧
      brings h P.REC_CTRL.SW_TRIG 0 ∧
      s.recSt = 2 ∧
      s.recorder.due = []) ∧
    (∃ (s : State) (h : HostWrite),
      s.Accepts K.REC_CTRL h ∧
      brings h P.REC_CTRL.EN 1 ∧
      brings h P.REC_CTRL.SW_TRIG 1 ∧
      brings h P.REC_CTRL.STOP 0 ∧
      s.recSt = 1 ∧
      s.recorder.due = [] ∧
      s.recorder.tick.all (fun k => k.at_ != (s.at_ h.t).now) = true ∧
      s.recorder.levels &&& s.recEnabled = s.slotState s.recorder.levels (s.at_ h.t).now ∧
      s.recTerms (s.recorder.levels &&& s.recEnabled) (s.slotState s.recorder.levels (s.at_ h.t).now) 0 s.recorder.patPrev = 0 ∧
      1 < s.fld P.REC_DEPTH.POST_DEPTH) ∧
    (∃ (s : State) (t : Nat) (l : Nat) (m : Nat),
      s.Awake ∧
      s.recSt = 1 ∧
      s.recorder.due = [(t, m)] ∧
      0 < m ∧
      m < 256 ∧
      s.recorder.levels &&& s.recEnabled = s.slotState l t ∧
      s.recorder.tick.all (fun k => k.at_ != t) = true ∧
      s.recTerms (s.recorder.levels &&& s.recEnabled) (s.slotState l t) 0 s.recorder.patPrev = 0 ∧
      1 < s.fld P.REC_DEPTH.POST_DEPTH) ∧
    (∃ (s : State) (t : Nat) (l : Nat) (p : Nat) (n : Nat) (k : RecTick),
      s.Awake ∧
      s.recSt = 1 ∧
      s.recorder.due = [] ∧
      p < 2 ^ 32 ∧
      n = s.slotState l t ∧
      s.recorder.tick = some k ∧
      k.at_ = t ∧
      k.recorded = true ∧
      k.terms = 0 ∧
      s.recTerms k.old n (k.pulsed ||| (p &&& s.recEnabled)) k.pat = 0) ∧
    (∃ (s : State) (ws : List FifoWord) (rest : List FifoWord) (bytes : List Byte),
      s.Awake ∧
      s.recSt ≠ 3 ∧
      s.recorder.due = [] ∧
      s.bit P.REC_CTRL.DRAIN = true ∧
      s.stalled 5 = false ∧
      (s.chan 5).items = [] ∧
      splitCapture s.recorder.fifo = some (ws, rest) ∧
      bytes = ws.flatMap (fun w => leBytes 8 w.word) ∧
      s.ringOn 5 = true ∧
      bytes.length ≤ s.ringFree 5) :=
  ⟨⟨(up.setRecSt 1).setFld ((P.REC_SEL.EN.idx 7).sub 3 16) 1,
     7,
     2 ^ 31,
     0,
     2 ^ 31,
     by decide +kernel⟩,
    ⟨up.setRecSt 1,
     7,
     5,
     by decide +kernel⟩,
    ⟨(up.setRecSt 2).setFld P.REC_DEPTH.POST_TIME 9,
     9,
     by decide +kernel⟩,
    ⟨up.setRecSt 3,
     48,
     by decide +kernel⟩,
    ⟨({ up with recorder := { up.recorder with fifo := [⟨5, 8, true⟩] } } : State).setFld P.REC_CTRL.DRAIN 1,
     [⟨5, 8, true⟩],
     [],
     by decide +kernel⟩,
    ⟨up,
     wr [(P.REC_CTRL.EN, 1), (P.REC_CTRL.SW_TRIG, 0), (P.REC_CTRL.STOP, 0)],
     by decide +kernel⟩,
    ⟨up.setRecSt 1,
     wr [(P.REC_CTRL.EN, 0), (P.REC_CTRL.SW_TRIG, 0), (P.REC_CTRL.STOP, 0)],
     by decide +kernel⟩,
    ⟨up.setRecSt 2,
     wr [(P.REC_CTRL.STOP, 1), (P.REC_CTRL.SW_TRIG, 0)],
     by decide +kernel⟩,
    ⟨(up.setRecSt 1).setFld P.REC_CTRL.EN 1,
     wr [(P.REC_CTRL.EN, 1), (P.REC_CTRL.SW_TRIG, 1), (P.REC_CTRL.STOP, 0)],
     by decide +kernel⟩,
    ⟨((({ up with recorder := { up.recorder with due := [(7, 16)] } } : State).setRecSt 1).setFld P.REC_DEPTH.POST_DEPTH 2),
     7,
     0,
     16,
     by decide +kernel⟩,
    ⟨({ up with recorder := { up.recorder with pre := [⟨0, 0, 7⟩], tick := some ⟨7, 0, false, 0, 0, true⟩ } } : State).setRecSt 1,
     7,
     0,
     0,
     0,
     ⟨7, 0, false, 0, 0, true⟩,
     by decide +kernel⟩,
    ⟨((({ up with recorder := { up.recorder with fifo := [⟨5, 8, true⟩] } } : State).setFld P.REC_CTRL.DRAIN 1).setFld P.REC_RING.EN 1).setFld P.REC_RING.LOG2_SIZE 16,
     [⟨5, 8, true⟩],
     [],
     leBytes 8 5,
     by decide +kernel⟩⟩

theorem witness_Chargers :
    (∃ (s : State) (t : Nat) (k : Nat) (code : Nat),
      s.Awake ∧
      t % 20 = 0 ∧
      k < 4 ∧
      code < 16384 ∧
      code ≤ s.fld P.CHG_LIMITS.OV_LIMIT ∧
      s.chgActive k = true) ∧
    (∃ (s : State) (t : Nat) (k : Nat) (code : Nat),
      s.Awake ∧
      t % 20 = 0 ∧
      k < 4 ∧
      code < 16384 ∧
      s.fld P.CHG_LIMITS.OV_LIMIT < code ∧
      2 ≤ (s.charger k).ovRun ∧
      s.chgActive k = true) ∧
    (∃ (s : State) (t : Nat),
      s.Awake ∧
      t % 1000 = 0) ∧
    (∃ (s : State) (t : Nat) (k : Nat) (t0 : Nat),
      s.Awake ∧
      k < 4 ∧
      (s.charger k).enSince = some t0 ∧
      t0 + 1000 * s.fld P.CHG_LIMITS.CHG_TIMEOUT ≤ t ∧
      s.chgActive k = true) ∧
    (∃ (s : State) (k : Nat),
      s.Awake ∧
      k < 4 ∧
      s.chgActive k = true) ∧
    (∃ (s : State) (t : Nat),
      s.Awake ∧
      t % (1000 * s.forceFld P.EXP_CFG.EXP_SLOT) = 0) :=
  ⟨⟨(up.setChgState 3 3).setFld P.CHG_LIMITS.OV_LIMIT 9000,
     20,
     3,
     9000,
     by decide +kernel⟩,
    ⟨((up.setChgState 3 3).setFld P.CHG_LIMITS.OV_LIMIT 9000).setCharger 3 { ovRun := 2 },
     20,
     3,
     9001,
     by decide +kernel⟩,
    ⟨(((up.setChgState 3 3).setChgState 2 2).setFld (P.CHG_STATUS.TGT.idx 2) 400).setFld (P.CHG_SET.SLEW.idx 2) 50,
     1000,
     by decide +kernel⟩,
    ⟨(up.setChgState 3 3).setCharger 3 { enSince := some 0, chgEn := true },
     1000 * (up.setChgState 3 3).fld P.CHG_LIMITS.CHG_TIMEOUT,
     3,
     0,
     by decide +kernel⟩,
    ⟨(up.setChgState 3 3),
     3,
     by decide +kernel⟩,
    ⟨up,
     1000000 * (up.forceFld P.EXP_CFG.EXP_SLOT),
     by decide +kernel⟩⟩

theorem witness_EmitterWrites :
    (∃ (s : State) (h : HostWrite),
      s.Accepts K.EMIT_CTRL h ∧
      brings h P.EMIT_CTRL.EMIT_EN 0) ∧
    (∃ (s : State) (h : HostWrite) (k : Nat),
      s.Accepts K.EMIT_CTRL h ∧
      brings h P.EMIT_CTRL.EMIT_EN 1 ∧
      k < 4 ∧
      s.bit (P.CHG_SET.CH_EN.idx k) = true ∧
      s.domOn 33 = true ∧
      s.chgState k = 0 ∧
      s.bit (P.CHG_STATUS.LATCHED.idx k) = false) ∧
    (∃ (s : State) (h : HostWrite) (k : Nat) (v : Nat),
      k < 4 ∧
      s.Accepts (K.CHG_SET + k) h ∧
      brings h (P.CHG_SET.SETPOINT.idx k) v) ∧
    (∃ (s : State) (h : HostWrite) (m : Nat) (k : Nat),
      s.Accepts K.CHG_CLEAR h ∧
      brings h P.CHG_CLEAR.CLEAR m ∧
      k < 4 ∧
      h.coinc = 0) ∧
    (∃ (s : State) (h : HostWrite),
      s.Accepts K.EXP_CFG h) ∧
    (∃ (s : State),
      s.HostOpen ∧
      s.bit P.EXP_CFG.LOCK = true) ∧
    (∃ (s : State) (b : Nat) (v : Nat) (h : HostWrite),
      b < 16 ∧
      s.Accepts (K.EXP_BUDGET + b) h ∧
      brings h (P.EXP_BUDGET.BUDGET.idx b) v) :=
  ⟨⟨((up.setFld P.PWR_STATUS.DOMAIN_ON (2 ^ 36 - 1)).setChgState 2 3).setChgState 1 4,
     wr [(P.EMIT_CTRL.EMIT_EN, 0)],
     by decide +kernel⟩,
    ⟨(up.setFld P.PWR_STATUS.DOMAIN_ON (2 ^ 36 - 1)).setFld (P.CHG_SET.CH_EN.idx 3) 1,
     wr [(P.EMIT_CTRL.EMIT_EN, 1)],
     3,
     by decide +kernel⟩,
    ⟨(up.setFld P.PWR_STATUS.DOMAIN_ON (2 ^ 36 - 1)).setFld (P.CHG_SET.CH_EN.idx 3) 1,
     wr [(P.CHG_SET.SETPOINT.idx 3, 9000)],
     3,
     9000,
     by decide +kernel⟩,
    ⟨(((up.setFld P.PWR_STATUS.DOMAIN_ON (2 ^ 36 - 1)).setFld (P.CHG_SET.CH_EN.idx 3) 1).setFld P.EMIT_CTRL.EMIT_EN 1).setChgState 3 4,
     wr [(P.CHG_CLEAR.CLEAR, 15)],
     15,
     3,
     by decide +kernel⟩,
    ⟨(up.setFld P.PWR_STATUS.DOMAIN_ON (2 ^ 36 - 1)),
     wr [(P.EXP_CFG.LOCK, 1)],
     by decide +kernel⟩,
    ⟨(up.setFld P.PWR_STATUS.DOMAIN_ON (2 ^ 36 - 1)).setFld P.EXP_CFG.LOCK 1,
     by decide +kernel⟩,
    ⟨(up.setFld P.PWR_STATUS.DOMAIN_ON (2 ^ 36 - 1)),
     15,
     1000000,
     wr [(P.EXP_BUDGET.BUDGET.idx 15, 1000000)],
     by decide +kernel⟩⟩

theorem witness_MirrorControl :
    (∃ (s : State) (t : Nat) (i : Int),
      s.Awake ∧
      t % 20 = 0 ∧
      1 ≤ s.mirSt ∧
      s.mirSt ≤ 5 ∧
      s.mirror.takeover = none ∧
      currentCode i = true ∧
      s.bridgeFailed (s.fld P.MIR_STATUS.BRIDGE) = false ∧
      i.natAbs ≤ s.fld P.MIR_CFG.I_TRIP ∧
      s.mirror.drvDue = false ∧
      s.mirror.runDue = false) ∧
    (∃ (s : State) (t : Nat) (i : Int),
      s.Awake ∧
      currentCode i = true ∧
      1 ≤ s.mirSt ∧
      s.mirSt ≤ 5 ∧
      s.fld P.MIR_STATUS.BRIDGE = 0 ∧
      s.mirror.drive = .pos ∧
      s.mirror.driveSince + 1000 * s.fld P.MIR_CFG.STUCK_US ≤ t ∧
      max s.mirror.driveGone (i - s.mirror.driveI) < (s.fld P.MIR_CFG.IBAND : Int) ∧
      s.bit P.MIR_CTRL.SPARE_EN = true ∧
      s.bit P.MIR_STATUS.B1_FAILED = false) ∧
    (∃ (s : State) (t : Nat) (i : Int),
      s.Awake ∧
      currentCode i = true ∧
      1 ≤ s.mirSt ∧
      s.mirSt ≤ 5 ∧
      s.fld P.MIR_STATUS.BRIDGE = 0 ∧
      s.mirror.drive = .pos ∧
      s.mirror.driveSince + 1000 * s.fld P.MIR_CFG.STUCK_US ≤ t ∧
      max s.mirror.driveGone (i - s.mirror.driveI) < (s.fld P.MIR_CFG.IBAND : Int) ∧
      s.bit P.MIR_CTRL.SPARE_EN = false ∧
      s.mirror.runAt ≠ some (s.at_ t).now) ∧
    (∃ (s : State) (t : Nat) (i : Int),
      s.Awake ∧
      currentCode i = true ∧
      s.mirror.takeover = some t) ∧
    (∃ (s : State) (a : AngIn) (l : List AngIn),
      s.Awake ∧
      s.fe.angDue = a :: l ∧
      a.invalid = false ∧
      a.skipped = false) ∧
    (∃ (s : State) (t : Nat) (n : AngSample),
      s.Awake ∧
      1 ≤ s.mirSt ∧
      s.mirSt ≤ 5 ∧
      s.mirror.n = some n ∧
      n.arrived + 1000 * s.fld P.MIR_TOL.STALE_US ≤ t ∧
      s.bridgeFailed (s.fld P.MIR_STATUS.BRIDGE) = false ∧
      s.mirror.runAt ≠ some (s.at_ t).now) ∧
    (∃ (s : State) (t : Nat),
      s.Awake ∧
      t % 10000 = 0 ∧
      2 ≤ s.mirSt ∧
      s.mirSt ≤ 4 ∧
      s.mirror.drvDue = false ∧
      s.mirror.runDue = false) ∧
    (∃ (s : State) (t : Nat),
      s.Awake ∧
      t % 10000 = 0 ∧
      2 ≤ s.mirSt ∧
      s.mirSt ≤ 4 ∧
      s.mirror.overRun < 2 ∧
      s.mirror.drvDue = false ∧
      s.mirror.runDue = false) ∧
    (∃ (s : State) (t : Nat),
      s.Awake ∧
      t % 10000 = 0 ∧
      2 ≤ s.mirSt ∧
      s.mirSt ≤ 4 ∧
      2 ≤ s.mirror.overRun ∧
      s.mirror.drvDue = false ∧
      s.mirror.runDue = false ∧
      s.bridgeFailed (s.fld P.MIR_STATUS.BRIDGE) = false) ∧
    (∃ (s : State) (b : Nat),
      b < 2 ∧
      s.bridgeFailed b = false ∧
      s.mirror.onAt = none) ∧
    (∃ (s : State) (t : Nat) (i : Int),
      s.Awake ∧
      t % 20 = 0 ∧
      1 ≤ s.mirSt ∧
      s.mirSt ≤ 5 ∧
      s.mirror.takeover = none ∧
      currentCode i = true ∧
      s.fld P.MIR_CFG.I_TRIP < i.natAbs ∧
      1 ≤ s.mirror.ocRun ∧
      s.fld P.MIR_STATUS.BRIDGE = 0 ∧
      s.bit P.MIR_CTRL.SPARE_EN = true ∧
      s.bit P.MIR_STATUS.B1_FAILED = false ∧
      s.mirror.drvDue = false ∧
      s.mirror.runDue = false) ∧
    (∃ (s : State) (t : Nat) (i : Int),
      s.Awake ∧
      t % 20 = 0 ∧
      1 ≤ s.mirSt ∧
      s.mirSt ≤ 5 ∧
      s.mirror.takeover = none ∧
      currentCode i = true ∧
      s.fld P.MIR_CFG.I_TRIP < i.natAbs ∧
      1 ≤ s.mirror.ocRun ∧
      s.fld P.MIR_STATUS.BRIDGE = 0 ∧
      s.bit P.MIR_CTRL.SPARE_EN = false ∧
      s.mirror.drvDue = false ∧
      s.mirror.runDue = false ∧
      s.mirror.runAt ≠ some (s.at_ t).now) ∧
    (∃ (s : State) (t : Nat),
      s.Awake ∧
      t % 10000 = 0 ∧
      1 ≤ s.mirSt ∧
      s.mirror.drvDue = true ∧
      s.bit P.MIR_CTRL.DRV_EN = false) ∧
    (∃ (s : State) (t : Nat),
      s.Awake ∧
      t % 10000 = 0 ∧
      2 ≤ s.mirSt ∧
      s.mirSt ≤ 4 ∧
      s.mirror.drvDue = false ∧
      s.mirror.runDue = true ∧
      s.bit P.MIR_CTRL.RUN = false) :=
  ⟨⟨(up.setFld P.MIR_STATUS.STATE 3),
     20,
     0,
     by decide +kernel⟩,
    ⟨((up.setFld P.MIR_STATUS.STATE 3).withMir fun m => { m with drive := .pos }).setFld P.MIR_CTRL.SPARE_EN 1,
     1000 * up.fld P.MIR_CFG.STUCK_US,
     -1,
     by decide +kernel⟩,
    ⟨((up.setFld P.MIR_STATUS.STATE 3).withMir fun m => { m with drive := .pos }).setFld P.MIR_CTRL.SPARE_EN 0,
     1000 * up.fld P.MIR_CFG.STUCK_US,
     -1,
     by decide +kernel⟩,
    ⟨(up.setFld P.MIR_STATUS.STATE 3).withMir fun m => { m with takeover := some 9 },
     9,
     4,
     by decide +kernel⟩,
    ⟨{ up with fe := { up.fe with angDue := [⟨0, 5, 3, false, false⟩] } },
     ⟨0, 5, 3, false, false⟩,
     [],
     by decide +kernel⟩,
    ⟨(up.setFld P.MIR_STATUS.STATE 3).withMir fun m => { m with n := some ⟨0, 0, 0⟩ },
     1000 * up.fld P.MIR_TOL.STALE_US,
     ⟨0, 0, 0⟩,
     by decide +kernel⟩,
    ⟨(up.setFld P.MIR_STATUS.STATE 3),
     10000,
     by decide +kernel⟩,
    ⟨(up.setFld P.MIR_STATUS.STATE 3).withMir fun m => { m with overRun := 1 },
     10000,
     by decide +kernel⟩,
    ⟨(up.setFld P.MIR_STATUS.STATE 3).withMir fun m => { m with overRun := 2 },
     10000,
     by decide +kernel⟩,
    ⟨up,
     1,
     by decide +kernel⟩,
    ⟨(((up.setFld P.MIR_STATUS.STATE 3).withMir fun m => { m with drive := .pos }).withMir fun m => { m with ocRun := 1 }).setFld P.MIR_CTRL.SPARE_EN 1 |>.setFld P.MIR_CFG.I_TRIP 5,
     20,
     6,
     by decide +kernel⟩,
    ⟨(((up.setFld P.MIR_STATUS.STATE 3).withMir fun m => { m with drive := .pos }).withMir fun m => { m with ocRun := 1 }).setFld P.MIR_CTRL.SPARE_EN 0 |>.setFld P.MIR_CFG.I_TRIP 5,
     20,
     -6,
     by decide +kernel⟩,
    ⟨(((up.setFld P.MIR_STATUS.STATE 3)).setFld P.MIR_CTRL.DRV_EN 0).withMir fun m => { m with drvDue := true, runDue := true },
     10000,
     by decide +kernel⟩,
    ⟨(((up.setFld P.MIR_STATUS.STATE 3)).setFld P.MIR_CTRL.RUN 0).withMir fun m => { m with runDue := true },
     10000,
     by decide +kernel⟩⟩

theorem witness_MirrorWrites :
    (∃ (s : State) (h : HostWrite),
      s.Accepts K.MIR_CTRL h ∧
      brings h P.MIR_CTRL.RUN 0 ∧
      brings h P.MIR_CTRL.DRV_EN 1 ∧
      brings h P.MIR_CTRL.RESTART 0 ∧
      s.mirror.tickAt = some (s.at_ h.t).now ∧
      2 ≤ s.mirSt ∧
      s.mirSt ≤ 4) ∧
    (∃ (s : State) (h : HostWrite),
      s.Accepts K.MIR_CTRL h ∧
      brings h P.MIR_CTRL.RUN 1 ∧
      brings h P.MIR_CTRL.DRV_EN 1 ∧
      brings h P.MIR_CTRL.RESTART 0 ∧
      s.mirror.tickAt = some (s.at_ h.t).now ∧
      s.mirSt = 1 ∧
      s.mirror.p = 0) ∧
    (∃ (s : State) (h : HostWrite),
      s.Accepts K.MIR_CTRL h ∧
      brings h P.MIR_CTRL.DRV_EN 0 ∧
      brings h P.MIR_CTRL.RESTART 0 ∧
      s.mirror.tickAt = some (s.at_ h.t).now ∧
      s.mirSt ≠ 0) ∧
    (∃ (s : State) (h : HostWrite) (n : AngSample),
      s.Accepts K.MIR_CTRL h ∧
      brings h P.MIR_CTRL.DRV_EN 1 ∧
      brings h P.MIR_CTRL.RESTART 0 ∧
      s.mirror.tickAt = some (s.at_ h.t).now ∧
      s.mirSt = 0 ∧
      s.mirror.n = some n ∧
      (s.at_ h.t).now ≤ n.arrived + 1000 * s.fld P.MIR_TOL.STALE_US) ∧
    (∃ (s : State) (h : HostWrite),
      s.Accepts K.MIR_CTRL h ∧
      brings h P.MIR_CTRL.DRV_EN 1 ∧
      brings h P.MIR_CTRL.RESTART 1) ∧
    (∃ (s : State) (h : HostWrite),
      s.Accepts K.MIR_RC h ∧
      brings h P.MIR_RC.RC_CLEAR 1) ∧
    (∃ (s : State) (h : HostWrite),
      s.Accepts K.MIR_CTRL h ∧
      brings h P.MIR_CTRL.RUN 0 ∧
      brings h P.MIR_CTRL.DRV_EN 1 ∧
      brings h P.MIR_CTRL.RESTART 0 ∧
      s.mirror.tickAt ≠ some (s.at_ h.t).now) ∧
    (∃ (s : State) (h : HostWrite),
      s.Accepts K.MIR_CTRL h ∧
      brings h P.MIR_CTRL.DRV_EN 0 ∧
      brings h P.MIR_CTRL.RUN 1 ∧
      brings h P.MIR_CTRL.RESTART 0 ∧
      s.mirror.tickAt ≠ some (s.at_ h.t).now) :=
  ⟨⟨(((up.setFld P.MIR_STATUS.STATE 4).setFld P.MIR_GAINS.KP 3).withMir fun m => { m with tickAt := some 5 }),
     wr [(P.MIR_CTRL.DRV_EN, 1), (P.MIR_CTRL.RUN, 0), (P.MIR_CTRL.RESTART, 0)],
     by decide +kernel⟩,
    ⟨(((up.setFld P.MIR_STATUS.STATE 1).setFld P.MIR_GAINS.KP 3).withMir fun m => { m with tickAt := some 5 }),
     wr [(P.MIR_CTRL.DRV_EN, 1), (P.MIR_CTRL.RUN, 1), (P.MIR_CTRL.RESTART, 0)],
     by decide +kernel⟩,
    ⟨(((up.setFld P.MIR_STATUS.STATE 3).setFld P.MIR_GAINS.KP 3).withMir fun m => { m with tickAt := some 5 }),
     wr [(P.MIR_CTRL.DRV_EN, 0), (P.MIR_CTRL.RUN, 1), (P.MIR_CTRL.RESTART, 0)],
     by decide +kernel⟩,
    ⟨((((up.setFld P.MIR_STATUS.STATE 0).setFld P.MIR_GAINS.KP 3).withMir fun m => { m with n := some ⟨0, 0, 2⟩ }).withMir fun m => { m with tickAt := some 5 }),
     wr [(P.MIR_CTRL.DRV_EN, 1), (P.MIR_CTRL.RUN, 1), (P.MIR_CTRL.RESTART, 0)],
     ⟨0, 0, 2⟩,
     by decide +kernel⟩,
    ⟨({ (up.setFld P.MIR_STATUS.STATE 7).setFld P.MIR_GAINS.KP 3 with now := 20000000 } : State).withMir fun m => { m with validSince := some 0, n := some ⟨0, 0, 2⟩ },
     wr [(P.MIR_CTRL.DRV_EN, 1), (P.MIR_CTRL.RUN, 0), (P.MIR_CTRL.RESTART, 1)],
     by decide +kernel⟩,
    ⟨up,
     wr [(P.MIR_RC.RC_CLEAR, 1)],
     by decide +kernel⟩,
    ⟨(up.setFld P.MIR_STATUS.STATE 3).setFld P.MIR_GAINS.KP 3,
     wr [(P.MIR_CTRL.DRV_EN, 1), (P.MIR_CTRL.RUN, 0), (P.MIR_CTRL.RESTART, 0)],
     by decide +kernel⟩,
    ⟨(up.setFld P.MIR_STATUS.STATE 3).setFld P.MIR_GAINS.KP 3,
     wr [(P.MIR_CTRL.DRV_EN, 0), (P.MIR_CTRL.RUN, 1), (P.MIR_CTRL.RESTART, 0)],
     by decide +kernel⟩⟩

theorem witness_ConverterOutput :
    (∃ (s : State) (v : Nat) (g : Grid) (l : List Grid),
      s.Awake ∧
      v < 2 ∧
      (s.conv v).due = g :: l ∧
      g.preset < 4) :=
  ⟨up.withConv 1 fun c => { c with grids := [⟨50, 3, 0, 1, none⟩] },
     1,
     ⟨50, 3, 0, 1, none⟩,
     [],
     by decide +kernel⟩

theorem witness_FrontEndEvents :
    (∃ (s : State) (t : Nat) (v : Nat),
      s.Awake ∧
      t % 50 = 0 ∧
      v < 2 ∧
      s.bit (P.CONV_CFG.EN.idx v) = true ∧
      s.domOn 31 = true ∧
      (s.conv v).flagged = []) ∧
    (∃ (s : State) (t : Nat) (v : Nat) (a : Nat) (b : Nat) (l : List (Nat × Nat)),
      s.Awake ∧
      t % 50 = 0 ∧
      v < 2 ∧
      s.bit (P.CONV_CFG.EN.idx v) = true ∧
      s.domOn 31 = true ∧
      (s.conv v).flagged = (a, b) :: l ∧
      t = b + 50) ∧
    (∃ (s : State) (t : Nat) (v : Nat),
      s.Awake ∧
      v < 2 ∧
      s.bit (P.IMP_CFG.IMP_EN.bitAt v) = true ∧
      s.domOn 31 = true ∧
      (s.conv v).impRun = none ∧
      (∀ x, (s.conv v).impFrom = some x → x + 1000000 * s.fld P.IMP_CFG.IMP_PERIOD ≤ t)) ∧
    (∃ (s : State) (v : Nat) (zp : Nat) (zn : Nat) (a : Nat) (e : Nat),
      s.Awake ∧
      v < 2 ∧
      (s.conv v).impRun = some (a, e) ∧
      zp < 2 ^ 32 ∧
      zn < 2 ^ 32) ∧
    (∃ (s : State) (t : Nat) (j : Nat),
      s.Awake ∧
      j < 2 ∧
      s.bit (P.EXC_CFG.EN.idx j) = true ∧
      s.bit (P.EXC_CFG.MODE.idx j) = true ∧
      s.domOn 31 = true ∧
      marked (s.exc j).marks (nextSample t) = false) ∧
    (∃ (s : State) (j : Nat) (a : Nat) (l : List (Nat × Option Nat)),
      s.Awake ∧
      j < 2 ∧
      (s.exc j).marks = (a, none) :: l) ∧
    (∃ (s : State) (j : Nat) (x : Nat),
      s.Awake ∧
      j < 2 ∧
      s.bit (P.EXC_CFG.CHOP.idx j) = true ∧
      (s.exc j).since = some x) ∧
    (∃ (s : State) (v : Nat) (d : Nat) (l : List Nat),
      s.Awake ∧
      v < 2 ∧
      s.domOn 31 = true ∧
      (s.conv v).syncDue = d :: l ∧
      wordFld (s.convCfg v d) P.CONV_CFG.EN = 1) ∧
    (∃ (s : State) (t : Nat) (o : Nat) (f : Fout),
      s.Awake ∧
      o < 2 ∧
      s.domOn 31 = true ∧
      Map.get {} s.fe.fouts o = f ∧
      f.run = none ∧
      (s.at_ t : State).foutX o = none) ∧
    (∃ (s : State) (t : Nat) (o : Nat) (a : Nat) (p : Nat) (h : Nat) (x : Int),
      s.Awake ∧
      o < 2 ∧
      s.domOn 31 = true ∧
      (Map.get {} s.fe.fouts o).run = some (a, p, h) ∧
      a + p ≤ t ∧
      (s.at_ (a + p)).foutX o = some x) :=
  ⟨⟨(up.setFld (P.CONV_CFG.EN.idx 1) 1).setFld P.PWR_STATUS.DOMAIN_ON (2 ^ 36 - 1),
     50,
     1,
     by decide +kernel⟩,
    ⟨((up.setFld (P.CONV_CFG.EN.idx 1) 1).setFld P.PWR_STATUS.DOMAIN_ON (2 ^ 36 - 1)).withConv 1 fun c => { c with flagged := [(50, 100)] },
     150,
     1,
     50,
     100,
     [],
     by decide +kernel⟩,
    ⟨(up.setFld (P.IMP_CFG.IMP_EN.bitAt 1) 1).setFld P.PWR_STATUS.DOMAIN_ON (2 ^ 36 - 1),
     0,
     1,
     by decide +kernel⟩,
    ⟨(up.setFld (P.CONV_CFG.EN.idx 1) 1).withConv 1 fun c => { c with impRun := some (50, 99) },
     1,
     2 ^ 32 - 1,
     0,
     50,
     99,
     by decide +kernel⟩,
    ⟨((up.setFld (P.EXC_CFG.EN.idx 1) 1).setFld (P.EXC_CFG.MODE.idx 1) 1).setFld P.PWR_STATUS.DOMAIN_ON (2 ^ 36 - 1),
     7,
     1,
     by decide +kernel⟩,
    ⟨up.withExc 1 fun e => { e with marks := [(50, none)] },
     1,
     50,
     [],
     by decide +kernel⟩,
    ⟨(up.setFld (P.EXC_CFG.CHOP.idx 1) 1).withExc 1 fun e => { e with since := some 50 },
     1,
     50,
     by decide +kernel⟩,
    ⟨((up.setFld P.PWR_STATUS.DOMAIN_ON (2 ^ 36 - 1)).setFld (P.CONV_CFG.EN.idx 1) 1).withConv 1 fun c => { c with syncDue := [100] },
     1,
     100,
     [],
     by decide +kernel⟩,
    ⟨(up.setFld P.PWR_STATUS.DOMAIN_ON (2 ^ 36 - 1)),
     7,
     1,
     {},
     by decide +kernel⟩,
    ⟨{ (up.setFld P.PWR_STATUS.DOMAIN_ON (2 ^ 36 - 1)).setFld (P.FOUT_CFG.SRC.idx 1) 4 with fe := { up.fe with fouts := [(1, ⟨some (5, 10, 4)⟩)] } },
     15,
     1,
     5,
     10,
     4,
     0,
     by decide +kernel⟩⟩

theorem witness_HousekeepingConversion :
    (∃ (s : State) (v : Nat) (code : Nat) (ch : Nat) (l : List Nat),
      s.Awake ∧
      v < 3 ∧
      code < 4096 ∧
      s.domOn 32 = true ∧
      (s.hkc v).round = ch :: l ∧
      (∀ j, j < 64 → s.bit (P.ACC_CFG.EN.idx j) = true → s.fld (P.ACC_CFG.CONV.idx j) = v → s.fld (P.ACC_CFG.CH.idx j) = ch → (s.hacc j).n + 1 < 2 ^ s.fld (P.ACC_CFG.LOG2N.idx j))) ∧
    (∃ (s : State) (j : Nat),
      2 ^ s.fld (P.ACC_CFG.LOG2N.idx j) ≤ (s.hacc j).n + 1) ∧
    (∃ (lo : Int) (hi : Int) (h : Int),
      lo ≤ hi ∧
      0 ≤ h) :=
  ⟨⟨((up.setFld (P.ACC_CFG.EN.idx 63) 1).setFld (P.ACC_CFG.CONV.idx 63) 2).setFld (P.ACC_CFG.LOG2N.idx 63) 3 |>.setFld (P.ACC_CFG.CH.idx 63) 9 |>.setFld P.PWR_STATUS.DOMAIN_ON (2 ^ 36 - 1) |>.setHkc 2 { round := [9, 4] },
     2,
     4095,
     9,
     [4],
     by decide +kernel⟩,
    ⟨(up.setFld (P.ACC_CFG.LOG2N.idx 63) 2).setHacc 63 { n := 3, sum := 9 },
     63,
     by decide +kernel⟩,
    ⟨-5,
     5,
     2,
     by decide +kernel⟩⟩

theorem witness_SensorWrites :
    (∃ (s : State) (v : Nat) (h : HostWrite),
      v < 2 ∧
      s.Accepts (K.CONV_CFG + v) h ∧
      brings h (P.CONV_CFG.EN.idx v) 1 ∧
      s.bit (P.CONV_CFG.EN.idx v) = false) ∧
    (∃ (s : State) (m : Nat) (v : Nat) (h : HostWrite),
      s.Accepts K.FE_CTRL h ∧
      brings h P.FE_CTRL.SYNC m ∧
      m ≠ 0 ∧
      v < 2 ∧
      bitOf m v = true ∧
      s.bit (P.CONV_CFG.EN.idx v) = true) ∧
    (∃ (s : State) (m : Nat) (v : Nat) (a : Nat) (l : List (Nat × Option Nat)) (h : HostWrite),
      s.Accepts K.FE_CTRL h ∧
      brings h P.FE_CTRL.IMP_CLEAR m ∧
      brings h P.FE_CTRL.SYNC 0 ∧
      m ≠ 0 ∧
      v < 2 ∧
      bitOf m v = true ∧
      (s.conv v).impGood = true ∧
      h.coinc = 0 ∧
      (s.conv v).impMarks = (a, none) :: l) ∧
    (∃ (s : State) (m : Nat) (v : Nat) (h : HostWrite),
      s.Accepts K.LIN_CTRL h ∧
      brings h P.LIN_CTRL.COMMIT m ∧
      v < 2 ∧
      bitOf m v = true ∧
      (s.conv v).commit = none) ∧
    (∃ (s : State) (j : Nat) (h : HostWrite),
      j < 64 ∧
      s.Accepts (K.ACC_CFG + j) h ∧
      (s.merged (entryOf (K.ACC_CFG + j) h)).1 ≠ 0) ∧
    (∃ (s : State) (h : HostWrite),
      s.Accepts K.CAL_CTRL h ∧
      brings h P.CAL_CTRL.RUN_REQ 1 ∧
      s.farrier.waiting = none) :=
  ⟨⟨up,
     1,
     wr [(P.CONV_CFG.EN.idx 1, 1), (P.CONV_CFG.RANGE.idx 1, 2)],
     by decide +kernel⟩,
    ⟨(up.setFld (P.CONV_CFG.EN.idx 1) 1),
     3,
     1,
     wr [(P.FE_CTRL.SYNC, 3)],
     by decide +kernel⟩,
    ⟨up.withConv 1 fun c => { c with impGood := true, impMarks := [(1, none)] },
     3,
     1,
     1,
     [],
     wr [(P.FE_CTRL.IMP_CLEAR, 3), (P.FE_CTRL.SYNC, 0)],
     by decide +kernel⟩,
    ⟨up,
     2,
     1,
     wr [(P.LIN_CTRL.COMMIT, 2)],
     by decide +kernel⟩,
    ⟨up,
     63,
     wr [(P.ACC_CFG.HIGH.idx 63, 2)],
     by decide +kernel⟩,
    ⟨up,
     wr [(P.CAL_CTRL.RUN_REQ, 1)],
     by decide +kernel⟩⟩

theorem witness_Calibration :
    (∃ (s : State) (t : Nat),
      s.Awake ∧
      s.farrier.strobe = false ∧
      s.scan.fired = true ∧
      sweepEnd s.gait s.phi s.scan.k + 100000 ≤ t ∧
      t ≤ s.boundaryTime) ∧
    (∃ (s : State) (t : Nat),
      s.Awake ∧
      s.farrier.strobe = true ∧
      s.farrier.startup = false ∧
      s.windowOver t = true) ∧
    (∃ (s : State) (c : Nat),
      s.Awake ∧
      s.farrier.waiting = some c ∧
      c < 4 ∧
      s.bit P.CAL_STATUS.RUNNING = false ∧
      (c = 0 ∨ (s.farrier.strobe && s.farrier.runFrom) = true)) ∧
    (∃ (s : State),
      s.Awake ∧
      s.bit P.CAL_STATUS.RUNNING = true ∧
      s.farrier.solved = none ∧
      (s.farrier.startup || s.farrier.winEnded) = true) ∧
    (∃ (s : State) (r : RunResult),
      s.Awake ∧
      s.farrier.solved = some r ∧
      s.farrier.startup = true) ∧
    (∃ (s : State) (t : Nat),
      s.Awake ∧
      wordFld s.farrier.runCtrl P.CAL_CTRL.RERUN_MAX ≠ 0 ∧
      s.bit P.CAL_STATUS.STARTUP_DONE = true ∧
      s.farrier.lastRun + ((wordFld s.farrier.runCtrl P.CAL_CTRL.RERUN_MAX * 1000000000 : Nat) : Int) ≤ ((s.at_ t).now : Int) ∧
      s.farrier.waiting = none) ∧
    (∃ (s : State) (k : Nat) (x : Template),
      s.Awake ∧
      k < 12 ∧
      (Map.get {} s.farrier.gather k).full = true ∧
      fitTemplate (Map.get {} s.farrier.gather k).a (Map.get {} s.farrier.gather k).sigmaSum (Map.get {} s.farrier.gather k).log2 = some x ∧
      fitError x ((s.cluster k).bank (s.cluster k).active) < (Map.get {} s.farrier.gather k).refit) ∧
    (∃ (s : State) (n : Nat) (d : List Int) (lag : Int) (new : Int),
      s.Awake ∧
      s.farrier.angEdges = n ∧
      0 < n ∧
      n ≤ s.farrier.pairs.length ∧
      s.fieldW ≠ 0 ∧
      d = s.farrier.pairs.take n ∧
      lag = s.fldI P.ANG_VIEW.LAG ∧
      new = lag + roundHalfEven (-(sumI d) * gaitD s.gait) (2000 * n * s.fieldW) ∧
      new.natAbs ≤ 20000 ∧
      (new - lag).natAbs ≤ 2000 ∧
      n < 2 ^ P.ANG_VIEW.EDGES.width) :=
  ⟨⟨flight [],
     sweepEnd (flight []).gait (flight []).phi (flight []).scan.k + 100000,
     by decide +kernel⟩,
    ⟨up.withFar fun f => { f with strobe := true, winFrame := 7 },
     7,
     by decide +kernel⟩,
    ⟨up.withFar fun f => { f with waiting := some 3, strobe := true, runFrom := true },
     3,
     by decide +kernel⟩,
    ⟨(up.setFld P.CAL_STATUS.RUNNING 1).withFar fun f => { f with winEnded := true },
     by decide +kernel⟩,
    ⟨up.withFar fun f => { f with solved := some {}, startup := true },
     {},
     by decide +kernel⟩,
    ⟨(up.setFld P.CAL_STATUS.STARTUP_DONE 1).withFar fun f => { f with runCtrl := wordSet f.runCtrl P.CAL_CTRL.RERUN_MAX 1 },
     1000000000,
     by decide +kernel⟩,
    ⟨up.withFar fun f => { f with gather := [(11, { a := [0, 0, 0, 0, 0, 0, 0, 64, 192, 255, 192, 64, 0, 0, 0, 0], sigmaSum := 163840, full := true })] },
     11,
     mkTemplate [64, 192, 255, 192, 64] 2 3 3 40,
     by decide +kernel⟩,
    ⟨up.withFar fun f => { f with angEdges := 2, pairs := [5, 7, 9] },
     2,
     [5, 7],
     0,
     roundHalfEven (-12 * gaitD up.gait) (2000 * 2 * up.fieldW),
     by decide +kernel⟩⟩

theorem witness_SafetyOutputs :
    (∃ (s : State),
      s.Awake) :=
  ⟨up,
     by decide +kernel⟩

theorem witness_SafetyCauses :
    (∃ (s : State),
      s.Awake) ∧
    (∃ (s : State),
      s.Awake) ∧
    (∃ (s : State) (ppm : Int),
      s.Awake ∧
      50000 < ppm.natAbs) ∧
    (∃ (s : State) (ppm : Int),
      s.Awake ∧
      ppm.natAbs ≤ 50000) ∧
    (∃ (s : State),
      s.Awake ∧
      s.anyPad = true) ∧
    (∃ (s : State),
      s.Awake ∧
      s.anyPad = true) ∧
    (∃ (s : State) (t : Nat) (p : Nat) (b : Int),
      s.Awake ∧
      p < 16 ∧
      (s.pad p).halterFrom = some b ∧
      s.coverage p = 1 ∧
      b + ((s.forceFld P.PD_CTRL.HALTER_S * 1000000000 : Nat) : Int) ≤ ((s.at_ t).now : Int)) ∧
    (∃ (s : State) (p : Nat),
      s.Awake ∧
      p < 16 ∧
      s.bit (P.PD_CFG.BUSY.idx p) = true ∧
      s.salsol.executing = none) :=
  ⟨⟨up,
     by decide +kernel⟩,
    ⟨up,
     by decide +kernel⟩,
    ⟨up,
     -50001,
     by decide +kernel⟩,
    ⟨up,
     -50000,
     by decide +kernel⟩,
    ⟨(up.setFld (P.PD_CFG.EN.idx 15) 1),
     by decide +kernel⟩,
    ⟨(up.setFld (P.PD_CFG.EN.idx 15) 1),
     by decide +kernel⟩,
    ⟨(up.setFld (coverageRef 15) 1).withPad 15 fun p => { p with halterFrom := some 0 },
     1000000000 * up.forceFld P.PD_CTRL.HALTER_S,
     15,
     0,
     by decide +kernel⟩,
    ⟨up.setFld (P.PD_CFG.BUSY.idx 15) 1,
     15,
     by decide +kernel⟩⟩

theorem witness_SafetyPins :
    (∃ (s : State) (t : Nat) (j : Nat),
      s.Awake ∧
      j < 4 ∧
      t % 20000000 = 5000000 * j) ∧
    (∃ (s : State) (t : Nat),
      s.Awake ∧
      testPulseOf t = none) ∧
    (∃ (s : State) (t : Nat) (j : Nat) (l : Nat),
      s.Awake ∧
      testPulseOf t = some (j, true) ∧
      300000 ≤ t % 5000000 ∧
      (∀ i, i < 8 → s.forceFld ⟨K.SIO_CFG, 2 * i + 17, 2 * i + 16⟩ = j ∧ bitOf l i = false)) ∧
    (∃ (s : State) (t : Nat) (i : Nat) (a : Nat),
      s.Awake ∧
      i < 8 ∧
      (s.sin i).newSince = some a ∧
      a + s.forceFld P.SIO_CFG.IN_FILTER * 1000000 ≤ (s.at_ t).now ∧
      (s.sin i).fault = false) ∧
    (∃ (s : State) (t : Nat) (p : Nat),
      s.Awake ∧
      p < 4 ∧
      (s.at_ t).discrepant s.sup.disagree p = true ∧
      (s.sin (2 * p)).fault = false ∧
      (s.sin (2 * p + 1)).fault = false) ∧
    (∃ (s : State) (t : Nat) (o : Nat) (c : Nat),
      s.Awake ∧
      o < 2 ∧
      c < 2 ∧
      t % 20000000 = 2500000 + 5000000 * (2 * o + c) ∧
      bitOf (s.fld P.SAFETY_STATUS.OUT_ON) o = true) ∧
    (∃ (s : State) (t : Nat) (l : Nat),
      s.Awake ∧
      (∀ c, c < 4 → bitOf l c = (s.at_ t).soutExpected c)) ∧
    (∃ (s : State) (t : Nat) (l : Nat) (c : Nat),
      s.Awake ∧
      c < 4 ∧
      bitOf l c ≠ (s.at_ t).soutExpected c ∧
      1 ≤ (s.sout c).wrong) :=
  ⟨⟨up,
     15000000,
     3,
     by decide +kernel⟩,
    ⟨up,
     4999999,
     by decide +kernel⟩,
    ⟨{ up with force := planeSet up.force K.SIO_CFG 0 },
     300000,
     0,
     0,
     by decide +kernel⟩,
    ⟨up.withSin 7 fun x => { x with newSince := some 0, value := true },
     1000000 * up.forceFld P.SIO_CFG.IN_FILTER,
     7,
     0,
     by decide +kernel⟩,
    ⟨{ up with force := planeSet up.force P.SIO_CFG.PAIR.key (wordSet (planeGet up.force P.SIO_CFG.PAIR.key) P.SIO_CFG.PAIR 15), sup := { up.sup with disagree := [(3, 0)] } },
     1000000 * up.forceFld P.SIO_CFG.DISC_MS + 1,
     3,
     by decide +kernel⟩,
    ⟨up.setFld P.SAFETY_STATUS.OUT_ON 3,
     17500000,
     1,
     1,
     by decide +kernel⟩,
    ⟨up,
     7,
     0,
     by decide +kernel⟩,
    ⟨up.withSout 3 fun x => { x with wrong := 1 },
     7,
     8,
     3,
     by decide +kernel⟩⟩

theorem witness_SafetyWrites :
    (∃ (s : State) (p : Nat) (n : Nat) (h : HostWrite),
      s.Accepts K.PD_COMMIT h ∧
      brings h P.PD_COMMIT.PADDOCK p ∧
      brings h P.PD_COMMIT.NV n) ∧
    (∃ (s : State) (p : Nat) (h : HostWrite),
      p < 16 ∧
      s.Accepts (K.PD_CFG + p) h ∧
      brings h (P.PD_CFG.EN.idx p) 1 ∧
      s.padOn p = false) ∧
    (∃ (s : State) (p : Nat) (h : HostWrite),
      p < 16 ∧
      s.Accepts (K.PD_CFG + p) h ∧
      brings h (P.PD_CFG.EN.idx p) 0 ∧
      s.padOn p = true) ∧
    (∃ (s : State) (h : HostWrite),
      s.Accepts K.PD_CTRL h ∧
      brings h P.PD_CTRL.SAFE_RESET 1) ∧
    (∃ (s : State) (e : Nat) (h : HostWrite),
      e < 16 ∧
      s.Accepts (K.BR_SRC + e) h ∧
      (s.merged (entryOf (K.BR_SRC + e) h)).1 ≠ 0) ∧
    (∃ (s : State) (l : Nat) (h : HostWrite),
      s.Accepts K.HITCH_CMD h ∧
      brings h P.HITCH_CMD.SLIP 1 ∧
      brings h P.HITCH_CMD.LANE l ∧
      brings h P.HITCH_CMD.LEAVE 0) ∧
    (∃ (s : State) (h : HostWrite) (k : Nat),
      s.Accepts K.HITCH_CMD h ∧
      brings h P.HITCH_CMD.LEAVE 1 ∧
      brings h P.HITCH_CMD.SLIP 0 ∧
      k < 8 ∧
      s.linkId k = k ∧
      s.linkSecure k = true) ∧
    (∃ (s : State) (h : HostWrite),
      s.Accepts K.EYE_CTRL h ∧
      brings h P.EYE_CTRL.START 1) :=
  ⟨⟨((((((up.setFld P.VTX_STAGE.X0 0).setFld P.VTX_STAGE.Y0 0).setFld P.VTX_STAGE.X1 1000).setFld P.VTX_STAGE.Y1 0).setFld (P.VTX_STAGE.X0.idx 1) 500).setFld (P.VTX_STAGE.Y0.idx 1) 1000),
     15,
     3,
     wr [(P.PD_COMMIT.PADDOCK, 15), (P.PD_COMMIT.NV, 3)],
     by decide +kernel⟩,
    ⟨((((up.setFld (P.PD_CFG.NV.idx 15) 3).setFld P.GAIT.GAIT_CUR 1).setFld P.FRAME_SYNC.GATE_ARM 0).setFld P.GATE_CFG.ARM_MODE 0).setFld (P.GATE_CFG.ARM_MODE.idx 1) 0,
     15,
     wr [(P.PD_CFG.EN.idx 15, 1), (P.PD_CFG.Z_HI.idx 15, 3000)],
     by decide +kernel⟩,
    ⟨(((((up.setFld (P.PD_CFG.NV.idx 15) 3).setFld P.GAIT.GAIT_CUR 1).setFld P.FRAME_SYNC.GATE_ARM 0).setFld P.GATE_CFG.ARM_MODE 0).setFld (P.GATE_CFG.ARM_MODE.idx 1) 0).setFld (P.PD_CFG.EN.idx 15) 1,
     15,
     wr [(P.PD_CFG.EN.idx 15, 0)],
     by decide +kernel⟩,
    ⟨up,
     wr [(P.PD_CTRL.SAFE_RESET, 1)],
     by decide +kernel⟩,
    ⟨up,
     15,
     wr [(P.BR_SRC.ID.idx 15, 1)],
     by decide +kernel⟩,
    ⟨up.setLaneSt 7 3,
     7,
     wr [(P.HITCH_CMD.SLIP, 1), (P.HITCH_CMD.LANE, 7), (P.HITCH_CMD.LEAVE, 0)],
     by decide +kernel⟩,
    ⟨linked .none,
     wr [(P.HITCH_CMD.SLIP, 0), (P.HITCH_CMD.LANE, 7), (P.HITCH_CMD.LEAVE, 1)],
     7,
     by decide +kernel⟩,
    ⟨up.setLaneSt 7 4,
     wr [(P.EYE_CTRL.START, 1), (P.EYE_CTRL.LANE, 7)],
     by decide +kernel⟩⟩

theorem witness_BridleReceive :
    (∃ (s : State) (n : Nat) (off : Nat) (b : List Byte),
      s.Awake ∧
      s.linkUp = true ∧
      n < 16 ∧
      b ≠ [] ∧
      off + b.length < 32) ∧
    (∃ (s : State) (n : Nat) (b : List Byte),
      s.Awake ∧
      s.linkUp = true ∧
      n < 16 ∧
      b.length = 32 ∧
      frameField b 28 4 ≠ bridleCrc (b.take 28)) ∧
    (∃ (s : State) (b : List Byte) (e : Nat),
      frameField b 28 4 = bridleCrc (b.take 28) ∧
      frameField b 4 4 = s.brId ∧
      frameField b 0 4 ≠ s.brId ∧
      s.srcOf (frameField b 0 4) false = some e ∧
      kindOk e b = true ∧
      s.forceBit (P.BR_SRC.TIMED.idx e) = false ∧
      (s.src e).time = none ∧
      (s.src e).synced = false ∧
      s.srcState e ≤ 1 ∧
      e < 16) ∧
    (∃ (s : State) (t : Nat) (e : Nat),
      s.Awake ∧
      e < 16 ∧
      s.forceBit (P.BR_SRC.EN.idx e) = true ∧
      s.srcState e ≠ 2 ∧
      (s.src e).timer + s.forceFld (P.BR_SRC.WDOG_MS.idx e) * 1000000 ≤ (s.at_ t).now) ∧
    (∃ (s : State) (e : Nat),
      e < 16 ∧
      s.forceBit (P.BR_SRC.EN.idx e) = true ∧
      s.srcState e ≠ 2 ∧
      (s.src e).expired = true) ∧
    (∃ (s : State) (hitch : Bool) (b : List Byte) (e : Nat) (d : Nat),
      frameField b 28 4 = bridleCrc (b.take 28) ∧
      frameField b 4 4 = s.brId ∧
      frameField b 0 4 ≠ s.brId ∧
      s.srcOf (frameField b 0 4) hitch = some e ∧
      kindOk e b = true ∧
      s.forceBit (P.BR_SRC.TIMED.idx e) = false ∧
      (∀ l, (s.src e).time = some l → 0 < sext 32 (frameField b 10 4 + 2 ^ 32 - l)) ∧
      (s.src e).synced = true ∧
      d = (frameField b 8 2 + 2 ^ 16 - (s.src e).seq) % 2 ^ 16 ∧
      1 ≤ d ∧
      d ≤ s.forceFld P.BR_CFG.SEQ_WIN ∧
      s.srcState e ≤ 1 ∧
      e < 16) ∧
    (∃ (s : State) (hitch : Bool) (b : List Byte) (e : Nat) (d : Nat),
      frameField b 28 4 = bridleCrc (b.take 28) ∧
      frameField b 4 4 = s.brId ∧
      frameField b 0 4 ≠ s.brId ∧
      s.srcOf (frameField b 0 4) hitch = some e ∧
      kindOk e b = true ∧
      s.forceBit (P.BR_SRC.TIMED.idx e) = false ∧
      (∀ l, (s.src e).time = some l → 0 < sext 32 (frameField b 10 4 + 2 ^ 32 - l)) ∧
      (s.src e).synced = true ∧
      d = (frameField b 8 2 + 2 ^ 16 - (s.src e).seq) % 2 ^ 16 ∧
      (d = 0 ∨ s.forceFld P.BR_CFG.SEQ_WIN < d) ∧
      e < 16) :=
  ⟨⟨up,
     15,
     3,
     [1, 2, 3],
     by decide +kernel⟩,
    ⟨up,
     15,
     padTo 32 [1, 2, 3],
     by decide +kernel⟩,
    ⟨{ up with force := [(K.BR_SRC + 15, wordSet (wordSet (up.reg (K.BR_SRC + 15)) (P.BR_SRC.EN.idx 15) 1) (P.BR_SRC.ID.idx 15) 9)] },
     (leBytes 4 9 ++ leBytes 4 0 ++ leBytes 2 5 ++ leBytes 4 77 ++ leBytes 1 1 ++ leBytes 1 12 ++ List.replicate 12 1) ++ leBytes 4 (bridleCrc (leBytes 4 9 ++ leBytes 4 0 ++ leBytes 2 5 ++ leBytes 4 77 ++ leBytes 1 1 ++ leBytes 1 12 ++ List.replicate 12 1)),
     15,
     by decide +kernel⟩,
    ⟨{ up with force := [(K.BR_SRC + 15, wordSet (wordSet (up.reg (K.BR_SRC + 15)) (P.BR_SRC.EN.idx 15) 1) (P.BR_SRC.ID.idx 15) 9)] },
     1000000 * ({ up with force := [(K.BR_SRC + 15, wordSet (wordSet (up.reg (K.BR_SRC + 15)) (P.BR_SRC.EN.idx 15) 1) (P.BR_SRC.ID.idx 15) 9)] } : State).forceFld (P.BR_SRC.WDOG_MS.idx 15),
     15,
     by decide +kernel⟩,
    ⟨({ { up with force := [(K.BR_SRC + 15, wordSet (wordSet (up.reg (K.BR_SRC + 15)) (P.BR_SRC.EN.idx 15) 1) (P.BR_SRC.ID.idx 15) 9)] } with bridle := { up.bridle with srcs := [(15, { expired := true })] } } : State),
     15,
     by decide +kernel⟩,
    ⟨({ { up with force := [(K.BR_SRC + 15, wordSet (wordSet (up.reg (K.BR_SRC + 15)) (P.BR_SRC.EN.idx 15) 1) (P.BR_SRC.ID.idx 15) 9)] } with bridle := { up.bridle with srcs := [(15, { synced := true, seq := 2 })] } } : State),
     false,
     (leBytes 4 9 ++ leBytes 4 0 ++ leBytes 2 5 ++ leBytes 4 77 ++ leBytes 1 1 ++ leBytes 1 12 ++ List.replicate 12 1) ++ leBytes 4 (bridleCrc (leBytes 4 9 ++ leBytes 4 0 ++ leBytes 2 5 ++ leBytes 4 77 ++ leBytes 1 1 ++ leBytes 1 12 ++ List.replicate 12 1)),
     15,
     3,
     by decide +kernel,
     by decide +kernel,
     by decide +kernel,
     by decide +kernel,
     by decide +kernel,
     by decide +kernel,
     no_time (by decide +kernel),
     by decide +kernel,
     by decide +kernel,
     by decide +kernel,
     by decide +kernel,
     by decide +kernel,
     by decide +kernel⟩,
    ⟨({ { up with force := [(K.BR_SRC + 15, wordSet (wordSet (up.reg (K.BR_SRC + 15)) (P.BR_SRC.EN.idx 15) 1) (P.BR_SRC.ID.idx 15) 9)] } with bridle := { up.bridle with srcs := [(15, { synced := true, seq := 5 })] } } : State),
     false,
     (leBytes 4 9 ++ leBytes 4 0 ++ leBytes 2 5 ++ leBytes 4 77 ++ leBytes 1 1 ++ leBytes 1 12 ++ List.replicate 12 1) ++ leBytes 4 (bridleCrc (leBytes 4 9 ++ leBytes 4 0 ++ leBytes 2 5 ++ leBytes 4 77 ++ leBytes 1 1 ++ leBytes 1 12 ++ List.replicate 12 1)),
     15,
     0,
     by decide +kernel,
     by decide +kernel,
     by decide +kernel,
     by decide +kernel,
     by decide +kernel,
     by decide +kernel,
     no_time (by decide +kernel),
     by decide +kernel,
     by decide +kernel,
     by decide +kernel,
     by decide +kernel⟩⟩

theorem witness_LaneBringUp :
    (∃ (s : State) (l : Nat),
      s.Awake ∧
      l < 8 ∧
      s.laneSt l = 0 ∧
      bitOf (s.fld P.HITCH_CTRL.LANE_EN) l = true ∧
      s.lanePowered l = true) ∧
    (∃ (s : State) (t : Nat) (l : Nat) (p : Nat),
      s.Awake ∧
      l < 8 ∧
      p < 8 ∧
      s.laneSt l = 1 ∧
      (s.lanePhy l).since + 100000 ≤ (s.at_ t).now) ∧
    (∃ (s : State) (t : Nat) (l : Nat),
      s.Awake ∧
      l < 8 ∧
      s.laneSt l = 2 ∧
      (s.lanePhy l).since + 1000000 ≤ (s.at_ t).now) ∧
    (∃ (s : State) (l : Nat),
      s.Awake ∧
      l < 8 ∧
      s.laneSt l = 3 ∧
      s.bit P.HITCH_CTRL.AUTO_ALIGN = true ∧
      s.fld (P.LANE_STATUS.SLIPS.idx l) < 39) ∧
    (∃ (s : State) (l : Nat),
      s.Awake ∧
      l < 8 ∧
      s.laneSt l = 3) ∧
    (∃ (s : State) (l : Nat),
      s.Awake ∧
      l < 8 ∧
      s.laneSt l = 3 ∧
      s.fld (P.LANE_STATUS.SLIPS.idx l) = 39) ∧
    (∃ (s : State) (l : Nat),
      s.Awake ∧
      l < 8 ∧
      3 ≤ s.laneSt l) ∧
    (∃ (s : State) (l : Nat),
      s.Awake ∧
      l < 8 ∧
      s.laneSt l = 3) :=
  ⟨⟨((up.setFld P.HITCH_CTRL.LANE_EN 255).setFld P.PWR_STATUS.DOMAIN_ON (2 ^ 36 - 1)),
     7,
     by decide +kernel⟩,
    ⟨up.setLaneSt 7 1,
     100000,
     7,
     7,
     by decide +kernel⟩,
    ⟨up.setLaneSt 7 2,
     1000000,
     7,
     by decide +kernel⟩,
    ⟨(up.setLaneSt 7 3).setFld (P.LANE_STATUS.SLIPS.idx 7) 38,
     7,
     by decide +kernel⟩,
    ⟨up.setLaneSt 7 3,
     7,
     by decide +kernel⟩,
    ⟨(up.setLaneSt 7 3).setFld (P.LANE_STATUS.SLIPS.idx 7) 39,
     7,
     by decide +kernel⟩,
    ⟨up.setLaneSt 7 3,
     7,
     by decide +kernel⟩,
    ⟨up.setLaneSt 7 3,
     7,
     by decide +kernel⟩⟩

set_option maxRecDepth 100000 in
theorem witness_LaneDetach :
    (∃ (s : State) (l : Nat),
      s.Awake ∧
      l < 8 ∧
      2 ≤ s.laneSt l ∧
      s.laneSt l < 4 ∧
      s.hitch.eye = none) ∧
    (∃ (s : State) (l : Nat),
      s.Awake ∧
      l < 8 ∧
      4 ≤ s.laneSt l) ∧
    (∃ (s : State) (v : State) (t : Nat) (l : Nat) (w : LaneStreams) (b : List Byte),
      s.Awake ∧
      (s.at_ t).hitchReceive l 0x15 w = (some b, v)) ∧
    (∃ (s : State) (v : State) (t : Nat) (l : Nat) (w : LaneStreams),
      s.Awake ∧
      (s.at_ t).hitchReceive l 0x15 w = (none, v)) ∧
    (∃ (s : State) (t : Nat) (n : Nat) (e : EyeScan),
      s.Awake ∧
      s.hitch.eye = some e ∧
      n < 2 ^ 40 ∧
      e.start ≤ (s.at_ t).now ∧
      4 * 2 ^ e.dwell ≤ 25 * ((s.at_ t).now - e.start)) :=
  ⟨⟨up.setLaneSt 7 3,
     7,
     by decide +kernel⟩,
    ⟨linked .none,
     7,
     by decide +kernel⟩,
    ⟨linked .none,
     received (linked .none) 7 0x15,
     7,
     7,
     onWire [] 0x15 1 (leBytes 8 1),
     leBytes 8 1,
     by decide +kernel⟩,
    ⟨up,
     up.at_ 7,
     7,
     7,
     onWire [] 0x15 1 [],
     by decide +kernel⟩,
    ⟨{ up with hitch := { up.hitch with eye := some ⟨7, 5, 2, false⟩ } },
     6,
     2 ^ 40 - 1,
     ⟨7, 5, 2, false⟩,
     by decide +kernel⟩⟩

set_option maxRecDepth 100000 in
theorem witness_LinkHandshake_1 :
    (∃ (s : State) (t : Nat) (l : Nat) (r : Nat),
      s.Awake ∧
      l < 8 ∧
      s.laneSt l = 4 ∧
      (s.link (s.linkId l)).retryAt = some r ∧
      r ≤ (s.at_ t).now ∧
      s.bit P.HITCH_CTRL.TEAM_EN = true) :=
  ⟨(shaking { retryAt := some 5 }).setFld P.HITCH_CTRL.TEAM_EN 1,
     5,
     7,
     5,
     by decide +kernel⟩

set_option maxRecDepth 100000 in
theorem witness_LinkHandshake_2 :
    (∃ (s : State) (v : State) (t : Nat) (l : Nat) (w : LaneStreams) (b : List Byte),
      s.Awake ∧
      (s.at_ t).hitchReceive l 0x01 w = (some b, v) ∧
      leNat ((b.drop 8).take 1) ≤ 1 ∧
      leNat ((b.drop 9).take 1) ≤ 15 ∧
      1 ≤ leNat ((b.drop 18).take 1) ∧
      leNat ((b.drop 18).take 1) ≤ 16 ∧
      leNat ((b.drop 19).take 1) ≤ 15 ∧
      bitOf (leNat ((b.drop 19).take 1)) (l / 2) = true ∧
      v.linkSecure (v.linkId l) = false ∧
      v.bit P.HITCH_CTRL.TEAM_EN = true ∧
      (v.link (v.linkId l)).retryAt = none ∧
      (v.link (v.linkId l)).helloRx ≠ b ∧
      leNat (b.take 8) ≠ v.devId) :=
  ⟨(shaking {}).setFld P.HITCH_CTRL.TEAM_EN 1,
     received ((shaking {}).setFld P.HITCH_CTRL.TEAM_EN 1) 7 0x01,
     7,
     7,
     onWire [] 0x01 1 (leBytes 8 9 ++ leBytes 1 1 ++ leBytes 1 15 ++ leBytes 8 0 ++ leBytes 1 16 ++ leBytes 1 15),
     leBytes 8 9 ++ leBytes 1 1 ++ leBytes 1 15 ++ leBytes 8 0 ++ leBytes 1 16 ++ leBytes 1 15,
     by decide +kernel,
     by decide +kernel,
     by decide +kernel⟩

set_option maxRecDepth 100000 in
theorem witness_LinkHandshake_3 :
    (∃ (s : State) (v : State) (t : Nat) (l : Nat) (w : LaneStreams) (b : List Byte),
      s.Awake ∧
      (s.at_ t).hitchReceive l 0x02 w = (some b, v) ∧
      leNat (b.take 4) + (b.length - 8) ≤ leNat ((b.drop 4).take 4) ∧
      (s.link (s.linkId l)).verifying = false ∧
      (s.link (s.linkId l)).certOk = false ∧
      (s.link (s.linkId l)).helloRx ≠ [] ∧
      (s.link (s.linkId l)).retryAt = none) :=
  ⟨shaking { helloRx := [1] },
     received (shaking { helloRx := [1] }) 7 0x02,
     7,
     7,
     onWire [] 0x02 1 (leBytes 4 0 ++ leBytes 4 10 ++ [1, 2]),
     leBytes 4 0 ++ leBytes 4 10 ++ [1, 2],
     by decide +kernel,
     by decide +kernel,
     by decide +kernel⟩

set_option maxRecDepth 100000 in
theorem witness_LinkHandshake_4 :
    (∃ (s : State) (l : Nat),
      s.Awake ∧
      l < 8 ∧
      (s.link (s.linkId l)).verifying = true ∧
      s.hitchCertOk (assemble (s.link (s.linkId l)).pieces) = false) :=
  ⟨shaking { verifying := true },
     7,
     by decide +kernel⟩

set_option maxRecDepth 100000 in
theorem witness_LinkHandshake_5 :
    (∃ (s : State) (v : State) (t : Nat) (l : Nat) (w : LaneStreams) (b : List Byte),
      s.Awake ∧
      (s.at_ t).hitchReceive l 0x03 w = (some b, v) ∧
      (s.link (s.linkId l)).ctRx = [] ∧
      (s.link (s.linkId l)).helloRx ≠ [] ∧
      (s.link (s.linkId l)).retryAt = none) :=
  ⟨shaking { helloRx := [1] },
     received (shaking { helloRx := [1] }) 7 0x03,
     7,
     7,
     onWire [] 0x03 1 (List.replicate 1088 1),
     List.replicate 1088 1,
     by decide +kernel,
     by decide +kernel,
     by decide +kernel⟩

set_option maxRecDepth 100000 in
theorem witness_LinkHandshake_6 :
    (∃ (s : State) (v : State) (t : Nat) (l : Nat) (w : LaneStreams) (b : List Byte) (y : Session),
      s.Awake ∧
      (s.at_ t).hitchReceive l 0x04 w = (some b, v) ∧
      (v.link (v.linkId l)).session = some y ∧
      (v.link (v.linkId l)).finishOk = false ∧
      b.take 16 = (hmacSha256 y.macRx (labelFinish ++ v.transcript (v.linkId l))).take 16 ∧
      v.bit P.HITCH_CTRL.TEAM_AUTH = false) :=
  ⟨(shaking { session := some ⟨[], [], [], [], 0, 0⟩ }).setFld P.HITCH_CTRL.TEAM_AUTH 0,
     received ((shaking { session := some ⟨[], [], [], [], 0, 0⟩ }).setFld P.HITCH_CTRL.TEAM_AUTH 0) 7 0x04,
     7,
     7,
     onWire [] 0x04 1 ((hmacSha256 [] (labelFinish ++ ((shaking { session := some ⟨[], [], [], [], 0, 0⟩ }).setFld P.HITCH_CTRL.TEAM_AUTH 0).transcript 7)).take 16 ++ List.replicate 16 0),
     (hmacSha256 [] (labelFinish ++ ((shaking { session := some ⟨[], [], [], [], 0, 0⟩ }).setFld P.HITCH_CTRL.TEAM_AUTH 0).transcript 7)).take 16 ++ List.replicate 16 0,
     ⟨[], [], [], [], 0, 1⟩,
     by decide +kernel,
     by decide +kernel,
     by decide +kernel⟩

set_option maxRecDepth 100000 in
theorem witness_LinkHandshake_7 :
    (∃ (s : State) (v : State) (t : Nat) (l : Nat) (w : LaneStreams) (b : List Byte) (y : Session),
      s.Awake ∧
      (s.at_ t).hitchReceive l 0x04 w = (some b, v) ∧
      (v.link (v.linkId l)).session = some y ∧
      (v.link (v.linkId l)).finishOk = false ∧
      b.take 16 ≠ (hmacSha256 y.macRx (labelFinish ++ v.transcript (v.linkId l))).take 16) :=
  ⟨(shaking { session := some ⟨[], [], [], [], 0, 0⟩ }).setFld P.HITCH_CTRL.TEAM_AUTH 0,
     received ((shaking { session := some ⟨[], [], [], [], 0, 0⟩ }).setFld P.HITCH_CTRL.TEAM_AUTH 0) 7 0x04,
     7,
     7,
     onWire [] 0x04 1 (List.replicate 32 0),
     List.replicate 32 0,
     ⟨[], [], [], [], 0, 1⟩,
     by decide +kernel,
     by decide +kernel,
     by decide +kernel⟩

set_option maxRecDepth 100000 in
theorem witness_LinkHandshake_8 :
    (∃ (s : State) (t : Nat) (l : Nat) (k : Nat) (w : HitchWait),
      s.Awake ∧
      l < 8 ∧
      4 ≤ s.laneSt l ∧
      Map.find? (s.link (s.linkId l)).waits k = some w ∧
      w.sent + 10000000 ≤ (s.at_ t).now ∧
      w.again < 3 ∧
      k ≠ 0x02) :=
  ⟨shaking { waits := [(4, ⟨0, 2, []⟩)] },
     10000000,
     7,
     4,
     ⟨0, 2, []⟩,
     by decide +kernel⟩

set_option maxRecDepth 100000 in
theorem witness_LinkHandshake_9 :
    (∃ (s : State) (t : Nat) (l : Nat) (k : Nat) (w : HitchWait),
      s.Awake ∧
      l < 8 ∧
      4 ≤ s.laneSt l ∧
      Map.find? (s.link (s.linkId l)).waits k = some w ∧
      w.sent + 10000000 ≤ (s.at_ t).now ∧
      3 ≤ w.again) :=
  ⟨shaking { waits := [(4, ⟨0, 3, []⟩)] },
     10000000,
     7,
     4,
     ⟨0, 3, []⟩,
     by decide +kernel⟩

set_option maxRecDepth 100000 in
theorem witness_LinkHandshake_10 :
    (∃ (s : State) (v : State) (t : Nat) (l : Nat) (w : LaneStreams) (b : List Byte),
      s.Awake ∧
      (s.at_ t).hitchReceive l 0x01 w = (some b, v) ∧
      leNat ((b.drop 8).take 1) ≤ 1 ∧
      leNat ((b.drop 9).take 1) ≤ 15 ∧
      1 ≤ leNat ((b.drop 18).take 1) ∧
      leNat ((b.drop 18).take 1) ≤ 16 ∧
      leNat ((b.drop 19).take 1) ≤ 15 ∧
      v.linkSecure (v.linkId l) = false ∧
      v.bit P.HITCH_CTRL.TEAM_EN = true ∧
      (v.link (v.linkId l)).retryAt = none ∧
      (v.link (v.linkId l)).helloRx = b) :=
  ⟨(shaking { helloRx := leBytes 8 9 ++ leBytes 1 1 ++ leBytes 1 15 ++ leBytes 8 0 ++ leBytes 1 16 ++ leBytes 1 15 }).setFld P.HITCH_CTRL.TEAM_EN 1,
     received ((shaking { helloRx := leBytes 8 9 ++ leBytes 1 1 ++ leBytes 1 15 ++ leBytes 8 0 ++ leBytes 1 16 ++ leBytes 1 15 }).setFld P.HITCH_CTRL.TEAM_EN 1) 7 0x01,
     7,
     7,
     onWire [] 0x01 1 (leBytes 8 9 ++ leBytes 1 1 ++ leBytes 1 15 ++ leBytes 8 0 ++ leBytes 1 16 ++ leBytes 1 15),
     leBytes 8 9 ++ leBytes 1 1 ++ leBytes 1 15 ++ leBytes 8 0 ++ leBytes 1 16 ++ leBytes 1 15,
     by decide +kernel,
     by decide +kernel,
     by decide +kernel⟩

set_option maxRecDepth 100000 in
theorem witness_LinkHandshake_11 :
    (∃ (s : State) (v : State) (t : Nat) (l : Nat) (w : LaneStreams) (b : List Byte) (y : Session),
      s.Awake ∧
      (s.at_ t).hitchReceive l 0x04 w = (some b, v) ∧
      (v.link (v.linkId l)).session = some y ∧
      (v.link (v.linkId l)).finishOk = true) :=
  ⟨shaking { session := some ⟨[], [], [], [], 0, 0⟩, finishOk := true },
     received (shaking { session := some ⟨[], [], [], [], 0, 0⟩, finishOk := true }) 7 0x04,
     7,
     7,
     onWire [] 0x04 1 ((hmacSha256 [] (labelFinish ++ ((shaking { session := some ⟨[], [], [], [], 0, 0⟩ }).setFld P.HITCH_CTRL.TEAM_AUTH 0).transcript 7)).take 16 ++ List.replicate 16 0),
     (hmacSha256 [] (labelFinish ++ ((shaking { session := some ⟨[], [], [], [], 0, 0⟩ }).setFld P.HITCH_CTRL.TEAM_AUTH 0).transcript 7)).take 16 ++ List.replicate 16 0,
     ⟨[], [], [], [], 0, 1⟩,
     by decide +kernel,
     by decide +kernel,
     by decide +kernel⟩

set_option maxRecDepth 100000 in
theorem witness_LinkHandshake_12 :
    (∃ (s : State) (t : Nat) (l : Nat) (w : HitchWait),
      s.Awake ∧
      l < 8 ∧
      4 ≤ s.laneSt l ∧
      Map.find? (s.link (s.linkId l)).waits 0x02 = some w ∧
      w.sent + 10000000 ≤ (s.at_ t).now ∧
      w.again < 3) :=
  ⟨shaking { waits := [(2, ⟨0, 2, []⟩)] },
     10000000,
     7,
     ⟨0, 2, []⟩,
     by decide +kernel⟩

set_option maxRecDepth 100000 in
theorem witness_TeamMessages_1 :
    (∃ (s : State) (v : State) (t : Nat) (l : Nat) (e : List LaneWord) (o : List LaneWord) (b : List Byte) (x : TeamBody),
      s.Awake ∧
      (s.at_ t).hitchReceive l 0x10 ⟨e, o⟩ = (some b, v) ∧
      readTeam b = some x ∧
      (v.link (v.linkId l)).role = .none) :=
  ⟨linked .none,
     received (linked .none) 7 0x10,
     7,
     7,
     (onWire [] 0x10 1 (teamBytes ⟨up.leadId, 9, []⟩)).even,
     [],
     teamBytes ⟨up.leadId, 9, []⟩,
     ⟨up.leadId, 9, []⟩,
     by decide +kernel,
     by decide +kernel,
     by decide +kernel⟩

set_option maxRecDepth 100000 in
theorem witness_TeamMessages_2 :
    (∃ (s : State) (v : State) (t : Nat) (l : Nat) (e : List LaneWord) (o : List LaneWord) (b : List Byte) (x : TeamBody),
      s.Awake ∧
      (s.at_ t).hitchReceive l 0x10 ⟨e, o⟩ = (some b, v) ∧
      readTeam b = some x ∧
      v.linkId l < 8 ∧
      (v.link (v.linkId l)).role = .none ∧
      x.lead = v.leadId ∧
      (∀ j, j ≠ v.linkId l → (v.link j).teamHeld = none) ∧
      (∀ j, j < v.linkId l → (v.link j).finishOk = false ∨ (v.link j).role ≠ .none)) :=
  ⟨linked .none,
     received (linked .none) 7 0x10,
     7,
     7,
     (onWire [] 0x10 1 (teamBytes ⟨up.leadId, 9, []⟩)).even,
     [],
     teamBytes ⟨up.leadId, 9, []⟩,
     ⟨up.leadId, 9, []⟩,
     by decide +kernel,
     by decide +kernel,
     by decide +kernel,
     by decide +kernel,
     by decide +kernel,
     by decide +kernel,
     by
      intro j _
      exact held_none _ (by decide +kernel) j,
     by decide +kernel⟩

set_option maxRecDepth 100000 in
theorem witness_TeamMessages_3 :
    (∃ (s : State) (v : State) (t : Nat) (l : Nat) (e : List LaneWord) (o : List LaneWord) (b : List Byte) (x : JoinBody),
      s.Awake ∧
      (s.at_ t).hitchReceive l 0x11 ⟨e, o⟩ = (some b, v) ∧
      readJoin b = some x ∧
      (v.link (v.linkId l)).role = .child ∧
      v.isMember = false) :=
  ⟨linked .child,
     received (linked .child) 7 0x11,
     7,
     7,
     (onWire [] 0x11 1 (joinBytes ⟨9, [⟨5, 3, 0, 6, 1, 7⟩]⟩)).even,
     [],
     joinBytes ⟨9, [⟨5, 3, 0, 6, 1, 7⟩]⟩,
     ⟨9, [⟨5, 3, 0, 6, 1, 7⟩]⟩,
     by decide +kernel,
     by decide +kernel,
     by decide +kernel⟩

set_option maxRecDepth 100000 in
theorem witness_TeamMessages_4 :
    (∃ (s : State) (v : State) (t : Nat) (l : Nat) (g : Nat) (p : Nat) (e : List LaneWord) (o : List LaneWord) (b : List Byte) (x : SlotBody),
      s.Awake ∧
      (s.at_ t).hitchReceive l 0x12 ⟨e, o⟩ = (some b, v) ∧
      readSlot b = some x ∧
      v.isMember = true ∧
      x.lead = v.leadId ∧
      (v.link (v.linkId l)).role = .parent ∧
      x.phases[v.fld P.TEAM_STATUS.OWN_SLOT]? = some (g, p) ∧
      g = v.fld P.GAIT.GAIT_NEXT) :=
  ⟨((linked .parent).setFld P.TEAM_STATUS.ROLE 2).setFld P.TEAM_STATUS.OWN_SLOT 1,
     received (((linked .parent).setFld P.TEAM_STATUS.ROLE 2).setFld P.TEAM_STATUS.OWN_SLOT 1) 7 0x12,
     7,
     7,
     2,
     77,
     (onWire [] 0x12 1 (slotBytes (slotGiven (2) 77))).even,
     [],
     slotBytes (slotGiven (2) 77),
     slotGiven (2) 77,
     by decide +kernel,
     by decide +kernel,
     by decide +kernel⟩

set_option maxRecDepth 100000 in
theorem witness_TeamMessages_5 :
    (∃ (s : State) (v : State) (t : Nat) (l : Nat) (n : Nat) (te : Nat) (e : List LaneWord) (o : List LaneWord) (b : List Byte) (sec : List Byte),
      s.Awake ∧
      (s.at_ t).hitchReceive l 0x13 ⟨e, o⟩ = (some b, v) ∧
      readEpoch b = ⟨v.leadId, some (n, sec, te), none⟩ ∧
      v.isMember = true ∧
      (v.link (v.linkId l)).role = .parent ∧
      v.hitch.needEpoch = true) :=
  ⟨{ (linked .parent).setFld P.TEAM_STATUS.ROLE 2 with hitch := { (linked .parent).hitch with needEpoch := true } },
     received ({ (linked .parent).setFld P.TEAM_STATUS.ROLE 2 with hitch := { (linked .parent).hitch with needEpoch := true } }) 7 0x13,
     7,
     7,
     2 ^ 32 - 1,
     9,
     (onWire [] 0x13 1 (epochSealed)).even,
     [],
     epochBytes ⟨up.leadId, some (2 ^ 32 - 1, List.replicate 32 7, 9), none⟩,
     List.replicate 32 7,
     by decide +kernel,
     by decide +kernel,
     by decide +kernel⟩

set_option maxRecDepth 100000 in
theorem witness_TeamMessages_6 :
    (∃ (s : State) (v : State) (t : Nat) (l : Nat) (g : Nat) (id : Nat) (n : Nat) (e : List LaneWord) (o : List LaneWord) (b : List Byte),
      s.Awake ∧
      (s.at_ t).hitchReceive l 0x14 ⟨e, o⟩ = (some b, v) ∧
      readPhaseReq b = some (id, g) ∧
      (v.link (v.linkId l)).role = .child ∧
      v.isMember = false ∧
      slotOf v.table id = some n) :=
  ⟨{ linked .child with hitch := { (linked .child).hitch with slots := [(3, ⟨9, 0, 1, 0, 0, 2, 0, false⟩)] } },
     received ({ linked .child with hitch := { (linked .child).hitch with slots := [(3, ⟨9, 0, 1, 0, 0, 2, 0, false⟩)] } }) 7 0x14,
     7,
     7,
     1,
     9,
     3,
     (onWire [] 0x14 1 (phaseReqBytes 9 1)).even,
     [],
     phaseReqBytes 9 1,
     by decide +kernel,
     by decide +kernel,
     by decide +kernel⟩

set_option maxRecDepth 100000 in
theorem witness_TeamMessages_7 :
    (∃ (s : State) (t : Nat) (n : Nat) (x : TeamSlot),
      s.Awake ∧
      Map.find? s.hitch.slots n = some x ∧
      x.state = 2 ∧
      x.holdUntil ≤ (s.at_ t).now) :=
  ⟨{ up.setFld P.TEAM_STATUS.ROLE 2 with hitch := { up.hitch with slots := [(15, ⟨5, 0, 2, 0, 0, 2, 7, false⟩)] } },
     7,
     15,
     ⟨5, 0, 2, 0, 0, 2, 7, false⟩,
     by decide +kernel⟩

set_option maxRecDepth 100000 in
theorem witness_TeamMessages_8 :
    (∃ (s : State) (v : State) (t : Nat) (l : Nat) (w : LaneStreams) (b : List Byte),
      s.Awake ∧
      (s.at_ t).hitchReceive l 0x30 w = (some b, v) ∧
      v.teamLinks.contains (v.linkId l) = true ∧
      frameField b 4 4 ≠ 0xFFFFFFFF) :=
  ⟨linked .child,
     received (linked .child) 7 0x30,
     7,
     7,
     onWire [] 0x30 1 (List.replicate 32 0),
     List.replicate 32 0,
     by decide +kernel,
     by decide +kernel,
     by decide +kernel⟩

set_option maxRecDepth 100000 in
theorem witness_TeamMessages_9 :
    (∃ (s : State) (v : State) (t : Nat) (l : Nat) (w : LaneStreams) (b : List Byte),
      s.Awake ∧
      (s.at_ t).hitchReceive l 0x30 w = (some b, v) ∧
      v.teamLinks.contains (v.linkId l) = false) :=
  ⟨linked .none,
     received (linked .none) 7 0x30,
     7,
     7,
     onWire [] 0x30 1 (List.replicate 32 0),
     List.replicate 32 0,
     by decide +kernel,
     by decide +kernel,
     by decide +kernel⟩

set_option maxRecDepth 100000 in
theorem witness_TeamMessages_10 :
    (∃ (s : State) (v : State) (t : Nat) (l : Nat) (g : Nat) (p : Nat) (e : List LaneWord) (o : List LaneWord) (b : List Byte) (x : SlotBody),
      s.Awake ∧
      (s.at_ t).hitchReceive l 0x12 ⟨e, o⟩ = (some b, v) ∧
      readSlot b = some x ∧
      v.isMember = true ∧
      x.lead = v.leadId ∧
      (v.link (v.linkId l)).role = .parent ∧
      x.phases[v.fld P.TEAM_STATUS.OWN_SLOT]? = some (g, p) ∧
      g ≠ v.fld P.GAIT.GAIT_NEXT) :=
  ⟨((linked .parent).setFld P.TEAM_STATUS.ROLE 2).setFld P.TEAM_STATUS.OWN_SLOT 1,
     received (((linked .parent).setFld P.TEAM_STATUS.ROLE 2).setFld P.TEAM_STATUS.OWN_SLOT 1) 7 0x12,
     7,
     7,
     3,
     77,
     (onWire [] 0x12 1 (slotBytes (slotGiven 3 77))).even,
     [],
     slotBytes (slotGiven 3 77),
     slotGiven 3 77,
     by decide +kernel,
     by decide +kernel,
     by decide +kernel⟩

set_option maxRecDepth 100000 in
theorem witness_TeamMessages_11 :
    (∃ (s : State),
      s.Awake) :=
  ⟨{ up with hitch := { up.hitch with slots := [(3, ⟨5, 0, 2, 0, 0, 2, 7, true⟩)] } },
     by decide +kernel⟩

set_option maxRecDepth 100000 in
theorem witness_TimeTransfer :
    (∃ (s : State) (l : Nat),
      s.Awake ∧
      s.parentLane = some l ∧
      s.hitch.xfer.open_ = none ∧
      s.hitch.xfer.lastStart = none) ∧
    (∃ (s : State) (l : Nat),
      s.Awake ∧
      l < 8 ∧
      s.laneSt l = 5) ∧
    (∃ (s : State) (v : State) (t : Nat) (l : Nat) (x : Nat) (id : Nat) (start : Nat) (t1 : Int) (d : Int) (w : LaneStreams) (b : List Byte),
      s.Awake ∧
      (s.at_ t).hitchReceive l 0x20 w = (some b, v) ∧
      v.hitch.xfer.open_ = some (id, t1, start) ∧
      leNat (b.take 1) = id ∧
      v.parentLane = some l ∧
      (s.at_ t).now ≤ start + 1000000 ∧
      d = (t1 - sext 64 (leNat ((b.drop 1).take 8))) + ((x : Int) - v.rxDelay l - sext 64 (leNat ((b.drop 9).take 8))) + sext 16 (wordFld (v.lanePhy l).cfg P.LANE_CFG.ASYM)) ∧
    (∃ (s : State) (t : Nat) (id : Nat) (start : Nat) (t1 : Int),
      s.Awake ∧
      s.hitch.xfer.open_ = some (id, t1, start) ∧
      start + 1000000 ≤ (s.at_ t).now) :=
  ⟨⟨linked .parent,
     7,
     by decide +kernel⟩,
    ⟨linked .child,
     7,
     by decide +kernel⟩,
    ⟨(({ linked .parent with hitch := { (linked .parent).hitch with xfer := { open_ := some (5, 100, 3) } } } : State).withLane 7 fun x => { x with rxFrom := 1000000 }),
     received ((({ linked .parent with hitch := { (linked .parent).hitch with xfer := { open_ := some (5, 100, 3) } } } : State).withLane 7 fun x => { x with rxFrom := 1000000 })) 1000003 0x20,
     1000003,
     7,
     99,
     5,
     3,
     100,
     (100 - 1000) + (99 - ((({ linked .parent with hitch := { (linked .parent).hitch with xfer := { open_ := some (5, 100, 3) } } } : State).withLane 7 fun x => { x with rxFrom := 1000000 })).rxDelay 7 - 2000) + sext 16 (wordFld (((({ linked .parent with hitch := { (linked .parent).hitch with xfer := { open_ := some (5, 100, 3) } } } : State).withLane 7 fun x => { x with rxFrom := 1000000 })).lanePhy 7).cfg P.LANE_CFG.ASYM),
     onWire [] 0x20 1 (leBytes 1 5 ++ leBytes 8 1000 ++ leBytes 8 2000),
     leBytes 1 5 ++ leBytes 8 1000 ++ leBytes 8 2000,
     by decide +kernel,
     by decide +kernel,
     by decide +kernel⟩,
    ⟨(({ linked .parent with hitch := { (linked .parent).hitch with xfer := { open_ := some (5, 100, 3) } } } : State).withLane 7 fun x => { x with rxFrom := 1000000 }),
     1000003,
     5,
     3,
     100,
     by decide +kernel⟩⟩

theorem witness_ParameterWrite :
    (∃ (s : State) (t : Nat) (key : Nat) (half : Half) (v : Word) (c : Word),
      s.Accepts key ⟨t, .bar0 half, v, c⟩) ∧
    (∃ (s : State) (t : Nat) (i : Nat) (half : Half) (v : Word) (c : Word),
      i < 4 ∧
      s.Accepts (K.TPL_TAPS + i) ⟨t, .bar0 half, v, c⟩) ∧
    (∃ (s : State) (t : Nat) (key : Nat) (half : Half) (v : Word) (c : Word),
      s.HostOpen ∧
      s.OffBoundary t ∧
      (paramRow? key).isSome ∧
      (writableMask key = 0 ∨ (s.at_ t).entriesFail false [entryOf key ⟨t, .bar0 half, v, c⟩] ≠ none)) ∧
    (∃ (s : State) (t : Nat) (key : Nat),
      s.HostOpen ∧
      s.OffBoundary t ∧
      key < 0x10000 ∧
      paramRow? key = none) ∧
    (∃ (s : State),
      s.Awake ∧
      s.linkUp = false) ∧
    (∃ (s : State) (n : Nat),
      s.Awake ∧
      s.linkUp = true ∧
      n < 128) :=
  ⟨⟨up,
     5,
     K.TPL_TAPS + 3,
     .high,
     77,
     0,
     by decide +kernel⟩,
    ⟨up,
     5,
     3,
     .low,
     77,
     0,
     by decide +kernel⟩,
    ⟨up,
     5,
     K.EXP_CFG,
     .low,
     77,
     0,
     by decide +kernel⟩,
    ⟨up,
     5,
     0xFFFF,
     by decide +kernel⟩,
    ⟨{ up with host := { up.host with retraining := true } },
     by decide +kernel⟩,
    ⟨up,
     127,
     by decide +kernel⟩⟩

theorem witness_SetWins :
    (∃ (s : State) (t : Nat) (key : Nat) (b : Nat) (v : Word) (c : Word),
      accessMask key .rw = 0 ∧
      accessMask key .wo = 0 ∧
      s.Accepts key ⟨t, .bar0 .whole, v, c⟩ ∧
      isFlag key b = true ∧
      b < 64) :=
  ⟨up,
     5,
     K.EMIT_FLAGS,
     1,
     3,
     1,
     by decide +kernel⟩

theorem witness_FlagSelection :
    (∃ (s : State) (h : HostWrite) (k : Nat) (b : Nat),
      s.Accepts K.FLAG_SEL h ∧
      brings h P.FLAG_SEL.KEY k ∧
      brings h P.FLAG_SEL.BIT b) ∧
    (∃ (h : HostWrite) (k : Nat) (b : Nat),
      brings h P.FLAG_SEL.KEY k ∧
      brings h P.FLAG_SEL.BIT b ∧
      isFlag k b = false) :=
  ⟨⟨up.setFlag P.DUMP_STATUS.ABORTED,
     wr [(P.FLAG_SEL.KEY, K.DUMP_STATUS), (P.FLAG_SEL.BIT, P.DUMP_STATUS.ABORTED.lo)],
     K.DUMP_STATUS,
     P.DUMP_STATUS.ABORTED.lo,
     by decide +kernel⟩,
    ⟨wr [(P.FLAG_SEL.KEY, 0), (P.FLAG_SEL.BIT, 63)],
     0,
     63,
     by decide +kernel⟩⟩

theorem witness_ViewWrites :
    (∃ (s : State) (h : HostWrite) (c : Nat),
      s.Accepts K.CNT_SEL h ∧
      brings h P.CNT_SEL.CHANNEL c) ∧
    (∃ (s : State) (h : HostWrite) (i : Nat),
      s.Accepts K.CAL_SEL h ∧
      brings h P.CAL_SEL.INPUT i) ∧
    (∃ (s : State) (h : HostWrite) (c : Nat),
      s.Accepts K.FREEZE_SEL h ∧
      brings h P.FREEZE_SEL.CHANNEL c) ∧
    (∃ (s : State) (h : HostWrite) (c : Nat),
      s.Accepts K.BG_SEL h ∧
      brings h P.BG_SEL.CHANNEL c) ∧
    (∃ (s : State) (h : HostWrite) (c : Nat) (m : ChanMask),
      s.Accepts K.MASK_SEL h ∧
      brings h P.MASK_SEL.CHANNEL c ∧
      m = Map.get {} s.masks c) ∧
    (∃ (s : State) (h : HostWrite) (b : Nat),
      s.Accepts K.EXP_SEL h ∧
      brings h P.EXP_SEL.BANK b) ∧
    (∃ (s : State) (h : HostWrite) (j : Nat) (c : Nat),
      s.Accepts K.ACC_SEL h ∧
      brings h P.ACC_SEL.ACC j ∧
      brings h P.ACC_SEL.CLR_MINMAX c) ∧
    (∃ (s : State) (h : HostWrite) (j : Nat),
      s.Accepts K.ACC_SEL h ∧
      brings h P.ACC_SEL.ACC j ∧
      brings h P.ACC_SEL.CLR_MINMAX 1 ∧
      wordFld h.coinc P.ACC_SEL.CLR_MINMAX = 1) :=
  ⟨⟨up.withCh 383 fun c => { c with stray := 3 },
     wr [(P.CNT_SEL.CHANNEL, 383)],
     383,
     by decide +kernel⟩,
    ⟨up.withCh 383 fun c => { c with lost := true },
     wr [(P.CAL_SEL.INPUT, 383)],
     383,
     by decide +kernel⟩,
    ⟨(up.setBuf 766 { st := .frozen, mask := true, poison := true }).setBuf 767 { st := .filling, dump := true },
     wr [(P.FREEZE_SEL.CHANNEL, 383)],
     383,
     by decide +kernel⟩,
    ⟨{ up with bq := [(383, 99)] },
     wr [(P.BG_SEL.CHANNEL, 383)],
     383,
     by decide +kernel⟩,
    ⟨(up.setBuf 766 { st := .frozen, mask := true, poison := true }).setBuf 767 { st := .filling, dump := true },
     wr [(P.MASK_SEL.CHANNEL, 383)],
     383,
     {},
     by decide +kernel⟩,
    ⟨up,
     wr [(P.EXP_SEL.BANK, 15)],
     15,
     by decide +kernel⟩,
    ⟨up,
     wr [(P.ACC_SEL.ACC, 63), (P.ACC_SEL.CLR_MINMAX, 1)],
     63,
     1,
     by decide +kernel⟩,
    ⟨up,
     { wr [(P.ACC_SEL.ACC, 63), (P.ACC_SEL.CLR_MINMAX, 1)] with coinc := wordSet 0 P.ACC_SEL.CLR_MINMAX 1 },
     63,
     by decide +kernel⟩⟩

theorem witness_ChainWrites :
    (∃ (s : State) (h : HostWrite) (any : Nat) (col : Nat) (c : Nat) (n : Nat),
      s.Accepts K.DUMP_REQ h ∧
      brings h P.DUMP_REQ.FROZEN_SRC 0 ∧
      brings h P.DUMP_REQ.ANY_COL any ∧
      brings h P.DUMP_REQ.COLUMN col ∧
      brings h P.DUMP_REQ.CHANNEL c ∧
      brings h P.DUMP_REQ.COUNT n) ∧
    (∃ (s : State) (h : HostWrite) (b : Nat) (m : Nat) (k : Nat),
      s.Accepts K.TPL_COMMIT h ∧
      brings h P.TPL_COMMIT.BANK b ∧
      brings h P.TPL_COMMIT.CLUSTER_MASK m ∧
      k < 12) ∧
    (∃ (s : State) (h : HostWrite) (b : Nat) (f : Nat) (m : Nat) (k : Nat),
      s.Accepts K.TPL_SWAP h ∧
      brings h P.TPL_SWAP.BANK b ∧
      brings h P.TPL_SWAP.FADE_COLS f ∧
      brings h P.TPL_SWAP.CLUSTER_MASK m ∧
      k < 12) ∧
    (∃ (s : State) (h : HostWrite) (e : Nat) (m : Nat) (k : Nat),
      s.Accepts K.ENV_COMMIT h ∧
      brings h P.ENV_COMMIT.SET e ∧
      brings h P.ENV_COMMIT.CLUSTER_MASK m ∧
      k < 12) ∧
    (∃ (s : State) (h : HostWrite) (c : Nat),
      s.Accepts K.MASK_RELEASE h ∧
      brings h P.MASK_RELEASE.ALL 0 ∧
      brings h P.MASK_RELEASE.BUF0 1 ∧
      brings h P.MASK_RELEASE.BUF1 0 ∧
      brings h P.MASK_RELEASE.CHANNEL c ∧
      h.coinc = 0) ∧
    (∃ (s : State) (h : HostWrite) (m : Nat) (q : Nat),
      s.Accepts K.EVOTH_CTRL h ∧
      brings h P.EVOTH_CTRL.RESTART m ∧
      m ≠ 0 ∧
      q < 16 ∧
      bitOf m q = true) ∧
    (∃ (s : State) (h : HostWrite),
      s.Accepts K.STREAM_CFG h ∧
      brings h P.STREAM_CFG.KEY_REQ 1) ∧
    (∃ (s : State) (ring : Nat) (h : HostWrite),
      isRing ring = true ∧
      s.Accepts (ringKey ring) h ∧
      s.ringOn ring = false ∧
      (s.setReg (ringKey ring) (s.mergedWord (ringKey ring) h)).ringOn ring = true) ∧
    (∃ (s : State) (ring : Nat) (v : Nat) (h : HostWrite),
      isRing ring = true ∧
      s.Accepts (ringRdKey ring) h ∧
      brings h (ringRdField ring) v) :=
  ⟨⟨up,
     wr [(P.DUMP_REQ.FROZEN_SRC, 0), (P.DUMP_REQ.ANY_COL, 1), (P.DUMP_REQ.COLUMN, 3), (P.DUMP_REQ.CHANNEL, 382), (P.DUMP_REQ.COUNT, 2)],
     1,
     3,
     382,
     2,
     by decide +kernel⟩,
    ⟨tpl,
     wr [(P.TPL_COMMIT.BANK, 1), (P.TPL_COMMIT.CLUSTER_MASK, 3)],
     1,
     3,
     11,
     by decide +kernel⟩,
    ⟨{ tpl with clusters := (List.range 12).map (fun k => (k, { (up.cluster k) with banks := [(0, up.stagedTemplate), (1, tpl.stagedTemplate)] })) },
     wr [(P.TPL_SWAP.BANK, 1), (P.TPL_SWAP.FADE_COLS, 4), (P.TPL_SWAP.CLUSTER_MASK, 0x803)],
     1,
     4,
     0x803,
     11,
     by decide +kernel⟩,
    ⟨up,
     wr [(P.ENV_COMMIT.SET, 1), (P.ENV_COMMIT.CLUSTER_MASK, 0x803)],
     1,
     0x803,
     11,
     by decide +kernel⟩,
    ⟨(up.setBuf 766 { st := .frozen, mask := true, poison := true }).setBuf 767 { st := .filling, dump := true },
     wr [(P.MASK_RELEASE.BUF0, 1), (P.MASK_RELEASE.BUF1, 0), (P.MASK_RELEASE.ALL, 0), (P.MASK_RELEASE.CHANNEL, 383)],
     383,
     by decide +kernel⟩,
    ⟨(up.setFld (P.CORE_STATUS.HALTED.idx 15) 1).setFld (P.CORE_STATUS.FAULT_CODE.idx 15) 4,
     wr [(P.EVOTH_CTRL.RESTART, 0x8000)],
     0x8000,
     15,
     by decide +kernel⟩,
    ⟨up,
     wr [(P.STREAM_CFG.KEY_REQ, 1)],
     by decide +kernel⟩,
    ⟨up,
     3,
     wr [(P.RING_NOTIFY.EN.idx 3, 1)],
     by decide +kernel⟩,
    ⟨up.setFld (ringWrField 7) 128,
     7,
     96,
     wr [(ringRdField 7, 96)],
     by decide +kernel⟩⟩

theorem witness_HostReads :
    (∃ (s : State) (key : Nat),
      s.Awake ∧
      s.linkUp = true ∧
      key < 0x10000 ∧
      key ≠ K.REC_DATA ∧
      key ∉ resultHeaders) ∧
    (∃ (s : State) (key : Nat) (x : BitVec 32),
      s.Awake ∧
      s.linkUp = true ∧
      key < 0x10000 ∧
      Map.find? s.shadows (2 * key) = some x) ∧
    (∃ (s : State) (slot : Nat) (key : Nat),
      s.Awake ∧
      s.linkUp = true ∧
      resultHeaders[slot]? = some key) ∧
    (∃ (s : State) (w : FifoWord) (l : List FifoWord),
      s.Awake ∧
      s.linkUp = true ∧
      s.bit P.REC_CTRL.DRAIN = false ∧
      s.recSt ≠ 3 ∧
      s.recorder.due = [] ∧
      s.recorder.fifo = w :: l) ∧
    (∃ (s : State),
      s.Awake ∧
      s.linkUp = true ∧
      s.recSt ≠ 3 ∧
      s.recorder.due = [] ∧
      s.recorder.fifo = []) :=
  ⟨⟨up,
     K.FIELD,
     by decide +kernel⟩,
    ⟨{ up with shadows := [(2 * K.FIELD, 5)] },
     K.FIELD,
     5,
     by decide +kernel⟩,
    ⟨up,
     0,
     K.STAT_HDR,
     by decide +kernel⟩,
    ⟨{ up with recorder := { up.recorder with fifo := [⟨5, 8, true⟩] } },
     ⟨5, 8, true⟩,
     [],
     by decide +kernel⟩,
    ⟨up,
     by decide +kernel⟩⟩

theorem witness_HostPort :
    (∃ (s : State) (rate : Nat),
      s.Awake ∧
      s.bit P.LINK_CTRL.LINK_UP = false ∧
      rate < 4) ∧
    (∃ (s : State) (rate : Nat),
      s.Awake ∧
      s.host.retraining = true ∧
      rate ≤ s.fld P.LINK_CTRL.TARGET_RATE) ∧
    (∃ (s : State),
      s.Awake ∧
      s.linkUp = true) ∧
    (∃ (s : State),
      s.Awake ∧
      s.linkUp = true) ∧
    (∃ (s : State) (c : Nat) (w : Walk) (l1 : Option Word) (l2 : Option Word) (cause : Nat),
      s.Awake ∧
      c < 8 ∧
      (s.chan c).walk = some w ∧
      s.walkCheck c w l1 l2 = .inl cause ∧
      w.va < 2 ^ 48 ∧
      (s.chan c).resumeDue = false ∧
      s.walkCan l1 = true) ∧
    (∃ (s : State) (c : Nat) (w : Walk) (l1 : Option Word) (l2 : Option Word) (e : TlbEntry),
      s.Awake ∧
      c < 8 ∧
      (s.chan c).walk = some w ∧
      s.walkCheck c w l1 l2 = .inr e ∧
      s.walkCan l1 = true) ∧
    (∃ (s : State) (c : Nat),
      s.Awake ∧
      (s.chan c).walk = none) ∧
    (∃ (s : State),
      s.Awake) ∧
    (∃ (s : State) (v : Nat),
      s.Awake ∧
      s.linkUp = true ∧
      v < 2 ^ 32 ∧
      wrapAdd 32 v (2 ^ 32 - s.fld P.SQ_POS.SQ_RD) ≤ 2 ^ s.fld P.SQ_CFG.LOG2_ENTRIES) ∧
    (∃ (s : State) (v : Nat),
      s.Awake ∧
      s.linkUp = true ∧
      v < 2 ^ 32 ∧
      2 ^ s.fld P.SQ_CFG.LOG2_ENTRIES < wrapAdd 32 v (2 ^ 32 - s.fld P.SQ_POS.SQ_RD)) ∧
    (∃ (s : State) (v : Nat),
      s.Awake ∧
      s.linkUp = true ∧
      v < 2 ^ 32 ∧
      wrapAdd 32 v (2 ^ 32 - s.fld P.CQ_POS.CQ_RD) ≤ wrapAdd 32 (s.fld P.CQ_POS.CQ_WR) (2 ^ 32 - s.fld P.CQ_POS.CQ_RD)) ∧
    (∃ (s : State),
      s.Awake ∧
      s.linkUp = true ∧
      s.fld P.SALSOL_STATUS.MB_STATE ≠ 1) ∧
    (∃ (s : State),
      s.Awake ∧
      s.linkUp = true ∧
      s.fld P.SALSOL_STATUS.MB_STATE = 1) :=
  ⟨⟨{ up.setFld P.LINK_CTRL.LINK_UP 0 with ctl := { por := false, linked := true } },
     3,
     by decide +kernel⟩,
    ⟨{ up.setFld P.LINK_CTRL.TARGET_RATE 3 with host := { up.host with retraining := true } },
     3,
     by decide +kernel⟩,
    ⟨up,
     by decide +kernel⟩,
    ⟨up,
     by decide +kernel⟩,
    ⟨((({ up with host := { up.host with chans := [(7, { walk := some ⟨0, false, true⟩ })] } } : State).setFld P.STU_CFG.EN 1).setFld P.STU_CFG.L1_LOG2 3),
     7,
     ⟨0, false, true⟩,
     none,
     none,
     2,
     by decide +kernel⟩,
    ⟨((({ up with host := { up.host with chans := [(7, { walk := some ⟨0, false, true⟩ })] } } : State).setFld P.STU_CFG.EN 1).setFld P.STU_CFG.L1_LOG2 3),
     7,
     ⟨0, false, true⟩,
     some (0xFF * 2 ^ 52 + 0xF),
     none,
     ⟨0, true, 0, 255, true, true⟩,
     by decide +kernel⟩,
    ⟨up,
     7,
     by decide +kernel⟩,
    ⟨up,
     by decide +kernel⟩,
    ⟨up,
     2 ^ up.fld P.SQ_CFG.LOG2_ENTRIES,
     by decide +kernel⟩,
    ⟨up,
     2 ^ up.fld P.SQ_CFG.LOG2_ENTRIES + 1,
     by decide +kernel⟩,
    ⟨up.setFld P.CQ_POS.CQ_WR 9,
     9,
     by decide +kernel⟩,
    ⟨up,
     by decide +kernel⟩,
    ⟨up.setFld P.SALSOL_STATUS.MB_STATE 1,
     by decide +kernel⟩⟩

theorem witness_CommandRings :
    (∃ (s : State) (pa : Nat) (b : List Byte),
      s.Awake ∧
      s.bit P.SQ_CFG.EN = true ∧
      s.chanFree 6 = true ∧
      s.fld P.SALSOL_STATUS.OUTSTANDING < 32 ∧
      s.sqPosted ≠ 0 ∧
      s.inRecovery = false ∧
      s.ctl.restart = none ∧
      s.host.fetchPart = [] ∧
      b.length = 64 ∧
      s.fetchEntries (natAt b 4 2) = 1 ∧
      s.translate 6 (s.fld P.SQ_CFG.BASE * 4096 + 64 * (s.fld P.SQ_POS.SQ_RD % s.sqEntries)) false = .ok pa) ∧
    (∃ (s : State) (r : Reply) (l : List Reply),
      s.Awake ∧
      s.salsol.replies = r :: l ∧
      s.bit P.CQ_CFG.EN = true ∧
      s.cqUsed + s.cqQueued + entriesOf r.bytes.length ≤ 2 ^ s.fld P.CQ_CFG.LOG2_ENTRIES) ∧
    (∃ (s : State) (r : Record) (l : List Record),
      s.Awake ∧
      s.recs.queue = r :: l ∧
      s.ringOn 7 = true ∧
      32 ≤ s.ringFree 7 ∧
      s.chanFree 7 = true ∧
      (s.chan 7).items.all (fun i => !i.started && i.isReply) = true ∧
      s.recs.held = 0) ∧
    (∃ (s : State) (v : State) (t : Nat) (path : Sys2Proof.Path) (raw : List Byte),
      s.Executes t path raw 1 v ∧
      (readCommand path raw).body = []) ∧
    (∃ (s : State) (v : State) (t : Nat) (path : Sys2Proof.Path) (raw : List Byte),
      s.Executes t path raw 2 v ∧
      (readCommand path raw).body = []) ∧
    (∃ (s : State) (v : State) (t : Nat) (path : Sys2Proof.Path) (raw : List Byte) (sq : Nat) (cq : Nat) (nt : Nat),
      s.Executes t path raw 4 v ∧
      (readCommand path raw).body = leBytes 8 sq ++ leBytes 8 cq ++ leBytes 8 nt ∧
      sq < 2 ^ 64 ∧
      cq < 2 ^ 64 ∧
      nt < 2 ^ 64 ∧
      ringsReservedOk sq cq nt = true ∧
      4 ≤ bitsOf sq 3 0 ∧
      bitsOf sq 3 0 ≤ 10 ∧
      6 ≤ bitsOf cq 3 0 ∧
      bitsOf cq 3 0 ≤ 12) :=
  ⟨⟨(({ { up with host := { up.host with bme0 := true, tlb := [⟨0, true, 0x4000000, 255, true, true⟩] } } with ctl := up.ctl } : State).setFld P.STU_CFG.EN 1).setFld P.STU_CFG.L1_LOG2 3 |>.setFld P.SQ_CFG.EN 1 |>.setFld P.SQ_CFG.LOG2_ENTRIES 4 |>.setFld P.SQ_POS.SQ_WR 1,
     0x4000000,
     packet 1 [] ++ List.replicate 48 0,
     by decide +kernel⟩,
    ⟨(({ up with salsol := { up.salsol with replies := [⟨[1, 2, 3], false⟩] } } : State).setFld P.CQ_CFG.EN 1).setFld P.CQ_CFG.LOG2_ENTRIES 6,
     ⟨[1, 2, 3], false⟩,
     [],
     by decide +kernel⟩,
    ⟨(({ up with host := { up.host with bme0 := true }, recs := { up.recs with queue := [⟨0x1201, 12, 1, 0, 0, []⟩] } } : State).setFld P.EVENT_RING.EN 1).setFld P.EVENT_RING.LOG2_SIZE 12,
     ⟨0x1201, 12, 1, 0, 0, []⟩,
     [],
     by decide +kernel⟩,
    ⟨boxed (up) (packet 1 ([])),
     passed (boxed (up) (packet 1 ([]))) (packet 1 ([])),
     7,
     .mailbox,
     packet 1 ([]),
     by decide +kernel⟩,
    ⟨boxed (up) (packet 2 ([])),
     passed (boxed (up) (packet 2 ([]))) (packet 2 ([])),
     7,
     .mailbox,
     packet 2 ([]),
     by decide +kernel⟩,
    ⟨boxed (up) (packet 4 (leBytes 8 10 ++ leBytes 8 12 ++ leBytes 8 0)),
     passed (boxed (up) (packet 4 (leBytes 8 10 ++ leBytes 8 12 ++ leBytes 8 0))) (packet 4 (leBytes 8 10 ++ leBytes 8 12 ++ leBytes 8 0)),
     7,
     .mailbox,
     packet 4 (leBytes 8 10 ++ leBytes 8 12 ++ leBytes 8 0),
     10,
     12,
     0,
     by decide +kernel⟩⟩

theorem witness_CommandReplies :
    (∃ (s : State) (v : State) (t : Nat) (op : Nat) (path : Sys2Proof.Path) (raw : List Byte) (f : Failure) (i : Instr),
      s.Awake ∧
      s.OffBoundary t ∧
      s.nextPacket path = some raw ∧
      (readCommand path raw).opcode = op ∧
      (op, i) ∈ [(0x0001, Instr.nop t path), (0x0002, .identify t path), (0x0003, .profileApply t path []), (0x0004, .ringsInit t path), (0x0201, .setGait t path), (0x0202, .setField t path), (0x0410, .histDump t path), (0x0701, .streamMode t path), (0x0801, .recorder t path), (0x0901, .emittersOn t path), (0x0902, .emittersOff t path), (0x0A01, .mirror t path), (0x0D01, .calibrate t path), (0x0E01, .paddockDefine t path), (0x0E02, .paddockEnable t path), (0x0E03, .safeReset t path), (0x1001, .teamLeave t path), (0x1302, .tackCommit t path), (0x1303, .fwData t path), (0x8001, .paramRead t path), (0x8002, .paramWrite t path []), (0x8003, .faultLogRead t path), (0x8601, .evothLoad t path), (0x8602, .evothMsgRead t path), (0x9301, .keyEnroll t path), (0x9302, .keyRetire t path)] ∧
      (s.taken t path raw).checkHead (readCommand path raw) raw = (some f, v)) ∧
    (∃ (s : State) (c : Command),
      c.path = .ring ∧
      s.initWaits = false) ∧
    (∃ (c : Command),
      c.path = .mailbox) ∧
    (∃ (s : State) (c : Command),
      c.path = .ring ∧
      s.initWaits = false) ∧
    (∃ (s : State) (v : State) (t : Nat) (path : Sys2Proof.Path) (raw : List Byte) (f : Failure) (i : Instr),
      s.Awake ∧
      s.OffBoundary t ∧
      s.nextPacket path = some raw ∧
      (readCommand path raw).opcode = 0x1301 ∧
      i = (match natAt (readCommand path raw).body 0 1 with | 1 => Instr.attestReadReport t path | 2 => .attestReadRecord t path | _ => .attestStart t path) ∧
      (s.taken t path raw).checkHead (readCommand path raw) raw = (some f, v)) ∧
    (∃ (s : State) (t : Nat) (path : Sys2Proof.Path) (raw : List Byte),
      s.Awake ∧
      s.OffBoundary t ∧
      s.nextPacket path = some raw ∧
      (readCommand path raw).opcode ∉ opcodes) ∧
    (∃ (s : State) (c : Command),
      c.path = .ring ∧
      s.initWaits = true) :=
  ⟨⟨boxed up (packet 0x8001 [1]),
     passed (boxed up (packet 0x8001 [1])) (packet 0x8001 [1]),
     7,
     0x8001,
     .mailbox,
     packet 0x8001 [1],
     ⟨.badLength, 0xFFFF, 0⟩,
     .paramRead 7 .mailbox,
     by decide +kernel⟩,
    ⟨up,
     ⟨.ring, 1, 7, 16, 0, 0, 0, [], []⟩,
     by decide +kernel⟩,
    ⟨⟨.mailbox, 1, 7, 16, 0, 0, 0, [], []⟩,
     by decide +kernel⟩,
    ⟨up,
     ⟨.ring, 1, 7, 16, 0, 0, 0, [], []⟩,
     by decide +kernel⟩,
    ⟨boxed up (packet 0x1301 [2]),
     (boxed up (packet 0x1301 [2])).taken 7 .mailbox (packet 0x1301 [2]),
     7,
     .mailbox,
     packet 0x1301 [2],
     ⟨.badLength, 0xFFFF, 0⟩,
     .attestReadRecord 7 .mailbox,
     by decide +kernel⟩,
    ⟨boxed up (packet 0x7777 []),
     7,
     .mailbox,
     packet 0x7777 [],
     by decide +kernel⟩,
    ⟨{ up with salsol := { up.salsol with mbCmd := some (packet 4 []) } },
     ⟨.ring, 1, 7, 16, 0, 0, 0, [], []⟩,
     by decide +kernel⟩⟩

theorem witness_BasicCommands :
    (∃ (s : State) (v : State) (w : State) (t : Nat) (g : Nat) (path : Sys2Proof.Path) (raw : List Byte),
      s.Executes t path raw 0x0201 v ∧
      g < 4 ∧
      (readCommand path raw).body = leBytes 8 g ∧
      v.basicWrites (readCommand path raw).auth [fieldEntry [(P.GAIT.GAIT_REQ, g)]] = .ok w) ∧
    (∃ (s : State) (v : State) (w : State) (t : Nat) (x : Nat) (path : Sys2Proof.Path) (raw : List Byte),
      s.Executes t path raw 0x0202 v ∧
      x < 2 ^ 32 ∧
      (readCommand path raw).body = leBytes 8 x ∧
      v.basicWrites (readCommand path raw).auth [fieldEntry [(P.FIELD.W, x)]] = .ok w) ∧
    (∃ (s : State) (v : State) (w : State) (t : Nat) (x : Word) (path : Sys2Proof.Path) (raw : List Byte),
      s.Executes t path raw 0x0410 v ∧
      (readCommand path raw).body = leBytes 8 x.toNat ∧
      x &&& ~~~ writableMask K.DUMP_REQ = 0 ∧
      v.basicWrites (readCommand path raw).auth [(⟨K.DUMP_REQ, writableMask K.DUMP_REQ, x⟩, true)] = .ok w) ∧
    (∃ (s : State) (v : State) (w : State) (t : Nat) (d : Nat) (k : Nat) (m : Nat) (n : Nat) (path : Sys2Proof.Path) (raw : List Byte),
      s.Executes t path raw 0x0701 v ∧
      d < 2 ∧
      k < 256 ∧
      m < 2 ^ 16 ∧
      n < 2 ^ 16 ∧
      (readCommand path raw).body = leBytes 1 d ++ leBytes 1 k ++ leBytes 2 m ++ leBytes 2 n ++ leBytes 2 0 ∧
      v.basicWrites (readCommand path raw).auth [fieldEntry [(P.STREAM_CFG.KEY_INTERVAL, k), (P.STREAM_CFG.DELTA_EN, d)], fieldEntry [(P.DELTA_THR.DELTA_MM, m), (P.DELTA_THR.DELTA_INT, n)]] = .ok w) ∧
    (∃ (s : State) (v : State) (w : State) (t : Nat) (b : Nat) (path : Sys2Proof.Path) (raw : List Byte),
      s.Executes t path raw 0x0801 v ∧
      b < 8 ∧
      (readCommand path raw).body = leBytes 8 b ∧
      v.basicWrites (readCommand path raw).auth [fieldEntry [(P.REC_CTRL.SW_TRIG, bitsOf b 2 2), (P.REC_CTRL.MODE, bitsOf b 1 1), (P.REC_CTRL.EN, bitsOf b 0 0)]] = .ok w) ∧
    (∃ (s : State) (v : State) (w : State) (t : Nat) (m : Nat) (a : Nat) (b : Nat) (c : Nat) (d : Nat) (path : Sys2Proof.Path) (raw : List Byte),
      s.Executes t path raw 0x0901 v ∧
      m < 2 ^ 16 ∧
      a < 2 ^ 16 ∧
      b < 2 ^ 16 ∧
      c < 2 ^ 16 ∧
      d < 2 ^ 16 ∧
      (readCommand path raw).body = leBytes 2 m ++ leBytes 2 a ++ leBytes 2 b ++ leBytes 2 c ++ leBytes 2 d ++ leBytes 6 0 ∧
      v.basicWrites (readCommand path raw).auth (fieldEntry [(P.EMIT_CTRL.EMIT_EN, 1), (P.EMIT_CTRL.BANK_EN, m)] :: [(0, a), (1, b), (2, c), (3, d)].map (fun x => fieldEntry [(P.CHG_SET.SETPOINT.idx x.1, x.2), (P.CHG_SET.CH_EN.idx x.1, ofBit (decide (0 < x.2)))])) = .ok w) ∧
    (∃ (s : State) (v : State) (w : State) (t : Nat) (path : Sys2Proof.Path) (raw : List Byte),
      s.Executes t path raw 0x0902 v ∧
      (readCommand path raw).body = [] ∧
      v.basicWrites (readCommand path raw).auth (fieldEntry [(P.EMIT_CTRL.EMIT_EN, 0)] :: [0, 1, 2, 3].map (fun k => fieldEntry [(P.CHG_SET.CH_EN.idx k, 0)])) = .ok w) ∧
    (∃ (s : State) (v : State) (w : State) (t : Nat) (m : Nat) (path : Sys2Proof.Path) (raw : List Byte),
      s.Executes t path raw 0x0A01 v ∧
      m < 3 ∧
      (readCommand path raw).body = leBytes 8 m ∧
      v.basicWrites (readCommand path raw).auth [fieldEntry [(P.MIR_CTRL.DRV_EN, ofBit (decide (1 ≤ m))), (P.MIR_CTRL.RUN, ofBit (m == 2))]] = .ok w) ∧
    (∃ (s : State) (v : State) (w : State) (t : Nat) (path : Sys2Proof.Path) (raw : List Byte),
      s.Executes t path raw 0x0D01 v ∧
      (readCommand path raw).body = [] ∧
      v.basicWrites (readCommand path raw).auth [fieldEntry [(P.CAL_CTRL.RUN_REQ, 1)]] = .ok w) ∧
    (∃ (s : State) (v : State) (w : State) (t : Nat) (path : Sys2Proof.Path) (raw : List Byte),
      s.Executes t path raw 0x0E03 v ∧
      (readCommand path raw).body = [] ∧
      v.basicWrites (readCommand path raw).auth [fieldEntry [(P.PD_CTRL.SAFE_RESET, 1)]] = .ok w) ∧
    (∃ (s : State) (v : State) (w : State) (t : Nat) (path : Sys2Proof.Path) (raw : List Byte),
      s.Executes t path raw 0x1001 v ∧
      (readCommand path raw).body = [] ∧
      v.basicWrites (readCommand path raw).auth [fieldEntry [(P.HITCH_CMD.LEAVE, 1)]] = .ok w) ∧
    (∃ (s : State) (v : State) (w : State) (t : Nat) (a : Nat) (b : Nat) (path : Sys2Proof.Path) (raw : List Byte),
      s.Executes t path raw 0x0E02 v ∧
      a < 2 ^ 16 ∧
      b < 2 ^ 16 ∧
      a &&& b = 0 ∧
      (readCommand path raw).body = leBytes 2 a ++ leBytes 2 b ++ leBytes 4 0 ∧
      v.basicWrites (readCommand path raw).auth ((maskBits 16 b).map (fun p => fieldEntry [(P.PD_CFG.EN.idx p, 0)]) ++ (maskBits 16 a).map (fun p => fieldEntry [(P.PD_CFG.EN.idx p, 1)])) = .ok w) ∧
    (∃ (s : State) (v : State) (w : State) (t : Nat) (p : Nat) (n : Nat) (path : Sys2Proof.Path) (raw : List Byte) (b : List Byte),
      s.Executes t path raw 0x0E01 v ∧
      b = (readCommand path raw).body ∧
      natAt b 0 1 = p ∧
      natAt b 1 1 = n ∧
      p < 16 ∧
      3 ≤ n ∧
      n ≤ 32 ∧
      natAt b 3 1 < 4 ∧
      b.length = 16 + up8 (4 * n) ∧
      allZero (bytesAt b 12 4) = true ∧
      allZero (b.drop (16 + 4 * n)) = true ∧
      v.basicWrites (readCommand path raw).auth (padDefineWrites b) = .ok w) :=
  ⟨⟨boxed (up) (packet 513 (leBytes 8 1)),
     passed (boxed (up) (packet 513 (leBytes 8 1))) (packet 513 (leBytes 8 1)),
     wrote (passed (boxed (up) (packet 513 (leBytes 8 1))) (packet 513 (leBytes 8 1))) false ([fieldEntry [(P.GAIT.GAIT_REQ, 1)]]),
     7,
     1,
     .mailbox,
     packet 513 (leBytes 8 1),
     by decide +kernel⟩,
    ⟨boxed (up) (packet 514 (leBytes 8 90000)),
     passed (boxed (up) (packet 514 (leBytes 8 90000))) (packet 514 (leBytes 8 90000)),
     wrote (passed (boxed (up) (packet 514 (leBytes 8 90000))) (packet 514 (leBytes 8 90000))) false ([fieldEntry [(P.FIELD.W, 90000)]]),
     7,
     90000,
     .mailbox,
     packet 514 (leBytes 8 90000),
     by decide +kernel⟩,
    ⟨boxed (up) (packet 1040 (leBytes 8 ((fieldEntry [(P.DUMP_REQ.ANY_COL, 1), (P.DUMP_REQ.CHANNEL, 383), (P.DUMP_REQ.COUNT, 1)]).1.value).toNat)),
     passed (boxed (up) (packet 1040 (leBytes 8 ((fieldEntry [(P.DUMP_REQ.ANY_COL, 1), (P.DUMP_REQ.CHANNEL, 383), (P.DUMP_REQ.COUNT, 1)]).1.value).toNat))) (packet 1040 (leBytes 8 ((fieldEntry [(P.DUMP_REQ.ANY_COL, 1), (P.DUMP_REQ.CHANNEL, 383), (P.DUMP_REQ.COUNT, 1)]).1.value).toNat)),
     wrote (passed (boxed (up) (packet 1040 (leBytes 8 ((fieldEntry [(P.DUMP_REQ.ANY_COL, 1), (P.DUMP_REQ.CHANNEL, 383), (P.DUMP_REQ.COUNT, 1)]).1.value).toNat))) (packet 1040 (leBytes 8 ((fieldEntry [(P.DUMP_REQ.ANY_COL, 1), (P.DUMP_REQ.CHANNEL, 383), (P.DUMP_REQ.COUNT, 1)]).1.value).toNat))) false ([(⟨K.DUMP_REQ, writableMask K.DUMP_REQ, (fieldEntry [(P.DUMP_REQ.ANY_COL, 1), (P.DUMP_REQ.CHANNEL, 383), (P.DUMP_REQ.COUNT, 1)]).1.value⟩, true)]),
     7,
     (fieldEntry [(P.DUMP_REQ.ANY_COL, 1), (P.DUMP_REQ.CHANNEL, 383), (P.DUMP_REQ.COUNT, 1)]).1.value,
     .mailbox,
     packet 1040 (leBytes 8 ((fieldEntry [(P.DUMP_REQ.ANY_COL, 1), (P.DUMP_REQ.CHANNEL, 383), (P.DUMP_REQ.COUNT, 1)]).1.value).toNat),
     by decide +kernel⟩,
    ⟨boxed (up) (packet 1793 (leBytes 1 1 ++ leBytes 1 9 ++ leBytes 2 5 ++ leBytes 2 6 ++ leBytes 2 0)),
     passed (boxed (up) (packet 1793 (leBytes 1 1 ++ leBytes 1 9 ++ leBytes 2 5 ++ leBytes 2 6 ++ leBytes 2 0))) (packet 1793 (leBytes 1 1 ++ leBytes 1 9 ++ leBytes 2 5 ++ leBytes 2 6 ++ leBytes 2 0)),
     wrote (passed (boxed (up) (packet 1793 (leBytes 1 1 ++ leBytes 1 9 ++ leBytes 2 5 ++ leBytes 2 6 ++ leBytes 2 0))) (packet 1793 (leBytes 1 1 ++ leBytes 1 9 ++ leBytes 2 5 ++ leBytes 2 6 ++ leBytes 2 0))) false ([fieldEntry [(P.STREAM_CFG.KEY_INTERVAL, 9), (P.STREAM_CFG.DELTA_EN, 1)], fieldEntry [(P.DELTA_THR.DELTA_MM, 5), (P.DELTA_THR.DELTA_INT, 6)]]),
     7,
     1,
     9,
     5,
     6,
     .mailbox,
     packet 1793 (leBytes 1 1 ++ leBytes 1 9 ++ leBytes 2 5 ++ leBytes 2 6 ++ leBytes 2 0),
     by decide +kernel⟩,
    ⟨boxed (up) (packet 2049 (leBytes 8 3)),
     passed (boxed (up) (packet 2049 (leBytes 8 3))) (packet 2049 (leBytes 8 3)),
     wrote (passed (boxed (up) (packet 2049 (leBytes 8 3))) (packet 2049 (leBytes 8 3))) false ([fieldEntry [(P.REC_CTRL.SW_TRIG, bitsOf 3 2 2), (P.REC_CTRL.MODE, bitsOf 3 1 1), (P.REC_CTRL.EN, bitsOf 3 0 0)]]),
     7,
     3,
     .mailbox,
     packet 2049 (leBytes 8 3),
     by decide +kernel⟩,
    ⟨boxed (up.setFld P.PWR_STATUS.DOMAIN_ON (2 ^ 36 - 1)) (signed 2305 (leBytes 2 0xFFFF ++ leBytes 2 6000 ++ leBytes 2 0 ++ leBytes 2 6000 ++ leBytes 2 6000 ++ leBytes 6 0)),
     passed (boxed (up.setFld P.PWR_STATUS.DOMAIN_ON (2 ^ 36 - 1)) (signed 2305 (leBytes 2 0xFFFF ++ leBytes 2 6000 ++ leBytes 2 0 ++ leBytes 2 6000 ++ leBytes 2 6000 ++ leBytes 6 0))) (signed 2305 (leBytes 2 0xFFFF ++ leBytes 2 6000 ++ leBytes 2 0 ++ leBytes 2 6000 ++ leBytes 2 6000 ++ leBytes 6 0)),
     wrote (passed (boxed (up.setFld P.PWR_STATUS.DOMAIN_ON (2 ^ 36 - 1)) (signed 2305 (leBytes 2 0xFFFF ++ leBytes 2 6000 ++ leBytes 2 0 ++ leBytes 2 6000 ++ leBytes 2 6000 ++ leBytes 6 0))) (signed 2305 (leBytes 2 0xFFFF ++ leBytes 2 6000 ++ leBytes 2 0 ++ leBytes 2 6000 ++ leBytes 2 6000 ++ leBytes 6 0))) true (fieldEntry [(P.EMIT_CTRL.EMIT_EN, 1), (P.EMIT_CTRL.BANK_EN, 0xFFFF)] :: [(0, 6000), (1, 0), (2, 6000), (3, 6000)].map (fun x => fieldEntry [(P.CHG_SET.SETPOINT.idx x.1, x.2), (P.CHG_SET.CH_EN.idx x.1, ofBit (decide (0 < x.2)))])),
     7,
     0xFFFF,
     6000,
     0,
     6000,
     6000,
     .mailbox,
     signed 2305 (leBytes 2 0xFFFF ++ leBytes 2 6000 ++ leBytes 2 0 ++ leBytes 2 6000 ++ leBytes 2 6000 ++ leBytes 6 0),
     by decide +kernel⟩,
    ⟨boxed (up.setFld P.PWR_STATUS.DOMAIN_ON (2 ^ 36 - 1)) (signed 2306 ([])),
     passed (boxed (up.setFld P.PWR_STATUS.DOMAIN_ON (2 ^ 36 - 1)) (signed 2306 ([]))) (signed 2306 ([])),
     wrote (passed (boxed (up.setFld P.PWR_STATUS.DOMAIN_ON (2 ^ 36 - 1)) (signed 2306 ([]))) (signed 2306 ([]))) true (fieldEntry [(P.EMIT_CTRL.EMIT_EN, 0)] :: [0, 1, 2, 3].map (fun k => fieldEntry [(P.CHG_SET.CH_EN.idx k, 0)])),
     7,
     .mailbox,
     signed 2306 ([]),
     by decide +kernel⟩,
    ⟨boxed (((up.setFld P.MIR_GAINS.KP 3).withMir fun m => { m with n := some ⟨0, 0, 2⟩ })) (signed 2561 (leBytes 8 1)),
     passed (boxed (((up.setFld P.MIR_GAINS.KP 3).withMir fun m => { m with n := some ⟨0, 0, 2⟩ })) (signed 2561 (leBytes 8 1))) (signed 2561 (leBytes 8 1)),
     wrote (passed (boxed (((up.setFld P.MIR_GAINS.KP 3).withMir fun m => { m with n := some ⟨0, 0, 2⟩ })) (signed 2561 (leBytes 8 1))) (signed 2561 (leBytes 8 1))) true ([fieldEntry [(P.MIR_CTRL.DRV_EN, ofBit (decide (1 ≤ 1))), (P.MIR_CTRL.RUN, ofBit (1 == 2))]]),
     7,
     1,
     .mailbox,
     signed 2561 (leBytes 8 1),
     by decide +kernel⟩,
    ⟨boxed (up) (packet 3329 ([])),
     passed (boxed (up) (packet 3329 ([]))) (packet 3329 ([])),
     wrote (passed (boxed (up) (packet 3329 ([]))) (packet 3329 ([]))) false ([fieldEntry [(P.CAL_CTRL.RUN_REQ, 1)]]),
     7,
     .mailbox,
     packet 3329 ([]),
     by decide +kernel⟩,
    ⟨boxed (up) (signed 3587 ([])),
     passed (boxed (up) (signed 3587 ([]))) (signed 3587 ([])),
     wrote (passed (boxed (up) (signed 3587 ([]))) (signed 3587 ([]))) true ([fieldEntry [(P.PD_CTRL.SAFE_RESET, 1)]]),
     7,
     .mailbox,
     signed 3587 ([]),
     by decide +kernel⟩,
    ⟨boxed (up.setLaneSt 0 5) (signed 4097 ([])),
     passed (boxed (up.setLaneSt 0 5) (signed 4097 ([]))) (signed 4097 ([])),
     wrote (passed (boxed (up.setLaneSt 0 5) (signed 4097 ([]))) (signed 4097 ([]))) true ([fieldEntry [(P.HITCH_CMD.LEAVE, 1)]]),
     7,
     .mailbox,
     signed 4097 ([]),
     by decide +kernel⟩,
    ⟨boxed (((((up.setFld (P.PD_CFG.NV.idx 15) 3).setFld P.GAIT.GAIT_CUR 1).setFld P.FRAME_SYNC.GATE_ARM 0).setFld P.GATE_CFG.ARM_MODE 0).setFld (P.GATE_CFG.ARM_MODE.idx 1) 0) (signed 3586 (leBytes 2 0x8000 ++ leBytes 2 0 ++ leBytes 4 0)),
     passed (boxed (((((up.setFld (P.PD_CFG.NV.idx 15) 3).setFld P.GAIT.GAIT_CUR 1).setFld P.FRAME_SYNC.GATE_ARM 0).setFld P.GATE_CFG.ARM_MODE 0).setFld (P.GATE_CFG.ARM_MODE.idx 1) 0) (signed 3586 (leBytes 2 0x8000 ++ leBytes 2 0 ++ leBytes 4 0))) (signed 3586 (leBytes 2 0x8000 ++ leBytes 2 0 ++ leBytes 4 0)),
     wrote (passed (boxed (((((up.setFld (P.PD_CFG.NV.idx 15) 3).setFld P.GAIT.GAIT_CUR 1).setFld P.FRAME_SYNC.GATE_ARM 0).setFld P.GATE_CFG.ARM_MODE 0).setFld (P.GATE_CFG.ARM_MODE.idx 1) 0) (signed 3586 (leBytes 2 0x8000 ++ leBytes 2 0 ++ leBytes 4 0))) (signed 3586 (leBytes 2 0x8000 ++ leBytes 2 0 ++ leBytes 4 0))) true ((maskBits 16 0).map (fun p => fieldEntry [(P.PD_CFG.EN.idx p, 0)]) ++ (maskBits 16 0x8000).map (fun p => fieldEntry [(P.PD_CFG.EN.idx p, 1)])),
     7,
     0x8000,
     0,
     .mailbox,
     signed 3586 (leBytes 2 0x8000 ++ leBytes 2 0 ++ leBytes 4 0),
     by decide +kernel⟩,
    ⟨boxed (up) (signed 3585 (leBytes 1 15 ++ leBytes 1 3 ++ leBytes 1 1 ++ leBytes 1 3 ++ leBytes 2 0 ++ leBytes 2 3000 ++ leBytes 2 1 ++ leBytes 1 1 ++ leBytes 1 1 ++ leBytes 4 0 ++ leBytes 2 0 ++ leBytes 2 0 ++ leBytes 2 1000 ++ leBytes 2 0 ++ leBytes 2 500 ++ leBytes 2 1000 ++ leBytes 4 0)),
     passed (boxed (up) (signed 3585 (leBytes 1 15 ++ leBytes 1 3 ++ leBytes 1 1 ++ leBytes 1 3 ++ leBytes 2 0 ++ leBytes 2 3000 ++ leBytes 2 1 ++ leBytes 1 1 ++ leBytes 1 1 ++ leBytes 4 0 ++ leBytes 2 0 ++ leBytes 2 0 ++ leBytes 2 1000 ++ leBytes 2 0 ++ leBytes 2 500 ++ leBytes 2 1000 ++ leBytes 4 0))) (signed 3585 (leBytes 1 15 ++ leBytes 1 3 ++ leBytes 1 1 ++ leBytes 1 3 ++ leBytes 2 0 ++ leBytes 2 3000 ++ leBytes 2 1 ++ leBytes 1 1 ++ leBytes 1 1 ++ leBytes 4 0 ++ leBytes 2 0 ++ leBytes 2 0 ++ leBytes 2 1000 ++ leBytes 2 0 ++ leBytes 2 500 ++ leBytes 2 1000 ++ leBytes 4 0)),
     wrote (passed (boxed (up) (signed 3585 (leBytes 1 15 ++ leBytes 1 3 ++ leBytes 1 1 ++ leBytes 1 3 ++ leBytes 2 0 ++ leBytes 2 3000 ++ leBytes 2 1 ++ leBytes 1 1 ++ leBytes 1 1 ++ leBytes 4 0 ++ leBytes 2 0 ++ leBytes 2 0 ++ leBytes 2 1000 ++ leBytes 2 0 ++ leBytes 2 500 ++ leBytes 2 1000 ++ leBytes 4 0))) (signed 3585 (leBytes 1 15 ++ leBytes 1 3 ++ leBytes 1 1 ++ leBytes 1 3 ++ leBytes 2 0 ++ leBytes 2 3000 ++ leBytes 2 1 ++ leBytes 1 1 ++ leBytes 1 1 ++ leBytes 4 0 ++ leBytes 2 0 ++ leBytes 2 0 ++ leBytes 2 1000 ++ leBytes 2 0 ++ leBytes 2 500 ++ leBytes 2 1000 ++ leBytes 4 0))) true (padDefineWrites (leBytes 1 15 ++ leBytes 1 3 ++ leBytes 1 1 ++ leBytes 1 3 ++ leBytes 2 0 ++ leBytes 2 3000 ++ leBytes 2 1 ++ leBytes 1 1 ++ leBytes 1 1 ++ leBytes 4 0 ++ leBytes 2 0 ++ leBytes 2 0 ++ leBytes 2 1000 ++ leBytes 2 0 ++ leBytes 2 500 ++ leBytes 2 1000 ++ leBytes 4 0)),
     7,
     15,
     3,
     .mailbox,
     signed 3585 (leBytes 1 15 ++ leBytes 1 3 ++ leBytes 1 1 ++ leBytes 1 3 ++ leBytes 2 0 ++ leBytes 2 3000 ++ leBytes 2 1 ++ leBytes 1 1 ++ leBytes 1 1 ++ leBytes 4 0 ++ leBytes 2 0 ++ leBytes 2 0 ++ leBytes 2 1000 ++ leBytes 2 0 ++ leBytes 2 500 ++ leBytes 2 1000 ++ leBytes 4 0),
     (leBytes 1 15 ++ leBytes 1 3 ++ leBytes 1 1 ++ leBytes 1 3 ++ leBytes 2 0 ++ leBytes 2 3000 ++ leBytes 2 1 ++ leBytes 1 1 ++ leBytes 1 1 ++ leBytes 4 0 ++ leBytes 2 0 ++ leBytes 2 0 ++ leBytes 2 1000 ++ leBytes 2 0 ++ leBytes 2 500 ++ leBytes 2 1000 ++ leBytes 4 0),
     by decide +kernel⟩⟩

theorem witness_ExpertCommands :
    (∃ (s : State) (v : State) (t : Nat) (n : Nat) (path : Sys2Proof.Path) (raw : List Byte) (b : List Byte),
      s.Executes t path raw 0x8001 v ∧
      b = (readCommand path raw).body ∧
      n = natAt b 0 2 ∧
      8 ≤ b.length ∧
      1 ≤ n ∧
      n ≤ 256 ∧
      b.length = 8 + up8 (2 * n) ∧
      (path = .mailbox → n ≤ 254) ∧
      allZero (bytesAt b 2 6) = true ∧
      allZero (b.drop (8 + 2 * n)) = true ∧
      (∀ k ∈ readKeys n b, (paramRow? k).isSome ∧ k ≠ K.REC_DATA ∧ k ∉ resultHeaders)) ∧
    (∃ (s : State) (v : State) (w : State) (t : Nat) (n : Nat) (co : List Nat) (path : Sys2Proof.Path) (raw : List Byte) (b : List Byte) (r : List Byte) (l : List Entry),
      s.Executes t path raw 0x8002 v ∧
      b = (readCommand path raw).body ∧
      n = natAt b 0 2 ∧
      1 ≤ n ∧
      n ≤ 128 ∧
      b.length = 8 + 24 * n ∧
      allZero (bytesAt b 2 6) = true ∧
      entryReserved n b = none ∧
      readEntries n (b.drop 8) = some (l, r) ∧
      v.writeEntries (readCommand path raw).auth co l = .ok w) ∧
    (∃ (s : State) (v : State) (t : Nat) (n : Nat) (co : List Nat) (path : Sys2Proof.Path) (raw : List Byte) (b : List Byte) (r : List Byte) (l : List Entry) (f : Failure),
      s.Executes t path raw 0x8002 v ∧
      b = (readCommand path raw).body ∧
      n = natAt b 0 2 ∧
      1 ≤ n ∧
      n ≤ 128 ∧
      b.length = 8 + 24 * n ∧
      allZero (bytesAt b 2 6) = true ∧
      entryReserved n b = none ∧
      readEntries n (b.drop 8) = some (l, r) ∧
      v.writeEntries (readCommand path raw).auth co l = .error f) ∧
    (∃ (s : State) (v : State) (w : State) (t : Nat) (p : Nat) (co : List Nat) (path : Sys2Proof.Path) (raw : List Byte) (x : TackImage) (l : List Entry),
      s.Executes t path raw 0x0003 v ∧
      p < 16 ∧
      (readCommand path raw).body = leBytes 8 p ∧
      v.storedTack = .ok x ∧
      Map.find? x.profiles p = some l ∧
      v.writeEntries (readCommand path raw).auth co l = .ok w) ∧
    (∃ (s : State) (v : State) (t : Nat) (a : Nat) (n : Nat) (path : Sys2Proof.Path) (raw : List Byte),
      s.Executes t path raw 0x8003 v ∧
      a < 2 ^ 32 ∧
      1 ≤ n ∧
      n ≤ 64 ∧
      (path = .mailbox → n ≠ 64) ∧
      (readCommand path raw).body = leBytes 4 a ++ leBytes 2 n ++ leBytes 2 0) ∧
    (∃ (s : State) (v : State) (t : Nat) (q : Nat) (a : Nat) (n : Nat) (path : Sys2Proof.Path) (raw : List Byte),
      s.Executes t path raw 0x8602 v ∧
      q < 16 ∧
      a % 4 = 0 ∧
      n % 4 = 0 ∧
      4 ≤ n ∧
      n ≤ 2048 ∧
      (path = .mailbox → n ≤ 2032) ∧
      a + n ≤ 8192 ∧
      (readCommand path raw).body = leBytes 1 q ++ leBytes 1 0 ++ leBytes 2 a ++ leBytes 2 n ++ leBytes 2 0) :=
  ⟨⟨boxed (up) (packet 32769 (leBytes 8 2 ++ leBytes 2 K.FIELD ++ leBytes 2 K.GAIT ++ leBytes 4 0)),
     passed (boxed (up) (packet 32769 (leBytes 8 2 ++ leBytes 2 K.FIELD ++ leBytes 2 K.GAIT ++ leBytes 4 0))) (packet 32769 (leBytes 8 2 ++ leBytes 2 K.FIELD ++ leBytes 2 K.GAIT ++ leBytes 4 0)),
     7,
     2,
     .mailbox,
     packet 32769 (leBytes 8 2 ++ leBytes 2 K.FIELD ++ leBytes 2 K.GAIT ++ leBytes 4 0),
     leBytes 8 2 ++ leBytes 2 K.FIELD ++ leBytes 2 K.GAIT ++ leBytes 4 0,
     by decide +kernel⟩,
    ⟨boxed up (packet 0x8002 (leBytes 8 1 ++ leBytes 8 K.FIELD ++ leBytes 8 (fieldEntry [(P.FIELD.W, 90000)]).1.mask.toNat ++ leBytes 8 90000)),
     passed (boxed up (packet 0x8002 (leBytes 8 1 ++ leBytes 8 K.FIELD ++ leBytes 8 (fieldEntry [(P.FIELD.W, 90000)]).1.mask.toNat ++ leBytes 8 90000))) (packet 0x8002 (leBytes 8 1 ++ leBytes 8 K.FIELD ++ leBytes 8 (fieldEntry [(P.FIELD.W, 90000)]).1.mask.toNat ++ leBytes 8 90000)),
     (match (passed (boxed up (packet 0x8002 (leBytes 8 1 ++ leBytes 8 K.FIELD ++ leBytes 8 (fieldEntry [(P.FIELD.W, 90000)]).1.mask.toNat ++ leBytes 8 90000))) (packet 0x8002 (leBytes 8 1 ++ leBytes 8 K.FIELD ++ leBytes 8 (fieldEntry [(P.FIELD.W, 90000)]).1.mask.toNat ++ leBytes 8 90000))).writeEntries false [] [(fieldEntry [(P.FIELD.W, 90000)]).1] with | .ok w => w | .error _ => up),
     7,
     1,
     [],
     .mailbox,
     packet 0x8002 (leBytes 8 1 ++ leBytes 8 K.FIELD ++ leBytes 8 (fieldEntry [(P.FIELD.W, 90000)]).1.mask.toNat ++ leBytes 8 90000),
     leBytes 8 1 ++ leBytes 8 K.FIELD ++ leBytes 8 (fieldEntry [(P.FIELD.W, 90000)]).1.mask.toNat ++ leBytes 8 90000,
     [],
     [(fieldEntry [(P.FIELD.W, 90000)]).1],
     by decide +kernel⟩,
    ⟨boxed up (packet 0x8002 (leBytes 8 1 ++ leBytes 8 K.FIELD ++ leBytes 8 (fieldEntry [(P.FIELD.W, 90000)]).1.mask.toNat ++ leBytes 8 29999)),
     passed (boxed up (packet 0x8002 (leBytes 8 1 ++ leBytes 8 K.FIELD ++ leBytes 8 (fieldEntry [(P.FIELD.W, 90000)]).1.mask.toNat ++ leBytes 8 29999))) (packet 0x8002 (leBytes 8 1 ++ leBytes 8 K.FIELD ++ leBytes 8 (fieldEntry [(P.FIELD.W, 90000)]).1.mask.toNat ++ leBytes 8 29999)),
     7,
     1,
     [],
     .mailbox,
     packet 0x8002 (leBytes 8 1 ++ leBytes 8 K.FIELD ++ leBytes 8 (fieldEntry [(P.FIELD.W, 90000)]).1.mask.toNat ++ leBytes 8 29999),
     leBytes 8 1 ++ leBytes 8 K.FIELD ++ leBytes 8 (fieldEntry [(P.FIELD.W, 90000)]).1.mask.toNat ++ leBytes 8 29999,
     [],
     [(fieldEntry [(P.FIELD.W, 29999)]).1],
     ⟨.refused, 0, K.FIELD⟩,
     by decide +kernel⟩,
    ⟨boxed ({ up with nv := { up.nv with tack := tackImage } }) (packet 3 (leBytes 8 15)),
     passed (boxed ({ up with nv := { up.nv with tack := tackImage } }) (packet 3 (leBytes 8 15))) (packet 3 (leBytes 8 15)),
     (match (passed (boxed ({ up with nv := { up.nv with tack := tackImage } }) (packet 3 (leBytes 8 15))) (packet 3 (leBytes 8 15))).writeEntries false [] [(fieldEntry [(P.FIELD.W, 90000)]).1] with | .ok w => w | .error _ => up),
     7,
     15,
     [],
     .mailbox,
     packet 3 (leBytes 8 15),
     ⟨5, [], [(15, [(fieldEntry [(P.FIELD.W, 90000)]).1])]⟩,
     [(fieldEntry [(P.FIELD.W, 90000)]).1],
     by decide +kernel⟩,
    ⟨boxed ({ up with recs := { up.recs with log := [⟨0x1201, 12, 1, 0, 0, []⟩] } }) (packet 32771 (leBytes 4 0 ++ leBytes 2 63 ++ leBytes 2 0)),
     passed (boxed ({ up with recs := { up.recs with log := [⟨0x1201, 12, 1, 0, 0, []⟩] } }) (packet 32771 (leBytes 4 0 ++ leBytes 2 63 ++ leBytes 2 0))) (packet 32771 (leBytes 4 0 ++ leBytes 2 63 ++ leBytes 2 0)),
     7,
     0,
     63,
     .mailbox,
     packet 32771 (leBytes 4 0 ++ leBytes 2 63 ++ leBytes 2 0),
     by decide +kernel⟩,
    ⟨boxed (up) (packet 34306 (leBytes 1 15 ++ leBytes 1 0 ++ leBytes 2 8188 ++ leBytes 2 4 ++ leBytes 2 0)),
     passed (boxed (up) (packet 34306 (leBytes 1 15 ++ leBytes 1 0 ++ leBytes 2 8188 ++ leBytes 2 4 ++ leBytes 2 0))) (packet 34306 (leBytes 1 15 ++ leBytes 1 0 ++ leBytes 2 8188 ++ leBytes 2 4 ++ leBytes 2 0)),
     7,
     15,
     8188,
     4,
     .mailbox,
     packet 34306 (leBytes 1 15 ++ leBytes 1 0 ++ leBytes 2 8188 ++ leBytes 2 4 ++ leBytes 2 0),
     by decide +kernel⟩⟩

theorem witness_ImageCommands :
    (∃ (s : State) (v : State) (t : Nat) (path : Sys2Proof.Path) (raw : List Byte) (p : Piece) (x : Xfer),
      s.Executes t path raw 0x1302 v ∧
      (readCommand path raw).Carries p ∧
      v.salsol.tack.take 65536 p = some x ∧
      x.whole = none) ∧
    (∃ (s : State) (v : State) (t : Nat) (path : Sys2Proof.Path) (raw : List Byte) (b : List Byte) (p : Piece) (x : Xfer),
      s.Executes t path raw 0x1302 v ∧
      (readCommand path raw).Carries p ∧
      v.salsol.tack.take 65536 p = some x ∧
      x.whole = some b ∧
      tackStorable b = true) ∧
    (∃ (s : State) (v : State) (t : Nat) (path : Sys2Proof.Path) (raw : List Byte) (p : Piece) (x : Xfer),
      s.Executes t path raw 0x1303 v ∧
      (readCommand path raw).Carries p ∧
      v.nv.trial = none ∧
      v.salsol.fw.take 393216 p = some x ∧
      x.whole = none ∧
      p.off ≠ 0) ∧
    (∃ (s : State) (v : State) (t : Nat) (path : Sys2Proof.Path) (raw : List Byte) (p : Piece) (x : Xfer),
      s.Executes t path raw 0x1303 v ∧
      (readCommand path raw).Carries p ∧
      v.nv.trial = none ∧
      v.salsol.fw.take 393216 p = some x ∧
      x.whole = none ∧
      p.off = 0) ∧
    (∃ (s : State) (v : State) (t : Nat) (path : Sys2Proof.Path) (raw : List Byte) (p : Piece) (x : Xfer),
      s.Executes t path raw 0x8601 v ∧
      (readCommand path raw).Carries p ∧
      v.salsol.evoth.take 98304 p = some x ∧
      x.whole = none) ∧
    (∃ (s : State) (v : State) (t : Nat) (slot : Nat) (path : Sys2Proof.Path) (raw : List Byte) (b : List Byte),
      s.Executes t path raw 0x9301 v ∧
      b = (readCommand path raw).body ∧
      b.length = 440 ∧
      natAt b 0 1 = 2 ∧
      natAt b 1 1 = slot ∧
      slot < 4 ∧
      allZero (bytesAt b 2 6) = true ∧
      (readCommand path raw).auth = true) ∧
    (∃ (s : State) (v : State) (t : Nat) (slot : Nat) (path : Sys2Proof.Path) (raw : List Byte),
      s.Executes t path raw 0x9302 v ∧
      slot < 4 ∧
      (readCommand path raw).body = leBytes 1 1 ++ leBytes 1 slot ++ leBytes 6 0 ∧
      (readCommand path raw).auth = true ∧
      (Map.find? v.nv.cmdKeys slot).isSome = true ∧
      v.nv.cmdKeys.length ≠ 1) ∧
    (∃ (s : State) (v : State) (t : Nat) (slot : Nat) (path : Sys2Proof.Path) (raw : List Byte),
      s.Executes t path raw 0x9302 v ∧
      slot < 4 ∧
      (readCommand path raw).body = leBytes 1 2 ++ leBytes 1 slot ++ leBytes 6 0 ∧
      (readCommand path raw).auth = true ∧
      (Map.find? v.nv.imageKeys slot).isSome = true) ∧
    (∃ (s : State) (v : State) (t : Nat) (path : Sys2Proof.Path) (raw : List Byte),
      s.Executes t path raw 0x9302 v ∧
      (readCommand path raw).body = leBytes 8 3 ∧
      (readCommand path raw).auth = true ∧
      v.nv.teamKey.isSome = true) :=
  ⟨⟨boxed (up) (signed 4866 (leBytes 4 (0) ++ leBytes 4 (16) ++ leBytes 4 8 ++ leBytes 4 0 ++ List.replicate 8 1)),
     passed (boxed (up) (signed 4866 (leBytes 4 (0) ++ leBytes 4 (16) ++ leBytes 4 8 ++ leBytes 4 0 ++ List.replicate 8 1))) (signed 4866 (leBytes 4 (0) ++ leBytes 4 (16) ++ leBytes 4 8 ++ leBytes 4 0 ++ List.replicate 8 1)),
     7,
     .mailbox,
     signed 4866 (leBytes 4 (0) ++ leBytes 4 (16) ++ leBytes 4 8 ++ leBytes 4 0 ++ List.replicate 8 1),
     ⟨0, 16, List.replicate 8 1⟩,
     ⟨16, List.replicate 8 1⟩,
     by decide +kernel⟩,
    ⟨boxed ({ up with salsol := { up.salsol with tack := ⟨72, tackImage.take 64⟩ } }) (signed 4866 (leBytes 4 (64) ++ leBytes 4 (72) ++ leBytes 4 8 ++ leBytes 4 0 ++ tackImage.drop 64)),
     passed (boxed ({ up with salsol := { up.salsol with tack := ⟨72, tackImage.take 64⟩ } }) (signed 4866 (leBytes 4 (64) ++ leBytes 4 (72) ++ leBytes 4 8 ++ leBytes 4 0 ++ tackImage.drop 64))) (signed 4866 (leBytes 4 (64) ++ leBytes 4 (72) ++ leBytes 4 8 ++ leBytes 4 0 ++ tackImage.drop 64)),
     7,
     .mailbox,
     signed 4866 (leBytes 4 (64) ++ leBytes 4 (72) ++ leBytes 4 8 ++ leBytes 4 0 ++ tackImage.drop 64),
     tackImage,
     ⟨64, 72, tackImage.drop 64⟩,
     ⟨72, tackImage⟩,
     by decide +kernel⟩,
    ⟨boxed ({ up with salsol := { up.salsol with fw := ⟨24, [1, 1, 1, 1, 1, 1, 1, 1]⟩ } }) (signed 4867 (leBytes 4 (8) ++ leBytes 4 (24) ++ leBytes 4 8 ++ leBytes 4 0 ++ List.replicate 8 1)),
     passed (boxed ({ up with salsol := { up.salsol with fw := ⟨24, [1, 1, 1, 1, 1, 1, 1, 1]⟩ } }) (signed 4867 (leBytes 4 (8) ++ leBytes 4 (24) ++ leBytes 4 8 ++ leBytes 4 0 ++ List.replicate 8 1))) (signed 4867 (leBytes 4 (8) ++ leBytes 4 (24) ++ leBytes 4 8 ++ leBytes 4 0 ++ List.replicate 8 1)),
     7,
     .mailbox,
     signed 4867 (leBytes 4 (8) ++ leBytes 4 (24) ++ leBytes 4 8 ++ leBytes 4 0 ++ List.replicate 8 1),
     ⟨8, 24, List.replicate 8 1⟩,
     ⟨24, List.replicate 16 1⟩,
     by decide +kernel⟩,
    ⟨boxed (up) (signed 4867 (leBytes 4 (0) ++ leBytes 4 (24) ++ leBytes 4 8 ++ leBytes 4 0 ++ List.replicate 8 1)),
     passed (boxed (up) (signed 4867 (leBytes 4 (0) ++ leBytes 4 (24) ++ leBytes 4 8 ++ leBytes 4 0 ++ List.replicate 8 1))) (signed 4867 (leBytes 4 (0) ++ leBytes 4 (24) ++ leBytes 4 8 ++ leBytes 4 0 ++ List.replicate 8 1)),
     7,
     .mailbox,
     signed 4867 (leBytes 4 (0) ++ leBytes 4 (24) ++ leBytes 4 8 ++ leBytes 4 0 ++ List.replicate 8 1),
     ⟨0, 24, List.replicate 8 1⟩,
     ⟨24, List.replicate 8 1⟩,
     by decide +kernel⟩,
    ⟨boxed (up) (signed 34305 (leBytes 4 (0) ++ leBytes 4 (16) ++ leBytes 4 8 ++ leBytes 4 0 ++ List.replicate 8 1)),
     passed (boxed (up) (signed 34305 (leBytes 4 (0) ++ leBytes 4 (16) ++ leBytes 4 8 ++ leBytes 4 0 ++ List.replicate 8 1))) (signed 34305 (leBytes 4 (0) ++ leBytes 4 (16) ++ leBytes 4 8 ++ leBytes 4 0 ++ List.replicate 8 1)),
     7,
     .mailbox,
     signed 34305 (leBytes 4 (0) ++ leBytes 4 (16) ++ leBytes 4 8 ++ leBytes 4 0 ++ List.replicate 8 1),
     ⟨0, 16, List.replicate 8 1⟩,
     ⟨16, List.replicate 8 1⟩,
     by decide +kernel⟩,
    ⟨boxed (up) (signed 37633 (leBytes 1 2 ++ leBytes 1 3 ++ leBytes 6 0 ++ List.replicate 432 1)),
     passed (boxed (up) (signed 37633 (leBytes 1 2 ++ leBytes 1 3 ++ leBytes 6 0 ++ List.replicate 432 1))) (signed 37633 (leBytes 1 2 ++ leBytes 1 3 ++ leBytes 6 0 ++ List.replicate 432 1)),
     7,
     3,
     .mailbox,
     signed 37633 (leBytes 1 2 ++ leBytes 1 3 ++ leBytes 6 0 ++ List.replicate 432 1),
     leBytes 1 2 ++ leBytes 1 3 ++ leBytes 6 0 ++ List.replicate 432 1,
     by decide +kernel⟩,
    ⟨boxed (up) (signed 37634 (leBytes 1 1 ++ leBytes 1 2 ++ leBytes 6 0)),
     passed (boxed (up) (signed 37634 (leBytes 1 1 ++ leBytes 1 2 ++ leBytes 6 0))) (signed 37634 (leBytes 1 1 ++ leBytes 1 2 ++ leBytes 6 0)),
     7,
     2,
     .mailbox,
     signed 37634 (leBytes 1 1 ++ leBytes 1 2 ++ leBytes 6 0),
     by decide +kernel⟩,
    ⟨boxed ({ up with nv := { up.nv with imageKeys := [(3, [1], [2])] } }) (signed 37634 (leBytes 1 2 ++ leBytes 1 3 ++ leBytes 6 0)),
     passed (boxed ({ up with nv := { up.nv with imageKeys := [(3, [1], [2])] } }) (signed 37634 (leBytes 1 2 ++ leBytes 1 3 ++ leBytes 6 0))) (signed 37634 (leBytes 1 2 ++ leBytes 1 3 ++ leBytes 6 0)),
     7,
     3,
     .mailbox,
     signed 37634 (leBytes 1 2 ++ leBytes 1 3 ++ leBytes 6 0),
     by decide +kernel⟩,
    ⟨boxed ({ up with nv := { up.nv with teamKey := some [1] } }) (signed 37634 (leBytes 8 3)),
     passed (boxed ({ up with nv := { up.nv with teamKey := some [1] } }) (signed 37634 (leBytes 8 3))) (signed 37634 (leBytes 8 3)),
     7,
     .mailbox,
     signed 37634 (leBytes 8 3),
     by decide +kernel⟩⟩

theorem witness_Attestation :
    (∃ (s : State) (v : State) (t : Nat) (path : Sys2Proof.Path) (raw : List Byte) (n : List Byte),
      s.Executes t path raw 0x1301 v ∧
      n.length = 32 ∧
      (readCommand path raw).body = leBytes 8 0 ++ n ∧
      v.attest.running = none) ∧
    (∃ (s : State) (t0 : Nat) (n : List Byte),
      s.Awake ∧
      s.attest.running = some (n, t0)) ∧
    (∃ (s : State) (v : State) (t : Nat) (a : Nat) (n : Nat) (path : Sys2Proof.Path) (raw : List Byte),
      s.Executes t path raw 0x1301 v ∧
      a < 2 ^ 32 ∧
      a % 8 = 0 ∧
      n % 8 = 0 ∧
      8 ≤ n ∧
      n ≤ 4072 ∧
      (path = .mailbox → n ≤ 2024) ∧
      a + n ≤ v.fld P.ATTEST_HDR.REPORT_LEN ∧
      (readCommand path raw).body = leBytes 4 1 ++ leBytes 4 a ++ leBytes 4 n ++ leBytes 4 0) ∧
    (∃ (s : State) (v : State) (t : Nat) (k : Nat) (a : Nat) (n : Nat) (path : Sys2Proof.Path) (raw : List Byte),
      s.Executes t path raw 0x1301 v ∧
      k ≤ 4 ∧
      a < 2 ^ 32 ∧
      a % 8 = 0 ∧
      n % 8 = 0 ∧
      8 ≤ n ∧
      n ≤ 4072 ∧
      (path = .mailbox → n ≤ 2024) ∧
      a + n ≤ (v.ident.section_ k).length ∧
      (readCommand path raw).body = leBytes 1 2 ++ leBytes 1 k ++ leBytes 2 0 ++ leBytes 4 a ++ leBytes 4 n ++ leBytes 4 0) :=
  ⟨⟨boxed (up) (packet 4865 (leBytes 8 0 ++ List.replicate 32 1)),
     passed (boxed (up) (packet 4865 (leBytes 8 0 ++ List.replicate 32 1))) (packet 4865 (leBytes 8 0 ++ List.replicate 32 1)),
     7,
     .mailbox,
     packet 4865 (leBytes 8 0 ++ List.replicate 32 1),
     List.replicate 32 1,
     by decide +kernel⟩,
    ⟨{ up with attest := { running := some (List.replicate 32 1, 5) } },
     5,
     List.replicate 32 1,
     by decide +kernel⟩,
    ⟨boxed (up.setFld P.ATTEST_HDR.REPORT_LEN 16) (packet 4865 (leBytes 4 1 ++ leBytes 4 8 ++ leBytes 4 8 ++ leBytes 4 0)),
     passed (boxed (up.setFld P.ATTEST_HDR.REPORT_LEN 16) (packet 4865 (leBytes 4 1 ++ leBytes 4 8 ++ leBytes 4 8 ++ leBytes 4 0))) (packet 4865 (leBytes 4 1 ++ leBytes 4 8 ++ leBytes 4 8 ++ leBytes 4 0)),
     7,
     8,
     8,
     .mailbox,
     packet 4865 (leBytes 4 1 ++ leBytes 4 8 ++ leBytes 4 8 ++ leBytes 4 0),
     by decide +kernel⟩,
    ⟨boxed (up) (packet 4865 (leBytes 1 2 ++ leBytes 1 0 ++ leBytes 2 0 ++ leBytes 4 0 ++ leBytes 4 8 ++ leBytes 4 0)),
     passed (boxed (up) (packet 4865 (leBytes 1 2 ++ leBytes 1 0 ++ leBytes 2 0 ++ leBytes 4 0 ++ leBytes 4 8 ++ leBytes 4 0))) (packet 4865 (leBytes 1 2 ++ leBytes 1 0 ++ leBytes 2 0 ++ leBytes 4 0 ++ leBytes 4 8 ++ leBytes 4 0)),
     7,
     0,
     0,
     8,
     .mailbox,
     packet 4865 (leBytes 1 2 ++ leBytes 1 0 ++ leBytes 2 0 ++ leBytes 4 0 ++ leBytes 4 8 ++ leBytes 4 0),
     by decide +kernel⟩⟩

theorem witness_SystemWrites :
    (∃ (s : State) (h : HostWrite),
      s.Accepts K.LINK_CTRL h ∧
      brings h P.LINK_CTRL.RETRAIN 1) ∧
    (∃ (s : State) (h : HostWrite),
      s.Accepts K.STU_INV h ∧
      brings h P.STU_INV.START 1) ∧
    (∃ (s : State) (c : Nat) (h : HostWrite),
      s.Accepts K.DMA_CMD h ∧
      brings h P.DMA_CMD.ACTION 1 ∧
      brings h P.DMA_CMD.CHANNEL c ∧
      s.inWindow (s.fld (P.DMA_STATUS.FAULT_VA.idx c)) = true ∧
      s.walks < 4 ∧
      s.linkUp = true ∧
      s.host.bme0 = true) ∧
    (∃ (s : State) (i : DmaItem) (n : Nat) (m : Nat) (h : HostWrite),
      s.Accepts K.DMA_CMD h ∧
      brings h P.DMA_CMD.ACTION 2 ∧
      brings h P.DMA_CMD.CHANNEL 5 ∧
      (s.chan 5).items = [i] ∧
      i.done = .capture n m) ∧
    (∃ (s : State) (h : HostWrite),
      s.Accepts K.FW_CTRL h ∧
      brings h P.FW_CTRL.CONFIRM 1) ∧
    (∃ (s : State) (m : Nat) (h : HostWrite),
      s.Accepts K.CLK_CTRL h ∧
      brings h P.CLK_CTRL.PFD_MODE m) ∧
    (∃ (s : State) (x : Nat) (h : HostWrite),
      s.Accepts K.PWR_CTRL h ∧
      brings h P.PWR_CTRL.STATE x ∧
      x ≠ s.fld P.PWR_STATUS.STATE) ∧
    (∃ (s : State) (h : HostWrite),
      s.Accepts K.THERM_CTRL h ∧
      brings h P.THERM_CTRL.RESUME 1) ∧
    (∃ (s : State) (l : Nat) (w : Nat) (a : Nat) (d : Nat) (h : HostWrite),
      s.Accepts K.DCL_XFER h ∧
      brings h P.DCL_XFER.LANE l ∧
      brings h P.DCL_XFER.WRITE w ∧
      brings h P.DCL_XFER.ADDR a ∧
      brings h P.DCL_XFER.DATA d) ∧
    (∃ (s : State) (c : Nat) (h : HostWrite),
      s.Accepts K.DMA_CMD h ∧
      brings h P.DMA_CMD.ACTION 1 ∧
      brings h P.DMA_CMD.CHANNEL c ∧
      s.inWindow (s.fld (P.DMA_STATUS.FAULT_VA.idx c)) = true ∧
      (4 ≤ s.walks ∨ s.linkUp = false ∨ s.host.bme0 = false)) :=
  ⟨⟨up,
     wr [(P.LINK_CTRL.RETRAIN, 1)],
     by decide +kernel⟩,
    ⟨up,
     wr [(P.STU_INV.START, 1)],
     by decide +kernel⟩,
    ⟨{ (((up.setStalled 7 true).setFld P.STU_CFG.EN 1).setFld P.STU_CFG.L1_LOG2 1).setFld (P.DMA_STATUS.FAULT_VA.idx 7) 4096 with host := { up.host with bme0 := true } },
     7,
     wr [(P.DMA_CMD.ACTION, 1), (P.DMA_CMD.CHANNEL, 7)],
     by decide +kernel⟩,
    ⟨(up.setStalled 5 true).setChan 5 { items := [{ payload := [], done := .capture 1 2 }] },
     { payload := [], done := .capture 1 2 },
     1,
     2,
     wr [(P.DMA_CMD.ACTION, 2), (P.DMA_CMD.CHANNEL, 5)],
     by decide +kernel⟩,
    ⟨{ up with nv := { up.nv with trial := some true } },
     wr [(P.FW_CTRL.CONFIRM, 1)],
     by decide +kernel⟩,
    ⟨up.setFld P.CLK_STATUS.PLL_STATE 1,
     1,
     wr [(P.CLK_CTRL.PFD_MODE, 1)],
     by decide +kernel⟩,
    ⟨up,
     0,
     wr [(P.PWR_CTRL.STATE, 0)],
     by decide +kernel⟩,
    ⟨up.setFld P.THERM_STATUS.THERM_STATE 3,
     wr [(P.THERM_CTRL.RESUME, 1)],
     by decide +kernel⟩,
    ⟨up.setFld P.DCL_CFG.EN 15,
     3,
     1,
     0x3FFE,
     0xFFFF,
     wr [(P.DCL_XFER.LANE, 3), (P.DCL_XFER.WRITE, 1), (P.DCL_XFER.ADDR, 0x3FFE), (P.DCL_XFER.DATA, 0xFFFF)],
     by decide +kernel⟩,
    ⟨(((up.setStalled 7 true).setFld P.STU_CFG.EN 1).setFld P.STU_CFG.L1_LOG2 1).setFld (P.DMA_STATUS.FAULT_VA.idx 7) 4096,
     7,
     wr [(P.DMA_CMD.ACTION, 1), (P.DMA_CMD.CHANNEL, 7)],
     by decide +kernel⟩⟩

theorem witness_PowerAndClock :
    (∃ (s : State) (st : Nat),
      s.Awake ∧
      s.power.target = some st ∧
      st ≤ 2 ∧
      s.power.draining = false) ∧
    (∃ (s : State) (st : Nat),
      s.Awake ∧
      s.power.target = some st ∧
      st ≤ 2 ∧
      s.power.draining = true ∧
      s.chainEmpty = true ∧
      s.ctl.restart = none) ∧
    (∃ (s : State) (st : Nat),
      s.Awake ∧
      s.power.target = some st ∧
      s.power.draining = true ∧
      s.chainEmpty = false) ∧
    (∃ (on : Nat),
      on < 2 ^ 36) ∧
    (∃ (s : State),
      s.Awake ∧
      s.bit P.CLK_STATUS.REF_PRESENT = true) ∧
    (∃ (s : State),
      s.Awake ∧
      s.bit P.CLK_STATUS.REF_PRESENT = false) ∧
    (∃ (s : State),
      s.Awake ∧
      s.bit P.CLK_STATUS.REF_PRESENT = true ∧
      (s.pll = 0 ∨ s.pll = 3)) ∧
    (∃ (s : State) (d : PllDividers),
      s.Awake ∧
      s.power.pfdPend = some d ∧
      s.power.pfdDue = true ∧
      s.bit P.CLK_STATUS.REF_PRESENT = true ∧
      d.mode < 2 ^ P.CLK_STATUS.PFD_CUR.width) :=
  ⟨⟨{ up with power := { up.power with target := some 0 } },
     0,
     by decide +kernel⟩,
    ⟨{ up with power := { up.power with target := some 2, draining := true } },
     2,
     by decide +kernel⟩,
    ⟨{ flight [col] with power := { up.power with target := some 1, draining := true } },
     1,
     by decide +kernel⟩,
    ⟨2 ^ 36 - 1,
     by decide +kernel⟩,
    ⟨(up.setFld P.CLK_STATUS.REF_PRESENT 1),
     by decide +kernel⟩,
    ⟨(up.setFld P.CLK_STATUS.REF_PRESENT 0),
     by decide +kernel⟩,
    ⟨(up.setFld P.CLK_STATUS.REF_PRESENT 1).setFld P.CLK_STATUS.PLL_STATE 3,
     by decide +kernel⟩,
    ⟨{ (up.setFld P.CLK_STATUS.REF_PRESENT 1) with power := { up.power with pfdPend := some (pfdDividers 1), pfdDue := true } },
     pfdDividers 1,
     by decide +kernel⟩⟩

theorem witness_ThermalStop :
    (∃ (s : State) (t : Nat),
      s.Awake ∧
      t % 1000000 = 0 ∧
      (∀ j m d, j < 9 → s.thermDelta j = some (m, d) → s.rateHot m d = false ∧ d ≤ 0)) ∧
    (∃ (s : State) (x : OrderlyStop),
      s.Awake ∧
      s.power.stop = some x ∧
      x.begun = true ∧
      s.chainEmpty = true ∧
      s.fld P.SAFETY_STATUS.OUT_ON = 0 ∧
      x.causes < 16) ∧
    (∃ (s : State) (x : OrderlyStop),
      s.Awake ∧
      s.power.stop = some x ∧
      x.begun = false ∧
      s.stopBegun = true ∧
      s.scan.fired = false) ∧
    (∃ (s : State) (x : OrderlyStop),
      s.Awake ∧
      s.power.stop = some x ∧
      x.begun = false ∧
      s.stopBegun = true) :=
  ⟨⟨up,
     1000000,
     by decide,
     by decide,
     by
      have h : ∀ j, j < 9 → up.thermDelta j = none := by decide
      intro j m d hj e
      simp [h j hj] at e⟩,
    ⟨{ up with power := { up.power with stop := some ⟨5, 1, 0, 0, none, true⟩ } },
     ⟨5, 1, 0, 0, none, true⟩,
     by decide +kernel⟩,
    ⟨{ up with power := { up.power with stop := some ⟨5, 15, 0, 0, none, false⟩ } },
     ⟨5, 15, 0, 0, none, false⟩,
     by decide +kernel⟩,
    ⟨{ up with power := { up.power with stop := some ⟨5, 15, 0, 0, none, false⟩ } },
     ⟨5, 15, 0, 0, none, false⟩,
     by decide +kernel⟩⟩

theorem witness_Resets :
    (∃ (s : State) (t : Nat),
      s.Awake ∧
      s.ctl.beat + 100000000 ≤ t ∧
      s.ctl.restart = none ∧
      s.domOn 33 = true ∧
      s.bridgeFailed (s.fld P.MIR_STATUS.BRIDGE) = false) ∧
    (∃ (s : State) (t : Nat),
      s.Awake ∧
      t < s.ctl.beat + 100000000) ∧
    (∃ (s : State) (h : HostWrite),
      s.Accepts K.RESET_CTRL h ∧
      brings h P.RESET_CTRL.CTRL_RESTART 1 ∧
      s.domOn 33 = true ∧
      s.bridgeFailed (s.fld P.MIR_STATUS.BRIDGE) = false) ∧
    (∃ (s : State),
      s.Awake) ∧
    (∃ (s : State),
      s.Awake) ∧
    (∃ (s : State),
      s.Awake) ∧
    (∃ (s : State) (t : Nat) (c : Nat),
      s.Awake ∧
      s.chainEmpty = true ∧
      s.ctl.restart = some c ∧
      s.ctl.restartAt + 50000000 ≤ t) ∧
    (∃ (s : State) (t : Nat) (c : Nat),
      s.Awake ∧
      s.ctl.restart = some c ∧
      (s.chainEmpty = false ∨ t < s.ctl.restartAt + 50000000)) :=
  ⟨⟨(up.setFld P.PWR_STATUS.DOMAIN_ON (2 ^ 36 - 1)),
     100000000,
     by decide +kernel⟩,
    ⟨up,
     99999999,
     by decide +kernel⟩,
    ⟨(up.setFld P.PWR_STATUS.DOMAIN_ON (2 ^ 36 - 1)),
     wr [(P.RESET_CTRL.CTRL_RESTART, 1)],
     by decide +kernel⟩,
    ⟨up,
     by decide +kernel⟩,
    ⟨up,
     by decide +kernel⟩,
    ⟨up,
     by decide +kernel⟩,
    ⟨{ up with ctl := { up.ctl with restart := some 1, restartAt := 9 } },
     50000009,
     1,
     by decide +kernel⟩,
    ⟨{ up with ctl := { up.ctl with restart := some 1, restartAt := 9 } },
     50000008,
     1,
     by decide +kernel⟩⟩

theorem witness_DetectorControl :
    (∃ (s : State) (x : DclXfer) (t : Nat),
      s.Awake ∧
      s.dcl = some x ∧
      x.started = false ∧
      x.asked ≤ t ∧
      s.bit P.DCL_CFG.SYNC_TURN = false ∧
      x.addr < 2 ^ 14 ∧
      x.data < 2 ^ 16) ∧
    (∃ (s : State) (x : DclXfer) (t : Nat),
      s.Awake ∧
      s.dcl = some x ∧
      x.started = true ∧
      x.startAt + (if x.write then 640 else 1440) ≤ t ∧
      x.lane < 4 ∧
      x.addr < 2 ^ 14 ∧
      x.data < 2 ^ 16) :=
  ⟨⟨{ up.setFld P.DCL_CFG.SYNC_TURN 0 with dcl := some ⟨3, false, 0x3FFF, 0xFFFF, 5, false, 0⟩ },
     ⟨3, false, 0x3FFF, 0xFFFF, 5, false, 0⟩,
     5,
     by decide +kernel⟩,
    ⟨{ up with dcl := some ⟨3, false, 0x3FFF, 0xFFFF, 5, true, 0⟩ },
     ⟨3, false, 0x3FFF, 0xFFFF, 5, true, 0⟩,
     1440,
     by decide +kernel⟩⟩

theorem witness_HistogramForm :
    (∃ (s : State) (t : State),
      s.HistWf ∧
      step s = .next t) :=
  ⟨{ up with pending := [.refPresent 7, .refLost 9] },
     match step { up with pending := [.refPresent 7, .refLost 9] } with | .next t => t | _ => up,
     by decide,
     rfl⟩

/-- The check of a header looks at the link's path, the keys, the identity, the parameters and the control complex. -/
theorem head_same (s u : State) (c : Command) (raw : List Byte) (h : c.path = .mailbox) (hk : u.nv.cmdKeys = s.nv.cmdKeys)
    (hi : u.ident = s.ident) (hr : u.regs = s.regs) (_ : u.ctl = s.ctl) : (u.checkHead c raw).1 = (s.checkHead c raw).1 := by
  have e : ∀ k, u.reg k = s.reg k := fun k => by simp [State.reg, hr]
  have f : ∀ g, u.fld g = s.fld g := fun g => by simp [State.fld, e]
  have o : u.opcodeBad c = s.opcodeBad c := by simp [State.opcodeBad, State.inRecovery, State.bit, f]
  have l : u.lenBad c = s.lenBad c := by simp [State.lenBad, h]
  have t : ∀ k, u.commandTag k c = s.commandTag k c := fun k => by simp [State.commandTag, hi, e]
  simp only [State.checkHead, o, l, hk, t, f]
  split <;> try rfl
  split <;> try rfl
  split <;> try rfl
  split <;> try rfl
  split <;> try rfl
  split <;> try rfl
  split <;> rfl

/-- The link of a peer whose certificate is `c`, being verified. -/
def certLink (c : List Byte) : State :=
  let s := (up.setLaneSt 7 4).withLane 7 fun y => { y with link := 7 }
  { s with hitch := { s.hitch with links := [(7, { verifying := true, pieces := [(0, c)], helloRx := (c.drop 8).take 8 })] } }

theorem witness_LinkHandshake_cert (c : List Byte) (h : up.hitchCertOk c = true) (n : frameField c 8 8 ≠ up.devId) :
    ∃ (s : State) (l : Nat), s.Awake ∧ l < 8 ∧ (s.link (s.linkId l)).verifying = true ∧
      s.hitchCertOk (assemble (s.link (s.linkId l)).pieces) = true ∧
      frameField (assemble (s.link (s.linkId l)).pieces) 8 8 = (s.link (s.linkId l)).peerId ∧
      (s.link (s.linkId l)).peerId ≠ s.devId := by
  have e : (certLink c).link ((certLink c).linkId 7) = { verifying := true, pieces := [(0, c)], helloRx := (c.drop 8).take 8 } := rfl
  have a : assemble [(0, c)] = c := by simp [assemble]
  have p : ({ verifying := true, pieces := [(0, c)], helloRx := (c.drop 8).take 8 } : Link).peerId = frameField c 8 8 := by
    simp [Link.peerId, frameField, List.take_take]
  have d : (certLink c).devId = up.devId := rfl
  refine ⟨certLink c, 7, rfl, by decide, ?_⟩
  rw [e, p, d]
  exact ⟨rfl, by rw [a]; exact h, by rw [a], n⟩

/-- The check of a header changes no more than the counter of a key. -/
theorem head_keeps (s : State) (c : Command) (raw : List Byte) :
    (s.checkHead c raw).2.salsol = s.salsol ∧ (s.checkHead c raw).2.nv = s.nv := by
  have f : ∀ g v, (s.setFld g v).salsol = s.salsol ∧ (s.setFld g v).nv = s.nv := fun g v => ⟨rfl, rfl⟩
  simp only [State.checkHead]
  split <;> try exact ⟨rfl, rfl⟩
  split <;> try exact ⟨rfl, rfl⟩
  split <;> try exact ⟨rfl, rfl⟩
  split <;> try exact ⟨rfl, rfl⟩
  split <;> try exact ⟨rfl, rfl⟩
  split <;> try exact ⟨rfl, rfl⟩
  split
  · exact ⟨rfl, rfl⟩
  · exact f _ _

/-- A signed packet with the last 8 bytes of an image of `n` bytes, all 1. -/
def lastPiece (op n : Nat) : List Byte :=
  signed op (leBytes 4 (n - 8) ++ leBytes 4 n ++ leBytes 4 8 ++ leBytes 4 0 ++ List.replicate 8 1)
/-- The device before that packet: the rest of the image is in, an image key is enrolled in the slot the image names. -/
def almost (op n : Nat) (pre : List Byte) (keys : List Byte × List Byte) : State :=
  { boxed up (lastPiece op n) with
    salsol := { (boxed up (lastPiece op n)).salsol with evoth := ⟨n, pre⟩, fw := ⟨n, pre⟩ }
    nv := { (boxed up (lastPiece op n)).nv with imageKeys := [(natAt (pre ++ List.replicate 8 1) 32 4, keys)] } }

theorem almost_executes (op n : Nat) (pre : List Byte) (keys : List Byte × List Byte)
    (h : (((boxed up (lastPiece op n)).taken 7 .mailbox (lastPiece op n)).checkHead (readCommand .mailbox (lastPiece op n)) (lastPiece op n)).1 = none)
    (o : (readCommand .mailbox (lastPiece op n)).opcode = op) :
    (almost op n pre keys).Executes 7 .mailbox (lastPiece op n) op (passed (almost op n pre keys) (lastPiece op n)) :=
  have b : up.OffBoundary 7 := by decide +kernel
  ⟨rfl, rfl, b, rfl, o, Prod.ext ((head_same ((boxed up (lastPiece op n)).taken 7 .mailbox (lastPiece op n))
    ((almost op n pre keys).taken 7 .mailbox (lastPiece op n)) _ _ rfl rfl rfl rfl rfl).trans h) rfl⟩

theorem almost_take (op n lim : Nat) (pre : List Byte) (keys : List Byte × List Byte) (h : pre.length + 8 = n) (l : n ≤ lim) :
    (passed (almost op n pre keys) (lastPiece op n)).salsol.evoth.take lim ⟨n - 8, n, List.replicate 8 1⟩ =
      some ⟨n, pre ++ List.replicate 8 1⟩ ∧
    (passed (almost op n pre keys) (lastPiece op n)).salsol.fw.take lim ⟨n - 8, n, List.replicate 8 1⟩ =
      some ⟨n, pre ++ List.replicate 8 1⟩ ∨ pre = [] := by
  by_cases e : pre = []
  · exact .inr e
  · have p : 0 < pre.length := List.length_pos_iff.mpr e
    left
    have a : (passed (almost op n pre keys) (lastPiece op n)).salsol.evoth = ⟨n, pre⟩ ∧
        (passed (almost op n pre keys) (lastPiece op n)).salsol.fw = ⟨n, pre⟩ := by
      rw [passed, (head_keeps _ _ _).1]
      exact ⟨rfl, rfl⟩
    rw [a.1, a.2]
    subst h
    refine ⟨?_, ?_⟩ <;>
    · simp only [Xfer.take, List.length_replicate]
      rw [if_neg (by omega), if_neg (by omega), if_pos ⟨by omega, trivial⟩]

theorem almost_nv (op n : Nat) (pre : List Byte) (keys : List Byte × List Byte) :
    (passed (almost op n pre keys) (lastPiece op n)).nv = (almost op n pre keys).nv := by
  rw [passed, (head_keeps _ _ _).2]; rfl

/-- ImageCommands has hypotheses on signatures, which nothing decides: for every image of 8 program bytes that ends in eight 1s
and whose signatures verify under some key, a REFINE load, a BACKGROUND load and a firmware load of it meet the hypotheses. -/
theorem witness_ImageCommands_evoth (pre b : List Byte) (keys : List Byte × List Byte) (hb : b = pre ++ List.replicate 8 1)
    (hl : pre.length = 16672) (hh : evothHeaderOk b = true)
    (hv : bothVerify keys (digestBlock labelEvoth (b.take (64 + natAt b 8 4 + natAt b 12 4))) (b.drop (64 + natAt b 8 4 + natAt b 12 4)) = true) :
    ∃ (s v : State) (raw : List Byte) (p : Piece) (x : Xfer), s.Executes 7 .mailbox raw 0x8601 v ∧
      (readCommand .mailbox raw).Carries p ∧ v.salsol.evoth.take 98304 p = some x ∧ x.whole = some b ∧
      evothHeaderOk b = true ∧ Map.find? v.nv.imageKeys (natAt b 32 4) = some keys ∧
      bothVerify keys (digestBlock labelEvoth (b.take (64 + natAt b 8 4 + natAt b 12 4))) (b.drop (64 + natAt b 8 4 + natAt b 12 4)) = true := by
  subst hb
  have ht := almost_take 0x8601 16680 98304 pre keys (by omega) (by omega)
  have ne : pre ≠ [] := by rintro rfl; simp at hl
  refine ⟨almost 0x8601 16680 pre keys, _, lastPiece 0x8601 16680, ⟨16672, 16680, List.replicate 8 1⟩, ⟨16680, pre ++ List.replicate 8 1⟩,
    almost_executes _ _ _ _ (by decide +kernel) (by decide +kernel), by decide +kernel, (ht.resolve_right ne).1, ?_, hh, ?_, hv⟩
  · simp only [Xfer.whole, List.length_append, List.length_replicate, hl]
    rfl
  · rw [almost_nv]
    simp [almost, Map.find?]

theorem witness_ImageCommands_firmware (pre b : List Byte) (hb : b = pre ++ List.replicate 8 1)
    (hl : pre.length = 16672) (hh : fwHeaderOk b = true)
    (hv : bothVerify (Config.rootKey (natAt b 7 1)) (digestBlock labelFirmware (b.take (64 + natAt b 16 4))) (b.drop (64 + natAt b 16 4)) = true) :
    ∃ (s v : State) (raw : List Byte) (p : Piece) (x : Xfer), s.Executes 7 .mailbox raw 0x1303 v ∧
      (readCommand .mailbox raw).Carries p ∧ v.nv.trial = none ∧ v.salsol.fw.take 393216 p = some x ∧ x.whole = some b ∧ p.off ≠ 0 ∧
      fwHeaderOk b = true ∧ bitOf v.nv.revoked (natAt b 7 1 - 1) = false ∧
      bothVerify (Config.rootKey (natAt b 7 1)) (digestBlock labelFirmware (b.take (64 + natAt b 16 4))) (b.drop (64 + natAt b 16 4)) = true ∧
      v.nv.rollback ≤ natAt b 6 1 := by
  subst hb
  have ht := almost_take 0x1303 16680 393216 pre ([], []) (by omega) (by omega)
  have ne : pre ≠ [] := by rintro rfl; simp at hl
  refine ⟨almost 0x1303 16680 pre ([], []), _, lastPiece 0x1303 16680, ⟨16672, 16680, List.replicate 8 1⟩, ⟨16680, pre ++ List.replicate 8 1⟩,
    almost_executes _ _ _ _ (by decide +kernel) (by decide +kernel), by decide +kernel, ?_, (ht.resolve_right ne).2, ?_, by decide, hh, ?_, hv, ?_⟩
  · rw [almost_nv]; rfl
  · simp only [Xfer.whole, List.length_append, List.length_replicate, hl]
    rfl
  · rw [almost_nv]
    show bitOf 0 _ = false
    simp [bitOf]
  · rw [almost_nv]
    exact Nat.zero_le _

/-- A little-endian field has its length. -/
theorem leBytes_len : ∀ n v, (leBytes n v).length = n := by
  intro n; induction n with
  | zero => intro v; rfl
  | succ n ih => intro v; simp [leBytes, ih]

/-- A block leaves a chaining value of eight words. -/
theorem absorb_len (k : Sha2) (c : List Nat) (b : List Byte) (h : c.length = 8) : (k.absorb c b).length = 8 := by
  have r : ∀ (l : List Nat) (st : List Nat × List Nat), st.1.length = 4 → st.2.length = 4 →
      (l.foldl k.round st).1.length = 4 ∧ (l.foldl k.round st).2.length = 4 := by
    intro l
    induction l with
    | nil => exact fun st a b => ⟨a, b⟩
    | cons w l ih => exact fun st a b => ih _ (by simp [Sha2.round, a]) (by simp [Sha2.round, b])
  have q := r (List.zipWith (· + ·) ((k.schedule ((chunks (k.width / 8) b).map beNat)).reverse) k.constants) (c.take 4, c.drop 4)
    (by simp [h]) (by simp [h])
  simp only [Sha2.absorb, List.length_zipWith, List.length_append, q.1, q.2, h]
  rfl

/-- SHA-256 gives 32 bytes. -/
theorem sha256_len (m : List Byte) : (sha256 m).length = 32 := by
  have f : ∀ (l : List (List Byte)) (c : List Nat), c.length = 8 → (l.foldl sha2Small.absorb c).length = 8 := by
    intro l
    induction l with
    | nil => exact fun c h => h
    | cons b l ih => exact fun c h => ih _ (absorb_len _ _ _ h)
  have g : ∀ c : List Nat, ((c.map (beBytes 4)).flatten).length = 4 * c.length := by
    intro c
    induction c with
    | nil => rfl
    | cons x c ih => simp only [List.map_cons, List.flatten_cons, List.length_append, ih, beBytes, List.length_reverse, leBytes_len,
        List.length_cons]; omega
  have h8 : ((((squareRootRows.take 2).map rowWords).flatten).map (· / 2 ^ 32)).length = 8 := by decide +kernel
  show ((((chunks (2 * sha2Small.width) (sha2Small.padded m)).foldl sha2Small.absorb _).map (beBytes 4)).flatten).length = 32
  rw [g, f _ _ h8]

/-- Some wrapped command key for slot 3 unwraps, whatever the decapsulation gives: its tag is formed under the secret itself. -/
theorem some_key_unwraps : ∃ b k : List Byte, b.length = 1144 ∧ natAt b 0 1 = 1 ∧ natAt b 1 1 = 3 ∧ allZero (bytesAt b 2 6) = true ∧
    up.unwrapKey 1 3 (b.drop 8) = some k := by
  have z : ∀ a m t : List Byte, a.length = 1088 → m.length = 32 → t.length = 16 →
      (a ++ m ++ t).take 1088 = a ∧ bytesAt (a ++ m ++ t) 1088 32 = m ∧ bytesAt (a ++ m ++ t) 1120 16 = t := by
    intro a m t ha hm ht
    refine ⟨?_, ?_, ?_⟩
    · rw [List.append_assoc, List.take_left' ha]
    · rw [bytesAt, List.append_assoc, List.drop_left' ha, List.take_left' hm]
    · rw [bytesAt, List.drop_left' (by rw [List.length_append, ha, hm]), List.take_of_length_le (by omega)]
  generalize ha : List.replicate 1088 (0 : Byte) = a
  have la : a.length = 1088 := by rw [← ha, List.length_replicate]
  generalize hm : List.replicate 32 (0 : Byte) = m
  have lm : m.length = 32 := by rw [← hm, List.length_replicate]
  generalize ht : (hmacSha256 ((hmacSha256 (Config.mlKemDecaps a) (labelEnroll ++ leBytes 8 up.ident.devId ++ leBytes 1 1 ++
    leBytes 1 3)).drop 16) (a ++ m)).take 16 = t
  have lt : t.length = 16 := by rw [← ht, List.length_take, hmacSha256, sha256_len]; rfl
  obtain ⟨za, zm, zt⟩ := z a m t la lm lt
  have key : ∃ k, up.unwrapKey 1 3 (a ++ m ++ t) = some k := by
    simp only [State.unwrapKey, za, zm, zt, ht, if_true]
    exact ⟨_, rfl⟩
  obtain ⟨k, hk⟩ := key
  refine ⟨[1, 3, 0, 0, 0, 0, 0, 0] ++ (a ++ m ++ t), k, ?_, rfl, rfl, rfl, ?_⟩
  · rw [List.length_append, List.length_append, List.length_append, la, lm, lt]; rfl
  · exact hk

/-- `up` with a KEY_ENROLL of its mailbox shown in execution. -/
def shown : State := (up.at_ 7).showRun (some (.mailbox, 0x9301, 7))

/-- A wrapped command key `b` for slot 3 that unwraps is enrolled by an untagged command while no slot holds one. -/
theorem key_enrolled (b k : List Byte) (hl : b.length = 1144) (h0 : natAt b 0 1 = 1) (h1 : natAt b 1 1 = 3)
    (h2 : allZero (bytesAt b 2 6) = true) (hk : up.unwrapKey 1 3 (b.drop 8) = some k) :
    ∃ (s v : State) (raw : List Byte), s.Executes 7 .mailbox raw 0x9301 v ∧ b = (readCommand .mailbox raw).body ∧
      b.length = 1144 ∧ natAt b 0 1 = 1 ∧ natAt b 1 1 = 3 ∧ allZero (bytesAt b 2 6) = true ∧
      ((readCommand .mailbox raw).auth = true ∨ v.nv.cmdKeys = []) ∧ v.unwrapKey 1 3 (b.drop 8) = some k := by
  have hp : packet 0x9301 b = leBytes 2 0x9301 ++ leBytes 2 7 ++ leBytes 2 1160 ++ List.replicate 10 0 ++ b := by rw [packet, hl]
  have ht : b.take 1144 = b := List.take_of_length_le (by omega)
  have hc : readCommand .mailbox (packet 0x9301 b) = ⟨.mailbox, 0x9301, 7, 1160, 0, 0, 0, packet 0x9301 b, b⟩ := by
    rw [hp]
    simp [readCommand, natAt, bytesAt, leBytes, leNat, bitOf, List.replicate, ht]
  have d : up.OffBoundary 7 := by decide +kernel
  refine ⟨{ up with salsol := { up.salsol with mbCmd := some (packet 0x9301 b) } }, shown, packet 0x9301 b,
    ⟨rfl, rfl, d, rfl, by rw [hc], ?_⟩, by rw [hc], hl, h0, h1, h2, .inr rfl, hk⟩
  have z : allZero (bytesAt (packet 0x9301 b) 9 3) = true ∧ allZero (bytesAt (packet 0x9301 b) 8 8) = true := by
    rw [hp]; simp [allZero, bytesAt, leBytes, List.replicate]
  have g : shown.opcodeBad ⟨.mailbox, 0x9301, 7, 1160, 0, 0, 0, packet 0x9301 b, b⟩ = false := by
    have e : shown.inRecovery = false := by decide +kernel
    simp [State.opcodeBad, e, opcodes]
  have e : shown.checkHead ⟨.mailbox, 0x9301, 7, 1160, 0, 0, 0, packet 0x9301 b, b⟩ (packet 0x9301 b) = (none, shown) := by
    simp [State.checkHead, State.lenBad, Command.headBad, Command.auth, bitOf, z, g]
  rw [State.taken, hc]
  exact e

/-- Some wrapped command key is enrolled so. -/
theorem witness_ImageCommands_key : ∃ (s v : State) (raw b k : List Byte), s.Executes 7 .mailbox raw 0x9301 v ∧
    b = (readCommand .mailbox raw).body ∧ b.length = 1144 ∧ natAt b 0 1 = 1 ∧ natAt b 1 1 = 3 ∧ allZero (bytesAt b 2 6) = true ∧
    ((readCommand .mailbox raw).auth = true ∨ v.nv.cmdKeys = []) ∧ v.unwrapKey 1 3 (b.drop 8) = some k := by
  obtain ⟨b, k, hl, h0, h1, h2, hk⟩ := some_key_unwraps
  obtain ⟨s, v, raw, h⟩ := key_enrolled b k hl h0 h1 h2 hk
  exact ⟨s, v, raw, b, k, h⟩

end Sys2Proof.Tests
end

section
/-! PROOFS. Host writes of a parameter: the bits they name, and what an accepted one leaves (R384, R418). -/
namespace Sys2Proof.Machine

/-! ### Bits and fields of words -/

/-- Bit `i` of a word's number is the word's bit `i`. -/
theorem bitOf_toNat (w : Word) (i : Nat) : bitOf w.toNat i = w.getLsbD i := by
  rw [BitVec.getLsbD, Nat.testBit_eq_decide_div_mod_eq, bitOf]
  exact Bool.eq_iff_iff.mpr (by simp)

/-- A bit of a field is the bit of the word at its place. -/
theorem testBit_wordFld (w : Word) (f : FieldRef) (i : Nat) :
    (wordFld w f).testBit i = (decide (i < f.width) && w.getLsbD (f.lo + i)) := by
  rw [wordFld, bitsOf, Nat.testBit_mod_two_pow, Nat.testBit_div_two_pow, BitVec.getLsbD, FieldRef.width, Nat.add_comm i]

/-- Words that agree on a field's bits hold the same field. -/
theorem wordFld_congr {w x : Word} {f : FieldRef} (h : ∀ i < f.width, w.getLsbD (f.lo + i) = x.getLsbD (f.lo + i)) :
    wordFld w f = wordFld x f := by
  refine Nat.eq_of_testBit_eq fun i => ?_
  rw [testBit_wordFld, testBit_wordFld]
  by_cases hi : i < f.width
  · rw [h i hi]
  · simp [hi]

/-- A mask that covers a field whole has each of its bits. -/
theorem getLsbD_of_full {m : Word} {f : FieldRef} (h : wordFld m f = 2 ^ f.width - 1) {i : Nat} (hi : i < f.width) :
    m.getLsbD (f.lo + i) = true := by
  have hb := testBit_wordFld m f i
  rw [h, Nat.testBit_two_pow_sub_one] at hb
  simpa [hi] using hb.symm

/-- A field of one bit, as a bit of its word. -/
theorem wordFld_bit (w : Word) (k b : Nat) : (wordFld w ⟨k, b, b⟩ == 1) = bitOf w.toNat b := by
  simp [wordFld, bitsOf, bitOf]

/-- A bit written alone reads as written. -/
theorem bitOf_wordSet_self (w : Word) (k v : Nat) {b : Nat} (hb : b < 64) :
    bitOf (wordSet w ⟨k, b, b⟩ v).toNat b = (v % 2 == 1) := by
  rw [← wordFld_bit _ k, wordFld_wordSet_self w ⟨k, b, b⟩ v le_rfl hb]
  simp [FieldRef.width]

/-- A bit written alone leaves the others. -/
theorem bitOf_wordSet_ne (w : Word) (k v : Nat) {b j : Nat} (hb : b < 64) (hj : j ≠ b) :
    bitOf (wordSet w ⟨k, b, b⟩ v).toNat j = bitOf w.toNat j := by
  rw [← wordFld_bit _ k, ← wordFld_bit _ k, wordFld_wordSet_ne w ⟨k, b, b⟩ ⟨k, j, j⟩ v le_rfl hb (by simp; omega)]

/-- A number is the sum of its bits. -/
theorem sumN_bits (x n : Nat) : sumN ((List.range n).map fun b => if bitOf x b then 2 ^ b else 0) = x % 2 ^ n := by
  induction n with
  | zero => simp [sumN, Nat.mod_one]
  | succ n ih =>
    rw [List.range_succ, List.map_append, sumN, List.foldl_append, ← sumN, ih, Nat.mod_pow_succ]
    rcases Nat.mod_two_eq_zero_or_one (x / 2 ^ n) with h | h <;> simp [bitOf, h]

/-- The bits listed by `maskBits`. -/
@[simp] theorem mem_maskBits {n m b : Nat} : b ∈ maskBits n m ↔ b < n ∧ bitOf m b = true := by
  simp [maskBits]

theorem maskBits_nodup (n m : Nat) : (maskBits n m).Nodup := List.nodup_range.filter _

/-! ### What a host write names -/

/-- The coincidences of a host write, as 64 × key + bit (R13, R508). -/
def coincOf (key : Nat) (c : Word) : List Nat := (maskBits 64 c.toNat).map (64 * key + ·)

theorem contains_coincOf (key : Nat) (c : Word) {b : Nat} (hb : b < 64) :
    (coincOf key c).contains (64 * key + b) = bitOf c.toNat b := by
  rw [Bool.eq_iff_iff, List.contains_iff_mem, coincOf, List.mem_map]
  constructor
  · rintro ⟨a, ha, he⟩
    obtain rfl : a = b := by omega
    exact (mem_maskBits.mp ha).2
  · exact fun h => ⟨b, mem_maskBits.mpr ⟨hb, h⟩, rfl⟩

/-- The coincidences of a write of one parameter are the word that came with it. -/
theorem coWord_coincOf (key : Nat) (c : Word) : coWord (coincOf key c) key = c := by
  have hb : (List.range 64).map (fun b => if (coincOf key c).contains (64 * key + b) then 2 ^ b else 0) =
      (List.range 64).map fun b => if bitOf c.toNat b then 2 ^ b else 0 :=
    List.map_congr_left fun b hb => by rw [contains_coincOf key c (List.mem_range.mp hb)]
  rw [coWord, hb, sumN_bits, Nat.mod_eq_of_lt c.isLt, BitVec.ofNat_toNat, BitVec.setWidth_eq]

/-- On the writable bits an entry covers what the write names (R384). -/
theorem entryOf_mask_getLsbD (key : Nat) (h : HostWrite) {i : Nat} (hw : (writableMask key).getLsbD i = true) :
    (entryOf key h).mask.getLsbD i = (writeMask h).getLsbD i := by
  obtain ⟨t, origin, value, coinc⟩ := h
  cases origin <;> simp [entryOf, writeMask, hw]

@[simp] theorem entryOf_key (key : Nat) (h : HostWrite) : (entryOf key h).key = key := id rfl
@[simp] theorem entryOf_value (key : Nat) (h : HostWrite) : (entryOf key h).value = h.value := id rfl

/-- The RW bits an entry of another parameter than SPARE_FORCE stores. -/
theorem entryOf_stores {key : Nat} (h : HostWrite) (hk : key ≠ K.SPARE_FORCE) :
    (entryOf key h).stores = (entryOf key h).mask &&& accessMask key .rw := by
  rw [Entry.stores, entryOf_key, if_neg fun x => hk x.1]

section
variable {key : Nat} {h : HostWrite} {f : FieldRef} {v : Nat}

/-- The entry of a write that brings a value to a writable field covers the field's bits. -/
theorem entryOf_mask_of_brings (hb : brings h f v) (hw : wordFld (writableMask key) f = 2 ^ f.width - 1) {i : Nat}
    (hi : i < f.width) : (entryOf key h).mask.getLsbD (f.lo + i) = true :=
  (entryOf_mask_getLsbD key h (getLsbD_of_full hw hi)).trans (getLsbD_of_full hb.1 hi)

/-- An RW field that a write brings a value to holds it afterwards. -/
theorem wordFld_mergedWord (s : State) (hk : key ≠ K.SPARE_FORCE) (hb : brings h f v)
    (hw : wordFld (writableMask key) f = 2 ^ f.width - 1) (hrw : wordFld (accessMask key .rw) f = 2 ^ f.width - 1) :
    wordFld (s.mergedWord key h) f = v := by
  rw [← hb.2]
  refine wordFld_congr fun i hi => ?_
  have hm := entryOf_mask_of_brings hb hw hi
  have hr := getLsbD_of_full hrw hi
  simp [State.mergedWord, entryOf_stores h hk, hm, hr]

/-- What the actions of a write see in an RW or WO field that it brings a value to. -/
theorem wordFld_merged (s : State) (hk : key ≠ K.SPARE_FORCE) (hb : brings h f v)
    (hw : wordFld (writableMask key) f = 2 ^ f.width - 1)
    (hf : wordFld (accessMask key .rw ||| accessMask key .wo) f = 2 ^ f.width - 1) :
    wordFld (s.merged (entryOf key h)).2 f = v := by
  rw [← hb.2]
  refine wordFld_congr fun i hi => ?_
  have hm := entryOf_mask_of_brings hb hw hi
  have hc := getLsbD_of_full hw hi
  have hr := getLsbD_of_full hf hi
  rw [BitVec.getLsbD_or] at hr
  simp only [State.merged, entryOf_stores h hk, entryOf_key, entryOf_value, BitVec.getLsbD_or, BitVec.getLsbD_and,
    BitVec.getLsbD_not, hm, hc, Bool.true_and, hr]
  simp

/-- A write that brings a value to a writable field covers something. -/
theorem merged_cov_ne_zero (s : State) (hb : brings h f v) (hw : wordFld (writableMask key) f = 2 ^ f.width - 1)
    (hf : 0 < f.width) : (s.merged (entryOf key h)).1 ≠ 0 := by
  intro h0
  have hbit : ((s.merged (entryOf key h)).1).getLsbD (f.lo + 0) = true := by
    simp only [State.merged, entryOf_key, BitVec.getLsbD_and, entryOf_mask_of_brings hb hw hf, getLsbD_of_full hw hf,
      Bool.and_true]
  rw [h0] at hbit
  simp at hbit

/-! ### An accepted host write -/

/-- A write of one entry is that entry alone. -/
theorem commitEntries_single (s : State) (co : List Nat) (e : Entry) : commitEntries s co [e] [e] s = s.applyEntry co e := by
  have hc : coverOf [e] e.key = (s.merged e).1 := by simp [coverOf, State.merged]
  simp only [commitEntries, State.applyEntry, hc, List.any_nil, List.isEmpty_nil, Bool.not_true, Bool.not_false,
    Bool.and_false, Bool.and_true, if_true, Bool.false_eq_true, if_false]

/-- A parameter of an accepted write exists. -/
theorem paramRow?_of_entriesFail {s : State} {auth : Bool} {e : Entry} (he : s.entriesFail auth [e] = none) :
    (paramRow? e.key).isNone = false := by
  by_contra hn
  have hi : [e].findIdx? (fun x : Entry => (paramRow? x.key).isNone) = some 0 := by
    simpa [List.findIdx?_cons] using hn
  rw [State.entriesFail, hi] at he
  exact absurd he (by simp)

/-- A BAR0 write that passes the checks leaves what its entry leaves (R384). -/
theorem State.bar0Write_of_ok {s u : State} {half : Half} {value coinc : Word} (hrow : (paramRow? key).isNone = false)
    (hr : s.inRecovery = false) (hw : writableMask key ≠ 0)
    (hok : s.writeEntries false (coincOf key coinc) [⟨key, halfBits half &&& writableMask key, value⟩] = .ok u) :
    s.bar0Write key half value coinc = u := by
  have hi : ¬(s.inRecovery = true ∨ writableMask key = 0) := by
    simp only [hr, hw, Bool.false_eq_true, or_self, not_false_eq_true]
  rw [coincOf] at hok
  simp only [State.bar0Write, hrow, Bool.false_eq_true, if_false, if_neg hi, hok]

/-- An accepted host write is its entry, applied at the write's time; a restart it asks for follows (R384, R418, R471). -/
theorem State.hostWrite_accepted {s : State} (ha : s.Accepts key h) :
    s.hostWrite key h = ((s.at_ h.t).applyEntry (coincOf key h.coinc) (entryOf key h)).runAsked := by
  obtain ⟨⟨-, hl, hr, hs, -⟩, hb, hw, he⟩ := ha
  have hrow : (paramRow? key).isNone = false := paramRow?_of_entriesFail he
  have hok : (s.at_ h.t).writeEntries (authOf h) (coincOf key h.coinc) [entryOf key h] =
      .ok ((s.at_ h.t).applyEntry (coincOf key h.coinc) (entryOf key h)) := by
    rw [State.writeEntries, he]
    exact congrArg _ (commitEntries_single _ _ _)
  generalize (s.at_ h.t).applyEntry (coincOf key h.coinc) (entryOf key h) = u at hok ⊢
  have hbf : s.boundaryFirst h.t = s := if_neg hb
  have hr' : (s.at_ h.t).inRecovery = false := hr
  cases ho : h.origin with
  | bar0 half =>
    simp only [authOf, entryOf, ho] at hok
    simp only [State.hostWrite, hl, hbf, ho, State.bar0Write_of_ok hrow hr' hw hok, Bool.not_true, Bool.false_eq_true, if_false]
  | salsol mask auth =>
    simp only [authOf, entryOf, coincOf, ho] at hok
    have hs' : ¬((s.at_ h.t).inRecovery = true ∨ (s.at_ h.t).ctl.restart.isSome = true) := by simp [hr', hs]
    simp only [State.hostWrite, hl, hbf, ho, hok, if_neg hs', Bool.not_true, Bool.false_eq_true, if_false]
end

/-- A parameter without W1C bits: its write is stored, and has its effects (R384, R418). -/
theorem State.applyEntry_of_no_flags (s : State) {key : Nat} (h : HostWrite) (co : List Nat) (hf : accessMask key .w1c = 0) :
    s.applyEntry co (entryOf key h) =
      ((s.setReg key (s.mergedWord key h)).levelEffect key (s.reg key) (s.merged (entryOf key h)).1).orderEffect key
        (s.merged (entryOf key h)).1 (s.merged (entryOf key h)).2 (coWord co key) := by
  have hc : ∀ u : State, u.clearFlags co (entryOf key h) = u := fun u => by
    simp [State.clearFlags, hf, maskBits, bitOf, forEach]
  simp only [State.applyEntry, State.storeEntry, hc, entryOf_key, entryOf_value, State.mergedWord]

/-- Out of power-on reset a command runs. -/
theorem awake_next {s u : State} (h : s.Awake) : (if s.ctl.por then (.next s : Result) else .next u) = .next u :=
  if_neg (by simp [h])

/-- No restart follows where none is asked for. -/
theorem State.runAsked_of_none {s : State} (h : s.ctl.asked = none) : s.runAsked = s := by
  simp [State.runAsked, h]

end Sys2Proof.Machine
end

section
/-! PROOFS. The W1C flags (R13, R484): O43. -/
namespace Sys2Proof.Machine

/-- A flag's level and its two counters. -/
def State.flagAt (s : State) (key b : Nat) : Bool × Nat × Nat := (bitOf (s.reg key).toNat b, s.flagCounts (64 * key + b))

/-- What a write of 1 makes of a flag: `co` says whether the hardware sets it in the same cycle (R13, R484). -/
def flagCleared (x : Bool × Nat × Nat) (co : Bool) : Bool × Nat × Nat :=
  (co, if co then (wrapAdd 16 x.2.1 1, wrapAdd 16 x.2.2 1) else x.2)

/-- A flag that is cleared takes what `flagCleared` makes of it. -/
theorem State.clearFlag_flagAt_self (s : State) (key : Nat) {b : Nat} (co : Bool) (hb : b < 64) :
    (s.clearFlag key b co).flagAt key b = flagCleared (s.flagAt key b) co := by
  have hl : ∀ v, bitOf ((s.setFld ⟨key, b, b⟩ v).reg key).toNat b = (v % 2 == 1) := fun v => by
    rw [State.reg_setFld_self s ⟨key, b, b⟩ v]
    exact bitOf_wordSet_self _ key v hb
  cases co with
  | true => exact Prod.ext (hl 1) (by simp [State.flagAt, State.clearFlag, State.setFlag, State.flagCounts, flagCleared])
  | false => exact Prod.ext (hl 0) rfl

/-- It leaves the parameter's other flags. -/
theorem State.clearFlag_flagAt_ne (s : State) (key : Nat) {b j : Nat} (co : Bool) (hb : b < 64) (hj : j ≠ b) :
    (s.clearFlag key b co).flagAt key j = s.flagAt key j := by
  have hl : ∀ v, bitOf ((s.setFld ⟨key, b, b⟩ v).reg key).toNat j = bitOf (s.reg key).toNat j := fun v => by
    rw [State.reg_setFld_self s ⟨key, b, b⟩ v]
    exact bitOf_wordSet_ne _ key v hb hj
  have hk : 64 * key + j ≠ 64 * key + b := by omega
  cases co with
  | true => exact Prod.ext (hl 1) (by
      simp [State.flagAt, State.clearFlag, State.setFlag, State.flagCounts, Map.get_set_ne _ _ _ hk])
  | false => exact Prod.ext (hl 0) rfl

/-- `u` is `s` but for parameter `key` and the flag counters. -/
structure State.OnlyFlags (u s : State) (key : Nat) : Prop where
  regs : u.SameRegs s [key]
  rest : { u with regs := s.regs, flagCnt := s.flagCnt } = s

theorem State.OnlyFlags.ctl {u s : State} {key : Nat} (h : u.OnlyFlags s key) : u.ctl = s.ctl := by
  have hc := congrArg State.ctl h.rest
  exact hc

theorem State.clearFlag_onlyFlags {u s : State} {key : Nat} (b : Nat) (co : Bool) (h : u.OnlyFlags s key) :
    (u.clearFlag key b co).OnlyFlags s key := by
  have hr : ∀ k, k ∉ [key] → (u.clearFlag key b co).reg k = u.reg k := fun k hk => by
    have hf : ∀ v, (u.setFld ⟨key, b, b⟩ v).reg k = u.reg k := fun v =>
      State.reg_setFld_ne u ⟨key, b, b⟩ v (by simpa using hk)
    cases co with
    | true => exact hf 1
    | false => exact hf 0
  refine ⟨fun k hk => (hr k hk).trans (h.regs k hk), Eq.trans ?_ h.rest⟩
  cases co <;> rfl

/-- Flags of one parameter, each cleared as `co` says. -/
def State.clearEach (s : State) (key : Nat) (co : Nat → Bool) (l : List Nat) : State :=
  forEach l (fun b s => s.clearFlag key b (co b)) s

theorem State.clearEach_cons (s : State) (key : Nat) (co : Nat → Bool) (a : Nat) (l : List Nat) :
    s.clearEach key co (a :: l) = (s.clearFlag key a (co a)).clearEach key co l := id rfl

theorem State.clearEach_onlyFlags (key : Nat) (co : Nat → Bool) (l : List Nat) {u s : State} (h : u.OnlyFlags s key) :
    (u.clearEach key co l).OnlyFlags s key := by
  induction l generalizing u with
  | nil => exact h
  | cons a l ih => exact ih (State.clearFlag_onlyFlags a (co a) h)

theorem State.clearEach_flagAt_of_notMem (key : Nat) (co : Nat → Bool) {l : List Nat} (hl : ∀ a ∈ l, a < 64) {b : Nat}
    (hb : b ∉ l) (s : State) : (s.clearEach key co l).flagAt key b = s.flagAt key b := by
  induction l generalizing s with
  | nil => rfl
  | cons a l ih =>
    obtain ⟨ha, hl'⟩ := List.forall_mem_cons.mp hl
    obtain ⟨hba, hb'⟩ := not_or.mp (fun x => hb (List.mem_cons.mpr x))
    rw [State.clearEach_cons, ih hl' hb', State.clearFlag_flagAt_ne s key (co a) ha hba]

theorem State.clearEach_flagAt_of_mem (key : Nat) (co : Nat → Bool) {l : List Nat} (hl : ∀ a ∈ l, a < 64) (hn : l.Nodup)
    {b : Nat} (hb : b ∈ l) (s : State) : (s.clearEach key co l).flagAt key b = flagCleared (s.flagAt key b) (co b) := by
  induction l generalizing s with
  | nil => exact absurd hb List.not_mem_nil
  | cons a l ih =>
    obtain ⟨ha, hl'⟩ := List.forall_mem_cons.mp hl
    obtain ⟨hal, hn'⟩ := List.nodup_cons.mp hn
    rw [State.clearEach_cons]
    by_cases hba : b = a
    · subst hba
      rw [State.clearEach_flagAt_of_notMem key co hl' hal, State.clearFlag_flagAt_self s key (co b) ha]
    · have hbl : b ∈ l := (List.mem_cons.mp hb).resolve_left hba
      rw [ih hl' hn' hbl, State.clearFlag_flagAt_ne s key (co a) ha hba]

/-- The W1C bits that a host write writes 1 to. -/
def flagsWritten (key : Nat) (h : HostWrite) : List Nat :=
  maskBits 64 ((entryOf key h).mask &&& h.value &&& accessMask key .w1c).toNat

theorem flagsWritten_lt {key : Nat} {h : HostWrite} : ∀ b ∈ flagsWritten key h, b < 64 := fun _ hb => (mem_maskBits.mp hb).1

theorem flagsWritten_nodup (key : Nat) (h : HostWrite) : (flagsWritten key h).Nodup := maskBits_nodup _ _

/-- A whole BAR0 write clears the flags it writes 1 to. -/
theorem mem_flagsWritten {t key b : Nat} {v c : Word} (hf : isFlag key b = true) (hb : b < 64) :
    b ∈ flagsWritten key ⟨t, .bar0 .whole, v, c⟩ ↔ bitOf v.toNat b = true := by
  rw [isFlag, bitOf_toNat] at hf
  simp only [flagsWritten, mem_maskBits, hb, true_and, bitOf_toNat, entryOf, halfBits, writableMask, BitVec.getLsbD_and,
    BitVec.getLsbD_or, BitVec.getLsbD_allOnes, hf, decide_true, Bool.or_true, Bool.true_and, Bool.and_true]

/-- Storing an entry clears the W1C bits it writes 1 to, each as its own coincidence says (R13). -/
theorem State.clearFlags_eq (s : State) (key : Nat) (h : HostWrite) :
    s.clearFlags (coincOf key h.coinc) (entryOf key h) = s.clearEach key (bitOf h.coinc.toNat) (flagsWritten key h) := by
  simp only [State.clearFlags, entryOf_key, entryOf_value, State.clearEach, forEach, flagsWritten]
  refine List.foldl_ext _ _ _ fun u b hb => ?_
  rw [contains_coincOf key _ (mem_maskBits.mp hb).1]

/-! ### Parameters of W1C bits alone -/

/-- The parameters whose writable bits are W1C alone (Table 23.1). -/
def flagKeys : List Nat :=
  [K.HIST_FLAGS, K.DUMP_STATUS, K.STREAM_FLAGS, K.REC_STATUS, K.EMIT_FLAGS, K.MIR_FLAGS, K.FE_FLAGS, K.HK_LEFT, K.CAL_FLAGS,
   K.SAFETY_FLAGS, K.BR_FLAGS, K.HITCH_FLAGS, K.DMA_STATE, K.SALSOL_FLAGS, K.ID_FLAGS, K.CLK_THERM_FLAGS]

/-- By the field maps: a row whose writable bits are W1C alone is one parameter of the list. -/
theorem flagRow_mem : ∀ g ∈ List.range 0x17, ∀ r ∈ paramGroup g,
    r.maskOf (fun x => x == .rw) = 0 ∧ r.maskOf (fun x => x == .wo) = 0 ∧ r.maskOf (fun x => x == .w1c) ≠ 0 →
      r.last = r.first ∧ r.first ∈ flagKeys := by
  decide +kernel

/-- No parameter lies above group 0x16 (R505). -/
theorem paramGroup_eq_nil {g : Nat} (h : 0x17 ≤ g) : paramGroup g = [] := by
  unfold paramGroup
  split
  case h_22 => rfl
  all_goals omega

theorem mem_flagKeys {key : Nat} (hrw : accessMask key .rw = 0) (hwo : accessMask key .wo = 0) (hw : writableMask key ≠ 0) :
    key ∈ flagKeys := by
  have hf : accessMask key .w1c ≠ 0 := by simpa [writableMask, hrw, hwo] using hw
  cases hr : paramRow? key with
  | none => simp [accessMask, hr] at hf
  | some r =>
    simp only [accessMask, hr] at hrw hwo hf
    have hmem := List.mem_of_find?_eq_some hr
    have hhas := List.find?_some hr
    have hg : key / 256 < 0x17 := by
      by_contra hge
      rw [paramGroup_eq_nil (Nat.le_of_not_lt hge)] at hmem
      exact absurd hmem List.not_mem_nil
    obtain ⟨hone, hin⟩ := flagRow_mem _ (List.mem_range.mpr hg) r hmem ⟨hrw, hwo, hf⟩
    simp only [ParamRow.has, Bool.and_eq_true, decide_eq_true_eq] at hhas
    obtain rfl : r.first = key := by omega
    exact hin

theorem lt_of_mem_flagKeys {key : Nat} (h : key ∈ flagKeys) : key < 0x10000 :=
  (by decide : ∀ k ∈ flagKeys, k < 0x10000) key h

/-- Such a parameter's word brings nothing about beyond being stored. -/
theorem levelEffect_of_flagKeys {key : Nat} (h : key ∈ flagKeys) (s : State) (old cov : Word) :
    s.levelEffect key old cov = s := by
  unfold State.levelEffect
  split
  · rfl
  · simp only [flagKeys, List.mem_cons, List.not_mem_nil, or_false] at h
    rcases h with rfl | rfl | rfl | rfl | rfl | rfl | rfl | rfl | rfl | rfl | rfl | rfl | rfl | rfl | rfl | rfl <;> rfl

/-- And it has no action. -/
theorem orderEffect_of_flagKeys {key : Nat} (h : key ∈ flagKeys) (s : State) (cov new co : Word) :
    s.orderEffect key cov new co = s := by
  unfold State.orderEffect
  split
  · rfl
  · simp only [flagKeys, List.mem_cons, List.not_mem_nil, or_false] at h
    rcases h with rfl | rfl | rfl | rfl | rfl | rfl | rfl | rfl | rfl | rfl | rfl | rfl | rfl | rfl | rfl | rfl <;> rfl

theorem not_mem_flagKeys_spareForce : K.SPARE_FORCE ∉ flagKeys := by decide

/-- A merge under an empty mask stores nothing. -/
theorem merge_none (w x : Word) : w &&& ~~~0 ||| x &&& 0 = w := by
  rw [show x &&& 0 = 0#64 from BitVec.and_zero, BitVec.or_zero, show ~~~(0 : Word) = BitVec.allOnes 64 from rfl,
    BitVec.and_allOnes]

/-- An accepted write of such a parameter clears flags and does nothing else (R13, R384). -/
theorem State.applyEntry_of_flagKeys (s : State) {key : Nat} (h : HostWrite) (hrw : accessMask key .rw = 0)
    (hk : key ∈ flagKeys) : s.applyEntry (coincOf key h.coinc) (entryOf key h) =
      (s.setReg key (s.reg key)).clearEach key (bitOf h.coinc.toNat) (flagsWritten key h) := by
  have hst : (entryOf key h).stores = 0 := by
    rw [entryOf_stores h (fun x => not_mem_flagKeys_spareForce (x ▸ hk)), hrw]
    exact BitVec.and_zero
  simp only [State.applyEntry, State.storeEntry, entryOf_key, entryOf_value, levelEffect_of_flagKeys hk,
    orderEffect_of_flagKeys hk, State.clearFlags_eq, hst]
  rw [merge_none]

/-- An accepted write of such a parameter: the flags it writes 1 to are cleared by R13, the others stay, and nothing else of the
device changes. -/
theorem State.hostWrite_flags {s : State} {key : Nat} {h : HostWrite} (hrw : accessMask key .rw = 0)
    (hwo : accessMask key .wo = 0) (ha : s.Accepts key h) :
    (s.hostWrite key h).OnlyFlags (s.at_ h.t) key ∧
    (∀ b ∈ flagsWritten key h, (s.hostWrite key h).flagAt key b = flagCleared (s.flagAt key b) (bitOf h.coinc.toNat b)) ∧
    (∀ b, b ∉ flagsWritten key h → (s.hostWrite key h).flagAt key b = s.flagAt key b) := by
  have hu := State.hostWrite_accepted ha
  obtain ⟨⟨-, -, -, -, hask⟩, -, hw, -⟩ := ha
  rw [State.applyEntry_of_flagKeys _ _ hrw (mem_flagKeys hrw hwo hw)] at hu
  have hflag : ∀ b, ((s.at_ h.t).setReg key ((s.at_ h.t).reg key)).flagAt key b = s.flagAt key b := fun b => by
    rw [State.flagAt, State.reg_setReg_self]
    rfl
  have hfrm : (((s.at_ h.t).setReg key ((s.at_ h.t).reg key)).clearEach key (bitOf h.coinc.toNat)
      (flagsWritten key h)).OnlyFlags (s.at_ h.t) key :=
    State.clearEach_onlyFlags _ _ _ ⟨fun k hk => State.reg_setReg_ne _ _ (by simpa using hk), rfl⟩
  rw [hu, State.runAsked_of_none (hfrm.ctl ▸ hask)]
  refine ⟨hfrm, fun b hb => ?_, fun b hb => ?_⟩
  · rw [State.clearEach_flagAt_of_mem key _ flagsWritten_lt (flagsWritten_nodup key h) hb, hflag]
  · rw [State.clearEach_flagAt_of_notMem key _ flagsWritten_lt hb, hflag]

/-- Settles O43: the write is stored as it stood and its flags cleared one by one (`State.clearEach`); a parameter whose
writable bits are W1C alone has no effect or action of its own (`mem_flagKeys`). -/
theorem setWins : Obligations.SetWins := by
  intro s t key b v c hrw hwo ha hf hb
  obtain ⟨⟨hregs, hrest⟩, hset, hkeep⟩ := State.hostWrite_flags hrw hwo ha
  obtain ⟨⟨hpor, -⟩, -, hw, -⟩ := ha
  have hlt := lt_of_mem_flagKeys (mem_flagKeys hrw hwo hw)
  have hu : exec (.bar0ParamWrite t key .whole v c) s = .next (s.hostWrite key ⟨t, .bar0 .whole, v, c⟩) :=
    (awake_next hpor).trans (congrArg _ (if_pos hlt))
  have hm := mem_flagsWritten (t := t) (v := v) (c := c) hf hb
  refine ⟨_, hu, fun hv hc => ?_, fun hv hc => ?_, fun hv => ?_, hregs, hrest⟩
  · exact Prod.ext_iff.mp ((hset b (hm.mpr hv)).trans (congrArg _ hc))
  · exact Prod.ext_iff.mp ((hset b (hm.mpr hv)).trans (congrArg _ hc))
  · exact Prod.ext_iff.mp (hkeep b fun x => Bool.false_ne_true (hv.symm.trans (hm.mp x)))

end Sys2Proof.Machine
end

section
/-! PROOFS. Selectors and their views (R12): what a selector's write does, and what each view shows. -/
namespace Sys2Proof.Machine

/-- `u` is `s` but for the parameters listed. -/
structure State.OnlyRegs (u s : State) (keys : List Nat) : Prop where
  regs : u.SameRegs s keys
  rest : { u with regs := s.regs } = s

theorem State.OnlyRegs.refl (s : State) (keys : List Nat) : s.OnlyRegs s keys := ⟨fun _ _ => rfl, rfl⟩

theorem State.OnlyRegs.trans {u v s : State} {keys : List Nat} (h : u.OnlyRegs v keys) (h' : v.OnlyRegs s keys) :
    u.OnlyRegs s keys := by
  refine ⟨fun k hk => (h.regs k hk).trans (h'.regs k hk), ?_⟩
  have hv : { u with regs := s.regs } = { v with regs := s.regs } := congrArg (fun x : State => { x with regs := s.regs }) h.rest
  exact hv.trans h'.rest

theorem State.OnlyRegs.mono {u s : State} {keys keys' : List Nat} (h : u.OnlyRegs s keys) (hk : keys ⊆ keys') :
    u.OnlyRegs s keys' := ⟨fun k hn => h.regs k fun hm => hn (hk hm), h.rest⟩

/-- What does not read the parameters is the same. -/
theorem State.OnlyRegs.proj {α : Type} {u s : State} {keys : List Nat} (h : u.OnlyRegs s keys) (g : State → α)
    (hg : g { u with regs := s.regs } = g u) : g u = g s := hg.symm.trans (congrArg g h.rest)

theorem State.OnlyRegs.setReg {u s : State} {keys : List Nat} (h : u.OnlyRegs s keys) {k : Nat} (w : Word) (hk : k ∈ keys) :
    (u.setReg k w).OnlyRegs s keys :=
  ⟨fun j hj => (State.reg_setReg_ne u w fun e : j = k => hj (e ▸ hk)).trans (h.regs j hj), h.rest⟩

theorem State.OnlyRegs.setFld {u s : State} {keys : List Nat} (h : u.OnlyRegs s keys) {f : FieldRef} (v : Nat)
    (hk : f.key ∈ keys) : (u.setFld f v).OnlyRegs s keys := h.setReg _ hk

/-- The device as an accepted write has stored its RW bits. -/
def State.stored (s : State) (key : Nat) (h : HostWrite) : State := (s.at_ h.t).setReg key (s.mergedWord key h)

theorem State.stored_onlyRegs (s : State) (key : Nat) (h : HostWrite) : (s.stored key h).OnlyRegs (s.at_ h.t) [key] :=
  (State.OnlyRegs.refl _ _).setReg _ List.mem_cons_self

/-- An accepted write of a parameter without W1C bits, its effects after its storing. -/
theorem State.hostWrite_of_no_flags {s : State} {key : Nat} {h : HostWrite} (ha : s.Accepts key h) (hf : accessMask key .w1c = 0) :
    s.hostWrite key h = (((s.stored key h).levelEffect key (s.reg key) (s.merged (entryOf key h)).1).orderEffect key
      (s.merged (entryOf key h)).1 (s.merged (entryOf key h)).2 h.coinc).runAsked := by
  rw [State.hostWrite_accepted ha, State.applyEntry_of_no_flags _ _ _ hf, coWord_coincOf]
  rfl

/-- A selector: `key`'s field `f` names an item, and a write of it copies the item into the parameters `views`. -/
structure IsSelector (key : Nat) (f : FieldRef) (views : List Nat) (view : State → Nat → State) : Prop where
  key_eq : f.key = key := by rfl
  notSpare : key ≠ K.SPARE_FORCE := by decide
  width : 0 < f.width := by decide
  noFlags : accessMask key .w1c = 0 := by decide +kernel
  writable : wordFld (writableMask key) f = 2 ^ f.width - 1 := by decide +kernel
  readWrite : wordFld (accessMask key .rw) f = 2 ^ f.width - 1 := by decide +kernel
  level : ∀ (u : State) (old cov : Word), cov ≠ 0 → u.levelEffect key old cov = view u (u.fld f) := by
    exact fun _ _ _ h => if_neg h
  order : ∀ (u : State) (cov new co : Word), u.orderEffect key cov new co = u := by exact fun _ _ _ _ => ite_self _
  onlyViews : ∀ (u : State) (v : Nat), (view u v).OnlyRegs u views

/-- The field of a selector holds what was written. -/
theorem IsSelector.fld_stored {key : Nat} {f : FieldRef} {views : List Nat} {view : State → Nat → State}
    (S : IsSelector key f views view) (s : State) {h : HostWrite} {v : Nat} (hb : brings h f v) : (s.stored key h).fld f = v := by
  rw [State.fld, S.key_eq, State.stored, State.reg_setReg_self]
  exact wordFld_mergedWord s S.notSpare hb S.writable S.readWrite

/-- An accepted write of a selector stores it and copies the item it names, and does nothing else. -/
theorem IsSelector.hostWrite {key : Nat} {f : FieldRef} {views : List Nat} {view : State → Nat → State}
    (S : IsSelector key f views view) {s : State} {h : HostWrite} {v : Nat} (ha : s.Accepts key h) (hb : brings h f v) :
    s.hostWrite key h = view (s.stored key h) v ∧ (view (s.stored key h) v).OnlyRegs (s.at_ h.t) (key :: views) := by
  have ho : (view (s.stored key h) v).OnlyRegs (s.at_ h.t) (key :: views) :=
    ((S.onlyViews _ v).mono (List.subset_cons_self _ _)).trans ((s.stored_onlyRegs key h).mono (by simp))
  refine ⟨?_, ho⟩
  obtain ⟨⟨-, -, -, -, hask⟩, -⟩ := id ha
  rw [State.hostWrite_of_no_flags ha S.noFlags, S.level _ _ _ (merged_cov_ne_zero s hb S.writable S.width), S.fld_stored s hb,
    S.order, State.runAsked_of_none (ho.proj State.ctl rfl ▸ hask)]

/-- EXP_VIEW takes a bank's window sum (R225). -/
def State.expView (s : State) (b : Nat) : State := s.setReg K.EXP_VIEW (BitVec.ofNat 64 (s.acc b))

theorem isSelector_cntSel : IsSelector K.CNT_SEL P.CNT_SEL.CHANNEL [K.CNT_A, K.CNT_B] State.countersView where
  onlyViews u _ :=
    ((((State.OnlyRegs.refl u _).setFld _ (by decide)).setFld _ (by decide)).setFld _ (by decide)).setFld _ (by decide)

theorem isSelector_calSel : IsSelector K.CAL_SEL P.CAL_SEL.INPUT [K.CAL_VIEW] State.calView where
  onlyViews u _ :=
    ((((State.OnlyRegs.refl u _).setFld _ (by decide)).setFld _ (by decide)).setFld _ (by decide)).setFld _ (by decide)

theorem isSelector_freezeSel : IsSelector K.FREEZE_SEL P.FREEZE_SEL.CHANNEL [K.FREEZE_VIEW] State.freezeView where
  onlyViews u _ := (State.OnlyRegs.refl u _).setReg _ (by decide)

theorem isSelector_bgSel : IsSelector K.BG_SEL P.BG_SEL.CHANNEL [K.BG_VIEW] State.bgView where
  onlyViews u _ := (State.OnlyRegs.refl u _).setFld _ (by decide)

theorem isSelector_maskSel : IsSelector K.MASK_SEL P.MASK_SEL.CHANNEL [K.MASK_VIEW] State.maskView where
  onlyViews u c := by
    have h : K.MASK_VIEW ∈ [K.MASK_VIEW] := by decide
    unfold State.maskView
    exact (((((((((State.OnlyRegs.refl u _).setFld _ h).setFld _ h).setFld _ h).setFld _ h).setFld _ h).setFld _ h).setFld
      _ h).setFld _ h).setFld _ h

theorem isSelector_expSel : IsSelector K.EXP_SEL P.EXP_SEL.BANK [K.EXP_VIEW] State.expView where
  onlyViews u _ := (State.OnlyRegs.refl u _).setReg _ (by decide)

/-! ### What each view shows -/

/-- A bit written as a one-bit field. -/
theorem ofBit_mod_two (b : Bool) : (ofBit b % 2 == 1) = b := by cases b <;> rfl

theorem ofBit_lt_two (b : Bool) : ofBit b < 2 := by cases b <;> decide

theorem ofBit_pair_lt (a b : Bool) : ofBit a + 2 * ofBit b < 2 ^ 2 := by
  have ha := ofBit_lt_two a
  have hb := ofBit_lt_two b
  omega

/-- What fits a field's width in two's complement is left by it. -/
theorem trunc_mod (n : Nat) (v : Int) : trunc n v % 2 ^ n = trunc n v := by
  refine Nat.mod_eq_of_lt ?_
  have h1 := Int.emod_nonneg v (b := ((2 ^ n : Nat) : Int)) (by positivity)
  have h2 := Int.emod_lt_of_pos v (b := ((2 ^ n : Nat) : Int)) (by positivity)
  unfold trunc
  omega

theorem sext_mod (n w : Nat) : sext n (w % 2 ^ n) = sext n w := by simp [sext]

theorem State.countersView_fields (s : State) (c : Nat) :
    (s.countersView c).fld P.CNT_A.STRAY = (s.ch c).stray % 2 ^ 32 ∧
    (s.countersView c).fld P.CNT_A.GATED = (s.ch c).gated % 2 ^ 32 ∧
    (s.countersView c).fld P.CNT_B.DISARMED = (s.ch c).disarmed % 2 ^ 32 ∧
    (s.countersView c).fld P.CNT_B.RATE_DROPS = (s.ch c).rateDrops % 2 ^ 32 := by
  simp (disch := decide) only [State.countersView, State.fld_setFld_self, State.fld_setFld_ne, State.fld_setFld_key]
  exact ⟨rfl, rfl, rfl, rfl⟩

theorem State.ch_setFld (s : State) (f : FieldRef) (v i : Nat) : (s.setFld f v).ch i = s.ch i := by
  simp only [State.ch, State.setFld_stamp]

theorem State.pathOf_setFld (s : State) (f : FieldRef) (v i : Nat) : (s.setFld f v).pathOf i = s.pathOf i := by
  have hs : (s.setFld f v).spare (i / 8) = s.spare (i / 8) := by simp only [State.spare, State.setFld_stamp]
  rw [State.pathOf, State.pathOf, hs]

theorem State.buf_setFld (s : State) (f : FieldRef) (v k : Nat) : (s.setFld f v).buf k = s.buf k := by
  simp only [State.buf, State.setFld_hist]

theorem State.calView_fields (s : State) (i : Nat) :
    (s.calView i).fldI P.CAL_VIEW.SKEW = sext 16 (trunc 16 (s.skewAt i)) ∧
    (i < 384 → (s.calView i).fld P.CAL_VIEW.PATH = s.pathOf i % 9 ∧
      (s.calView i).bit P.CAL_VIEW.DEGRADED = (s.ch i).degraded ∧ (s.calView i).bit P.CAL_VIEW.LOST = (s.ch i).lost) := by
  simp (disch := decide) only [State.calView, State.fldI, State.bit, State.setFldI, State.fld_setFld_self, State.fld_setFld_ne,
    State.pathOf_setFld, State.ch_setFld]
  refine ⟨sext_mod 16 _, fun hi => ?_⟩
  rw [if_pos hi, if_pos hi]
  exact ⟨Nat.mod_eq_of_lt (lt_trans (Nat.mod_lt _ (by decide)) (by decide)), ofBit_mod_two _, ofBit_mod_two _⟩

theorem State.bgView_field (s : State) (c : Nat) : (s.bgView c).fld P.BG_VIEW.BQ = Map.get 0 s.bq c % 2 ^ 20 :=
  State.fld_setFld_self s _ _ (by decide) (by decide)

theorem State.expView_field (s : State) (b : Nat) : (s.expView b).fld P.EXP_VIEW.ACC = s.acc b % 2 ^ 64 := by
  have hr : (s.expView b).reg P.EXP_VIEW.ACC.key = BitVec.ofNat 64 (s.acc b) := State.reg_setReg_self s K.EXP_VIEW _
  rw [State.fld, hr]
  simp [wordFld, bitsOf, P.EXP_VIEW.ACC]

theorem State.maskView_fields (s : State) (c : Nat) {m : ChanMask} (hm : m = Map.get {} s.masks c) :
    (s.maskView c).fld P.MASK_VIEW.FIRST_BIN = m.firstBin % 2 ^ 12 ∧ (s.maskView c).fld P.MASK_VIEW.NBINS = m.nbins % 2 ^ 8 ∧
    (s.maskView c).fld P.MASK_VIEW.COLUMN = m.column % 2 ^ 11 ∧ (s.maskView c).fld P.MASK_VIEW.RUN = m.run % 16 ∧
    (s.maskView c).fld P.MASK_VIEW.VIOL_CNT = m.violCnt % 2 ^ 24 ∧ (s.maskView c).bit P.MASK_VIEW.TEST = m.full ∧
    (s.maskView c).bit P.MASK_VIEW.UPPER = m.upper ∧ (s.maskView c).bit P.MASK_VIEW.LOWER = m.lower ∧
    (s.maskView c).fld P.MASK_VIEW.MASKED = ofBit (s.buf (2 * c)).mask + 2 * ofBit (s.buf (2 * c + 1)).mask := by
  subst hm
  simp (disch := decide) only [State.maskView, State.bit, State.buf_setFld, State.fld_setFld_self, State.fld_setFld_ne]
  exact ⟨rfl, rfl, rfl, rfl, rfl, ofBit_mod_two _, ofBit_mod_two _, ofBit_mod_two _, Nat.mod_eq_of_lt (ofBit_pair_lt _ _)⟩

/-- A buffer's state as FREEZE_VIEW codes it (Table 4.19). -/
def BufState.code : BufState → Nat
  | .filling => 0
  | .handed => 1
  | .read => 2
  | .frozen => 3

theorem BufState.code_lt (x : BufState) : x.code < 4 := by cases x <;> decide

/-- A buffer as one half of FREEZE_VIEW shows it. -/
def Buf.shown (b : Buf) : Nat := b.st.code + 4 * ofBit b.mask + 8 * ofBit b.dump + 16 * ofBit b.poison

theorem State.bit_of_fld {s : State} {f : FieldRef} {b : Bool} (h : s.fld f = ofBit b) : s.bit f = b := by
  rw [State.bit, h]
  cases b <;> rfl

theorem Buf.shown_lt (b : Buf) : b.shown < 32 := by
  have h0 := b.st.code_lt
  have h1 := ofBit_lt_two b.mask
  have h2 := ofBit_lt_two b.dump
  have h3 := ofBit_lt_two b.poison
  unfold Buf.shown
  omega

/-- The parts of what is shown of a buffer. -/
theorem Buf.shown_parts (b : Buf) : b.shown % 4 = b.st.code ∧ b.shown / 4 % 2 = ofBit b.mask ∧
    b.shown / 8 % 2 = ofBit b.dump ∧ b.shown / 16 % 2 = ofBit b.poison := by
  have h0 := b.st.code_lt
  have h1 := ofBit_lt_two b.mask
  have h2 := ofBit_lt_two b.dump
  have h3 := ofBit_lt_two b.poison
  unfold Buf.shown
  omega

/-- FREEZE_VIEW shows buffer 0 in its lower byte and buffer 1 above it. -/
theorem State.freezeView_reg (s : State) (c : Nat) :
    ((s.freezeView c).reg K.FREEZE_VIEW).toNat = (s.buf (2 * c)).shown + 256 * (s.buf (2 * c + 1)).shown := by
  have hr : (s.freezeView c).reg K.FREEZE_VIEW =
      BitVec.ofNat 64 ((s.buf (2 * c)).shown + 256 * (s.buf (2 * c + 1)).shown) := State.reg_setReg_self s K.FREEZE_VIEW _
  have h0 := (s.buf (2 * c)).shown_lt
  have h1 := (s.buf (2 * c + 1)).shown_lt
  rw [hr, BitVec.toNat_ofNat]
  omega

theorem State.freezeView_fields (s : State) (c : Nat) :
    (s.freezeView c).fld P.FREEZE_VIEW.STATE = (s.buf (2 * c)).st.code ∧
    (s.freezeView c).bit P.FREEZE_VIEW.BY_MASK = (s.buf (2 * c)).mask ∧
    (s.freezeView c).bit P.FREEZE_VIEW.BY_DUMP = (s.buf (2 * c)).dump ∧
    (s.freezeView c).bit P.FREEZE_VIEW.POISON = (s.buf (2 * c)).poison ∧
    (s.freezeView c).fld P.FREEZE_VIEW.STATE1 = (s.buf (2 * c + 1)).st.code ∧
    (s.freezeView c).bit P.FREEZE_VIEW.BY_MASK1 = (s.buf (2 * c + 1)).mask ∧
    (s.freezeView c).bit P.FREEZE_VIEW.BY_DUMP1 = (s.buf (2 * c + 1)).dump ∧
    (s.freezeView c).bit P.FREEZE_VIEW.POISON1 = (s.buf (2 * c + 1)).poison := by
  have hf : ∀ hi lo, (s.freezeView c).fld ⟨K.FREEZE_VIEW, hi, lo⟩ =
      ((s.buf (2 * c)).shown + 256 * (s.buf (2 * c + 1)).shown) / 2 ^ lo % 2 ^ (hi + 1 - lo) := fun hi lo => by
    rw [← State.freezeView_reg]
    rfl
  have h0 := (s.buf (2 * c)).shown_lt
  obtain ⟨a0, a1, a2, a3⟩ := (s.buf (2 * c)).shown_parts
  obtain ⟨b0, b1, b2, b3⟩ := (s.buf (2 * c + 1)).shown_parts
  refine ⟨(hf 1 0).trans ?_, State.bit_of_fld ((hf 2 2).trans ?_), State.bit_of_fld ((hf 3 3).trans ?_),
    State.bit_of_fld ((hf 4 4).trans ?_), (hf 9 8).trans ?_, State.bit_of_fld ((hf 10 10).trans ?_),
    State.bit_of_fld ((hf 11 11).trans ?_), State.bit_of_fld ((hf 12 12).trans ?_)⟩ <;> omega

end Sys2Proof.Machine
end

section
/-! PROOFS. ACC_SEL and its trackers (R284, R287): O45. -/
namespace Sys2Proof.Machine

/-- ACC_VIEW takes an accumulator's summary. -/
def State.accView (s : State) (j : Nat) : State :=
  (((((s.setFldI P.ACC_VIEW.MEAN ((s.hacc j).mean.getD 0)).setFldI P.ACC_VIEW.MIN (s.hacc j).lo).setFldI P.ACC_VIEW.MAX
    (s.hacc j).hi).setFld P.ACC_VIEW.VALID (ofBit (s.hacc j).valid)).setFld P.ACC_VIEW.STATE (s.hacc j).st.code).setFld
    P.ACC_VIEW.LEAVES (s.hacc j).leaves

theorem State.accView_onlyRegs (s : State) (j : Nat) : (s.accView j).OnlyRegs s [K.ACC_VIEW] := by
  have h : K.ACC_VIEW ∈ [K.ACC_VIEW] := by decide
  exact ((((((State.OnlyRegs.refl s _).setFld _ h).setFld _ h).setFld _ h).setFld _ h).setFld _ h).setFld _ h

/-- An accumulator with its trackers started again; `co`: from the value taken in the cycle of the clear (R284). -/
def Acc.cleared (a : Acc) (co : Bool) : Acc := { a with lo := if co then a.last else 32767, hi := if co then a.last else -32768 }

/-- ACC_SEL copies the summary, and starts the trackers again where asked. -/
theorem State.accSelect_eq (s : State) (j : Nat) (clr co : Bool) :
    s.accSelect j clr co = if clr then (s.accView j).setHacc j ((s.hacc j).cleared co) else s.accView j := id rfl

theorem State.hacc_setHacc_self (s : State) (j : Nat) (a : Acc) : (s.setHacc j a).hacc j = a := by
  simp [State.hacc]

theorem State.hacc_setHacc_ne (s : State) {i j : Nat} (a : Acc) (h : i ≠ j) : (s.setHacc j a).hacc i = s.hacc i := by
  simp [State.hacc, Map.get_set_ne _ _ _ h]

theorem State.accView_hacc (s : State) (i j : Nat) : (s.accView j).hacc i = s.hacc i := by
  simp only [State.hacc, State.accView, State.setFld_hk, State.setFldI_hk]

theorem State.accSelect_hacc_self (s : State) (j : Nat) (co : Bool) :
    (s.accSelect j true co).hacc j = (s.hacc j).cleared co := by
  rw [State.accSelect_eq, if_pos rfl, State.hacc_setHacc_self]

theorem State.accSelect_hacc_other (s : State) (j : Nat) (clr co : Bool) {i : Nat} (h : i ≠ j ∨ clr = false) :
    (s.accSelect j clr co).hacc i = s.hacc i := by
  rw [State.accSelect_eq, ← s.accView_hacc i j]
  split
  · exact State.hacc_setHacc_ne _ _ (h.resolve_right (by simp [*]))
  · rfl

/-- `u` is `s` but for the parameters listed and the housekeeping accumulators. -/
structure State.OnlyRegsHk (u s : State) (keys : List Nat) : Prop where
  regs : u.SameRegs s keys
  rest : { u with regs := s.regs, hk := s.hk } = s

theorem State.OnlyRegsHk.ctl {u s : State} {keys : List Nat} (h : u.OnlyRegsHk s keys) : u.ctl = s.ctl := by
  have hc := congrArg State.ctl h.rest
  exact hc

theorem State.OnlyRegs.setHacc {u s : State} {keys : List Nat} (h : u.OnlyRegs s keys) (j : Nat) (a : Acc) :
    (u.setHacc j a).OnlyRegsHk s keys := by
  have hr := congrArg (fun x : State => { x with hk := s.hk }) h.rest
  exact ⟨h.regs, hr⟩

theorem State.OnlyRegs.toHk {u s : State} {keys : List Nat} (h : u.OnlyRegs s keys) : u.OnlyRegsHk s keys := by
  have hr := congrArg (fun x : State => { x with hk := s.hk }) h.rest
  exact ⟨h.regs, hr⟩

theorem State.OnlyRegs.accSelect {u s : State} {keys : List Nat} (h : u.OnlyRegs s keys) (hk : K.ACC_VIEW ∈ keys) (j : Nat)
    (clr co : Bool) : (u.accSelect j clr co).OnlyRegsHk s keys := by
  have hv : (u.accView j).OnlyRegs s keys := ((u.accView_onlyRegs j).mono (by simpa using hk)).trans h
  rw [State.accSelect_eq]
  split
  · exact hv.setHacc _ _
  · exact hv.toHk

theorem State.fld_setHacc (s : State) (j : Nat) (a : Acc) (f : FieldRef) : (s.setHacc j a).fld f = s.fld f := id rfl

theorem State.accSelect_fld (s : State) (j : Nat) (clr co : Bool) (f : FieldRef) :
    (s.accSelect j clr co).fld f = (s.accView j).fld f := by
  rw [State.accSelect_eq]
  split
  · exact State.fld_setHacc _ _ _ _
  · rfl

theorem State.accSelect_fields (s : State) (j : Nat) (clr co : Bool) :
    (s.accSelect j clr co).fld P.ACC_VIEW.MEAN = trunc 16 ((s.hacc j).mean.getD 0) ∧
    (s.accSelect j clr co).fld P.ACC_VIEW.MIN = trunc 16 (s.hacc j).lo ∧
    (s.accSelect j clr co).fld P.ACC_VIEW.MAX = trunc 16 (s.hacc j).hi ∧
    (s.accSelect j clr co).bit P.ACC_VIEW.VALID = (s.hacc j).valid ∧
    (s.accSelect j clr co).fld P.ACC_VIEW.LEAVES = (s.hacc j).leaves % 2 ^ 13 ∧
    (s.accSelect j clr co).fld P.ACC_VIEW.STATE = (s.hacc j).st.code % 4 := by
  simp (disch := decide) only [State.bit, State.accSelect_fld, State.accView, State.setFldI, State.fld_setFld_self,
    State.fld_setFld_ne]
  exact ⟨trunc_mod 16 _, trunc_mod 16 _, trunc_mod 16 _, ofBit_mod_two _, rfl, rfl⟩

/-- What a write of ACC_SEL changes: ACC_SEL, ACC_VIEW and the accumulators. -/
theorem State.stored_accSelect_frame (s : State) (h : HostWrite) (j : Nat) (clr co : Bool) :
    ((s.stored K.ACC_SEL h).accSelect j clr co).OnlyRegsHk (s.at_ h.t) [K.ACC_SEL, K.ACC_VIEW] :=
  ((s.stored_onlyRegs K.ACC_SEL h).mono (by simp)).accSelect (by simp) j clr co

theorem levelEffect_accSel (s : State) (old cov : Word) : s.levelEffect K.ACC_SEL old cov = s := ite_self _

theorem orderEffect_accSel (s : State) {cov : Word} (new co : Word) (h : cov ≠ 0) : s.orderEffect K.ACC_SEL cov new co =
    s.accSelect (wordFld new P.ACC_SEL.ACC) (wordFld new P.ACC_SEL.CLR_MINMAX == 1) (wordFld co P.ACC_SEL.CLR_MINMAX == 1) := by
  rw [State.orderEffect, if_neg h, if_pos (by decide)]
  simp only [State.order03, K.ACC_SEL]

/-- An accepted write of ACC_SEL stores it, copies the summary it names, and clears its trackers where asked. -/
theorem State.hostWrite_accSel {s : State} {h : HostWrite} {j c : Nat} (ha : s.Accepts K.ACC_SEL h)
    (hj : brings h P.ACC_SEL.ACC j) (hc : brings h P.ACC_SEL.CLR_MINMAX c) :
    s.hostWrite K.ACC_SEL h =
      (s.stored K.ACC_SEL h).accSelect j (c == 1) (wordFld h.coinc P.ACC_SEL.CLR_MINMAX == 1) := by
  have hcov := merged_cov_ne_zero (key := K.ACC_SEL) s hj (by decide +kernel) (by decide)
  have hjn := wordFld_merged (key := K.ACC_SEL) s (by decide) hj (by decide +kernel) (by decide +kernel)
  have hcn := wordFld_merged (key := K.ACC_SEL) s (by decide) hc (by decide +kernel) (by decide +kernel)
  obtain ⟨⟨-, -, -, -, hask⟩, -⟩ := id ha
  rw [State.hostWrite_of_no_flags ha (by decide +kernel), levelEffect_accSel, orderEffect_accSel _ _ _ hcov, hjn, hcn,
    State.runAsked_of_none ((s.stored_accSelect_frame h j _ _).ctl ▸ hask)]

/-- Settles O45: each selector stores and copies (`IsSelector.hostWrite`), and its view's fields are read off one by one;
ACC_SEL has its own action besides (`State.hostWrite_accSel`). -/
theorem viewWrites : Obligations.ViewWrites := by
  refine ⟨fun s h c ha hb => ?_, fun s h i ha hb => ?_, fun s h c ha hb => ?_, fun s h c ha hb => ?_, fun s h c m ha hb hm => ?_,
    fun s h b ha hb => ?_, fun s h j c ha hj hc => ?_, fun s h j ha hj hc hco => ?_⟩
  · obtain ⟨hu, ho⟩ := isSelector_cntSel.hostWrite ha hb
    obtain ⟨h1, h2, h3, h4⟩ := (s.stored K.CNT_SEL h).countersView_fields c
    have h5 : ((s.stored K.CNT_SEL h).countersView c).fld P.CNT_SEL.CHANNEL = c :=
      (congrArg (wordFld · _) ((isSelector_cntSel.onlyViews _ c).regs _ (by decide))).trans (isSelector_cntSel.fld_stored s hb)
    exact ⟨_, (awake_next ha.1.1).trans (congrArg _ hu), h1, h2, h3, h4, h5, ho.regs, ho.rest⟩
  · obtain ⟨hu, ho⟩ := isSelector_calSel.hostWrite ha hb
    obtain ⟨h1, h2⟩ := (s.stored K.CAL_SEL h).calView_fields i
    exact ⟨_, (awake_next ha.1.1).trans (congrArg _ hu), h1, h2, ho.regs, ho.rest⟩
  · obtain ⟨hu, ho⟩ := isSelector_freezeSel.hostWrite ha hb
    obtain ⟨h1, h2, h3, h4, h5, h6, h7, h8⟩ := (s.stored K.FREEZE_SEL h).freezeView_fields c
    exact ⟨_, (awake_next ha.1.1).trans (congrArg _ hu), h1, h2, h3, h4, h5, h6, h7, h8, ho.regs, ho.rest⟩
  · obtain ⟨hu, ho⟩ := isSelector_bgSel.hostWrite ha hb
    exact ⟨_, (awake_next ha.1.1).trans (congrArg _ hu), (s.stored K.BG_SEL h).bgView_field c, ho.regs, ho.rest⟩
  · obtain ⟨hu, ho⟩ := isSelector_maskSel.hostWrite ha hb
    obtain ⟨h1, h2, h3, h4, h5, h6, h7, h8, h9⟩ := (s.stored K.MASK_SEL h).maskView_fields c hm
    exact ⟨_, (awake_next ha.1.1).trans (congrArg _ hu), h1, h2, h3, h4, h5, h6, h7, h8, h9, ho.regs, ho.rest⟩
  · obtain ⟨hu, ho⟩ := isSelector_expSel.hostWrite ha hb
    exact ⟨_, (awake_next ha.1.1).trans (congrArg _ hu), (s.stored K.EXP_SEL h).expView_field b, ho.regs, ho.rest⟩
  · have hu := State.hostWrite_accSel ha hj hc
    have ho := s.stored_accSelect_frame h j (c == 1) (wordFld h.coinc P.ACC_SEL.CLR_MINMAX == 1)
    obtain ⟨h1, h2, h3, h4, h5, h6⟩ :=
      (s.stored K.ACC_SEL h).accSelect_fields j (c == 1) (wordFld h.coinc P.ACC_SEL.CLR_MINMAX == 1)
    refine ⟨_, (awake_next ha.1.1).trans (congrArg _ hu), h1, h2, h3, h4, h5, h6, fun hc1 hco => ?_, fun i hi => ?_,
      ho.regs, ho.rest⟩
    · subst hc1
      rw [hco]
      exact State.accSelect_hacc_self _ j false
    · exact State.accSelect_hacc_other _ j _ _ (hi.imp_right fun h0 => by rw [h0]; rfl)
  · have hu := State.hostWrite_accSel ha hj hc
    have ho := s.stored_accSelect_frame h j true true
    rw [hco] at hu
    exact ⟨_, (awake_next ha.1.1).trans (congrArg _ hu), State.accSelect_hacc_self _ j true,
      fun i hi => State.accSelect_hacc_other _ j true true (.inl hi), ho.regs, ho.rest⟩

end Sys2Proof.Machine
end

section
/-! PROOFS. Reads of BAR0 (R14, R182, R183, R202): O47. -/
namespace Sys2Proof.Machine

/-- What leaves the device is no parameter. -/
theorem State.SameRegs.emit {u x s : State} {keys : List Nat} (h : u.SameRegs x keys) (hs : s.regs = x.regs) (o : Out) :
    (u.emit o).SameRegs s keys := fun k hk => by
  rw [State.reg, State.reg, State.emit_regs, hs]
  exact h k hk

section
variable {s : State} (hs : s.Awake) (hl : s.linkUp = true) (t : Nat)
include hs hl

theorem exec_lowHalfRead {key : Nat} (hk : key < 0x10000) (half : Half) :
    exec (.lowHalfRead t key half) s = .next ((s.at_ t).bar0Read key half) :=
  (awake_next hs).trans (congrArg _ ((if_pos hk).trans (if_pos hl)))

theorem exec_recDataRead (half : Half) : exec (.recDataRead t half) s = .next ((s.at_ t).bar0Read K.REC_DATA half) :=
  (awake_next hs).trans (congrArg _ (if_pos hl))

theorem exec_resultHeaderRead {slot key : Nat} (hk : resultHeaders[slot]? = some key) (half : Half) :
    exec (.resultHeaderRead t slot half) s = .next ((s.at_ t).bar0Read key half) := by
  have he : exec (.resultHeaderRead t slot half) s = execResultHeaderRead t slot half s := rfl
  have hr : s.hostRead t key half = (s.at_ t).bar0Read key half := if_pos hl
  rw [he, execResultHeaderRead, if_neg (by simp [hs]), hk, ← hr]
end

theorem State.bar0Read_whole {s u : State} {key : Nat} {w : Word} (hr : s.readWhole key = (w, u)) :
    s.bar0Read key .whole = u.emit (.read key .whole w.toNat) := by
  simp only [State.bar0Read, hr]

/-- A read of a low half keeps the high half in the shadow (R14, R183). -/
theorem State.bar0Read_low {s u : State} {key : Nat} {w : Word} (hr : s.readWhole key = (w, u)) :
    s.bar0Read key .low =
      { u with shadows := Map.insert u.shadows (2 * key) (BitVec.ofNat 32 (w.toNat / 2 ^ 32)) }.emit
        (.read key .low (w.toNat % 2 ^ 32)) := by
  simp only [State.bar0Read, hr]

/-- A read of a high half takes what the shadow keeps (R14, R183). -/
theorem State.bar0Read_high {s : State} {key : Nat} {x : BitVec 32} (hx : Map.find? s.shadows (2 * key) = some x) :
    s.bar0Read key .high = { s with shadows := Map.erase s.shadows (2 * key) }.emit (.read key .high x.toNat) := by
  simp only [State.bar0Read, hx]

/-- A read of a parameter whose reading does nothing (R182, R202 aside). -/
theorem State.readWhole_plain (s : State) {key : Nat} (hd : key ≠ K.REC_DATA) (hh : key ∉ resultHeaders) :
    s.readWhole key = (s.readParam key, s) := by
  simp [State.readWhole, hd, hh]

/-- A read of a result slot's header. -/
theorem State.readWhole_header (s : State) {key : Nat} (hh : key ∈ resultHeaders) :
    s.readWhole key = (s.readParam key, s.slotRead key) := by
  have hd : key ≠ K.REC_DATA := fun e => absurd (e ▸ hh) (by decide)
  simp [State.readWhole, hd, hh]

theorem State.readWhole_recData (s : State) : s.readWhole K.REC_DATA = s.recRead := if_pos rfl

/-- A header read takes READY to READ and leaves every other state (Table 7.7). -/
theorem State.slotRead_state (s : State) (key : Nat) :
    (s.slotRead key).fld ⟨key, 47, 46⟩ = if s.fld ⟨key, 47, 46⟩ = 1 then 2 else s.fld ⟨key, 47, 46⟩ := by
  unfold State.slotRead
  split
  · exact State.fld_setFld_self s ⟨key, 47, 46⟩ 2 (by norm_num) (by norm_num)
  · rfl

/-- A header read leaves SEQ. -/
theorem State.slotRead_seq (s : State) (key : Nat) : (s.slotRead key).fld ⟨key, 63, 48⟩ = s.fld ⟨key, 63, 48⟩ := by
  unfold State.slotRead
  split
  · exact State.fld_setFld_ne s ⟨key, 47, 46⟩ ⟨key, 63, 48⟩ 2 (by norm_num) (by norm_num) (.inl (by norm_num))
  · rfl

theorem State.slotRead_onlyRegs (s : State) (key : Nat) : (s.slotRead key).OnlyRegs s [key] := by
  unfold State.slotRead
  split
  · exact (State.OnlyRegs.refl s _).setFld _ List.mem_cons_self
  · exact State.OnlyRegs.refl s _

/-- A recorder that neither unloads nor has a trigger to come stands as it is (R196, R200). -/
theorem State.recTo_of_idle {s : State} (hst : s.recSt ≠ 3) (hd : s.recorder.due = []) (lim t : Nat) : s.recTo lim t = s := by
  simp [State.recTo, hd, State.recDue, State.recFlow, hst]

/-- A read of REC_DATA from such a recorder removes the head word (R202). -/
theorem State.recRead_cons {s : State} {w : FifoWord} {l : List FifoWord} (hst : s.recSt ≠ 3) (hd : s.recorder.due = [])
    (hdr : s.bit P.REC_CTRL.DRAIN = false) (hf : s.recorder.fifo = w :: l) :
    s.recRead = (BitVec.ofNat 64 w.word, (s.withRec fun r => { r with fifo := l, lastWord := w.word }).recShow) := by
  simp [State.recRead, State.recTo_of_idle hst hd, hdr, hf]

/-- A read of REC_DATA from an empty FIFO repeats the last word and is an underrun (R202). -/
theorem State.recRead_nil {s : State} (hst : s.recSt ≠ 3) (hd : s.recorder.due = []) (hf : s.recorder.fifo = []) :
    s.recRead = (BitVec.ofNat 64 s.recorder.lastWord, (s.setFlag P.REC_STATUS.UNDERRUN).addWrap P.REC_COUNTS.UNDERRUNS 1) := by
  simp [State.recRead, State.recTo_of_idle hst hd, hf]

/-- A flag set leaves the fields of other parameters. -/
theorem State.fld_setFlag_key (s : State) (f g : FieldRef) (h : g.key ≠ f.key) : (s.setFlag f).fld g = s.fld g :=
  State.fld_setFld_key s f g 1 h

/-- An underrun sets its flag and counts (R202). -/
theorem State.underrun_fields (s : State) :
    ((s.setFlag P.REC_STATUS.UNDERRUN).addWrap P.REC_COUNTS.UNDERRUNS 1).bit P.REC_STATUS.UNDERRUN = true ∧
    ((s.setFlag P.REC_STATUS.UNDERRUN).addWrap P.REC_COUNTS.UNDERRUNS 1).fld P.REC_COUNTS.UNDERRUNS =
      wrapAdd P.REC_COUNTS.UNDERRUNS.width (s.fld P.REC_COUNTS.UNDERRUNS) 1 := by
  simp (disch := decide) only [State.bit, State.addWrap, State.fld_setFld_self, State.fld_setFld_key, State.fld_setFlag_self,
    State.fld_setFlag_key]
  exact ⟨rfl, Nat.mod_mod _ _⟩

/-- Beyond its flag an underrun touches its count alone. -/
theorem State.underrun_onlyRegs (s : State) :
    ((s.setFlag P.REC_STATUS.UNDERRUN).addWrap P.REC_COUNTS.UNDERRUNS 1).OnlyRegs (s.setFlag P.REC_STATUS.UNDERRUN)
      [K.REC_COUNTS] := (State.OnlyRegs.refl _ _).setFld _ (by decide)

/-- COUNT and HEAD_VALID are all that follows the FIFO. -/
theorem State.recShow_onlyRegs (s : State) : s.recShow.OnlyRegs s [K.REC_STATUS] :=
  ((State.OnlyRegs.refl s _).setFld _ (by decide)).setFld _ (by decide)

/-- Settles O47: a read by its form (`State.bar0Read_low`, `_high`, `_whole`), of a plain parameter, of a result header
(`State.slotRead`) and of the FIFO of a recorder that stands as it is (`State.recTo_of_idle`). -/
theorem hostReads : Obligations.HostReads := by
  refine ⟨fun s t key hs hl hk hd hh => ?_, fun s t key x hs hl hk hx => ?_, fun s t slot key hs hl hk => ?_,
    fun s t w l hs hl hdr hst hd hf => ?_, fun s t hs hl hst hd hf => ?_⟩
  · have hu := exec_lowHalfRead hs hl t hk .low
    rw [State.bar0Read_low ((s.at_ t).readWhole_plain hd hh)] at hu
    exact ⟨_, hu, rfl, Map.find?_insert_self _ _ _, rfl⟩
  · have hu := exec_lowHalfRead hs hl t hk .high
    rw [State.bar0Read_high (s := s.at_ t) hx] at hu
    exact ⟨_, hu, rfl, Map.find?_erase_self _ _, rfl⟩
  · have hu := exec_resultHeaderRead hs hl t hk .whole
    rw [State.bar0Read_whole ((s.at_ t).readWhole_header (List.mem_of_getElem? hk))] at hu
    have ho := (s.at_ t).slotRead_onlyRegs key
    have hrest := congrArg (fun x : State => { x with out := s.out }) ho.rest
    exact ⟨_, hu, congrArg _ (ho.proj State.out rfl), (s.at_ t).slotRead_state key, (s.at_ t).slotRead_seq key, ho.regs, hrest⟩
  · have hu := exec_recDataRead hs hl t .whole
    rw [State.bar0Read_whole ((s.at_ t).readWhole_recData.trans (State.recRead_cons (s := s.at_ t) hst hd hdr hf))] at hu
    have ho := ((s.at_ t).withRec fun r => { r with fifo := l, lastWord := w.word }).recShow_onlyRegs
    have hrest := congrArg (fun x : State => { x with out := s.out, recorder := s.recorder }) ho.rest
    exact ⟨_, hu, congrArg _ (ho.proj State.out rfl), ho.proj State.recorder rfl,
      State.SameRegs.emit (ho.mono (by simp)).regs rfl _, hrest⟩
  · have hu := exec_recDataRead hs hl t .whole
    rw [State.bar0Read_whole ((s.at_ t).readWhole_recData.trans (State.recRead_nil (s := s.at_ t) hst hd hf))] at hu
    obtain ⟨h1, h2⟩ := (s.at_ t).underrun_fields
    have ho := (s.at_ t).underrun_onlyRegs
    have hrest := congrArg (fun x : State => { x with out := s.out, regs := s.regs, flagCnt := s.flagCnt }) ho.rest
    exact ⟨_, hu, congrArg _ (ho.proj State.out rfl), ho.proj State.recorder rfl, h1, h2, hrest⟩

end Sys2Proof.Machine
end

section
/-! PROOFS. The frame boundary (R32): O6. -/
namespace Sys2Proof.Machine

/-- A boundary not crossed yet, of a drained frame, is crossed. -/
theorem exec_frameBoundary {s : State} (ha : s.Awake) (hd : s.frameDrained = true) (hc : s.scan.crossed ≠ some s.now) :
    exec .frameBoundary s = .next s.crossBoundary := by
  have he : exec .frameBoundary s = execFrameBoundary s := id rfl
  rw [he, execFrameBoundary, if_neg (by simp [ha]), if_neg hc, if_neg (by simp [hd])]

/-- A write-back line about to leave that names region 292: `State` allows it, though the device has four regions. The 292nd
key after RING_WR is CH_MASK. -/
def strayLine : DmaItem :=
  { payload := [], started := true, done := .columnLine (K.CH_MASK - K.RING_WR) 1 0 }

/-- An idle device that has swept an unfired frame, with ring 0 on, its region's domain on, and `strayLine` at the head of
channel 0. -/
def strayLineState : State :=
  { (((({ State.reset with ctl := { por := false } } : State).setFld P.LINK_CTRL.LINK_UP 1).setFld (P.RING_NOTIFY.EN.idx 0) 1).setFld
      (P.RING_BASE.LOG2_SIZE.idx 0) 20).setFld P.PWR_STATUS.DOMAIN_ON (2 ^ 24) with
    host := { State.reset.host with bme0 := true, chans := [(0, { items := [strayLine] })] } }

/-- The header of the unfired frame (R168) moves channel 0 on, and the stray line's WR_OFF is counted in CH_MASK before the
boundary takes CH_MASK into force. -/
theorem strayLineState_force :
    planeGet strayLineState.crossBoundary.force K.CH_MASK ≠ strayLineState.reg K.CH_MASK := by
  decide +kernel

/-- Refutes O6: the statement speaks of every state, also of one in which an item of a point channel names a region that the
device does not have. There the boundary itself writes into CH_MASK, and what comes into force is not what the register held. -/
theorem not_frameBoundary : ¬ Obligations.FrameBoundary := by
  unfold Obligations.FrameBoundary
  rintro ⟨hcross, -⟩
  have ha : strayLineState.Awake := by decide +kernel
  have hd : strayLineState.frameDrained = true := by decide +kernel
  have hc : strayLineState.scan.crossed ≠ some strayLineState.now := by decide +kernel
  obtain ⟨u, hu, -, -, -, -, hforce, -⟩ := hcross strayLineState ha hd hc
  obtain rfl : strayLineState.crossBoundary = u := by
    rw [exec_frameBoundary ha hd hc] at hu
    exact Host.Outcome.next.inj hu
  exact strayLineState_force (hforce K.CH_MASK (by decide))

end Sys2Proof.Machine
end

section
/-! PROOFS. A column's opening (R18, R246): O9. -/
namespace Sys2Proof.Machine

/-- A column handed off and not skipped, with the frame and sequence number that the first column of `twinState` is to have. -/
def twin : Column :=
  { frame := 0, seq := 0, index := 0, epoch := 0, base := some 0, gait := 0, reverse := false, held := false, skipped := false,
    angle := 0, codeE := 0, offsets := [], volts := [], inhibited := 0, pulses := [], waiting := [], accepted := [], lastBin := [],
    handoff := some 0, piped := [], blind := [], sent := [], markers := 0, released := 0, ready := [], posts := [], ordinal := 0,
    degraded := [], degr := [] }

/-- A fired frame without a trigger scheduled that waits for its first column, `twin` still in the chain. -/
def twinState : State :=
  { State.reset with ctl := { por := false }, scan := { State.reset.scan with fired := true, columns := [twin] } }

/-- The base is fixed for the first column listed with the new one's frame and sequence number, `twin`, which holds no skip;
the new column takes its SKIPPED. -/
theorem twinState_skipTimeout :
    ∀ c ∈ (stateOf twinState (exec .columnSkipTimeout twinState)).scan.columns, c.skipped = false := by
  decide +kernel

/-- Refutes O9: the statement speaks of every state, also of one whose chain lists a column with the frame and sequence number of
the column that opens. There COLUMN_SKIP_TIMEOUT leaves no column skipped. -/
theorem not_columnOpens : ¬ Obligations.ColumnOpens := by
  unfold Obligations.ColumnOpens
  rintro ⟨-, hskip⟩
  have htrig : twinState.trigTime = none := by decide +kernel
  obtain ⟨u, hu, -, -, ⟨c, hc, -, -, -, hskipped⟩, -⟩ := hskip twinState (by decide +kernel) (by decide +kernel)
    (by decide +kernel) (by simp [htrig]) (by decide +kernel)
  have hnone := twinState_skipTimeout
  rw [hu, stateOf_next] at hnone
  exact Bool.false_ne_true ((hnone c hc).symm.trans hskipped)

end Sys2Proof.Machine
end

section
/-! PROOFS. Frames of shared operations: what of the device an operation leaves as it is. Each frame is the device with the
parts that its operations change put to rest; an operation that leaves the frame leaves everything else. -/
namespace Sys2Proof.Machine

/-! ### Repeated operations -/

theorem forEach_keeps {σ ι α : Type} (g : σ → α) (l : List ι) (f : ι → σ → σ) (s : σ) (h : ∀ i s, g (f i s) = g s) :
    g (forEach l f s) = g s := by
  unfold forEach
  induction l generalizing s with
  | nil => rfl
  | cons a l ih => exact (ih (f a s)).trans (h a s)

theorem forUpto_keeps {σ α : Type} (g : σ → α) (n : Nat) (f : Nat → σ → σ) (s : σ) (h : ∀ i s, g (f i s) = g s) :
    g (forUpto n f s) = g s := forEach_keeps g (List.range n) f s h

theorem foldl_keeps_snd {σ ι α β : Type} (g : σ → β) (l : List ι) (f : α × σ → ι → α × σ) (a : α × σ)
    (h : ∀ a i, g (f a i).2 = g a.2) : g (l.foldl f a).2 = g a.2 := by
  induction l generalizing a with
  | nil => rfl
  | cons x l ih => exact (ih (f a x)).trans (h a x)

/-- What does not read the parts that a frame puts to rest is the same in two devices with the same frame. -/
theorem of_frame {σ α : Type} {F : σ → σ} {u s : σ} (h : F u = F s) (g : σ → α)
    (hg : ∀ x, g (F x) = g x := by exact fun _ => rfl) : g u = g s := by
  rw [← hg u, h, hg s]

/-! ### Registers, counters and records -/

/-- The device but for its registers and counters, the free values, and the records and recorder events that are formed. -/
def State.unlogged (s : State) : State :=
  { s with fresh := 0, regs := [], live := [], flagCnt := [], recs := {}, recorder := {} }

/-- An update of those parts alone. -/
theorem State.unlogged_mk (s : State) (fresh regs live flagCnt recs recorder) :
    State.unlogged { s with fresh := fresh, regs := regs, live := live, flagCnt := flagCnt, recs := recs, recorder := recorder } =
      s.unlogged := id rfl

theorem State.setFld_unlogged (s : State) (f : FieldRef) (v : Nat) : (s.setFld f v).unlogged = s.unlogged := by
  simp only [State.setFld, State.setReg, State.unlogged_mk]

theorem State.liveWrap_unlogged (s : State) (f : FieldRef) (n : Nat) : (s.liveWrap f n).unlogged = s.unlogged := by
  simp only [State.liveWrap, State.setLive, State.unlogged_mk]

theorem State.setFlag_unlogged (s : State) (f : FieldRef) : (s.setFlag f).unlogged = s.unlogged := by
  simp only [State.setFlag, State.unlogged_mk, State.setFld_unlogged]

theorem State.recEvent_unlogged (s : State) (kind cluster : Nat) : (s.recEvent kind cluster).unlogged = s.unlogged := by
  unfold State.recEvent
  dsimp only
  split
  · rfl
  · simp only [State.draw, State.withRec, State.unlogged_mk]

theorem State.queueNotice_unlogged (s : State) (r : Record) (n : Nat) : (s.queueNotice r n).unlogged = s.unlogged := by
  unfold State.queueNotice
  split <;> simp only [State.unlogged_mk]

theorem State.logRecord_unlogged (s : State) (r : Record) (n : Nat) : (s.logRecord r n).unlogged = s.unlogged := by
  unfold State.logRecord
  split <;> simp only [State.addWrap, State.setFld_unlogged, State.unlogged_mk]

theorem State.record_unlogged (s : State) (kind cls : Nat) (log notice : Bool) (data : List Byte) :
    (s.record kind cls log notice data).unlogged = s.unlogged := by
  cases log <;> cases notice <;>
    simp only [State.record, if_true, Bool.false_eq_true, if_false, State.queueNotice_unlogged, State.recEvent_unlogged,
      State.logRecord_unlogged, State.setFld_unlogged, State.unlogged_mk]

/-! ### The ranging chain -/

/-- A column but for what its windows, its pipe slots and its base put into it. -/
def Column.bare (c : Column) : Column :=
  { c with base := none, held := false, skipped := false, waiting := [], accepted := [], lastBin := [], piped := [], blind := [],
           sent := [], lastOut := [], degraded := [] }

/-- An update of those parts alone. -/
theorem Column.bare_mk (c : Column) (base held skipped waiting accepted lastBin piped blind sent lastOut degraded) :
    Column.bare { c with
      base := base, held := held, skipped := skipped, waiting := waiting, accepted := accepted, lastBin := lastBin, piped := piped,
      blind := blind, sent := sent, lastOut := lastOut, degraded := degraded } = c.bare := id rfl

/-- The device but for the ranging chain from the inputs to the candidates: of the columns only what `Column.bare` keeps. -/
def State.offRanging (s : State) : State :=
  { s.unlogged with scan := { s.scan with columns := s.scan.columns.map Column.bare }, stamp := {}, hist := {}, clusters := [],
                    bq := [], masks := [], farrier := {}, sup := {} }

/-- An update of the chain's parts other than its columns. -/
theorem State.offRanging_mk (s : State) (fresh regs live flagCnt recs recorder stamp hist clusters bq masks farrier sup) :
    State.offRanging { s with
      fresh := fresh, regs := regs, live := live, flagCnt := flagCnt, recs := recs, recorder := recorder, stamp := stamp, hist := hist,
      clusters := clusters, bq := bq, masks := masks, farrier := farrier, sup := sup } = s.offRanging := id rfl

theorem State.offRanging_of_unlogged {u s : State} (h : u.unlogged = s.unlogged) : u.offRanging = s.offRanging :=
  of_frame h State.offRanging

theorem State.setFld_offRanging (s : State) (f : FieldRef) (v : Nat) : (s.setFld f v).offRanging = s.offRanging :=
  State.offRanging_of_unlogged (s.setFld_unlogged f v)

theorem State.liveWrap_offRanging (s : State) (f : FieldRef) (n : Nat) : (s.liveWrap f n).offRanging = s.offRanging :=
  State.offRanging_of_unlogged (s.liveWrap_unlogged f n)

theorem State.record_offRanging (s : State) (kind cls : Nat) (log notice : Bool) (data : List Byte) :
    (s.record kind cls log notice data).offRanging = s.offRanging :=
  State.offRanging_of_unlogged (s.record_unlogged kind cls log notice data)

theorem State.recEvent_offRanging (s : State) (kind cluster : Nat) : (s.recEvent kind cluster).offRanging = s.offRanging :=
  State.offRanging_of_unlogged (s.recEvent_unlogged kind cluster)

/-- A change of columns that keeps them bare. -/
theorem State.withCol_offRanging (s : State) (frame seq : Nat) {f : Column → Column} (h : ∀ c, (f c).bare = c.bare) :
    (s.withCol frame seq f).offRanging = s.offRanging := by
  have hm : (s.scan.columns.map fun c => if c.frame = frame ∧ c.seq = seq then f c else c).map Column.bare =
      s.scan.columns.map Column.bare := by
    rw [List.map_map]
    refine List.map_congr_left fun c _ => ?_
    dsimp only [Function.comp_apply]
    split
    · exact h c
    · rfl
  simp only [State.withCol, State.offRanging, State.unlogged, hm]

theorem State.dispose_offRanging (s : State) (k : Column) (e : RetEvent) (f : Fate) : (s.dispose k e f).offRanging = s.offRanging := by
  cases f <;>
    simp only [State.dispose, State.withCh, State.withStamp, apply_ite State.offRanging, State.withCol_offRanging, Column.bare_mk,
      implies_true, State.offRanging_mk, ite_self]

theorem State.settleCol_offRanging (s : State) (frame seq : Nat) (last : Bool) :
    (s.settleCol frame seq last).offRanging = s.offRanging := by
  unfold State.settleCol
  split
  · rfl
  · exact (forEach_keeps State.offRanging _ _ _ fun e s => s.dispose_offRanging _ e _).trans
      (State.withCol_offRanging s _ _ fun _ => rfl)

theorem State.setBuf_offRanging (s : State) (k : Nat) (b : Buf) : (s.setBuf k b).offRanging = s.offRanging := by
  simp only [State.setBuf, State.offRanging_mk]

theorem State.freeze_offRanging (s : State) (k : Nat) (mask : Bool) : (s.freeze k mask).offRanging = s.offRanging := by
  simp only [State.freeze, apply_ite State.offRanging, State.setBuf_offRanging, State.offRanging_mk, ite_self]

theorem State.dumpTarget_offRanging (s : State) (c : Column) : (s.dumpTarget c).offRanging = s.offRanging := by
  unfold State.dumpTarget
  split
  · have hf : ∀ (l : List Nat) (n : Nat) (s : State),
        (forEach l (fun ch s => s.freeze (2 * ch + n) false) s).offRanging = s.offRanging := fun l n s =>
      forEach_keeps State.offRanging l _ s fun ch s => s.freeze_offRanging _ _
    split
    · dsimp only
      split <;> simp only [State.setFld_offRanging, State.offRanging_mk, hf]
    · rfl
  · rfl

theorem State.gatherRestart_offRanging (s : State) (k : Nat) : (s.gatherRestart k).offRanging = s.offRanging := by
  simp only [State.gatherRestart, State.withFar, State.offRanging_mk]

theorem State.autoTemplate_offRanging (s : State) (k : Nat) (x : Template) : (s.autoTemplate k x).offRanging = s.offRanging := by
  unfold State.autoTemplate
  dsimp only
  split <;> simp only [State.withCluster, State.withFar, State.offRanging_mk]

theorem State.fadeEnd_offRanging (s : State) (k : Nat) : (s.fadeEnd k).offRanging = s.offRanging := by
  unfold State.fadeEnd
  dsimp only
  split <;> simp only [State.gatherRestart_offRanging, State.withCluster, State.offRanging_mk]

theorem State.tplHandOff_offRanging (s : State) (h : Nat) : (s.tplHandOff h).offRanging = s.offRanging := by
  refine forUpto_keeps State.offRanging _ _ _ fun k s => ?_
  have hs : ((s.fadeEnd k).withCluster k fun c => c.handOff h).offRanging = s.offRanging := by
    simp only [State.withCluster, State.offRanging_mk, State.fadeEnd_offRanging]
  dsimp only
  split
  · split
    · exact (State.autoTemplate_offRanging _ k _).trans hs
    · exact hs
  · exact hs

theorem State.fillAll_offRanging (s : State) (t : Nat) (m : BufMeta) : (s.fillAll t m).offRanging = s.offRanging := by
  simp only [State.fillAll, State.offRanging_mk]

theorem State.setBase_offRanging (s : State) (frame seq hPrev : Nat) : (s.setBase frame seq hPrev).offRanging = s.offRanging := by
  unfold State.setBase
  split
  · rfl
  · simp only [State.liveSat, State.setLive, apply_ite State.offRanging, State.offRanging_mk, State.withCol_offRanging,
      Column.bare_mk, implies_true, ite_self]

theorem State.handBuffers_offRanging (s : State) (c : Column) : (s.handBuffers c).offRanging = s.offRanging := by
  simp only [State.handBuffers, State.offRanging_mk]

/-! ### The point stream and the DMA channels -/

/-- The device but for the point stream, the channels that carry it, what leaves by them, and the cores. The buffers count among
them for the DUMP causes that a dump record clears once it is out (R103). -/
def State.offStream (s : State) : State :=
  { s.unlogged with out := [], hist := {}, evoth := {}, streams := [], host := {} }

/-- An update of those parts alone. -/
theorem State.offStream_mk (s : State) (fresh regs live flagCnt recs recorder out hist evoth streams host) :
    State.offStream { s with
      fresh := fresh, regs := regs, live := live, flagCnt := flagCnt, recs := recs, recorder := recorder, out := out, hist := hist,
      evoth := evoth, streams := streams, host := host } = s.offStream := id rfl

theorem State.offStream_of_unlogged {u s : State} (h : u.unlogged = s.unlogged) : u.offStream = s.offStream :=
  of_frame h State.offStream

theorem State.setFld_offStream (s : State) (f : FieldRef) (v : Nat) : (s.setFld f v).offStream = s.offStream :=
  State.offStream_of_unlogged (s.setFld_unlogged f v)

theorem State.addWrap_offStream (s : State) (f : FieldRef) (n : Nat) : (s.addWrap f n).offStream = s.offStream :=
  s.setFld_offStream _ _

theorem State.liveWrap_offStream (s : State) (f : FieldRef) (n : Nat) : (s.liveWrap f n).offStream = s.offStream :=
  State.offStream_of_unlogged (s.liveWrap_unlogged f n)

theorem State.setFlag_offStream (s : State) (f : FieldRef) : (s.setFlag f).offStream = s.offStream :=
  State.offStream_of_unlogged (s.setFlag_unlogged f)

theorem State.record_offStream (s : State) (kind cls : Nat) (log notice : Bool) (data : List Byte) :
    (s.record kind cls log notice data).offStream = s.offStream :=
  State.offStream_of_unlogged (s.record_unlogged kind cls log notice data)

theorem State.emit_offStream (s : State) (o : Out) : (s.emit o).offStream = s.offStream := by
  simp only [State.emit, State.offStream_mk]

theorem State.setChan_offStream (s : State) (c : Nat) (d : DmaChan) : (s.setChan c d).offStream = s.offStream := by
  simp only [State.setChan, State.offStream_mk]

theorem State.withStream_offStream (s : State) (r : Nat) (f : Stream → Stream) : (s.withStream r f).offStream = s.offStream := by
  simp only [State.withStream, State.offStream_mk]

theorem State.msix_offStream (s : State) (fn vec : Nat) : (s.msix fn vec).offStream = s.offStream := by
  simp only [State.msix, State.setMsix, apply_ite State.offStream, State.emit_offStream, State.offStream_mk, ite_self]

theorem State.unfreeze_offStream (s : State) (k : Nat) (mask : Bool) : (s.unfreeze k mask).offStream = s.offStream := by
  simp only [State.unfreeze, State.setBuf, State.offStream_mk]

theorem State.wordsOut_offStream (s : State) (d : DmaDone) : (s.wordsOut d).offStream = s.offStream := by
  unfold State.wordsOut
  split
  · simp only [apply_ite State.offStream, State.unfreeze_offStream, ite_self]
  · rfl

theorem State.dumpMoved_offStream (s : State) : s.dumpMoved.offStream = s.offStream := by
  unfold State.dumpMoved State.dumpArrived State.dumpDone
  split
  · split
    · simp only [apply_ite State.offStream, State.setFld_offStream, State.offStream_mk, ite_self]
    · simp only [State.offStream_mk]
  · rfl

theorem State.itemDone_offStream (s : State) (d : DmaDone) : (s.itemDone d).offStream = s.offStream := by
  cases d <;>
    simp only [State.itemDone, apply_ite State.offStream, State.msix_offStream, State.addWrap_offStream, State.setFld_offStream,
      State.dumpMoved_offStream, State.offStream_mk, ite_self]

theorem State.stall_offStream (s : State) (c cause va : Nat) : (s.stall c cause va).offStream = s.offStream := by
  simp only [State.stall, State.setStalled, State.msix_offStream, State.setFlag_offStream, State.record_offStream,
    State.liveWrap_offStream, State.setFld_offStream]

theorem State.startWalk_offStream (s : State) (c va : Nat) (resume write : Bool) :
    (s.startWalk c va resume write).offStream = s.offStream := by
  simp only [State.startWalk, State.emit_offStream, State.liveWrap_offStream, State.setChan_offStream]

theorem State.issue_offStream (s : State) (c va pa : Nat) (bytes : List Byte) : (s.issue c va pa bytes).offStream = s.offStream := by
  unfold State.issue
  generalize piecesOf s.host.maxPayload (bytes.length + 1) bytes = l
  generalize 0 = n
  induction l generalizing s n with
  | nil => rfl
  | cons p l ih => exact (ih _ _).trans (s.emit_offStream _)

/-- One page of a channel. -/
theorem State.pump1_offStream {s u : State} {c : Nat} (h : s.pump1 c = some u) : u.offStream = s.offStream := by
  unfold State.pump1 at h
  split at h
  · cases h
  · dsimp only at h
    split at h
    · cases h
    · split at h
      · cases h
      · split at h
        · cases h
          split <;> simp only [State.setChan_offStream, State.offStream_mk]
        · split at h
          · split at h
            · cases h
            · cases h
              simp only [State.itemDone_offStream, State.setChan_offStream]
          · split at h
            · cases h
              exact s.stall_offStream _ _ _
            · split at h
              · cases h
                exact s.startWalk_offStream _ _ _ _
              · cases h
            · cases h
              simp only [State.setChan_offStream, apply_ite State.offStream, State.wordsOut_offStream, State.issue_offStream,
                ite_self]

theorem State.pump_offStream (s : State) (c : Nat) : (s.pump c).offStream = s.offStream := by
  unfold State.pump
  generalize sumN ((s.chan c).items.map (fun i => i.payload.length / 2048 + 12)) + 4 = n
  induction n generalizing s with
  | zero => rfl
  | succ n ih =>
    rw [State.pumpAux]
    split
    · next u hu => exact (ih u).trans (State.pump1_offStream hu)
    · rfl

theorem State.dmaPush_offStream (s : State) (c : Nat) (i : DmaItem) : (s.dmaPush c i).offStream = s.offStream := by
  simp only [State.dmaPush, State.pump_offStream, State.setChan_offStream]

theorem State.columnLost_offStream (s : State) (r frame column : Nat) (stales : Bool) :
    (s.columnLost r frame column stales).offStream = s.offStream := by
  simp only [State.columnLost, apply_ite State.offStream, State.record_offStream, State.setFlag_offStream, State.offStream_mk,
    State.liveWrap_offStream, ite_self]

theorem State.sendColumn_offStream (s : State) (r : Nat) (k : Column) (recs : List Rec) (whole : Bool) (unref : Nat) :
    (s.sendColumn r k recs whole unref).offStream = s.offStream := by
  simp only [State.sendColumn, apply_ite State.offStream, State.columnLost_offStream, State.record_offStream,
    State.setFlag_offStream, State.withStream_offStream, State.dmaPush_offStream, State.liveWrap_offStream, ite_self]

theorem State.countSlots_offStream (s : State) (plane : SMap Word) (valid : SMap Bool) (index row : Nat) :
    (s.countSlots plane valid index row).offStream = s.offStream := by
  simp only [State.countSlots, apply_ite State.offStream, State.liveWrap_offStream, ite_self]

theorem State.updatePrev_offStream (s : State) (r : Nat) (k : Column) (es : List Echo) :
    (s.updatePrev r k es).offStream = s.offStream := s.withStream_offStream r _

theorem State.endJobs_offStream (s : State) (r : Nat) (k : Column) : (s.endJobs r k).offStream = s.offStream :=
  forUpto_keeps State.offStream _ _ _ fun i s => by
    simp only [apply_ite State.offStream, State.setFld_offStream, State.offStream_mk, ite_self]

end Sys2Proof.Machine
end

section
/-! PROOFS. A column from its hand-off to the write-back line (R22, R29, R30, R178): O11. -/
namespace Sys2Proof.Machine

/-! ### HAND_OFF -/

/-- The settled column of `c` is handed off at `h`, and its rows are marked. -/
def State.handedOff (s : State) (c : Column) (h : Nat) : State :=
  (s.withCol c.frame c.seq fun x => { x with
    handoff := some h, degr := s.degradeRows c,
    degraded := (s.degradeRows c).foldl (fun m e => Map.set false m e.1 e.2) x.degraded,
    ordinal := s.scan.handed + 1 }).withScan fun x => { x with lastHandoff := some h, handed := x.handed + 1 }

/-- HAND_OFF settles the open column's events, hands it off, and beside that works on the ranging chain alone. -/
theorem exec_handOff {s : State} {c : Column} {h : Nat} (ha : s.Awake) (hc : s.openCol = some c)
    (hh : s.handOffTime c = some h) : ∃ u, exec .handOff s = .next u ∧
      u.offRanging = (((s.at_ h).settleCol c.frame c.seq true).handedOff c h).offRanging := by
  have he : exec .handOff s = execHandOff s := rfl
  rw [he, execHandOff, if_neg (by simp [ha])]
  simp only [hc, hh]
  refine ⟨_, rfl, ?_⟩
  simp only [State.setBase_offRanging, apply_ite State.offRanging, State.fillAll_offRanging, State.tplHandOff_offRanging,
    State.dumpTarget_offRanging, State.handBuffers_offRanging, ite_self]
  rfl

/-- Devices alike off the ranging chain list the same columns, bare. -/
theorem State.mem_columns_of_offRanging {u s : State} (h : u.offRanging = s.offRanging) {x : Column} (hx : x ∈ u.scan.columns) :
    ∃ y ∈ s.scan.columns, y.bare = x.bare := by
  have hm : u.scan.columns.map Column.bare = s.scan.columns.map Column.bare := congrArg (fun s : State => s.scan.columns) h
  exact List.mem_map.mp (hm ▸ List.mem_map_of_mem hx)

theorem State.length_columns_of_offRanging {u s : State} (h : u.offRanging = s.offRanging) :
    u.scan.columns.length = s.scan.columns.length := by
  have hm : u.scan.columns.map Column.bare = s.scan.columns.map Column.bare := congrArg (fun s : State => s.scan.columns) h
  simpa using congrArg List.length hm

/-- A column of the handed-off one's frame and sequence number is handed off. -/
theorem State.handedOff_column {s : State} {c : Column} {h : Nat} {y : Column} (hy : y ∈ (s.handedOff c h).scan.columns)
    (hf : y.frame = c.frame) (hq : y.seq = c.seq) : y.handoff = some h ∧ y.ordinal = s.scan.handed + 1 := by
  obtain ⟨z, -, rfl⟩ := List.mem_map.mp hy
  by_cases hz : z.frame = c.frame ∧ z.seq = c.seq
  · simp only [if_pos hz, and_self]
  · simp only [if_neg hz] at hf hq
    exact absurd ⟨hf, hq⟩ hz

/-! ### RELEASE_DEADLINE -/

theorem State.releaseRest_of_none {s : State} (h : s.power.rest = none) (r : Nat) : s.releaseRest r = s := by
  simp only [State.releaseRest, h]

/-- A region has released the column `k`; what all four have released leaves the chain. -/
def State.released (s : State) (k : Column) (r : Nat) : State :=
  (s.withCol k.frame k.seq fun c => { c with released := c.released + 2 ^ r }).withScan fun x =>
    { x with columns := x.columns.filter (fun c => decide (c.released ≠ 15)) }

/-- RELEASE_DEADLINE works on the stream, its channel and the cores at the deadline, and then releases the column. -/
theorem exec_releaseDeadline {s : State} {r : Nat} {k : Column} (ha : s.Awake) (hr : r < 4)
    (hk : s.scan.columns.find? (fun k => k.handoff.isSome && !bitOf k.released r) = some k) :
    ∃ v : State, exec (.releaseDeadline r) s = .next ((v.released k r).releaseRest r) ∧
      v.offStream = (s.at_ (k.handoff.getD 0 + 3 * gaitT k.gait / 2)).offStream := by
  have he : exec (.releaseDeadline r) s = execReleaseDeadline r s := rfl
  rw [he, execReleaseDeadline, if_neg (by simp [ha]), if_neg (by omega)]
  simp only [hk]
  refine ⟨_, rfl, ?_⟩
  have hcount : ∀ (plane : SMap Word) (valid : SMap Bool) (index : Nat) (s : State),
      (forUpto 96 (fun i s => s.countSlots plane valid index (96 * r + i)) s).offStream = s.offStream :=
    fun plane valid index s => forUpto_keeps State.offStream _ _ s fun i s => s.countSlots_offStream _ _ _ _
  simp only [State.offStream_mk, State.endJobs_offStream, State.sendColumn_offStream, apply_ite State.offStream,
    State.updatePrev_offStream, hcount, State.withStream_offStream, State.setLive, State.liveWrap_offStream, ite_self]

/-! ### RING_WRITEBACK and COAL_US_EXPIRY -/

@[simp] theorem State.chan_setChan_self (s : State) (c : Nat) (d : DmaChan) : (s.setChan c d).chan c = d := by
  simp [State.chan, State.setChan]

@[simp] theorem State.stream_withStream_self (s : State) (r : Nat) (f : Stream → Stream) :
    (s.withStream r f).stream r = f (s.stream r) := by
  simp [State.stream, State.withStream]

/-- A message reads the parameters and the host's tables alone, and changes those tables or what leaves the device. -/
theorem State.msix_out_host {u s : State} (hr : u.regs = s.regs) (hh : u.host = s.host) (ho : u.out = s.out) (fn vec : Nat) :
    (u.msix fn vec).out = (s.msix fn vec).out ∧ (u.msix fn vec).host = (s.msix fn vec).host ∧
      { u.msix fn vec with out := u.out, host := u.host } = u := by
  have hb : ∀ f, u.bit f = s.bit f := fun f => by simp only [State.bit, State.fld, State.reg, hr]
  have hm : u.msixOf fn = s.msixOf fn := by simp only [State.msixOf, hh]
  have hf : u.msixFree fn vec = s.msixFree fn vec := by simp only [State.msixFree, State.linkUp, hb, hm, hh]
  simp only [State.msix, hb, hm, hf]
  split
  · exact ⟨ho, hh, rfl⟩
  · split
    · exact ⟨congrArg (List.cons _) ho, hh, rfl⟩
    · exact ⟨ho, by simp only [State.setMsix, hh], rfl⟩

/-- RING_WRITEBACK puts the write-back line in the place of the column at the head of its channel, and moves the channel on. -/
theorem exec_ringWriteback {s : State} {t r f c : Nat} {i : DmaItem} {l : List DmaItem} (ha : s.Awake) (hr : r < 4)
    (hi : (s.chan r).items = i :: l) (hd : i.done = .column r f c) (hst : i.started = true) (hs : i.segs = []) :
    ∃ (g : Stream → Stream) (line : DmaItem), exec (.ringWriteback t r) s =
        .next ((((s.at_ t).withStream r g).setChan r { s.chan r with items := line :: l }).pump r) ∧
      line.payload = padTo 64 (leBytes 8 (wrapAdd 64 (s.fld (P.RING_WR.WR_OFF.idx r)) i.payload.length) ++ leBytes 4 f ++
        leBytes 2 c) := by
  have he : exec (.ringWriteback t r) s = execRingWriteback t r s := rfl
  have hi' : ((s.at_ t).chan r).items = i :: l := hi
  rw [he, execRingWriteback, if_neg (by simp [ha])]
  simp only [if_neg (show ¬ 4 ≤ r by omega), hi', hd, hst, hs, List.isEmpty_nil, and_self, if_true]
  exact ⟨_, _, rfl, rfl⟩

/-- COAL_US_EXPIRY ends a region's count of columns not announced, and sends its message. -/
theorem exec_coalUsExpiry {s : State} {r t0 : Nat} (ha : s.Awake) (hr : r < 4) (hf : (s.stream r).firstCol = some t0) :
    exec (.coalUsExpiry r) s = .next (((s.at_ (t0 + 1000 * s.fld (P.RING_NOTIFY.COAL_US.idx r))).withStream r fun g =>
      { g with cols := 0, firstCol := none }).msix 0 (4 + r)) := by
  have he : exec (.coalUsExpiry r) s = execCoalUsExpiry r s := rfl
  rw [he, execCoalUsExpiry, if_neg (by simp [ha]), if_neg (by omega)]
  simp only [hf]

/-- Settles O11: each command's effect by its equation above, and the rest of the device by the frame of what it works on. -/
theorem columnEnd : Obligations.ColumnEnd := by
  unfold Obligations.ColumnEnd
  refine ⟨fun s c h ha hc hh => ?_, fun s r k ha hr hk hrest => ?_, fun s t r f c i l ha hr hi hd hst hs => ?_,
    fun s r t0 ha hr hf => ?_⟩
  · obtain ⟨u, hu, hoff⟩ := exec_handOff ha hc hh
    have hset := (s.at_ h).settleCol_offRanging c.frame c.seq true
    generalize (s.at_ h).settleCol c.frame c.seq true = v at hoff hset
    have hhanded : v.scan.handed = s.scan.handed := of_frame hset fun s => s.scan.handed
    have hcount : u.scan.handed = v.scan.handed + 1 := of_frame hoff fun s => s.scan.handed
    have hseq : u.scan.seq = v.scan.seq := of_frame hoff fun s => s.scan.seq
    have hlen : (v.handedOff c h).scan.columns.length = v.scan.columns.length := List.length_map _
    refine ⟨u, hu, (of_frame hoff State.now).trans (of_frame hset State.now), of_frame hoff fun s => s.scan.lastHandoff,
      hhanded ▸ hcount, fun x hx hxf hxq => ?_, hseq.trans (of_frame hset fun s => s.scan.seq), ?_,
      (of_frame hoff State.out).trans (of_frame hset State.out), (of_frame hoff State.nv).trans (of_frame hset State.nv),
      (of_frame hoff State.emit_).trans (of_frame hset State.emit_),
      (of_frame hoff State.mirror).trans (of_frame hset State.mirror),
      (of_frame hoff State.evoth).trans (of_frame hset State.evoth),
      (of_frame hoff State.power).trans (of_frame hset State.power)⟩
    · obtain ⟨y, hy, hyx⟩ := State.mem_columns_of_offRanging hoff hx
      have hframe : y.frame = x.frame := of_frame hyx Column.frame
      have hcolseq : y.seq = x.seq := of_frame hyx Column.seq
      obtain ⟨hyh, hyo⟩ := State.handedOff_column hy (hframe.trans hxf) (hcolseq.trans hxq)
      exact ⟨(of_frame hyx Column.handoff).symm.trans hyh, (of_frame hyx Column.ordinal).symm.trans (hhanded ▸ hyo)⟩
    · rw [State.length_columns_of_offRanging hoff, hlen, State.length_columns_of_offRanging hset, State.at_scan]
  · obtain ⟨v, hv, hoff⟩ := exec_releaseDeadline ha hr hk
    have hpower : v.power = s.power := of_frame hoff State.power
    have hscan : v.scan = s.scan := of_frame hoff State.scan
    have hnone : (v.released k r).power.rest = none := (congrArg Power.rest hpower).trans hrest
    rw [State.releaseRest_of_none hnone] at hv
    refine ⟨_, hv, of_frame hoff State.now, ?_, of_frame hoff fun s => s.scan.seq, of_frame hoff State.nv, of_frame hoff State.mirror,
      of_frame hoff State.emit_, of_frame hoff State.stamp, hpower⟩
    rw [← hscan]
    rfl
  · obtain ⟨g, line, hu, hline⟩ := exec_ringWriteback (t := t) ha hr hi hd hst hs
    refine ⟨_, _, hu, rfl, rfl, ?_, ?_, rfl⟩
    · rw [State.chan_setChan_self]
      rfl
    · rw [State.chan_setChan_self]
      exact congrArg some hline
  · obtain ⟨hout, hhost, hrest⟩ := State.msix_out_host (s := s) (u := (s.at_ _).withStream r fun g =>
      { g with cols := 0, firstCol := none }) rfl rfl rfl 0 (4 + r)
    have hstream := congrArg (fun s : State => s.stream r) hrest
    have hall := congrArg (fun x : State => { x with streams := s.streams }) hrest
    refine ⟨_, exec_coalUsExpiry ha hr hf, ?_, ?_, hout, hhost, hall⟩
    · exact (congrArg Stream.cols hstream).trans (by rw [State.stream_withStream_self])
    · exact (congrArg Stream.firstCol hstream).trans (by rw [State.stream_withStream_self])

end Sys2Proof.Machine
end

section
/-! PROOFS. The extraction pipe, the moment solver and the interval engine (R27, R28, R117, R320): O17. -/
namespace Sys2Proof.Machine

/-! ### The pipe's work on the ranging chain -/

theorem State.poison_offRanging (s : State) (c buf frame : Nat) : (s.poison c buf frame).offRanging = s.offRanging := by
  simp only [State.poison, apply_ite State.offRanging, State.record_offRanging, State.setFlag, State.setFld_offRanging,
    State.setBuf_offRanging, State.liveWrap_offRanging, State.offRanging_mk, ite_self]

theorem State.readTrack_offRanging (s : State) (c buf frame : Nat) : (s.readTrack c buf frame).2.offRanging = s.offRanging := by
  refine foldl_keeps_snd State.offRanging _ _ _ fun a e => ?_
  dsimp only
  split
  · rfl
  · exact State.liveWrap_offRanging _ _ _
  · exact State.poison_offRanging _ _ _ _

theorem State.accumulate_offRanging (s : State) (c buf frame bin r : Nat) (high : Bool) :
    (s.accumulate c buf frame bin r high).offRanging = s.offRanging := by
  unfold State.accumulate
  dsimp only
  split <;>
    simp only [apply_ite State.offRanging, State.setBinWord, State.setFld_offRanging, State.poison_offRanging,
      State.liveWrap_offRanging, State.offRanging_mk, ite_self]

theorem State.binOne_offRanging (s : State) (k : Column) (e : BinEvent) : (s.binOne k e).offRanging = s.offRanging := by
  simp only [State.binOne, apply_ite State.offRanging, State.accumulate_offRanging, State.withCol_offRanging, Column.bare_mk,
    implies_true, ite_self]

theorem State.binAll_offRanging (s : State) (c : Nat) (k : Column) : (s.binAll c k).offRanging = s.offRanging :=
  forEach_keeps State.offRanging _ _ _ fun e s => s.binOne_offRanging k e

theorem State.maskViolation_offRanging (s : State) (k : Column) (c : Nat) (full : Bool) (v : List (Nat × Bool × Bool)) :
    (s.maskViolation k c full v).offRanging = s.offRanging := by
  simp only [State.maskViolation, State.recEvent_offRanging, State.record_offRanging, apply_ite State.offRanging,
    State.liveWrap_offRanging, State.freeze_offRanging, State.withCol_offRanging, Column.bare_mk, implies_true, State.offRanging_mk,
    ite_self]

theorem State.maskTest_offRanging (s : State) (k : Column) (c : Nat) (t : Track) : (s.maskTest k c t).offRanging = s.offRanging := by
  simp only [State.maskTest, apply_ite State.offRanging, State.maskViolation_offRanging, State.offRanging_mk, ite_self]

theorem State.extract_offRanging (s : State) (k : Column) (c : Nat) (t : Track) (poison : Bool) :
    (s.extract k c t poison).offRanging = s.offRanging := by
  simp only [State.extract, State.withCluster, State.withSup, apply_ite State.offRanging, State.liveWrap_offRanging,
    State.withCol_offRanging, Column.bare_mk, implies_true, State.offRanging_mk, ite_self]

/-! ### A buffer's state -/

/-- State and content of a buffer. -/
def State.slot (s : State) (i : Nat) : BufState × BufMeta := ((s.buf i).st, (s.buf i).content)

theorem State.slot_congr {u s : State} (h : u.hist.bufs = s.hist.bufs) (i : Nat) : u.slot i = s.slot i := by
  rw [State.slot, State.slot, State.buf, State.buf, h]

theorem State.slot_setBuf_poison (s : State) (k i : Nat) : (s.setBuf k { s.buf k with poison := true }).slot i = s.slot i := by
  by_cases hi : i = k
  · subst hi
    simp [State.slot, State.buf]
  · simp [State.slot, State.buf, Map.get_set_ne _ _ _ hi]

theorem State.setFlag_hist (s : State) (f : FieldRef) : (s.setFlag f).hist = s.hist :=
  of_frame (s.setFlag_unlogged f) State.hist

theorem State.record_hist (s : State) (kind cls : Nat) (log notice : Bool) (data : List Byte) :
    (s.record kind cls log notice data).hist = s.hist := of_frame (s.record_unlogged kind cls log notice data) State.hist

theorem State.recEvent_hist (s : State) (kind cluster : Nat) : (s.recEvent kind cluster).hist = s.hist :=
  of_frame (s.recEvent_unlogged kind cluster) State.hist

theorem State.poison_slot (s : State) (c buf frame i : Nat) : (s.poison c buf frame).slot i = s.slot i := by
  have hset := (State.slot_setBuf_poison (s.liveWrap (P.ECC_COUNT.UNCORRECTABLE.idx (c / 32)) 1) (2 * c + buf) i).trans
    (State.slot_congr (congrArg Histograms.bufs (s.liveWrap_hist _ 1)) i)
  unfold State.poison
  dsimp only
  generalize (s.liveWrap (P.ECC_COUNT.UNCORRECTABLE.idx (c / 32)) 1).setBuf _ _ = v at hset ⊢
  split
  · exact hset
  · refine (State.slot_congr ?_ i).trans hset
    rw [State.record_hist, State.setFlag_hist]

theorem State.setBinWord_bufs (s : State) (k bin : Nat) (w : Word) : (s.setBinWord k bin w).hist.bufs = s.hist.bufs := id rfl

theorem State.accumulate_slot (s : State) (c buf frame bin r : Nat) (high : Bool) (i : Nat) :
    (s.accumulate c buf frame bin r high).slot i = s.slot i := by
  have hset : ∀ (s : State) (k : Nat) (w x : Word) (p : Prop) [Decidable p],
      (if p then (s.setBinWord k bin w).setFld P.INJECT_SEL.ARM 0 else s.setBinWord k bin x).slot i = s.slot i := by
    intro s k w x p _
    refine State.slot_congr ?_ i
    split
    · rw [State.setFld_hist, State.setBinWord_bufs]
    · exact State.setBinWord_bufs _ _ _ _
  unfold State.accumulate
  dsimp only
  split
  · exact hset _ _ _ _ _
  · exact (hset _ _ _ _ _).trans (State.slot_congr (congrArg Histograms.bufs (State.liveWrap_hist _ _ _)) i)
  · exact (hset _ _ _ _ _).trans (s.poison_slot c buf frame i)

/-- Events that enter their bins leave every buffer's state and content. -/
theorem State.binAll_slot (s : State) (c : Nat) (k : Column) (i : Nat) : (s.binAll c k).slot i = s.slot i := by
  refine forEach_keeps (fun s : State => s.slot i) _ _ _ fun e s => ?_
  have hcol : ∀ f, (s.withCol k.frame k.seq f).slot i = s.slot i := fun f =>
    State.slot_congr (congrArg Histograms.bufs (s.withCol_hist _ _ f)) i
  unfold State.binOne
  dsimp only
  split
  · exact (State.accumulate_slot _ _ _ _ _ _ _ i).trans (hcol _)
  · exact hcol _

/-- A column that holds no events of a channel brings that channel's bins nothing. -/
theorem State.binAll_of_none {c : Nat} {k : Column} (h : k.accepted.any (fun e => e.channel == c) = false) (s : State) :
    s.binAll c k = s := by
  have hl : k.accepted.filter (fun e => e.channel == c) = [] := by
    rw [List.filter_eq_nil_iff]
    simpa using h
  rw [State.binAll, hl]
  rfl

/-- A freeze leaves a buffer's state, or freezes it. -/
theorem State.freeze_st (s : State) (k : Nat) (mask : Bool) (i : Nat) :
    ((s.freeze k mask).buf i).st = (s.buf i).st ∨ ((s.freeze k mask).buf i).st = .frozen := by
  have hkept : (if mask then { s.buf i with mask := true, maskAt := some s.now } else { s.buf i with dump := true }).st =
      (s.buf i).st := by
    split <;> rfl
  by_cases hi : i = k
  · subst hi
    rw [← hkept]
    simp only [State.freeze, State.buf, apply_ite State.hist, apply_ite Histograms.bufs, State.setBuf_hist, ite_self,
      Map.get_set_self]
    split
    · exact .inr rfl
    · exact .inr rfl
    · exact .inl rfl
  · left
    simp only [State.freeze, State.buf, apply_ite State.hist, apply_ite Histograms.bufs, State.setBuf_hist, ite_self,
      Map.get_set_ne _ _ _ hi]

theorem State.buf_congr {u s : State} (h : u.hist = s.hist) (i : Nat) : u.buf i = s.buf i := by
  rw [State.buf, State.buf, h]

theorem State.maskViolation_st (s : State) (k : Column) (c : Nat) (full : Bool) (v : List (Nat × Bool × Bool)) (i : Nat) :
    ((s.maskViolation k c full v).buf i).st = (s.buf i).st ∨ ((s.maskViolation k c full v).buf i).st = .frozen := by
  have hlive := State.buf_congr (s.liveWrap_hist (P.MASK_COUNTS.VIOLATIONS.idx (c / 32)) 1) i
  unfold State.maskViolation
  dsimp only
  rw [State.buf_congr (State.recEvent_hist _ _ _), State.buf_congr (State.record_hist _ _ _ _ _ _)]
  refine iteInduction (motive := fun u : State => (u.buf i).st = (s.buf i).st ∨ (u.buf i).st = .frozen)
    (fun _ => ?_) (fun _ => .inl ?_)
  · rw [State.buf_congr (State.liveWrap_hist _ _ _), ← hlive]
    exact State.freeze_st _ _ _ i
  · rw [State.buf_congr (State.withCol_hist _ _ _ _), ← hlive]
    rfl

/-- A mask test leaves a buffer's state, or freezes it (R190). -/
theorem State.maskTest_st (s : State) (k : Column) (c : Nat) (t : Track) (i : Nat) :
    ((s.maskTest k c t).buf i).st = (s.buf i).st ∨ ((s.maskTest k c t).buf i).st = .frozen := by
  unfold State.maskTest
  dsimp only
  split
  · exact .inl rfl
  · refine iteInduction (motive := fun u : State => (u.buf i).st = (s.buf i).st ∨ (u.buf i).st = .frozen) (fun _ => ?_)
      (fun _ => .inl rfl)
    exact iteInduction (motive := fun u : State => (u.buf i).st = (s.buf i).st ∨ (u.buf i).st = .frozen)
      (fun _ => State.maskViolation_st _ _ _ _ _ i) (fun _ => .inl rfl)

theorem State.extract_hist (s : State) (k : Column) (c : Nat) (t : Track) (poison : Bool) :
    (s.extract k c t poison).hist = s.hist := by
  simp only [State.extract, State.withCluster, State.withSup, apply_ite State.hist, State.withCol_hist, State.liveWrap_hist,
    ite_self]

/-! ### PIPE_CHANNEL_READ -/

/-- A channel's slot of a column begins at its time: the column's events enter their bins and the slot is marked (R27). -/
def State.slotBegun (s : State) (c : Nat) (k : Column) : State :=
  ((s.at_ (k.handoff.getD 0 + 256 * (c % 32 + 1))).binAll c k).withCol k.frame k.seq fun x =>
    { x with piped := Map.modify 0 x.piped (c / 32) (· + 2 ^ (c % 32)) }

theorem State.slotBegun_offRanging (s : State) (c : Nat) (k : Column) :
    (s.slotBegun c k).offRanging = (s.at_ (k.handoff.getD 0 + 256 * (c % 32 + 1))).offRanging := by
  simp only [State.slotBegun, State.withCol_offRanging, Column.bare_mk, implies_true, State.binAll_offRanging]

theorem State.slotBegun_slot (s : State) (c : Nat) (k : Column) (i : Nat) : (s.slotBegun c k).slot i = s.slot i :=
  calc (s.slotBegun c k).slot i
    _ = ((s.at_ (k.handoff.getD 0 + 256 * (c % 32 + 1))).binAll c k).slot i :=
        State.slot_congr (congrArg Histograms.bufs (State.withCol_hist _ _ _ _)) i
    _ = (s.at_ (k.handoff.getD 0 + 256 * (c % 32 + 1))).slot i := State.binAll_slot _ _ _ _
    _ = s.slot i := State.slot_congr rfl i

/-- PIPE_CHANNEL_READ of a buffer that holds another column. -/
theorem exec_pipeChannelRead_passed {s : State} {c : Nat} {k : Column} (ha : s.Awake) (hc : c < 384) (hk : s.pipeCol c = some k)
    (hp : Map.get 0 k.piped (c / 32) % 2 ^ (c % 32) = 2 ^ (c % 32) - 1)
    (hb : (s.buf (2 * c + k.seq % 2)).content.frame ≠ k.frame) : exec (.pipeChannelRead c) s = .next (s.slotBegun c k) := by
  have he : exec (.pipeChannelRead c) s = execPipeChannelRead c s := rfl
  have hcontent : ((s.slotBegun c k).buf (2 * c + k.seq % 2)).content = (s.buf (2 * c + k.seq % 2)).content :=
    congrArg Prod.snd (s.slotBegun_slot c k _)
  rw [he, execPipeChannelRead, if_neg (by simp [ha]), if_neg (by omega)]
  simp only [hk, hp, ne_eq, not_true_eq_false, if_false]
  refine if_neg fun h => hb ?_
  rw [← hcontent]
  exact h.2.1

/-- PIPE_CHANNEL_READ of a buffer that holds the column: the buffer is read, tested and its candidates extracted. -/
theorem exec_pipeChannelRead_read {s : State} {c : Nat} {k : Column} (ha : s.Awake) (hc : c < 384) (hk : s.pipeCol c = some k)
    (hp : Map.get 0 k.piped (c / 32) % 2 ^ (c % 32) = 2 ^ (c % 32) - 1) (hst : (s.buf (2 * c + k.seq % 2)).st ≠ .filling)
    (hf : (s.buf (2 * c + k.seq % 2)).content.frame = k.frame) (hq : (s.buf (2 * c + k.seq % 2)).content.seq = k.seq) :
    ∃ (v : State) (b : Buf) (t : Track) (poison : Bool), v.offRanging = (s.slotBegun c k).offRanging ∧ b.st ≠ .handed ∧
      exec (.pipeChannelRead c) s = .next (((v.setBuf (2 * c + k.seq % 2) b).maskTest k c t).extract k c t poison) := by
  have he : exec (.pipeChannelRead c) s = execPipeChannelRead c s := rfl
  have hslot := s.slotBegun_slot c k (2 * c + k.seq % 2)
  have hcontent : ((s.slotBegun c k).buf (2 * c + k.seq % 2)).content = (s.buf (2 * c + k.seq % 2)).content :=
    congrArg Prod.snd hslot
  have hcond : ((s.slotBegun c k).buf (2 * c + k.seq % 2)).st ≠ .filling ∧
      ((s.slotBegun c k).buf (2 * c + k.seq % 2)).content.frame = k.frame ∧
      ((s.slotBegun c k).buf (2 * c + k.seq % 2)).content.seq = k.seq := by
    rw [hcontent]
    exact ⟨fun h => hst ((congrArg Prod.fst hslot).symm.trans h), hf, hq⟩
  rw [he, execPipeChannelRead, if_neg (by simp [ha]), if_neg (by omega)]
  simp only [hk, hp, ne_eq, not_true_eq_false, if_false]
  refine ⟨((s.slotBegun c k).readTrack c (k.seq % 2) k.frame).2, _, _, _, State.readTrack_offRanging _ _ _ _, ?_, if_pos hcond⟩
  split
  · exact fun h => nomatch h
  · assumption

/-- A slot whose buffer holds the column leaves it no longer HANDED, and beside that works on the ranging chain alone. -/
theorem pipeChannelRead_read {s : State} {c : Nat} {k : Column} (ha : s.Awake) (hc : c < 384) (hk : s.pipeCol c = some k)
    (hp : Map.get 0 k.piped (c / 32) % 2 ^ (c % 32) = 2 ^ (c % 32) - 1) (hst : (s.buf (2 * c + k.seq % 2)).st ≠ .filling)
    (hf : (s.buf (2 * c + k.seq % 2)).content.frame = k.frame) (hq : (s.buf (2 * c + k.seq % 2)).content.seq = k.seq) :
    ∃ u, exec (.pipeChannelRead c) s = .next u ∧ (u.buf (2 * c + k.seq % 2)).st ≠ .handed ∧
      u.offRanging = (s.at_ (k.handoff.getD 0 + 256 * (c % 32 + 1))).offRanging := by
  obtain ⟨v, b, t, poison, hv, hb, hu⟩ := exec_pipeChannelRead_read ha hc hk hp hst hf hq
  refine ⟨_, hu, ?_, ?_⟩
  · have hset : ((v.setBuf (2 * c + k.seq % 2) b).buf (2 * c + k.seq % 2)).st = b.st := by simp [State.buf]
    rw [State.buf_congr (State.extract_hist _ _ _ _ _)]
    rcases State.maskTest_st (v.setBuf (2 * c + k.seq % 2) b) k c t (2 * c + k.seq % 2) with h | h
    · rw [h, hset]
      exact hb
    · rw [h]
      exact fun h => nomatch h
  · rw [State.extract_offRanging, State.maskTest_offRanging, State.setBuf_offRanging, hv, State.slotBegun_offRanging]

/-! ### Markers and the cluster's order -/

theorem Map.get_modify_self {α : Type} [DecidableEq α] (d : α) (m : SMap α) (n : Nat) (f : α → α) :
    Map.get d (Map.modify d m n f) n = f (Map.get d m n) := Map.get_set_self d m n _

theorem Map.get_modify_ne {α : Type} [DecidableEq α] (d : α) (m : SMap α) {n j : Nat} (f : α → α) (h : j ≠ n) :
    Map.get d (Map.modify d m n f) j = Map.get d m j := Map.get_set_ne d m _ h

theorem State.cluster_withCluster_self (s : State) (k : Nat) (f : Cluster → Cluster) :
    (s.withCluster k f).cluster k = f (s.cluster k) := Map.get_set_self _ _ _ _

/-- Two changes of a column, the first of which leaves its frame and sequence number. -/
theorem State.withCol_withCol (s : State) (frame seq : Nat) {f : Column → Column} (g : Column → Column)
    (h : ∀ c, (f c).frame = c.frame ∧ (f c).seq = c.seq) :
    (s.withCol frame seq f).withCol frame seq g = s.withCol frame seq fun c => g (f c) := by
  have hm : (s.scan.columns.map fun c => if c.frame = frame ∧ c.seq = seq then f c else c).map
        (fun c => if c.frame = frame ∧ c.seq = seq then g c else c) =
      s.scan.columns.map fun c => if c.frame = frame ∧ c.seq = seq then g (f c) else c := by
    rw [List.map_map]
    refine List.map_congr_left fun c _ => ?_
    by_cases hc : c.frame = frame ∧ c.seq = seq <;> simp [hc, h]
  simp only [State.withCol, hm]

/-- A marker at the head of a cluster's order goes to the region's queue. -/
theorem State.markersOut_marker (s : State) (cl : Nat) (m : EndMarker) (l : List QueueRec) :
    s.markersOut cl (.marker m :: l) = (s.markerOut m).markersOut cl l := rfl

/-- Behind a head that is no marker the cluster's order waits. -/
theorem State.markersOut_of_head (s : State) (cl : Nat) {l : List QueueRec} (h : ∀ m, l.head? ≠ some (.marker m)) :
    s.markersOut cl l = s.withCluster cl fun x => { x with solver := l } := by
  match l with
  | [] => rfl
  | .marker m :: l => exact absurd rfl (h m)
  | .cand c :: l => rfl

theorem State.fadeEnd_frame (s : State) (cl : Nat) :
    { s.fadeEnd cl with clusters := s.clusters, farrier := s.farrier } = s := by
  unfold State.fadeEnd
  dsimp only
  split <;> rfl

theorem Cluster.endFade_solver (c : Cluster) : c.endFade.solver = c.solver := by
  unfold Cluster.endFade
  split
  · split <;> rfl
  · rfl

theorem State.fadeEnd_solver (s : State) (cl : Nat) : ((s.fadeEnd cl).cluster cl).solver = (s.cluster cl).solver := by
  unfold State.fadeEnd
  dsimp only
  split
  · exact (congrArg Cluster.solver (s.cluster_withCluster_self cl _)).trans (Cluster.endFade_solver _)
  · rfl

theorem State.get_toQueue_self (s : State) (r : Nat) (x : QueueRec) :
    Map.get [] (s.toQueue r x).evoth.queues r = Map.get [] s.evoth.queues r ++ [x] :=
  Map.get_modify_self [] s.evoth.queues r (· ++ [x])

/-! ### COLUMN_END_MARKER -/

/-- The pipe of a cluster has ended a column at its marker's time (R117). -/
def State.pipeEnded (s : State) (cl : Nat) (k : Column) : State :=
  (s.at_ (k.markerTime cl)).withCol k.frame k.seq fun x => { x with ended := x.ended + 2 ^ cl }

theorem exec_columnEndMarker {s : State} {cl : Nat} {k : Column} (ha : s.Awake) (hc : cl < 12)
    (hk : s.scan.columns.find? (fun k => k.handoff.isSome && !bitOf k.ended cl) = some k)
    (hp : Map.get 0 k.piped cl = 2 ^ 32 - 1) : exec (.columnEndMarker cl) s =
      .next (((s.pipeEnded cl k).markersOut cl ((s.cluster cl).solver ++ [.marker (k.endMarker cl)])).fadeEnd cl) := by
  have he : exec (.columnEndMarker cl) s = execColumnEndMarker cl s := rfl
  rw [he, execColumnEndMarker, if_neg (by simp [ha]), if_neg (by omega)]
  simp only [hk, if_pos hp]
  rfl

/-- With no candidate before it the marker goes straight to the region's queue. -/
theorem columnEndMarker_empty {s : State} {cl : Nat} {k : Column} (ha : s.Awake) (hc : cl < 12)
    (hk : s.scan.columns.find? (fun k => k.handoff.isSome && !bitOf k.ended cl) = some k)
    (hp : Map.get 0 k.piped cl = 2 ^ 32 - 1) (hs : (s.cluster cl).solver = []) : ∃ u,
      exec (.columnEndMarker cl) s = .next u ∧
      u.scan.columns = s.scan.columns.map (fun x => if x.frame = k.frame ∧ x.seq = k.seq then
        { x with ended := x.ended + 2 ^ cl, markers := x.markers + 2 ^ cl } else x) ∧
      Map.get [] u.evoth.queues (cl / 3) = Map.get [] s.evoth.queues (cl / 3) ++ [.marker (k.endMarker cl)] ∧
      { u with scan := s.scan, clusters := s.clusters, farrier := s.farrier, evoth := s.evoth } = s.at_ (k.markerTime cl) := by
  have hu := exec_columnEndMarker ha hc hk hp
  rw [hs] at hu
  have hframe := State.fadeEnd_frame ((s.pipeEnded cl k).markersOut cl [.marker (k.endMarker cl)]) cl
  refine ⟨_, hu, ?_, ?_, ?_⟩
  · have hcols := State.withCol_withCol (s.at_ (k.markerTime cl)) k.frame k.seq
      (f := fun x => { x with ended := x.ended + 2 ^ cl }) (fun x => { x with markers := x.markers + 2 ^ cl })
      fun _ => ⟨rfl, rfl⟩
    exact (congrArg (fun s : State => s.scan.columns) hframe).trans (congrArg (fun s : State => s.scan.columns) hcols)
  · exact (congrArg (fun s : State => Map.get [] s.evoth.queues (cl / 3)) hframe).trans
      ((s.pipeEnded cl k).get_toQueue_self (cl / 3) (.marker (k.endMarker cl)))
  · exact congrArg (fun x : State => { x with
      scan := s.scan, clusters := s.clusters, farrier := s.farrier, evoth := s.evoth }) hframe

/-- Behind a candidate the marker waits in the cluster's order. -/
theorem columnEndMarker_waiting {s : State} {cl : Nat} {k : Column} {c : Cand} {l : List QueueRec} (ha : s.Awake) (hc : cl < 12)
    (hk : s.scan.columns.find? (fun k => k.handoff.isSome && !bitOf k.ended cl) = some k)
    (hp : Map.get 0 k.piped cl = 2 ^ 32 - 1) (hs : (s.cluster cl).solver = .cand c :: l) : ∃ u,
      exec (.columnEndMarker cl) s = .next u ∧
      (u.cluster cl).solver = .cand c :: l ++ [.marker (k.endMarker cl)] ∧
      u.scan.columns = s.scan.columns.map (fun x => if x.frame = k.frame ∧ x.seq = k.seq then
        { x with ended := x.ended + 2 ^ cl } else x) ∧
      { u with scan := s.scan, clusters := s.clusters, farrier := s.farrier } = s.at_ (k.markerTime cl) := by
  have hu := exec_columnEndMarker ha hc hk hp
  rw [hs, State.markersOut_of_head _ _ (by simp)] at hu
  have hframe := State.fadeEnd_frame
    ((s.pipeEnded cl k).withCluster cl fun x => { x with solver := .cand c :: l ++ [.marker (k.endMarker cl)] }) cl
  refine ⟨_, hu, ?_, congrArg (fun s : State => s.scan.columns) hframe, ?_⟩
  · rw [State.fadeEnd_solver, State.cluster_withCluster_self]
  · exact congrArg (fun x : State => { x with scan := s.scan, clusters := s.clusters, farrier := s.farrier }) hframe

/-! ### MOMENT_SOLVE -/

/-- The device but for what the observers of a solved candidate keep of it: the cluster's evaluator, Farrier, the adaptation and
the peaks. -/
def State.offObservers (s : State) : State :=
  { s with farrier := {}, emit_ := {}, evoth := { s.evoth with peaks := [] }, sup := { s.sup with cEv := [], minH := [] } }

theorem State.offObservers_mk (s : State) (farrier emit) :
    State.offObservers { s with farrier := farrier, emit_ := emit } = s.offObservers := id rfl

theorem State.withSup_offObservers (s : State) (cEv : Supervisor → SMap Nat) (minH : Supervisor → SMap Nat) :
    (s.withSup fun u => { u with cEv := cEv u, minH := minH u }).offObservers = s.offObservers := id rfl

theorem State.paddockCount_offObservers (s : State) (c : Cand) (index : Nat) :
    (s.paddockCount c index).offObservers = s.offObservers := by
  unfold State.paddockCount
  dsimp only
  split
  · refine forUpto_keeps State.offObservers _ _ _ fun p s => ?_
    split
    · exact State.withSup_offObservers _ _ _
    · rfl
  · rfl

theorem State.gatherCand_offObservers (s : State) (cl : Nat) (c : Cand) : (s.gatherCand cl c).offObservers = s.offObservers := by
  simp only [State.gatherCand, State.withFar, apply_ite State.offObservers, State.offObservers_mk, ite_self]

theorem State.edgeCand_offObservers (s : State) (k : Column) (c : Cand) : (s.edgeCand k c).offObservers = s.offObservers := by
  unfold State.edgeCand
  dsimp only
  split
  · split <;> simp only [State.withFar, apply_ite State.offObservers, State.offObservers_mk, ite_self]
  · rfl

theorem State.satColumn_offObservers (s : State) (c : Cand) : (s.satColumn c).offObservers = s.offObservers := by
  simp only [State.satColumn, State.setCharger, apply_ite State.offObservers, State.offObservers_mk, ite_self]

/-- A candidate reaches the interval engine's queue. -/
def State.engineQueued (s : State) (c : Cand) (index : Nat) : State :=
  s.withSup fun u => { u with engineQ := u.engineQ ++ [(c, index)] }

theorem State.engineQueued_offObservers {u s : State} (h : u.offObservers = s.offObservers) (c : Cand) (index : Nat) :
    (u.engineQueued c index).offObservers = (s.engineQueued c index).offObservers :=
  congrArg (fun s : State => s.engineQueued c index) h

/-- A candidate of the column `k` reaches its region's queue at its time, and the markers behind it follow (R28, R117). -/
def State.candOut (s : State) (cl : Nat) (k : Column) (c : Cand) (rest : List QueueRec) : State :=
  ((s.at_ (k.handoff.getD 0 + 256 * (c.channel % 32 + 1) + 104 + c.cand)).toQueue (c.channel / 96) (.cand c)).markersOut cl rest

/-- With no marker next the cluster's order moves on by the candidate. -/
theorem State.candOut_of_head {l : List QueueRec} (h : ∀ m, l.head? ≠ some (.marker m)) (s : State) (cl : Nat) (k : Column)
    (c : Cand) : ((s.candOut cl k c l).cluster cl).solver = l ∧
      Map.get [] (s.candOut cl k c l).evoth.queues (c.channel / 96) =
        Map.get [] s.evoth.queues (c.channel / 96) ++ [.cand c] ∧
      (s.candOut cl k c l).sup = s.sup ∧ (s.candOut cl k c l).scan = s.scan ∧ (s.candOut cl k c l).nv = s.nv := by
  rw [State.candOut, State.markersOut_of_head _ _ h]
  refine ⟨?_, State.get_toQueue_self (s.at_ _) (c.channel / 96) (.cand c), rfl, rfl, rfl⟩
  rw [State.cluster_withCluster_self]

/-- A marker right behind the candidate, the last of the order, follows it into the queue of their region. -/
theorem State.candOut_marker {c : Cand} {m : EndMarker} (h : m.cluster / 3 = c.channel / 96) (s : State) (cl : Nat) (k : Column) :
    ((s.candOut cl k c [.marker m]).cluster cl).solver = [] ∧
      Map.get [] (s.candOut cl k c [.marker m]).evoth.queues (c.channel / 96) =
        Map.get [] s.evoth.queues (c.channel / 96) ++ [.cand c, .marker m] ∧
      (s.candOut cl k c [.marker m]).sup = s.sup ∧ (s.candOut cl k c [.marker m]).nv = s.nv := by
  rw [State.candOut, State.markersOut_marker, State.markersOut_of_head _ _ (by simp), State.markerOut, h]
  refine ⟨?_, ?_, rfl, rfl⟩
  · rw [State.cluster_withCluster_self]
  · refine (State.get_toQueue_self _ (c.channel / 96) (.marker m)).trans ?_
    rw [State.get_toQueue_self, State.at_evoth, List.append_assoc]
    rfl

/-- MOMENT_SOLVE sends the solved candidate to its region's queue and to the interval engine; beside that only its observers
change. -/
theorem exec_momentSolve {s : State} {cl : Nat} {c : Cand} {l : List QueueRec} {k : Column} (ha : s.Awake)
    (hs : (s.cluster cl).solver = .cand c :: l)
    (hk : s.scan.columns.find? (fun k => decide (k.frame = c.frame ∧ k.seq = c.seq)) = some k) : ∃ u,
      exec (.momentSolve cl) s = .next u ∧
      u.offObservers = ((s.candOut cl k c.solve l).engineQueued c.solve k.index).offObservers := by
  have he : exec (.momentSolve cl) s = execMomentSolve cl s := rfl
  have hk' : s.scan.columns.find? (fun k => decide (k.frame = c.solve.frame ∧ k.seq = c.solve.seq)) = some k := hk
  rw [he, execMomentSolve, if_neg (by simp [ha])]
  simp only [hs, hk']
  refine ⟨_, rfl, ?_⟩
  rw [State.satColumn_offObservers, State.edgeCand_offObservers, State.gatherCand_offObservers]
  exact State.engineQueued_offObservers (State.paddockCount_offObservers _ _ _) _ _

/-! ### INTERVAL_ENGINE_CANDIDATE -/

/-- `u` is `s` with the interval engine's counts of the Paddocks below `n` raised by one or as they were (R319). -/
structure State.Counted (n : Nat) (u s : State) : Prop where
  frame : { u with sup := s.sup, fresh := s.fresh } = s
  sup : { u.sup with cSv := s.sup.cSv } = s.sup
  once : ∀ p, Map.get 0 s.sup.cSv p ≤ Map.get 0 u.sup.cSv p ∧ Map.get 0 u.sup.cSv p ≤ Map.get 0 s.sup.cSv p + 1
  ahead : ∀ p, n ≤ p → Map.get 0 u.sup.cSv p = Map.get 0 s.sup.cSv p

theorem State.Counted.refl (s : State) : State.Counted 0 s s :=
  ⟨rfl, rfl, fun _ => ⟨le_rfl, Nat.le_succ _⟩, fun _ _ => rfl⟩

theorem State.Counted.succ {n : Nat} {u s : State} (h : State.Counted n u s) : State.Counted (n + 1) u s :=
  ⟨h.frame, h.sup, h.once, fun p hp => h.ahead p (Nat.le_of_succ_le hp)⟩

theorem State.Counted.draw {n : Nat} {u s : State} (h : State.Counted n u s) (w : Nat) : State.Counted n (u.draw w).2 s :=
  ⟨h.frame, h.sup, h.once, h.ahead⟩

/-- The Paddock `n` is counted. -/
theorem State.Counted.count {n : Nat} {u s : State} (h : State.Counted n u s) :
    State.Counted (n + 1) (u.withSup fun x => { x with cSv := Map.modify 0 x.cSv n (· + 1) }) s := by
  have hget : ∀ p, Map.get 0 (Map.modify 0 u.sup.cSv n (· + 1)) p =
      if p = n then Map.get 0 s.sup.cSv n + 1 else Map.get 0 u.sup.cSv p := by
    intro p
    split
    · next hp => rw [hp, Map.get_modify_self, h.ahead n le_rfl]
    · next hp => exact Map.get_modify_ne _ _ _ hp
  refine ⟨h.frame, h.sup, fun p => ?_, fun p hp => ?_⟩
  · refine (hget p).symm ▸ ?_
    split
    · next hp => exact hp ▸ ⟨Nat.le_succ _, le_rfl⟩
    · exact h.once p
  · exact (hget p).trans ((if_neg (by omega)).trans (h.ahead p (by omega)))

/-- What a repeated operation keeps, with the number of rounds done. -/
theorem forUpto_induction {σ : Type} {P : Nat → σ → Prop} {f : Nat → σ → σ} (h : ∀ i s, P i s → P (i + 1) (f i s)) (n : Nat)
    {s : σ} (h0 : P 0 s) : P n (forUpto n f s) := by
  induction n with
  | zero => exact h0
  | succ n ih =>
    rw [forUpto, List.range_succ, List.foldl_append]
    exact h n _ ih

/-- The interval engine counts a candidate at most once for each Paddock. -/
theorem State.engineCount_counted (s : State) (c : Cand) (index : Nat) :
    ∃ n, State.Counted n (s.engineCount c index) s := by
  unfold State.engineCount
  dsimp only
  split
  · refine ⟨16, forUpto_induction (P := fun n u => State.Counted n u s) (fun p u h => ?_) 16 (State.Counted.refl s)⟩
    split
    · split
      · exact h.count
      · split
        · split
          · exact (h.draw 1).count
          · exact (h.draw 1).succ
        · exact h.succ
    · exact h.succ
  · exact ⟨0, State.Counted.refl s⟩

theorem exec_intervalEngineCandidate {s : State} {t : Nat} {c : Cand} {k : Nat} {l : List (Cand × Nat)} (ha : s.Awake)
    (hq : s.sup.engineQ = (c, k) :: l) : exec (.intervalEngineCandidate t) s =
      .next (((s.at_ t).withSup fun u => { u with engineQ := l }).engineCount c k) := by
  have he : exec (.intervalEngineCandidate t) s = execIntervalEngineCandidate t s := rfl
  have hq' : (s.at_ t).sup.engineQ = (c, k) :: l := hq
  rw [he, execIntervalEngineCandidate, if_neg (by simp [ha])]
  simp only [hq']

/-- Settles O17: each command's effect by its equation above, the rest of the device by the frame of what it works on, and the
interval engine's counts by its invariant over the Paddocks. -/
theorem extractionPipe : Obligations.ExtractionPipe := by
  unfold Obligations.ExtractionPipe
  refine ⟨fun s c k ha hc hk hp hacc hb => ?_, fun s c k ha hc hk hp hst hf hq => ?_,
    fun s cl k ha hc hk hp hs => columnEndMarker_empty ha hc hk hp hs, fun s cl c l k ha hs hl hk => ?_,
    fun s t c k l ha hq => ?_, fun s cl k c l ha hc hk hp hs => columnEndMarker_waiting ha hc hk hp hs,
    fun s cl c m k ha hs hm hk => ?_⟩
  · rw [exec_pipeChannelRead_passed ha hc hk hp hb, State.slotBegun, State.binAll_of_none hacc]
  · have hfill : (s.buf (2 * c + k.seq % 2)).st ≠ .filling := by
      rw [hst]
      exact fun h => nomatch h
    obtain ⟨u, hu, hbuf, hoff⟩ := pipeChannelRead_read ha hc hk hp hfill hf hq
    exact ⟨u, hu, of_frame hoff State.now, hbuf, of_frame hoff State.ident, of_frame hoff State.nv, of_frame hoff State.emit_,
      of_frame hoff State.mirror⟩
  · obtain ⟨u, hu, hoff⟩ := exec_momentSolve ha hs hk
    obtain ⟨hsolver, hqueue, hsup, hscan, hnv⟩ := s.candOut_of_head hl cl k c.solve
    generalize s.candOut cl k c.solve l = v at hoff hsolver hqueue hsup hscan hnv
    exact ⟨u, hu, (of_frame hoff fun s => (s.cluster cl).solver).trans hsolver,
      (of_frame hoff fun s => Map.get [] s.evoth.queues (c.channel / 96)).trans hqueue,
      (of_frame hoff fun s => s.sup.engineQ).trans (congrArg (fun u : Supervisor => u.engineQ ++ [(c.solve, k.index)]) hsup),
      (of_frame hoff State.scan).trans hscan, (of_frame hoff State.nv).trans hnv⟩
  · obtain ⟨n, hcount⟩ := ((s.at_ t).withSup fun u => { u with engineQ := l }).engineCount_counted c k
    refine ⟨_, exec_intervalEngineCandidate ha hq, (congrArg Supervisor.engineQ hcount.sup :),
      (congrArg Supervisor.cEv hcount.sup :),
      hcount.once, ?_⟩
    exact congrArg (fun x : State => { x with sup := s.sup }) hcount.frame
  · obtain ⟨u, hu, hoff⟩ := exec_momentSolve ha hs hk
    obtain ⟨hsolver, hqueue, hsup, hnv⟩ := State.candOut_marker (c := c.solve) hm s cl k
    generalize s.candOut cl k c.solve [.marker m] = v at hoff hsolver hqueue hsup hnv
    exact ⟨u, hu, (of_frame hoff fun s => (s.cluster cl).solver).trans hsolver,
      (of_frame hoff fun s => Map.get [] s.evoth.queues (c.channel / 96)).trans hqueue,
      (of_frame hoff fun s => s.sup.engineQ).trans (congrArg (fun u : Supervisor => u.engineQ ++ [(c.solve, k.index)]) hsup),
      (of_frame hoff State.nv).trans hnv⟩

end Sys2Proof.Machine
end

section
/-! PROOFS. The words of FIELD (R37): what leaves them as they are. -/
namespace Sys2Proof.Machine

/-- The two words of FIELD: as the host has written it, and as it is in force. -/
def State.fieldWords (s : State) : Word × Word := (s.reg K.FIELD, planeGet s.force K.FIELD)

/-- Devices with the same words of FIELD hold the same W. -/
theorem State.fld_of_fieldWords {u s : State} (h : u.fieldWords = s.fieldWords) : u.fld P.FIELD.W = s.fld P.FIELD.W :=
  congrArg (fun x : Word × Word => wordFld x.1 P.FIELD.W) h

/-- They have the same W in force. -/
theorem State.fieldW_of_fieldWords {u s : State} (h : u.fieldWords = s.fieldWords) : u.fieldW = s.fieldW :=
  congrArg (fun x : Word × Word => wordFld x.2 P.FIELD.W) h

/-- An update of parts that hold no parameters. -/
theorem State.fieldWords_mk (s : State) (recs hist clusters evoth fe farrier host) :
    State.fieldWords { s with
      recs := recs, hist := hist, clusters := clusters, evoth := evoth, fe := fe, farrier := farrier, host := host } =
      s.fieldWords := id rfl

section
variable (s : State)

theorem State.at_fieldWords (t : Nat) : (s.at_ t).fieldWords = s.fieldWords := id rfl
theorem State.emit_fieldWords (o : Out) : (s.emit o).fieldWords = s.fieldWords := id rfl
theorem State.setLive_fieldWords (f : FieldRef) (v : Nat) : (s.setLive f v).fieldWords = s.fieldWords := id rfl
theorem State.liveWrap_fieldWords (f : FieldRef) (n : Nat) : (s.liveWrap f n).fieldWords = s.fieldWords := id rfl
theorem State.withRec_fieldWords (f : Recorder → Recorder) : (s.withRec f).fieldWords = s.fieldWords := id rfl
theorem State.withScan_fieldWords (f : Scan → Scan) : (s.withScan f).fieldWords = s.fieldWords := id rfl
theorem State.withMir_fieldWords (f : Mirror → Mirror) : (s.withMir f).fieldWords = s.fieldWords := id rfl
theorem State.withFar_fieldWords (f : Farrier → Farrier) : (s.withFar f).fieldWords = s.fieldWords := id rfl
theorem State.withSup_fieldWords (f : Supervisor → Supervisor) : (s.withSup f).fieldWords = s.fieldWords := id rfl
theorem State.withPower_fieldWords (f : Power → Power) : (s.withPower f).fieldWords = s.fieldWords := id rfl
theorem State.withStamp_fieldWords (f : Stamping → Stamping) : (s.withStamp f).fieldWords = s.fieldWords := id rfl
theorem State.withLane_fieldWords (l : Nat) (f : LanePhy → LanePhy) : (s.withLane l f).fieldWords = s.fieldWords := id rfl
theorem State.withStream_fieldWords (r : Nat) (f : Stream → Stream) : (s.withStream r f).fieldWords = s.fieldWords := id rfl
theorem State.setCharger_fieldWords (k : Nat) (c : Charger) : (s.setCharger k c).fieldWords = s.fieldWords := id rfl
theorem State.setChan_fieldWords (c : Nat) (d : DmaChan) : (s.setChan c d).fieldWords = s.fieldWords := id rfl
theorem State.draw_fieldWords (w : Nat) : (s.draw w).2.fieldWords = s.fieldWords := id rfl
end

theorem State.forEach_fieldWords {ι : Type} (l : List ι) (f : ι → State → State) (s : State)
    (h : ∀ i ∈ l, ∀ s, (f i s).fieldWords = s.fieldWords) : (forEach l f s).fieldWords = s.fieldWords :=
  List.foldlRecOn (motive := fun u => u.fieldWords = s.fieldWords) l (fun a i => f i a) rfl fun u hu i hi => (h i hi u).trans hu

theorem State.forUpto_fieldWords (n : Nat) (f : Nat → State → State) (s : State)
    (h : ∀ i s, (f i s).fieldWords = s.fieldWords) : (forUpto n f s).fieldWords = s.fieldWords :=
  forUpto_keeps State.fieldWords n f s h

/-! ### Other parameters -/

/-- A field of a parameter after FIELD: so is every one of a table that begins after it. -/
def FieldRef.afterField (f : FieldRef) : Bool := decide (K.FIELD < f.key)

theorem FieldRef.afterField_idx {f : FieldRef} (i : Nat) (h : f.afterField = true) : (f.idx i).afterField = true := by
  rw [FieldRef.afterField, decide_eq_true_eq] at h ⊢
  exact Nat.lt_add_right i h

theorem FieldRef.afterField_sub {f : FieldRef} (i step : Nat) (h : f.afterField = true) : (f.sub i step).afterField = true := h

theorem FieldRef.afterField_bitAt {f : FieldRef} (i : Nat) (h : f.afterField = true) : (f.bitAt i).afterField = true := h

theorem FieldRef.afterField_mk {key : Nat} (hi lo : Nat) (h : K.FIELD < key) : (FieldRef.mk key hi lo).afterField = true :=
  decide_eq_true h

theorem State.setReg_fieldWords (s : State) {key : Nat} (w : Word) (h : key ≠ K.FIELD) :
    (s.setReg key w).fieldWords = s.fieldWords :=
  Prod.ext (s.reg_setReg_ne w h.symm) rfl

theorem State.setFld_fieldWords (s : State) {f : FieldRef} (v : Nat) (h : f.afterField = true) :
    (s.setFld f v).fieldWords = s.fieldWords :=
  s.setReg_fieldWords _ (Nat.ne_of_gt (of_decide_eq_true h))

theorem State.setFldI_fieldWords (s : State) {f : FieldRef} (v : Int) (h : f.afterField = true) :
    (s.setFldI f v).fieldWords = s.fieldWords := s.setFld_fieldWords _ h

theorem State.addWrap_fieldWords (s : State) {f : FieldRef} (n : Nat) (h : f.afterField = true) :
    (s.addWrap f n).fieldWords = s.fieldWords := s.setFld_fieldWords _ h

theorem State.addSat_fieldWords (s : State) {f : FieldRef} (n : Nat) (h : f.afterField = true) :
    (s.addSat f n).fieldWords = s.fieldWords := s.setFld_fieldWords _ h

theorem State.setFlag_fieldWords (s : State) {f : FieldRef} (h : f.afterField = true) :
    (s.setFlag f).fieldWords = s.fieldWords := s.setFld_fieldWords 1 h

theorem State.snapshot_fieldWords (s : State) {key : Nat} (h : key ≠ K.FIELD) : (s.snapshot key).fieldWords = s.fieldWords :=
  s.setReg_fieldWords _ h

theorem State.takeForce_fieldWords (s : State) {key : Nat} (h : key ≠ K.FIELD) : (s.takeForce key).fieldWords = s.fieldWords :=
  Prod.ext rfl (planeGet_planeSet_ne s.force _ h.symm)

/-! ### Records -/

theorem State.recEvent_fieldWords (s : State) (kind cluster : Nat) : (s.recEvent kind cluster).fieldWords = s.fieldWords := by
  unfold State.recEvent
  dsimp only
  split
  · rfl
  · exact (State.withRec_fieldWords _ _).trans (s.draw_fieldWords 16)

theorem State.queueNotice_fieldWords (s : State) (r : Record) (n : Nat) : (s.queueNotice r n).fieldWords = s.fieldWords := by
  unfold State.queueNotice
  split <;> rfl

theorem State.logRecord_fieldWords (s : State) (r : Record) (n : Nat) : (s.logRecord r n).fieldWords = s.fieldWords := by
  unfold State.logRecord
  split
  · rfl
  · exact State.addWrap_fieldWords _ 1 (by decide)

theorem State.record_fieldWords (s : State) (kind cls : Nat) (log notice : Bool) (data : List Byte) :
    (s.record kind cls log notice data).fieldWords = s.fieldWords := by
  cases log <;> cases notice <;>
    simp (disch := decide) only [State.record, if_true, Bool.false_eq_true, if_false, State.queueNotice_fieldWords,
      State.recEvent_fieldWords, State.logRecord_fieldWords, State.fieldWords_mk, State.setFld_fieldWords]

end Sys2Proof.Machine
end

section
/-! PROOFS. A host write that the checks refuse (R384, R411), and a write of W (R37). -/
namespace Sys2Proof.Machine

/-- An ignored BAR0 write enters the fault log and leaves FIELD. -/
theorem State.bar0Ignored_fieldWords (s : State) (offset : Nat) : (s.bar0Ignored offset).fieldWords = s.fieldWords :=
  (State.setFlag_fieldWords _ (by decide)).trans (s.record_fieldWords _ _ _ _ _)

theorem State.bar0Ignored_unlogged (s : State) (offset : Nat) : (s.bar0Ignored offset).unlogged = s.unlogged :=
  (State.setFlag_unlogged _ _).trans (s.record_unlogged _ _ _ _ _)

section
variable {s : State} {key : Nat} {h : HostWrite} {f : FieldRef} {v : Nat}

/-- A BAR0 write that the checks refuse is ignored and logged (R384). -/
theorem State.bar0Write_of_error {half : Half} {value coinc : Word} {x : Failure} (hrow : (paramRow? key).isNone = false)
    (he : ∀ co, s.writeEntries false co [⟨key, halfBits half &&& writableMask key, value⟩] = .error x) :
    ∃ off, s.bar0Write key half value coinc = s.bar0Ignored off := by
  simp only [State.bar0Write, hrow, Bool.false_eq_true, if_false, he, ite_self]
  exact ⟨_, rfl⟩

/-- A host write that the checks refuse stores nothing: by BAR0 it is ignored and logged, as a Salsol write it is dropped. -/
theorem State.hostWrite_refused (ho : s.HostOpen) (hb : s.OffBoundary h.t) (hrow : (paramRow? key).isNone = false)
    (he : (s.at_ h.t).entriesFail (authOf h) [entryOf key h] ≠ none) :
    s.hostWrite key h = s.at_ h.t ∨ ∃ off, s.hostWrite key h = (s.at_ h.t).bar0Ignored off := by
  obtain ⟨-, hl, hr, hs, hask⟩ := ho
  obtain ⟨x, hx⟩ := Option.ne_none_iff_exists'.mp he
  have hfail : ∀ co, (s.at_ h.t).writeEntries (authOf h) co [entryOf key h] = .error x := fun co => by
    rw [State.writeEntries, hx]
  have hbf : s.boundaryFirst h.t = s := if_neg hb
  cases horig : h.origin with
  | bar0 half =>
    simp only [authOf, entryOf, horig] at hfail
    obtain ⟨off, hoff⟩ := State.bar0Write_of_error (coinc := h.coinc) hrow hfail
    have hq : ((s.at_ h.t).bar0Ignored off).runAsked = (s.at_ h.t).bar0Ignored off :=
      State.runAsked_of_none ((of_frame (State.bar0Ignored_unlogged _ off) fun u => u.ctl.asked).trans hask)
    exact .inr ⟨off, by
      simp only [State.hostWrite, hl, hbf, horig, hoff, hq, Bool.not_true, Bool.false_eq_true, if_false]⟩
  | salsol mask auth =>
    have hs' : ¬((s.at_ h.t).inRecovery = true ∨ (s.at_ h.t).ctl.restart.isSome = true) := by
      simp [show (s.at_ h.t).inRecovery = false from hr, hs]
    simp only [authOf, entryOf, horig] at hfail
    exact .inl (by simp only [State.hostWrite, hl, hbf, horig, if_neg hs', hfail, Bool.not_true, Bool.false_eq_true, if_false])

/-- A write that brings a value to a writable field covers it whole. -/
theorem wordFld_merged_cov (s : State) (hb : brings h f v) (hw : wordFld (writableMask key) f = 2 ^ f.width - 1) :
    wordFld (s.merged (entryOf key h)).1 f = 2 ^ f.width - 1 := by
  rw [← hw]
  refine wordFld_congr fun i hi => ?_
  simp only [State.merged, entryOf_key, BitVec.getLsbD_and, entryOf_mask_of_brings hb hw hi, Bool.true_and]

/-- An entry that passes the checks alone passes check 10 (R411). -/
theorem State.entryStatus_of_entriesFail {auth : Bool} {e : Entry} (he : s.entriesFail auth [e] = none) :
    s.entryStatus e = none := by
  unfold State.entriesFail at he
  split at he
  · cases he
  · split at he
    · cases he
    · unfold checkEntries at he
      split at he
      · cases he
      · assumption

/-- Check 10 passes an entry only where the field map allows it. -/
theorem State.rangeStatus_of_entryStatus {e : Entry} (he : s.entryStatus e = none) :
    rangeStatus e.key (s.merged e).1 (s.merged e).2 = none := by
  unfold State.entryStatus at he
  dsimp only at he
  split at he
  · cases he
  · assumption
end

/-! ### A write of W -/

/-- The one field of FIELD (Table 2.8). -/
def fieldSpecW : FieldSpec := ⟨"W", 16, 0, .rw, 100000, some (30000, 120000), false, false⟩

theorem paramRow?_field : paramRow? K.FIELD = some ⟨K.FIELD, K.FIELD, 1, "FIELD", .open, [fieldSpecW]⟩ := by decide +kernel

theorem checkedFields_field {cov : Word} (h : wordFld cov P.FIELD.W ≠ 0) : checkedFields K.FIELD cov = [fieldSpecW] := by
  have hd : decide (wordFld cov (fieldSpecW.ref K.FIELD) ≠ 0) = true := decide_eq_true h
  simp only [checkedFields, paramRow?_field]
  exact List.filter_cons_of_pos hd

/-- The field map refuses a W outside 30,000 to 120,000 m° (R37, Table 2.8). -/
theorem rangeStatus_field {cov new : Word} (h : wordFld cov P.FIELD.W ≠ 0) :
    rangeStatus K.FIELD cov new = none ↔ 30000 ≤ wordFld new P.FIELD.W ∧ wordFld new P.FIELD.W ≤ 120000 := by
  have hs : ¬(K.FIELD = K.SPARE_FORCE ∧ wordFld new P.SPARE_FORCE.ACTION = 0) := fun x => absurd x.1 (by decide)
  have hr : fieldSpecW.refuses K.FIELD new =
      if 30000 ≤ (wordFld new P.FIELD.W : Int) ∧ (wordFld new P.FIELD.W : Int) ≤ 120000 then none
      else some .refused := id rfl
  rw [rangeStatus, if_neg hs, checkedFields_field h]
  by_cases hw : 30000 ≤ wordFld new P.FIELD.W ∧ wordFld new P.FIELD.W ≤ 120000
  · rw [if_pos (by omega)] at hr
    simp [hr, hw]
  · rw [if_neg (by omega)] at hr
    simpa [hr] using hw

section
variable {h : HostWrite} {w : Nat} (hb : brings h P.FIELD.W w)
include hb

/-- An accepted write of W brings one within its range. -/
theorem State.field_range_of_accepted {s : State} (he : s.entriesFail (authOf h) [entryOf K.FIELD h] = none) :
    30000 ≤ w ∧ w ≤ 120000 := by
  have hcov := wordFld_merged_cov (key := K.FIELD) s hb (by decide +kernel)
  have hnew := wordFld_merged (key := K.FIELD) s (by decide) hb (by decide +kernel) (by decide +kernel)
  rw [← hnew]
  exact (rangeStatus_field (by rw [hcov]; decide)).mp
    (State.rangeStatus_of_entryStatus (State.entryStatus_of_entriesFail he))

/-- It stores W, which has no effect before the next boundary and no action. -/
theorem State.hostWrite_field {s : State} (ha : s.Accepts K.FIELD h) :
    s.hostWrite K.FIELD h = s.stored K.FIELD h ∧ (s.stored K.FIELD h).fld P.FIELD.W = w := by
  have hl : ∀ (u : State) (old cov : Word), u.levelEffect K.FIELD old cov = u := fun _ _ _ => ite_self _
  have ho : ∀ (u : State) (cov new co : Word), u.orderEffect K.FIELD cov new co = u := fun _ _ _ _ => ite_self _
  obtain ⟨⟨-, -, -, -, hask⟩, -⟩ := id ha
  constructor
  · rw [State.hostWrite_of_no_flags ha (by decide +kernel), hl, ho,
      State.runAsked_of_none ((s.stored_onlyRegs K.FIELD h).proj State.ctl rfl ▸ hask)]
  · have hreg : (s.stored K.FIELD h).reg P.FIELD.W.key = s.mergedWord K.FIELD h := State.reg_setReg_self (s.at_ h.t) K.FIELD _
    rw [State.fld, hreg]
    exact wordFld_mergedWord s (by decide) hb (by decide +kernel) (by decide +kernel)

/-- A refused write of W leaves both words of FIELD. -/
theorem State.hostWrite_field_refused {s : State} (ho : s.HostOpen) (hoff : s.OffBoundary h.t) (hw : w < 30000 ∨ 120000 < w) :
    (s.hostWrite K.FIELD h).fieldWords = s.fieldWords := by
  have he : (s.at_ h.t).entriesFail (authOf h) [entryOf K.FIELD h] ≠ none := fun he => by
    have hr := State.field_range_of_accepted hb he
    omega
  obtain hu | ⟨off, hu⟩ := State.hostWrite_refused ho hoff (by decide +kernel) he
  · rw [hu, State.at_fieldWords]
  · rw [hu, State.bar0Ignored_fieldWords, State.at_fieldWords]
end

end Sys2Proof.Machine
end

section
/-! PROOFS. The words of FIELD under the operations that a frame boundary shares with others: the DMA channels, the point stream,
the links to other devices and the mirror. -/
namespace Sys2Proof.Machine

/-! ### The DMA channels and the point stream -/

theorem State.msix_fieldWords (s : State) (fn vec : Nat) : (s.msix fn vec).fieldWords = s.fieldWords := by
  simp only [State.msix, State.setMsix, State.emit_fieldWords, apply_ite State.fieldWords, State.fieldWords_mk, ite_self]

theorem State.dumpMoved_fieldWords (s : State) : s.dumpMoved.fieldWords = s.fieldWords := by
  unfold State.dumpMoved State.dumpArrived State.dumpDone
  split
  · split
    · simp (disch := decide) only [apply_ite State.fieldWords, State.setFld_fieldWords, State.fieldWords_mk, ite_self]
    · rfl
  · rfl

/-- The offsets and counts that an item's end moves on stand in the tables of the rings, all after FIELD, whatever region the
item names. -/
theorem State.itemDone_fieldWords (s : State) (d : DmaDone) : (s.itemDone d).fieldWords = s.fieldWords := by
  cases d with
  | columnLine r n _ =>
    have hw : (s.addWrap (P.RING_WR.WR_OFF.idx r) n).fieldWords = s.fieldWords :=
      s.addWrap_fieldWords n (FieldRef.afterField_idx r (by decide))
    dsimp only [State.itemDone]
    split
    · exact (State.msix_fieldWords _ _ _).trans hw
    · exact hw
  | dumpRecord _ _ n =>
    exact (State.dumpMoved_fieldWords _).trans ((State.msix_fieldWords _ _ _).trans
      ((State.addWrap_fieldWords _ _ (by decide)).trans (s.addWrap_fieldWords _ (by decide))))
  | capture n _ =>
    exact (State.msix_fieldWords _ _ _).trans (s.addWrap_fieldWords n (by decide))
  | reply n v =>
    have hw : ∀ x, ((s.addWrap P.CQ_POS.CQ_WR n).setFld P.SALSOL_STATUS.OUTSTANDING x).fieldWords = s.fieldWords := fun x =>
      (State.setFld_fieldWords _ x (by decide)).trans (s.addWrap_fieldWords n (by decide))
    dsimp only [State.itemDone]
    split
    · exact (State.msix_fieldWords _ _ _).trans (hw _)
    · exact hw _
  | notice => exact (State.msix_fieldWords _ _ _).trans (s.addWrap_fieldWords 32 (by decide))
  | column _ _ _ => rfl
  | none => rfl

theorem State.stall_fieldWords (s : State) (c cause va : Nat) : (s.stall c cause va).fieldWords = s.fieldWords := by
  have hstalled : ∀ u : State, (u.setStalled c true).fieldWords = u.fieldWords := fun u =>
    u.setFld_fieldWords _ (FieldRef.afterField_bitAt _ (by decide))
  have hcause : ∀ u : State, (u.setFld ((⟨0x1111, 35, 32⟩ : FieldRef).sub c 4) cause).fieldWords = u.fieldWords := fun u =>
    u.setFld_fieldWords _ (FieldRef.afterField_sub _ _ (by decide))
  have hva : ∀ u : State, (u.setFld (P.DMA_STATUS.FAULT_VA.idx c) va).fieldWords = u.fieldWords := fun u =>
    u.setFld_fieldWords _ (FieldRef.afterField_idx c (by decide))
  have hfault : ∀ u : State, (u.setFlag (P.DMA_STATE.XLATE_FAULT.bitAt c)).fieldWords = u.fieldWords := fun u =>
    u.setFlag_fieldWords (FieldRef.afterField_bitAt _ (by decide))
  simp only [State.stall, State.msix_fieldWords, hfault, State.record_fieldWords, State.liveWrap_fieldWords, hva, hcause,
    hstalled]

theorem State.startWalk_fieldWords (s : State) (c va : Nat) (resume write : Bool) :
    (s.startWalk c va resume write).fieldWords = s.fieldWords := by
  rw [State.startWalk, State.emit_fieldWords, State.liveWrap_fieldWords, State.setChan_fieldWords]

theorem State.issue_fieldWords (s : State) (c va pa : Nat) (bytes : List Byte) :
    (s.issue c va pa bytes).fieldWords = s.fieldWords := by
  unfold State.issue
  generalize piecesOf s.host.maxPayload (bytes.length + 1) bytes = l
  generalize 0 = n
  induction l generalizing s n with
  | nil => rfl
  | cons p l ih => exact (ih _ _).trans (s.emit_fieldWords _)

theorem State.wordsOut_fieldWords (s : State) (d : DmaDone) : (s.wordsOut d).fieldWords = s.fieldWords := by
  unfold State.wordsOut State.unfreeze State.setBuf
  split
  · split <;> rfl
  · rfl

/-- One page of a channel. -/
theorem State.pump1_fieldWords {s u : State} {c : Nat} (h : s.pump1 c = some u) : u.fieldWords = s.fieldWords := by
  unfold State.pump1 at h
  split at h
  · cases h
  · dsimp only at h
    split at h
    · cases h
    · split at h
      · cases h
      · split at h
        · cases h
          split <;> rfl
        · split at h
          · split at h
            · cases h
            · cases h
              exact (State.itemDone_fieldWords _ _).trans (s.setChan_fieldWords c _)
          · split at h
            · cases h
              exact s.stall_fieldWords _ _ _
            · split at h
              · cases h
                exact s.startWalk_fieldWords _ _ _ _
              · cases h
            · cases h
              rw [State.setChan_fieldWords, apply_ite State.fieldWords, State.wordsOut_fieldWords, State.issue_fieldWords,
                ite_self]

theorem State.dmaPush_fieldWords (s : State) (c : Nat) (i : DmaItem) : (s.dmaPush c i).fieldWords = s.fieldWords := by
  have hp : ∀ (n : Nat) (s : State), (State.pumpAux c n s).fieldWords = s.fieldWords := fun n => by
    induction n with
    | zero => exact fun s => rfl
    | succ n ih =>
      intro s
      rw [State.pumpAux]
      split
      · next u hu => exact (ih u).trans (State.pump1_fieldWords hu)
      · rfl
  exact (hp _ _).trans (s.setChan_fieldWords c _)

theorem State.streamEnd_fieldWords (s : State) (r : Nat) : (s.streamEnd r).fieldWords = s.fieldWords := by
  simp only [State.streamEnd, State.unfiredHeader, apply_ite State.fieldWords, State.dmaPush_fieldWords,
    State.withStream_fieldWords, ite_self]

theorem State.streamStart_fieldWords (s : State) (r : Nat) : (s.streamStart r).fieldWords = s.fieldWords := by
  simp only [State.streamStart, apply_ite State.fieldWords, State.withStream_fieldWords, ite_self]

theorem State.keyCauseAll_fieldWords (s : State) (c : Nat) : (s.keyCauseAll c).fieldWords = s.fieldWords :=
  State.forUpto_fieldWords _ _ _ fun r s => s.withStream_fieldWords r _

/-! ### Frames to the devices below -/

theorem State.skipsTo_fieldWords (s : State) (l time : Nat) : (s.skipsTo l time).fieldWords = s.fieldWords := by
  simp only [State.skipsTo, apply_ite State.fieldWords, State.emit_fieldWords, State.withLane_fieldWords, ite_self]

theorem State.skipAt_fieldWords (s : State) (l time : Nat) : (s.skipAt l time).fieldWords = s.fieldWords := by
  rw [State.skipAt, State.emit_fieldWords, State.withLane_fieldWords, State.skipsTo_fieldWords]

theorem State.laneSend_fieldWords (s : State) (l d : Nat) (words : List LaneWord) :
    (s.laneSend l d words).fieldWords = s.fieldWords := by
  simp only [State.laneSend, State.emit_fieldWords, State.withLane_fieldWords, apply_ite State.fieldWords,
    State.skipAt_fieldWords, State.skipsTo_fieldWords, ite_self]

theorem State.linkFrame_fieldWords (s : State) (k len : Nat) (data : List Byte) :
    (s.linkFrame k len data).fieldWords = s.fieldWords := by
  unfold State.linkFrame
  split <;> simp only [State.laneSend_fieldWords]

theorem State.hitchFrame_fieldWords (s : State) (k : Nat) (m : List Byte) : (s.hitchFrame k m).fieldWords = s.fieldWords := by
  simp only [State.hitchFrame, apply_ite State.fieldWords, State.linkFrame_fieldWords, State.draw_fieldWords, ite_self]

theorem State.nextCtr_fieldWords (s : State) (k : Nat) : (s.nextCtr k).2.fieldWords = s.fieldWords := by
  unfold State.nextCtr
  split <;> rfl

theorem State.hitchSend_fieldWords (s : State) (k type : Nat) (body : List Byte) :
    (s.hitchSend k type body).fieldWords = s.fieldWords := by
  unfold State.hitchSend
  split
  · exact s.hitchFrame_fieldWords _ _
  · dsimp only
    split
    · exact s.nextCtr_fieldWords k
    · exact (State.hitchFrame_fieldWords _ _ _).trans (s.nextCtr_fieldWords k)

theorem State.toChildren_fieldWords (s : State) (type : Nat) (body : List Byte) :
    (s.toChildren type body).fieldWords = s.fieldWords :=
  State.forEach_fieldWords _ _ _ fun k _ s => s.hitchSend_fieldWords k type body

/-! ### The mirror -/

theorem State.emitGates_fieldWords (s : State) (hs ls t v : Nat) : (s.emitGates hs ls t v).fieldWords = s.fieldWords := by
  unfold State.emitGates
  rw [State.forEach_fieldWords, State.forEach_fieldWords] <;> exact fun _ _ s => s.emit_fieldWords _

theorem State.gatesOn_fieldWords (s : State) (t : Nat) : (s.gatesOn t).fieldWords = s.fieldWords := by
  unfold State.gatesOn
  split
  · rfl
  · rw [apply_ite State.fieldWords, State.withMir_fieldWords, State.emitGates_fieldWords, ite_self]

theorem State.setDrive_fieldWords (s : State) (b : Nat) (d : Drive) (t : Nat) : (s.setDrive b d t).fieldWords = s.fieldWords := by
  simp only [State.setDrive, State.withMir_fieldWords, State.emitGates_fieldWords, State.gatesOn_fieldWords]

theorem State.enterMir_fieldWords (s : State) (st : Nat) : (s.enterMir st).fieldWords = s.fieldWords := by
  unfold State.enterMir
  extract_lets old entered driven dropped
  have hentered : entered.fieldWords = s.fieldWords := s.setFld_fieldWords st (by decide)
  have hdriven : driven.fieldWords = entered.fieldWords := by
    dsimp only [driven]
    simp only [apply_ite State.fieldWords, State.setDrive_fieldWords, ite_self]
  have hdropped : dropped.fieldWords = driven.fieldWords := by
    dsimp only [dropped]
    rw [apply_ite State.fieldWords, State.fieldWords_mk, ite_self]
  rw [State.withMir_fieldWords, hdropped, hdriven, hentered]

theorem State.startScanning_fieldWords (s : State) : s.startScanning.fieldWords = s.fieldWords := by
  simp (disch := decide) only [State.startScanning, State.epochDraw, State.epochDrawAfter, State.sendEpoch,
    apply_ite State.fieldWords, State.toChildren_fieldWords, State.setFld_fieldWords, State.withScan_fieldWords,
    State.draw_fieldWords, ite_self]

theorem State.tryRamp_fieldWords (s : State) : s.tryRamp.fieldWords = s.fieldWords := by
  simp (disch := decide) only [State.tryRamp, State.setAmpl, apply_ite State.fieldWords, State.startScanning_fieldWords,
    State.setFld_fieldWords, State.withMir_fieldWords, State.enterMir_fieldWords, ite_self]

theorem State.parkCause_fieldWords (s : State) (c : Nat) : (s.parkCause c).fieldWords = s.fieldWords := by
  simp (disch := decide) only [State.parkCause, apply_ite State.fieldWords, State.setFld_fieldWords, ite_self]

theorem State.spinDown_fieldWords (s : State) (cause : Nat) : (s.spinDown cause).fieldWords = s.fieldWords := by
  simp only [State.spinDown, apply_ite State.fieldWords, State.tryRamp_fieldWords, State.parkCause_fieldWords,
    State.enterMir_fieldWords, State.withMir_fieldWords, ite_self]

theorem State.mirrorBoundary_fieldWords (s : State) : s.mirrorBoundary.fieldWords = s.fieldWords := by
  simp only [State.mirrorBoundary, State.withMir_fieldWords, apply_ite State.fieldWords, State.spinDown_fieldWords,
    State.enterMir_fieldWords, ite_self]

end Sys2Proof.Machine
end

section
/-! PROOFS. A frame boundary leaves W as it was written and brings it into force (R32, R37): O7. -/
namespace Sys2Proof.Machine

/-! ### What a frame gathers, and its snapshots -/

theorem State.setAdaptView_fieldWords (s : State) (k v : Nat) :
    (s.setFld (P.ADAPT_VIEW.A.sub k 16) v).fieldWords = s.fieldWords :=
  s.setFld_fieldWords v (FieldRef.afterField_sub _ _ (by decide))

theorem State.adaptUpdate_fieldWords (s : State) (k : Nat) : (s.adaptUpdate k).fieldWords = s.fieldWords := by
  simp only [State.adaptUpdate, apply_ite State.fieldWords, State.setCharger_fieldWords, State.setAdaptView_fieldWords, ite_self]

theorem State.nearViews_fieldWords (s : State) : s.nearViews.fieldWords = s.fieldWords :=
  State.forUpto_fieldWords _ _ _ fun _ s =>
    s.setFld_fieldWords _ (FieldRef.afterField_sub _ _ (FieldRef.afterField_idx _ (by decide)))

theorem State.gatherClose_fieldWords (s : State) (tb : Nat) : (s.gatherClose tb).fieldWords = s.fieldWords := by
  have ha : ∀ s : State, (forUpto 4 (fun k s => s.adaptUpdate k) s).fieldWords = s.fieldWords := fun s =>
    State.forUpto_fieldWords _ _ _ fun k s => s.adaptUpdate_fieldWords k
  have hc : ∀ s : State,
      (forUpto 4 (fun k s => s.setCharger k { s.charger k with faultSeen := s.chgState k == 4 }) s).fieldWords = s.fieldWords :=
    fun s => State.forUpto_fieldWords _ _ _ fun k s => s.setCharger_fieldWords k _
  simp only [State.gatherClose, State.fieldWords_mk, hc, ha, State.withSup_fieldWords, State.nearViews_fieldWords]

theorem State.boundarySnapshots_fieldWords (s : State) : s.boundarySnapshots.fieldWords = s.fieldWords := by
  have hne : ∀ k ∈ boundaryKeys, k ≠ K.FIELD := by decide +kernel
  have hs : ∀ s : State, (forEach boundaryKeys (fun k s => s.snapshot k) s).fieldWords = s.fieldWords := fun s =>
    State.forEach_fieldWords _ _ _ fun k hk s => s.snapshot_fieldWords (hne k hk)
  have hr : ∀ s : State, (forUpto 4 (fun r s => s.setLive (P.REGION_POSTS.MIN_SLACK.idx r) 0xFFFFFFFF) s).fieldWords =
      s.fieldWords := fun s => State.forUpto_fieldWords _ _ _ fun _ s => s.setLive_fieldWords _ _
  exact (State.forEach_fieldWords _ _ _ fun f _ s => s.setLive_fieldWords f 0).trans ((hr _).trans (hs s))

/-! ### The Farrier -/

theorem State.itemFail_fieldWords (s : State) (item which : Nat) (v : Int) :
    (s.itemFail item which v).fieldWords = s.fieldWords := by
  have hflag : (s.setFlag ⟨K.CAL_FLAGS, item, item⟩).fieldWords = s.fieldWords :=
    s.setFlag_fieldWords (FieldRef.afterField_mk _ _ (by decide))
  rw [State.itemFail, State.record_fieldWords, State.addWrap_fieldWords _ _ (by decide), hflag]

theorem State.fteBoundary_fieldWords (s : State) (b : Nat) : (s.fteBoundary b).fieldWords = s.fieldWords := by
  have hset : ∀ (u : State) (v : Nat),
      (u.setFld ((P.FTE_DELAY.DELAY.idx (b / 4)).sub (b % 4) 16) v).fieldWords = u.fieldWords := fun u v =>
    u.setFld_fieldWords v (FieldRef.afterField_sub _ _ (FieldRef.afterField_idx _ (by decide)))
  have hdefault : ∀ (u : State) (v : Nat), u.fieldWords = s.fieldWords → (if bitOf u.farrier.fteDone b then u else
      u.setFld ((P.FTE_DELAY.DELAY.idx (b / 4)).sub (b % 4) 16) v).fieldWords = s.fieldWords := fun u v hu => by
    rw [apply_ite State.fieldWords, hset, ite_self, hu]
  refine hdefault _ _ ?_
  split
  · dsimp only
    split
    · exact (State.withFar_fieldWords _ _).trans (hset _ _)
    · exact s.itemFail_fieldWords _ _ _
  · rfl

theorem State.installGroup_fieldWords (s : State) (g : Nat) (t : Int) (of : Option Nat) :
    (s.installGroup g t of).fieldWords = s.fieldWords := by
  unfold State.installGroup
  extract_lets sets takes keys tables skews
  have htables : tables.fieldWords = s.fieldWords := State.forEach_fieldWords _ _ s fun p _ s => s.withStamp_fieldWords _
  have hskews : skews.fieldWords = tables.fieldWords := State.forEach_fieldWords _ _ tables fun i _ s => by
    split
    · exact s.withStamp_fieldWords _
    · rfl
  rw [← htables, ← hskews]
  split
  · split
    · exact skews.setFldI_fieldWords _ (by decide)
    · rfl
  · rfl

theorem State.installSets_fieldWords (s : State) (of : Option Nat) : (s.installSets of).fieldWords = s.fieldWords :=
  State.forUpto_fieldWords _ _ _ fun g s => by
    split
    · exact s.installGroup_fieldWords _ _ _
    · rfl

/-- A set's mark stands in SET_VALID. -/
theorem State.setValid_fieldWords (s : State) (k v : Nat) : (s.setFld ⟨K.SET_VALID, k, k⟩ v).fieldWords = s.fieldWords :=
  s.setFld_fieldWords v (FieldRef.afterField_mk _ _ (by decide))

theorem State.writeSet_fieldWords (s : State) (r : RunResult) (g : Nat) : (s.writeSet r g).fieldWords = s.fieldWords := by
  simp only [State.writeSet, State.setValid_fieldWords, State.withFar_fieldWords]

theorem State.calInstall_fieldWords (s : State) (r : RunResult) : (s.calInstall r).fieldWords = s.fieldWords := by
  have hw : ∀ s : State, (forUpto 5 (fun g s => s.writeSet r g) s).fieldWords = s.fieldWords := fun s =>
    State.forUpto_fieldWords _ _ _ fun g s => s.writeSet_fieldWords r g
  simp (disch := decide) only [State.calInstall, State.installSelections, State.withFar_fieldWords, State.setFld_fieldWords,
    State.addWrap_fieldWords, State.installSets_fieldWords, hw]

theorem State.spareBoundary_fieldWords (s : State) (u : Nat) : (s.spareBoundary u).fieldWords = s.fieldWords := by
  have hmap : ∀ (x : State) (v : Nat), (x.setFld ⟨K.SPARE_MAP, u, u⟩ v).fieldWords = x.fieldWords := fun x v =>
    x.setFld_fieldWords v (FieldRef.afterField_mk _ _ (by decide))
  have hch : ∀ x : State, (forUpto 8 (fun i s => s.withCh (8 * u + i) fun x => { x with degraded := false }) x).fieldWords =
      x.fieldWords := fun x => State.forUpto_fieldWords _ _ x fun _ s => s.withStamp_fieldWords _
  simp only [State.spareBoundary, hmap, hch, State.withSpare, State.withStamp_fieldWords]

theorem State.groupTemp_fieldWords (s : State) (g : Nat) : (s.groupTemp g).2.fieldWords = s.fieldWords := by
  unfold State.groupTemp
  split <;> rfl

theorem State.farrierBoundary_fieldWords (s : State) (reverse keep : Bool) :
    (s.farrierBoundary reverse keep).fieldWords = s.fieldWords := by
  unfold State.farrierBoundary
  extract_lets paired cleared gathered delayed limited lagged installed
  have hpaired : paired.fieldWords = s.fieldWords := by
    dsimp only [paired]
    simp only [State.edgePairs, apply_ite State.fieldWords, State.withFar_fieldWords, ite_self]
  have hcleared : cleared.fieldWords = paired.fieldWords := paired.withFar_fieldWords _
  have hgathered : gathered.fieldWords = cleared.fieldWords := by
    dsimp only [gathered]
    rw [apply_ite State.fieldWords, State.gatherAngles, State.withFar_fieldWords, ite_self]
  have hdelayed : delayed.fieldWords = gathered.fieldWords :=
    State.forUpto_fieldWords _ _ _ fun b s => s.fteBoundary_fieldWords b
  have hlimited : limited.fieldWords = delayed.fieldWords :=
    (State.takeForce_fieldWords _ (by decide)).trans (delayed.withFar_fieldWords _)
  have hlagged : lagged.fieldWords = limited.fieldWords := by
    dsimp only [lagged]
    split
    · exact (State.setValid_fieldWords _ _ 1).trans ((State.withFar_fieldWords _ _).trans
        ((State.setFldI_fieldWords _ _ (by decide)).trans (limited.groupTemp_fieldWords 4)))
    · rfl
  have hinstalled : installed.fieldWords = lagged.fieldWords := by
    dsimp only [installed]
    split
    · rw [apply_ite State.fieldWords, State.calInstall_fieldWords, ite_self]
    · exact lagged.installSets_fieldWords none
  rw [State.forUpto_fieldWords _ _ _ fun n s => s.spareBoundary_fieldWords n, hinstalled, hlagged, hlimited, hdelayed, hgathered,
    hcleared, hpaired]

/-! ### What comes into force -/

/-- Each of some parameters is in force as the registers hold it once they have come into force together. -/
theorem State.force_takeForce_of_mem {l : List Nat} {k : Nat} (h : k ∈ l) (s : State) :
    planeGet (forEach l (fun k s => s.takeForce k) s).force k = s.reg k := by
  have hkeep : ∀ (l : List Nat) (u : State), planeGet u.force k = u.reg k →
      planeGet (forEach l (fun k s => s.takeForce k) u).force k = u.reg k := fun l => by
    induction l with
    | nil => exact fun u hu => hu
    | cons a l ih =>
      intro u hu
      refine ih (u.takeForce a) ?_
      by_cases ha : k = a
      · rw [ha]
        exact planeGet_planeSet_self _ _ _
      · exact (planeGet_planeSet_ne _ _ ha).trans hu
  induction l generalizing s with
  | nil => exact absurd h List.not_mem_nil
  | cons a l ih =>
    obtain rfl | hl := List.mem_cons.mp h
    · exact hkeep l _ (planeGet_planeSet_self _ _ _)
    · exact ih hl (s.takeForce a)

theorem State.regs_forEach_takeForce (l : List Nat) (s : State) : (forEach l (fun k s => s.takeForce k) s).regs = s.regs :=
  forEach_keeps State.regs l _ s fun _ _ => rfl

/-- FIELD comes into force with the other parameters that a boundary takes as whole words (R32, R37). -/
theorem State.boundaryForce_fieldWords (s : State) :
    (forEach boundaryForce (fun k s => s.takeForce k) s).fieldWords = (s.fieldWords.1, s.fieldWords.1) :=
  Prod.ext (congrArg (planeGet · K.FIELD) (s.regs_forEach_takeForce boundaryForce))
    (State.force_takeForce_of_mem (by decide +kernel) s)

theorem State.expTake_fieldWords (s : State) : s.expTake.fieldWords = s.fieldWords := by
  unfold State.expTake
  split
  · rfl
  · exact s.takeForce_fieldWords (key := K.EXP_CFG) (by decide)

theorem State.adaptTake_fieldWords (s : State) : s.adaptTake.fieldWords = s.fieldWords := by
  unfold State.adaptTake
  extract_lets changed taken
  have htaken : taken.fieldWords = s.fieldWords := State.forUpto_fieldWords _ _ s fun k s => by
    rw [apply_ite State.fieldWords, State.setCharger_fieldWords, State.setAdaptView_fieldWords, ite_self]
  rw [State.takeForce_fieldWords _ (by decide), State.takeForce_fieldWords _ (by decide), htaken]

theorem State.refineBoundary_fieldWords (s : State) : s.refineBoundary.fieldWords = s.fieldWords := by
  have hload : ∀ u : State, (forUpto 16 (fun q s => if s.domOn (24 + q / 4) && !bitOf s.evoth.reloading (q / 4) then
      s.loadColumnImage q else s) u).fieldWords = u.fieldWords := fun u =>
    State.forUpto_fieldWords _ _ _ fun q s => by
      split <;> rfl
  simp (disch := decide) only [State.refineBoundary, apply_ite State.fieldWords, State.fieldWords_mk, hload,
    State.takeForce_fieldWords, State.setFld_fieldWords, ite_self]

theorem State.takeAll_fieldWords (s : State) : s.takeAll.fieldWords = (s.fieldWords.1, s.fieldWords.1) := by
  simp only [State.takeAll, apply_ite State.fieldWords, State.keyCauseAll_fieldWords, State.fieldWords_mk,
    State.refineBoundary_fieldWords, State.adaptTake_fieldWords, State.expTake_fieldWords, State.boundaryForce_fieldWords,
    ite_self]

/-! ### The coming sweep and its frame -/

theorem State.retable_fieldWords (s : State) : s.retable.fieldWords = s.fieldWords := by
  simp (disch := decide) only [State.retable, State.showMerged, State.setFld_fieldWords, State.withSup_fieldWords]

theorem State.scanChanges_fieldWords (s : State) (gaitNew wNew : Bool) :
    (s.scanChanges gaitNew wNew).fieldWords = s.fieldWords := by
  have hforget : ∀ (n : Nat) (u : State), (forUpto 4 (fun r s => s.withStream r (Stream.forgetFor n)) u).fieldWords =
      u.fieldWords := fun n u => State.forUpto_fieldWords _ _ u fun r s => s.withStream_fieldWords r _
  unfold State.scanChanges
  extract_lets changed tabled
  have hchanged : changed.fieldWords = s.fieldWords := by
    dsimp only [changed]
    rw [apply_ite State.fieldWords, State.rcClear, State.withMir_fieldWords, hforget, ite_self]
  have htabled : tabled.fieldWords = changed.fieldWords := by
    dsimp only [tabled]
    rw [State.retable_fieldWords, State.rcClear, State.withMir_fieldWords, hforget]
  rw [apply_ite State.fieldWords, apply_ite State.fieldWords, State.enterMir_fieldWords, ite_self, htabled, ite_self, hchanged]

theorem State.timeStep_fieldWords (s : State) (d frac : Int) : (s.timeStep d frac).fieldWords = s.fieldWords := id rfl

theorem State.nextGrid_fieldWords (s : State) (gNew : Nat) : (s.nextGrid gNew).fieldWords = s.fieldWords := by
  unfold State.nextGrid
  extract_lets _ _ _ _ stepped taken _ _ _ _ swept turning shown settled
  have hstepped : stepped.fieldWords = s.fieldWords := by
    dsimp only [stepped]
    split
    · exact (State.setFlag_fieldWords _ (by decide)).trans (s.timeStep_fieldWords _ _)
    · rfl
  have htaken : taken.fieldWords = stepped.fieldWords := stepped.withScan_fieldWords _
  have hturning : turning.fieldWords = taken.fieldWords :=
    (State.withMir_fieldWords _ _).trans (taken.withScan_fieldWords _)
  have hshown : shown.fieldWords = turning.fieldWords :=
    (State.setFld_fieldWords _ _ (by decide)).trans (turning.setReg_fieldWords _ (by decide))
  have hsettled : settled.fieldWords = shown.fieldWords := by
    dsimp only [settled]
    split
    · exact shown.setReg_fieldWords _ (by decide)
    · rfl
  split
  · rw [State.withMir_fieldWords, State.withScan_fieldWords, htaken, hstepped]
  · rw [apply_ite State.fieldWords, State.sendSlot, State.toChildren_fieldWords, ite_self, hsettled, hshown, hturning, htaken,
      hstepped]

theorem State.dumpRecheck_fieldWords (s : State) : s.dumpRecheck.fieldWords = s.fieldWords := by
  unfold State.dumpRecheck
  split
  · split
    · simp (disch := decide) only [State.setFlag_fieldWords, State.setFld_fieldWords, State.fieldWords_mk]
    · rfl
  · rfl

theorem State.epochTake_fieldWords (s : State) (p : CodeEpoch) (tk : Nat) : (s.epochTake p tk).fieldWords = s.fieldWords :=
  (State.setFld_fieldWords _ _ (by decide)).trans (s.withScan_fieldWords _)

theorem State.epochApply_fieldWords (s : State) (tk : Nat) : (s.epochApply tk).fieldWords = s.fieldWords := by
  have hlate : ∀ u : State, (u.addSat P.CODE_CONTROL.LATE_SWITCHES 1).fieldWords = u.fieldWords := fun u =>
    u.addSat_fieldWords 1 (by decide)
  unfold State.epochApply
  extract_lets joined
  have hjoined : joined.fieldWords = s.fieldWords := by
    dsimp only [joined]
    split
    · rfl
    · split
      · rfl
      · exact hlate s
      · exact s.epochTake_fieldWords _ tk
  rw [← hjoined]
  split
  · rfl
  · split
    · rfl
    · exact hlate joined
    · rw [State.setFld_fieldWords _ _ (by decide), State.withScan_fieldWords, State.epochTake_fieldWords]

theorem State.epochBoundary_fieldWords (s : State) : s.epochBoundary.fieldWords = s.fieldWords := by
  simp only [State.epochBoundary, apply_ite State.fieldWords, State.keyCauseAll_fieldWords, State.epochApply_fieldWords, ite_self]

theorem State.frameStep_fieldWords (s : State) : s.frameStep.fieldWords = s.fieldWords := by
  rw [State.frameStep, State.snapshot_fieldWords _ (by decide), State.setLive_fieldWords, State.liveWrap_fieldWords]

theorem State.targetForm_fieldWords (s : State) (gait k : Nat) : (s.targetForm gait k).fieldWords = s.fieldWords := by
  unfold State.targetForm
  extract_lets sp adapting adapt cap therm req tgt byBudget byTherm old target cause clamped
  -- the numbers stay closed: to compare states the kernel would compute them
  clear_value tgt byBudget byTherm old
  have htarget : target.fieldWords = s.fieldWords := s.setFld_fieldWords _ (FieldRef.afterField_idx k (by decide))
  have hcause : cause.fieldWords = target.fieldWords := target.setFld_fieldWords _ (FieldRef.afterField_idx k (by decide))
  have hclamped : clamped.fieldWords = cause.fieldWords := by
    dsimp only [clamped]
    split
    · exact cause.setFlag_fieldWords (FieldRef.afterField_bitAt _ (by decide))
    · rfl
  rw [← htarget, ← hcause, ← hclamped]
  split
  · exact clamped.setFld_fieldWords 2 (FieldRef.afterField_idx k (by decide))
  · rfl

theorem State.targetsForm_fieldWords (s : State) (gait : Nat) : (s.targetsForm gait).fieldWords = s.fieldWords :=
  State.forUpto_fieldWords _ _ _ fun k s => s.targetForm_fieldWords gait k

theorem State.beginFrame_fieldWords (s : State) (fired : Bool) : (s.beginFrame fired).fieldWords = s.fieldWords := by
  simp (disch := decide) only [State.beginFrame, State.withMir_fieldWords, State.withScan_fieldWords, apply_ite State.fieldWords,
    State.addSat_fieldWords, State.liveWrap_fieldWords, ite_self]

theorem State.dropEdges_fieldWords (s : State) : s.dropEdges.fieldWords = s.fieldWords :=
  State.forUpto_fieldWords _ _ _ fun _ s => s.withStamp_fieldWords _

/-- A frame boundary leaves W as it was written and brings it into force (R37). -/
theorem State.crossBoundary_fieldWords (s : State) : s.crossBoundary.fieldWords = (s.fieldWords.1, s.fieldWords.1) := by
  unfold State.crossBoundary
  extract_lets _ reached _ _ gNew gaitNew wNew keep ended closed kept inForce swept rechecked stepped targets credited
    powered begun
  have hended : ended.fieldWords = s.fieldWords :=
    (State.forUpto_fieldWords _ _ reached fun r s => s.streamEnd_fieldWords r).trans (s.at_fieldWords _)
  have hkept : kept.fieldWords = ended.fieldWords := by
    rw [State.farrierBoundary_fieldWords, State.mirrorBoundary_fieldWords, State.boundarySnapshots_fieldWords,
      State.gatherClose_fieldWords]
  have hswept : swept.fieldWords = inForce.fieldWords :=
    (State.nextGrid_fieldWords _ gNew).trans (inForce.scanChanges_fieldWords gaitNew wNew)
  have hrechecked : rechecked.fieldWords = swept.fieldWords := by
    dsimp only [rechecked]
    rw [apply_ite State.fieldWords, State.dumpRecheck_fieldWords, ite_self]
  have htargets : targets.fieldWords = rechecked.fieldWords := by
    rw [State.targetsForm_fieldWords, State.frameStep_fieldWords, State.epochBoundary_fieldWords]
  have hbegun : begun.fieldWords = powered.fieldWords := (State.dropEdges_fieldWords _).trans (powered.beginFrame_fieldWords _)
  have hpowered : powered.fieldWords = targets.fieldWords :=
    (State.withPower_fieldWords _ _).trans (targets.withStamp_fieldWords _)
  rw [State.forUpto_fieldWords _ _ _ fun r s => s.streamStart_fieldWords r, hbegun, hpowered, htargets, hrechecked, hswept,
    State.takeAll_fieldWords, hkept, hended]

/-- Settles O7: an accepted write stores W and does no more (`State.hostWrite_field`), a refused write leaves FIELD
(`State.hostWrite_field_refused`), and of a boundary's operations one alone changes the words of FIELD
(`State.takeAll_fieldWords`). -/
theorem fieldOfView : Obligations.FieldOfView := by
  refine ⟨fun s h w ha hb => ?_, fun s ha hd hc => ?_, fun s h w ho hoff hb hw => ?_⟩
  · obtain ⟨hu, hw⟩ := State.hostWrite_field hb ha
    have hf := s.stored_onlyRegs K.FIELD h
    obtain ⟨⟨hawake, -⟩, -, -, he⟩ := ha
    obtain ⟨hlo, hhi⟩ := State.field_range_of_accepted hb he
    exact ⟨_, (awake_next hawake).trans (congrArg _ hu), hw, hf.proj State.fieldW rfl, hlo, hhi, hf.regs, hf.rest⟩
  · exact ⟨_, exec_frameBoundary ha hd hc,
      congrArg (fun x : Word × Word => wordFld x.2 P.FIELD.W) s.crossBoundary_fieldWords⟩
  · have hu := State.hostWrite_field_refused hb ho hoff hw
    exact ⟨_, awake_next ho.1, State.fld_of_fieldWords hu, State.fieldW_of_fieldWords hu⟩

end Sys2Proof.Machine
end

section
/-! PROOFS. Return events and their credits (R61, R65, R69 to R71, R89): O12. -/
namespace Sys2Proof.Machine

/-! ### Maps all of whose entries change -/

theorem Map.find?_map {α β : Type} (f : α → β) (m : SMap α) (n : Nat) :
    Map.find? (m.map fun e => (e.1, f e.2)) n = (Map.find? m n).map f := by
  induction m with
  | nil => rfl
  | cons e m ih =>
    simp only [List.map_cons, Map.find?, ih]
    split <;> rfl

theorem Map.find?_of_lt {α : Type} {m : SMap α} {a n : Nat} (hm : Map.risesFrom a m = true) (h : n < a) :
    Map.find? m n = none := by
  induction m generalizing a with
  | nil => rfl
  | cons e m ih =>
    simp only [Map.risesFrom, Bool.and_eq_true, decide_eq_true_eq] at hm
    obtain ⟨hle, hrest⟩ := hm
    rw [Map.find?, if_neg (by omega), ih hrest (by omega)]

theorem Map.risesFrom_map {α β : Type} (f : α → β) (m : SMap α) (a : Nat) :
    Map.risesFrom a (m.map fun e => (e.1, f e.2)) = Map.risesFrom a m := by
  induction m generalizing a with
  | nil => rfl
  | cons e m ih => simp only [List.map_cons, Map.risesFrom, ih]

/-- Where the keys rise, leaving out the entries that equal the default changes no read. -/
theorem Map.get_filter_ne {α : Type} [DecidableEq α] (d : α) {m : SMap α} {a : Nat} (hm : Map.risesFrom a m = true) (n : Nat) :
    Map.get d (m.filter fun e => decide (e.2 ≠ d)) n = Map.get d m n := by
  induction m generalizing a with
  | nil => rfl
  | cons e m ih =>
    obtain ⟨k, v⟩ := e
    simp only [Map.risesFrom, Bool.and_eq_true] at hm
    have ih' := ih hm.2
    unfold Map.get at ih' ⊢
    by_cases hv : v = d
    · rw [List.filter_cons_of_neg (by simpa using hv), ih', Map.find?]
      split
      · next hk => rw [Map.find?_of_lt hm.2 (by omega), hv]; rfl
      · rfl
    · rw [List.filter_cons_of_pos (by simpa using hv), Map.find?, Map.find?]
      split
      · rfl
      · exact ih'

/-- A change of all entries that keeps the default is read at each key. -/
theorem Map.get_mapAll {α : Type} [DecidableEq α] {d : α} {f : α → α} (hf : f d = d) {m : SMap α} (hm : Map.wf d m = true)
    (n : Nat) : Map.get d ((m.map fun e => (e.1, f e.2)).filter fun e => decide (e.2 ≠ d)) n = f (Map.get d m n) := by
  obtain ⟨hrises, -⟩ := Bool.and_eq_true_iff.mp hm
  rw [Map.get_filter_ne d ((Map.risesFrom_map f m 0).trans hrises), Map.get, Map.find?_map, Map.get, ← hf, Option.getD_map, hf]

/-! ### What a channel's record is not read by -/

section
variable (s : State) (c : Nat) (f : Chan → Chan) (t : Nat)

@[simp] theorem State.ch_at (d : Nat) : (s.at_ t).ch d = s.ch d := id rfl
@[simp] theorem State.forceFld_at (g : FieldRef) : (s.at_ t).forceFld g = s.forceFld g := id rfl
@[simp] theorem State.domOn_at (b : Nat) : (s.at_ t).domOn b = s.domOn b := id rfl
@[simp] theorem State.openCol_at : (s.at_ t).openCol = s.openCol := id rfl
@[simp] theorem State.accepts_at (d : Nat) (k : Column) : (s.at_ t).accepts d k = s.accepts d k := id rfl
@[simp] theorem State.pathOf_at (d : Nat) : (s.at_ t).pathOf d = s.pathOf d := id rfl
@[simp] theorem State.stampOf_at : (s.at_ t).stampOf = s.stampOf := id rfl

@[simp] theorem State.withCh_farrier : (s.withCh c f).farrier = s.farrier := id rfl
@[simp] theorem State.forceFld_withCh (g : FieldRef) : (s.withCh c f).forceFld g = s.forceFld g := id rfl
@[simp] theorem State.openCol_withCh : (s.withCh c f).openCol = s.openCol := id rfl
@[simp] theorem State.accepts_withCh (d : Nat) (k : Column) : (s.withCh c f).accepts d k = s.accepts d k := id rfl
@[simp] theorem State.pathOf_withCh (d : Nat) : (s.withCh c f).pathOf d = s.pathOf d := id rfl
@[simp] theorem State.stampOf_withCh : (s.withCh c f).stampOf = s.stampOf := id rfl

@[simp] theorem State.ch_withCh_self : (s.withCh c f).ch c = f (s.ch c) := Map.get_modify_self _ _ _ _

theorem State.ch_withCh_ne {d : Nat} (h : d ≠ c) : (s.withCh c f).ch d = s.ch d := Map.get_modify_ne _ _ _ h

@[simp] theorem State.ch_withCol (frame seq d : Nat) (g : Column → Column) : (s.withCol frame seq g).ch d = s.ch d := id rfl
end

/-! ### The hold-off and the level test -/

theorem State.holdOff_none (s : State) (ns raw : Nat) : s.holdOff none ns raw = (false, s) := rfl

theorem State.holdOff_within (s : State) {a ns raw : Nat} (h : raw + 32 < a + 128 * ns) :
    s.holdOff (some a) ns raw = (true, s) := if_pos h

/-- Outside the deviation of its instant the level test tells whether the comparator is still high (R89). -/
theorem State.levelTest_clear {s : State} {stay : Nat} {high : Bool}
    (h : (stay + 128 < 128 * s.forceFld P.HIST_CFG.SAT_LEN ∧ high = false) ∨
      (128 * s.forceFld P.HIST_CFG.SAT_LEN + 128 ≤ stay ∧ high = true)) : s.levelTest stay = (high, s) := by
  rw [State.levelTest]
  rcases h with ⟨hlow, rfl⟩ | ⟨hhigh, rfl⟩
  · rw [if_pos hlow]
  · rw [if_neg (by omega), if_pos hhigh]

/-! ### RETURN_EVENT -/

/-- An event on input `c` begins its hold-off (R61). -/
def State.heldFrom (s : State) (c tick code : Nat) : State :=
  (s.at_ tick).withCh c fun x => { x with holdFrom := some (128 * tick + code) }

/-- And it takes one of the path's credits (R70). -/
def State.credited (s : State) (c tick code : Nat) : State :=
  (s.heldFrom c tick code).withCh c fun x => { x with credits := x.credits - 1 }

theorem State.ch_heldFrom (s : State) (c tick code : Nat) :
    (s.heldFrom c tick code).ch c = { s.ch c with holdFrom := some (128 * tick + code) } := State.ch_withCh_self _ _ _

theorem State.ch_credited (s : State) (c tick code : Nat) : (s.credited c tick code).ch c =
    { s.ch c with holdFrom := some (128 * tick + code), credits := (s.ch c).credits - 1 } := by
  rw [State.credited, State.ch_withCh_self, State.ch_heldFrom]

theorem State.ch_credited_ne (s : State) {c d : Nat} (tick code : Nat) (h : d ≠ c) :
    (s.credited c tick code).ch d = s.ch d := by
  rw [State.credited, State.ch_withCh_ne _ _ _ h, State.heldFrom, State.ch_withCh_ne _ _ _ h, State.ch_at]

/-- A disabled input takes no event. -/
theorem exec_returnEvent_disabled {s : State} {c tick code : Nat} (stay : Nat) (ha : s.Awake) (hc : c < 384) (hcode : code < 128)
    (hen : s.forceFld ((P.INPUT_CFG.EN.idx (c / 8)).sub (c % 8) 8) = 0) (hfree : (s.ch c).holdFrom = none) :
    exec (.returnEvent c tick code stay) s = .next (s.at_ tick) := by
  have he : exec (.returnEvent c tick code stay) s = execReturnEvent c tick code stay s := rfl
  rw [he, execReturnEvent, if_neg (by simp [ha]), if_neg (by omega)]
  simp only [State.ch_at, hfree, State.holdOff_none, State.forceBit, State.forceFld_at, hen]
  rfl

/-- Nor does an input within its hold-off (R61). -/
theorem exec_returnEvent_held {s : State} {c tick code a : Nat} (stay : Nat) (ha : s.Awake) (hc : c < 384) (hcode : code < 128)
    (hhold : (s.ch c).holdFrom = some a)
    (hin : 128 * tick + code + 32 < a + 128 * s.forceFld ((P.INPUT_CFG.HOLDOFF.idx (c / 8)).sub (c % 8) 8)) :
    exec (.returnEvent c tick code stay) s = .next (s.at_ tick) := by
  have he : exec (.returnEvent c tick code stay) s = execReturnEvent c tick code stay s := rfl
  rw [he, execReturnEvent, if_neg (by simp [ha]), if_neg (by omega)]
  simp only [State.ch_at, State.forceFld_at, hhold, State.holdOff_within (s.at_ tick) hin, true_or, or_true, if_true]

/-- What an event on an enabled, free input comes to (R69 to R71): with no credit and no open column it is dropped; with a credit
and no open column it is stray; and with a credit and an open column that its buffer accepts, while its window or its arming is
not decided, it waits with its stamp and its level. -/
theorem exec_returnEvent_taken {s : State} {c tick code : Nat} (stay : Nat) (ha : s.Awake) (hc : c < 384) (hcode : code < 128)
    (hen : s.forceFld ((P.INPUT_CFG.EN.idx (c / 8)).sub (c % 8) 8) = 1) (hfree : (s.ch c).holdFrom = none)
    (hdom : s.domOn (c / 32) = true) (hstrobe : s.farrier.strobe = false) (hlost : (s.ch c).lost = false) :
    ((s.ch c).credits = 0 → s.openCol = none → exec (.returnEvent c tick code stay) s =
      .next ((s.heldFrom c tick code).withCh c fun x => { x with rateDrops := wrapAdd 32 x.rateDrops 1 })) ∧
    (0 < (s.ch c).credits → s.openCol = none → exec (.returnEvent c tick code stay) s =
      .next ((s.credited c tick code).withCh c fun x => { x with stray := wrapAdd 32 x.stray 1 })) ∧
    (∀ (k : Column) (high : Bool), 0 < (s.ch c).credits → s.openCol = some k → s.accepts c k = true →
      (stay + 128 < 128 * s.forceFld P.HIST_CFG.SAT_LEN ∧ high = false) ∨
        (128 * s.forceFld P.HIST_CFG.SAT_LEN + 128 ≤ stay ∧ high = true) →
      k.fate (c / 24) (s.stampOf (s.pathOf c) c tick code k.epoch) = .undecided →
      exec (.returnEvent c tick code stay) s = .next ((s.credited c tick code).withCol k.frame k.seq fun x =>
        { x with waiting := x.waiting ++ [⟨c, s.stampOf (s.pathOf c) c tick code k.epoch, false, high⟩] })) := by
  have he : exec (.returnEvent c tick code stay) s = execReturnEvent c tick code stay s := rfl
  rw [he, execReturnEvent, if_neg (by simp [ha]), if_neg (by omega)]
  simp only [State.ch_at, hfree, State.holdOff_none, State.forceBit, State.forceFld_at, hen, State.domOn_at, hdom, hlost,
    State.withCh_farrier, State.at_farrier, hstrobe, State.openCol_withCh, State.openCol_at, BEq.rfl, Bool.not_true,
    Bool.false_eq_true, or_self, if_false]
  refine ⟨fun hcr hopen => ?_, fun hcr hopen => ?_, fun k high hcr hopen hacc hstay hfate => ?_⟩
  · rw [if_pos hcr]
    simp only [hopen]
    rfl
  · rw [if_neg (by omega)]
    simp only [hopen]
    rfl
  · rw [if_neg (by omega)]
    have hlevel : (s.credited c tick code).levelTest stay = (high, s.credited c tick code) := State.levelTest_clear hstay
    simp only [State.credited, State.heldFrom] at hlevel
    simp only [hopen, State.accepts_withCh, State.accepts_at, hacc, if_true, hlevel, State.stampOf_withCh, State.stampOf_at,
      State.pathOf_withCh, State.pathOf_at, hfate]
    rfl

/-! ### CREDIT_RESTORE -/

/-- Each path is given one credit, up to 8, and the restoration is marked (R70). -/
def State.creditGiven (s : State) : State :=
  s.withStamp fun p => { p with
    creditAt := some s.now
    chans := (p.chans.map (fun e => (e.1, { e.2 with credits := Nat.min 8 (e.2.credits + 1) }))).filter
      (fun e => decide (e.2 ≠ {})) }

theorem exec_creditRestore {s : State} {t : Nat} (ha : s.Awake) (h : ∀ a, s.stamp.creditAt = some a → a + 4 ≤ (s.at_ t).now) :
    exec (.creditRestore t) s = .next (s.at_ t).creditGiven := by
  have he : exec (.creditRestore t) s = execCreditRestore t s := rfl
  rw [he, execCreditRestore, if_neg (by simp [ha])]
  refine if_neg ?_
  rw [State.at_stamp]
  split
  · next a hat => simpa only [decide_eq_true_eq, Nat.not_lt] using h a hat
  · exact Bool.false_ne_true

theorem exec_creditRestore_early {s : State} {t a : Nat} (ha : s.Awake) (hat : s.stamp.creditAt = some a)
    (h : (s.at_ t).now < a + 4) : exec (.creditRestore t) s = .next (s.at_ t) := by
  have he : exec (.creditRestore t) s = execCreditRestore t s := rfl
  rw [he, execCreditRestore, if_neg (by simp [ha])]
  refine if_pos ?_
  rw [State.at_stamp, hat]
  exact decide_eq_true h

theorem State.ch_creditGiven {s : State} (h : Map.wf {} s.stamp.chans = true) (c : Nat) :
    s.creditGiven.ch c = { s.ch c with credits := min 8 ((s.ch c).credits + 1) } :=
  Map.get_mapAll (f := fun x : Chan => { x with credits := Nat.min 8 (x.credits + 1) }) rfl h c

/-- Settles O12: each command by its equation above, the channel's record by its reads after writes; a restoration is read at
each channel by `Map.get_mapAll`. -/
theorem returnCredits : Obligations.ReturnCredits := by
  unfold Obligations.ReturnCredits
  refine ⟨fun s c tick code stay ha hc hcode hen hfree hdom hstrobe hlost hopen hcr => ?_,
    fun s c tick code stay ha hc hcode hen hfree hdom hstrobe hlost hopen hcr => ?_, fun s t c ha hwf hlate => ?_,
    fun s c tick code stay high k x ha hc hcode hen hfree hdom hstrobe hlost hcr hopen hacc hstay hx hfate => ?_,
    fun s c tick code stay ha hc hcode hen hfree => exec_returnEvent_disabled stay ha hc hcode hen hfree,
    fun s c tick code stay a ha hc hcode hhold hin => exec_returnEvent_held stay ha hc hcode hhold hin,
    fun s t a ha hat hearly => exec_creditRestore_early ha hat hearly⟩
  · obtain ⟨-, hstray, -⟩ := exec_returnEvent_taken stay ha hc hcode hen hfree hdom hstrobe hlost
    have hch := (s.credited c tick code).ch_withCh_self c fun x => { x with stray := wrapAdd 32 x.stray 1 }
    rw [State.ch_credited] at hch
    exact ⟨_, hstray hcr hopen, by rw [hch], by rw [hch], by rw [hch], by rw [hch],
      fun d hd => (State.ch_withCh_ne _ _ _ hd).trans (s.ch_credited_ne tick code hd), rfl⟩
  · obtain ⟨hdrop, -, -⟩ := exec_returnEvent_taken stay ha hc hcode hen hfree hdom hstrobe hlost
    have hch := (s.heldFrom c tick code).ch_withCh_self c fun x => { x with rateDrops := wrapAdd 32 x.rateDrops 1 }
    rw [State.ch_heldFrom] at hch
    exact ⟨_, hdrop hcr hopen, by rw [hch], by rw [hch]; exact hcr, by rw [hch], rfl⟩
  · have hch := State.ch_creditGiven (s := s.at_ t) hwf c
    rw [State.ch_at] at hch
    exact ⟨_, exec_creditRestore ha hlate, by rw [hch], by rw [hch], rfl, rfl, rfl, rfl⟩
  · obtain ⟨-, -, hwait⟩ := exec_returnEvent_taken stay ha hc hcode hen hfree hdom hstrobe hlost
    have hch := s.ch_credited c tick code
    subst hx
    exact ⟨_, hwait k high hcr hopen hacc hstay hfate, by rw [State.ch_withCol, hch], by rw [State.ch_withCol, hch],
      by rw [State.ch_withCol, hch], rfl, fun d hd => s.ch_credited_ne tick code hd, rfl⟩

end Sys2Proof.Machine
end

section
/-! PROOFS. The statistics block's result, gate edges and monitor events (R74, R76, R79, R80, R298): O13. -/
namespace Sys2Proof.Machine

/-! ### STAT_RESULT_COMPLETE -/

theorem capN_mod (n v : Nat) : capN (2 ^ n - 1) v % 2 ^ n = capN (2 ^ n - 1) v := by
  refine Nat.mod_eq_of_lt ?_
  have hn : 0 < 2 ^ n := by positivity
  unfold capN
  split <;> omega

/-- The parameters of the result slot (R80). -/
def statKeys : List Nat := [K.STAT_HDR, K.STAT_MEAN, K.STAT_STD, K.STAT_MINMAX, K.STAT_MINMAX + 1]

/-- The result slot is filled with a run's result (R79, R80, R182). -/
def State.statShown (s : State) (r : StatRun) : State :=
  let n := r.nm1 + 1
  let header := ((s.slotDone K.STAT_HDR).setFld P.STAT_HDR.SRC r.src).setFld P.STAT_HDR.N_M1 r.nm1
  let mean := header.setFldI P.STAT_MEAN.MEAN (roundHalfEven (256 * r.s1) n)
  let deviation := mean.setFld P.STAT_STD.STD
    (capN (2 ^ 32 - 1) (roundSqrt 256 ((n : Int) * r.s2 - r.s1 * r.s1).toNat n))
  (deviation.setFldI (P.STAT_MINMAX.EXTREME.idx 0) r.lo).setFldI (P.STAT_MINMAX.EXTREME.idx 1) r.hi

theorem State.statShown_onlyRegs (s : State) (r : StatRun) : (s.statShown r).OnlyRegs s statKeys := by
  simp only [State.statShown, State.slotDone, State.addWrap, State.setFldI]
  iterate 8 refine State.OnlyRegs.setFld ?_ _ (by decide)
  exact State.OnlyRegs.refl _ _

theorem State.OnlyRegs.stamp {u s : State} {keys : List Nat} (h : u.OnlyRegs s keys) : u.stamp = s.stamp :=
  h.proj State.stamp rfl

/-- Every field of the slot, as R79 and R80 give it. -/
theorem State.statShown_fields (s : State) {r : StatRun} (hsrc : r.src < 32) (hn : r.nm1 < 65536) :
    (s.statShown r).fld P.STAT_HDR.SEQ = (s.fld P.STAT_HDR.SEQ + 1) % 65536 ∧ (s.statShown r).fld P.STAT_HDR.STATE = 1 ∧
    (s.statShown r).fld P.STAT_HDR.SRC = r.src ∧ (s.statShown r).fld P.STAT_HDR.N_M1 = r.nm1 ∧
    (s.statShown r).fld P.STAT_MEAN.MEAN = trunc 48 (roundHalfEven (256 * r.s1) (r.nm1 + 1)) ∧
    (s.statShown r).fld P.STAT_STD.STD =
      capN (2 ^ 32 - 1) (roundSqrt 256 (((r.nm1 + 1 : Nat) : Int) * r.s2 - r.s1 * r.s1).toNat (r.nm1 + 1)) ∧
    (s.statShown r).fld (P.STAT_MINMAX.EXTREME.idx 0) = trunc (P.STAT_MINMAX.EXTREME.idx 0).width r.lo ∧
    (s.statShown r).fld (P.STAT_MINMAX.EXTREME.idx 1) = trunc (P.STAT_MINMAX.EXTREME.idx 1).width r.hi := by
  have hseq : (⟨K.STAT_HDR, 63, 48⟩ : FieldRef) = P.STAT_HDR.SEQ := rfl
  have hstate : (⟨K.STAT_HDR, 47, 46⟩ : FieldRef) = P.STAT_HDR.STATE := rfl
  simp (disch := decide) only [State.statShown, State.slotDone, hseq, hstate, State.addWrap, State.setFldI, State.fld_setFld_self,
    State.fld_setFld_ne, State.fld_setFld_key, trunc_mod]
  refine ⟨Nat.mod_mod _ _, rfl, Nat.mod_eq_of_lt hsrc, Nat.mod_eq_of_lt hn, rfl, capN_mod 32 _, trivial, trivial⟩

theorem exec_statResultComplete {s : State} {r : StatRun} {rest : List StatRun} (t : Nat) (ha : s.Awake)
    (hr : s.stamp.stat.done = r :: rest) : exec (.statResultComplete t) s =
      .next (((s.at_ t).withStamp fun p => { p with stat := { p.stat with done := rest } }).statShown r) := by
  have he : exec (.statResultComplete t) s = execStatResultComplete t s := rfl
  rw [he, execStatResultComplete, if_neg (by simp [ha]), hr]
  simp only [State.statShown]

/-! ### A sample of the statistics block -/

/-- The device but for the parameters and the statistics block. -/
def State.offStat (s : State) : State := { s with regs := [], stamp := { s.stamp with stat := {} } }

theorem State.setReg_offStat (s : State) (key : Nat) (w : Word) : (s.setReg key w).offStat = s.offStat := id rfl

/-- `u` is `s` but for the statistics block and the header of its slot. -/
structure State.OnlyStat (u s : State) : Prop where
  regs : u.SameRegs s [K.STAT_HDR]
  rest : u.offStat = s.offStat

theorem State.OnlyStat.refl (s : State) : s.OnlyStat s := ⟨fun _ _ => rfl, rfl⟩

theorem State.OnlyStat.trans {u v s : State} (h : u.OnlyStat v) (h' : v.OnlyStat s) : u.OnlyStat s :=
  ⟨fun k hk => (h.regs k hk).trans (h'.regs k hk), h.rest.trans h'.rest⟩

/-- A change of the block alone. -/
theorem State.OnlyStat.withStamp (s : State) {f : Stamping → Stamping}
    (hf : ∀ p, { f p with stat := {} } = { p with stat := {} }) : (s.withStamp f).OnlyStat s :=
  ⟨fun _ _ => rfl, by simp only [State.offStat, State.withStamp, hf]⟩

theorem State.OnlyStat.slotStart (s : State) : (s.slotStart K.STAT_HDR).OnlyStat s := by
  unfold State.slotStart
  split
  · exact ⟨fun k hk => State.reg_setFld_ne s _ _ (by simpa using hk), s.setReg_offStat _ _⟩
  · exact .refl s

/-- A sample works on the block, and may show in the slot's header that a computation starts (R79, Table 7.7). -/
theorem State.OnlyStat.statSample (s : State) (src : Nat) (v : Int) : (s.statSample src v).OnlyStat s := by
  by_cases hrun : s.stamp.stat.running = true ∧ s.stamp.stat.src = src
  · have hstart : (if s.stamp.stat.again then s.slotStart K.STAT_HDR else s).OnlyStat s := by
      split
      · exact .slotStart s
      · exact .refl s
    rw [State.statSample, if_pos hrun]
    refine (State.OnlyStat.withStamp _ ?_).trans hstart
    exact fun _ => rfl
  · rw [State.statSample, if_neg hrun]
    exact .refl s

/-! ### GATE_EDGE -/

theorem State.gate_setGate_self (s : State) (g : Nat) (x : Gate) : (s.setGate g x).gate g = x := by
  by_cases hg : g = 0 <;> simp [State.gate, State.setGate, hg]

theorem State.gate_setGate_other (s : State) {g : Nat} (x : Gate) (hg : g < 2) :
    (s.setGate g x).gate (1 - g) = s.gate (1 - g) := by
  obtain rfl | rfl : g = 0 ∨ g = 1 := by omega
  · rfl
  · rfl

/-- An active edge at `x` is a sample of the gate's period and of its place in the sweep (R79). -/
def State.edgeSampled (s : State) (g x : Nat) : State :=
  let u := match s.stamp.stat.prev with
    | some y => s.statSample (16 + g) ((x : Int) - y)
    | none => s
  let v := u.withStamp fun p =>
    if p.stat.src = 16 + g ∧ p.stat.running then { p with stat := { p.stat with prev := some x } } else p
  v.statSample (18 + g) ((x : Int) - 128 * sweepStartI v.gait v.phi (sweepAt v.gait v.phi ((x / 128 : Nat) : Int)))

theorem State.OnlyStat.edgeSampled (s : State) (g x : Nat) : (s.edgeSampled g x).OnlyStat s := by
  unfold State.edgeSampled
  extract_lets u v
  have hu : u.OnlyStat s := by
    dsimp only [u]
    split
    · exact .statSample s _ _
    · exact .refl s
  have hv : v.OnlyStat u := State.OnlyStat.withStamp u fun p => by split <;> rfl
  exact ((State.OnlyStat.statSample v _ _).trans hv).trans hu

theorem exec_gateEdge_failed {s : State} {g tick code : Nat} (rising : Bool) (ha : s.Awake) (hg : g < 2) (hcode : code < 128)
    (hpath : s.pathFailed (448 + g) = true) : exec (.gateEdge g tick code rising) s = .next (s.at_ tick) := by
  have he : exec (.gateEdge g tick code rising) s = execGateEdge g tick code rising s := rfl
  rw [he, execGateEdge, if_neg (by simp [ha]), if_neg (by omega)]
  exact if_pos (.inl hpath)

/-- On a path that works an edge is kept with its stamp, as the gate's newest (R76). -/
theorem exec_gateEdge {s : State} {g tick code : Nat} (rising : Bool) (ha : s.Awake) (hg : g < 2) (hcode : code < 128)
    (hpath : s.pathFailed (448 + g) = false) (hstrobe : (s.farrier.strobe && s.farrier.gatesToo) = false) :
    ∃ x : Gate, x.edges.head? = some ((s.freeStamp (448 + g) (400 + g) tick code).toNat, rising) ∧
      x.resetLevel = (s.gate g).resetLevel ∧
      exec (.gateEdge g tick code rising) s = if rising != s.forceBit (P.GATE_CFG.POL.idx g)
        then .next (((s.at_ tick).setGate g x).edgeSampled g (s.freeStamp (448 + g) (400 + g) tick code).toNat)
        else .next ((s.at_ tick).setGate g x) := by
  have he : exec (.gateEdge g tick code rising) s = execGateEdge g tick code rising s := rfl
  have hfree : ¬((s.at_ tick).pathFailed (448 + g) = true ∨
      ((s.at_ tick).farrier.strobe = true ∧ (s.at_ tick).farrier.gatesToo = true)) := by
    rw [← Bool.and_eq_true]
    exact not_or.mpr ⟨Bool.eq_false_iff.mp hpath, Bool.eq_false_iff.mp hstrobe⟩
  rw [he, execGateEdge, if_neg (by simp [ha]), if_neg (by omega)]
  dsimp only
  rw [if_neg hfree]
  refine ⟨_, ?_, ?_, ite_congr rfl (fun _ => ?_) fun _ => rfl⟩
  · rfl
  · rfl
  · rfl

/-- The samples that an active edge gives leave the gate as the edge left it. -/
theorem gateEdge_kept {s : State} {g tick code : Nat} (rising : Bool) (ha : s.Awake) (hg : g < 2) (hcode : code < 128)
    (hpath : s.pathFailed (448 + g) = false) (hstrobe : (s.farrier.strobe && s.farrier.gatesToo) = false) :
    ∃ (x : Gate) (u : State), exec (.gateEdge g tick code rising) s = .next u ∧
      x.edges.head? = some ((s.freeStamp (448 + g) (400 + g) tick code).toNat, rising) ∧
      x.resetLevel = (s.gate g).resetLevel ∧ u.OnlyStat ((s.at_ tick).setGate g x) := by
  obtain ⟨x, hnew, hlevel, hu⟩ := exec_gateEdge rising ha hg hcode hpath hstrobe
  split at hu
  · exact ⟨x, _, hu, hnew, hlevel, .edgeSampled _ _ _⟩
  · exact ⟨x, _, hu, hnew, hlevel, .refl _⟩

/-! ### MONITOR_EVENT -/

/-- A monitor event on bank `b` begins its hold-off (R61). -/
def State.monHeld (s : State) (b raw : Nat) : State := s.withStamp fun p => { p with monHold := Map.insert p.monHold b raw }

/-- Pulse `j` of bank `b` in the column `k` is emitted at `x`, and its delay is gathered for the bank (R74, R298). -/
def State.emitted (s : State) (b : Nat) (k : Column) (j : Nat) (p : Pulse) (x : Int) : State :=
  (s.withCol k.frame k.seq fun c => c.setPulse b j { p with emission := some x }).withFar fun f => { f with
    fteSum := Map.modify 0 f.fteSum b (· + (x - k.fireStamp (p.fire.getD 0))), fteCount := Map.modify 0 f.fteCount b (· + 1) }

/-- The first fired pulse of bank `b` whose search interval holds the stamp `x` (R74). -/
def State.searched (s : State) (k : Column) (b : Nat) (x : Int) : Option (Nat × Pulse) :=
  (k.firedOf b).find? fun e => decide (k.fireStamp (e.2.fire.getD 0) ≤ x) &&
    decide (x ≤ k.fireStamp (e.2.fire.getD 0) + 128 * (s.forceFld P.MON_WIN.MON_WIN : Int))

/-- The first event in a fired pulse's search interval is its emission, and a sample of the bank's delay (R74, R79, R298). -/
theorem exec_monitorEvent {s : State} {b tick code j : Nat} {k : Column} {p : Pulse} {x : Int} (ha : s.Awake) (hb : b < 16)
    (hcode : code < 128) (hfree : Map.find? s.stamp.monHold b = none) (hstrobe : s.farrier.strobe = false)
    (hpath : s.pathFailed (432 + b) = false) (hopen : s.openCol = some k)
    (hx : x = s.stampOf (432 + b) (384 + b) tick code k.epoch) (hfound : s.searched k b x = some (j, p))
    (hp : p.emission = none) : exec (.monitorEvent b tick code) s = .next
      ((((s.at_ tick).monHeld b (128 * tick + code)).emitted b k j p x).statSample b (x - k.fireStamp (p.fire.getD 0))) := by
  have he : exec (.monitorEvent b tick code) s = execMonitorEvent b tick code s := rfl
  have hwork : ¬(((s.at_ tick).monHeld b (128 * tick + code)).farrier.strobe = true ∨
      ((s.at_ tick).monHeld b (128 * tick + code)).pathFailed (432 + b) = true) :=
    not_or.mpr ⟨Bool.eq_false_iff.mp hstrobe, Bool.eq_false_iff.mp hpath⟩
  have hopen' : ((s.at_ tick).monHeld b (128 * tick + code)).openCol = some k := hopen
  subst hx
  simp only [State.monHeld] at hwork hopen'
  rw [he, execMonitorEvent, if_neg (by simp [ha]), if_neg (by omega)]
  simp only [State.at_stamp, hfree, State.holdOff_none, Bool.false_eq_true, if_false, if_neg hwork, hopen']
  split
  · next hnone => exact absurd (hnone.symm.trans hfound) (Option.some_ne_none _).symm
  · next i q hsome =>
    obtain ⟨rfl, rfl⟩ := Prod.mk.inj (Option.some.inj (hsome.symm.trans hfound))
    exact if_neg (by simp [hp])

/-- Settles O13: each command by its equation above; what the statistics block makes of a sample stays in the block and in its
slot's header (`State.OnlyStat`). -/
theorem stampingEvents : Obligations.StampingEvents := by
  unfold Obligations.StampingEvents
  refine ⟨fun s t r rest ha hr hsrc hn => ?_, fun s g tick code rising ha hg hcode hpath hstrobe => ?_,
    fun s g tick code rising ha hg hcode hpath => exec_gateEdge_failed rising ha hg hcode hpath,
    fun s b tick code j k p ha hb hcode hfree hstrobe hpath hopen hfound hp => ?_⟩
  · obtain ⟨hseq, hstate, hsrc', hnum, hmean, hstd, hlo, hhi⟩ :=
      ((s.at_ t).withStamp fun p => { p with stat := { p.stat with done := rest } }).statShown_fields hsrc hn
    have honly := ((s.at_ t).withStamp fun p => { p with stat := { p.stat with done := rest } }).statShown_onlyRegs r
    have hu := exec_statResultComplete t ha hr
    generalize State.statShown _ r = u at hu hseq hstate hsrc' hnum hmean hstd hlo hhi honly
    refine ⟨u, hu, congrArg (fun p : Stamping => p.stat.done) honly.stamp, hseq, hstate, hsrc', hnum, hmean, hstd,
      hlo, hhi, fun n h1 h2 h3 h4 h5 => honly.regs n ?_, congrArg (fun u : State => { u with stamp := s.stamp }) honly.rest⟩
    simp only [statKeys, List.mem_cons, List.not_mem_nil, h1, h2, h3, h4, h5, or_self, not_false_eq_true]
  · obtain ⟨x, u, hu, hnew, hlevel, honly⟩ := gateEdge_kept rising ha hg hcode hpath hstrobe
    have hgate : ∀ i, u.gate i = ((s.at_ tick).setGate g x).gate i := fun i => of_frame honly.rest fun s => s.gate i
    have hself : u.gate g = x := (hgate g).trans (State.gate_setGate_self _ _ _)
    refine ⟨u, hu, hself ▸ hnew, hself ▸ hlevel, (hgate _).trans (State.gate_setGate_other _ x hg), honly.regs,
      of_frame honly.rest fun u => { u with regs := s.regs, stamp := s.stamp }⟩
  · have honly := State.OnlyStat.statSample
      (((s.at_ tick).monHeld b (128 * tick + code)).emitted b k j p (s.stampOf (432 + b) (384 + b) tick code k.epoch)) b
      (s.stampOf (432 + b) (384 + b) tick code k.epoch - k.fireStamp (p.fire.getD 0))
    exact ⟨_, exec_monitorEvent ha hb hcode hfree hstrobe hpath hopen rfl hfound hp,
      of_frame honly.rest fun s => s.scan.columns,
      (of_frame honly.rest fun s => Map.get 0 s.farrier.fteCount b).trans (Map.get_modify_self 0 s.farrier.fteCount b (· + 1)),
      honly.regs,
      of_frame honly.rest fun u => { u with regs := s.regs, scan := s.scan, stamp := s.stamp, farrier := s.farrier }⟩

end Sys2Proof.Machine
end

section
/-! PROOFS. The histogram memory of a state (`State.bins`), its canonical form (`binsWf`), and the ways in which states are built
out of states (O60). Below, a lemma `f_bins` says that `f` leaves the histogram memory, a lemma `f_wf` that `f`, which changes it,
keeps its form. -/
namespace Sys2Proof.Machine

/-- The bin words and the marks of the valid rows (R98, R99). -/
def State.bins (s : State) : SMap Word × SMap Bool := (s.hist.words, s.hist.rows)

/-- Their canonical form. -/
def binsWf (b : SMap Word × SMap Bool) : Prop := Map.wf 0 b.1 = true ∧ Map.wf false b.2 = true

theorem histWf_iff (s : State) : s.HistWf ↔ binsWf s.bins := Iff.rfl

theorem bins_congr {u s : State} (hw : u.hist.words = s.hist.words) (hr : u.hist.rows = s.hist.rows) : u.bins = s.bins :=
  congrArg₂ Prod.mk hw hr

theorem bins_ite_of {c : Prop} [Decidable c] {a b s : State} (ha : a.bins = s.bins) (hb : b.bins = s.bins) :
    (if c then a else b).bins = s.bins := by
  split
  · exact ha
  · exact hb

/-- A record update beside the histograms leaves them. -/
theorem bins_mk (s : State) (now fresh regs live force flagCnt shadows recs out pending scan stamp clusters bq masks evoth
    streams recorder emit_ mirror fe hk farrier sup bridle hitch host salsol ident nv attest power ctl dcl) :
    State.bins ⟨now, fresh, regs, live, force, flagCnt, shadows, recs, out, pending, scan, stamp, s.hist, clusters, bq, masks,
      evoth, streams, recorder, emit_, mirror, fe, hk, farrier, sup, bridle, hitch, host, salsol, ident, nv, attest, power, ctl,
      dcl⟩ = s.bins := rfl

theorem bins_dump (s : State) (d : Option Dump) : ({ s with hist := { s.hist with dump := d } } : State).bins = s.bins := rfl

theorem bins_ite (c : Prop) [Decidable c] (a b : State) : (if c then a else b).bins = if c then a.bins else b.bins :=
  apply_ite State.bins c a b

theorem forUpto_bins (n : Nat) (f : Nat → State → State) (s : State) (h : ∀ i s, (f i s).bins = s.bins) :
    (forUpto n f s).bins = s.bins := forUpto_keeps State.bins n f s h

theorem forEach_bins {ι : Type} (l : List ι) (f : ι → State → State) (s : State)
    (h : ∀ i s, (f i s).bins = s.bins) : (forEach l f s).bins = s.bins := forEach_keeps State.bins l f s h

theorem foldl_bins {ι : Type} (l : List ι) (f : State → ι → State) (s : State) (h : ∀ s i, (f s i).bins = s.bins) :
    (l.foldl f s).bins = s.bins := forEach_bins l (fun i s => f s i) s fun i s => h s i

theorem foldl_bins_snd {ι α : Type} (l : List ι) (f : α × State → ι → α × State) (a : α × State)
    (h : ∀ a i, (f a i).2.bins = a.2.bins) : (l.foldl f a).2.bins = a.2.bins := foldl_keeps_snd State.bins l f a h

theorem foldl_bins_fst {ι α : Type} (l : List ι) (f : State × α → ι → State × α) (a : State × α)
    (h : ∀ a i, (f a i).1.bins = a.1.bins) : (l.foldl f a).1.bins = a.1.bins := by
  induction l generalizing a with
  | nil => rfl
  | cons x l ih => rw [List.foldl_cons, ih, h]

theorem forUpto_wf (n : Nat) (f : Nat → State → State) (s : State) (h : ∀ i s, binsWf s.bins → binsWf (f i s).bins)
    (hb : binsWf s.bins) : binsWf (forUpto n f s).bins := by
  unfold forUpto
  generalize List.range n = l
  induction l generalizing s with
  | nil => exact hb
  | cons a l ih => exact ih _ (h a s hb)

theorem forEach_wf {ι : Type} (l : List ι) (f : ι → State → State) (s : State)
    (h : ∀ i s, binsWf s.bins → binsWf (f i s).bins) (hb : binsWf s.bins) : binsWf (forEach l f s).bins := by
  induction l generalizing s with
  | nil => exact hb
  | cons a l ih => exact ih _ (h a s hb)

end Sys2Proof.Machine
end

section
/-! PROOFS. The histogram memory under the operations on registers, flags, records, messages, the scan clock and the buffers. -/
namespace Sys2Proof.Machine

theorem State.at_bins (s : State) (t : Nat) : (State.at_ s t).bins = s.bins := by simp only [State.at_, bins_mk]

theorem State.emit_bins (s : State) (o : Out) : (State.emit s o).bins = s.bins := by simp only [State.emit, bins_mk]

theorem State.draw_bins (s : State) (w : Nat) : (State.draw s w).2.bins = s.bins := by simp only [State.draw, bins_mk]

theorem State.setReg_bins (s : State) (key : Nat) (w : Word) : (State.setReg s key w).bins = s.bins := by
  simp only [State.setReg, bins_mk]

theorem State.setFld_bins (s : State) (f : FieldRef) (v : Nat) : (State.setFld s f v).bins = s.bins := by
  simp only [State.setFld, State.setReg_bins]

theorem State.setFldI_bins (s : State) (f : FieldRef) (v : Int) : (State.setFldI s f v).bins = s.bins := by
  simp only [State.setFldI, State.setFld_bins]

theorem State.addWrap_bins (s : State) (f : FieldRef) (n : Nat) : (State.addWrap s f n).bins = s.bins := by
  simp only [State.addWrap, State.setFld_bins]

theorem State.addSat_bins (s : State) (f : FieldRef) (n : Nat) : (State.addSat s f n).bins = s.bins := by
  simp only [State.addSat, State.setFld_bins]

theorem State.setLive_bins (s : State) (f : FieldRef) (v : Nat) : (State.setLive s f v).bins = s.bins := by
  simp only [State.setLive, bins_mk]

theorem State.liveWrap_bins (s : State) (f : FieldRef) (n : Nat) : (State.liveWrap s f n).bins = s.bins := by
  simp only [State.liveWrap, State.setLive_bins]

theorem State.liveSat_bins (s : State) (f : FieldRef) (n : Nat) : (State.liveSat s f n).bins = s.bins := by
  simp only [State.liveSat, State.setLive_bins]

theorem State.takeForce_bins (s : State) (key : Nat) : (State.takeForce s key).bins = s.bins := by
  simp only [State.takeForce, bins_mk]

theorem State.snapshot_bins (s : State) (key : Nat) : (State.snapshot s key).bins = s.bins := by
  simp only [State.snapshot, State.setReg_bins]

theorem State.setFlag_bins (s : State) (f : FieldRef) :
    (State.setFlag s f).bins = s.bins := congrArg (fun h : Histograms => (h.words, h.rows)) (s.setFlag_hist f)

theorem State.clearFlag_bins (s : State) (key bit : Nat) (coinc : Bool) :
    (State.clearFlag s key bit coinc).bins = s.bins := by
  simp only [State.clearFlag, State.setFlag_bins, State.setFld_bins, bins_ite, ite_self, bins_mk]

theorem State.flagView_bins (s : State) : (State.flagView s).bins = s.bins := by
  simp only [State.flagView, State.setFld_bins]

theorem State.withRec_bins (s : State) (f : Recorder → Recorder) : (State.withRec s f).bins = s.bins := by
  simp only [State.withRec, bins_mk]

theorem State.setRecSt_bins (s : State) (v : Nat) : (State.setRecSt s v).bins = s.bins := by
  simp only [State.setRecSt, State.setFld_bins]

theorem State.recShow_bins (s : State) : (State.recShow s).bins = s.bins := by simp only [State.recShow, State.setFld_bins]

theorem State.recLayout_bins (s : State) : (State.recLayout s).bins = s.bins := by
  unfold State.recLayout; split <;> simp only [State.setFld_bins, State.withRec_bins]

theorem State.recFlow_bins (s : State) (t : Nat) : (State.recFlow s t).bins = s.bins := by
  simp only [State.recFlow, State.recLayout_bins, State.recShow_bins, State.withRec_bins, bins_ite, ite_self]

theorem State.recEnd_bins (s : State) (e : Nat) (aborted timeEnd : Bool) :
    (State.recEnd s e aborted timeEnd).bins = s.bins := by
  simp only [State.recEnd, State.addWrap_bins, State.setRecSt_bins, State.withRec_bins, bins_ite, ite_self]

theorem State.recPost_bins (s : State) (e : RecEntry) : (State.recPost s e).bins = s.bins := by
  simp only [State.recPost, State.recEnd_bins, State.withRec_bins, bins_ite, ite_self]

theorem State.recTrigger_bins (s : State) (terms : Nat) (e : RecEntry) : (State.recTrigger s terms e).bins = s.bins := by
  simp only [State.recTrigger, State.recPost_bins, State.setRecSt_bins, State.withRec_bins]

theorem State.recLevels_bins (s : State) (given state : Nat) : (State.recLevels s given state).bins = s.bins := by
  simp only [State.recLevels, State.withRec_bins]

theorem State.recArm_bins (s : State) (e : Nat) : (State.recArm s e).bins = s.bins := by
  simp only [State.recArm, State.recLevels_bins, State.setRecSt_bins, State.withRec_bins]

theorem State.recEvent_bins (s : State) (kind cluster : Nat) :
    (State.recEvent s kind cluster).bins = s.bins := congrArg (fun h : Histograms => (h.words,
      h.rows)) (s.recEvent_hist kind cluster)

theorem State.recInPost_bins (s : State) (k : RecTick) (terms : Nat) (e : RecEntry) :
    (State.recInPost s k terms e).bins = s.bins := by
  simp only [State.recInPost, State.recPost_bins, State.withRec_bins, bins_ite, ite_self]

theorem State.recAct_bins (s : State) (t given new pulsed sources : Nat) :
    (State.recAct s t given new pulsed sources).bins = s.bins := by
  unfold State.recAct
  dsimp only
  (repeat' split) <;> simp only [State.addSat_bins, State.recInPost_bins, State.recLevels_bins, State.recTrigger_bins,
    State.withRec_bins]

theorem State.recDue_bins (lim n : Nat) (s : State) : (State.recDue lim n s).bins = s.bins := by
  induction n generalizing s with
  | zero => rfl
  | succ n ih =>
    unfold State.recDue
    (repeat' split) <;> simp only [ih, State.recAct_bins, State.recFlow_bins, State.withRec_bins]

theorem State.recTo_bins (s : State) (lim t : Nat) : (State.recTo s lim t).bins = s.bins := by
  simp only [State.recTo, State.recDue_bins, State.recFlow_bins]

theorem execRecorderChange_bins (t levels pulsed : Nat) (s : State) :
    (stateOf s (execRecorderChange t levels pulsed s)).bins = s.bins := by
  simp only [execRecorderChange, State.at_bins, State.recAct_bins, State.recTo_bins, State.withRec_bins, stateOf_next,
    stateOf_ite, bins_ite, ite_self]

theorem execCaptureEnd_bins (t : Nat) (s : State) : (stateOf s (execCaptureEnd t s)).bins = s.bins := by
  simp only [execCaptureEnd, State.at_bins, State.recEnd_bins, State.recTo_bins, stateOf_next, stateOf_ite, bins_ite,
    ite_self]

theorem execRecorderRearm_bins (t : Nat) (s : State) : (stateOf s (execRecorderRearm t s)).bins = s.bins := by
  simp only [execRecorderRearm, State.at_bins, State.recArm_bins, State.recFlow_bins, State.recTo_bins,
    State.setRecSt_bins, State.withRec_bins, stateOf_next, stateOf_ite, bins_ite, ite_self]

theorem State.recRead_bins (s : State) : (State.recRead s).2.bins = s.bins := by
  unfold State.recRead
  dsimp only
  (repeat' split) <;> simp only [State.addWrap_bins, State.recShow_bins, State.recTo_bins, State.setFlag_bins,
    State.withRec_bins]

theorem State.recEnable_bins (s : State) (on : Bool) : (State.recEnable s on).bins = s.bins := by
  unfold State.recEnable
  dsimp only
  (repeat' split) <;> simp only [State.recArm_bins, State.recEnd_bins, State.recTo_bins, State.setRecSt_bins,
    State.withRec_bins]

theorem State.recSwTrig_bins (s : State) : (State.recSwTrig s).bins = s.bins := by
  simp only [State.recSwTrig, State.recAct_bins, State.recTo_bins]

theorem State.recStop_bins (s : State) : (State.recStop s).bins = s.bins := by
  simp only [State.recStop, State.recEnd_bins, State.recTo_bins]

theorem State.recPattern_bins (s : State) : (State.recPattern s).bins = s.bins := by
  simp only [State.recPattern, State.recLevels_bins, State.withRec_bins]

theorem State.seqFixed_bins (s : State) : (State.seqFixed s).bins = s.bins := by simp only [State.seqFixed, bins_mk]

theorem State.record_bins (s : State) (kind cls : Nat) (log notice : Bool) (data : List Byte) :
    (State.record s kind cls log notice data).bins = s.bins := congrArg (fun h : Histograms => (h.words,
      h.rows)) (s.record_hist kind cls log notice data)

theorem State.flushHeld_bins (s : State) : (State.flushHeld s).bins = s.bins := by
  simp only [State.flushHeld, State.addWrap_bins, State.record_bins, bins_ite, ite_self, bins_mk]

theorem State.dropNotices_bins (s : State) : (State.dropNotices s).bins = s.bins := by
  simp only [State.dropNotices, State.flushHeld_bins, bins_mk]

theorem State.slotStart_bins (s : State) (hdr : Nat) : (State.slotStart s hdr).bins = s.bins := by
  simp only [State.slotStart, State.setFld_bins, bins_ite, ite_self]

theorem State.slotDone_bins (s : State) (hdr : Nat) : (State.slotDone s hdr).bins = s.bins := by
  simp only [State.slotDone, State.addWrap_bins, State.setFld_bins]

theorem State.slotRead_bins (s : State) (hdr : Nat) : (State.slotRead s hdr).bins = s.bins := by
  simp only [State.slotRead, State.setFld_bins, bins_ite, ite_self]

theorem State.setMsix_bins (s : State) (fn : Nat) (m : Msix) : (State.setMsix s fn m).bins = s.bins := by
  simp only [State.setMsix, bins_mk]

theorem State.msix_bins (s : State) (fn vec : Nat) : (State.msix s fn vec).bins = s.bins := by
  simp only [State.msix, State.emit_bins, State.setMsix_bins, bins_ite, ite_self]

theorem State.msixFlush_bins (s : State) (fn : Nat) : (State.msixFlush s fn).bins = s.bins := by
  simp only [State.msixFlush, State.emit_bins, State.setMsix_bins, forEach_bins, implies_true, bins_ite, ite_self]

theorem State.columnLost_bins (s : State) (r frame column : Nat) (stales : Bool) :
    (State.columnLost s r frame column stales).bins = s.bins := by
  simp only [State.columnLost, State.liveWrap_bins, State.record_bins, State.setFlag_bins, bins_ite, ite_self, bins_mk]

theorem State.withHitch_bins (s : State) (f : Hitch → Hitch) : (State.withHitch s f).bins = s.bins := by
  simp only [State.withHitch, bins_mk]

theorem State.withLane_bins (s : State) (l : Nat) (f : LanePhy → LanePhy) : (State.withLane s l f).bins = s.bins := by
  simp only [State.withLane, State.withHitch_bins]

theorem State.withLink_bins (s : State) (k : Nat) (f : Link → Link) : (State.withLink s k f).bins = s.bins := by
  simp only [State.withLink, State.withHitch_bins]

theorem State.nextCtr_bins (s : State) (k : Nat) : (State.nextCtr s k).2.bins = s.bins := by
  unfold State.nextCtr; split <;> simp only [State.withLink_bins]

theorem State.skipsTo_bins (s : State) (l time : Nat) : (State.skipsTo s l time).bins = s.bins := by
  simp only [State.skipsTo, State.emit_bins, State.withLane_bins, bins_ite, ite_self]

theorem State.skipAt_bins (s : State) (l time : Nat) : (State.skipAt s l time).bins = s.bins := by
  simp only [State.skipAt, State.emit_bins, State.skipsTo_bins, State.withLane_bins]

theorem State.laneSend_bins (s : State) (l d : Nat) (words : List LaneWord) :
    (State.laneSend s l d words).bins = s.bins := by
  simp only [State.laneSend, State.emit_bins, State.skipAt_bins, State.skipsTo_bins, State.withLane_bins, bins_ite,
    ite_self]

theorem State.linkFrame_bins (s : State) (k len : Nat) (data : List Byte) :
    (State.linkFrame s k len data).bins = s.bins := by
  unfold State.linkFrame; split <;> simp only [State.laneSend_bins]

theorem State.elastic_bins (n : Nat) (ls : List Nat) (s : State) : (State.elastic n ls s).bins = s.bins := by
  induction n generalizing s with
  | zero => rfl
  | succ n ih =>
    unfold State.elastic
    dsimp only
    rw [ih, forEach_bins _ _ _ (fun i s => by simp only [State.withLane_bins])]
    simp only [State.draw_bins]

theorem State.elasticTo_bins (s : State) (l : Nat) : (State.elasticTo s l).bins = s.bins := by
  simp only [State.elasticTo, State.elastic_bins, State.withLane_bins, forEach_bins, implies_true, bins_ite, ite_self]

theorem State.hitchFrame_bins (s : State) (k : Nat) (m : List Byte) : (State.hitchFrame s k m).bins = s.bins := by
  simp only [State.hitchFrame, State.draw_bins, State.linkFrame_bins, bins_ite, ite_self]

theorem State.hitchSend_bins (s : State) (k type : Nat) (body : List Byte) :
    (State.hitchSend s k type body).bins = s.bins := by
  unfold State.hitchSend; dsimp only; (repeat' split) <;> simp only [State.hitchFrame_bins, State.nextCtr_bins]

theorem State.toChildren_bins (s : State) (type : Nat) (body : List Byte) :
    (State.toChildren s type body).bins = s.bins := by
  simp only [State.toChildren, State.hitchSend_bins, forEach_bins, implies_true]

theorem State.toParent_bins (s : State) (type : Nat) (body : List Byte) : (State.toParent s type body).bins = s.bins := by
  simp only [State.toParent, State.hitchSend_bins, forEach_bins, implies_true]

theorem State.hitchAsk_bins (s : State) (k type : Nat) (body : List Byte) :
    (State.hitchAsk s k type body).bins = s.bins := by
  simp only [State.hitchAsk, State.hitchSend_bins, State.withLink_bins]

theorem State.hitchAnswered_bins (s : State) (k type : Nat) : (State.hitchAnswered s k type).bins = s.bins := by
  simp only [State.hitchAnswered, State.withLink_bins]

theorem State.hitchUnprotect_bins (s : State) (k : Nat) (m : List Byte) : (State.hitchUnprotect s k m).2.bins = s.bins := by
  unfold State.hitchUnprotect; dsimp only; (repeat' split) <;> simp only [State.liveWrap_bins, State.withLink_bins]

theorem State.hitchReceive_bins (s : State) (l type : Nat) (wire : LaneStreams) :
    (State.hitchReceive s l type wire).2.bins = s.bins := by
  unfold State.hitchReceive
  dsimp only
  (repeat' split) <;> simp only [State.elasticTo_bins, State.hitchUnprotect_bins, State.liveWrap_bins]

theorem State.hitchReceive_eq_bins {s u : State} {l type : Nat} {wire : LaneStreams} {r : Option (List Byte)}
    (h : s.hitchReceive l type wire = (r, u)) : u.bins = s.bins := by
  rw [← s.hitchReceive_bins l type wire, h]

theorem State.formatErr_bins (s : State) : (State.formatErr s).bins = s.bins := by
  simp only [State.formatErr, State.liveWrap_bins]

theorem State.withScan_bins (s : State) (f : Scan → Scan) : (State.withScan s f).bins = s.bins := by
  simp only [State.withScan, bins_mk]

theorem State.epochDrawAfter_bins (s : State) (e0 : Nat) : (State.epochDrawAfter s e0).bins = s.bins := by
  simp only [State.epochDrawAfter, State.draw_bins, State.setFld_bins, State.withScan_bins]

theorem State.sendEpoch_bins (s : State) : (State.sendEpoch s).bins = s.bins := by
  simp only [State.sendEpoch, State.toChildren_bins]

theorem State.epochDraw_bins (s : State) : (State.epochDraw s).bins = s.bins := by
  simp only [State.epochDraw, State.epochDrawAfter_bins, State.sendEpoch_bins]

theorem State.startScanning_bins (s : State) : (State.startScanning s).bins = s.bins := by
  simp only [State.startScanning, State.epochDraw_bins, bins_ite, ite_self]

theorem State.epochReceive_bins (s : State) (e : Nat) (secret : List Byte) (tE : Nat) :
    (State.epochReceive s e secret tE).bins = s.bins := by
  simp only [State.epochReceive, State.setFld_bins, State.withScan_bins, bins_ite, ite_self]

theorem State.epochJoin_bins (s : State) (e : Nat) (secret : List Byte) (tE : Nat) :
    (State.epochJoin s e secret tE).bins = s.bins := by
  simp only [State.epochJoin, State.withScan_bins]

theorem State.deriveKey_bins (s : State) : (State.deriveKey s).bins = s.bins := by
  simp only [State.deriveKey, State.withScan_bins]

theorem State.epochTake_bins (s : State) (p : CodeEpoch) (tk : Nat) : (State.epochTake s p tk).bins = s.bins := by
  simp only [State.epochTake, State.setFld_bins, State.withScan_bins]

theorem State.epochApply_bins (s : State) (tkNext : Nat) : (State.epochApply s tkNext).bins = s.bins := by
  unfold State.epochApply
  dsimp only
  (repeat' split) <;> simp only [State.addSat_bins, State.epochTake_bins, State.setFld_bins, State.withScan_bins]

theorem State.waitPhase_bins (s : State) : (State.waitPhase s).bins = s.bins := by
  simp only [State.waitPhase, State.setFld_bins, bins_ite, ite_self]

theorem State.requestGait_bins (s : State) (g : Nat) : (State.requestGait s g).bins = s.bins := by
  simp only [State.requestGait, State.setFld_bins, bins_ite, ite_self]

theorem execEpochPeriodExpiry_bins (t : Nat) (s : State) : (stateOf s (execEpochPeriodExpiry t s)).bins = s.bins := by
  unfold execEpochPeriodExpiry
  (repeat' split) <;> simp only [State.at_bins, State.epochDraw_bins, State.withScan_bins, stateOf_next]

theorem execCodeKeyDerived_bins (t : Nat) (s : State) : (stateOf s (execCodeKeyDerived t s)).bins = s.bins := by
  simp only [execCodeKeyDerived, State.at_bins, State.deriveKey_bins, stateOf_next, stateOf_ite, bins_ite, ite_self]

theorem execSyncInEdge_bins (t : Nat) (s : State) : (stateOf s (execSyncInEdge t s)).bins = s.bins := by
  simp only [execSyncInEdge, State.at_bins, State.withScan_bins, stateOf_next, stateOf_ite, bins_ite, ite_self]

theorem State.setBuf_bins (s : State) (k : Nat) (b : Buf) : (State.setBuf s k b).bins = s.bins := rfl

theorem State.setBinWord_binsWf (s : State) (k bin : Nat) (w : Word) (hb : binsWf s.bins) :
    binsWf (State.setBinWord s k bin w).bins := s.setBinWord_wf k bin w hb

theorem State.freeze_bins (s : State) (k : Nat) (mask : Bool) : (State.freeze s k mask).bins = s.bins := by
  unfold State.freeze
  extract_lets b b' u hist v
  have hu : u.bins = s.bins := State.setBuf_bins _ _ _
  have hv : v.bins = s.bins := bins_ite_of ((bins_congr rfl rfl).trans hu) hu
  exact bins_ite_of ((bins_congr rfl rfl).trans hv) hv

theorem State.unfreeze_bins (s : State) (k : Nat) (mask : Bool) : (State.unfreeze s k mask).bins = s.bins := by
  simp only [State.unfreeze, State.setBuf_bins]

theorem State.poison_bins (s : State) (c buf frame : Nat) : (State.poison s c buf frame).bins = s.bins := by
  unfold State.poison
  extract_lets k u b v hist w
  have hv : v.bins = s.bins := (State.setBuf_bins _ _ _).trans (State.liveWrap_bins _ _ _)
  have hw : w.bins = v.bins := bins_congr rfl rfl
  split
  · exact hv
  · rw [State.record_bins, State.setFlag_bins, hw, hv]

end Sys2Proof.Machine
end

section
/-! PROOFS. The histogram memory under: emitters, templates, stamping, channels and histograms. -/
namespace Sys2Proof.Machine

theorem State.setCharger_bins (s : State) (k : Nat) (c : Charger) : (State.setCharger s k c).bins = s.bins := by
  simp only [State.setCharger, bins_mk]

theorem State.setChgState_bins (s : State) (k v : Nat) : (State.setChgState s k v).bins = s.bins := by
  simp only [State.setChgState, State.setFld_bins]

theorem State.chargerEnable_bins (s : State) (k : Nat) : (State.chargerEnable s k).bins = s.bins := by
  simp only [State.chargerEnable, State.setCharger_bins, State.setChgState_bins, bins_ite, ite_self]

theorem State.chargerFault_bins (s : State) (k cause banks : Nat) : (State.chargerFault s k cause banks).bins = s.bins := by
  simp only [State.chargerFault, State.record_bins, State.setCharger_bins, State.setChgState_bins, State.setFlag_bins,
    State.setFld_bins, forEach_bins, implies_true, bins_ite, ite_self]

theorem State.targetForm_bins (s : State) (gait k : Nat) : (State.targetForm s gait k).bins = s.bins := by
  simp only [State.targetForm, State.setChgState_bins, State.setFlag_bins, State.setFld_bins, bins_ite, ite_self]

theorem State.targetsForm_bins (s : State) (gait : Nat) : (State.targetsForm s gait).bins = s.bins := by
  simp only [State.targetsForm, State.targetForm_bins, forUpto_bins, implies_true]

theorem State.adaptUpdate_bins (s : State) (k : Nat) : (State.adaptUpdate s k).bins = s.bins := by
  simp only [State.adaptUpdate, State.setCharger_bins, State.setFld_bins, bins_ite, ite_self]

theorem State.adaptFix_bins (s : State) (k : Nat) : (State.adaptFix s k).bins = s.bins := by
  simp only [State.adaptFix, State.setFld_bins, bins_ite, ite_self]

theorem State.adaptTake_bins (s : State) : (State.adaptTake s).bins = s.bins := by
  simp only [State.adaptTake, State.setCharger_bins, State.setFld_bins, State.takeForce_bins, forUpto_bins, implies_true,
    bins_ite, ite_self]

theorem State.expTake_bins (s : State) : (State.expTake s).bins = s.bins := by
  simp only [State.expTake, State.takeForce_bins, bins_ite, ite_self, bins_mk]

theorem State.addWeight_bins (s : State) (b w : Nat) : (State.addWeight s b w).bins = s.bins := by
  simp only [State.addWeight, bins_mk]

theorem execChargerSample_bins (t charger code : Nat) (fltLow : Bool) (s : State) :
    (stateOf s (execChargerSample t charger code fltLow s)).bins = s.bins := by
  simp only [execChargerSample, State.at_bins, State.chargerFault_bins, State.setCharger_bins, State.setFld_bins,
    stateOf_next, stateOf_ite, bins_ite, ite_self]

theorem State.rampOne_bins (t k : Nat) (s : State) : (State.rampOne t k s).bins = s.bins := by
  simp only [State.rampOne, State.setCharger_bins, State.setChgState_bins, State.setFld_bins, bins_ite, ite_self]

theorem execRampTick_bins (t : Nat) (s : State) : (stateOf s (execRampTick t s)).bins = s.bins := by
  simp only [execRampTick, State.at_bins, State.rampOne_bins, forUpto_bins, implies_true, stateOf_next, stateOf_ite,
    bins_ite, ite_self]

theorem execChgTimeout_bins (t charger : Nat) (s : State) : (stateOf s (execChgTimeout t charger s)).bins = s.bins := by
  unfold execChgTimeout; dsimp only; (repeat' split) <;> simp only [State.at_bins, State.chargerFault_bins, stateOf_next]

theorem execChgExtFault_bins (t charger : Nat) (s : State) : (stateOf s (execChgExtFault t charger s)).bins = s.bins := by
  simp only [execChgExtFault, State.at_bins, State.chargerFault_bins, State.setCharger_bins, stateOf_next, stateOf_ite,
    bins_ite, ite_self]

theorem execExpSlotEnd_bins (t : Nat) (s : State) : (stateOf s (execExpSlotEnd t s)).bins = s.bins := by
  simp only [execExpSlotEnd, State.at_bins, stateOf_next, stateOf_ite, bins_ite, ite_self, bins_mk]

theorem State.strayMonitor_bins (s : State) (b : Nat) : (State.strayMonitor s b).bins = s.bins := by
  simp only [State.strayMonitor, State.chargerFault_bins, bins_ite, ite_self, bins_mk]

theorem State.chargerClear_bins (s : State) (k : Nat) : (State.chargerClear s k).bins = s.bins := by
  simp only [State.chargerClear, State.setCharger_bins, State.setChgState_bins, bins_ite, ite_self]

theorem State.withCluster_bins (s : State) (k : Nat) (f : Cluster → Cluster) : (State.withCluster s k f).bins = s.bins := by
  simp only [State.withCluster, bins_mk]

theorem State.withFar_bins (s : State) (f : Farrier → Farrier) : (State.withFar s f).bins = s.bins := by
  simp only [State.withFar, bins_mk]

theorem State.autoTemplate_bins (s : State) (k : Nat) (x : Template) : (State.autoTemplate s k x).bins = s.bins := by
  unfold State.autoTemplate; dsimp only; (repeat' split) <;> simp only [State.withCluster_bins, State.withFar_bins]

theorem State.gatherRestart_bins (s : State) (k : Nat) : (State.gatherRestart s k).bins = s.bins := by
  simp only [State.gatherRestart, State.withFar_bins]

theorem State.fadeEnd_bins (s : State) (k : Nat) : (State.fadeEnd s k).bins = s.bins := by
  simp only [State.fadeEnd, State.gatherRestart_bins, State.withCluster_bins, bins_ite, ite_self]

theorem State.tplHandOff_bins (s : State) (h : Nat) : (State.tplHandOff s h).bins = s.bins := by
  unfold State.tplHandOff
  refine forUpto_bins _ _ _ fun i s => ?_
  dsimp only
  (repeat' split) <;> simp only [State.autoTemplate_bins, State.fadeEnd_bins, State.withCluster_bins]

theorem State.withStamp_bins (s : State) (f : Stamping → Stamping) : (State.withStamp s f).bins = s.bins := by
  simp only [State.withStamp, bins_mk]

theorem State.withCh_bins (s : State) (c : Nat) (f : Chan → Chan) : (State.withCh s c f).bins = s.bins := by
  simp only [State.withCh, State.withStamp_bins]

theorem State.withSpare_bins (s : State) (u : Nat) (f : Spare → Spare) : (State.withSpare s u f).bins = s.bins := by
  simp only [State.withSpare, State.withStamp_bins]

theorem State.setGate_bins (s : State) (g : Nat) (x : Gate) : (State.setGate s g x).bins = s.bins := by
  simp only [State.setGate, State.withStamp_bins]

theorem State.withCol_bins (s : State) (frame seq : Nat) (f : Column → Column) :
    (State.withCol s frame seq f).bins = s.bins := by
  simp only [State.withCol, bins_mk]

theorem State.setPile_wf (s : State) (k bin : Nat) (hb : binsWf s.bins) : binsWf (State.setPile s k bin).bins := by
  unfold State.setPile; split <;> simp only [State.setBinWord_binsWf, hb]

theorem State.pileDrop_wf (s : State) (c : Nat) (k : Column) (tick : Nat) (hb : binsWf s.bins) :
    binsWf (State.pileDrop s c k tick).bins := by
  unfold State.pileDrop; dsimp only; (repeat' split) <;> simp only [State.draw_bins, State.setPile_wf, hb]

theorem State.dispose_bins (s : State) (k : Column) (e : RetEvent) (f : Fate) : (State.dispose s k e f).bins = s.bins := by
  unfold State.dispose; split <;> simp only [State.withCh_bins, State.withCol_bins, bins_ite, ite_self]

theorem State.settleCol_bins (s : State) (frame seq : Nat) (last : Bool) :
    (State.settleCol s frame seq last).bins = s.bins := by
  unfold State.settleCol; split <;> simp only [State.dispose_bins, State.withCol_bins, forEach_bins, implies_true]

theorem State.holdOff_bins (s : State) (start : Option Nat) (ns raw : Nat) :
    (State.holdOff s start ns raw).2.bins = s.bins := by
  unfold State.holdOff; dsimp only; (repeat' split) <;> simp only [State.draw_bins]

theorem State.levelTest_bins (s : State) (stay : Nat) : (State.levelTest s stay).2.bins = s.bins := by
  unfold State.levelTest; dsimp only; (repeat' split) <;> simp only [State.draw_bins]

theorem execReturnEvent_wf (channel tick code stay : Nat) (s : State) (hb : binsWf s.bins) :
    binsWf (stateOf s (execReturnEvent channel tick code stay s)).bins := by
  unfold execReturnEvent
  dsimp only
  (repeat' split) <;> simp only [State.at_bins, State.dispose_bins, State.holdOff_bins, State.levelTest_bins,
    State.pileDrop_wf, State.withCh_bins, State.withCol_bins, stateOf_next, hb]

theorem execCreditRestore_bins (t : Nat) (s : State) : (stateOf s (execCreditRestore t s)).bins = s.bins := by
  simp only [execCreditRestore, State.at_bins, State.withStamp_bins, stateOf_next, stateOf_ite, bins_ite, ite_self]

theorem State.statSample_bins (s : State) (src : Nat) (v : Int) : (State.statSample s src v).bins = s.bins := by
  simp only [State.statSample, State.slotStart_bins, State.withStamp_bins, bins_ite, ite_self]

theorem execStatResultComplete_bins (t : Nat) (s : State) : (stateOf s (execStatResultComplete t s)).bins = s.bins := by
  unfold execStatResultComplete
  dsimp only
  (repeat' split) <;> simp only [State.at_bins, State.setFld_bins, State.setFldI_bins, State.slotDone_bins,
    State.withStamp_bins, stateOf_next]

theorem State.statStart_bins (s : State) : (State.statStart s).bins = s.bins := by
  simp only [State.statStart, State.slotStart_bins, State.withStamp_bins]

theorem execArmingDecision_bins (bank pulse : Nat) (s : State) :
    (stateOf s (execArmingDecision bank pulse s)).bins = s.bins := by
  unfold execArmingDecision
  dsimp only
  (repeat' split) <;> simp only [State.at_bins, State.settleCol_bins, State.withCol_bins, stateOf_next]

theorem execGateEdge_bins (gate tick code : Nat) (rising : Bool) (s : State) :
    (stateOf s (execGateEdge gate tick code rising s)).bins = s.bins := by
  unfold execGateEdge
  dsimp only
  (repeat' split) <;> simp only [State.at_bins, State.setGate_bins, State.statSample_bins, State.withStamp_bins,
    stateOf_next]

theorem execMonitorEvent_bins (bank tick code : Nat) (s : State) :
    (stateOf s (execMonitorEvent bank tick code s)).bins = s.bins := by
  unfold execMonitorEvent
  dsimp only
  (repeat' split) <;> simp only [State.at_bins, State.holdOff_bins, State.statSample_bins, State.strayMonitor_bins,
    State.withCol_bins, State.withFar_bins, State.withStamp_bins, stateOf_next]

theorem execMonWinExpiry_bins (bank pulse : Nat) (s : State) :
    (stateOf s (execMonWinExpiry bank pulse s)).bins = s.bins := by
  unfold execMonWinExpiry; dsimp only; (repeat' split) <;> simp only [State.at_bins, State.withCol_bins, stateOf_next]

theorem State.setChan_bins (s : State) (c : Nat) (d : DmaChan) : (State.setChan s c d).bins = s.bins := by
  simp only [State.setChan, bins_mk]

theorem State.setStalled_bins (s : State) (c : Nat) (v : Bool) : (State.setStalled s c v).bins = s.bins := by
  simp only [State.setStalled, State.setFld_bins]

theorem State.dumpDone_bins (s : State) : (State.dumpDone s).bins = s.bins := by
  unfold State.dumpDone
  split
  · exact bins_ite_of (bins_congr rfl rfl) rfl
  · rfl

theorem State.dumpArrived_bins (s : State) (q : Dump) : (State.dumpArrived s q).bins = s.bins :=
  (State.dumpDone_bins _).trans (bins_congr rfl rfl)

theorem State.wordsOut_bins (s : State) (d : DmaDone) : (State.wordsOut s d).bins = s.bins := by
  unfold State.wordsOut; split <;> simp only [State.unfreeze_bins, bins_ite, ite_self]

theorem State.dumpMoved_bins (s : State) : (State.dumpMoved s).bins = s.bins := by
  unfold State.dumpMoved; split <;> simp only [State.dumpArrived_bins]

theorem State.itemDone_bins (s : State) (d : DmaDone) : (State.itemDone s d).bins = s.bins := by
  unfold State.itemDone
  split <;> simp only [State.addWrap_bins, State.dumpMoved_bins, State.msix_bins, State.setFld_bins, bins_ite, ite_self,
    bins_mk]

theorem State.stall_bins (s : State) (c cause va : Nat) : (State.stall s c cause va).bins = s.bins := by
  simp only [State.stall, State.liveWrap_bins, State.msix_bins, State.record_bins, State.setFlag_bins, State.setFld_bins,
    State.setStalled_bins]

theorem State.startWalk_bins (s : State) (c va : Nat) (resume write : Bool) :
    (State.startWalk s c va resume write).bins = s.bins := by
  simp only [State.startWalk, State.emit_bins, State.liveWrap_bins, State.setChan_bins]

theorem State.issue_bins (s : State) (c va pa : Nat) (bytes : List Byte) : (State.issue s c va pa bytes).bins = s.bins :=
  foldl_bins_fst _ _ _ fun _ _ => State.emit_bins _ _

theorem State.pump1_bins (s : State) (c : Nat) (t : State) (h : s.pump1 c = some t) : t.bins = s.bins := by
  unfold State.pump1 at h
  split at h
  · cases h
  · dsimp only at h
    split at h
    · cases h
    · split at h
      · cases h
      · split at h
        · cases h
          split <;> simp only [State.setChan_bins, bins_mk]
        · split at h
          · split at h
            · cases h
            · cases h
              simp only [State.itemDone_bins, State.setChan_bins]
          · split at h
            · cases h
              exact s.stall_bins _ _ _
            · split at h
              · cases h
                exact s.startWalk_bins _ _ _ _
              · cases h
            · cases h
              simp only [State.setChan_bins, bins_ite, State.wordsOut_bins, State.issue_bins, ite_self]

theorem State.pumpAux_bins (c n : Nat) (s : State) : (State.pumpAux c n s).bins = s.bins := by
  induction n generalizing s with
  | zero => rfl
  | succ n ih =>
    unfold State.pumpAux
    split
    · next h => rw [ih, State.pump1_bins _ _ _ h]
    · rfl

theorem State.pump_bins (s : State) (c : Nat) : (State.pump s c).bins = s.bins := by
  simp only [State.pump, State.pumpAux_bins]

theorem State.resumeWalk_bins (s : State) (c : Nat) : (State.resumeWalk s c).bins = s.bins := by
  simp only [State.resumeWalk, State.addWrap_bins, State.setChan_bins, State.stall_bins, State.startWalk_bins, bins_ite,
    ite_self]

theorem State.pumpAll_bins (s : State) : (State.pumpAll s).bins = s.bins := by
  simp only [State.pumpAll, State.pump_bins, State.resumeWalk_bins, forEach_bins, implies_true, bins_ite, ite_self]

theorem State.dmaPush_bins (s : State) (c : Nat) (i : DmaItem) : (State.dmaPush s c i).bins = s.bins := by
  simp only [State.dmaPush, State.pump_bins, State.setChan_bins]

theorem State.cache_bins (s : State) (t : TlbEntry) : (State.cache s t).bins = s.bins := by simp only [State.cache, bins_mk]

theorem State.walkDone_bins (s : State) (c : Nat) (l1 l2 : TableRead) : (State.walkDone s c l1 l2).bins = s.bins := by
  unfold State.walkDone
  dsimp only
  (repeat' split) <;> simp only [State.addWrap_bins, State.cache_bins, State.emit_bins, State.pumpAll_bins,
    State.setChan_bins, State.setStalled_bins, State.stall_bins]

theorem State.pushReply_bins (s : State) (r : Reply) : (State.pushReply s r).bins = s.bins := by
  simp only [State.pushReply, bins_mk]

theorem State.discardColumn_bins (s : State) (r frame : Nat) (i : DmaItem) :
    (State.discardColumn s r frame i).bins = s.bins := by
  simp only [State.discardColumn, State.columnLost_bins, State.setChan_bins, bins_ite, ite_self, bins_mk]

theorem State.chanIdle_bins (s : State) (c : Nat) : (State.chanIdle s c).bins = s.bins := by
  unfold State.chanIdle
  refine (forEach_bins _ _ _ fun i u => ?_).trans (bins_mk _ ..)
  split
  · exact State.discardColumn_bins _ _ _ _
  · exact State.discardColumn_bins _ _ _ _
  · split
    · exact bins_congr rfl rfl
    · rfl
  · exact State.addWrap_bins _ _ _
  · exact bins_mk _ ..
  · rfl

theorem State.abortItem_bins (s : State) (c : Nat) : (State.abortItem s c).bins = s.bins := by
  unfold State.abortItem
  dsimp only
  split
  · rfl
  · split
    · exact (State.discardColumn_bins _ _ _ _).trans (State.setChan_bins _ _ _)
    · exact (State.discardColumn_bins _ _ _ _).trans (State.setChan_bins _ _ _)
    · split
      · refine (State.setFlag_bins _ _).trans ((State.setFld_bins _ _ _).trans ((bins_congr rfl rfl).trans
          (bins_ite_of (State.setChan_bins _ _ _) ((forEach_bins _ _ _ fun _ _ => State.unfreeze_bins _ _ _).trans
            (State.setChan_bins _ _ _)))))
      · exact State.setChan_bins _ _ _
    · exact (State.addWrap_bins _ _ _).trans (State.setChan_bins _ _ _)
    · exact State.setChan_bins _ _ _

theorem State.abortFetch_bins (s : State) : (State.abortFetch s).bins = s.bins := by
  simp only [State.abortFetch, State.addWrap_bins, State.liveWrap_bins, State.pushReply_bins, State.setFld_bins, bins_ite,
    ite_self, bins_mk]

theorem State.dmaAbort_bins (s : State) (c : Nat) : (State.dmaAbort s c).bins = s.bins := by
  simp only [State.dmaAbort, State.abortFetch_bins, State.abortItem_bins, State.pump_bins, State.setChan_bins,
    State.setStalled_bins, bins_ite, ite_self]

theorem State.dmaResume_bins (s : State) (c : Nat) : (State.dmaResume s c).bins = s.bins := by
  simp only [State.dmaResume, State.resumeWalk_bins]

theorem State.showBm_bins (s : State) : (State.showBm s).bins = s.bins := by simp only [State.showBm, State.setFld_bins]

theorem State.accumulate_wf (s : State) (c buf frame bin r : Nat) (high : Bool) (hb : binsWf s.bins) :
    binsWf (State.accumulate s c buf frame bin r high).bins := by
  unfold State.accumulate
  dsimp only
  (repeat' split) <;> simp only [State.liveWrap_bins, State.poison_bins, State.setBinWord_binsWf, State.setFld_bins, hb]

theorem State.binOne_wf (s : State) (k : Column) (e : BinEvent) (hb : binsWf s.bins) :
    binsWf (State.binOne s k e).bins := by
  unfold State.binOne; dsimp only; (repeat' split) <;> simp only [State.accumulate_wf, State.withCol_bins, hb]

theorem State.binAll_wf (s : State) (c : Nat) (k : Column) (hb : binsWf s.bins) : binsWf (State.binAll s c k).bins :=
  forEach_wf _ _ _ (fun _ _ h => State.binOne_wf _ _ _ h) hb

theorem execHistogramAccumulate_wf (channel : Nat) (s : State) (hb : binsWf s.bins) :
    binsWf (stateOf s (execHistogramAccumulate channel s)).bins := by
  unfold execHistogramAccumulate; (repeat' split) <;> simp only [State.binOne_wf, stateOf_next, hb]

theorem State.dumpStart_bins (s : State) (frozenSrc anyCol : Bool) (column first count : Nat) :
    (State.dumpStart s frozenSrc anyCol column first count).bins = s.bins := by
  unfold State.dumpStart
  extract_lets u left h v
  have hu : u.bins = s.bins := (State.setFld_bins _ _ _).trans (State.setFld_bins _ _ _)
  split
  · exact (State.dumpDone_bins _).trans ((bins_dump u _).trans hu)
  · exact (bins_dump v _).trans ((State.setFld_bins _ _ _).trans hu)

theorem State.dumpRecheck_bins (s : State) : (State.dumpRecheck s).bins = s.bins := by
  unfold State.dumpRecheck
  split
  · split
    · exact (State.setFlag_bins _ _).trans (bins_congr rfl rfl)
    · rfl
  · rfl

theorem execDumpRecord_bins (s : State) : (stateOf s (execDumpRecord s)).bins = s.bins := by
  unfold execDumpRecord
  split
  · rfl
  · split
    · rfl
    · split
      · exact State.dumpDone_bins _
      · split
        · rfl
        · split
          · rw [stateOf_next, State.dumpDone_bins]
            exact bins_congr rfl rfl
          · split
            · rfl
            · split
              · exact (State.dmaPush_bins _ _ _).trans (bins_congr rfl rfl)
              · extract_lets u v hist
                have hv : v.bins = s.bins := (State.addWrap_bins _ _ _).trans (bins_ite_of rfl (State.unfreeze_bins _ _ _))
                rw [stateOf_next, State.dumpDone_bins, ← hv]
                exact bins_congr rfl rfl

theorem State.freezeView_bins (s : State) (c : Nat) : (State.freezeView s c).bins = s.bins := by
  simp only [State.freezeView, State.setReg_bins]

end Sys2Proof.Machine
end

section
/-! PROOFS. The histogram memory under: the mirror, columns, Paddocks, the extraction pipe, the stream and the processors. -/
namespace Sys2Proof.Machine

theorem State.withMir_bins (s : State) (f : Mirror → Mirror) : (State.withMir s f).bins = s.bins := by
  simp only [State.withMir, bins_mk]

theorem State.emitGates_bins (s : State) (hs ls t v : Nat) : (State.emitGates s hs ls t v).bins = s.bins := by
  simp only [State.emitGates, State.emit_bins, forEach_bins, implies_true]

theorem State.gatesOn_bins (s : State) (t : Nat) : (State.gatesOn s t).bins = s.bins := by
  unfold State.gatesOn; split <;> simp only [State.emitGates_bins, State.withMir_bins, bins_ite, ite_self]

theorem State.setDrive_bins (s : State) (b : Nat) (d : Drive) (t : Nat) : (State.setDrive s b d t).bins = s.bins := by
  simp only [State.setDrive, State.emitGates_bins, State.gatesOn_bins, State.withMir_bins]

theorem State.enterMir_bins (s : State) (st : Nat) : (State.enterMir s st).bins = s.bins := by
  simp only [State.enterMir, State.setDrive_bins, State.setFld_bins, State.withMir_bins, bins_ite, ite_self, bins_mk]

theorem State.parkCause_bins (s : State) (c : Nat) : (State.parkCause s c).bins = s.bins := by
  simp only [State.parkCause, State.setFld_bins, bins_ite, ite_self]

theorem State.blindPark_bins (s : State) (cause : Nat) : (State.blindPark s cause).bins = s.bins := by
  simp only [State.blindPark, State.enterMir_bins, State.parkCause_bins, State.record_bins, State.setFlag_bins,
    State.withMir_bins, bins_ite, ite_self]

theorem State.mirrorOff_bins (s : State) : (State.mirrorOff s).bins = s.bins := by
  simp only [State.mirrorOff, State.enterMir_bins, State.parkCause_bins, State.withMir_bins, bins_ite, ite_self]

theorem State.setAmpl_bins (s : State) (h : Nat) : (State.setAmpl s h).bins = s.bins := by
  simp only [State.setAmpl, State.setFld_bins, State.withMir_bins]

theorem State.tryRamp_bins (s : State) : (State.tryRamp s).bins = s.bins := by
  simp only [State.tryRamp, State.enterMir_bins, State.setAmpl_bins, State.startScanning_bins, bins_ite, ite_self]

theorem State.spinDown_bins (s : State) (cause : Nat) : (State.spinDown s cause).bins = s.bins := by
  simp only [State.spinDown, State.enterMir_bins, State.parkCause_bins, State.tryRamp_bins, State.withMir_bins, bins_ite,
    ite_self]

theorem State.parkFromRest_bins (s : State) : (State.parkFromRest s).bins = s.bins := by
  simp only [State.parkFromRest, State.enterMir_bins, State.setAmpl_bins, State.tryRamp_bins, State.withMir_bins]

theorem State.tryPark_bins (s : State) : (State.tryPark s).bins = s.bins := by
  unfold State.tryPark; (repeat' split) <;> simp only [State.parkFromRest_bins]

theorem State.bridgeFault_bins (s : State) (cause : Nat) (i : Int) : (State.bridgeFault s cause i).bins = s.bins := by
  simp only [State.bridgeFault, State.enterMir_bins, State.liveWrap_bins, State.parkCause_bins, State.record_bins,
    State.setDrive_bins, State.setFlag_bins, State.setFld_bins, State.withMir_bins, bins_ite, ite_self]

theorem State.mirDrv_bins (s : State) : (State.mirDrv s).bins = s.bins := by
  simp only [State.mirDrv, State.mirrorOff_bins, State.tryPark_bins, State.withMir_bins, bins_ite, ite_self]

theorem State.mirRun_bins (s : State) : (State.mirRun s).bins = s.bins := by
  simp only [State.mirRun, State.spinDown_bins, State.tryRamp_bins, State.withMir_bins, bins_ite, ite_self]

theorem State.limitIRef_bins (s : State) : (State.limitIRef s).bins = s.bins := by
  simp only [State.limitIRef, State.withMir_bins]

theorem State.chooseDrive_bins (s : State) (t : Nat) (i : Int) : (State.chooseDrive s t i).bins = s.bins := by
  simp only [State.chooseDrive, State.limitIRef_bins, State.setDrive_bins, State.withMir_bins, bins_ite, ite_self]

theorem State.currentAt_bins (s : State) (t : Nat) (code : Int) : (State.currentAt s t code).bins = s.bins := by
  simp only [State.currentAt, State.bridgeFault_bins, State.chooseDrive_bins, State.withMir_bins, bins_ite, ite_self]

theorem execCurrentSample_bins (t : Nat) (code : Int) (s : State) :
    (stateOf s (execCurrentSample t code s)).bins = s.bins := by
  simp only [execCurrentSample, State.at_bins, State.currentAt_bins, State.gatesOn_bins, State.mirDrv_bins,
    State.mirRun_bins, stateOf_next, stateOf_ite, bins_ite, ite_self]

theorem execBridgeStuck_bins (t : Nat) (code : Int) (s : State) : (stateOf s (execBridgeStuck t code s)).bins = s.bins := by
  simp only [execBridgeStuck, State.at_bins, State.bridgeFault_bins, stateOf_next, stateOf_ite, bins_ite, ite_self]

theorem execBridgeTakeover_bins (code : Int) (s : State) : (stateOf s (execBridgeTakeover code s)).bins = s.bins := by
  unfold execBridgeTakeover
  dsimp only
  (repeat' split) <;> simp only [State.at_bins, State.chooseDrive_bins, State.setDrive_bins, State.setFld_bins,
    State.withMir_bins, stateOf_next]

theorem State.angleTaken_bins (s : State) (q : Frac) (tn g : Nat) (invalid skipped : Bool) :
    (State.angleTaken s q tn g invalid skipped).bins = s.bins := by
  unfold State.angleTaken
  dsimp only
  (repeat' split) <;> simp only [State.blindPark_bins, State.setFldI_bins, State.tryPark_bins, State.withMir_bins]

theorem State.angleArrive_bins (s : State) (q : Frac) (tn g : Nat) (invalid skipped : Bool) :
    (State.angleArrive s q tn g invalid skipped).bins = s.bins := by
  simp only [State.angleArrive, State.angleTaken_bins, State.mirDrv_bins, State.mirRun_bins]

theorem execAngleStale_bins (t : Nat) (s : State) : (stateOf s (execAngleStale t s)).bins = s.bins := by
  simp only [execAngleStale, State.at_bins, State.blindPark_bins, State.withMir_bins, stateOf_next, stateOf_ite, bins_ite,
    ite_self]

theorem State.ampSlew_bins (s : State) : (State.ampSlew s).bins = s.bins := by
  simp only [State.ampSlew, State.enterMir_bins, State.setFld_bins, State.withMir_bins, bins_ite, ite_self]

theorem State.tickEnd_bins (s : State) : (State.tickEnd s).bins = s.bins := by
  simp only [State.tickEnd, State.mirRun_bins, State.tryRamp_bins, bins_ite, ite_self]

theorem State.learn_bins (s : State) (t : Int) (e : Int) : (State.learn s t e).bins = s.bins := by
  simp only [State.learn, State.setFlag_bins, State.withMir_bins, bins_ite, ite_self]

theorem State.mirMax_bins (s : State) (f : FieldRef) (v : Nat) : (State.mirMax s f v).bins = s.bins := by
  simp only [State.mirMax, State.setLive_bins]

theorem State.trackError_bins (s : State) (t : Int) (e : Int) : (State.trackError s t e).bins = s.bins := by
  simp only [State.trackError, State.enterMir_bins, State.mirMax_bins, State.withMir_bins, bins_ite, ite_self]

theorem State.positionLoop_bins (s : State) (t : Nat) : (State.positionLoop s t).bins = s.bins := by
  simp only [State.positionLoop, State.learn_bins, State.mirMax_bins, State.trackError_bins, State.withMir_bins, bins_ite,
    ite_self]

theorem execPositionLoopTick_bins (t : Nat) (s : State) : (stateOf s (execPositionLoopTick t s)).bins = s.bins := by
  simp only [execPositionLoopTick, State.ampSlew_bins, State.at_bins, State.mirDrv_bins, State.positionLoop_bins,
    State.tickEnd_bins, stateOf_next, stateOf_ite, bins_ite, ite_self]

theorem State.overrun_bins (s : State) : (State.overrun s).bins = s.bins := by
  simp only [State.overrun, State.blindPark_bins, State.liveWrap_bins, State.setFlag_bins, State.withMir_bins, bins_ite,
    ite_self]

theorem execOuterLoopOverrun_bins (t : Nat) (s : State) : (stateOf s (execOuterLoopOverrun t s)).bins = s.bins := by
  simp only [execOuterLoopOverrun, State.ampSlew_bins, State.at_bins, State.mirDrv_bins, State.overrun_bins,
    State.tickEnd_bins, stateOf_next, stateOf_ite, bins_ite, ite_self]

theorem State.mirrorBoundary_bins (s : State) : (State.mirrorBoundary s).bins = s.bins := by
  simp only [State.mirrorBoundary, State.enterMir_bins, State.spinDown_bins, State.withMir_bins, bins_ite, ite_self]

theorem State.rcLimit_bins (s : State) : (State.rcLimit s).bins = s.bins := by simp only [State.rcLimit, State.withMir_bins]

theorem State.rcClear_bins (s : State) : (State.rcClear s).bins = s.bins := by simp only [State.rcClear, State.withMir_bins]

theorem State.mirRestart_bins (s : State) : (State.mirRestart s).bins = s.bins := by
  simp only [State.mirRestart, State.parkFromRest_bins, State.setFld_bins, bins_ite, ite_self]

theorem State.fillAll_binsWf (s : State) (t : Nat) (m : BufMeta) (hb : binsWf s.bins) :
    binsWf (State.fillAll s t m).bins := s.fillAll_wf t m hb

theorem State.setBase_bins (s : State) (frame seq hPrev : Nat) : (State.setBase s frame seq hPrev).bins = s.bins := by
  unfold State.setBase; split <;> simp only [State.liveSat_bins, State.withCol_bins, bins_ite, ite_self]

theorem State.openColumn_wf (s : State) (t : Nat) (angle : Int) (skipped : Bool) (hb : binsWf s.bins) :
    binsWf (State.openColumn s t angle skipped).bins := by
  unfold State.openColumn
  dsimp only
  (repeat' split) <;> simp only [State.emit_bins, State.fillAll_binsWf, State.liveWrap_bins, State.setBase_bins,
    State.withMir_bins, State.withScan_bins, hb]

theorem execColumnTrigger_wf (s : State) (hb : binsWf s.bins) : binsWf (stateOf s (execColumnTrigger s)).bins := by
  unfold execColumnTrigger
  dsimp only
  (repeat' split) <;> simp only [State.at_bins, State.openColumn_wf, stateOf_next, hb]

theorem execColumnSkipTimeout_wf (s : State) (hb : binsWf s.bins) : binsWf (stateOf s (execColumnSkipTimeout s)).bins := by
  unfold execColumnSkipTimeout
  dsimp only
  (repeat' split) <;> simp only [State.at_bins, State.liveWrap_bins, State.openColumn_wf, stateOf_next, hb]

theorem execFireCommand_bins (bank pulse : Nat) (s : State) : (stateOf s (execFireCommand bank pulse s)).bins = s.bins := by
  unfold execFireCommand
  dsimp only
  (repeat' split) <;> simp only [State.addWeight_bins, State.at_bins, State.emit_bins, State.liveWrap_bins,
    State.withCol_bins, stateOf_next, bins_mk]

theorem State.handBuffers_bins (s : State) (c : Column) : (State.handBuffers s c).bins = s.bins := bins_congr rfl rfl

theorem State.dumpTarget_bins (s : State) (c : Column) : (State.dumpTarget s c).bins = s.bins := by
  unfold State.dumpTarget
  split
  · split
    · extract_lets par takes named chosen u v w h x h'
      have hv : v.bins = s.bins := (State.setFld_bins _ _ _).trans (State.setFld_bins _ _ _)
      have hw : w.bins = v.bins := forEach_bins _ _ _ fun _ _ => State.freeze_bins _ _ _
      have hx : x.bins = s.bins := (bins_dump w _).trans (hw.trans hv)
      exact bins_ite_of ((State.setFld_bins _ _ _).trans ((bins_dump x _).trans hx)) hx
    · rfl
  · rfl

theorem execHandOff_wf (s : State) (hb : binsWf s.bins) : binsWf (stateOf s (execHandOff s)).bins := by
  unfold execHandOff
  dsimp only
  (repeat' split) <;> simp only [State.at_bins, State.dumpTarget_bins, State.fillAll_binsWf, State.handBuffers_bins,
    State.setBase_bins, State.settleCol_bins, State.tplHandOff_bins, State.withCol_bins, State.withScan_bins, stateOf_next,
    hb]

theorem State.withSup_bins (s : State) (f : Supervisor → Supervisor) : (State.withSup s f).bins = s.bins := by
  simp only [State.withSup, bins_mk]

theorem State.withPad_bins (s : State) (p : Nat) (f : Paddock → Paddock) : (State.withPad s p f).bins = s.bins := by
  simp only [State.withPad, State.withSup_bins]

theorem State.paddockCount_bins (s : State) (c : Cand) (index : Nat) : (State.paddockCount s c index).bins = s.bins := by
  simp only [State.paddockCount, State.withSup_bins, forUpto_bins, implies_true, bins_ite, ite_self]

theorem State.engineCount_bins (s : State) (c : Cand) (index : Nat) : (State.engineCount s c index).bins = s.bins := by
  unfold State.engineCount
  dsimp only
  split
  · refine forUpto_bins _ _ _ fun p u => ?_
    split
    · generalize List.any _ _ = sure, List.any _ _ = maybe
      cases sure <;> cases maybe <;> simp only [if_true, if_false, Bool.false_eq_true, bins_ite, State.withSup_bins,
        State.draw_bins, ite_self]
    · rfl
  · rfl

theorem execIntervalEngineCandidate_bins (t : Nat) (s : State) :
    (stateOf s (execIntervalEngineCandidate t s)).bins = s.bins := by
  unfold execIntervalEngineCandidate
  dsimp only
  (repeat' split) <;> simp only [State.at_bins, State.engineCount_bins, State.withSup_bins, stateOf_next]

theorem State.showMerged_bins (s : State) : (State.showMerged s).bins = s.bins := by
  simp only [State.showMerged, State.setFld_bins]

theorem State.padTables_bins (s : State) (paddock : Nat) : (State.padTables s paddock).bins = s.bins := by
  simp only [State.padTables, State.setFld_bins, State.showMerged_bins, State.withPad_bins]

theorem State.retable_bins (s : State) : (State.retable s).bins = s.bins := by
  simp only [State.retable, State.showMerged_bins, State.withSup_bins]

theorem State.readTrack_bins (s : State) (c buf frame : Nat) : (State.readTrack s c buf frame).2.bins = s.bins := by
  unfold State.readTrack
  dsimp only
  refine (foldl_bins_snd _ _ _ ?_).trans rfl
  intro a i
  split <;> simp only [State.liveWrap_bins, State.poison_bins]

theorem State.maskViolation_bins (s : State) (k : Column) (c : Nat) (full : Bool) (v : List (Nat × Bool × Bool)) :
    (State.maskViolation s k c full v).bins = s.bins := by
  simp only [State.maskViolation, State.freeze_bins, State.liveWrap_bins, State.recEvent_bins, State.record_bins,
    State.withCol_bins, bins_ite, ite_self, bins_mk]

theorem State.maskTest_bins (s : State) (k : Column) (c : Nat) (t : Track) : (State.maskTest s k c t).bins = s.bins := by
  simp only [State.maskTest, State.maskViolation_bins, bins_ite, ite_self, bins_mk]

theorem State.extract_bins (s : State) (k : Column) (c : Nat) (t : Track) (poison : Bool) :
    (State.extract s k c t poison).bins = s.bins := congrArg (fun h : Histograms => (h.words,
      h.rows)) (s.extract_hist k c t poison)

theorem execPipeChannelRead_wf (channel : Nat) (s : State) (hb : binsWf s.bins) :
    binsWf (stateOf s (execPipeChannelRead channel s)).bins := by
  unfold execPipeChannelRead
  dsimp only
  (repeat' split) <;> simp only [State.at_bins, State.binAll_wf, State.extract_bins, State.maskTest_bins,
    State.readTrack_bins, State.setBuf_bins, State.withCol_bins, stateOf_next, hb]

theorem State.gatherCand_bins (s : State) (k : Nat) (c : Cand) : (State.gatherCand s k c).bins = s.bins := by
  simp only [State.gatherCand, State.withFar_bins, bins_ite, ite_self]

theorem State.edgeCand_bins (s : State) (k : Column) (c : Cand) : (State.edgeCand s k c).bins = s.bins := by
  unfold State.edgeCand; dsimp only; (repeat' split) <;> simp only [State.withFar_bins]

theorem State.satColumn_bins (s : State) (c : Cand) : (State.satColumn s c).bins = s.bins := by
  simp only [State.satColumn, State.setCharger_bins, bins_ite, ite_self]

theorem State.toQueue_bins (s : State) (region : Nat) (x : QueueRec) : (State.toQueue s region x).bins = s.bins := by
  simp only [State.toQueue, bins_mk]

theorem State.markerOut_bins (s : State) (m : EndMarker) : (State.markerOut s m).bins = s.bins := by
  simp only [State.markerOut, State.toQueue_bins, State.withCol_bins]

theorem State.markersOut_bins (s : State) (cluster : Nat) (l : List QueueRec) :
    (State.markersOut s cluster l).bins = s.bins := by
  induction l generalizing s with
  | nil => simp only [State.markersOut, State.withCluster_bins]
  | cons q l ih => cases q <;> simp only [State.markersOut, ih, State.markerOut_bins, State.withCluster_bins]

theorem execMomentSolve_bins (cluster : Nat) (s : State) : (stateOf s (execMomentSolve cluster s)).bins = s.bins := by
  unfold execMomentSolve
  dsimp only
  (repeat' split) <;> simp only [State.at_bins, State.edgeCand_bins, State.gatherCand_bins, State.markersOut_bins,
    State.paddockCount_bins, State.satColumn_bins, State.toQueue_bins, State.withSup_bins, stateOf_next, bins_mk]

theorem execColumnEndMarker_bins (cluster : Nat) (s : State) :
    (stateOf s (execColumnEndMarker cluster s)).bins = s.bins := by
  unfold execColumnEndMarker
  dsimp only
  (repeat' split) <;> simp only [State.at_bins, State.fadeEnd_bins, State.markersOut_bins, State.withCol_bins,
    stateOf_next]

theorem State.bgView_bins (s : State) (c : Nat) : (State.bgView s c).bins = s.bins := by
  simp only [State.bgView, State.setFld_bins]

theorem State.maskView_bins (s : State) (c : Nat) : (State.maskView s c).bins = s.bins := by
  simp only [State.maskView, State.setFld_bins]

theorem State.maskRelease_bins (s : State) (all co b0 b1 : Bool) (c : Nat) :
    (State.maskRelease s all co b0 b1 c).bins = s.bins := by
  unfold State.maskRelease
  dsimp only
  (repeat' split)
  · refine (foldl_bins _ _ _ ?_)
    intro s i
    simp only [State.unfreeze_bins]
  all_goals simp only [State.unfreeze_bins]

theorem State.withStream_bins (s : State) (r : Nat) (f : Stream → Stream) : (State.withStream s r f).bins = s.bins := by
  simp only [State.withStream, bins_mk]

theorem State.countSlots_bins (s : State) (plane : SMap Word) (valid : SMap Bool) (index row : Nat) :
    (State.countSlots s plane valid index row).bins = s.bins := by
  simp only [State.countSlots, State.liveWrap_bins, bins_ite, ite_self]

theorem State.updatePrev_bins (s : State) (r : Nat) (k : Column) (es : List Echo) :
    (State.updatePrev s r k es).bins = s.bins := by
  simp only [State.updatePrev, State.withStream_bins]

theorem State.sendColumn_bins (s : State) (r : Nat) (k : Column) (recs : List Rec) (whole : Bool) (unref : Nat) :
    (State.sendColumn s r k recs whole unref).bins = s.bins := by
  simp only [State.sendColumn, State.columnLost_bins, State.dmaPush_bins, State.liveWrap_bins, State.record_bins,
    State.setFlag_bins, State.withStream_bins, bins_ite, ite_self]

theorem State.endJobs_bins (s : State) (r : Nat) (k : Column) : (State.endJobs s r k).bins = s.bins := by
  simp only [State.endJobs, State.setFld_bins, forUpto_bins, implies_true, bins_ite, ite_self, bins_mk]

theorem State.releaseRest_bins (s : State) (r : Nat) : (State.releaseRest s r).bins = s.bins := by
  unfold State.releaseRest
  split <;> simp only [State.sendColumn_bins, forUpto_bins, implies_true, bins_ite, ite_self, bins_mk]

theorem State.cutFrame_bins (s : State) (drop : Bool) : (State.cutFrame s drop).bins = s.bins := by
  unfold State.cutFrame
  split
  · rfl
  · extract_lets opened first n counted rev c u v w
    have hu : u.bins = s.bins := State.withScan_bins _ _
    exact bins_ite_of hu ((forUpto_bins _ _ _ fun _ _ => State.releaseRest_bins _ _).trans
      ((bins_mk v ..).trans ((State.liveSat_bins _ _ _).trans hu)))

theorem execReleaseDeadline_bins (region : Nat) (s : State) : (stateOf s (execReleaseDeadline region s)).bins = s.bins := by
  unfold execReleaseDeadline
  dsimp only
  (repeat' split) <;> simp only [State.at_bins, State.countSlots_bins, State.endJobs_bins, State.liveWrap_bins,
    State.releaseRest_bins, State.sendColumn_bins, State.setLive_bins, State.updatePrev_bins, State.withCol_bins,
    State.withScan_bins, State.withStream_bins, forUpto_bins, implies_true, stateOf_next, bins_mk]

theorem execRingWriteback_bins (t region : Nat) (s : State) : (stateOf s (execRingWriteback t region s)).bins = s.bins := by
  unfold execRingWriteback
  dsimp only
  (repeat' split) <;> simp only [State.at_bins, State.pump_bins, State.setChan_bins, State.withStream_bins, stateOf_next]

theorem execCoalUsExpiry_bins (region : Nat) (s : State) : (stateOf s (execCoalUsExpiry region s)).bins = s.bins := by
  unfold execCoalUsExpiry
  dsimp only
  (repeat' split) <;> simp only [State.at_bins, State.msix_bins, State.withStream_bins, stateOf_next]

theorem State.pointRingEnable_bins (s : State) (r : Nat) : (State.pointRingEnable s r).bins = s.bins := by
  simp only [State.pointRingEnable, State.setFld_bins, State.withStream_bins]

theorem State.withCore_bins (s : State) (q : Nat) (f : EvothCore → EvothCore) : (State.withCore s q f).bins = s.bins := by
  simp only [State.withCore, bins_mk]

theorem State.setLevel_bins (s : State) (q v : Nat) : (State.setLevel s q v).bins = s.bins := by
  simp only [State.setLevel, State.setFld_bins]

theorem State.coreFault_bins (s : State) (q code addr : Nat) : (State.coreFault s q code addr).bins = s.bins := by
  simp only [State.coreFault, State.record_bins, State.setFld_bins, State.setLevel_bins, State.withCore_bins, bins_ite,
    ite_self]

theorem State.loadColumnProg_bins (s : State) (q : Nat) : (State.loadColumnProg s q).bins = s.bins := by
  simp only [State.loadColumnProg, State.withCore_bins]

theorem State.startBg_bins (s : State) (q : Nat) : (State.startBg s q).bins = s.bins := by
  unfold State.startBg
  split <;> simp only [State.setFld_bins, State.setLevel_bins, State.withCore_bins, bins_ite, ite_self]

theorem State.bgDo_bins (s : State) (q : Nat) (d : BgDue) : (State.bgDo s q d).bins = s.bins := by
  unfold State.bgDo
  split <;> simp only [State.setFld_bins, State.setLevel_bins, State.startBg_bins, State.withCore_bins, bins_ite, ite_self]

theorem State.bgAsk_bins (s : State) (q : Nat) (d : BgDue) : (State.bgAsk s q d).bins = s.bins := by
  simp only [State.bgAsk, State.bgDo_bins, State.withCore_bins, bins_ite, ite_self]

theorem State.holdBg_bins (s : State) (q : Nat) : (State.holdBg s q).bins = s.bins := by
  simp only [State.holdBg, State.setLevel_bins, State.withCore_bins, bins_ite, ite_self]

theorem State.endColumnJob_bins (s : State) (q : Nat) : (State.endColumnJob s q).bins = s.bins := by
  simp only [State.endColumnJob, State.setLevel_bins, State.withCore_bins, bins_ite, ite_self]

theorem State.repeatEnd_bins (s : State) (q : Nat) : (State.repeatEnd s q).bins = s.bins := by
  unfold State.repeatEnd
  dsimp only
  (repeat' split) <;> simp only [State.bgDo_bins, State.endColumnJob_bins, State.holdBg_bins, State.withCore_bins]

theorem State.evothRun_bins (s : State) (q : Nat) (f : EvothRegs → SMap (BitVec 32) → InstrStep) :
    (State.evothRun s q f).bins = s.bins := by
  unfold State.evothRun
  dsimp only
  (repeat' split) <;> simp only [State.coreFault_bins, State.repeatEnd_bins, State.withCore_bins]

theorem State.instrFault_bins (s : State) (q code addr : Nat) : (State.instrFault s q code addr).bins = s.bins := by
  simp only [State.instrFault, State.coreFault_bins, State.repeatEnd_bins, State.withCore_bins, bins_ite, ite_self]

theorem execEvothInstructionFetch_bins (core pc : Nat) (verdict : FetchVerdict) (s : State) :
    (stateOf s (execEvothInstructionFetch core pc verdict s)).bins = s.bins := by
  unfold execEvothInstructionFetch
  dsimp only
  (repeat' split) <;> simp only [State.evothRun_bins, State.instrFault_bins, State.withCore_bins, stateOf_next]

theorem execEvothRepeat_bins (core : Nat) (count : RepeatCount) (allowed : Bool) (s : State) :
    (stateOf s (execEvothRepeat core count allowed s)).bins = s.bins := by
  simp only [execEvothRepeat, State.evothRun_bins, stateOf_next, stateOf_ite, bins_ite, ite_self]

theorem execEvothModeSwitch_bins (core : Nat) (narrow : Bool) (s : State) :
    (stateOf s (execEvothModeSwitch core narrow s)).bins = s.bins := by
  simp only [execEvothModeSwitch, State.evothRun_bins, stateOf_next, stateOf_ite, bins_ite, ite_self]

theorem execEvothAccMove_bins (core acc : Nat) (dest : MoveDest) (s : State) :
    (stateOf s (execEvothAccMove core acc dest s)).bins = s.bins := by
  simp only [execEvothAccMove, State.draw_bins, State.evothRun_bins, stateOf_next, stateOf_ite, bins_ite, ite_self]

theorem execEvothLoadSc_bins (core : Nat) (value : BitVec 8) (s : State) :
    (stateOf s (execEvothLoadSc core value s)).bins = s.bins := by
  simp only [execEvothLoadSc, State.evothRun_bins, stateOf_next, stateOf_ite, bins_ite, ite_self]

theorem execEvothLoadCbsel_bins (core : Nat) (value : BitVec 24) (s : State) :
    (stateOf s (execEvothLoadCbsel core value s)).bins = s.bins := by
  simp only [execEvothLoadCbsel, State.evothRun_bins, stateOf_next, stateOf_ite, bins_ite, ite_self]

theorem State.drawAccess_bins (s : State) (u v : Option MemAccess) : (State.drawAccess s u v).2.bins = s.bins := by
  unfold State.drawAccess; split <;> simp only [State.draw_bins]

theorem execEvothMac_bins (core acc da db : Nat) (rest : MacRest) (s : State) :
    (stateOf s (execEvothMac core acc da db rest s)).bins = s.bins := by
  simp only [execEvothMac, State.drawAccess_bins, State.evothRun_bins, stateOf_next, stateOf_ite, bins_ite, ite_self]

theorem execEvothDataAccess_bins (core : Nat) (u v : Option MemAccess) (s : State) :
    (stateOf s (execEvothDataAccess core u v s)).bins = s.bins := by
  simp only [execEvothDataAccess, State.drawAccess_bins, State.evothRun_bins, stateOf_next, stateOf_ite, bins_ite, ite_self]

theorem execBkBlockRepeat_bins (core len count : Nat) (s : State) :
    (stateOf s (execBkBlockRepeat core len count s)).bins = s.bins := by
  simp only [execBkBlockRepeat, State.instrFault_bins, State.withCore_bins, stateOf_next, stateOf_ite, bins_ite, ite_self]

theorem execBkUnsupportedInstruction_bins (core : Nat) (s : State) :
    (stateOf s (execBkUnsupportedInstruction core s)).bins = s.bins := by
  simp only [execBkUnsupportedInstruction, State.instrFault_bins, stateOf_next, stateOf_ite, bins_ite, ite_self]

theorem State.loadColumnImage_bins (s : State) (q : Nat) : (State.loadColumnImage s q).bins = s.bins := by
  simp only [State.loadColumnImage, State.loadColumnProg_bins, State.withCore_bins]

theorem State.refineBoundary_bins (s : State) : (State.refineBoundary s).bins = s.bins := by
  simp only [State.refineBoundary, State.loadColumnImage_bins, State.setFld_bins, State.takeForce_bins, forUpto_bins,
    implies_true, bins_ite, ite_self, bins_mk]

theorem State.loadBg_bins (s : State) (q : Nat) (x : EvothImage) : (State.loadBg s q x).bins = s.bins := by
  simp only [State.loadBg, State.bgAsk_bins, bins_mk]

theorem State.dropBg_bins (s : State) (q : Nat) : (State.dropBg s q).bins = s.bins := by
  simp only [State.dropBg, State.bgAsk_bins, bins_mk]

theorem State.coreRestart_bins (s : State) (q : Nat) : (State.coreRestart s q).bins = s.bins := by
  simp only [State.coreRestart, State.bgAsk_bins, State.setFld_bins, State.withCore_bins, bins_ite, ite_self]

theorem State.bgEnables_bins (s : State) : (State.bgEnables s).bins = s.bins := by
  simp only [State.bgEnables, State.holdBg_bins, forUpto_bins, implies_true]

theorem execRowReady_bins (t row : Nat) (s : State) : (stateOf s (execRowReady t row s)).bins = s.bins := by
  unfold execRowReady; dsimp only; (repeat' split) <;> simp only [State.at_bins, State.withCol_bins, stateOf_next]

theorem execColumnJobStart_bins (t core : Nat) (s : State) : (stateOf s (execColumnJobStart t core s)).bins = s.bins := by
  unfold execColumnJobStart
  dsimp only
  (repeat' split) <;> simp only [State.at_bins, State.loadColumnProg_bins, State.setLevel_bins, State.withCore_bins,
    stateOf_next]

theorem execJobDispatch_bins (t core : Nat) (s : State) : (stateOf s (execJobDispatch t core s)).bins = s.bins := by
  simp only [execJobDispatch, State.at_bins, State.setLevel_bins, State.withCore_bins, stateOf_next, stateOf_ite,
    bins_ite, ite_self]

theorem execEvothReloadDone_bins (t region : Nat) (s : State) :
    (stateOf s (execEvothReloadDone t region s)).bins = s.bins := by
  unfold execEvothReloadDone
  dsimp only
  (repeat' split) <;> simp only [stateOf_next, State.at_bins]
  refine (forUpto_bins _ _ _ ?_).trans ?_
  · intro i s
    split <;> simp only [State.loadBg_bins, State.loadColumnImage_bins]
  · simp only [State.at_bins, bins_mk]

theorem State.coresLost_bins (s : State) (region : Nat) : (State.coresLost s region).bins = s.bins := by
  simp only [State.coresLost, State.setLevel_bins, State.withCore_bins, forUpto_bins, implies_true]

end Sys2Proof.Machine
end

section
/-! PROOFS. The histogram memory under: housekeeping, the front end, Farrier, the supervisor, the bridle and the team. -/
namespace Sys2Proof.Machine

theorem State.setHkc_bins (s : State) (v : Nat) (c : HkConv) : (State.setHkc s v c).bins = s.bins := by
  simp only [State.setHkc, bins_mk]

theorem State.setHacc_bins (s : State) (j : Nat) (a : Acc) : (State.setHacc s j a).bins = s.bins := by
  simp only [State.setHacc, bins_mk]

theorem State.hkStart_bins (s : State) (v : Nat) : (State.hkStart s v).bins = s.bins := by
  simp only [State.hkStart, State.setHkc_bins]

theorem State.hkWritten_bins (s : State) : (State.hkWritten s).bins = s.bins := by
  simp only [State.hkWritten, State.hkStart_bins, forUpto_bins, implies_true, bins_ite, ite_self]

theorem State.accMean_bins (s : State) (j : Nat) (a : Acc) (mean : Int) : (State.accMean s j a mean).bins = s.bins := by
  simp only [State.accMean, State.record_bins, State.setFlag_bins, State.setHacc_bins, bins_ite, ite_self]

theorem State.accTake_bins (s : State) (j : Nat) (v : Int) : (State.accTake s j v).bins = s.bins := by
  simp only [State.accTake, State.accMean_bins, State.setHacc_bins, bins_ite, ite_self]

theorem State.calRequest_bins (s : State) (cause : Nat) : (State.calRequest s cause).bins = s.bins := by
  simp only [State.calRequest, State.setFld_bins, bins_ite, ite_self, bins_mk]

theorem State.calTemp_bins (s : State) : (State.calTemp s).bins = s.bins := by
  simp only [State.calTemp, State.calRequest_bins, bins_ite, ite_self]

theorem State.accWritten_bins (s : State) (j : Nat) (old : Word) : (State.accWritten s j old).bins = s.bins := by
  simp only [State.accWritten, State.setHacc_bins]

theorem State.accSelect_bins (s : State) (j : Nat) (clr co : Bool) : (State.accSelect s j clr co).bins = s.bins := by
  simp only [State.accSelect, State.setFld_bins, State.setFldI_bins, State.setHacc_bins, bins_ite, ite_self]

theorem State.hkPowerUp_bins (s : State) : (State.hkPowerUp s).bins = s.bins := by
  simp only [State.hkPowerUp, State.hkWritten_bins, bins_mk]

theorem State.withFe_bins (s : State) (f : FrontEnd → FrontEnd) : (State.withFe s f).bins = s.bins := by
  simp only [State.withFe, bins_mk]

theorem State.withConv_bins (s : State) (v : Nat) (f : Conv → Conv) : (State.withConv s v f).bins = s.bins := by
  simp only [State.withConv, State.withFe_bins]

theorem State.withExc_bins (s : State) (j : Nat) (f : Exc → Exc) : (State.withExc s j f).bins = s.bins := by
  simp only [State.withExc, State.withFe_bins]

theorem State.rangeChange_bins (s : State) (v t r : Nat) (byHost : Bool) :
    (State.rangeChange s v t r byHost).bins = s.bins := by
  simp only [State.rangeChange, State.liveWrap_bins, State.withConv_bins, bins_ite, ite_self]

theorem State.takeLin_bins (s : State) (v t : Nat) : (State.takeLin s v t).bins = s.bins := by
  unfold State.takeLin; split <;> simp only [State.withConv_bins, bins_ite, ite_self]

theorem State.tsrc_bins (s : State) (v tn : Nat) : (State.tsrc s v tn).2.bins = s.bins := by
  unfold State.tsrc; dsimp only; (repeat' split) <;> simp only [State.draw_bins]

theorem State.crossed_bins (s : State) (v : Nat) (upper : Bool) (q tn : Nat) :
    (State.crossed s v upper q tn).bins = s.bins := by
  simp only [State.crossed, State.record_bins, State.setFlag_bins]

theorem State.thresholds_bins (s : State) (v q tn : Nat) : (State.thresholds s v q tn).bins = s.bins := by
  simp only [State.thresholds, State.crossed_bins, State.withConv_bins, bins_ite, ite_self]

theorem State.autoRange_bins (s : State) (v k tn : Nat) (code : Int) : (State.autoRange s v k tn code).bins = s.bins := by
  simp only [State.autoRange, State.rangeChange_bins, State.withConv_bins, bins_ite, ite_self]

theorem State.outputValue_bins (s : State) (v tn range : Nat) (code : Int) (bad : Bool) :
    (State.outputValue s v tn range code bad).2.bins = s.bins := by
  unfold State.outputValue; split <;> simp only [State.setFlag_bins, State.tsrc_bins, bins_ite, ite_self]

theorem State.resultWords_bins (s : State) (v cause preset range tn q : Nat) (rtrans unset : Bool) (code : Int) :
    (State.resultWords s v cause preset range tn q rtrans unset code).bins = s.bins := by
  simp only [State.resultWords, State.addWrap_bins, State.setFld_bins, State.setFldI_bins]

theorem State.toEngine_bins (s : State) (v : Nat) (x : AngIn) : (State.toEngine s v x).bins = s.bins := by
  simp only [State.toEngine, State.withFe_bins, bins_ite, ite_self]

theorem execConverterOutput_bins (conv : Nat) (bits : List Bool) (s : State) :
    (stateOf s (execConverterOutput conv bits s)).bins = s.bins := by
  unfold execConverterOutput
  dsimp only
  (repeat' split) <;> simp only [State.at_bins, State.autoRange_bins, State.outputValue_bins, State.resultWords_bins,
    State.takeLin_bins, State.thresholds_bins, State.toEngine_bins, State.withConv_bins, stateOf_next]

theorem execAngleSample_bins (s : State) : (stateOf s (execAngleSample s)).bins = s.bins := by
  unfold execAngleSample
  dsimp only
  (repeat' split) <;> simp only [State.angleArrive_bins, State.withFe_bins, stateOf_next]

theorem execOverloadDetected_begins_bins (t conv : Nat) (s : State) :
    (execOverloadDetected.begins t conv s).bins = s.bins :=
  (State.setFlag_bins _ _).trans ((State.liveWrap_bins _ _ _).trans (State.withConv_bins _ _ _))

theorem execOverloadDetected_bins (t conv : Nat) (s : State) :
    (stateOf s (execOverloadDetected t conv s)).bins = s.bins := by
  unfold execOverloadDetected
  dsimp only
  (repeat' split) <;> simp only [stateOf_next, execOverloadDetected_begins_bins, State.withConv_bins, State.at_bins]

theorem execImpedanceCheckStart_bins (t conv : Nat) (s : State) :
    (stateOf s (execImpedanceCheckStart t conv s)).bins = s.bins := by
  simp only [execImpedanceCheckStart, State.at_bins, State.emit_bins, State.withConv_bins, stateOf_next, stateOf_ite,
    bins_ite, ite_self]

theorem State.impShow_bins (s : State) (conv : Nat) (now_ : List Bool) : (State.impShow s conv now_).bins = s.bins := by
  simp only [State.impShow, State.setFld_bins, forUpto_bins, implies_true]

theorem execImpedanceCheckEnd_bins (conv zp zn : Nat) (s : State) :
    (stateOf s (execImpedanceCheckEnd conv zp zn s)).bins = s.bins := by
  unfold execImpedanceCheckEnd
  dsimp only
  (repeat' split) <;> simp only [State.at_bins, State.impShow_bins, State.record_bins, State.setFld_bins,
    State.withConv_bins, forEach_bins, implies_true, stateOf_next]

theorem State.impClear_bins (s : State) (v : Nat) : (State.impClear s v).bins = s.bins := by
  simp only [State.impClear, State.withConv_bins, bins_ite, ite_self]

theorem execExcComplianceFault_bins (t source : Nat) (s : State) :
    (stateOf s (execExcComplianceFault t source s)).bins = s.bins := by
  simp only [execExcComplianceFault, State.at_bins, State.record_bins, State.setFlag_bins, State.withExc_bins,
    stateOf_next, stateOf_ite, bins_ite, ite_self]

theorem execExcComplianceRestored_bins (t source : Nat) (s : State) :
    (stateOf s (execExcComplianceRestored t source s)).bins = s.bins := by
  simp only [execExcComplianceRestored, State.at_bins, State.withExc_bins, stateOf_next, stateOf_ite, bins_ite, ite_self]

theorem State.senseExc_bins (s : State) (j t : Nat) : (State.senseExc s j t).bins = s.bins := by
  simp only [State.senseExc, State.emit_bins, bins_ite, ite_self]

theorem State.sensePins_bins (s : State) (pins : List Nat) (t : Nat) : (State.sensePins s pins t).bins = s.bins := by
  simp only [State.sensePins, State.emit_bins, forEach_bins, implies_true]

theorem State.senseOff_bins (s : State) (pins : List Nat) (t : Nat) : (State.senseOff s pins t).bins = s.bins := by
  simp only [State.senseOff, State.sensePins_bins, bins_ite, ite_self]

theorem State.senseBias_bins (s : State) (t : Nat) : (State.senseBias s t).bins = s.bins := by
  simp only [State.senseBias, State.emit_bins, bins_ite, ite_self]

theorem execChopPhase_bins (source : Nat) (s : State) : (stateOf s (execChopPhase source s)).bins = s.bins := by
  simp only [execChopPhase, State.at_bins, State.senseExc_bins, State.withExc_bins, stateOf_next, stateOf_ite, bins_ite,
    ite_self]

theorem execSyncReset_bins (conv : Nat) (s : State) : (stateOf s (execSyncReset conv s)).bins = s.bins := by
  unfold execSyncReset; dsimp only; (repeat' split) <;> simp only [State.at_bins, State.withConv_bins, stateOf_next]

theorem State.askSync_bins (s : State) (v t : Nat) : (State.askSync s v t).bins = s.bins := by
  simp only [State.askSync, State.withConv_bins]

theorem execFoutPeriodEnd_bins (t output : Nat) (s : State) : (stateOf s (execFoutPeriodEnd t output s)).bins = s.bins := by
  unfold execFoutPeriodEnd
  dsimp only
  (repeat' split) <;> simp only [State.at_bins, State.emit_bins, State.withFe_bins, stateOf_next]

theorem State.convWritten_bins (s : State) (v : Nat) (cov old : Word) : (State.convWritten s v cov old).bins = s.bins := by
  simp only [State.convWritten, State.askSync_bins, State.rangeChange_bins, State.withConv_bins, bins_ite, ite_self]

theorem State.excStart_bins (s : State) (j nx : Nat) : (State.excStart s j nx).bins = s.bins := by
  simp only [State.excStart, State.senseExc_bins, State.withExc_bins]

theorem State.excWritten_bins (s : State) (j : Nat) (old : Word) : (State.excWritten s j old).bins = s.bins := by
  simp only [State.excWritten, State.excStart_bins, State.senseExc_bins, State.senseOff_bins, State.withExc_bins, bins_ite,
    ite_self]

theorem State.feWritten_bins (s : State) (key : Nat) (cov old new : Word) :
    (State.feWritten s key cov old new).bins = s.bins := by
  simp only [State.feWritten, State.askSync_bins, State.convWritten_bins, State.excWritten_bins, State.impClear_bins,
    State.senseBias_bins, State.senseOff_bins, State.setReg_bins, State.takeLin_bins, State.withConv_bins,
    State.withFe_bins, forEach_bins, implies_true, bins_ite, ite_self]

theorem State.foutsLow_bins (s : State) : (State.foutsLow s).bins = s.bins := by
  simp only [State.foutsLow, State.emit_bins, State.withFe_bins, forEach_bins, implies_true, bins_mk]

theorem State.impStop_bins (s : State) : (State.impStop s).bins = s.bins := by
  simp only [State.impStop, State.sensePins_bins, State.withConv_bins, forUpto_bins, implies_true, bins_ite, ite_self]

theorem State.feOff_bins (s : State) : (State.feOff s).bins = s.bins := by
  simp only [State.feOff, State.foutsLow_bins, State.impStop_bins, State.sensePins_bins, State.withFe_bins]

theorem State.feOn_bins (s : State) : (State.feOn s).bins = s.bins := by
  simp only [State.feOn, State.askSync_bins, State.excStart_bins, State.senseBias_bins, forUpto_bins, implies_true,
    bins_ite, ite_self]

theorem State.eitherRound_bins (s : State) (exact : Bool) (q : Nat) : (State.eitherRound s exact q).2.bins = s.bins := by
  unfold State.eitherRound; split <;> simp only [State.draw_bins]

theorem State.groupTemp_bins (s : State) (g : Nat) : (State.groupTemp s g).2.bins = s.bins := by
  unfold State.groupTemp; split <;> simp only [State.draw_bins]

theorem State.groupTemps_bins (s : State) : (State.groupTemps s).2.bins = s.bins := by
  unfold State.groupTemps
  refine (foldl_bins_snd _ _ _ ?_).trans rfl
  intro a i
  simp only [State.groupTemp_bins]

theorem State.itemFail_bins (s : State) (item which : Nat) (v : Int) : (State.itemFail s item which v).bins = s.bins := by
  simp only [State.itemFail, State.addWrap_bins, State.record_bins, State.setFlag_bins]

theorem State.itemFailFree_bins (s : State) (item which : Nat) : (State.itemFailFree s item which).bins = s.bins := by
  simp only [State.itemFailFree, State.draw_bins, State.itemFail_bins]

theorem State.showLost_bins (s : State) : (State.showLost s).bins = s.bins := by
  simp only [State.showLost, State.setFld_bins]

theorem State.loseChannel_bins (s : State) (c : Nat) : (State.loseChannel s c).bins = s.bins := by
  simp only [State.loseChannel, State.showLost_bins, State.withCh_bins]

theorem State.regularFailed_bins (s : State) (u i : Nat) : (State.regularFailed s u i).bins = s.bins := by
  simp only [State.regularFailed, State.loseChannel_bins, State.setFlag_bins, State.withCh_bins, State.withSpare_bins,
    bins_ite, ite_self]

theorem State.spareFailed_bins (s : State) (u : Nat) : (State.spareFailed s u).bins = s.bins := by
  unfold State.spareFailed
  dsimp only
  (repeat' split) <;> simp only [State.loseChannel_bins, State.setFld_bins, State.withSpare_bins]

theorem State.failPath_bins (s : State) (path finding : Nat) : (State.failPath s path finding).bins = s.bins := by
  simp only [State.failPath, State.addWrap_bins, State.record_bins, State.regularFailed_bins, State.setFlag_bins,
    State.spareFailed_bins, State.withFar_bins, bins_ite, ite_self]

theorem State.spareCompare_bins (s : State) (x : SpareCompare) : (State.spareCompare s x).bins = s.bins := by
  simp only [State.spareCompare, State.failPath_bins, State.withFar_bins, bins_ite, ite_self]

theorem State.strobeCheck_bins (s : State) (x : StrobeCheck) : (State.strobeCheck s x).bins = s.bins := by
  simp only [State.strobeCheck, State.failPath_bins, State.withFar_bins, bins_ite, ite_self]

theorem execStrobeWindowStart_bins (t : Nat) (comps : List SpareCompare) (s : State) :
    (stateOf s (execStrobeWindowStart t comps s)).bins = s.bins := by
  simp only [execStrobeWindowStart, State.at_bins, State.spareCompare_bins, State.withFar_bins, forEach_bins,
    implies_true, stateOf_next, stateOf_ite, bins_ite, ite_self]

theorem execStrobeWindowEnd_bins (t : Nat) (checks : List StrobeCheck) (s : State) :
    (stateOf s (execStrobeWindowEnd t checks s)).bins = s.bins := by
  simp only [execStrobeWindowEnd, State.at_bins, State.groupTemps_bins, State.strobeCheck_bins, State.withFar_bins,
    forEach_bins, implies_true, stateOf_next, stateOf_ite, bins_ite, ite_self]

theorem execCalRunStart_bins (t : Nat) (s : State) : (stateOf s (execCalRunStart t s)).bins = s.bins := by
  unfold execCalRunStart
  dsimp only
  (repeat' split) <;> simp only [State.at_bins, State.setFld_bins, State.withFar_bins, stateOf_next]

theorem State.runVerdict_bins (s : State) (path : Nat) (bad : Bool) : (State.runVerdict s path bad).bins = s.bins := by
  simp only [State.runVerdict, State.failPath_bins, State.withFar_bins, bins_ite, ite_self]

theorem State.solveSelections_bins (s : State) (m : CalMeasure) (r : RunResult) :
    (State.solveSelections s m r).1.bins = s.bins := by
  unfold State.solveSelections
  dsimp only
  refine (foldl_bins_fst _ _ _ ?_).trans ((foldl_bins_fst _ _ _ ?_).trans rfl)
  · intro a i
    split <;> simp only [State.itemFailFree_bins]
  · intro a i
    split
    · split <;> simp only [State.itemFailFree_bins]
    · simp only [State.itemFailFree_bins]

theorem State.solveTables_bins (s : State) (m : CalMeasure) (r : RunResult) :
    (State.solveTables s m r).1.bins = s.bins := by
  unfold State.solveTables
  dsimp only
  refine (foldl_bins_fst _ _ _ ?_).trans rfl
  intro a i
  (repeat' split) <;> simp only [State.itemFailFree_bins]

theorem State.solveSkews_bins (s : State) (m : CalMeasure) (r : RunResult) : (State.solveSkews s m r).1.bins = s.bins := by
  unfold State.solveSkews
  dsimp only
  refine (foldl_bins_fst _ _ _ ?_).trans rfl
  intro a i
  split
  · simp only [State.itemFailFree_bins]
  · split <;> simp only [State.itemFail_bins]

theorem State.figure16_bins (s : State) (exact : Bool) (x : Nat) : (State.figure16 s exact x).2.bins = s.bins := by
  unfold State.figure16; dsimp only; (repeat' split) <;> simp only [State.draw_bins, State.eitherRound_bins]

theorem State.runTempsNow_bins (s : State) : (State.runTempsNow s).2.bins = s.bins := by
  unfold State.runTempsNow; split <;> simp only [State.groupTemps_bins]

theorem State.runTake_bins (s : State) (meas : CalMeasure) (r : RunResult) (worst : Nat) (tdc : Frac) :
    (State.runTake s meas r worst tdc).bins = s.bins := by
  simp only [State.runTake, State.figure16_bins, State.runVerdict_bins, State.withFar_bins, forEach_bins, implies_true]

theorem execCalRunSolved_bins (t : Nat) (meas : CalMeasure) (s : State) :
    (stateOf s (execCalRunSolved t meas s)).bins = s.bins := by
  simp only [execCalRunSolved, State.at_bins, State.runTake_bins, State.runTempsNow_bins, State.solveSelections_bins,
    State.solveSkews_bins, State.solveTables_bins, stateOf_next, stateOf_ite, bins_ite, ite_self]

theorem State.installGroup_bins (s : State) (g : Nat) (t : Int) (of : Option Nat) :
    (State.installGroup s g t of).bins = s.bins := by
  unfold State.installGroup
  have h : ∀ (l₁ l₂ : List Nat) (f g : Nat → State → State) (u : State), (∀ i u, (f i u).bins = u.bins) →
      (∀ i u, (g i u).bins = u.bins) → (forEach l₁ f (forEach l₂ g u)).bins = u.bins := by
    intro l₁ l₂ f g u hf hg
    rw [forEach_bins _ _ _ hf, forEach_bins _ _ _ hg]
  dsimp only
  (repeat' split) <;> try simp only [State.setFldI_bins]
  all_goals
    refine h _ _ _ _ _ ?_ ?_
    · intro i u
      split <;> simp only [State.withStamp_bins]
    · intro i u
      simp only [State.withStamp_bins]

theorem State.installSets_bins (s : State) (of : Option Nat) : (State.installSets s of).bins = s.bins := by
  unfold State.installSets
  refine forUpto_bins _ _ _ fun i s => ?_
  (repeat' split) <;> simp only [State.installGroup_bins]

theorem State.writeSet_bins (s : State) (r : RunResult) (g : Nat) : (State.writeSet s r g).bins = s.bins := by
  simp only [State.writeSet, State.setFld_bins, State.withFar_bins]

theorem State.installSelections_bins (s : State) (r : RunResult) : (State.installSelections s r).bins = s.bins := by
  simp only [State.installSelections, State.withFar_bins]

theorem State.calInstall_bins (s : State) (r : RunResult) : (State.calInstall s r).bins = s.bins := by
  simp only [State.calInstall, State.addWrap_bins, State.installSelections_bins, State.installSets_bins, State.setFld_bins,
    State.withFar_bins, State.writeSet_bins, forUpto_bins, implies_true]

theorem execStartupRunInstalled_bins (t : Nat) (s : State) : (stateOf s (execStartupRunInstalled t s)).bins = s.bins := by
  unfold execStartupRunInstalled
  dsimp only
  (repeat' split) <;> simp only [State.at_bins, State.calInstall_bins, State.setFld_bins, State.withFar_bins, stateOf_next]

theorem execRerunMaxExpiry_bins (t : Nat) (s : State) : (stateOf s (execRerunMaxExpiry t s)).bins = s.bins := by
  simp only [execRerunMaxExpiry, State.at_bins, State.calRequest_bins, stateOf_next, stateOf_ite, bins_ite, ite_self]

theorem execTemplateEstimate_bins (t cluster : Nat) (s : State) :
    (stateOf s (execTemplateEstimate t cluster s)).bins = s.bins := by
  unfold execTemplateEstimate
  dsimp only
  (repeat' split) <;> simp only [State.at_bins, State.autoTemplate_bins, State.gatherRestart_bins,
    State.itemFailFree_bins, State.withFar_bins, stateOf_next]

theorem State.lagFigure_bins (s : State) (n : Nat) (d : List Int) : (State.lagFigure s n d).2.bins = s.bins := by
  simp only [State.lagFigure, State.eitherRound_bins]

theorem State.gatherAngles_bins (s : State) : (State.gatherAngles s).bins = s.bins := by
  simp only [State.gatherAngles, State.withFar_bins]

theorem State.lagTake_bins (s : State) (n res : Nat) (lag new : Int) : (State.lagTake s n res lag new).bins = s.bins := by
  simp only [State.lagTake, State.gatherAngles_bins, State.itemFail_bins, State.setFld_bins, State.withFar_bins, bins_ite,
    ite_self]

theorem execAngleLagEstimate_bins (t : Nat) (s : State) : (stateOf s (execAngleLagEstimate t s)).bins = s.bins := by
  simp only [execAngleLagEstimate, State.at_bins, State.lagFigure_bins, State.lagTake_bins, stateOf_next, stateOf_ite,
    bins_ite, ite_self]

theorem State.fteBoundary_bins (s : State) (b : Nat) : (State.fteBoundary s b).bins = s.bins := by
  simp only [State.fteBoundary, State.itemFail_bins, State.setFld_bins, State.withFar_bins, bins_ite, ite_self]

theorem State.spareBoundary_bins (s : State) (u : Nat) : (State.spareBoundary s u).bins = s.bins := by
  simp only [State.spareBoundary, State.setFld_bins, State.withCh_bins, State.withSpare_bins, forUpto_bins, implies_true]

theorem State.edgePairs_bins (s : State) : (State.edgePairs s).bins = s.bins := by
  simp only [State.edgePairs, State.withFar_bins]

theorem State.farrierBoundary_bins (s : State) (reverse keep : Bool) :
    (State.farrierBoundary s reverse keep).bins = s.bins := by
  unfold State.farrierBoundary
  dsimp only
  (repeat' split) <;> simp only [State.calInstall_bins, State.edgePairs_bins, State.fteBoundary_bins,
    State.gatherAngles_bins, State.groupTemp_bins, State.installSets_bins, State.setFld_bins, State.setFldI_bins,
    State.spareBoundary_bins, State.takeForce_bins, State.withFar_bins, forUpto_bins, implies_true]

theorem State.calView_bins (s : State) (i : Nat) : (State.calView s i).bins = s.bins := by
  simp only [State.calView, State.setFld_bins, State.setFldI_bins]

theorem State.spareRequest_bins (s : State) (release : Bool) (u i : Nat) :
    (State.spareRequest s release u i).bins = s.bins := by
  simp only [State.spareRequest, State.withSpare_bins]

theorem State.padStart_bins (s : State) (p : Nat) : (State.padStart s p).bins = s.bins := by
  simp only [State.padStart, State.setFld_bins, State.withPad_bins]

theorem State.padStop_bins (s : State) (p : Nat) : (State.padStop s p).bins = s.bins := by
  simp only [State.padStop, State.setFld_bins, State.withPad_bins]

theorem State.safeCause_bins (s : State) (i : Nat) : (State.safeCause s i).bins = s.bins := by
  simp only [State.safeCause, State.record_bins, State.setFlag_bins, State.setFld_bins, State.withSup_bins, bins_ite,
    ite_self]

theorem State.causeGone_bins (s : State) (i : Nat) : (State.causeGone s i).bins = s.bins := by
  simp only [State.causeGone, State.withSup_bins]

theorem State.verdictStep_bins (s : State) (p : Nat) (occupied : Bool) (lost : Nat) :
    (State.verdictStep s p occupied lost).bins = s.bins := by
  unfold State.verdictStep
  split <;> simp only [State.setFlag_bins, State.setFld_bins, State.withPad_bins, bins_ite, ite_self]

theorem State.padSafe_bins (s : State) (p : Nat) : (State.padSafe s p).bins = s.bins := by
  simp only [State.padSafe, State.setFld_bins, State.withPad_bins]

theorem State.coverageStep_bins (s : State) (p : Nat) (fired : Bool) (boundary lost : Nat) :
    (State.coverageStep s p fired boundary lost).bins = s.bins := by
  unfold State.coverageStep
  split <;> simp only [State.liveWrap_bins, State.padSafe_bins, State.record_bins, State.setFlag_bins, State.setFld_bins,
    State.withPad_bins, bins_ite, ite_self]

theorem State.compareCounts_bins (s : State) (r : FrameResult) (pads : List Nat) :
    (State.compareCounts s r pads).bins = s.bins := by
  simp only [State.compareCounts, State.causeGone_bins, State.liveWrap_bins, State.safeCause_bins, State.setFlag_bins,
    State.withPad_bins, forEach_bins, implies_true, bins_ite, ite_self]

theorem State.applyResult_bins (s : State) (r : FrameResult) : (State.applyResult s r).bins = s.bins := by
  simp only [State.applyResult, State.compareCounts_bins, State.coverageStep_bins, State.setFld_bins,
    State.verdictStep_bins, State.withSup_bins, forEach_bins, implies_true, bins_ite, ite_self]

theorem State.halterExpire_bins (s : State) (p : Nat) : (State.halterExpire s p).bins = s.bins := by
  simp only [State.halterExpire, State.padSafe_bins, bins_ite, ite_self]

theorem State.activate_bins (s : State) (p : Nat) : (State.activate s p).bins = s.bins := by
  simp only [State.activate, State.withPad_bins]

theorem State.withSin_bins (s : State) (i : Nat) (f : SafetyInput → SafetyInput) : (State.withSin s i f).bins = s.bins := by
  simp only [State.withSin, State.withSup_bins]

theorem State.withSout_bins (s : State) (c : Nat) (f : SafetyChannel → SafetyChannel) :
    (State.withSout s c f).bins = s.bins := by
  simp only [State.withSout, State.withSup_bins]

theorem State.showInputs_bins (s : State) : (State.showInputs s).bins = s.bins := by
  simp only [State.showInputs, State.setFld_bins, State.withSup_bins, forUpto_bins, implies_true]

theorem State.driveOutput_bins (s : State) (o : Nat) : (State.driveOutput s o).bins = s.bins := by
  simp only [State.driveOutput, State.emit_bins, State.liveWrap_bins, State.recEvent_bins, State.setFld_bins,
    State.withSout_bins, forEach_bins, implies_true, bins_ite, ite_self]

theorem State.driveOutputs_bins (s : State) : (State.driveOutputs s).bins = s.bins := by
  simp only [State.driveOutputs, State.driveOutput_bins]

theorem State.applySafeReset_bins (s : State) : (State.applySafeReset s).bins = s.bins := by
  unfold State.applySafeReset
  split <;> simp only [State.padStart_bins, State.setFld_bins, State.withSin_bins, State.withSup_bins, forEach_bins,
    implies_true]

theorem State.safeReset_bins (s : State) : (State.safeReset s).bins = s.bins := by
  simp only [State.safeReset, State.withSup_bins, bins_ite, ite_self]

theorem State.supervise_bins (s : State) : (State.supervise s).bins = s.bins := by
  unfold State.supervise
  dsimp only
  (repeat' split) <;> simp only [State.activate_bins, State.applyResult_bins, State.applySafeReset_bins,
    State.causeGone_bins, State.driveOutputs_bins, State.halterExpire_bins, State.showInputs_bins, State.takeForce_bins,
    forUpto_bins, forEach_bins, implies_true]

theorem execHalterTimeout_bins (t paddock : Nat) (s : State) :
    (stateOf s (execHalterTimeout t paddock s)).bins = s.bins := by
  simp only [execHalterTimeout, State.at_bins, State.withPad_bins, stateOf_next, stateOf_ite, bins_ite, ite_self]

theorem execTurnaroundSelftest_bins (t : Nat) (passed : Bool) (s : State) :
    (stateOf s (execTurnaroundSelftest t passed s)).bins = s.bins := by
  simp only [execTurnaroundSelftest, State.at_bins, State.causeGone_bins, State.liveWrap_bins, State.safeCause_bins,
    stateOf_next, stateOf_ite, bins_ite, ite_self]

theorem execLockstepMismatch_bins (t : Nat) (s : State) : (stateOf s (execLockstepMismatch t s)).bins = s.bins := by
  simp only [execLockstepMismatch, State.at_bins, State.safeCause_bins, stateOf_next, stateOf_ite, bins_ite, ite_self]

theorem execSupervisorMemoryError_bins (t : Nat) (s : State) :
    (stateOf s (execSupervisorMemoryError t s)).bins = s.bins := by
  simp only [execSupervisorMemoryError, State.at_bins, State.safeCause_bins, stateOf_next, stateOf_ite, bins_ite, ite_self]

theorem execSafetyClockCheck_bins (t : Nat) (ppm : Int) (s : State) :
    (stateOf s (execSafetyClockCheck t ppm s)).bins = s.bins := by
  simp only [execSafetyClockCheck, State.at_bins, State.causeGone_bins, State.safeCause_bins, stateOf_next, stateOf_ite,
    bins_ite, ite_self]

theorem execTpsPulse_bins (t supply : Nat) (s : State) : (stateOf s (execTpsPulse t supply s)).bins = s.bins := by
  simp only [execTpsPulse, State.at_bins, State.emit_bins, stateOf_next, stateOf_ite, bins_ite, ite_self]

theorem State.inputFault_bins (s : State) (i finding other : Nat) : (State.inputFault s i finding other).bins = s.bins := by
  simp only [State.inputFault, State.record_bins, State.setFlag_bins, State.setFld_bins, State.showInputs_bins,
    State.withSin_bins, State.withSup_bins, bins_ite, ite_self]

theorem State.inputFaultFree_bins (s : State) (i finding : Nat) : (State.inputFaultFree s i finding).bins = s.bins := by
  simp only [State.inputFaultFree, State.draw_bins, State.inputFault_bins]

theorem State.testSample_bins (s : State) (i supply m : Nat) (level : Bool) :
    (State.testSample s i supply m level).bins = s.bins := by
  simp only [State.testSample, State.inputFault_bins, State.inputFaultFree_bins, State.withSin_bins, bins_ite, ite_self]

theorem State.valueSample_bins (s : State) (i : Nat) (level : Bool) : (State.valueSample s i level).bins = s.bins := by
  simp only [State.valueSample, State.withSin_bins]

theorem execSafetyInputSample_bins (t levels : Nat) (s : State) :
    (stateOf s (execSafetyInputSample t levels s)).bins = s.bins := by
  unfold execSafetyInputSample
  dsimp only
  (repeat' split) <;> simp only [State.at_bins, State.testSample_bins, State.valueSample_bins, forUpto_bins, implies_true,
    stateOf_next]

theorem execInFilterExpiry_bins (t input : Nat) (s : State) : (stateOf s (execInFilterExpiry t input s)).bins = s.bins := by
  unfold execInFilterExpiry
  dsimp only
  (repeat' split) <;> simp only [State.at_bins, State.showInputs_bins, State.withSin_bins, stateOf_next]

theorem execPairDiscrepancy_bins (t pair : Nat) (s : State) : (stateOf s (execPairDiscrepancy t pair s)).bins = s.bins := by
  simp only [execPairDiscrepancy, State.at_bins, State.inputFaultFree_bins, stateOf_next, stateOf_ite, bins_ite, ite_self]

theorem execSoutTestPulse_bins (t output ch : Nat) (s : State) :
    (stateOf s (execSoutTestPulse t output ch s)).bins = s.bins := by
  simp only [execSoutTestPulse, State.at_bins, State.emit_bins, State.withSout_bins, stateOf_next, stateOf_ite, bins_ite,
    ite_self]

theorem State.outputFault_bins (s : State) (c : Nat) : (State.outputFault s c).bins = s.bins := by
  simp only [State.outputFault, State.driveOutput_bins, State.record_bins, State.setFlag_bins, State.setFld_bins,
    State.withSup_bins, bins_ite, ite_self]

theorem execSoutReadback_bins (t levels : Nat) (s : State) : (stateOf s (execSoutReadback t levels s)).bins = s.bins := by
  simp only [execSoutReadback, State.at_bins, State.outputFault_bins, State.withSout_bins, forUpto_bins, implies_true,
    stateOf_next, stateOf_ite, bins_ite, ite_self]

theorem State.withBridle_bins (s : State) (f : Bridle → Bridle) : (State.withBridle s f).bins = s.bins := by
  simp only [State.withBridle, bins_mk]

theorem State.withSrc_bins (s : State) (e : Nat) (f : Source → Source) : (State.withSrc s e f).bins = s.bins := by
  simp only [State.withSrc, State.withBridle_bins]

theorem State.rxFail_bins (s : State) (counter : FieldRef) : (State.rxFail s counter).bins = s.bins := by
  simp only [State.rxFail, State.liveWrap_bins, State.setFlag_bins]

theorem State.srcAccept_bins (s : State) (e seq time : Nat) : (State.srcAccept s e seq time).bins = s.bins := by
  simp only [State.srcAccept, State.setFld_bins, State.withSrc_bins]

theorem State.srcDiscard_bins (s : State) (e : Nat) (counter : FieldRef) :
    (State.srcDiscard s e counter).bins = s.bins := by
  simp only [State.srcDiscard, State.rxFail_bins, State.withSrc_bins]

theorem State.bridleReceive_bins (s : State) (hitch : Bool) (f : List Byte) :
    (State.bridleReceive s hitch f).bins = s.bins := by
  unfold State.bridleReceive
  dsimp only
  (repeat' split) <;> simp only [State.liveWrap_bins, State.rxFail_bins, State.srcAccept_bins, State.srcDiscard_bins]

theorem execBridleFrameReceive_bins (t slot off : Nat) (bytes : List Byte) (s : State) :
    (stateOf s (execBridleFrameReceive t slot off bytes s)).bins = s.bins := by
  simp only [execBridleFrameReceive, State.at_bins, State.bridleReceive_bins, State.withBridle_bins, forEach_bins,
    implies_true, stateOf_next, stateOf_ite, bins_ite, ite_self]

theorem State.srcExpire_bins (s : State) (e : Nat) : (State.srcExpire s e).bins = s.bins := by
  simp only [State.srcExpire, State.msix_bins, State.record_bins, State.setFlag_bins, State.setFld_bins,
    State.withSrc_bins, bins_ite, ite_self]

theorem execSourceExpectationExpiry_bins (t entry : Nat) (s : State) :
    (stateOf s (execSourceExpectationExpiry t entry s)).bins = s.bins := by
  simp only [execSourceExpectationExpiry, State.at_bins, State.withSrc_bins, stateOf_next, stateOf_ite, bins_ite, ite_self]

theorem State.srcFresh_bins (s : State) (e t : Nat) : (State.srcFresh s e t).bins = s.bins := by
  simp only [State.srcFresh, State.setFld_bins, State.withSrc_bins]

theorem State.srcUnsync_bins (s : State) (e : Nat) : (State.srcUnsync s e).bins = s.bins := by
  simp only [State.srcUnsync, State.setFld_bins, State.withSrc_bins]

theorem State.srcTake_bins (s : State) (e : Nat) : (State.srcTake s e).bins = s.bins := by
  unfold State.srcTake
  dsimp only
  (repeat' split) <;> simp only [State.srcFresh_bins, State.srcUnsync_bins, State.takeForce_bins, State.withSrc_bins]

theorem State.bridleTake_bins (s : State) : (State.bridleTake s).bins = s.bins := by
  simp only [State.bridleTake, State.srcTake_bins, State.takeForce_bins, forUpto_bins, implies_true]

theorem State.statusToHost_bins (s : State) (payload : List Byte) : (State.statusToHost s payload).bins = s.bins := by
  simp only [State.statusToHost, State.emit_bins, State.liveWrap_bins, State.msix_bins, State.withBridle_bins, bins_ite,
    ite_self]

theorem State.statusToTeam_bins (s : State) (payload : List Byte) : (State.statusToTeam s payload).2.bins = s.bins := by
  simp only [State.statusToTeam, State.liveWrap_bins, State.withBridle_bins]

theorem State.srcWritten_bins (s : State) (e : Nat) (was : Bool) : (State.srcWritten s e was).bins = s.bins := by
  simp only [State.srcWritten, State.withSrc_bins]

theorem State.showTeam_bins (s : State) : (State.showTeam s).bins = s.bins := by
  simp only [State.showTeam, State.setFld_bins, forUpto_bins, forEach_bins, implies_true]

theorem State.setSrc_bins (s : State) (e : Nat) (w : Word) : (State.setSrc s e w).bins = s.bins := by
  simp only [State.setSrc, State.setReg_bins, State.takeForce_bins]

theorem State.fillSources_bins (s : State) : (State.fillSources s).bins = s.bins := by
  unfold State.fillSources
  dsimp only
  refine (forEach_bins _ _ _ ?_).trans ((forEach_bins _ _ _ ?_).trans rfl)
  · intro i s
    (repeat' split) <;> simp only [State.setSrc_bins, State.srcFresh_bins]
  · intro i s
    (repeat' split) <;> simp only [State.setSrc_bins, State.withSrc_bins]

theorem State.teamChanged_bins (s : State) : (State.teamChanged s).bins = s.bins := by
  simp only [State.teamChanged, State.fillSources_bins, State.showTeam_bins]

theorem State.sendTeam_bins (s : State) : (State.sendTeam s).bins = s.bins := by
  simp only [State.sendTeam, State.toChildren_bins]

theorem State.sendSlot_bins (s : State) : (State.sendSlot s).bins = s.bins := by
  simp only [State.sendSlot, State.toChildren_bins]

theorem State.report_bins (s : State) (t : SMap TeamSlot) : (State.report s t).bins = s.bins := by
  simp only [State.report, State.toParent_bins]

theorem State.takeRank_bins (s : State) : (State.takeRank s).bins = s.bins := by
  simp only [State.takeRank, State.report_bins, State.sendTeam_bins, State.withHitch_bins, bins_ite, ite_self]

theorem State.leaveTeam_bins (s : State) : (State.leaveTeam s).bins = s.bins := by
  simp only [State.leaveTeam, State.setFld_bins, State.withHitch_bins, State.withScan_bins]

theorem State.askPhase_bins (s : State) : (State.askPhase s).bins = s.bins := by
  unfold State.askPhase; (repeat' split) <;> simp only [State.hitchAsk_bins]

theorem State.becomeLead_bins (s : State) (e0 : Nat) : (State.becomeLead s e0).bins = s.bins := by
  simp only [State.becomeLead, State.epochDrawAfter_bins, State.setFld_bins, State.withHitch_bins]

theorem State.followLead_bins (s : State) (lead : Nat) : (State.followLead s lead).bins = s.bins := by
  simp only [State.followLead, State.leaveTeam_bins, State.setFlag_bins, State.setFld_bins, State.withHitch_bins]

theorem State.takeLead_bins (s : State) (t : SMap TeamSlot) : (State.takeLead s t).bins = s.bins := by
  simp only [State.takeLead, State.becomeLead_bins, State.leaveTeam_bins, State.sendEpoch_bins, State.sendSlot_bins,
    State.sendTeam_bins, State.setFlag_bins, State.teamChanged_bins, State.withHitch_bins]

theorem State.newParent_bins (s : State) (k : Nat) : (State.newParent s k).bins = s.bins := by
  simp only [State.newParent, State.withLink_bins, forEach_bins, implies_true]

theorem State.partition_bins (s : State) : (State.partition s).bins = s.bins := by
  unfold State.partition
  dsimp only
  (repeat' split) <;> simp only [State.askPhase_bins, State.followLead_bins, State.newParent_bins, State.takeLead_bins,
    State.teamChanged_bins, State.toChildren_bins, State.waitPhase_bins, State.withHitch_bins]

theorem State.childLost_bins (s : State) (peer : Nat) : (State.childLost s peer).bins = s.bins := by
  unfold State.childLost
  dsimp only
  (repeat' split) <;> simp only [State.epochDrawAfter_bins, State.report_bins, State.sendEpoch_bins, State.sendTeam_bins,
    State.teamChanged_bins, State.withHitch_bins]

theorem State.linkStandby_bins (s : State) (k v : Nat) : (State.linkStandby s k v).bins = s.bins := by
  simp only [State.linkStandby, State.setFld_bins, forEach_bins, implies_true]

theorem State.linkDown_bins (s : State) (k : Nat) : (State.linkDown s k).bins = s.bins := by
  unfold State.linkDown
  dsimp only
  (repeat' split) <;> simp only [State.childLost_bins, State.linkStandby_bins, State.partition_bins, State.report_bins,
    State.showTeam_bins, State.withHitch_bins, State.withLink_bins]

theorem State.teamDecide_bins (s : State) (k : Nat) (b : TeamBody) : (State.teamDecide s k b).bins = s.bins := by
  simp only [State.teamDecide, State.followLead_bins, State.hitchAsk_bins, State.linkStandby_bins, State.newParent_bins,
    State.setFlag_bins, State.setFld_bins, State.teamChanged_bins, State.waitPhase_bins, State.withHitch_bins,
    State.withLink_bins, bins_ite, ite_self]

theorem State.takeTeam_bins (s : State) (b : TeamBody) : (State.takeTeam s b).bins = s.bins := by
  simp only [State.takeTeam, State.setFlag_bins, State.teamChanged_bins, State.withHitch_bins, bins_ite, ite_self]

theorem State.newLead_bins (s : State) (k : Nat) (b : TeamBody) : (State.newLead s k b).bins = s.bins := by
  simp only [State.newLead, State.askPhase_bins, State.followLead_bins, State.hitchSend_bins, State.newParent_bins,
    State.setFld_bins, State.takeLead_bins, State.takeTeam_bins, State.waitPhase_bins, State.withHitch_bins,
    State.withLink_bins, forEach_bins, implies_true, bins_ite, ite_self]

theorem State.takeReport_bins (s : State) (b : TeamBody) : (State.takeReport s b).bins = s.bins := by
  simp only [State.takeReport, State.epochDrawAfter_bins, State.sendEpoch_bins, State.sendTeam_bins,
    State.teamChanged_bins, State.withHitch_bins, bins_ite, ite_self]

theorem State.teamUpdate_bins (s : State) (k : Nat) (b : TeamBody) (raw : List Byte) :
    (State.teamUpdate s k b raw).bins = s.bins := by
  simp only [State.teamUpdate, State.askPhase_bins, State.hitchAnswered_bins, State.newLead_bins, State.takeReport_bins,
    State.takeTeam_bins, State.toChildren_bins, State.toParent_bins, bins_ite, ite_self]

theorem State.adopt_bins (s : State) (k : Nat) (b : TeamBody) (raw : List Byte) :
    (State.adopt s k b raw).bins = s.bins := by
  simp only [State.adopt, State.linkStandby_bins, State.teamUpdate_bins, State.withLink_bins, bins_ite, ite_self]

theorem State.teamTurns_bins (s : State) : (State.teamTurns s).bins = s.bins := by
  unfold State.teamTurns
  refine forUpto_bins _ _ _ ?_
  intro i s
  dsimp only
  (repeat' split) <;> simp only [State.teamDecide_bins, State.withLink_bins]

theorem execTeam_bins (t lane : Nat) (even odd : List LaneWord) (s : State) :
    (stateOf s (execTeam t lane even odd s)).bins = s.bins := by
  have e := State.hitchReceive_bins (s.at_ t) lane 0x10 ⟨even, odd⟩
  unfold execTeam
  split
  · simp only [stateOf_next]
  dsimp only
  revert e
  rcases (s.at_ t).hitchReceive lane 0x10 ⟨even, odd⟩ with ⟨_ | raw, u⟩ <;> intro e <;> simp only [State.at_bins] at e
  · simp only [e, stateOf_next]
  · dsimp only
    (repeat' split) <;> simp only [e, State.adopt_bins, State.at_bins, State.formatErr_bins, State.hitchAnswered_bins,
      State.teamTurns_bins, State.teamUpdate_bins, State.withLink_bins, stateOf_next]

theorem State.admitJoiners_bins (s : State) (b : JoinBody) : (State.admitJoiners s b).bins = s.bins := by
  simp only [State.admitJoiners, State.epochDrawAfter_bins, State.sendEpoch_bins, State.sendSlot_bins, State.sendTeam_bins,
    State.setFlag_bins, State.teamChanged_bins, State.withHitch_bins]

theorem execJoinReq_bins (t lane : Nat) (even odd : List LaneWord) (s : State) :
    (stateOf s (execJoinReq t lane even odd s)).bins = s.bins := by
  have e := State.hitchReceive_bins (s.at_ t) lane 0x11 ⟨even, odd⟩
  unfold execJoinReq
  split
  · simp only [stateOf_next]
  dsimp only
  revert e
  rcases (s.at_ t).hitchReceive lane 0x11 ⟨even, odd⟩ with ⟨_ | raw, u⟩ <;> intro e <;> simp only [State.at_bins] at e
  · simp only [e, stateOf_next]
  · dsimp only
    (repeat' split) <;> simp only [e, State.admitJoiners_bins, State.at_bins, State.formatErr_bins, State.toParent_bins,
      stateOf_next]

theorem execSlot_bins (t lane : Nat) (even odd : List LaneWord) (s : State) :
    (stateOf s (execSlot t lane even odd s)).bins = s.bins := by
  have e := State.hitchReceive_bins (s.at_ t) lane 0x12 ⟨even, odd⟩
  unfold execSlot
  split
  · simp only [stateOf_next]
  dsimp only
  revert e
  rcases (s.at_ t).hitchReceive lane 0x12 ⟨even, odd⟩ with ⟨_ | raw, u⟩ <;> intro e <;> simp only [State.at_bins] at e
  · simp only [e, stateOf_next]
  · dsimp only
    (repeat' split) <;> simp only [e, State.at_bins, State.formatErr_bins, State.hitchAnswered_bins, State.setFld_bins,
      State.toChildren_bins, State.withHitch_bins, State.withScan_bins, stateOf_next]

theorem State.takeEpochs_bins (s : State) (b : EpochBody) : (State.takeEpochs s b).bins = s.bins := by
  unfold State.takeEpochs
  dsimp only
  (repeat' split) <;> simp only [State.epochJoin_bins, State.epochReceive_bins, State.withHitch_bins]

theorem execEpoch_bins (t lane : Nat) (even odd : List LaneWord) (s : State) :
    (stateOf s (execEpoch t lane even odd s)).bins = s.bins := by
  have e := State.hitchReceive_bins (s.at_ t) lane 0x13 ⟨even, odd⟩
  unfold execEpoch
  split
  · simp only [stateOf_next]
  dsimp only
  revert e
  rcases (s.at_ t).hitchReceive lane 0x13 ⟨even, odd⟩ with ⟨_ | raw, u⟩ <;> intro e <;> simp only [State.at_bins] at e
  · simp only [e, stateOf_next]
  · dsimp only
    (repeat' split) <;> simp only [e, State.takeEpochs_bins, State.toChildren_bins, stateOf_next]

theorem execPhaseReq_bins (t lane : Nat) (even odd : List LaneWord) (s : State) :
    (stateOf s (execPhaseReq t lane even odd s)).bins = s.bins := by
  have e := State.hitchReceive_bins (s.at_ t) lane 0x14 ⟨even, odd⟩
  unfold execPhaseReq
  split
  · simp only [stateOf_next]
  dsimp only
  revert e
  rcases (s.at_ t).hitchReceive lane 0x14 ⟨even, odd⟩ with ⟨_ | raw, u⟩ <;> intro e <;> simp only [State.at_bins] at e
  · simp only [e, stateOf_next]
  · dsimp only
    (repeat' split) <;> simp only [e, State.at_bins, State.formatErr_bins, State.sendSlot_bins, State.toParent_bins,
      State.withHitch_bins, stateOf_next]

theorem State.freeHeld_bins (s : State) : (State.freeHeld s).bins = s.bins := by
  simp only [State.freeHeld, State.sendTeam_bins, State.teamChanged_bins, State.withHitch_bins, bins_ite, ite_self]

theorem execSlotHoldExpiry_bins (t slot : Nat) (s : State) : (stateOf s (execSlotHoldExpiry t slot s)).bins = s.bins := by
  unfold execSlotHoldExpiry; dsimp only; (repeat' split) <;> simp only [State.at_bins, State.withHitch_bins, stateOf_next]

theorem execBridleMessage_bins (t lane : Nat) (wire : LaneStreams) (s : State) :
    (stateOf s (execBridleMessage t lane wire s)).bins = s.bins := by
  unfold execBridleMessage
  split
  · simp only [stateOf_next]
  · dsimp only
    split
    · next h => simp only [State.hitchReceive_eq_bins h, State.at_bins, stateOf_next]
    · next h =>
      have e := (State.hitchReceive_eq_bins h).trans (s.at_bins t)
      (repeat' split) <;> simp only [e, State.bridleReceive_bins, State.hitchSend_bins, forEach_bins, implies_true,
        stateOf_next]

theorem State.beacon_bins (s : State) (l : Nat) : (State.beacon s l).bins = s.bins := by
  simp only [State.beacon, State.emit_bins, State.skipsTo_bins, bins_ite, ite_self]

theorem State.setLaneSt_bins (s : State) (l v : Nat) : (State.setLaneSt s l v).bins = s.bins := by
  simp only [State.setLaneSt, State.beacon_bins, State.elasticTo_bins, State.setFld_bins, State.withLane_bins]

theorem State.laneBeacon_bins (s : State) (l : Nat) : (State.laneBeacon s l).bins = s.bins := by
  simp only [State.laneBeacon, State.setFld_bins, State.setLaneSt_bins, State.withLane_bins, bins_ite, ite_self]

theorem execLaneEnable_bins (t lane : Nat) (s : State) : (stateOf s (execLaneEnable t lane s)).bins = s.bins := by
  simp only [execLaneEnable, State.at_bins, State.laneBeacon_bins, stateOf_next, stateOf_ite, bins_ite, ite_self]

theorem execBeaconSeen_bins (t lane peerLane : Nat) (s : State) :
    (stateOf s (execBeaconSeen t lane peerLane s)).bins = s.bins := by
  simp only [execBeaconSeen, State.at_bins, State.setFld_bins, State.setLaneSt_bins, stateOf_next, stateOf_ite, bins_ite,
    ite_self]

theorem execTrainingDone_bins (t lane : Nat) (s : State) : (stateOf s (execTrainingDone t lane s)).bins = s.bins := by
  simp only [execTrainingDone, State.at_bins, State.setFld_bins, State.setLaneSt_bins, stateOf_next, stateOf_ite,
    bins_ite, ite_self]

theorem State.slip_bins (s : State) (l : Nat) : (State.slip s l).bins = s.bins := by
  simp only [State.slip, State.setFld_bins, bins_ite, ite_self]

theorem execAlignSlip_bins (t lane : Nat) (s : State) : (stateOf s (execAlignSlip t lane s)).bins = s.bins := by
  simp only [execAlignSlip, State.at_bins, State.slip_bins, stateOf_next, stateOf_ite, bins_ite, ite_self]

theorem State.startHandshake_bins (s : State) (k : Nat) : (State.startHandshake s k).bins = s.bins := by
  simp only [State.startHandshake, State.hitchAsk_bins, State.withLink_bins, bins_ite, ite_self]

theorem State.showBonded_bins (s : State) (k : Nat) : (State.showBonded s k).bins = s.bins := by
  simp only [State.showBonded, State.setFld_bins, forEach_bins, implies_true]

theorem State.splitLink_bins (s : State) (k : Nat) : (State.splitLink s k).bins = s.bins := by
  unfold State.splitLink; split <;> simp only [State.startHandshake_bins, State.withLane_bins]

theorem State.laneLinked_bins (s : State) (l : Nat) : (State.laneLinked s l).bins = s.bins := by
  simp only [State.laneLinked, State.setLaneSt_bins, State.showBonded_bins, State.skipAt_bins, State.startHandshake_bins,
    State.withLane_bins, forEach_bins, implies_true, bins_ite, ite_self]

theorem execAlignmentDone_bins (t lane : Nat) (aligned : LaneAligned) (s : State) :
    (stateOf s (execAlignmentDone t lane aligned s)).bins = s.bins := by
  simp only [execAlignmentDone, State.addSat_bins, State.at_bins, State.beacon_bins, State.laneBeacon_bins,
    State.laneLinked_bins, State.withLane_bins, stateOf_next, stateOf_ite, bins_ite, ite_self]

theorem execAdaptationFreeze_bins (t lane : Nat) (frozen : Bool) (s : State) :
    (stateOf s (execAdaptationFreeze t lane frozen s)).bins = s.bins := by
  simp only [execAdaptationFreeze, State.at_bins, State.setFld_bins, State.withHitch_bins, stateOf_next, stateOf_ite,
    bins_ite, ite_self]

theorem State.eyeEnd_bins (s : State) (e : EyeScan) (errors : Nat) (cut : Bool) :
    (State.eyeEnd s e errors cut).bins = s.bins := by
  simp only [State.eyeEnd, State.setFld_bins, State.slotDone_bins, State.withHitch_bins]

theorem State.eyeCut_bins (s : State) (l : Nat) : (State.eyeCut s l).bins = s.bins := by
  unfold State.eyeCut; split <;> simp only [State.draw_bins, State.eyeEnd_bins, bins_ite, ite_self]

theorem State.laneLost_bins (s : State) (l : Nat) : (State.laneLost s l).bins = s.bins := by
  simp only [State.laneLost, State.addWrap_bins, State.setFlag_bins, State.setFld_bins, forEach_bins, implies_true]

theorem State.linkLess_bins (s : State) (k : Nat) : (State.linkLess s k).bins = s.bins := by
  simp only [State.linkLess, State.linkDown_bins, State.showBonded_bins, State.teamTurns_bins, State.withLink_bins,
    bins_ite, ite_self]

theorem State.detachLane_bins (s : State) (l kind : Nat) : (State.detachLane s l kind).bins = s.bins := by
  simp only [State.detachLane, State.eyeCut_bins, State.laneBeacon_bins, State.laneLost_bins, State.linkLess_bins,
    State.record_bins, State.setLaneSt_bins, State.skipsTo_bins, State.withLane_bins, bins_ite, ite_self]

theorem execLaneDetach_bins (t lane : Nat) (s : State) : (stateOf s (execLaneDetach t lane s)).bins = s.bins := by
  simp only [execLaneDetach, State.at_bins, State.detachLane_bins, stateOf_next, stateOf_ite, bins_ite, ite_self]

theorem execLeaveMessage_bins (t lane : Nat) (wire : LaneStreams) (s : State) :
    (stateOf s (execLeaveMessage t lane wire s)).bins = s.bins := by
  unfold execLeaveMessage
  split
  · simp only [stateOf_next]
  · dsimp only
    split
    · next h => simp only [State.hitchReceive_eq_bins h, State.at_bins, stateOf_next]
    · next h =>
      have e := (State.hitchReceive_eq_bins h).trans (s.at_bins t)
      simp only [e, State.detachLane_bins, forEach_bins, implies_true, stateOf_next]

theorem State.leave_bins (s : State) : (State.leave s).bins = s.bins := by
  simp only [State.leave, State.detachLane_bins, State.hitchSend_bins, forEach_bins, implies_true]

theorem State.authFail_bins (s : State) (k step : Nat) : (State.authFail s k step).bins = s.bins := by
  simp only [State.authFail, State.liveWrap_bins, State.record_bins, State.setFlag_bins, State.withLink_bins]

theorem execHandshakeRetry_bins (t lane : Nat) (s : State) : (stateOf s (execHandshakeRetry t lane s)).bins = s.bins := by
  unfold execHandshakeRetry
  dsimp only
  (repeat' split) <;> simp only [State.at_bins, State.startHandshake_bins, stateOf_next]

theorem State.sendCert_bins (s : State) (k : Nat) : (State.sendCert s k).bins = s.bins := by
  simp only [State.sendCert, State.hitchSend_bins, State.withLink_bins, forEach_bins, implies_true]

theorem execHello_bins (t lane : Nat) (wire : LaneStreams) (s : State) :
    (stateOf s (execHello t lane wire s)).bins = s.bins := by
  unfold execHello
  split
  · simp only [stateOf_next]
  · dsimp only
    split
    · next h => simp only [State.hitchReceive_eq_bins h, State.at_bins, stateOf_next]
    · next h =>
      have e := (State.hitchReceive_eq_bins h).trans (s.at_bins t)
      (repeat' split) <;> simp only [e, State.authFail_bins, State.formatErr_bins, State.sendCert_bins,
        State.showBonded_bins, State.splitLink_bins, State.withLink_bins, stateOf_next]

theorem execCert_bins (t lane : Nat) (wire : LaneStreams) (s : State) :
    (stateOf s (execCert t lane wire s)).bins = s.bins := by
  unfold execCert
  split
  · simp only [stateOf_next]
  · dsimp only
    split
    · next h => simp only [State.hitchReceive_eq_bins h, State.at_bins, stateOf_next]
    · next h =>
      have e := (State.hitchReceive_eq_bins h).trans (s.at_bins t)
      (repeat' split) <;> simp only [e, State.formatErr_bins, State.hitchAnswered_bins, State.withLink_bins, stateOf_next]

theorem State.deriveSession_bins (s : State) (k : Nat) : (State.deriveSession s k).bins = s.bins := by
  simp only [State.deriveSession, State.hitchAsk_bins, State.withLink_bins, bins_ite, ite_self]

theorem execCertVerified_bins (t lane : Nat) (s : State) : (stateOf s (execCertVerified t lane s)).bins = s.bins := by
  simp only [execCertVerified, State.at_bins, State.authFail_bins, State.deriveSession_bins, State.hitchAsk_bins,
    State.withLink_bins, stateOf_next, stateOf_ite, bins_ite, ite_self, bins_mk]

theorem execKemCt_bins (t lane : Nat) (wire : LaneStreams) (s : State) :
    (stateOf s (execKemCt t lane wire s)).bins = s.bins := by
  unfold execKemCt
  split
  · simp only [stateOf_next]
  · dsimp only
    split
    · next h => simp only [State.hitchReceive_eq_bins h, State.at_bins, stateOf_next]
    · next h =>
      have e := (State.hitchReceive_eq_bins h).trans (s.at_bins t)
      (repeat' split) <;> simp only [e, State.deriveSession_bins, State.hitchAnswered_bins, State.withLink_bins,
        stateOf_next]

theorem execFinish_bins (t lane : Nat) (wire : LaneStreams) (s : State) :
    (stateOf s (execFinish t lane wire s)).bins = s.bins := by
  unfold execFinish
  split
  · simp only [stateOf_next]
  · dsimp only
    split
    · next h => simp only [State.hitchReceive_eq_bins h, State.at_bins, stateOf_next]
    · next h =>
      have e := (State.hitchReceive_eq_bins h).trans (s.at_bins t)
      (repeat' split) <;> simp only [e, State.authFail_bins, State.hitchAnswered_bins, State.hitchSend_bins,
        State.setLaneSt_bins, State.takeRank_bins, State.withLink_bins, forEach_bins, implies_true, stateOf_next]

theorem execHitchRetryTimeout_bins (t lane kind : Nat) (s : State) :
    (stateOf s (execHitchRetryTimeout t lane kind s)).bins = s.bins := by
  unfold execHitchRetryTimeout
  dsimp only
  (repeat' split) <;> simp only [State.at_bins, State.detachLane_bins, State.hitchAsk_bins, State.sendCert_bins,
    State.withLink_bins, forEach_bins, implies_true, stateOf_next]

theorem execTimeExchangeStart_bins (t stamp : Nat) (s : State) :
    (stateOf s (execTimeExchangeStart t stamp s)).bins = s.bins := by
  unfold execTimeExchangeStart
  dsimp only
  (repeat' split) <;> simp only [State.at_bins, State.laneSend_bins, State.withHitch_bins, stateOf_next]

theorem execTsyncReceive_bins (t lane id rxStamp txStamp : Nat) (s : State) :
    (stateOf s (execTsyncReceive t lane id rxStamp txStamp s)).bins = s.bins := by
  simp only [execTsyncReceive, State.at_bins, State.hitchSend_bins, stateOf_next, stateOf_ite, bins_ite, ite_self]

theorem State.discipline_bins (s : State) (d theta : Int) : (State.discipline s d theta).bins = s.bins := by
  unfold State.discipline
  dsimp only
  (repeat' split) <;> simp only [State.setFld_bins, State.setFldI_bins, State.withHitch_bins]

theorem execTimeRsp_bins (t lane : Nat) (wire : LaneStreams) (stamp : Nat) (s : State) :
    (stateOf s (execTimeRsp t lane wire stamp s)).bins = s.bins := by
  unfold execTimeRsp
  split
  · simp only [stateOf_next]
  · dsimp only
    split
    · next h => simp only [State.hitchReceive_eq_bins h, State.at_bins, stateOf_next]
    · next h =>
      have e := (State.hitchReceive_eq_bins h).trans (s.at_bins t)
      (repeat' split) <;> simp only [e, State.discipline_bins, State.draw_bins, State.setFldI_bins, State.withHitch_bins,
        stateOf_next]

theorem execTimeExchangeMiss_bins (t : Nat) (s : State) : (stateOf s (execTimeExchangeMiss t s)).bins = s.bins := by
  unfold execTimeExchangeMiss
  dsimp only
  (repeat' split) <;> simp only [State.at_bins, State.liveWrap_bins, State.withHitch_bins, stateOf_next]

theorem execEyeScanDone_bins (t errors : Nat) (s : State) : (stateOf s (execEyeScanDone t errors s)).bins = s.bins := by
  unfold execEyeScanDone; dsimp only; (repeat' split) <;> simp only [State.at_bins, State.eyeEnd_bins, stateOf_next]

theorem State.eyeStart_bins (s : State) : (State.eyeStart s).bins = s.bins := by
  simp only [State.eyeStart, State.setFld_bins, State.slotStart_bins, State.withHitch_bins]

theorem State.laneOff_bins (s : State) (l : Nat) : (State.laneOff s l).bins = s.bins := by
  simp only [State.laneOff, State.detachLane_bins, State.setFld_bins, State.skipsTo_bins, bins_ite, ite_self]

theorem State.lanesOff_bins (s : State) : (State.lanesOff s).bins = s.bins := by
  simp only [State.lanesOff, State.laneOff_bins, forUpto_bins, implies_true, bins_ite, ite_self]

theorem State.lanesDown_bins (s : State) (mask : Nat) : (State.lanesDown s mask).bins = s.bins := by
  simp only [State.lanesDown, State.laneOff_bins, forEach_bins, implies_true]

end Sys2Proof.Machine
end

section
/-! PROOFS. The histogram memory under: power, thermal protection, effects of writes, Tack, reads, time and frame boundaries. -/
namespace Sys2Proof.Machine

theorem State.withPower_bins (s : State) (f : Power → Power) : (State.withPower s f).bins = s.bins := by
  simp only [State.withPower, bins_mk]

theorem State.logicOff_bins (s : State) (k : Nat) : (State.logicOff s k).bins = s.bins := bins_congr rfl rfl

theorem State.sramLost_binsWf (s : State) (k : Nat) (hb : binsWf s.bins) :
    binsWf (State.sramLost s k).bins := s.sramLost_wf k hb

theorem State.regionOff_bins (s : State) (r : Nat) : (State.regionOff s r).bins = s.bins := by
  unfold State.regionOff
  extract_lets u v
  exact (State.setFlag_bins _ _).trans ((bins_mk u ..).trans ((State.withStream_bins _ _ _).trans (State.coresLost_bins _ _)))

theorem State.motionOff_bins (s : State) : (State.motionOff s).bins = s.bins := by
  simp only [State.motionOff, State.mirrorOff_bins, State.rcClear_bins, State.setCharger_bins, State.setChgState_bins,
    State.setDrive_bins, forUpto_bins, implies_true]

theorem State.domainOff_bins (s : State) (b : Nat) : (State.domainOff s b).bins = s.bins := by
  unfold State.domainOff
  dsimp only
  (repeat' split) <;> simp only [State.feOff_bins, State.lanesDown_bins, State.logicOff_bins, State.motionOff_bins,
    State.regionOff_bins, bins_mk]

theorem State.sramUp_bins (s : State) (k : Nat) : (State.sramUp s k).bins = s.bins := by
  unfold State.sramUp
  split
  · exact (State.setFlag_bins _ _).trans (bins_congr rfl rfl)
  · rfl

theorem State.domainOn_bins (s : State) (b : Nat) : (State.domainOn s b).bins = s.bins := by
  unfold State.domainOn
  (repeat' split) <;> simp only [State.chargerEnable_bins, State.feOn_bins, State.gatherRestart_bins, State.hkPowerUp_bins,
    State.sramUp_bins, forUpto_bins, implies_true]

theorem State.setDomains_wf (s : State) (on : Nat) (ret : Bool) (hb : binsWf s.bins) :
    binsWf (State.setDomains s on ret).bins := by
  unfold State.setDomains
  extract_lets was wasRet u v w x up y
  have hu : u.bins = s.bins := forEach_bins _ _ _ fun _ _ => State.domainOff_bins _ _
  have hv : binsWf v.bins := by
    refine forUpto_wf _ _ _ (fun k z hz => ?_) (hu ▸ hb)
    split
    · exact State.sramLost_binsWf _ _ hz
    · exact hz
  have hy : y.bins = x.bins := forEach_bins _ _ _ fun b z => bins_ite_of (State.domainOn_bins _ _) rfl
  rw [State.installSets_bins, hy, State.setFld_bins, State.withFar_bins, State.setFld_bins]
  exact hv

theorem State.stateInForce_wf (s : State) (st : Nat) (hb : binsWf s.bins) : binsWf (State.stateInForce s st).bins := by
  simp only [State.stateInForce, State.calRequest_bins, State.setDomains_wf, State.setFld_bins, State.withPower_bins,
    bins_ite, ite_self, hb]

theorem State.powerWritten_wf (s : State) (cov : Word) (hb : binsWf s.bins) : binsWf (State.powerWritten s cov).bins := by
  simp only [State.powerWritten, State.cutFrame_bins, State.setDomains_wf, State.setFld_bins, State.withPower_bins,
    bins_ite, ite_self, hb]

theorem execPowerTransitionDone_wf (t : Nat) (s : State) (hb : binsWf s.bins) :
    binsWf (stateOf s (execPowerTransitionDone t s)).bins := by
  unfold execPowerTransitionDone; (repeat' split) <;> simp only [State.at_bins, State.stateInForce_wf, stateOf_next, hb]

theorem execRefLost_bins (t : Nat) (s : State) : (stateOf s (execRefLost t s)).bins = s.bins := by
  simp only [execRefLost, State.at_bins, State.record_bins, State.setFlag_bins, State.setFld_bins, State.withPower_bins,
    stateOf_next, stateOf_ite, bins_ite, ite_self]

theorem execRefPresent_bins (t : Nat) (s : State) : (stateOf s (execRefPresent t s)).bins = s.bins := by
  simp only [execRefPresent, State.at_bins, State.setFld_bins, stateOf_next, stateOf_ite, bins_ite, ite_self]

theorem execPllLocked_bins (t : Nat) (s : State) : (stateOf s (execPllLocked t s)).bins = s.bins := by
  unfold execPllLocked; (repeat' split) <;> simp only [State.at_bins, State.setFlag_bins, State.setFld_bins, stateOf_next]

theorem execPfdShadowLoad_bins (t : Nat) (s : State) : (stateOf s (execPfdShadowLoad t s)).bins = s.bins := by
  unfold execPfdShadowLoad
  (repeat' split) <;> simp only [State.at_bins, State.setFld_bins, State.withPower_bins, stateOf_next]

theorem State.thermLog_bins (s : State) (t causes sensor : Nat) (mean : Int) :
    (State.thermLog s t causes sensor mean).bins = s.bins := by
  simp only [State.thermLog, State.setFld_bins, State.setFldI_bins]

theorem State.stopDecide_bins (s : State) (cause sensor : Nat) (mean : Int) :
    (State.stopDecide s cause sensor mean).bins = s.bins := by
  unfold State.stopDecide; split <;> simp only [State.setFld_bins, State.withPower_bins, bins_ite, ite_self]

theorem State.loseColumns_bins (s : State) : (State.loseColumns s).bins = s.bins := by
  unfold State.loseColumns
  dsimp only
  (repeat' split) <;> simp only [State.chanIdle_bins, State.columnLost_bins, State.withPower_bins, State.withScan_bins,
    forUpto_bins, forEach_bins, implies_true, bins_ite, ite_self]

theorem State.emitOff_bins (s : State) : (State.emitOff s).bins = s.bins := by
  simp only [State.emitOff, State.chargerEnable_bins, State.setFld_bins, forUpto_bins, implies_true]

theorem State.hardCut_wf (s : State) (cause sensor : Nat) (mean : Int) (hb : binsWf s.bins) :
    binsWf (State.hardCut s cause sensor mean).bins := by
  unfold State.hardCut
  split <;> simp only [State.driveOutputs_bins, State.emitOff_bins, State.loseColumns_bins, State.record_bins,
    State.safeCause_bins, State.setDomains_wf, State.setFlag_bins, State.setFld_bins, State.spinDown_bins,
    State.thermLog_bins, State.withPower_bins, hb]

theorem State.thermMean_wf (s : State) (hb : binsWf s.bins) : binsWf (State.thermMean s).bins := by
  unfold State.thermMean
  dsimp only
  (repeat' split) <;> simp only [State.hardCut_wf, State.record_bins, State.setFlag_bins, State.setFld_bins,
    State.setFldI_bins, State.stopDecide_bins, State.withPower_bins, hb]

theorem execThermalTick_wf (t : Nat) (s : State) (hb : binsWf s.bins) : binsWf (stateOf s (execThermalTick t s)).bins := by
  unfold execThermalTick
  split
  · exact hb
  · split
    · exact hb
    · extract_lets u deltas v w x y
      have hu : u.bins = s.bins := (State.takeForce_bins _ _).trans (State.at_bins _ _)
      have hv : v.bins = u.bins := by
        dsimp only [v]
        split
        · rfl
        · exact State.setFldI_bins _ _ _
      have hw : binsWf w.bins := by
        rw [(forUpto_bins _ _ _ fun _ _ => State.withPower_bins _ _ : w.bins = v.bins), hv, hu]
        exact hb
      have hx : binsWf x.bins := by
        dsimp only [x]
        split
        · exact State.hardCut_wf _ _ _ _ hw
        · exact hw
      have hy : y.bins = x.bins := by
        dsimp only [y]
        split
        · exact (State.setFlag_bins _ _).trans (State.stopDecide_bins _ _ _ _)
        · rfl
      rw [stateOf_next, forUpto_bins _ _ y, hy]
      · exact hx
      · intro j z
        split
        · exact State.withPower_bins _ _
        · rfl

theorem State.stopBegin_bins (s : State) (x : OrderlyStop) : (State.stopBegin s x).bins = s.bins := by
  simp only [State.stopBegin, State.cutFrame_bins, State.emitOff_bins, State.safeCause_bins, State.setFld_bins,
    State.spinDown_bins, State.withPower_bins]

theorem State.stopEnd_wf (s : State) (x : OrderlyStop) (hb : binsWf s.bins) : binsWf (State.stopEnd s x).bins := by
  simp only [State.stopEnd, State.record_bins, State.setDomains_wf, State.setFlag_bins, State.setFld_bins,
    State.thermLog_bins, State.withPower_bins, hb]

theorem execOrderlyStop_wf (t : Nat) (s : State) (hb : binsWf s.bins) : binsWf (stateOf s (execOrderlyStop t s)).bins := by
  unfold execOrderlyStop
  (repeat' split) <;> simp only [State.at_bins, State.stopBegin_bins, State.stopEnd_wf, stateOf_next, hb]

theorem State.resume_bins (s : State) : (State.resume s).bins = s.bins := by
  simp only [State.resume, State.causeGone_bins, State.setFld_bins]

theorem execHkConversion_wf (t conv code : Nat) (s : State) (hb : binsWf s.bins) :
    binsWf (stateOf s (execHkConversion t conv code s)).bins := by
  unfold execHkConversion
  split
  · exact hb
  · split
    · exact hb
    · extract_lets u
      split
      · exact hb
      · extract_lets v w x
        have hw : binsWf w.bins := by
          refine forUpto_wf _ _ _ (fun j z hz => ?_) hb
          split
          · have ha : binsWf (z.accTake j v).bins := by
              rw [State.accTake_bins]
              exact hz
            dsimp only
            split
            · exact State.thermMean_wf _ ha
            · exact ha
          · exact hz
        have hx : x.bins = w.bins := bins_ite_of (State.calTemp_bins _) rfl
        have hend : ∀ z : State, z.bins = x.bins → binsWf z.bins := fun z hz => by
          rw [hz, hx]
          exact hw
        exact hend _ (bins_ite_of rfl (bins_ite_of (State.hkStart_bins _ _) (State.setHkc_bins _ _ _)))

theorem State.countersView_bins (s : State) (c : Nat) : (State.countersView s c).bins = s.bins := by
  simp only [State.countersView, State.setFld_bins]

theorem State.ringEnable_bins (s : State) (c : Nat) : (State.ringEnable s c).bins = s.bins := by
  simp only [State.ringEnable, State.setFld_bins]

theorem State.padCrc_bins (s : State) (p : Nat) : (State.padCrc s p).bins = s.bins := by
  simp only [State.padCrc, State.setFld_bins]

theorem State.padCommit_bins (s : State) (p nv : Nat) : (State.padCommit s p nv).bins = s.bins := by
  simp only [State.padCommit, State.padCrc_bins, State.setFld_bins, State.withPad_bins]

theorem State.padEnWritten_bins (s : State) (p : Nat) (was : Bool) : (State.padEnWritten s p was).bins = s.bins := by
  simp only [State.padEnWritten, State.padStart_bins, State.padStop_bins, State.withPad_bins, bins_ite, ite_self]

theorem State.confirm_bins (s : State) : (State.confirm s).bins = s.bins := by simp only [State.confirm, bins_mk]

theorem State.stuInvalidate_bins (s : State) : (State.stuInvalidate s).bins = s.bins := by
  simp only [State.stuInvalidate, State.setFld_bins, bins_mk]

theorem State.mirCtrl_bins (s : State) (cov : Word) : (State.mirCtrl s cov).bins = s.bins := by
  simp only [State.mirCtrl, State.mirDrv_bins, State.mirRun_bins, State.withMir_bins, bins_ite, ite_self]

theorem State.level02_bins (s : State) (key : Nat) (old cov : Word) : (State.level02 s key old cov).bins = s.bins := by
  unfold State.level02
  split <;> simp only [State.askPhase_bins, State.bgEnables_bins, State.bgView_bins, State.calView_bins,
    State.countersView_bins, State.freezeView_bins, State.gatherRestart_bins, State.maskView_bins,
    State.pointRingEnable_bins, State.recEnable_bins, State.recPattern_bins, State.requestGait_bins, State.setFld_bins,
    State.withRec_bins, State.withScan_bins, forUpto_bins, implies_true, bins_ite, ite_self]

theorem State.level09_bins (s : State) (key : Nat) : (State.level09 s key).bins = s.bins := by
  unfold State.level09
  split <;> simp only [State.adaptFix_bins, State.chargerEnable_bins, State.setReg_bins, State.targetForm_bins,
    State.targetsForm_bins, forUpto_bins, implies_true, bins_ite, ite_self]

theorem State.level0A_bins (s : State) (key : Nat) (old cov : Word) : (State.level0A s key old cov).bins = s.bins := by
  simp only [State.level0A, State.accWritten_bins, State.feWritten_bins, State.hkWritten_bins, State.mirCtrl_bins,
    State.padCrc_bins, State.padEnWritten_bins, State.rcLimit_bins, State.srcWritten_bins, bins_ite, ite_self]

theorem State.level10_wf (s : State) (key : Nat) (old cov : Word) (hb : binsWf s.bins) :
    binsWf (State.level10 s key old cov).bins := by
  unfold State.level10
  split <;> simp only [State.beacon_bins, State.flagView_bins, State.lanesOff_bins, State.powerWritten_wf, State.pump_bins,
    State.ringEnable_bins, State.showTeam_bins, State.withPower_bins, forUpto_bins, implies_true, bins_ite, ite_self, hb]

theorem State.levelEffect_wf (s : State) (key : Nat) (old cov : Word) (hb : binsWf s.bins) :
    binsWf (State.levelEffect s key old cov).bins := by
  unfold State.levelEffect
  (repeat' split) <;> simp only [State.level02_bins, State.level09_bins, State.level0A_bins, State.level10_wf, hb]

theorem State.order03_bins (s : State) (key : Nat) (cov new co : Word) :
    (State.order03 s key cov new co).bins = s.bins := by
  unfold State.order03
  split <;> simp only [State.accSelect_bins, State.chargerClear_bins, State.coreRestart_bins, State.dumpStart_bins,
    State.feWritten_bins, State.maskRelease_bins, State.mirRestart_bins, State.rcClear_bins, State.recStop_bins,
    State.recSwTrig_bins, State.spareRequest_bins, State.statStart_bins, State.withCluster_bins, State.withStream_bins,
    forUpto_bins, forEach_bins, implies_true, bins_ite, ite_self]

theorem State.order0D_bins (s : State) (key : Nat) (new : Word) : (State.order0D s key new).bins = s.bins := by
  unfold State.order0D
  split <;> simp only [State.calRequest_bins, State.confirm_bins, State.dmaAbort_bins, State.dmaResume_bins,
    State.eyeStart_bins, State.leave_bins, State.padCommit_bins, State.resume_bins, State.safeReset_bins, State.slip_bins,
    State.stuInvalidate_bins, bins_ite, ite_self, bins_mk]

theorem State.orderEffect_bins (s : State) (key : Nat) (cov new co : Word) :
    (State.orderEffect s key cov new co).bins = s.bins := by
  simp only [State.orderEffect, State.order03_bins, State.order0D_bins, bins_ite, ite_self]

theorem State.clearFlags_bins (s : State) (coinc : List Nat) (e : Entry) : (State.clearFlags s coinc e).bins = s.bins := by
  simp only [State.clearFlags, State.clearFlag_bins, forEach_bins, implies_true]

theorem State.storeEntry_bins (s : State) (coinc : List Nat) (e : Entry) : (State.storeEntry s coinc e).bins = s.bins := by
  simp only [State.storeEntry, State.clearFlags_bins, State.setReg_bins]

theorem State.bar0Ignored_bins (s : State) (offset : Nat) : (State.bar0Ignored s offset).bins = s.bins := by
  simp only [State.bar0Ignored, State.record_bins, State.setFlag_bins]

theorem commitEntries_wf (s0 : State) (coinc : List Nat) (all l : List Entry) (s : State) (hb : binsWf s.bins) :
    binsWf (commitEntries s0 coinc all l s).bins := by
  induction l generalizing s with
  | nil => exact hb
  | cons e l ih =>
    have hlevel : ∀ (c : Bool) (old cov : Word) (u : State), binsWf u.bins →
        binsWf (if c then u.levelEffect e.key old cov else u).bins := fun c old cov u hu => by
      split
      · exact State.levelEffect_wf _ _ _ _ hu
      · exact hu
    have hstore : binsWf (s.storeEntry coinc e).bins := by
      rw [State.storeEntry_bins]
      exact hb
    unfold commitEntries
    refine hlevel _ _ _ _ (ih _ ?_)
    rw [State.orderEffect_bins]
    exact hlevel _ _ _ _ hstore

theorem State.writeEntries_wf {s : State} {auth : Bool} {coinc : List Nat} {l : List Entry} {t : State}
    (h : s.writeEntries auth coinc l = .ok t) (hb : binsWf s.bins) :
    binsWf t.bins := by
  unfold State.writeEntries at h
  split at h
  · cases h
  · cases h
    exact commitEntries_wf _ _ _ _ _ hb

theorem State.bar0Write_wf (s : State) (key : Nat) (half : Half) (value coinc : Word) (hb : binsWf s.bins) :
    binsWf (State.bar0Write s key half value coinc).bins := by
  unfold State.bar0Write
  dsimp only
  split
  · exact hb
  · split
    · rw [State.bar0Ignored_bins]
      exact hb
    · split
      · exact State.writeEntries_wf ‹_› hb
      · rw [State.bar0Ignored_bins]
        exact hb

theorem State.applyTack_wf (s : State) (hb : binsWf s.bins) : binsWf (State.applyTack s).bins := by
  unfold State.applyTack
  extract_lets default
  have hdefault : ∀ cause entry, binsWf (default cause entry s).bins := fun cause entry => by
    have h : (default cause entry s).bins = s.bins :=
      (State.record_bins _ _ _ _ _ _).trans ((bins_mk _ ..).trans
        ((State.setFld_bins _ _ _).trans ((State.setFld_bins _ _ _).trans (State.setFld_bins _ _ _))))
    rw [h]
    exact hb
  split
  · exact hdefault _ _
  · split
    · exact hdefault _ _
    · next v hv =>
      have h : binsWf v.bins := State.writeEntries_wf hv hb
      exact h

theorem State.readWhole_bins (s : State) (key : Nat) : (State.readWhole s key).2.bins = s.bins := by
  unfold State.readWhole; split <;> simp only [State.recRead_bins, State.slotRead_bins, bins_ite, ite_self]

theorem State.bar0Read_bins (s : State) (key : Nat) (half : Half) : (State.bar0Read s key half).bins = s.bins := by
  unfold State.bar0Read
  dsimp only
  (repeat' split) <;> simp only [State.emit_bins, State.readWhole_bins, State.slotRead_bins, bins_mk]

theorem State.timeStep_bins (s : State) (d frac : Int) : (State.timeStep s d frac).bins = s.bins := bins_congr rfl rfl

theorem State.unfiredHeader_bins (s : State) (r : Nat) : (State.unfiredHeader s r).bins = s.bins := by
  simp only [State.unfiredHeader, State.dmaPush_bins, State.withStream_bins, bins_ite, ite_self]

theorem State.streamEnd_bins (s : State) (r : Nat) : (State.streamEnd s r).bins = s.bins := by
  simp only [State.streamEnd, State.unfiredHeader_bins, State.withStream_bins, bins_ite, ite_self]

theorem State.streamStart_bins (s : State) (r : Nat) : (State.streamStart s r).bins = s.bins := by
  simp only [State.streamStart, State.withStream_bins, bins_ite, ite_self]

theorem State.keyCauseAll_bins (s : State) (c : Nat) : (State.keyCauseAll s c).bins = s.bins := by
  simp only [State.keyCauseAll, State.withStream_bins, forUpto_bins, implies_true]

theorem State.nearViews_bins (s : State) : (State.nearViews s).bins = s.bins := by
  simp only [State.nearViews, State.setFld_bins, forUpto_bins, implies_true]

theorem State.gatherClose_bins (s : State) (tb : Nat) : (State.gatherClose s tb).bins = s.bins := by
  unfold State.gatherClose
  extract_lets u v w x
  have hv : v.bins = s.bins := (State.withSup_bins _ _).trans ((State.nearViews_bins _).trans (State.withSup_bins _ _))
  have hw : w.bins = v.bins := forUpto_bins _ _ _ fun _ _ => State.adaptUpdate_bins _ _
  have hx : x.bins = w.bins := forUpto_bins _ _ _ fun _ _ => State.setCharger_bins _ _ _
  rw [← hv, ← hw, ← hx]
  exact bins_congr rfl rfl

theorem State.boundarySnapshots_bins (s : State) : (State.boundarySnapshots s).bins = s.bins := by
  simp only [State.boundarySnapshots, State.setLive_bins, State.snapshot_bins, forUpto_bins, forEach_bins, implies_true]

theorem State.nextGrid_bins (s : State) (gNew : Nat) : (State.nextGrid s gNew).bins = s.bins := by
  unfold State.nextGrid
  split <;> simp only [State.sendSlot_bins, State.setFlag_bins, State.setFld_bins, State.timeStep_bins, State.withMir_bins,
    State.withScan_bins, bins_ite, ite_self]

theorem State.dropEdges_bins (s : State) : (State.dropEdges s).bins = s.bins := by
  simp only [State.dropEdges, State.setGate_bins, forUpto_bins, implies_true]

theorem State.scanChanges_bins (s : State) (gaitNew : Bool) (wNew : Bool) :
    (State.scanChanges s gaitNew wNew).bins = s.bins := by
  simp only [State.scanChanges, State.enterMir_bins, State.rcClear_bins, State.retable_bins, State.withStream_bins,
    forUpto_bins, implies_true, bins_ite, ite_self]

theorem State.takeAll_bins (s : State) : (State.takeAll s).bins = s.bins := by
  simp only [State.takeAll, State.adaptTake_bins, State.expTake_bins, State.keyCauseAll_bins, State.refineBoundary_bins,
    State.takeForce_bins, forEach_bins, implies_true, bins_ite, ite_self, bins_mk]

theorem State.epochBoundary_bins (s : State) : (State.epochBoundary s).bins = s.bins := by
  simp only [State.epochBoundary, State.epochApply_bins, State.keyCauseAll_bins, bins_ite, ite_self]

theorem State.beginFrame_bins (s : State) (fired : Bool) : (State.beginFrame s fired).bins = s.bins := by
  simp only [State.beginFrame, State.addSat_bins, State.liveWrap_bins, State.withMir_bins, State.withScan_bins, bins_ite,
    ite_self]

theorem State.frameStep_bins (s : State) : (State.frameStep s).bins = s.bins := by
  simp only [State.frameStep, State.liveWrap_bins, State.setLive_bins, State.snapshot_bins]

theorem State.creditsFull_bins (s : State) : (State.creditsFull s).bins = s.bins := by
  simp only [State.creditsFull, State.withStamp_bins]

theorem State.crossBoundary_bins (s : State) : (State.crossBoundary s).bins = s.bins := by
  simp only [State.crossBoundary, State.at_bins, State.beginFrame_bins, State.boundarySnapshots_bins,
    State.creditsFull_bins, State.dropEdges_bins, State.dumpRecheck_bins, State.epochBoundary_bins,
    State.farrierBoundary_bins, State.frameStep_bins, State.gatherClose_bins, State.mirrorBoundary_bins,
    State.nextGrid_bins, State.scanChanges_bins, State.streamEnd_bins, State.streamStart_bins, State.takeAll_bins,
    State.targetsForm_bins, State.withPower_bins, forUpto_bins, implies_true, bins_ite, ite_self]

theorem execFrameBoundary_bins (s : State) : (stateOf s (execFrameBoundary s)).bins = s.bins := by
  simp only [execFrameBoundary, State.crossBoundary_bins, State.withScan_bins, stateOf_next, stateOf_ite, bins_ite,
    ite_self]

theorem State.boundaryFirst_bins (s : State) (t : Nat) : (State.boundaryFirst s t).bins = s.bins := by
  simp only [State.boundaryFirst, State.crossBoundary_bins, State.withScan_bins, bins_ite, ite_self]

end Sys2Proof.Machine
end

section
/-! PROOFS. The histogram memory under: start, the host port and the commands. -/
namespace Sys2Proof.Machine

theorem State.withCtl_bins (s : State) (f : Control → Control) : (State.withCtl s f).bins = s.bins := bins_mk s ..

theorem State.showIdentity_bins (s : State) : (State.showIdentity s).bins = s.bins := by
  simp only [State.showIdentity, State.setFld_bins, State.setReg_bins, State.takeForce_bins]

theorem State.boot_wf (s : State) (hb : binsWf s.bins) : binsWf (State.boot s).bins := by
  unfold State.boot
  extract_lets u choice v
  have hv : v.bins = s.bins :=
    bins_ite_of ((State.setFlag_bins _ _).trans (State.showIdentity_bins _)) (State.showIdentity_bins _)
  have hdraw := State.draw_bins v 64
  generalize v.draw 64 = p at hdraw ⊢
  obtain ⟨id, w⟩ := p
  dsimp -zeta only at hdraw ⊢
  extract_lets x y z
  have hz : binsWf z.bins := by
    have hzw : z.bins = w.bins :=
      (State.setFld_bins _ _ _).trans ((State.withCtl_bins _ _).trans (State.setReg_bins _ _ _))
    rw [hzw, hdraw, hv]
    exact hb
  clear_value choice
  obtain _ | ⟨bank, trial⟩ := choice
  · rw [State.withCtl_bins, State.setFld_bins, bins_mk]
    exact hz
  · rw [State.withCtl_bins]
    refine State.applyTack_wf _ ?_
    rw [State.setReg_bins, State.setFld_bins, bins_mk]
    exact hz

theorem State.startScan_bins (s : State) : (State.startScan s).bins = s.bins := by
  simp only [State.startScan, State.withScan_bins]

theorem State.factoryTables_bins (s : State) : (State.factoryTables s).bins = s.bins := by
  simp only [State.factoryTables, bins_mk]

theorem State.resetBlocks_wf (s : State) : binsWf (State.resetBlocks s).bins := ⟨rfl, rfl⟩

theorem State.restartEnd_wf (s : State) (cause : Nat) : binsWf (State.restartEnd s cause).bins := by
  unfold State.restartEnd
  refine State.boot_wf _ ?_
  rw [State.seqFixed_bins, State.record_bins, State.setFld_bins, State.addWrap_bins, State.startScan_bins,
    State.factoryTables_bins, State.hkPowerUp_bins, State.setFld_bins, State.setFld_bins, State.dropNotices_bins]
  exact State.resetBlocks_wf _

theorem State.showRun_bins (s : State) (x : Option (Path × Nat × Nat)) : (State.showRun s x).bins = s.bins := by
  simp only [State.showRun, State.setFld_bins]

theorem State.showExecuting_bins (s : State) (x : Option Executing) : (State.showExecuting s x).bins = s.bins := by
  simp only [State.showExecuting, State.showRun_bins, bins_mk]

theorem State.restartBegin_bins (s : State) (cause : Nat) : (State.restartBegin s cause).bins = s.bins := by
  simp only [State.restartBegin, State.cutFrame_bins, State.driveOutputs_bins, State.emitOff_bins, State.mirrorOff_bins,
    State.setDrive_bins, State.setFld_bins, State.showExecuting_bins, State.withCtl_bins, State.withPower_bins,
    State.withSup_bins, bins_ite, ite_self]

theorem State.controlRestart_bins (s : State) (cause : Nat) : (State.controlRestart s cause).bins = s.bins := by
  simp only [State.controlRestart, State.restartBegin_bins, bins_ite, ite_self]

theorem State.runAsked_bins (s : State) : (State.runAsked s).bins = s.bins := by
  unfold State.runAsked; split <;> simp only [State.controlRestart_bins, State.withCtl_bins]

theorem State.dmaIdle_bins (s : State) : (State.dmaIdle s).bins = s.bins := by
  unfold State.dmaIdle
  extract_lets u v
  have hu : u.bins = s.bins := forUpto_bins _ _ _ fun _ _ => State.chanIdle_bins _ _
  exact (bins_mk v ..).trans ((State.setFld_bins _ _ _).trans hu)

theorem State.functionReset0_bins (s : State) : (State.functionReset0 s).bins = s.bins := by
  unfold State.functionReset0
  extract_lets u h v w x y sal z z'
  have hw : w.bins = s.bins := (State.showBm_bins _).trans ((bins_mk u ..).trans (State.dmaIdle_bins _))
  have hx : x.bins = w.bins := forEach_bins _ _ _ fun _ q => (State.setReg_bins _ _ _).trans (bins_mk q ..)
  exact (State.dropNotices_bins _).trans ((State.setFld_bins _ _ _).trans ((bins_mk y ..).trans
    ((State.showExecuting_bins _ _).trans (hx.trans hw))))

theorem State.functionReset1_bins (s : State) : (State.functionReset1 s).bins = s.bins := by
  simp only [State.functionReset1, State.setFld_bins, State.srcUnsync_bins, State.takeForce_bins, State.withBridle_bins,
    bins_mk]

theorem State.linkReset_bins (s : State) : (State.linkReset s).bins = s.bins := by
  simp only [State.linkReset, State.functionReset0_bins, State.functionReset1_bins, State.setFld_bins, bins_mk]

theorem execControlWatchdog_bins (t : Nat) (s : State) : (stateOf s (execControlWatchdog t s)).bins = s.bins := by
  simp only [execControlWatchdog, State.at_bins, State.controlRestart_bins, stateOf_next, stateOf_ite, bins_ite, ite_self]

theorem execFunctionReset_bins (t function : Nat) (s : State) :
    (stateOf s (execFunctionReset t function s)).bins = s.bins := by
  unfold execFunctionReset
  (repeat' split) <;> simp only [State.at_bins, State.functionReset0_bins, State.functionReset1_bins, stateOf_next]

theorem execLinkReset_bins (t : Nat) (s : State) : (stateOf s (execLinkReset t s)).bins = s.bins := by
  simp only [execLinkReset, State.at_bins, State.linkReset_bins, stateOf_next, stateOf_ite, bins_ite, ite_self]

theorem execDomainSwitchOff_wf (t : Nat) (s : State) (hb : binsWf s.bins) :
    binsWf (stateOf s (execDomainSwitchOff t s)).bins := by
  unfold execDomainSwitchOff
  (repeat' split) <;> simp only [State.at_bins, State.restartEnd_wf, State.stateInForce_wf, stateOf_next, hb]

theorem State.hostWrite_wf (s : State) (key : Nat) (h : HostWrite) (hb : binsWf s.bins) :
    binsWf (State.hostWrite s key h).bins := by
  unfold State.hostWrite
  split
  · exact hb
  · extract_lets u
    have hu : binsWf u.bins := by
      rw [State.at_bins, State.boundaryFirst_bins]
      exact hb
    split
    · rw [State.runAsked_bins]
      exact State.bar0Write_wf _ _ _ _ _ hu
    · split
      · exact hu
      · split
        · next v hv =>
          rw [State.runAsked_bins]
          exact State.writeEntries_wf hv hu
        · exact hu

theorem stateOf_hostWrite_wf {s : State} {key : Nat} {h : HostWrite} (hb : binsWf s.bins) :
    binsWf (stateOf s (if s.ctl.por then .next s else .next (s.hostWrite key h))).bins := by
  split
  · exact hb
  · exact State.hostWrite_wf _ _ _ hb

theorem stateOf_hostWrite_if_wf {s : State} {key : Nat} {h : HostWrite} {p : Prop} [Decidable p] (hb : binsWf s.bins) :
    binsWf (stateOf s (if s.ctl.por then .next s else if p then .next (s.hostWrite key h) else .next s)).bins := by
  split
  · exact hb
  · split
    · exact State.hostWrite_wf _ _ _ hb
    · exact hb

theorem execTableWalkComplete_bins (t chan : Nat) (l1 l2 : Option Word) (s : State) :
    (stateOf s (execTableWalkComplete t chan l1 l2 s)).bins = s.bins := by
  simp only [execTableWalkComplete, State.at_bins, State.walkDone_bins, stateOf_next, stateOf_ite, bins_ite, ite_self]

theorem execStuInvalidationDone_bins (t : Nat) (s : State) : (stateOf s (execStuInvalidationDone t s)).bins = s.bins := by
  simp only [execStuInvalidationDone, State.at_bins, State.setFld_bins, stateOf_next, stateOf_ite, bins_ite, ite_self]

theorem State.bridleFlush_bins (s : State) : (State.bridleFlush s).bins = s.bins := by
  simp only [State.bridleFlush, State.emit_bins, State.msix_bins, State.withBridle_bins, forEach_bins, implies_true]

theorem execRetrainDone_bins (t rate : Nat) (x8 : Bool) (s : State) :
    (stateOf s (execRetrainDone t rate x8 s)).bins = s.bins := by
  simp only [execRetrainDone, State.at_bins, State.bridleFlush_bins, State.msixFlush_bins, State.pumpAll_bins,
    State.setFld_bins, stateOf_next, stateOf_ite, bins_ite, ite_self, bins_mk]

theorem execLinkUp_bins (t rate : Nat) (x8 : Bool) (s : State) : (stateOf s (execLinkUp t rate x8 s)).bins = s.bins := by
  simp only [execLinkUp, State.at_bins, State.pumpAll_bins, State.setFld_bins, State.showBm_bins, stateOf_next,
    stateOf_ite, bins_ite, ite_self, bins_mk]

theorem State.setBar_bins (s : State) (function bar a : Nat) : (State.setBar s function bar a).bins = s.bins := by
  simp only [State.setBar, bins_ite, ite_self, bins_mk]

theorem execBusMasterEnable_bins (t function : Nat) (c : FnConfig) (s : State) :
    (stateOf s (execBusMasterEnable t function c s)).bins = s.bins := by
  unfold execBusMasterEnable
  split
  · rfl
  · split
    · rfl
    · extract_lets u
      have hu : u.bins = s.bins :=
        (State.setBar_bins _ _ _ _).trans ((State.setBar_bins _ _ _ _).trans (State.at_bins _ _))
      split
      · rw [stateOf_next, State.pumpAll_bins, State.msixFlush_bins, State.showBm_bins]
        exact (bins_mk u ..).trans hu
      · rw [stateOf_next, State.msixFlush_bins]
        exact (bins_mk u ..).trans hu
      · exact hu

theorem State.hostRead_bins (s : State) (t key : Nat) (half : Half) : (State.hostRead s t key half).bins = s.bins := by
  simp only [State.hostRead, State.at_bins, State.bar0Read_bins, bins_ite, ite_self]

theorem State.areaRead_bins (s : State) (t key : Nat) (half : Half) : (State.areaRead s t key half).bins = s.bins := by
  simp only [State.areaRead, State.at_bins, State.emit_bins, bins_ite, ite_self]

theorem execLowHalfRead_bins (t key : Nat) (half : Half) (s : State) :
    (stateOf s (execLowHalfRead t key half s)).bins = s.bins := by
  simp only [execLowHalfRead, State.areaRead_bins, State.hostRead_bins, stateOf_next, stateOf_ite, bins_ite, ite_self]

theorem execResultHeaderRead_bins (t slot : Nat) (half : Half) (s : State) :
    (stateOf s (execResultHeaderRead t slot half s)).bins = s.bins := by
  unfold execResultHeaderRead; (repeat' split) <;> simp only [State.hostRead_bins, stateOf_next]

theorem execRecDataRead_bins (t : Nat) (half : Half) (s : State) :
    (stateOf s (execRecDataRead t half s)).bins = s.bins := by
  simp only [execRecDataRead, State.hostRead_bins, stateOf_next, stateOf_ite, bins_ite, ite_self]

theorem State.msixWrite_bins (s : State) (fn w : Nat) (half : Half) (value : BitVec 64) :
    (State.msixWrite s fn w half value).bins = s.bins := by
  simp only [State.msixWrite, State.msixFlush_bins, State.setMsix_bins]

theorem State.areaWrite_bins (s : State) (t key : Nat) (half : Half) (value : BitVec 64) :
    (State.areaWrite s t key half value).bins = s.bins := by
  simp only [State.areaWrite, State.at_bins, State.msixWrite_bins, bins_ite, ite_self]

theorem execBar0ParamWrite_wf (t key : Nat) (half : Half) (value coinc : BitVec 64) (s : State) (hb : binsWf s.bins) :
    binsWf (stateOf s (execBar0ParamWrite t key half value coinc s)).bins := by
  unfold execBar0ParamWrite; (repeat' split) <;> simp only [State.areaWrite_bins, State.hostWrite_wf, stateOf_next, hb]

theorem State.doorbellErr_bins (s : State) (offset : Nat) : (State.doorbellErr s offset).bins = s.bins := by
  simp only [State.doorbellErr, State.record_bins, State.setFlag_bins]

theorem execSqDoorbell_bins (t value size : Nat) (s : State) :
    (stateOf s (execSqDoorbell t value size s)).bins = s.bins := by
  simp only [execSqDoorbell, State.at_bins, State.doorbellErr_bins, State.setFld_bins, stateOf_next, stateOf_ite,
    bins_ite, ite_self]

theorem execCqDoorbell_bins (t value size : Nat) (s : State) :
    (stateOf s (execCqDoorbell t value size s)).bins = s.bins := by
  simp only [execCqDoorbell, State.at_bins, State.doorbellErr_bins, State.setFld_bins, stateOf_next, stateOf_ite,
    bins_ite, ite_self]

theorem execMbGo_bins (t value : Nat) (request : List Byte) (s : State) :
    (stateOf s (execMbGo t value request s)).bins = s.bins := by
  simp only [execMbGo, State.at_bins, State.setFlag_bins, State.setFld_bins, stateOf_next, stateOf_ite, bins_ite,
    ite_self, bins_mk]

theorem State.checkHead_bins (s : State) (c : Command) (raw : List Byte) : (State.checkHead s c raw).2.bins = s.bins := by
  unfold State.checkHead; (repeat' split) <;> simp only [State.setFld_bins]

theorem State.noteFailure_bins (s : State) (c : Command) (f : Failure) : (State.noteFailure s c f).bins = s.bins := by
  unfold State.noteFailure; dsimp only; (repeat' split) <;> simp only [State.record_bins, State.setFlag_bins]

theorem State.sendReply_bins (s : State) (c : Command) (ok : Bool) (bytes : List Byte) :
    (State.sendReply s c ok bytes).bins = s.bins := by
  unfold State.sendReply
  split <;> simp only [State.msix_bins, State.pushReply_bins, State.setFld_bins, bins_ite, ite_self, bins_mk]

theorem State.answerOk_bins (s : State) (c : Command) (data : List Byte) : (State.answerOk s c data).bins = s.bins := by
  simp only [State.answerOk, State.liveWrap_bins, State.sendReply_bins]

theorem State.answerFail_bins (s : State) (c : Command) (f : Failure) : (State.answerFail s c f).bins = s.bins := by
  simp only [State.answerFail, State.liveWrap_bins, State.noteFailure_bins, State.sendReply_bins]

theorem State.takePacket_bins (s : State) (path : Path) : (State.takePacket s path).bins = s.bins := by
  unfold State.takePacket; split <;> simp only [bins_mk]

theorem State.commandOver_bins (s : State) : (State.commandOver s).bins = s.bins := by
  unfold State.commandOver
  extract_lets u
  have hu : u.bins = s.bins := State.showRun_bins _ _
  split
  · exact (bins_mk u ..).trans hu
  · exact hu

theorem outState_noBody_bins (s : State) (c : Command) (k : Outcome) (h : (outState s k).bins = s.bins) :
    (outState s (noBody c k)).bins = s.bins := by
  unfold noBody
  split
  · exact h
  · rfl

theorem outState_noBody_wf (s : State) (c : Command) (k : Outcome) (h : binsWf (outState s k).bins)
    (hb : binsWf s.bins) : binsWf (outState s (noBody c k)).bins := by
  unfold noBody
  split
  · exact h
  · exact hb

/-- What holds of the histogram memory before a command, and of what its effect makes of it, holds after the command. -/
theorem State.command_of {P : SMap Word × SMap Bool → Prop} {s : State} {t : Nat} {path : Path} {mine : Command → Bool}
    {run : Command → State → Outcome} (h : ∀ c u, P u.bins → P (outState u (run c u)).bins) (hs : P s.bins) :
    P (State.command s t path mine run).bins := by
  unfold State.command
  split
  · exact hs
  · next raw _ =>
    extract_lets c u
    split
    · exact hs
    · have hhead : (u.checkHead c raw).2.bins = s.bins :=
        (State.checkHead_bins _ _ _).trans ((State.showRun_bins _ _).trans ((State.takePacket_bins _ _).trans
          ((State.at_bins _ _).trans (State.boundaryFirst_bins _ _))))
      generalize u.checkHead c raw = p at hhead ⊢
      obtain ⟨fail, v⟩ := p
      have hv : P v.bins := hhead ▸ hs
      cases fail with
      | some f =>
        rw [State.commandOver_bins, State.answerFail_bins]
        exact hv
      | none =>
        have hrun := h c v hv
        dsimp only
        generalize run c v = o at hrun ⊢
        cases o with
        | fail f =>
          rw [State.commandOver_bins, State.answerFail_bins]
          exact hv
        | ended f w =>
          rw [State.commandOver_bins, State.answerFail_bins]
          exact hrun
        | ok r =>
          rw [State.runAsked_bins, State.commandOver_bins, State.answerOk_bins]
          exact hrun
        | wait w =>
          rw [State.runAsked_bins]
          exact hrun

theorem stateOf_command_bins {s : State} {t : Nat} {path : Path} {mine : Command → Bool}
    {run : Command → State → Outcome} (h : ∀ c u, (outState u (run c u)).bins = u.bins) :
    (stateOf s (if s.ctl.por then .next s else .next (s.command t path mine run))).bins = s.bins := by
  split
  · rfl
  · exact State.command_of (P := (· = s.bins)) (fun c u hu => (h c u).trans hu) rfl

theorem stateOf_command_wf {s : State} {t : Nat} {path : Path} {mine : Command → Bool}
    {run : Command → State → Outcome} (h : ∀ c u, binsWf u.bins → binsWf (outState u (run c u)).bins)
    (hb : binsWf s.bins) :
    binsWf (stateOf s (if s.ctl.por then .next s else .next (s.command t path mine run))).bins := by
  split
  · exact hb
  · exact State.command_of h hb

theorem execNop_bins (t : Nat) (path : Path) (s : State) : (stateOf s (execNop t path s)).bins = s.bins :=
  stateOf_command_bins fun _ _ => outState_noBody_bins _ _ _ rfl

theorem execIdentify_bins (t : Nat) (path : Path) (s : State) : (stateOf s (execIdentify t path s)).bins = s.bins :=
  stateOf_command_bins fun _ _ => outState_noBody_bins _ _ _ rfl

theorem State.fetchStep_bins (bytes : List Byte) (n : Nat) (s : State) : (State.fetchStep bytes n s).bins = s.bins := by
  induction n generalizing s with
  | zero => rfl
  | succ n ih =>
    unfold State.fetchStep
    dsimp only
    (repeat' split) <;> simp only [ih, State.emit_bins, State.setFld_bins, State.stall_bins, State.startWalk_bins, bins_mk]

theorem execCommandFetch_bins (t : Nat) (bytes : List Byte) (s : State) :
    (stateOf s (execCommandFetch t bytes s)).bins = s.bins := by
  simp only [execCommandFetch, State.at_bins, State.fetchStep_bins, stateOf_next, stateOf_ite, bins_ite, ite_self]

theorem execReplyWrite_bins (t : Nat) (s : State) : (stateOf s (execReplyWrite t s)).bins = s.bins := by
  unfold execReplyWrite
  dsimp only
  (repeat' split) <;> simp only [State.at_bins, State.dmaPush_bins, stateOf_next, bins_mk]

theorem execNoticeWrite_bins (t : Nat) (s : State) : (stateOf s (execNoticeWrite t s)).bins = s.bins := by
  unfold execNoticeWrite
  dsimp only
  (repeat' split) <;> simp only [State.at_bins, State.flushHeld_bins, State.pump_bins, State.seqFixed_bins,
    State.setChan_bins, stateOf_next, bins_mk]

theorem State.basicWrites_wf {s : State} {auth : Bool} {l : List (Entry × Bool)} {t : State}
    (h : s.basicWrites auth l = .ok t) (hb : binsWf s.bins) :
    binsWf t.bins := by
  unfold State.basicWrites at h
  dsimp only at h
  (repeat' split at h) <;> cases h
  exact commitEntries_wf _ _ _ _ _ hb

theorem outState_basic_wf (s : State) (c : Command) (l : List (Entry × Bool)) (hb : binsWf s.bins) :
    binsWf (outState s (s.basic c l)).bins := by
  unfold State.basic
  split
  · exact State.basicWrites_wf ‹_› hb
  · exact hb

theorem outState_bodyOf_wf (s : State) (c : Command) (n : Nat) (ok : Bool) (k : Outcome)
    (h : binsWf (outState s k).bins) (hb : binsWf s.bins) : binsWf (outState s (bodyOf c n ok k)).bins := by
  unfold bodyOf
  split
  · exact hb
  · split
    · exact h
    · exact hb

theorem outState_bodyOf_bins (s : State) (c : Command) (n : Nat) (ok : Bool) (k : Outcome)
    (h : (outState s k).bins = s.bins) : (outState s (bodyOf c n ok k)).bins = s.bins := by
  unfold bodyOf
  split
  · rfl
  · split
    · exact h
    · rfl

theorem outState_ite_wf {s : State} {p : Prop} [Decidable p] {a b : Outcome} (ha : binsWf (outState s a).bins)
    (hb : binsWf (outState s b).bins) : binsWf (outState s (if p then a else b)).bins := by
  split
  · exact ha
  · exact hb

theorem outState_ite_bins {s : State} {p : Prop} [Decidable p] {a b : Outcome} (ha : (outState s a).bins = s.bins)
    (hb : (outState s b).bins = s.bins) : (outState s (if p then a else b)).bins = s.bins := by
  split
  · exact ha
  · exact hb

theorem execSetGait_wf (t : Nat) (path : Path) (s : State) (hb : binsWf s.bins) :
    binsWf (stateOf s (execSetGait t path s)).bins :=
  stateOf_command_wf (fun _ _ hu => outState_bodyOf_wf _ _ _ _ _ (outState_basic_wf _ _ _ hu) hu) hb

theorem execSetField_wf (t : Nat) (path : Path) (s : State) (hb : binsWf s.bins) :
    binsWf (stateOf s (execSetField t path s)).bins :=
  stateOf_command_wf (fun _ _ hu => outState_bodyOf_wf _ _ _ _ _ (outState_basic_wf _ _ _ hu) hu) hb

theorem execHistDump_wf (t : Nat) (path : Path) (s : State) (hb : binsWf s.bins) :
    binsWf (stateOf s (execHistDump t path s)).bins :=
  stateOf_command_wf (fun _ _ hu => outState_bodyOf_wf _ _ _ _ _ (outState_basic_wf _ _ _ hu) hu) hb

theorem execStreamMode_wf (t : Nat) (path : Path) (s : State) (hb : binsWf s.bins) :
    binsWf (stateOf s (execStreamMode t path s)).bins :=
  stateOf_command_wf (fun _ _ hu => outState_bodyOf_wf _ _ _ _ _ (outState_basic_wf _ _ _ hu) hu) hb

theorem execRecorder_wf (t : Nat) (path : Path) (s : State) (hb : binsWf s.bins) :
    binsWf (stateOf s (execRecorder t path s)).bins :=
  stateOf_command_wf (fun _ _ hu => outState_bodyOf_wf _ _ _ _ _ (outState_basic_wf _ _ _ hu) hu) hb

theorem execEmittersOn_wf (t : Nat) (path : Path) (s : State) (hb : binsWf s.bins) :
    binsWf (stateOf s (execEmittersOn t path s)).bins :=
  stateOf_command_wf (fun _ _ hu => outState_bodyOf_wf _ _ _ _ _ (outState_basic_wf _ _ _ hu) hu) hb

theorem execEmittersOff_wf (t : Nat) (path : Path) (s : State) (hb : binsWf s.bins) :
    binsWf (stateOf s (execEmittersOff t path s)).bins :=
  stateOf_command_wf (fun _ _ hu => outState_noBody_wf _ _ _ (outState_basic_wf _ _ _ hu) hu) hb

theorem execMirror_wf (t : Nat) (path : Path) (s : State) (hb : binsWf s.bins) :
    binsWf (stateOf s (execMirror t path s)).bins :=
  stateOf_command_wf (fun _ _ hu => outState_bodyOf_wf _ _ _ _ _ (outState_basic_wf _ _ _ hu) hu) hb

theorem execCalibrate_wf (t : Nat) (path : Path) (s : State) (hb : binsWf s.bins) :
    binsWf (stateOf s (execCalibrate t path s)).bins :=
  stateOf_command_wf (fun _ _ hu => outState_noBody_wf _ _ _ (outState_basic_wf _ _ _ hu) hu) hb

theorem execSafeReset_wf (t : Nat) (path : Path) (s : State) (hb : binsWf s.bins) :
    binsWf (stateOf s (execSafeReset t path s)).bins :=
  stateOf_command_wf (fun _ _ hu => outState_noBody_wf _ _ _ (outState_basic_wf _ _ _ hu) hu) hb

theorem execTeamLeave_wf (t : Nat) (path : Path) (s : State) (hb : binsWf s.bins) :
    binsWf (stateOf s (execTeamLeave t path s)).bins :=
  stateOf_command_wf (fun _ _ hu => outState_noBody_wf _ _ _ (outState_basic_wf _ _ _ hu) hu) hb

theorem execPaddockDefine_wf (t : Nat) (path : Path) (s : State) (hb : binsWf s.bins) :
    binsWf (stateOf s (execPaddockDefine t path s)).bins := by
  refine stateOf_command_wf (fun c u hu => outState_ite_wf hu (outState_ite_wf hu (outState_ite_wf hu
    (outState_ite_wf hu ?_)))) hb
  split
  · exact hu
  · next v hv =>
    have hwf : binsWf v.bins := State.basicWrites_wf hv hu
    exact (congrArg binsWf (State.showExecuting_bins v _)).mpr hwf

theorem State.padDefineEnd_bins (s : State) (p : Nat) : (State.padDefineEnd s p).bins = s.bins := by
  unfold State.padDefineEnd
  split <;> simp only [State.answerOk_bins, State.runAsked_bins, State.showExecuting_bins, bins_ite, ite_self]

theorem execIntervalTablesDone_bins (t paddock : Nat) (s : State) :
    (stateOf s (execIntervalTablesDone t paddock s)).bins = s.bins := by
  simp only [execIntervalTablesDone, State.at_bins, State.padDefineEnd_bins, State.padTables_bins, stateOf_next,
    stateOf_ite, bins_ite, ite_self]

theorem execPaddockEnable_wf (t : Nat) (path : Path) (s : State) (hb : binsWf s.bins) :
    binsWf (stateOf s (execPaddockEnable t path s)).bins :=
  stateOf_command_wf (fun _ _ hu =>
    outState_bodyOf_wf _ _ _ _ _ (outState_ite_wf hu (outState_basic_wf _ _ _ hu)) hu) hb

theorem execProfileApply_wf (t : Nat) (path : Path) (coinc : List Nat) (s : State) (hb : binsWf s.bins) :
    binsWf (stateOf s (execProfileApply t path coinc s)).bins := by
  refine stateOf_command_wf (fun c u hu => outState_bodyOf_wf _ _ _ _ _ ?_ hu) hb
  split
  · exact hu
  · split
    · exact hu
    · split
      · next hv => exact State.writeEntries_wf hv hu
      · exact hu

theorem execParamRead_bins (t : Nat) (path : Path) (s : State) : (stateOf s (execParamRead t path s)).bins = s.bins := by
  refine stateOf_command_bins fun c u => outState_ite_bins rfl (outState_ite_bins rfl (outState_ite_bins rfl
    (outState_ite_bins rfl ?_)))
  split
  · rfl
  · exact forEach_bins _ _ _ fun _ _ => State.readWhole_bins _ _

theorem execParamWrite_wf (t : Nat) (path : Path) (coinc : List Nat) (s : State) (hb : binsWf s.bins) :
    binsWf (stateOf s (execParamWrite t path coinc s)).bins := by
  refine stateOf_command_wf (fun c u hu => outState_ite_wf hu (outState_ite_wf hu (outState_ite_wf hu
    (outState_ite_wf hu ?_)))) hb
  split
  · exact hu
  · split
    · exact hu
    · split
      · next hv => exact State.writeEntries_wf hv hu
      · exact hu

theorem execFaultLogRead_bins (t : Nat) (path : Path) (s : State) : (stateOf s (execFaultLogRead t path s)).bins = s.bins :=
  stateOf_command_bins fun _ _ => outState_ite_bins rfl (outState_ite_bins rfl rfl)

theorem execEvothMsgRead_bins (t : Nat) (path : Path) (s : State) : (stateOf s (execEvothMsgRead t path s)).bins = s.bins :=
  stateOf_command_bins fun _ _ => outState_ite_bins rfl (outState_ite_bins rfl (outState_ite_bins rfl
    (outState_ite_bins rfl rfl)))

theorem State.ringsInit_bins (s : State) (sq cq nt : Nat) : (State.ringsInit s sq cq nt).bins = s.bins := by
  simp only [State.ringsInit, State.chanIdle_bins, State.dropNotices_bins, State.setFld_bins, State.setReg_bins,
    State.setStalled_bins, bins_mk]

theorem execRingsInit_bins (t : Nat) (path : Path) (s : State) : (stateOf s (execRingsInit t path s)).bins = s.bins :=
  stateOf_command_bins fun _ _ => outState_bodyOf_bins _ _ _ _ _ (outState_ite_bins rfl (State.ringsInit_bins _ _ _ _))

theorem execAttestStart_bins (t : Nat) (path : Path) (s : State) : (stateOf s (execAttestStart t path s)).bins = s.bins :=
  stateOf_command_bins fun _ u => outState_ite_bins rfl (outState_ite_bins rfl (outState_bodyOf_bins _ _ _ _ _
    (outState_ite_bins rfl ((State.slotStart_bins _ _).trans (bins_mk u ..)))))

theorem outState_readWindow_bins (s : State) (c : Command) (ok : Bool) (k : Nat → Nat → Outcome)
    (h : ∀ off n, (outState s (k off n)).bins = s.bins) : (outState s (readWindow c ok k)).bins = s.bins :=
  outState_ite_bins rfl (outState_ite_bins rfl (outState_ite_bins rfl (h _ _)))

theorem execAttestReportReady_bins (t : Nat) (s : State) : (stateOf s (execAttestReportReady t s)).bins = s.bins := by
  unfold execAttestReportReady
  dsimp only
  (repeat' split) <;> simp only [State.at_bins, State.draw_bins, State.setFld_bins, State.slotDone_bins, stateOf_next,
    bins_mk]

theorem execAttestReadReport_bins (t : Nat) (path : Path) (s : State) :
    (stateOf s (execAttestReadReport t path s)).bins = s.bins := by
  refine stateOf_command_bins fun c u => outState_readWindow_bins _ _ _ _ fun off n => outState_ite_bins rfl ?_
  exact bins_ite_of (State.slotRead_bins _ _) rfl

theorem execAttestReadRecord_bins (t : Nat) (path : Path) (s : State) :
    (stateOf s (execAttestReadRecord t path s)).bins = s.bins :=
  stateOf_command_bins fun _ _ => outState_readWindow_bins _ _ _ _ fun _ _ => outState_ite_bins rfl rfl

theorem State.dclSend_bins (s : State) (lane t word : Nat) : (State.dclSend s lane t word).bins = s.bins :=
  State.emit_bins _ _

theorem execDclTransferStart_bins (t : Nat) (s : State) : (stateOf s (execDclTransferStart t s)).bins = s.bins := by
  unfold execDclTransferStart
  split
  · rfl
  · split
    · rfl
    · next x _ =>
      split
      · rfl
      · extract_lets u v w
        have hu : u.bins = s.bins := (State.slotStart_bins _ _).trans (State.at_bins _ _)
        have hv : v.bins = u.bins := State.dclSend_bins _ _ _ _
        have hw : w.bins = v.bins := bins_ite_of rfl (State.dclSend_bins _ _ _ _)
        exact (bins_mk w ..).trans (hw.trans (hv.trans hu))

theorem execDclTransferDone_bins (t : Nat) (response : BitVec 32) (s : State) :
    (stateOf s (execDclTransferDone t response s)).bins = s.bins := by
  unfold execDclTransferDone
  split
  · rfl
  · split
    · rfl
    · split
      · rfl
      · extract_lets r bad src u v w
        have hu : u.bins = s.bins := (bins_mk (s.at_ t) ..).trans (State.at_bins _ _)
        have hv : v.bins = u.bins := (State.setFld_bins _ _ _).trans (State.setFld_bins _ _ _)
        have hw : w.bins = v.bins := (State.setFld_bins _ _ _).trans (State.setFld_bins _ _ _)
        exact (State.slotDone_bins _ _).trans ((State.setFld_bins _ _ _).trans (hw.trans (hv.trans hu)))

theorem execRecDrainCapture_bins (t : Nat) (s : State) : (stateOf s (execRecDrainCapture t s)).bins = s.bins := by
  unfold execRecDrainCapture
  dsimp only
  (repeat' split) <;> simp only [State.addWrap_bins, State.at_bins, State.dmaPush_bins, State.recShow_bins,
    State.recTo_bins, State.withRec_bins, stateOf_next]

theorem outState_pieceOf_bins (s : State) (c : Command) (k : Piece → Outcome)
    (h : ∀ p, (outState s (k p)).bins = s.bins) : (outState s (pieceOf c k)).bins = s.bins :=
  outState_ite_bins rfl (outState_ite_bins rfl (outState_ite_bins rfl (outState_ite_bins rfl
    (outState_ite_bins rfl (h _)))))

theorem outState_evothImage_bins (u s : State) (b : List Byte) (h : s.bins = u.bins) :
    (outState u (s.evothImage b)).bins = u.bins := by
  unfold State.evothImage
  extract_lets prog data slot signed verified image
  (repeat' split)
  · exact h
  · exact h
  · exact (bins_mk s ..).trans h
  · exact (forEach_bins _ _ _ fun _ _ => State.loadBg_bins _ _ _).trans h

theorem execEvothLoad_bins (t : Nat) (path : Path) (s : State) : (stateOf s (execEvothLoad t path s)).bins = s.bins := by
  refine stateOf_command_bins fun c u => outState_pieceOf_bins _ _ _ fun p => ?_
  split
  · rfl
  · split
    · exact bins_mk u ..
    · exact outState_evothImage_bins _ _ _ (bins_mk u ..)

theorem State.setOtherBank_bins (s : State) (b : Option FwBank) : (State.setOtherBank s b).bins = s.bins := by
  simp only [State.setOtherBank, bins_mk]

theorem outState_fwImage_bins (u s : State) (b : List Byte) (h : s.bins = u.bins) :
    (outState u (s.fwImage b)).bins = u.bins := by
  unfold State.fwImage
  extract_lets gen n signed
  (repeat' split)
  · exact h
  · exact h
  · exact h
  · exact (State.setOtherBank_bins _ _).trans h

theorem execFwData_bins (t : Nat) (path : Path) (s : State) : (stateOf s (execFwData t path s)).bins = s.bins := by
  refine stateOf_command_bins fun c u => outState_pieceOf_bins _ _ _ fun p => outState_ite_bins rfl ?_
  split
  · rfl
  · extract_lets v
    have hv : v.bins = u.bins := bins_ite_of (State.setOtherBank_bins _ _) rfl
    split
    · exact (bins_mk v ..).trans hv
    · exact outState_fwImage_bins _ _ _ ((bins_mk v ..).trans hv)

theorem execTackCommit_bins (t : Nat) (path : Path) (s : State) : (stateOf s (execTackCommit t path s)).bins = s.bins := by
  refine stateOf_command_bins fun c u => outState_pieceOf_bins _ _ _ fun p => ?_
  split
  · rfl
  · split
    · exact bins_mk u ..
    · extract_lets src v nv w
      have hv : v.bins = u.bins := bins_mk u ..
      split
      · exact (State.setFld_bins _ _ _).trans ((bins_mk v ..).trans hv)
      · exact hv

theorem State.imageKeyGone_bins (s : State) (slot : Nat) : (State.imageKeyGone s slot).bins = s.bins := by
  unfold State.imageKeyGone
  split <;> simp only [State.dropBg_bins, forEach_bins, implies_true, bins_ite, ite_self, bins_mk]

theorem execKeyEnroll_bins (t : Nat) (path : Path) (s : State) : (stateOf s (execKeyEnroll t path s)).bins = s.bins := by
  refine stateOf_command_bins fun c u => outState_ite_bins rfl (outState_ite_bins rfl (outState_ite_bins rfl
    (outState_ite_bins rfl (outState_ite_bins ((State.imageKeyGone_bins _ _).trans (bins_mk u ..)) ?_))))
  split
  · exact State.setFlag_bins _ _
  · exact outState_ite_bins (bins_mk u ..) ((State.setFld_bins _ _ _).trans (bins_mk u ..))

theorem execKeyRetire_bins (t : Nat) (path : Path) (s : State) : (stateOf s (execKeyRetire t path s)).bins = s.bins := by
  refine stateOf_command_bins fun c u => outState_bodyOf_bins _ _ _ _ _ (outState_ite_bins rfl ?_)
  split
  · exact outState_ite_bins rfl ((State.setFld_bins _ _ _).trans (bins_mk u ..))
  · exact outState_ite_bins rfl ((State.imageKeyGone_bins _ _).trans (bins_mk u ..))
  · exact outState_ite_bins rfl (bins_mk u ..)

theorem State.intensity_bins (s : State) (c : Cand) (amp nA v : Nat) : (State.intensity s c amp nA v).2.bins = s.bins := by
  unfold State.intensity; dsimp only; (repeat' split) <;> simp only [State.draw_bins]

theorem State.refineRow_bins (s : State) (k : Column) (row : Nat) : (State.refineRow s k row).2.bins = s.bins := by
  unfold State.refineRow
  dsimp only
  rw [State.countSlots_bins]
  refine (foldl_bins_snd _ _ _ ?_).trans rfl
  intro a i
  simp only [State.intensity_bins]

theorem State.postError_bins (s : State) (k : Column) (row : Nat) : (State.postError s k row).bins = s.bins := by
  simp only [State.postError, State.liveWrap_bins, State.withCol_bins, bins_ite, ite_self]

theorem State.jobFinish_bins (s : State) (k : Column) (q : Nat) : (State.jobFinish s k q).bins = s.bins := by
  unfold State.jobFinish
  split <;> simp only [State.endColumnJob_bins, State.setLive_bins, State.withCore_bins, bins_ite, ite_self]

theorem State.takePost_bins (s : State) (k : Column) (q : Nat) (e : BitVec 128) :
    (State.takePost s k q e).bins = s.bins := by
  simp only [State.takePost, State.jobFinish_bins, State.liveWrap_bins, State.postError_bins, State.withCol_bins, bins_ite,
    ite_self]

theorem State.vendorPost_bins (s : State) (k : Column) (row : Nat) : (State.vendorPost s k row).bins = s.bins := by
  unfold State.vendorPost
  dsimp only
  (repeat' split) <;> simp only [State.jobFinish_bins, State.liveWrap_bins, State.refineRow_bins, State.withCol_bins]

theorem execPostEntry_bins (t row : Nat) (entry : BitVec 128) (s : State) :
    (stateOf s (execPostEntry t row entry s)).bins = s.bins := by
  unfold execPostEntry
  dsimp only
  (repeat' split) <;> simp only [State.at_bins, State.liveWrap_bins, State.takePost_bins, State.vendorPost_bins,
    stateOf_next]

theorem State.sendStatus_bins (s : State) : (State.sendStatus s).bins = s.bins := by
  simp only [State.sendStatus, State.hitchSend_bins, State.statusToHost_bins, State.statusToTeam_bins, forEach_bins,
    implies_true, bins_ite, ite_self]

theorem execTaskTick_bins (t : Nat) (s : State) : (stateOf s (execTaskTick t s)).bins = s.bins := by
  simp only [execTaskTick, State.at_bins, State.bridleTake_bins, State.freeHeld_bins, State.sendStatus_bins,
    State.srcExpire_bins, State.supervise_bins, forUpto_bins, implies_true, stateOf_next, stateOf_ite, bins_ite, ite_self]

end Sys2Proof.Machine
end

section
/-! PROOFS. Every instruction keeps the form (O60). -/
namespace Sys2Proof.Machine

theorem binsWf_of_eq {s u : State} (h : u.bins = s.bins) (hb : binsWf s.bins) : binsWf u.bins := by
  rw [h]
  exact hb

theorem State.powerOnReset_wf (s : State) : binsWf s.powerOnReset.bins := histWf_reset

theorem State.porRelease_wf (s : State) (g : Nat) (hb : binsWf s.bins) : binsWf (s.porRelease g).bins := by
  unfold State.porRelease
  extract_lets emitted ctl u stamp v
  have hu : u.bins = s.bins := (bins_mk emitted ..).trans (State.emit_bins _ _)
  have hv : v.bins = u.bins := bins_mk u ..
  refine State.boot_wf _ ?_
  rw [State.showBm_bins, State.startScan_bins]
  refine State.setDomains_wf _ _ _ ?_
  rw [State.factoryTables_bins, hv, hu]
  exact hb

theorem execPorRelease_wf (g : Nat) (s : State) (hb : binsWf s.bins) : binsWf (stateOf s (execPorRelease g s)).bins := by
  unfold execPorRelease
  split
  · exact State.porRelease_wf _ _ hb
  · exact hb

/-- Every instruction keeps the histogram memory canonical. -/
theorem exec_wf (i : Instr) (s : State) (hb : binsWf s.bins) : binsWf (stateOf s (exec i s)).bins := by
  cases i with
  | columnTrigger => exact execColumnTrigger_wf _ hb
  | columnSkipTimeout => exact execColumnSkipTimeout_wf _ hb
  | fireCommand _ _ => exact binsWf_of_eq (execFireCommand_bins _ _ _) hb
  | monitorEvent _ _ _ => exact binsWf_of_eq (execMonitorEvent_bins _ _ _ _) hb
  | monWinExpiry _ _ => exact binsWf_of_eq (execMonWinExpiry_bins _ _ _) hb
  | returnEvent _ _ _ _ => exact execReturnEvent_wf _ _ _ _ _ hb
  | armingDecision _ _ => exact binsWf_of_eq (execArmingDecision_bins _ _ _) hb
  | histogramAccumulate _ => exact execHistogramAccumulate_wf _ _ hb
  | gateEdge _ _ _ _ => exact binsWf_of_eq (execGateEdge_bins _ _ _ _ _) hb
  | syncInEdge _ => exact binsWf_of_eq (execSyncInEdge_bins _ _) hb
  | creditRestore _ => exact binsWf_of_eq (execCreditRestore_bins _ _) hb
  | handOff => exact execHandOff_wf _ hb
  | statResultComplete _ => exact binsWf_of_eq (execStatResultComplete_bins _ _) hb
  | dumpRecord => exact binsWf_of_eq (execDumpRecord_bins _) hb
  | epochPeriodExpiry _ => exact binsWf_of_eq (execEpochPeriodExpiry_bins _ _) hb
  | codeKeyDerived _ => exact binsWf_of_eq (execCodeKeyDerived_bins _ _) hb
  | pipeChannelRead _ => exact execPipeChannelRead_wf _ _ hb
  | momentSolve _ => exact binsWf_of_eq (execMomentSolve_bins _ _) hb
  | columnEndMarker _ => exact binsWf_of_eq (execColumnEndMarker_bins _ _) hb
  | intervalEngineCandidate _ => exact binsWf_of_eq (execIntervalEngineCandidate_bins _ _) hb
  | rowReady _ _ => exact binsWf_of_eq (execRowReady_bins _ _ _) hb
  | columnJobStart _ _ => exact binsWf_of_eq (execColumnJobStart_bins _ _ _) hb
  | jobDispatch _ _ => exact binsWf_of_eq (execJobDispatch_bins _ _ _) hb
  | postEntry _ _ _ => exact binsWf_of_eq (execPostEntry_bins _ _ _ _) hb
  | evothInstructionFetch _ _ _ => exact binsWf_of_eq (execEvothInstructionFetch_bins _ _ _ _) hb
  | evothRepeat _ _ _ => exact binsWf_of_eq (execEvothRepeat_bins _ _ _ _) hb
  | evothModeSwitch _ _ => exact binsWf_of_eq (execEvothModeSwitch_bins _ _ _) hb
  | evothMac _ _ _ _ _ => exact binsWf_of_eq (execEvothMac_bins _ _ _ _ _ _) hb
  | evothAccMove _ _ _ => exact binsWf_of_eq (execEvothAccMove_bins _ _ _ _) hb
  | evothLoadSc _ _ => exact binsWf_of_eq (execEvothLoadSc_bins _ _ _) hb
  | evothLoadCbsel _ _ => exact binsWf_of_eq (execEvothLoadCbsel_bins _ _ _) hb
  | evothDataAccess _ _ _ => exact binsWf_of_eq (execEvothDataAccess_bins _ _ _ _) hb
  | bkBlockRepeat _ _ _ => exact binsWf_of_eq (execBkBlockRepeat_bins _ _ _ _) hb
  | bkUnsupportedInstruction _ => exact binsWf_of_eq (execBkUnsupportedInstruction_bins _ _) hb
  | intervalTablesDone _ _ => exact binsWf_of_eq (execIntervalTablesDone_bins _ _ _) hb
  | evothReloadDone _ _ => exact binsWf_of_eq (execEvothReloadDone_bins _ _ _) hb
  | releaseDeadline _ => exact binsWf_of_eq (execReleaseDeadline_bins _ _) hb
  | ringWriteback _ _ => exact binsWf_of_eq (execRingWriteback_bins _ _ _) hb
  | coalUsExpiry _ => exact binsWf_of_eq (execCoalUsExpiry_bins _ _) hb
  | recorderChange _ _ _ => exact binsWf_of_eq (execRecorderChange_bins _ _ _ _) hb
  | captureEnd _ => exact binsWf_of_eq (execCaptureEnd_bins _ _) hb
  | recorderRearm _ => exact binsWf_of_eq (execRecorderRearm_bins _ _) hb
  | recDrainCapture _ => exact binsWf_of_eq (execRecDrainCapture_bins _ _) hb
  | chargerSample _ _ _ _ => exact binsWf_of_eq (execChargerSample_bins _ _ _ _ _) hb
  | rampTick _ => exact binsWf_of_eq (execRampTick_bins _ _) hb
  | chgTimeout _ _ => exact binsWf_of_eq (execChgTimeout_bins _ _ _) hb
  | chgExtFault _ _ => exact binsWf_of_eq (execChgExtFault_bins _ _ _) hb
  | expSlotEnd _ => exact binsWf_of_eq (execExpSlotEnd_bins _ _) hb
  | currentSample _ _ => exact binsWf_of_eq (execCurrentSample_bins _ _ _) hb
  | bridgeStuck _ _ => exact binsWf_of_eq (execBridgeStuck_bins _ _ _) hb
  | bridgeTakeover _ => exact binsWf_of_eq (execBridgeTakeover_bins _ _) hb
  | angleSample => exact binsWf_of_eq (execAngleSample_bins _) hb
  | angleStale _ => exact binsWf_of_eq (execAngleStale_bins _ _) hb
  | positionLoopTick _ => exact binsWf_of_eq (execPositionLoopTick_bins _ _) hb
  | outerLoopOverrun _ => exact binsWf_of_eq (execOuterLoopOverrun_bins _ _) hb
  | converterOutput _ _ => exact binsWf_of_eq (execConverterOutput_bins _ _ _) hb
  | overloadDetected _ _ => exact binsWf_of_eq (execOverloadDetected_bins _ _ _) hb
  | impedanceCheckStart _ _ => exact binsWf_of_eq (execImpedanceCheckStart_bins _ _ _) hb
  | impedanceCheckEnd _ _ _ => exact binsWf_of_eq (execImpedanceCheckEnd_bins _ _ _ _) hb
  | excComplianceFault _ _ => exact binsWf_of_eq (execExcComplianceFault_bins _ _ _) hb
  | excComplianceRestored _ _ => exact binsWf_of_eq (execExcComplianceRestored_bins _ _ _) hb
  | chopPhase _ => exact binsWf_of_eq (execChopPhase_bins _ _) hb
  | syncReset _ => exact binsWf_of_eq (execSyncReset_bins _ _) hb
  | foutPeriodEnd _ _ => exact binsWf_of_eq (execFoutPeriodEnd_bins _ _ _) hb
  | hkConversion _ _ _ => exact execHkConversion_wf _ _ _ _ hb
  | strobeWindowStart _ _ => exact binsWf_of_eq (execStrobeWindowStart_bins _ _ _) hb
  | strobeWindowEnd _ _ => exact binsWf_of_eq (execStrobeWindowEnd_bins _ _ _) hb
  | calRunStart _ => exact binsWf_of_eq (execCalRunStart_bins _ _) hb
  | calRunSolved _ _ => exact binsWf_of_eq (execCalRunSolved_bins _ _ _) hb
  | startupRunInstalled _ => exact binsWf_of_eq (execStartupRunInstalled_bins _ _) hb
  | rerunMaxExpiry _ => exact binsWf_of_eq (execRerunMaxExpiry_bins _ _) hb
  | templateEstimate _ _ => exact binsWf_of_eq (execTemplateEstimate_bins _ _ _) hb
  | angleLagEstimate _ => exact binsWf_of_eq (execAngleLagEstimate_bins _ _) hb
  | taskTick _ => exact binsWf_of_eq (execTaskTick_bins _ _) hb
  | halterTimeout _ _ => exact binsWf_of_eq (execHalterTimeout_bins _ _ _) hb
  | turnaroundSelftest _ _ => exact binsWf_of_eq (execTurnaroundSelftest_bins _ _ _) hb
  | lockstepMismatch _ => exact binsWf_of_eq (execLockstepMismatch_bins _ _) hb
  | supervisorMemoryError _ => exact binsWf_of_eq (execSupervisorMemoryError_bins _ _) hb
  | safetyClockCheck _ _ => exact binsWf_of_eq (execSafetyClockCheck_bins _ _ _) hb
  | tpsPulse _ _ => exact binsWf_of_eq (execTpsPulse_bins _ _ _) hb
  | safetyInputSample _ _ => exact binsWf_of_eq (execSafetyInputSample_bins _ _ _) hb
  | inFilterExpiry _ _ => exact binsWf_of_eq (execInFilterExpiry_bins _ _ _) hb
  | pairDiscrepancy _ _ => exact binsWf_of_eq (execPairDiscrepancy_bins _ _ _) hb
  | soutTestPulse _ _ _ => exact binsWf_of_eq (execSoutTestPulse_bins _ _ _ _) hb
  | soutReadback _ _ => exact binsWf_of_eq (execSoutReadback_bins _ _ _) hb
  | bridleFrameReceive _ _ _ _ => exact binsWf_of_eq (execBridleFrameReceive_bins _ _ _ _ _) hb
  | sourceExpectationExpiry _ _ => exact binsWf_of_eq (execSourceExpectationExpiry_bins _ _ _) hb
  | laneEnable _ _ => exact binsWf_of_eq (execLaneEnable_bins _ _ _) hb
  | beaconSeen _ _ _ => exact binsWf_of_eq (execBeaconSeen_bins _ _ _ _) hb
  | trainingDone _ _ => exact binsWf_of_eq (execTrainingDone_bins _ _ _) hb
  | alignSlip _ _ => exact binsWf_of_eq (execAlignSlip_bins _ _ _) hb
  | alignmentDone _ _ _ => exact binsWf_of_eq (execAlignmentDone_bins _ _ _ _) hb
  | adaptationFreeze _ _ _ => exact binsWf_of_eq (execAdaptationFreeze_bins _ _ _ _) hb
  | laneDetach _ _ => exact binsWf_of_eq (execLaneDetach_bins _ _ _) hb
  | hello _ _ _ => exact binsWf_of_eq (execHello_bins _ _ _ _) hb
  | cert _ _ _ => exact binsWf_of_eq (execCert_bins _ _ _ _) hb
  | certVerified _ _ => exact binsWf_of_eq (execCertVerified_bins _ _ _) hb
  | kemCt _ _ _ => exact binsWf_of_eq (execKemCt_bins _ _ _ _) hb
  | finish _ _ _ => exact binsWf_of_eq (execFinish_bins _ _ _ _) hb
  | team _ _ _ _ => exact binsWf_of_eq (execTeam_bins _ _ _ _ _) hb
  | joinReq _ _ _ _ => exact binsWf_of_eq (execJoinReq_bins _ _ _ _ _) hb
  | slot _ _ _ _ => exact binsWf_of_eq (execSlot_bins _ _ _ _ _) hb
  | epoch _ _ _ _ => exact binsWf_of_eq (execEpoch_bins _ _ _ _ _) hb
  | phaseReq _ _ _ _ => exact binsWf_of_eq (execPhaseReq_bins _ _ _ _ _) hb
  | leaveMessage _ _ _ => exact binsWf_of_eq (execLeaveMessage_bins _ _ _ _) hb
  | bridleMessage _ _ _ => exact binsWf_of_eq (execBridleMessage_bins _ _ _ _) hb
  | hitchRetryTimeout _ _ _ => exact binsWf_of_eq (execHitchRetryTimeout_bins _ _ _ _) hb
  | handshakeRetry _ _ => exact binsWf_of_eq (execHandshakeRetry_bins _ _ _) hb
  | timeExchangeStart _ _ => exact binsWf_of_eq (execTimeExchangeStart_bins _ _ _) hb
  | tsyncReceive _ _ _ _ _ => exact binsWf_of_eq (execTsyncReceive_bins _ _ _ _ _ _) hb
  | timeRsp _ _ _ _ => exact binsWf_of_eq (execTimeRsp_bins _ _ _ _ _) hb
  | timeExchangeMiss _ => exact binsWf_of_eq (execTimeExchangeMiss_bins _ _) hb
  | slotHoldExpiry _ _ => exact binsWf_of_eq (execSlotHoldExpiry_bins _ _ _) hb
  | eyeScanDone _ _ => exact binsWf_of_eq (execEyeScanDone_bins _ _ _) hb
  | tableWalkComplete _ _ _ _ => exact binsWf_of_eq (execTableWalkComplete_bins _ _ _ _ _) hb
  | stuInvalidationDone _ => exact binsWf_of_eq (execStuInvalidationDone_bins _ _) hb
  | retrainDone _ _ _ => exact binsWf_of_eq (execRetrainDone_bins _ _ _ _) hb
  | linkUp _ _ _ => exact binsWf_of_eq (execLinkUp_bins _ _ _ _) hb
  | busMasterEnable _ _ _ => exact binsWf_of_eq (execBusMasterEnable_bins _ _ _ _) hb
  | lowHalfRead _ _ _ => exact binsWf_of_eq (execLowHalfRead_bins _ _ _ _) hb
  | resultHeaderRead _ _ _ => exact binsWf_of_eq (execResultHeaderRead_bins _ _ _ _) hb
  | recDataRead _ _ => exact binsWf_of_eq (execRecDataRead_bins _ _ _) hb
  | bar0ParamWrite _ _ _ _ _ => exact execBar0ParamWrite_wf _ _ _ _ _ _ hb
  | sqDoorbell _ _ _ => exact binsWf_of_eq (execSqDoorbell_bins _ _ _ _) hb
  | cqDoorbell _ _ _ => exact binsWf_of_eq (execCqDoorbell_bins _ _ _ _) hb
  | mbGo _ _ _ => exact binsWf_of_eq (execMbGo_bins _ _ _ _) hb
  | nop _ _ => exact binsWf_of_eq (execNop_bins _ _ _) hb
  | identify _ _ => exact binsWf_of_eq (execIdentify_bins _ _ _) hb
  | profileApply _ _ _ => exact execProfileApply_wf _ _ _ _ hb
  | ringsInit _ _ => exact binsWf_of_eq (execRingsInit_bins _ _ _) hb
  | setGait _ _ => exact execSetGait_wf _ _ _ hb
  | setField _ _ => exact execSetField_wf _ _ _ hb
  | histDump _ _ => exact execHistDump_wf _ _ _ hb
  | streamMode _ _ => exact execStreamMode_wf _ _ _ hb
  | recorder _ _ => exact execRecorder_wf _ _ _ hb
  | emittersOn _ _ => exact execEmittersOn_wf _ _ _ hb
  | emittersOff _ _ => exact execEmittersOff_wf _ _ _ hb
  | mirror _ _ => exact execMirror_wf _ _ _ hb
  | calibrate _ _ => exact execCalibrate_wf _ _ _ hb
  | paddockDefine _ _ => exact execPaddockDefine_wf _ _ _ hb
  | paddockEnable _ _ => exact execPaddockEnable_wf _ _ _ hb
  | safeReset _ _ => exact execSafeReset_wf _ _ _ hb
  | teamLeave _ _ => exact execTeamLeave_wf _ _ _ hb
  | paramRead _ _ => exact binsWf_of_eq (execParamRead_bins _ _ _) hb
  | paramWrite _ _ _ => exact execParamWrite_wf _ _ _ _ hb
  | faultLogRead _ _ => exact binsWf_of_eq (execFaultLogRead_bins _ _ _) hb
  | evothMsgRead _ _ => exact binsWf_of_eq (execEvothMsgRead_bins _ _ _) hb
  | commandFetch _ _ => exact binsWf_of_eq (execCommandFetch_bins _ _ _) hb
  | replyWrite _ => exact binsWf_of_eq (execReplyWrite_bins _ _) hb
  | noticeWrite _ => exact binsWf_of_eq (execNoticeWrite_bins _ _) hb
  | attestStart _ _ => exact binsWf_of_eq (execAttestStart_bins _ _ _) hb
  | attestReadReport _ _ => exact binsWf_of_eq (execAttestReadReport_bins _ _ _) hb
  | attestReadRecord _ _ => exact binsWf_of_eq (execAttestReadRecord_bins _ _ _) hb
  | attestReportReady _ => exact binsWf_of_eq (execAttestReportReady_bins _ _) hb
  | tackCommit _ _ => exact binsWf_of_eq (execTackCommit_bins _ _ _) hb
  | fwData _ _ => exact binsWf_of_eq (execFwData_bins _ _ _) hb
  | evothLoad _ _ => exact binsWf_of_eq (execEvothLoad_bins _ _ _) hb
  | keyEnroll _ _ => exact binsWf_of_eq (execKeyEnroll_bins _ _ _) hb
  | keyRetire _ _ => exact binsWf_of_eq (execKeyRetire_bins _ _ _) hb
  | powerOnReset => exact State.powerOnReset_wf _
  | porRelease _ => exact execPorRelease_wf _ _ hb
  | controlWatchdog _ => exact binsWf_of_eq (execControlWatchdog_bins _ _) hb
  | functionReset _ _ => exact binsWf_of_eq (execFunctionReset_bins _ _ _) hb
  | linkReset _ => exact binsWf_of_eq (execLinkReset_bins _ _) hb
  | thermalTick _ => exact execThermalTick_wf _ _ hb
  | orderlyStop _ => exact execOrderlyStop_wf _ _ hb
  | pfdShadowLoad _ => exact binsWf_of_eq (execPfdShadowLoad_bins _ _) hb
  | domainSwitchOff _ => exact execDomainSwitchOff_wf _ _ hb
  | powerTransitionDone _ => exact execPowerTransitionDone_wf _ _ hb
  | refLost _ => exact binsWf_of_eq (execRefLost_bins _ _) hb
  | refPresent _ => exact binsWf_of_eq (execRefPresent_bins _ _) hb
  | pllLocked _ => exact binsWf_of_eq (execPllLocked_bins _ _) hb
  | dclTransferStart _ => exact binsWf_of_eq (execDclTransferStart_bins _ _) hb
  | dclTransferDone _ _ => exact binsWf_of_eq (execDclTransferDone_bins _ _ _) hb
  | frameBoundary => exact binsWf_of_eq (execFrameBoundary_bins _) hb
  | gaitReq _ => exact stateOf_hostWrite_wf hb
  | fieldWrite _ => exact stateOf_hostWrite_wf hb
  | phaseRequest _ => exact stateOf_hostWrite_if_wf hb
  | cntSel _ => exact stateOf_hostWrite_wf hb
  | statStart _ => exact stateOf_hostWrite_if_wf hb
  | calSel _ => exact stateOf_hostWrite_wf hb
  | spareSubstitute _ => exact stateOf_hostWrite_if_wf hb
  | spareRelease _ => exact stateOf_hostWrite_if_wf hb
  | dumpReq _ => exact stateOf_hostWrite_wf hb
  | freezeSel _ => exact stateOf_hostWrite_wf hb
  | tplCommit _ => exact stateOf_hostWrite_wf hb
  | tplSwap _ => exact stateOf_hostWrite_wf hb
  | bgSel _ => exact stateOf_hostWrite_wf hb
  | evothRestart _ => exact stateOf_hostWrite_if_wf hb
  | keyReq _ => exact stateOf_hostWrite_if_wf hb
  | ringEnable _ _ => exact stateOf_hostWrite_if_wf hb
  | ringRdWrite _ _ => exact stateOf_hostWrite_if_wf hb
  | envCommit _ => exact stateOf_hostWrite_wf hb
  | maskRelease _ => exact stateOf_hostWrite_wf hb
  | maskSel _ => exact stateOf_hostWrite_wf hb
  | recEn _ => exact stateOf_hostWrite_if_wf hb
  | recStop _ => exact stateOf_hostWrite_if_wf hb
  | recSwTrig _ => exact stateOf_hostWrite_if_wf hb
  | emitCtrlWrite _ => exact stateOf_hostWrite_wf hb
  | chgSetWrite _ _ => exact stateOf_hostWrite_if_wf hb
  | chgClear _ => exact stateOf_hostWrite_wf hb
  | expCfgWrite _ => exact stateOf_hostWrite_wf hb
  | expBudgetWrite _ _ => exact stateOf_hostWrite_if_wf hb
  | expSel _ => exact stateOf_hostWrite_wf hb
  | mirrorRun _ => exact stateOf_hostWrite_if_wf hb
  | mirrorDrvEn _ => exact stateOf_hostWrite_if_wf hb
  | mirrorRestart _ => exact stateOf_hostWrite_if_wf hb
  | rcClear _ => exact stateOf_hostWrite_if_wf hb
  | convCfgWrite _ _ => exact stateOf_hostWrite_if_wf hb
  | converterSync _ => exact stateOf_hostWrite_if_wf hb
  | impClear _ => exact stateOf_hostWrite_if_wf hb
  | linCommit _ => exact stateOf_hostWrite_wf hb
  | accCfgWrite _ _ => exact stateOf_hostWrite_if_wf hb
  | accSel _ => exact stateOf_hostWrite_wf hb
  | runReq _ => exact stateOf_hostWrite_if_wf hb
  | pdCommit _ => exact stateOf_hostWrite_wf hb
  | paddockEnWrite _ _ => exact stateOf_hostWrite_if_wf hb
  | safeResetBit _ => exact stateOf_hostWrite_if_wf hb
  | brSrcWrite _ _ => exact stateOf_hostWrite_if_wf hb
  | hitchSlip _ => exact stateOf_hostWrite_if_wf hb
  | leave _ => exact stateOf_hostWrite_if_wf hb
  | eyeScanStart _ => exact stateOf_hostWrite_if_wf hb
  | retrain _ => exact stateOf_hostWrite_if_wf hb
  | stuInv _ => exact stateOf_hostWrite_if_wf hb
  | dmaResume _ => exact stateOf_hostWrite_if_wf hb
  | dmaAbort _ => exact stateOf_hostWrite_if_wf hb
  | confirm _ => exact stateOf_hostWrite_if_wf hb
  | pfdModeWrite _ => exact stateOf_hostWrite_wf hb
  | powerStateRequest _ => exact stateOf_hostWrite_wf hb
  | resume _ => exact stateOf_hostWrite_if_wf hb
  | ctrlRestart _ => exact stateOf_hostWrite_if_wf hb
  | flagSel _ => exact stateOf_hostWrite_wf hb
  | dclXfer _ => exact stateOf_hostWrite_wf hb

/-- Settles O60: an instruction either leaves the words and the row marks, or changes them by writes of one word, fills of
whole buffers and losses of a domain, each of which keeps them canonical. -/
theorem histogramForm : Obligations.HistogramForm := by
  unfold Obligations.HistogramForm
  intro s t hs hstep
  unfold step at hstep
  split at hstep
  · cases hstep
    exact hs
  · next c rest _ =>
    have hwf := exec_wf c { s with pending := rest } ((histWf_iff s).mp hs)
    rw [hstep] at hwf
    exact (histWf_iff t).mpr hwf

end Sys2Proof.Machine
end

section
/-! PROOFS. The check byte of a stored word (R92, R93): CHECK is linear over XOR, so a flipped word is decoded by the flip
alone. O15. -/
namespace Sys2Proof.Machine

theorem bitOf_eq_testBit (d k : Nat) : bitOf d k = d.testBit k := by
  rw [bitOf, Nat.testBit_eq_decide_div_mod_eq, beq_eq_decide]

theorem bitOf_xor (d e k : Nat) : bitOf (d ^^^ e) k = (bitOf d k ^^ bitOf e k) := by
  rw [bitOf_eq_testBit, bitOf_eq_testBit, bitOf_eq_testBit, Nat.testBit_xor]

theorem ite_xor (x y : Bool) (c : Nat) : (if (x ^^ y) then c else 0) = (if x then c else 0) ^^^ if y then c else 0 := by
  cases x <;> cases y <;> simp

/-- The column values of the bits of a list that are 1, XORed onto `a` (R92). -/
def xorColumns (d : Nat) (l : List Nat) (a : Nat) : Nat :=
  (l.filter fun k => bitOf d k).foldl (fun a k => a ^^^ checkColumns.getD k 0) a

theorem xorColumns_cons (d k : Nat) (l : List Nat) (a : Nat) :
    xorColumns d (k :: l) a = xorColumns d l (a ^^^ if bitOf d k then checkColumns.getD k 0 else 0) := by
  unfold xorColumns
  by_cases h : bitOf d k = true
  · rw [List.filter_cons_of_pos h, List.foldl_cons, if_pos h]
  · rw [List.filter_cons_of_neg h, if_neg h, Nat.xor_zero]

theorem xorColumns_eq_foldl (d : Nat) (l : List Nat) (a : Nat) :
    xorColumns d l a = (l.map fun k => if bitOf d k then checkColumns.getD k 0 else 0).foldl (· ^^^ ·) a := by
  induction l generalizing a with
  | nil => rfl
  | cons k l ih => rw [xorColumns_cons, ih, List.map_cons, List.foldl_cons]

theorem xorColumns_xor (d e : Nat) (l : List Nat) (a b : Nat) :
    xorColumns (d ^^^ e) l (a ^^^ b) = xorColumns d l a ^^^ xorColumns e l b := by
  induction l generalizing a b with
  | nil => rfl
  | cons k l ih =>
    rw [xorColumns_cons, xorColumns_cons, xorColumns_cons, ← ih, bitOf_xor, ite_xor]
    congr 1
    ac_rfl

/-- CHECK is the XOR of the column values of the data bits that are 1 (R92). -/
theorem checkByte_eq_xorColumns (d : Nat) : checkByte d = xorColumns d (List.range 56) 0 := by
  rw [xorColumns_eq_foldl, checkByte]
  rfl

theorem checkByte_xor (d e : Nat) : checkByte (d ^^^ e) = checkByte d ^^^ checkByte e := by
  simp only [checkByte_eq_xorColumns]
  exact xorColumns_xor d e _ 0 0

/-- The syndrome that a stored word has when the bits of `e` are flipped in it. -/
def syndrome (e : Nat) : Nat := checkByte (e % 2 ^ 56) ^^^ e / 2 ^ 56

theorem syndrome_xor (d e : Nat) : syndrome (d ^^^ e) = syndrome d ^^^ syndrome e := by
  simp only [syndrome, Nat.xor_mod_two_pow, Nat.xor_div_two_pow, checkByte_xor]
  ac_rfl

theorem xorColumns_lt (d : Nat) (l : List Nat) (a : Nat) (ha : a < 2 ^ 8) : xorColumns d l a < 2 ^ 8 := by
  have hcol : ∀ v ∈ checkColumns, v < 2 ^ 8 := fun v hv => List.mem_range.mp (List.mem_filter.mp hv).1
  induction l generalizing a with
  | nil => exact ha
  | cons k l ih =>
    rw [xorColumns_cons]
    refine ih _ (Nat.xor_lt_two_pow ha ?_)
    split
    · rw [List.getD_eq_getElem?_getD]
      rcases h : checkColumns[k]? with _ | v
      · decide
      · exact hcol v (List.mem_of_getElem? h)
    · decide

theorem checkByte_lt (d : Nat) : checkByte d < 2 ^ 8 := by
  rw [checkByte_eq_xorColumns]
  exact xorColumns_lt d _ 0 (by decide)

/-- What a syndrome makes of the data bits it was read with (R93, Table 4.5). -/
def decodeBy (syn data : Nat) : Decoded :=
  if syn = 0 then .clean data
  else if (maskBits 8 syn).length = 1 then .corrected data
  else if (maskBits 8 syn).length = 3 then
    match (checkColumns.take 56).idxOf? syn with
    | some d => .corrected (data ^^^ 2 ^ d)
    | none => .uncorrectable
  else .uncorrectable

theorem decodeWord_eq_decodeBy (w : Word) :
    decodeWord w = decodeBy (checkByte (w.toNat % 2 ^ 56) ^^^ w.toNat / 2 ^ 56) (w.toNat % 2 ^ 56) := rfl

/-- A stored word with the bits of `e` flipped: its data with those of `e` flipped, read with the syndrome of `e`. -/
theorem decodeWord_flipped {d e : Nat} (hd : d < 2 ^ 56) (he : e < 2 ^ 64) :
    decodeWord (encodeWord d ^^^ BitVec.ofNat 64 e) = decodeBy (syndrome e) (d ^^^ e % 2 ^ 56) := by
  have hc := checkByte_lt d
  have hw : (encodeWord d).toNat = d + checkByte d * 2 ^ 56 := by
    rw [encodeWord, Nat.mod_eq_of_lt hd, BitVec.toNat_ofNat, Nat.mod_eq_of_lt (by omega)]
  have hdata : (encodeWord d).toNat % 2 ^ 56 = d := by omega
  have hcheck : (encodeWord d).toNat / 2 ^ 56 = checkByte d := by omega
  rw [decodeWord_eq_decodeBy, BitVec.toNat_xor, BitVec.toNat_ofNat, Nat.mod_eq_of_lt he, Nat.xor_mod_two_pow,
    Nat.xor_div_two_pow, hdata, hcheck, checkByte_xor]
  congr 1
  rw [syndrome]
  calc checkByte d ^^^ checkByte (e % 2 ^ 56) ^^^ (checkByte d ^^^ e / 2 ^ 56)
      = (checkByte d ^^^ checkByte d) ^^^ (checkByte (e % 2 ^ 56) ^^^ e / 2 ^ 56) := by ac_rfl
    _ = checkByte (e % 2 ^ 56) ^^^ e / 2 ^ 56 := by rw [Nat.xor_self, Nat.zero_xor]

/-- The syndrome of one flipped data bit is its column value, of three ones. -/
theorem syndrome_data_bit : ∀ i < 56, (maskBits 8 (syndrome (2 ^ i))).length = 3 ∧
    (checkColumns.take 56).idxOf? (syndrome (2 ^ i)) = some i := by decide +kernel

/-- The syndrome of one flipped check bit is that bit alone. -/
theorem syndrome_check_bit : ∀ i < 64, 56 ≤ i → (maskBits 8 (syndrome (2 ^ i))).length = 1 := by decide +kernel

theorem syndrome_bits_nodup : ((List.range 64).map fun i => syndrome (2 ^ i)).Nodup := by decide +kernel

theorem syndrome_bit_ne {i j : Nat} (hij : i < j) (hj : j < 64) : syndrome (2 ^ i) ≠ syndrome (2 ^ j) := fun h =>
  absurd (List.inj_on_of_nodup_map syndrome_bits_nodup (List.mem_range.mpr (by omega)) (List.mem_range.mpr hj) h) (by omega)

/-- One flipped bit leaves an odd number of ones in the syndrome. -/
theorem syndrome_bit_odd {i : Nat} (hi : i < 64) : (maskBits 8 (syndrome (2 ^ i))).length % 2 = 1 := by
  by_cases h : i < 56
  · rw [(syndrome_data_bit i h).1]
  · rw [syndrome_check_bit i hi (by omega)]

theorem length_maskBits_xor (n a b : Nat) :
    (maskBits n (a ^^^ b)).length % 2 = ((maskBits n a).length + (maskBits n b).length) % 2 := by
  simp only [maskBits, bitOf_xor]
  induction List.range n with
  | nil => rfl
  | cons k l ih =>
    simp only [List.filter_cons]
    cases bitOf a k <;> cases bitOf b k <;> simp <;> omega

theorem decodeBy_syndrome_bit {i : Nat} (hi : i < 64) (data : Nat) :
    decodeBy (syndrome (2 ^ i)) data = .corrected (data ^^^ 2 ^ i % 2 ^ 56) := by
  have hne : syndrome (2 ^ i) ≠ 0 := fun h => by
    have hodd := syndrome_bit_odd hi
    rw [h] at hodd
    exact absurd hodd (by decide)
  by_cases h : i < 56
  · obtain ⟨hones, hidx⟩ := syndrome_data_bit i h
    rw [decodeBy, if_neg hne, if_neg (by omega), if_pos hones, hidx,
      Nat.mod_eq_of_lt (Nat.pow_lt_pow_right (by decide) h)]
  · have hmod : 2 ^ i % 2 ^ 56 = 0 := Nat.mod_eq_zero_of_dvd (Nat.pow_dvd_pow 2 (by omega))
    rw [decodeBy, if_neg hne, if_pos (syndrome_check_bit i hi (by omega)), hmod, Nat.xor_zero]

theorem decodeBy_syndrome_two_bits {i j : Nat} (hij : i < j) (hj : j < 64) (data : Nat) :
    decodeBy (syndrome (2 ^ i ^^^ 2 ^ j)) data = .uncorrectable := by
  have heven : (maskBits 8 (syndrome (2 ^ i ^^^ 2 ^ j))).length % 2 = 0 := by
    have hi := syndrome_bit_odd (i := i) (by omega)
    have hj := syndrome_bit_odd hj
    rw [syndrome_xor, length_maskBits_xor]
    omega
  have hne : syndrome (2 ^ i ^^^ 2 ^ j) ≠ 0 := by
    rw [syndrome_xor, Ne, Nat.xor_eq_zero_iff]
    exact syndrome_bit_ne hij hj
  rw [decodeBy, if_neg hne, if_neg (by omega), if_neg (by omega)]

/-- Settles O15: CHECK is linear, so what a word is decoded to depends on the flipped bits alone; one has a syndrome of three
ones or one, two have one of an even number of ones that is not 0. -/
theorem checkByteCorrects : Obligations.CheckByte := by
  unfold Obligations.CheckByte
  have hbit : ∀ i, i < 64 → 2 ^ i < 2 ^ 64 := fun i hi => Nat.pow_lt_pow_right (by decide) hi
  refine ⟨List.filter_congr fun v _ => beq_eq_decide _ _, checkByte_eq_xorColumns, fun d hd => ?_, fun d i hd hi => ?_,
    fun d i j hd hij hj => ?_⟩
  · have hclean : decodeWord (encodeWord d ^^^ BitVec.ofNat 64 0) = decodeBy (syndrome 0) (d ^^^ 0 % 2 ^ 56) :=
      decodeWord_flipped hd (by decide)
    rwa [BitVec.xor_zero, Nat.zero_mod, Nat.xor_zero] at hclean
  · rw [decodeWord_flipped hd (hbit i hi), decodeBy_syndrome_bit hi, Nat.xor_xor_cancel_right]
  · have hflip : encodeWord d ^^^ BitVec.ofNat 64 (2 ^ i) ^^^ BitVec.ofNat 64 (2 ^ j) =
        encodeWord d ^^^ BitVec.ofNat 64 (2 ^ i ^^^ 2 ^ j) := by
      rw [BitVec.xor_assoc, BitVec.ofNat_xor]
    rw [hflip, decodeWord_flipped hd (Nat.xor_lt_two_pow (hbit i (by omega)) (hbit j hj)),
      decodeBy_syndrome_two_bits hij hj]
end Sys2Proof.Machine
end

section
/-! PROOFS. What one event leaves in the histogram memory (R87, R89, R90, R92, R97, R99): O14. -/
namespace Sys2Proof.Machine

/-- A filter by the key alone keeps what its keys read, and leaves the default at the others. -/
theorem Map.get_filter_key {α : Type} (d : α) (p : Nat → Bool) (m : SMap α) (n : Nat) :
    Map.get d (m.filter fun e => p e.1) n = if p n then Map.get d m n else d := by
  unfold Map.get
  induction m with
  | nil => simp [Map.find?]
  | cons e m ih =>
    obtain ⟨k, v⟩ := e
    by_cases hk : k = n
    · subst hk
      cases hp : p k <;> simp_all [Map.find?]
    · cases hp : p k <;> simp_all [Map.find?]

/-- The row of a word written is valid (R99). -/
theorem State.rowValid_setBinWord (s : State) (k bin j b : Nat) (w : Word) : (s.setBinWord k bin w).rowValid j b =
    if 256 * j + b / 16 = 256 * k + bin / 16 then true else s.rowValid j b := by
  have hrows : (s.setBinWord k bin w).rowValid j b =
      Map.get false (Map.set false s.hist.rows (256 * k + bin / 16) true) (256 * j + b / 16) := rfl
  rw [hrows]
  split
  · next h => rw [h, Map.get_set_self]
  · next h => exact Map.get_set_ne _ _ _ h

/-- A write into an invalid row empties the row's other words (R99). -/
theorem State.words_setBinWord_ne (s : State) {k bin n : Nat} (w : Word) (hn : n ≠ 4096 * k + bin) :
    Map.get 0 (s.setBinWord k bin w).hist.words n =
      if s.rowValid k bin = true ∨ n < 4096 * k + 16 * (bin / 16) ∨ 4096 * k + 16 * (bin / 16) + 16 ≤ n then
        Map.get 0 s.hist.words n
      else 0 := by
  refine (Map.get_set_ne _ _ _ hn).trans ?_
  cases s.rowValid k bin with
  | true => rfl
  | false =>
    have hrow := Map.get_filter_key 0
      (fun a => decide (a < 4096 * k + 16 * (bin / 16) ∨ 4096 * k + 16 * (bin / 16) + 16 ≤ a)) s.hist.words n
    simpa using hrow

/-- A word written leaves every other word as it reads, those of its row too. -/
theorem State.binWord_setBinWord_ne (s : State) {k bin j b : Nat} (w : Word) (hbin : bin < 4096) (hb : b < 4096)
    (hne : j ≠ k ∨ b ≠ bin) : (s.setBinWord k bin w).binWord j b = s.binWord j b := by
  rw [State.binWord, State.rowValid_setBinWord, s.words_setBinWord_ne w (by omega), State.binWord]
  by_cases hrow : 256 * j + b / 16 = 256 * k + bin / 16
  · have hvalid : s.rowValid j b = s.rowValid k bin := by rw [State.rowValid, hrow, State.rowValid]
    have hin : ¬(4096 * j + b < 4096 * k + 16 * (bin / 16) ∨ 4096 * k + 16 * (bin / 16) + 16 ≤ 4096 * j + b) := by omega
    simp only [hrow, hvalid, hin, if_true, or_false]
  · have hout : 4096 * j + b < 4096 * k + 16 * (bin / 16) ∨ 4096 * k + 16 * (bin / 16) + 16 ≤ 4096 * j + b := by omega
    simp only [hrow, hout, if_true, if_false, or_true]

/-- Of the bin words one was written, and beside the histograms nothing differs. -/
structure State.OnlyWord (u s : State) (k bin : Nat) (w : Word) : Prop where
  self : u.binWord k bin = w
  others : ∀ j b, b < 4096 → (j ≠ k ∨ b ≠ bin) → u.binWord j b = s.binWord j b
  rest : { u with hist := s.hist } = s

theorem State.setBinWord_onlyWord (s : State) (k : Nat) {bin : Nat} (w : Word) (hbin : bin < 4096) :
    (s.setBinWord k bin w).OnlyWord s k bin w :=
  ⟨s.binWord_setBinWord_self k bin w, fun _ _ hb hne => s.binWord_setBinWord_ne w hbin hb hne, rfl⟩

theorem State.OnlyWord.reg {u s : State} {k bin : Nat} {w : Word} (h : u.OnlyWord s k bin w) (j : Nat) :
    u.reg j = s.reg j := by
  have hj := congrArg (fun x : State => x.reg j) h.rest
  exact hj

theorem State.OnlyWord.rest_setFld {u s : State} {k bin : Nat} {w : Word} (h : u.OnlyWord s k bin w) (f : FieldRef) (v : Nat) :
    { u.setFld f v with regs := s.regs, hist := s.hist } = s := by
  have hr := congrArg (fun x : State => { x with regs := s.regs }) h.rest
  exact hr

theorem State.binWord_setFld (s : State) (f : FieldRef) (v k b : Nat) : (s.setFld f v).binWord k b = s.binWord k b := rfl

/-- The fields of a bin word (Table 4.1). -/
theorem binData_fields {n rs qs : Nat} (sat pile : Bool) (hn : n < 4096) (hrs : rs < 2 ^ 18) (hqs : qs < 2 ^ 24) :
    binCount (binData n rs qs sat pile) = n ∧ binRsum (binData n rs qs sat pile) = rs ∧
      binQsum (binData n rs qs sat pile) = qs ∧ binSat (binData n rs qs sat pile) = sat ∧
      binPile (binData n rs qs sat pile) = pile := by
  simp only [binCount, binRsum, binQsum, binSat, binPile, binData, bitsOf, bitOf]
  cases sat <;> cases pile <;> simp only [ofBit, beq_iff_eq, beq_eq_false_iff_ne, if_true, if_false, Bool.false_eq_true] <;> omega

/-- What one event does to a bin word (R87, R89). -/
theorem binEvent_binData {n r rs qs : Nat} (sat pile high : Bool) (hn : n < 4096) (hrs : rs < 2 ^ 18) (hqs : qs < 2 ^ 24) :
    binEvent (binData n rs qs sat pile) r high =
      if n < 4095 then binData (n + 1) (rs + r) (qs + r * r) (sat || high) pile else binData n rs qs true pile := by
  obtain ⟨hcount, hrsum, hqsum, hsat, hpile⟩ := binData_fields sat pile hn hrs hqs
  rw [binEvent, hcount, hrsum, hqsum, hsat, hpile]

/-- An event leaves its column's list for its bin (R91). -/
def State.eventLeft (s : State) (c : Column) (e : BinEvent) : State :=
  s.withCol c.frame c.seq fun x => { x with
    accepted := x.accepted.erase e, lastBin := Map.insert x.lastBin (32 * e.channel + e.pulse) e.bin }

theorem State.eventLeft_frame (s : State) (c : Column) (e : BinEvent) : { s.eventLeft c e with scan := s.scan } = s := rfl

theorem exec_histogramAccumulate {s : State} {ch : Nat} {c : Column} {e : BinEvent} (ha : s.Awake)
    (hc : s.scan.columns.find? (fun c => c.accepted.any (fun e => e.channel == ch)) = some c)
    (he : c.accepted.find? (fun e => e.channel == ch) = some e) : exec (.histogramAccumulate ch) s =
      .next (if s.binsOf ch c then (s.eventLeft c e).accumulate ch (c.seq % 2) c.frame e.bin e.residual e.high
        else s.eventLeft c e) := by
  have hx : exec (.histogramAccumulate ch) s = execHistogramAccumulate ch s := id rfl
  obtain rfl : e.channel = ch := by simpa using List.find?_some he
  rw [hx, execHistogramAccumulate, if_neg (by simp [ha]), hc]
  dsimp only
  rw [he]
  rfl

/-- Accumulation into a clean word: the event is added, and an armed injection that names the bin takes place (R87, R97). -/
theorem State.accumulate_clean {s : State} {ch buf bin d : Nat} (frame r : Nat) (high : Bool)
    (hd : decodeWord (s.binWord (2 * ch + buf) bin) = .clean d) : s.accumulate ch buf frame bin r high =
      if s.bit P.INJECT_SEL.ARM ∧ s.fld P.INJECT_SEL.CHANNEL = ch ∧ s.fld P.INJECT_SEL.BIN = bin then
        (s.setBinWord (2 * ch + buf) bin (encodeWord (binEvent d r high) ^^^ s.reg K.INJECT_MASK)).setFld P.INJECT_SEL.ARM 0
      else s.setBinWord (2 * ch + buf) bin (encodeWord (binEvent d r high)) := by
  simp only [State.accumulate, hd]

/-- Settles O14: the event is gone from its column (`State.eventLeft`), and its word alone reads differently
(`State.binWord_setBinWord_ne`). -/
theorem histogramAccumulate : Obligations.HistogramAccumulate := by
  unfold Obligations.HistogramAccumulate
  refine ⟨fun s ch d c e ha hc he hbin harm hholds hd => ?_,
    fun n r rs qs sat pile high hn _ hrs hqs => binEvent_binData sat pile high hn (by omega) (by omega),
    fun s ch c e ha hc he hholds => ?_, fun s ch d c e ha hc he hbin harm hch hsel hholds hd => ?_⟩
  · have hx := exec_histogramAccumulate ha hc he
    obtain rfl : e.channel = ch := by simpa using List.find?_some he
    have hclean : decodeWord ((s.eventLeft c e).binWord (2 * e.channel + c.seq % 2) e.bin) = .clean d := hd
    rw [if_pos hholds, State.accumulate_clean _ _ _ hclean, if_neg (fun h => Bool.false_ne_true (harm.symm.trans h.1))] at hx
    have honly := (s.eventLeft c e).setBinWord_onlyWord (2 * e.channel + c.seq % 2)
      (encodeWord (binEvent d e.residual e.high)) hbin
    generalize (s.eventLeft c e).setBinWord _ _ _ = u at hx honly
    have hcolumns := congrArg (fun x : State => x.scan.columns) honly.rest
    have hrest := congrArg (fun x : State => { x with scan := s.scan }) honly.rest
    exact ⟨u, hx, honly.self, honly.others, hcolumns, hrest.trans (s.eventLeft_frame c e)⟩
  · have hx := exec_histogramAccumulate ha hc he
    obtain rfl : e.channel = ch := by simpa using List.find?_some he
    rw [if_neg (by simp [hholds])] at hx
    exact ⟨_, hx, rfl, s.eventLeft_frame c e⟩
  · have hx := exec_histogramAccumulate ha hc he
    have hclean : decodeWord ((s.eventLeft c e).binWord (2 * ch + c.seq % 2) e.bin) = .clean d := hd
    rw [if_pos hholds, State.accumulate_clean _ _ _ hclean, if_pos ⟨harm, hch, hsel⟩] at hx
    have honly := (s.eventLeft c e).setBinWord_onlyWord (2 * ch + c.seq % 2)
      (encodeWord (binEvent d e.residual e.high) ^^^ (s.eventLeft c e).reg K.INJECT_MASK) hbin
    generalize (s.eventLeft c e).setBinWord _ _ _ = u at hx honly
    have hrest := congrArg (fun x : State => { x with regs := s.regs, scan := s.scan })
      (honly.rest_setFld P.INJECT_SEL.ARM 0)
    exact ⟨_, hx, (u.binWord_setFld _ _ _ _).trans honly.self, State.fld_setFld_self _ _ _ (by decide) (by decide),
      fun k b hb hne => (u.binWord_setFld _ _ _ _).trans (honly.others k b hb hne),
      fun k hk => (State.reg_setFld_ne _ _ _ (List.mem_singleton.not.mp hk)).trans (honly.reg k),
      hrest.trans (s.eventLeft_frame c e)⟩

end Sys2Proof.Machine
end

section
/-! PROOFS. Dump records (R103 to R105): O16. -/
namespace Sys2Proof.Machine

/-- A record is dropped and counted (R105); `d`: what is left of the request. -/
def State.dumpDropped (s : State) (d : Dump) : State :=
  let u := s.addWrap P.DUMP_STATUS.DROPPED 1
  ({ u with hist := { u.hist with dump := some d } } : State).dumpDone

/-- Only DUMP_STATUS and the dump request differ. -/
structure State.OnlyDump (u s : State) : Prop where
  regs : ∀ k, k ≠ K.DUMP_STATUS → u.reg k = s.reg k
  rest : { u with regs := s.regs, hist := { u.hist with dump := s.hist.dump } } = s

theorem State.OnlyDump.trans {u v s : State} (h : u.OnlyDump v) (h' : v.OnlyDump s) : u.OnlyDump s := by
  have hr := congrArg
    (fun x : State => { x with regs := s.regs, hist := { x.hist with dump := s.hist.dump } }) h.rest
  exact ⟨fun k hk => (h.regs k hk).trans (h'.regs k hk), hr.trans h'.rest⟩

theorem State.OnlyDump.setFld (s : State) {f : FieldRef} (v : Nat) (hf : f.key = K.DUMP_STATUS) :
    (s.setFld f v).OnlyDump s :=
  ⟨fun _ hk => State.reg_setFld_ne s f v (hf ▸ hk), rfl⟩

theorem State.OnlyDump.setDump (s : State) (d : Option Dump) :
    ({ s with hist := { s.hist with dump := d } } : State).OnlyDump s := ⟨fun _ _ => rfl, rfl⟩

theorem State.OnlyDump.buf {u s : State} (h : u.OnlyDump s) (k : Nat) : u.buf k = s.buf k := by
  have hk := congrArg (fun x : State => x.buf k) h.rest
  exact hk

theorem State.fld_setDump (s : State) (d : Option Dump) (f : FieldRef) :
    ({ s with hist := { s.hist with dump := d } } : State).fld f = s.fld f := rfl

/-- The end of a request changes the request and DUMP_STATUS.BUSY alone. -/
theorem State.dumpDone_cases (s : State) : s.dumpDone = s ∨
    s.dumpDone = ({ s with hist := { s.hist with dump := none } } : State).setFld P.DUMP_STATUS.BUSY 0 := by
  unfold State.dumpDone
  split
  · split
    · exact .inr rfl
    · exact .inl rfl
  · exact .inl rfl

theorem State.dumpDone_dropped (s : State) : s.dumpDone.fld P.DUMP_STATUS.DROPPED = s.fld P.DUMP_STATUS.DROPPED := by
  rcases s.dumpDone_cases with h | h
  · rw [h]
  · rw [h, State.fld_setFld_ne _ _ _ _ (by decide) (by decide) (by decide), State.fld_setDump]

theorem State.dumpDone_onlyDump (s : State) : s.dumpDone.OnlyDump s := by
  rcases s.dumpDone_cases with h | h
  · rw [h]
    exact ⟨fun _ _ => rfl, rfl⟩
  · rw [h]
    exact (State.OnlyDump.setFld _ 0 rfl).trans (State.OnlyDump.setDump s none)

theorem State.dumpDropped_onlyDump (s : State) (d : Dump) : (s.dumpDropped d).OnlyDump s := by
  unfold State.dumpDropped
  extract_lets u
  have hu : u.OnlyDump s := State.OnlyDump.setFld s (f := P.DUMP_STATUS.DROPPED) _ rfl
  exact (State.dumpDone_onlyDump _).trans ((State.OnlyDump.setDump u _).trans hu)

theorem State.dumpDropped_dropped (s : State) (d : Dump) : (s.dumpDropped d).fld P.DUMP_STATUS.DROPPED =
    wrapAdd P.DUMP_STATUS.DROPPED.width (s.fld P.DUMP_STATUS.DROPPED) 1 := by
  unfold State.dumpDropped
  extract_lets u
  have hu : u.fld P.DUMP_STATUS.DROPPED = wrapAdd P.DUMP_STATUS.DROPPED.width (s.fld P.DUMP_STATUS.DROPPED) 1 :=
    (State.fld_setFld_self s P.DUMP_STATUS.DROPPED _ (by decide) (by decide)).trans (Nat.mod_mod _ _)
  exact (State.dumpDone_dropped _).trans ((State.fld_setDump u _ _).trans hu)

/-- What DUMP_RECORD does with a record whose turn it is (R103 to R105). -/
theorem exec_dumpRecord {s : State} {d : Dump} {c b : Nat} {l : List (Nat × Nat)} (ha : s.Awake) (hd : s.hist.dump = some d)
    (hl : d.left = (c, b) :: l) (hw : d.waiting = false) (hf : d.inFlight = false) (hz : s.isFrozen (2 * c + b) = true)
    (hend : d.frozenSrc = true ∨ s.slotEnded c b = true) : exec .dumpRecord s =
      if s.ringOn 4 ∧ 32832 ≤ s.ringFree 4 then
        .next (({ s with hist := { s.hist with dump := some { d with left := l, inFlight := true },
                                               dumpSeq := wrapAdd 64 s.hist.dumpSeq 1 } } : State).dmaPush 4
          { payload := s.dumpHeader c b (s.dumpWords (2 * c + b)).2.1 (s.dumpWords (2 * c + b)).2.2 d.frozenSrc ++
              (s.dumpWords (2 * c + b)).1, done := .dumpRecord c b 32832 })
      else .next ((if d.frozenSrc then s else s.unfreeze (2 * c + b) false).dumpDropped { d with left := l }) := by
  have he : exec .dumpRecord s = execDumpRecord s := id rfl
  have hended : ¬((!d.frozenSrc) = true ∧ (!s.slotEnded c b) = true) := by
    rcases hend with h | h <;> simp [h]
  rw [he, execDumpRecord, if_neg (by simp [ha]), hd]
  dsimp only
  rw [hl]
  dsimp only
  rw [if_neg (by simp [hw, hf]), if_neg (by simp [hz]), if_neg hended]
  rfl

/-- A record that is dropped for want of room or of a ring (R105). -/
theorem exec_dumpRecord_dropped {s : State} {d : Dump} {c b : Nat} {l : List (Nat × Nat)} (ha : s.Awake)
    (hd : s.hist.dump = some d) (hl : d.left = (c, b) :: l) (hw : d.waiting = false) (hf : d.inFlight = false)
    (hz : s.isFrozen (2 * c + b) = true) (hend : d.frozenSrc = true ∨ s.slotEnded c b = true)
    (hroom : s.ringOn 4 = false ∨ s.ringFree 4 < 32832) : exec .dumpRecord s =
      .next ((if d.frozenSrc then s else s.unfreeze (2 * c + b) false).dumpDropped { d with left := l }) := by
  rw [exec_dumpRecord ha hd hl hw hf hz hend, if_neg]
  rintro ⟨hon, hfree⟩
  rcases hroom with h | h
  · exact Bool.false_ne_true (h.symm.trans hon)
  · omega

/-- A FROZEN buffer that loses its DUMP cause returns to READ, unless a MASK cause holds it (R107). -/
theorem State.buf_unfreeze_dump {s : State} {k : Nat} (hz : s.isFrozen k = true) : (s.unfreeze k false).buf k =
    if (s.buf k).mask = true then { s.buf k with dump := false }
    else { s.buf k with dump := false, st := .read, freedAt := some s.now } := by
  have hst : (s.buf k).st = .frozen := by simpa [State.isFrozen] using hz
  unfold State.unfreeze
  rw [State.buf, State.setBuf_hist, Map.get_set_self]
  cases hm : (s.buf k).mask <;> simp [hst, hm]

theorem State.buf_unfreeze_ne (s : State) {k j : Nat} (mask : Bool) (h : j ≠ k) : (s.unfreeze k mask).buf j = s.buf j :=
  Map.get_set_ne _ _ _ h

/-- Settles O16: `exec_dumpRecord` says what becomes of the record, `State.dumpDropped` what a dropped one leaves. -/
theorem dumpRecord : Obligations.DumpRecord := by
  unfold Obligations.DumpRecord
  refine ⟨fun s d c b l ha hd hl hw hf hz hend hon hfree => ?_, fun s d c b l ha hd hl hw hf hz hsrc hroom => ?_,
    fun s d c b l ha hd hl hw hf hz hsrc hend hroom => ?_⟩
  · exact ⟨_, _, (exec_dumpRecord ha hd hl hw hf hz hend).trans (if_pos ⟨hon, hfree⟩), rfl, rfl, rfl, rfl⟩
  · have hu := exec_dumpRecord_dropped ha hd hl hw hf hz (.inl hsrc) hroom
    rw [if_pos hsrc] at hu
    have honly := s.dumpDropped_onlyDump { d with left := l }
    have hbufs := congrArg (fun u : State => u.hist.bufs) honly.rest
    have hrest := congrArg (fun u : State => { u with hist := s.hist }) honly.rest
    exact ⟨_, hu, State.dumpDropped_dropped _ _, honly.regs, hbufs, hrest⟩
  · have hu := exec_dumpRecord_dropped ha hd hl hw hf hz (.inr hend) hroom
    rw [if_neg (by simp [hsrc])] at hu
    have honly := (s.unfreeze (2 * c + b) false).dumpDropped_onlyDump { d with left := l }
    have hwords := congrArg (fun u : State => u.hist.words) honly.rest
    have hrows := congrArg (fun u : State => u.hist.rows) honly.rest
    have hrest := congrArg (fun u : State => { u with hist := s.hist }) honly.rest
    exact ⟨_, hu, State.dumpDropped_dropped _ _, honly.regs, (honly.buf _).trans (State.buf_unfreeze_dump hz),
      fun k hk => (honly.buf k).trans (s.buf_unfreeze_ne false hk), hwords, hrows, hrest⟩

end Sys2Proof.Machine
end

section
/-! PROOFS. Writes that turn a ring on (R175): O46. -/
namespace Sys2Proof.Machine

/-- A device with the link up, the event ring off, and a reply of one entry waiting at the head of channel 7, which may move. -/
def waitingReplyState : State :=
  { (({ State.reset with ctl := { por := false } } : State).setFld P.LINK_CTRL.LINK_UP 1) with
    host := { State.reset.host with bme0 := true, chans := [(7, { items := [{ payload := [], done := .reply 1 false }] })] } }

/-- A BAR0 write of EVENT_RING at time 1 that sets EN and leaves the rest as it is at reset. -/
def eventRingOn : HostWrite :=
  { t := 1, origin := .bar0 .whole, coinc := 0, value := wordSet (State.reset.reg K.EVENT_RING) P.EVENT_RING.EN 1 }

theorem eventRingOn_accepted : waitingReplyState.Accepts K.EVENT_RING eventRingOn := by decide +kernel

/-- EVENT_RING's write moves channel 7 on. -/
theorem eventRingOn_host : (stateOf waitingReplyState (exec (.ringEnable 7 eventRingOn) waitingReplyState)).host ≠
    (waitingReplyState.at_ 1).host := by decide +kernel

/-- Refutes O46: the statement speaks of every state, also of one in which a reply that may move waits at the head of channel
7. There the write that turns the event ring on also moves that channel on, and not the registers and streams alone differ. -/
theorem not_chainWrites : ¬ Obligations.ChainWrites := by
  unfold Obligations.ChainWrites
  rintro ⟨-, -, -, -, -, -, -, hring, -⟩
  obtain ⟨u, hu, -, -, -, -, -, hframe⟩ := hring waitingReplyState 7 eventRingOn (by decide) eventRingOn_accepted
    (by decide +kernel) (by decide +kernel)
  have hhost := eventRingOn_host
  rw [hu, stateOf_next] at hhost
  have hkept := congrArg State.host hframe
  exact hhost hkept
end Sys2Proof.Machine
end

section
/-! PROOFS. One multiply-accumulate of an Evoth core (R138): O18. -/
namespace Sys2Proof.Machine

/-! ### Two's complement -/

/-- `sext` reads a bit vector as the library does. -/
theorem sext_toNat {n : Nat} (x : BitVec n) : sext n x.toNat = x.toInt := by
  simp [sext, BitVec.toInt, Nat.mod_eq_of_lt x.isLt]

theorem sext_eq_toInt (n w : Nat) : sext n w = (BitVec.ofNat n w).toInt := by
  rw [← sext_toNat, BitVec.toNat_ofNat, sext_mod]

/-- `trunc` cuts an integer as the library does. -/
theorem trunc_eq_toNat (n : Nat) (v : Int) : trunc n v = (BitVec.ofInt n v).toNat := by
  simp [trunc]

/-- A number of `m` bits fits any `n` bits that are not fewer. -/
theorem sext_trunc_sext {m n : Nat} (h : m ≤ n) (w : Nat) : sext n (trunc n (sext m w)) = sext m w := by
  rw [trunc_eq_toNat, sext_toNat, sext_eq_toInt]
  exact BitVec.toInt_signExtend_of_le h

/-! ### Bits of SR -/

theorem bitOf_toNat_eq_getLsbD {n : Nat} (x : BitVec n) (i : Nat) : bitOf x.toNat i = x.getLsbD i := bitOf_eq_testBit x.toNat i

theorem EvothRegs.setSr_true_sr (r : EvothRegs) (i : Nat) : (r.setSr i true).sr = r.sr ||| BitVec.twoPow 16 i := by
  have hbit := bitOf_toNat_eq_getLsbD r.sr i
  have hand := BitVec.and_twoPow r.sr i
  unfold EvothRegs.setSr
  cases hb : r.sr.getLsbD i with
  | true =>
    rw [hb, if_pos rfl] at hand
    simp only [hbit, hb, if_true, BitVec.ofNat_toNat, BitVec.setWidth_eq]
    rw [← hand]
    refine (BitVec.eq_of_getLsbD_eq fun j _ => ?_).symm
    rw [BitVec.getLsbD_or, BitVec.getLsbD_and]
    cases r.sr.getLsbD j <;> rfl
  | false =>
    rw [hb, if_neg (by decide)] at hand
    rw [← BitVec.add_eq_or_of_and_eq_zero _ _ hand]
    apply BitVec.eq_of_toNat_eq
    simp [hbit, hb, BitVec.toNat_twoPow]

/-- Bit `i` of SR is set where `p` holds. -/
def EvothRegs.raise (r : EvothRegs) (i : Nat) (p : Bool) : EvothRegs := if p then r.setSr i true else r

theorem EvothRegs.bitOf_raise (r : EvothRegs) {i : Nat} (p : Bool) (hi : i < 16) (j : Nat) :
    bitOf (r.raise i p).sr.toNat j = (bitOf r.sr.toNat j || (decide (j = i) && p)) := by
  cases p with
  | false => simp [EvothRegs.raise]
  | true =>
    rw [EvothRegs.raise, if_pos rfl, bitOf_toNat_eq_getLsbD, bitOf_toNat_eq_getLsbD, EvothRegs.setSr_true_sr]
    simp [hi, eq_comm]

theorem EvothRegs.bitOf_raise_ne (r : EvothRegs) {i j : Nat} (p : Bool) (hi : i < 16) (hj : j ≠ i) :
    bitOf (r.raise i p).sr.toNat j = bitOf r.sr.toNat j := by
  simp [r.bitOf_raise p hi, hj]

theorem EvothRegs.bitOf_raise_self (r : EvothRegs) {i : Nat} (p : Bool) (hi : i < 16) :
    bitOf (r.raise i p).sr.toNat i = (bitOf r.sr.toNat i || p) := by
  simp [r.bitOf_raise p hi]

theorem EvothRegs.raise_acc (r : EvothRegs) (i : Nat) (p : Bool) : (r.raise i p).acc = r.acc := by
  cases p <;> rfl

/-- A bit of SR that is raised is all that changes. -/
theorem EvothRegs.raise_frame (r : EvothRegs) (i : Nat) (p : Bool) : { r.raise i p with sr := r.sr } = r := by
  cases p <;> rfl

/-! ### The accumulators -/

theorem EvothRegs.accI_setAcc_self (r : EvothRegs) (a : Nat) (v : Int) : (r.setAcc a v).accI a = sext 56 (trunc 56 v) := by
  simp [EvothRegs.accI, EvothRegs.setAcc, trunc_eq_toNat]

theorem EvothRegs.accI_setAcc_ne (r : EvothRegs) {a b : Nat} (v : Int) (h : b ≠ a) : (r.setAcc a v).accI b = r.accI b := by
  simp [EvothRegs.accI, EvothRegs.setAcc, Map.get_set_ne _ _ _ h]

/-- The exact sum of a multiply-accumulate: the low `n` bits of the accumulator and the product of operands of `w` bits. -/
def EvothRegs.macSum (r : EvothRegs) (n w a x y : Nat) : Int :=
  sext n (Map.get 0 r.acc a).toNat + sext w (r.dReg x) * sext w (r.dReg y)

/-- What the accumulator keeps of it: `n` bits. -/
def EvothRegs.macKept (r : EvothRegs) (n w a x y : Nat) : Int := sext n (trunc n (r.macSum n w a x y))

/-- A multiply-accumulate in an arithmetic of `n` bits with operands of `w` bits. -/
def EvothRegs.macOf (r : EvothRegs) (n w a x y : Nat) : EvothRegs :=
  (r.setAcc a (r.macKept n w a x y)).raise (10 + a) (decide (r.macKept n w a x y ≠ r.macSum n w a x y))

theorem EvothRegs.mac_eq (r : EvothRegs) (a x y : Nat) :
    r.mac a x y = r.macOf (if r.narrow then 40 else 56) (if r.narrow then 16 else 24) a x y := by
  simp only [EvothRegs.macOf, EvothRegs.raise, decide_eq_true_eq, ite_not]
  rfl

section
variable (r : EvothRegs) {n a : Nat} (w x y : Nat)

theorem EvothRegs.macOf_acc (n a : Nat) : (r.macOf n w a x y).acc = (r.setAcc a (r.macKept n w a x y)).acc :=
  EvothRegs.raise_acc _ _ _

theorem EvothRegs.accI_macOf_self (hn : n ≤ 56) : (r.macOf n w a x y).accI a = r.macKept n w a x y := by
  rw [EvothRegs.accI, EvothRegs.macOf_acc, ← EvothRegs.accI, EvothRegs.accI_setAcc_self]
  exact sext_trunc_sext hn _

theorem EvothRegs.accI_macOf_ne {b : Nat} (h : b ≠ a) : (r.macOf n w a x y).accI b = r.accI b := by
  rw [EvothRegs.accI, EvothRegs.macOf_acc, ← EvothRegs.accI, EvothRegs.accI_setAcc_ne r _ h]

theorem EvothRegs.av_macOf_self (ha : a < 4) : bitOf (r.macOf n w a x y).sr.toNat (10 + a) =
    (bitOf r.sr.toNat (10 + a) || decide (r.macKept n w a x y ≠ r.macSum n w a x y)) :=
  EvothRegs.bitOf_raise_self _ _ (by omega)

theorem EvothRegs.sr_macOf_ne (ha : a < 4) {j : Nat} (hj : j ≠ 10 + a) :
    bitOf (r.macOf n w a x y).sr.toNat j = bitOf r.sr.toNat j :=
  EvothRegs.bitOf_raise_ne _ _ (by omega) hj

/-- A multiply-accumulate leaves all but the accumulators and SR. -/
theorem EvothRegs.macOf_frame (n a : Nat) : { r.macOf n w a x y with acc := r.acc, sr := r.sr } = r := by
  have hraised := (r.setAcc a (r.macKept n w a x y)).raise_frame (10 + a)
    (decide (r.macKept n w a x y ≠ r.macSum n w a x y))
  exact congrArg (fun z : EvothRegs => { z with acc := r.acc, sr := r.sr }) hraised
end

/-- Settles O18: in either mode the instruction is `EvothRegs.macOf` with the mode's widths. -/
theorem macArithmetic : Obligations.MacArithmetic := by
  intro r a x y ha
  have hwide : r.narrow = false → r.mac a x y = r.macOf 56 24 a x y := fun h => by simp [r.mac_eq, h]
  have hnarrow : r.narrow = true → r.mac a x y = r.macOf 40 16 a x y := fun h => by simp [r.mac_eq, h]
  refine ⟨fun h => ?_, fun h => ?_, fun b hb => ?_, fun h => ?_, fun h => ?_, ?_⟩
  · exact (congrArg (EvothRegs.accI · a) (hwide h)).trans (r.accI_macOf_self 24 x y le_rfl)
  · exact (congrArg (EvothRegs.accI · a) (hnarrow h)).trans (r.accI_macOf_self 16 x y (by omega))
  · rw [r.mac_eq]
    exact ⟨r.accI_macOf_ne _ x y hb, r.sr_macOf_ne _ x y ha (by omega)⟩
  · rw [hwide h]
    exact r.av_macOf_self 24 x y ha
  · rw [hnarrow h]
    exact r.av_macOf_self 16 x y ha
  · rw [r.mac_eq]
    exact r.macOf_frame _ x y _ a

end Sys2Proof.Machine
end

section
/-! PROOFS. Instructions of the job that a core runs (R136 to R142): O19. -/
namespace Sys2Proof.Machine

/-! ### The cores -/

@[simp] theorem State.core_withCore_self (s : State) (q : Nat) (f : EvothCore → EvothCore) :
    (s.withCore q f).core q = f (s.core q) := Map.get_set_self _ _ _ _

theorem State.core_withCore_ne (s : State) {p q : Nat} (f : EvothCore → EvothCore) (h : p ≠ q) :
    (s.withCore q f).core p = s.core p := Map.get_set_ne _ _ _ h

/-- An instruction retires: the context of the running job and the data memory that it leaves. -/
def State.retire (s : State) (q : Nat) (r : EvothRegs) (d : SMap (BitVec 32)) : State :=
  s.withCore q fun c => if s.level q = 1 then { c with col := r, data := d } else { c with bg := r, data := d }

theorem State.coreCtx_retire (s : State) (q : Nat) (r : EvothRegs) (d : SMap (BitVec 32)) : (s.retire q r d).coreCtx q = r := by
  have hl : (s.retire q r d).level q = s.level q := id rfl
  rw [State.coreCtx, hl, State.retire, State.core_withCore_self]
  split <;> rfl

theorem State.data_retire (s : State) (q : Nat) (r : EvothRegs) (d : SMap (BitVec 32)) :
    ((s.retire q r d).core q).data = d := by
  rw [State.retire, State.core_withCore_self]
  split <;> rfl

theorem State.core_retire_ne (s : State) {p q : Nat} (r : EvothRegs) (d : SMap (BitVec 32)) (h : p ≠ q) :
    (s.retire q r d).core p = s.core p := State.core_withCore_ne _ _ h

/-- With no repeat and no change of mode ahead, an instruction that does not fault retires once (R139, R142). -/
theorem State.evothRun_ok {s : State} {q : Nat} {f : EvothRegs → SMap (BitVec 32) → InstrStep} {r : EvothRegs}
    {d : SMap (BitVec 32)} (hs : s.CoreRuns q) (hf : f (s.coreCtx q) (s.core q).data = .ok r d) :
    s.evothRun q f = s.retire q r d := by
  obtain ⟨hq, hlevel, hlc, hmode⟩ := hs
  have hruns : ¬(16 ≤ q ∨ s.level q = 0 ∨ 2 < s.level q) := by omega
  have happly : (s.coreCtx q).applyMode = s.coreCtx q := by simp only [EvothRegs.applyMode, hmode]
  have hcount : ({ s.coreCtx q with lc := 0 } : EvothRegs) = s.coreCtx q := by rw [← hlc]
  have hctx : (if s.level q = 1 then (s.core q).col else (s.core q).bg) = s.coreCtx q := rfl
  have honce : runTimes f 1 (s.coreCtx q) (s.core q).data = (r, d, none) := by simp only [runTimes, hf]
  simp only [State.evothRun, if_neg hruns, hctx, happly, hcount, hlc, if_true, honce, ne_eq, not_true_eq_false,
    decide_false, Bool.false_eq_true, if_false, State.retire]

/-! ### What the instructions make of their context -/

theorem EvothRegs.mac_ad (r : EvothRegs) (a x y : Nat) : (r.mac a x y).ad = r.ad := by
  have h := r.macOf_frame (if r.narrow then 16 else 24) x y (if r.narrow then 40 else 56) a
  rw [← r.mac_eq] at h
  have had := congrArg EvothRegs.ad h
  exact had

theorem EvothRegs.mac_narrow (r : EvothRegs) {a : Nat} (x y : Nat) (ha : a < 4) : (r.mac a x y).narrow = r.narrow := by
  rw [r.mac_eq]
  exact r.sr_macOf_ne _ x y ha (by omega)

/-- A cycle without an access. -/
theorem EvothRegs.access_none (r : EvothRegs) (d : SMap (BitVec 32)) (lv : Nat) (bk : Bool) (pick : Nat) :
    r.access d lv bk pick none none = .ok r d := by
  unfold EvothRegs.access
  simp only [Option.bind_none, ite_self]

/-- An aligned access in the level's own regions does not fault (R140, R156). -/
theorem accessFault_eq_none {narrow : Bool} {ad : Nat} (pick : Nat) (h : (if narrow then ad % 2 else ad % 4) = 0) :
    accessFault narrow (ad, true) pick false = none := by
  cases narrow <;> simp_all [accessFault]

/-- An aligned load through port U in the level's own regions (R137, R140). -/
theorem EvothRegs.access_load (r : EvothRegs) (d : SMap (BitVec 32)) {lv k reg : Nat} (pick : Nat) (hk : k < 8) (hr : reg < 8)
    (ho : dataOwn lv (r.adReg k) = true) (ha : (if r.narrow then r.adReg k % 2 else r.adReg k % 4) = 0) :
    r.access d lv false pick (some ⟨k, false, reg, false⟩) none =
      .ok ((r.setD reg (loadValue r.narrow d (r.adReg k))).stepAd k) d := by
  have hplace : dataPlace lv false false (r.adReg k) = (r.adReg k, true) := by rw [← ho]; rfl
  unfold EvothRegs.access
  simp only [Option.bind_none, Option.bind_some, ite_self, Nat.mod_eq_of_lt hk, Nat.mod_eq_of_lt hr, hplace,
    Bool.false_and, accessFault_eq_none pick ha, Bool.false_eq_true, if_false]

/-- A move of an accumulator to a register (R141). -/
def EvothRegs.moved (r : EvothRegs) (a k : Nat) : EvothRegs :=
  let w := scaleShift r.narrow r.sc.toNat (r.accI a)
  (r.raise 14 w.2).setD k (trunc 24 w.1)

theorem EvothRegs.dReg_setD_self (r : EvothRegs) (k : Nat) (v : Int) : (r.setD k (trunc 24 v)).dReg k = trunc 24 v := by
  rw [EvothRegs.dReg, EvothRegs.setD, Map.get_set_self, BitVec.toNat_ofNat, trunc_mod]

theorem EvothRegs.dReg_setD_ne (r : EvothRegs) {j k : Nat} (v : Nat) (h : j ≠ k) : (r.setD k v).dReg j = r.dReg j := by
  simp [EvothRegs.dReg, EvothRegs.setD, Map.get_set_ne _ _ _ h]

theorem EvothRegs.raise_dReg (r : EvothRegs) (i : Nat) (p : Bool) (j : Nat) : (r.raise i p).dReg j = r.dReg j := by
  cases p <;> rfl

/-! ### Each instruction's meaning -/

section
variable {s : State} {q : Nat} (ha : s.Awake) (hs : s.CoreRuns q)
include ha hs

theorem exec_evothMac (a x y : Nat) :
    exec (.evothMac q a x y ⟨none, none, none⟩) s =
      .next (s.retire q ((s.coreCtx q).mac (a % 4) (x % 8) (y % 8)) (s.core q).data) :=
  (awake_next ha).trans (congrArg _ (State.evothRun_ok hs (EvothRegs.access_none _ _ _ _ _)))

theorem exec_evothAccMove (a k : Nat) :
    exec (.evothAccMove q a (.reg k)) s =
      .next ((s.draw 8).2.retire q ((s.coreCtx q).moved (a % 4) (k % 8)) (s.core q).data) :=
  (awake_next ha).trans (congrArg _ (State.evothRun_ok (s := (s.draw 8).2) hs rfl))

theorem exec_evothLoadSc {v : BitVec 8} (hv : scaleOk (s.coreCtx q).narrow v.toNat = true) :
    exec (.evothLoadSc q v) s = .next (s.retire q { s.coreCtx q with sc := v } (s.core q).data) :=
  (awake_next ha).trans (congrArg _ (State.evothRun_ok hs (if_pos hv)))

theorem exec_evothLoadCbsel {v : BitVec 24} (hv : ∀ k, k < 8 → bitsOf v.toNat (3 * k + 2) (3 * k) ≤ 4) :
    exec (.evothLoadCbsel q v) s = .next (s.retire q { s.coreCtx q with cbsel := v } (s.core q).data) := by
  have hall : (List.range 8).all (fun k => decide (bitsOf v.toNat (3 * k + 2) (3 * k) ≤ 4)) = true := by simpa using hv
  exact (awake_next ha).trans (congrArg _ (State.evothRun_ok hs (if_pos hall)))

theorem exec_evothModeSwitch {n : Bool} (hb : s.bkJob q = false) (hv : scaleOk n (s.coreCtx q).sc.toNat = true) :
    exec (.evothModeSwitch q n) s = .next (s.retire q { s.coreCtx q with nextMode := some n } (s.core q).data) :=
  (awake_next ha).trans (congrArg _ (State.evothRun_ok hs (if_pos (by simp [hb, hv]))))

theorem exec_evothRepeat {n : Nat} (h1 : 1 ≤ n) (h2 : n ≤ 1024) :
    exec (.evothRepeat q (.imm n) true) s =
      .next (s.retire q { s.coreCtx q with lc := BitVec.ofNat 11 n } (s.core q).data) := by
  have hlc : (if s.level q = 1 then (s.core q).col.lc else (s.core q).bg.lc) = 0 := by
    rw [← hs.2.2.1, State.coreCtx]
    split <;> rfl
  refine (awake_next ha).trans (congrArg _ (State.evothRun_ok hs ?_))
  simp only [hlc]
  rw [if_neg (by simp), if_neg (by omega)]

theorem exec_evothMac_load {a x y k reg : Nat} (hb : s.bkJob q = false) (h4 : a < 4) (hx : x < 8) (hy : y < 8) (hk : k < 8)
    (hr : reg < 8) (ho : dataOwn (s.level q) ((s.coreCtx q).adReg k) = true)
    (hal : (if (s.coreCtx q).narrow then (s.coreCtx q).adReg k % 2 else (s.coreCtx q).adReg k % 4) = 0) :
    exec (.evothMac q a x y ⟨none, some ⟨k, false, reg, false⟩, none⟩) s =
      .next ((s.draw 16).2.retire q ((((s.coreCtx q).mac a x y).setD reg
        (loadValue (s.coreCtx q).narrow (s.core q).data ((s.coreCtx q).adReg k))).stepAd k) (s.core q).data) := by
  have had : ((s.coreCtx q).mac a x y).adReg k = (s.coreCtx q).adReg k := by
    rw [EvothRegs.adReg, EvothRegs.mac_ad, EvothRegs.adReg]
  have hload := EvothRegs.access_load ((s.coreCtx q).mac a x y) (s.core q).data (lv := s.level q) (reg := reg) (s.draw 16).1 hk hr
  rw [had, EvothRegs.mac_narrow _ x y h4] at hload
  refine (awake_next ha).trans (congrArg _ (State.evothRun_ok (s := (s.draw 16).2) hs ?_))
  change ((s.coreCtx q).mac (a % 4) (x % 8) (y % 8)).access (s.core q).data (s.level q) (s.bkJob q) (s.draw 16).1 _ none = _
  rw [Nat.mod_eq_of_lt h4, Nat.mod_eq_of_lt hx, Nat.mod_eq_of_lt hy, hb]
  exact hload ho hal

end

/-- Settles O19: each instruction retires (`State.evothRun_ok`) with the context that its own lemma names. -/
theorem evothRegisters : Obligations.EvothRegisters := by
  refine ⟨fun s q a x y ha hs => ?_, fun s q a k ha hs => ?_, fun s q v ha hs hv => ?_, fun s q v ha hs hv => ?_,
    fun s q n ha hs hb hv => ?_, fun s q n ha hs h1 h2 => ?_, fun s q a x y k r ha hs hb h4 hx hy hk hr ho hal => ?_⟩
  · exact ⟨_, exec_evothMac ha hs a x y, s.coreCtx_retire q _ _, s.data_retire q _ _, fun p hp => s.core_retire_ne _ _ hp, rfl⟩
  · refine ⟨_, exec_evothAccMove ha hs a k, ?_⟩
    rw [State.coreCtx_retire]
    exact ⟨EvothRegs.dReg_setD_self _ _ _, EvothRegs.bitOf_raise_self _ _ (by decide),
      fun b hb => EvothRegs.bitOf_raise_ne _ _ (by decide) hb, EvothRegs.raise_acc _ _ _,
      fun j _ hj => (EvothRegs.dReg_setD_ne _ _ hj).trans (EvothRegs.raise_dReg _ _ _ _), State.data_retire _ q _ _,
      fun p hp => State.core_retire_ne _ _ _ hp, rfl⟩
  · exact ⟨_, exec_evothLoadSc ha hs hv, s.coreCtx_retire q _ _, fun p hp => s.core_retire_ne _ _ hp, rfl⟩
  · exact ⟨_, exec_evothLoadCbsel ha hs hv, s.coreCtx_retire q _ _, fun p hp => s.core_retire_ne _ _ hp, rfl⟩
  · exact ⟨_, exec_evothModeSwitch ha hs hb hv, s.coreCtx_retire q _ _, fun p hp => s.core_retire_ne _ _ hp, rfl⟩
  · exact ⟨_, exec_evothRepeat ha hs h1 h2, s.coreCtx_retire q _ _, fun p hp => s.core_retire_ne _ _ hp, rfl⟩
  · exact ⟨_, exec_evothMac_load ha hs hb h4 hx hy hk hr ho hal, State.coreCtx_retire _ q _ _, State.data_retire _ q _ _, rfl⟩

end Sys2Proof.Machine
end

section
/-! PROOFS. A BK background job with a repeat ahead of its next instruction (R142, R147, R148, R160): O20, O21. -/
namespace Sys2Proof.Machine

/-- Core 0 runs its BACKGROUND job in BK mode, and EVOTH_REPEAT has given the next instruction a count of 5; `due` is what the host
has asked of the job meanwhile, which waits for the repeat's end (R142, R161, R440). -/
def repeatAheadState (due : Option BgDue) : State :=
  (({ State.reset with
      ctl := { por := false }
      evoth := { cores := [(0, { bg := { lc := 5 }, bgPhase := .running, bgDue := due })] } } : State).setFld
    (P.CORE_STATUS.BG_BK.idx 0) 1).setLevel 0 2

/-- The unsupported instruction ends the repeat, and with it the image key's retirement takes effect: the job is gone, its
fault with it. -/
theorem repeatAheadState_bkUnsupported :
    (stateOf (repeatAheadState (some .drop)) (exec (.bkUnsupportedInstruction 0) (repeatAheadState (some .drop)))).fld
      (P.CORE_STATUS.BG_FAULTED.idx 0) = 0 := by
  decide +kernel

/-- Refutes O20: of BK_UNSUPPORTED_INSTRUCTION the statement says that BG_FAULTED reads 1, also where the instruction ends a
repeat that held up the discarding of the job. There the job is discarded at once, which clears BG_FAULTED. -/
theorem not_evothMemory : ¬ Obligations.EvothMemory := by
  unfold Obligations.EvothMemory
  rintro ⟨-, -, -, hunsupported, -⟩
  obtain ⟨u, hu, -, -, hfaulted⟩ := hunsupported (repeatAheadState (some .drop)) 0 (by decide +kernel) (by decide)
    (by decide +kernel) (by decide +kernel)
  have hcleared := repeatAheadState_bkUnsupported
  rw [hu, stateOf_next] at hcleared
  exact absurd (hfaulted.symm.trans hcleared) (by decide)

/-- A block repeat may not be repeated, so BK_BLOCK_REPEAT is an illegal instruction here and opens no block. -/
theorem repeatAheadState_bkBlockRepeat :
    ((stateOf (repeatAheadState none) (exec (.bkBlockRepeat 0 4 2) (repeatAheadState none))).core 0).block = none := by
  decide +kernel

/-- Refutes O21: of BK_BLOCK_REPEAT the statement says that it opens a block, also where a repeat is ahead. There it is an
illegal instruction (R142, notes/assumptions 44), and the job stops without one. -/
theorem not_evothJobs : ¬ Obligations.EvothJobs := by
  unfold Obligations.EvothJobs
  rintro ⟨-, -, -, hblock, -⟩
  obtain ⟨u, hu, hopened, -⟩ := hblock (repeatAheadState none) 0 4 2 (by decide +kernel) (by decide) (by decide +kernel)
    (by decide +kernel) (by decide +kernel) (by decide) (by decide)
  have hnone := repeatAheadState_bkBlockRepeat
  rw [hu, stateOf_next, hopened] at hnone
  exact absurd hnone (by simp)

end Sys2Proof.Machine
end

section
/-! PROOFS. Image and key commands that succeed (R158, R420, R433, R437 to R443): what each leaves. They are the clauses of O53 but
the one on BACKGROUND images, which the section after this takes up. -/
namespace Sys2Proof.Machine

/-! ### What an answer leaves -/

theorem State.msix_ctl (s : State) (fn vec : Nat) : (s.msix fn vec).ctl = s.ctl := by
  have hctl : ∀ u : State, u.offStream.ctl = u.ctl := fun u => id rfl
  rw [← hctl, State.msix_offStream, hctl]

theorem State.answerOk_ctl (s : State) (c : Command) (data : List Byte) : (s.answerOk c data).ctl = s.ctl := by
  unfold State.answerOk State.sendReply
  split
  · simp only [State.pushReply, apply_ite State.ctl, State.liveWrap_ctl, ite_self]
  · simp only [State.msix_ctl, State.setFld_ctl, State.liveWrap_ctl]

theorem State.showRun_ctl (s : State) (x : Option (Path × Nat × Nat)) : (s.showRun x).ctl = s.ctl := by
  simp only [State.showRun, State.setFld_ctl]

theorem State.commandOver_ctl (s : State) : s.commandOver.ctl = s.ctl := by
  unfold State.commandOver
  cases hr : (s.showRun none).salsol.heldReply <;> simp only [hr, State.showRun_ctl]

theorem State.checkHead_ctl (s : State) (c : Command) (raw : List Byte) : (s.checkHead c raw).2.ctl = s.ctl := by
  cases hk : Map.find? s.nv.cmdKeys c.slot <;>
    simp only [State.checkHead, hk, apply_ite Prod.snd, apply_ite State.ctl, State.setFld_ctl, ite_self]

theorem State.takePacket_ctl (s : State) (path : Path) : (s.takePacket path).ctl = s.ctl := by
  cases path <;> rfl

/-! ### A command that executes -/

section
variable {s v : State} {t op : Nat} {path : Path} {raw : List Byte} (he : s.Executes t path raw op v)
include he

theorem State.Executes.ctl : v.ctl = s.ctl := by
  obtain ⟨-, -, -, -, -, hcheck⟩ := he
  have h := State.checkHead_ctl (s.taken t path raw) (readCommand path raw) raw
  rwa [hcheck, State.taken, State.showRun_ctl, State.takePacket_ctl, State.at_ctl] at h

/-- A command that has passed the head checks and succeeds is answered, and no restart follows (R411). -/
theorem State.Executes.command_ok {run : Command → State → Outcome} {data : List Byte} {w : State}
    (hr : run (readCommand path raw) v = .ok (data, w)) (hc : w.ctl = v.ctl) :
    s.command t path (isOp op) run = (w.answerOk (readCommand path raw) data).commandOver := by
  have hctl := he.ctl
  obtain ⟨-, hask, hoff, hnext, hop, hcheck⟩ := he
  have hmine : isOp op (readCommand path raw) = true := beq_iff_eq.mpr hop
  have hbf : s.boundaryFirst t = s := if_neg hoff
  have hcheck' : State.checkHead (((s.at_ t).takePacket path).showRun
      (some (path, (readCommand path raw).opcode, (readCommand path raw).tag))) (readCommand path raw) raw = (none, v) := hcheck
  have hnone : (w.answerOk (readCommand path raw) data).commandOver.ctl.asked = none := by
    rw [State.commandOver_ctl, State.answerOk_ctl, hc, hctl, hask]
  simp only [State.command, hnext, hmine, hbf, hcheck', hr, Bool.not_true, Bool.false_eq_true, if_false,
    State.runAsked_of_none hnone]
end

/-- A well-formed piece reaches the command (R420, check 7). -/
theorem pieceOf_carries {c : Command} {p : Piece} (h : c.Carries p) (k : Piece → Outcome) : pieceOf c k = k p := by
  obtain ⟨hauth, hlen, hn, hl, hz, hb, hd, rfl⟩ := h
  simp only [pieceOf]
  rw [if_neg (by omega), if_neg (by simp [hn, hz]; omega), if_neg (by omega), if_neg (by simp [hd]), if_neg (by simp [hauth])]

/-- A well-formed body of the right length reaches the command (check 7). -/
theorem bodyOf_ok {c : Command} {n : Nat} {ok : Bool} {k : Outcome} (hl : c.body.length = n) (hok : ok = true) :
    bodyOf c n ok k = k := (if_neg (by simp [hl])).trans (if_pos hok)

/-! ### The images in the control complex -/

theorem leNat_lt (l : List Byte) : leNat l < 256 ^ l.length := by
  induction l with
  | nil => simp [leNat]
  | cons a l ih =>
    have ha := a.isLt
    simp only [leNat, List.length_cons, pow_succ]
    omega

theorem natAt_lt (b : List Byte) (off n : Nat) : natAt b off n < 256 ^ n :=
  (leNat_lt _).trans_le (Nat.pow_le_pow_right (by decide) (by simp [bytesAt]))

/-- The bank that does not run takes an image and is pending, or takes none and is not (R433). -/
theorem State.setOtherBank_eq (s : State) (k : Option FwBank) : s.setOtherBank k = { s with
    nv := (if s.bit P.FW_STATUS.RUNNING_BANK = true then { s.nv with bankA := k, pending := k.map fun _ => false }
      else { s.nv with bankB := k, pending := k.map fun _ => true }) } := by
  unfold State.setOtherBank
  cases s.bit P.FW_STATUS.RUNNING_BANK <;> cases k <;> simp

/-- The bank that a firmware image makes (Table 19.7). -/
def fwBankOf (b : List Byte) : FwBank :=
  ⟨natAt b 6 1, natAt b 7 1, natAt b 8 8, natAt b 20 1 % 16, sha384 (b.take (64 + natAt b 16 4)), true, b⟩

/-- Both signatures of a firmware image verify under the root keys of its generation (R429, R433). -/
abbrev FwVerified (b : List Byte) : Prop :=
  bothVerify (Config.rootKey (natAt b 7 1)) (digestBlock labelFirmware (b.take (64 + natAt b 16 4)))
    (b.drop (64 + natAt b 16 4)) = true

theorem State.fwImage_verified {s : State} {b : List Byte} (hh : fwHeaderOk b = true)
    (hr : bitOf s.nv.revoked (natAt b 7 1 - 1) = false) (hv : FwVerified b) (hrb : s.nv.rollback ≤ natAt b 6 1) :
    s.fwImage b = .ok ([], s.setOtherBank (some (fwBankOf b))) := by
  have hbits : bitsOf (natAt b 20 1) 3 0 = natAt b 20 1 % 16 := by simp [bitsOf]
  simp only [State.fwImage, hh, hr, hv, Nat.not_lt.mpr hrb, hbits]
  rfl

/-- The image that an Evoth image's bytes make (Table 6.8). -/
def evothImageOf (b : List Byte) : EvothImage where
  bk := natAt b 7 1 == 1
  entry := natAt b 16 4
  prog := bytesAt b 64 (natAt b 8 4)
  data := bytesAt b (64 + natAt b 8 4) (natAt b 12 4)
  version := natAt b 24 8
  keySlot := natAt b 32 4
  digest := sha384 (b.take (64 + natAt b 8 4 + natAt b 12 4))

/-- Both signatures of an Evoth image verify under a key pair (R157). -/
abbrev EvothVerified (keys : List Byte × List Byte) (b : List Byte) : Prop :=
  bothVerify keys (digestBlock labelEvoth (b.take (64 + natAt b 8 4 + natAt b 12 4)))
    (b.drop (64 + natAt b 8 4 + natAt b 12 4)) = true

theorem State.evothImage_verified {s : State} {b : List Byte} {keys : List Byte × List Byte} (hh : evothHeaderOk b = true)
    (hk : Map.find? s.nv.imageKeys (natAt b 32 4) = some keys) (hv : EvothVerified keys b) :
    s.evothImage b = if natAt b 6 1 = 1 then .ok ([], { s with evoth := { s.evoth with refine := some (evothImageOf b) } })
      else .ok ([], forEach (maskBits 16 (natAt b 20 2)) (fun q s => s.loadBg q (evothImageOf b)) s) := by
  simp only [State.evothImage, hh, hk, hv]
  rfl

/-! ### What a change of BACKGROUND images leaves -/

/-- The device with its parameters and its cores' memories and background images put to rest. -/
def State.offCores (s : State) : State := { s with regs := [], evoth := { s.evoth with cores := [], bgImages := [] } }

theorem State.withCore_offCores (s : State) (q : Nat) (f : EvothCore → EvothCore) : (s.withCore q f).offCores = s.offCores := id rfl
theorem State.setFld_offCores (s : State) (f : FieldRef) (n : Nat) : (s.setFld f n).offCores = s.offCores := id rfl
theorem State.setLevel_offCores (s : State) (q n : Nat) : (s.setLevel q n).offCores = s.offCores := id rfl
theorem State.withImages_offCores (s : State) (m : SMap EvothImage) :
    ({ s with evoth := { s.evoth with bgImages := m } } : State).offCores = s.offCores := id rfl

theorem State.startBg_offCores (s : State) (q : Nat) : (s.startBg q).offCores = s.offCores := by
  unfold State.startBg
  split
  · rfl
  · simp only [State.setFld_offCores, apply_ite State.offCores, State.setLevel_offCores, State.withCore_offCores, ite_self]

theorem State.bgDo_offCores (s : State) (q : Nat) (d : BgDue) : (s.bgDo q d).offCores = s.offCores := by
  cases d <;> simp only [State.bgDo, State.startBg_offCores, State.setFld_offCores, apply_ite State.offCores,
    State.setLevel_offCores, State.withCore_offCores, ite_self]

theorem State.bgAsk_offCores (s : State) (q : Nat) (d : BgDue) : (s.bgAsk q d).offCores = s.offCores := by
  simp only [State.bgAsk, apply_ite State.offCores, State.bgDo_offCores, State.withCore_offCores, ite_self]

theorem State.dropBg_offCores (s : State) (q : Nat) : (s.dropBg q).offCores = s.offCores :=
  (State.bgAsk_offCores _ q .drop).trans (s.withImages_offCores _)

theorem State.loadBg_offCores (s : State) (q : Nat) (y : EvothImage) : (s.loadBg q y).offCores = s.offCores :=
  (State.bgAsk_offCores _ q (.load y)).trans (s.withImages_offCores _)

theorem State.forEach_offCores {f : Nat → State → State} (h : ∀ i u, (f i u).offCores = u.offCores) (l : List Nat) (s : State) :
    (forEach l f s).offCores = s.offCores := by
  induction l generalizing s with
  | nil => rfl
  | cons a l ih => exact (ih (f a s)).trans (h a s)

theorem State.ctl_of_offCores {u s : State} (h : u.offCores = s.offCores) : u.ctl = s.ctl := by
  have hp : ∀ z : State, z.offCores.ctl = z.ctl := fun z => id rfl
  rw [← hp, h, hp]

/-- The REFINE image goes where the key that is gone signed it (R440). -/
def State.refineKeyGone (s : State) (slot : Nat) : State :=
  match s.evoth.refine with
  | some x => if x.keySlot = slot then { s with evoth := { s.evoth with refine := none, refineGone := true } } else s
  | none => s

theorem State.refineKeyGone_keeps (s : State) (slot : Nat) :
    (s.refineKeyGone slot).nv = s.nv ∧ (s.refineKeyGone slot).salsol = s.salsol ∧ (s.refineKeyGone slot).sup = s.sup ∧
    (s.refineKeyGone slot).ctl = s.ctl := by
  unfold State.refineKeyGone
  split
  · split <;> exact ⟨rfl, rfl, rfl, rfl⟩
  · exact ⟨rfl, rfl, rfl, rfl⟩

theorem State.refineKeyGone_refine (s : State) (slot : Nat) :
    ∀ x, (s.refineKeyGone slot).evoth.refine = some x → x.keySlot ≠ slot := by
  unfold State.refineKeyGone
  cases hr : s.evoth.refine with
  | none => simp [hr]
  | some y =>
    by_cases h : y.keySlot = slot
    · simp [h]
    · simp only [if_neg h, hr, Option.some.injEq]
      exact fun x hx => hx ▸ h

theorem State.imageKeyGone_offCores (s : State) (slot : Nat) : (s.imageKeyGone slot).offCores = (s.refineKeyGone slot).offCores :=
  State.forEach_offCores (fun q u => u.dropBg_offCores q) _ _

section
variable (s : State) (slot : Nat)

theorem State.imageKeyGone_nv : (s.imageKeyGone slot).nv = s.nv := by
  have h := congrArg State.nv (s.imageKeyGone_offCores slot)
  exact h.trans (s.refineKeyGone_keeps slot).1

theorem State.imageKeyGone_salsol : (s.imageKeyGone slot).salsol = s.salsol := by
  have h := congrArg State.salsol (s.imageKeyGone_offCores slot)
  exact h.trans (s.refineKeyGone_keeps slot).2.1

theorem State.imageKeyGone_sup : (s.imageKeyGone slot).sup = s.sup := by
  have h := congrArg State.sup (s.imageKeyGone_offCores slot)
  exact h.trans (s.refineKeyGone_keeps slot).2.2.1

theorem State.imageKeyGone_ctl : (s.imageKeyGone slot).ctl = s.ctl :=
  (State.ctl_of_offCores (s.imageKeyGone_offCores slot)).trans (s.refineKeyGone_keeps slot).2.2.2

theorem State.imageKeyGone_refine : ∀ x, (s.imageKeyGone slot).evoth.refine = some x → x.keySlot ≠ slot := by
  have h := congrArg (fun z : State => z.evoth.refine) (s.imageKeyGone_offCores slot)
  exact fun x hx => s.refineKeyGone_refine slot x (h.symm.trans hx)
end

/-! ### Images in pieces (R420) -/

section
variable {s v : State} {t : Nat} {path : Path} {raw : List Byte} {p : Piece} {x : Xfer} {b : List Byte}

section
variable (he : s.Executes t path raw 0x1302 v) (hc : (readCommand path raw).Carries p)
    (hx : v.salsol.tack.take 65536 p = some x)
include he hc hx

theorem exec_tackCommit_piece (hw : x.whole = none) : exec (.tackCommit t path) s =
    .next (({ v with salsol := { v.salsol with tack := x } } : State).answerOk (readCommand path raw) []).commandOver := by
  refine (awake_next he.1).trans (congrArg _ (he.command_ok ?_ rfl))
  rw [pieceOf_carries hc, hx]
  simp only [hw]

theorem exec_tackCommit_last (hw : x.whole = some b) (hb : tackStorable b = true) : exec (.tackCommit t path) s =
    .next (((({ v with salsol := { v.salsol with tack := {} }
                       nv := { v.nv with tack := b, tackWrite := some v.now, tackTorn := none } } : State).setFld
      P.TACK_STORED_VER.VERSION (natAt b 8 8)).answerOk (readCommand path raw) []).commandOver) := by
  refine (awake_next he.1).trans (congrArg _ (he.command_ok ?_ rfl))
  rw [pieceOf_carries hc, hx]
  simp only [hw, hb, if_true]
  rfl
end

section
variable (he : s.Executes t path raw 0x1303 v) (hc : (readCommand path raw).Carries p) (ht : v.nv.trial = none)
    (hx : v.salsol.fw.take 393216 p = some x)
include he hc ht hx

theorem exec_fwData_piece (hw : x.whole = none) (ho : p.off ≠ 0) : exec (.fwData t path) s =
    .next (({ v with salsol := { v.salsol with fw := x } } : State).answerOk (readCommand path raw) []).commandOver := by
  refine (awake_next he.1).trans (congrArg _ (he.command_ok ?_ rfl))
  rw [pieceOf_carries hc, hx, ht]
  simp only [hw, if_neg ho]
  rfl

theorem exec_fwData_first (hw : x.whole = none) (ho : p.off = 0) : exec (.fwData t path) s =
    .next (({ v.setOtherBank none with salsol := { v.salsol with fw := x } } : State).answerOk (readCommand path raw)
      []).commandOver := by
  rw [State.setOtherBank_eq]
  refine (awake_next he.1).trans (congrArg _ (he.command_ok ?_ rfl))
  rw [pieceOf_carries hc, hx, ht]
  simp only [hw, if_pos ho, State.setOtherBank_eq]
  rfl

theorem exec_fwData_last (hw : x.whole = some b) (ho : p.off ≠ 0) (hh : fwHeaderOk b = true)
    (hr : bitOf v.nv.revoked (natAt b 7 1 - 1) = false) (hv : FwVerified b) (hrb : v.nv.rollback ≤ natAt b 6 1) :
    exec (.fwData t path) s =
      .next ((({ v with salsol := { v.salsol with fw := {} } } : State).setOtherBank (some (fwBankOf b))).answerOk
        (readCommand path raw) []).commandOver := by
  refine (awake_next he.1).trans (congrArg _ (he.command_ok ?_ (by rw [State.setOtherBank_eq])))
  rw [pieceOf_carries hc, hx, ht]
  simp only [hw, if_neg ho]
  exact State.fwImage_verified (s := { v with salsol := { v.salsol with fw := {} } }) hh hr hv hrb
end

section
variable (he : s.Executes t path raw 0x8601 v) (hc : (readCommand path raw).Carries p)
    (hx : v.salsol.evoth.take 98304 p = some x)
include he hc hx

theorem exec_evothLoad_piece (hw : x.whole = none) : exec (.evothLoad t path) s =
    .next (({ v with salsol := { v.salsol with evoth := x } } : State).answerOk (readCommand path raw) []).commandOver := by
  refine (awake_next he.1).trans (congrArg _ (he.command_ok ?_ rfl))
  rw [pieceOf_carries hc, hx]
  simp only [hw]

section
variable {keys : List Byte × List Byte} (hw : x.whole = some b) (hh : evothHeaderOk b = true)
    (hk : Map.find? v.nv.imageKeys (natAt b 32 4) = some keys) (hv : EvothVerified keys b)
include hw hh hk hv

theorem exec_evothLoad_refine (h1 : natAt b 6 1 = 1) : exec (.evothLoad t path) s =
    .next (({ v with salsol := { v.salsol with evoth := {} }
                     evoth := { v.evoth with refine := some (evothImageOf b) } } : State).answerOk
      (readCommand path raw) []).commandOver := by
  refine (awake_next he.1).trans (congrArg _ (he.command_ok ?_ rfl))
  rw [pieceOf_carries hc, hx]
  simp only [hw]
  exact (State.evothImage_verified (s := { v with salsol := { v.salsol with evoth := {} } }) hh hk hv).trans (if_pos h1)

theorem exec_evothLoad_background (h2 : natAt b 6 1 = 2) : exec (.evothLoad t path) s =
    .next ((forEach (maskBits 16 (natAt b 20 2)) (fun q s => s.loadBg q (evothImageOf b))
      ({ v with salsol := { v.salsol with evoth := {} } } : State)).answerOk (readCommand path raw) []).commandOver := by
  have hctl := State.ctl_of_offCores (State.forEach_offCores (fun q u => u.loadBg_offCores q (evothImageOf b))
    (maskBits 16 (natAt b 20 2)) ({ v with salsol := { v.salsol with evoth := {} } } : State))
  refine (awake_next he.1).trans (congrArg _ (he.command_ok ?_ hctl))
  rw [pieceOf_carries hc, hx]
  simp only [hw]
  exact (State.evothImage_verified (s := { v with salsol := { v.salsol with evoth := {} } }) hh hk hv).trans
    (if_neg (by omega))
end
end

/-! ### Keys (R437 to R440) -/

/-- The slot that a KEY_ENROLL's body names takes the image key pair in it (R438). -/
def State.withImageKey (s : State) (b : List Byte) : State := { s with nv := { s.nv with
  imageKeys := Map.insert s.nv.imageKeys (natAt b 1 1) (bytesAt b 8 384, bytesAt b 392 48) } }

/-- The counter of a slot whose command key changes is 0 again, and no other parameter changes. -/
theorem State.keyChanged_fields (s : State) (slot : Nat) :
    (s.setFld (P.KEY_STATE.LAST_COUNTER.idx slot) 0).fld (P.KEY_STATE.LAST_COUNTER.idx slot) = 0 ∧
    (s.setFld (P.KEY_STATE.LAST_COUNTER.idx slot) 0).SameRegs s [K.KEY_STATE + slot] :=
  ⟨State.fld_setFld_self s (P.KEY_STATE.LAST_COUNTER.idx slot) 0 (Nat.zero_le 31) (by change 31 < 64; omega),
    fun _ hj => State.reg_setFld_ne s _ 0 fun e => hj (List.mem_singleton.mpr e)⟩

section
variable {slot : Nat} (he : s.Executes t path raw 0x9301 v) (hz : allZero (bytesAt (readCommand path raw).body 2 6) = true)
    (hs : natAt (readCommand path raw).body 1 1 < 4)
include he hz hs

theorem exec_keyEnroll_image (hl : (readCommand path raw).body.length = 440) (h0 : natAt (readCommand path raw).body 0 1 = 2)
    (ha : (readCommand path raw).auth = true) : exec (.keyEnroll t path) s =
    .next (((v.withImageKey (readCommand path raw).body).imageKeyGone (natAt (readCommand path raw).body 1 1)).answerOk
      (readCommand path raw) []).commandOver := by
  have hok : keySlotOk (readCommand path raw).body = true := by simp [keySlotOk, h0, hz]; omega
  refine (awake_next he.1).trans (congrArg _ (he.command_ok ?_ (State.imageKeyGone_ctl _ _)))
  simp only [h0, hok, hl, ha]
  rw [if_neg (by decide), if_neg (by decide), if_neg (by decide), if_neg (by simp)]
  rfl

theorem exec_keyEnroll_command {k : List Byte} (hl : (readCommand path raw).body.length = 1144)
    (h0 : natAt (readCommand path raw).body 0 1 = 1) (ha : (readCommand path raw).auth = true ∨ v.nv.cmdKeys = [])
    (hk : v.unwrapKey 1 (natAt (readCommand path raw).body 1 1) ((readCommand path raw).body.drop 8) = some k) :
    exec (.keyEnroll t path) s =
    .next ((({ v with nv := { v.nv with cmdKeys := Map.insert v.nv.cmdKeys (natAt (readCommand path raw).body 1 1) k } } :
      State).setFld (P.KEY_STATE.LAST_COUNTER.idx (natAt (readCommand path raw).body 1 1)) 0).answerOk
        (readCommand path raw) []).commandOver := by
  have hok : keySlotOk (readCommand path raw).body = true := by simp [keySlotOk, h0, hz]; omega
  have hauth : ¬((!(readCommand path raw).auth) = true ∧ (!decide (1 = 1 ∧ v.nv.cmdKeys.isEmpty = true)) = true) := by
    rcases ha with ha | ha <;> simp [ha]
  refine (awake_next he.1).trans (congrArg _ (he.command_ok ?_ rfl))
  simp only [h0, hok, hl, hk]
  rw [if_neg (by decide), if_neg (by decide), if_neg (by decide), if_neg (by simpa using hauth)]
  rfl
end

section
variable {kind slot : Nat} (he : s.Executes t path raw 0x9302 v) (ha : (readCommand path raw).auth = true)

/-- The body of a KEY_RETIRE, read back. -/
theorem retireBody_read (hk : kind = 1 ∨ kind = 2) (hs : slot < 4) :
    (leBytes 1 kind ++ leBytes 1 slot ++ leBytes 6 0).length = 8 ∧
    natAt (leBytes 1 kind ++ leBytes 1 slot ++ leBytes 6 0) 0 1 = kind ∧
    natAt (leBytes 1 kind ++ leBytes 1 slot ++ leBytes 6 0) 1 1 = slot ∧
    keySlotOk (leBytes 1 kind ++ leBytes 1 slot ++ leBytes 6 0) = true := by
  rcases hk with rfl | rfl <;> interval_cases slot <;> decide
include he ha

theorem exec_keyRetire_command (hb : (readCommand path raw).body = leBytes 1 1 ++ leBytes 1 slot ++ leBytes 6 0) (hs : slot < 4)
    (hk : (Map.find? v.nv.cmdKeys slot).isSome = true) (hl : v.nv.cmdKeys.length ≠ 1) : exec (.keyRetire t path) s =
    .next ((({ v with nv := { v.nv with cmdKeys := Map.erase v.nv.cmdKeys slot } } : State).setFld
      (P.KEY_STATE.LAST_COUNTER.idx slot) 0).answerOk (readCommand path raw) []).commandOver := by
  obtain ⟨hlen, h0, h1, hok⟩ := retireBody_read (kind := 1) (.inl rfl) hs
  rw [← hb] at hlen h0 h1 hok
  refine (awake_next he.1).trans (congrArg _ (he.command_ok ((bodyOf_ok hlen hok).trans ?_) rfl))
  simp only [h0, h1, ha]
  rw [if_neg (by decide), if_neg (by simpa [hl] using Option.isSome_iff_ne_none.mp hk)]

theorem exec_keyRetire_image (hb : (readCommand path raw).body = leBytes 1 2 ++ leBytes 1 slot ++ leBytes 6 0) (hs : slot < 4)
    (hk : (Map.find? v.nv.imageKeys slot).isSome = true) : exec (.keyRetire t path) s =
    .next ((({ v with nv := { v.nv with imageKeys := Map.erase v.nv.imageKeys slot } } : State).imageKeyGone slot).answerOk
      (readCommand path raw) []).commandOver := by
  obtain ⟨hlen, h0, h1, hok⟩ := retireBody_read (kind := 2) (.inr rfl) hs
  rw [← hb] at hlen h0 h1 hok
  refine (awake_next he.1).trans (congrArg _ (he.command_ok ((bodyOf_ok hlen hok).trans ?_)
    (State.imageKeyGone_ctl _ _)))
  simp only [h0, h1, ha]
  rw [if_neg (by decide), if_neg (by simpa using Option.isSome_iff_ne_none.mp hk)]

theorem exec_keyRetire_team (hb : (readCommand path raw).body = leBytes 8 3) (hk : v.nv.teamKey.isSome = true) :
    exec (.keyRetire t path) s =
      .next (({ v with nv := { v.nv with teamKey := none } } : State).answerOk (readCommand path raw) []).commandOver := by
  have hlen : (readCommand path raw).body.length = 8 := by rw [hb]; rfl
  have h0 : natAt (readCommand path raw).body 0 1 = 3 := by rw [hb]; rfl
  have hok : keySlotOk (readCommand path raw).body = true := by rw [hb]; rfl
  refine (awake_next he.1).trans (congrArg _ (he.command_ok ((bodyOf_ok hlen hok).trans ?_) rfl))
  simp only [h0, ha]
  rw [if_neg (by decide), if_neg (by simpa using Option.isSome_iff_ne_none.mp hk)]
end
end

end Sys2Proof.Machine
end

section
/-! PROOFS. What the statement on image commands (O53) turns on: whether a BACKGROUND image verifies, which rests on the constant
`Config.slhVerify`, of which the model gives no body (notes/assumptions 4). -/
namespace Sys2Proof.Machine

/-! ### Parameters under an answer -/

theorem State.fld_of_regs {u s : State} (h : u.regs = s.regs) (g : FieldRef) : u.fld g = s.fld g := by
  rw [State.fld, State.fld, State.reg, State.reg, h]

theorem State.showRun_fld (s : State) (x : Option (Path × Nat × Nat)) {g : FieldRef} (hg : g.key ≠ K.SALSOL_STATUS) :
    (s.showRun x).fld g = s.fld g := by
  have hset : ∀ f : FieldRef, f.key = K.SALSOL_STATUS → ∀ (u : State) (n : Nat), (u.setFld f n).fld g = u.fld g :=
    fun f hf u n => State.fld_setFld_key u f g n (hf ▸ hg)
  simp only [State.showRun]
  rw [hset _ rfl, hset _ rfl, hset _ rfl, hset _ rfl]

theorem State.msix_regs (s : State) (fn vec : Nat) : (s.msix fn vec).regs = s.regs := by
  simp only [State.msix, State.setMsix, apply_ite State.regs, State.emit_regs, ite_self]

theorem State.answerOk_fld (s : State) (c : Command) (data : List Byte) {g : FieldRef} (hg : g.key ≠ K.SALSOL_STATUS) :
    (s.answerOk c data).fld g = s.fld g := by
  unfold State.answerOk State.sendReply
  split
  · refine State.fld_of_regs ?_ g
    simp only [State.pushReply, apply_ite State.regs, State.liveWrap_regs, ite_self]
  · rw [State.fld_of_regs (State.msix_regs _ _ _), State.fld_setFld_key _ _ _ _ hg]
    exact State.fld_of_regs (by simp only [State.liveWrap_regs]) g

theorem State.commandOver_fld (s : State) {g : FieldRef} (hg : g.key ≠ K.SALSOL_STATUS) : s.commandOver.fld g = s.fld g := by
  rw [← s.showRun_fld none hg]
  refine State.fld_of_regs ?_ g
  unfold State.commandOver
  cases hr : (s.showRun none).salsol.heldReply <;> simp only [hr]

/-! ### A load waits for a running repeat (R158) -/

/-- Core 0 runs its background job, in a repeat, and BG_LOADED reads 0. -/
structure State.InRepeat (s : State) : Prop where
  level : s.level 0 = 2
  count : (s.core 0).bg.lc ≠ 0
  loaded : s.fld (P.CORE_STATUS.BG_LOADED.idx 0) = 0

theorem State.InRepeat.withCore {u : State} (h : u.InRepeat) (q : Nat) {f : EvothCore → EvothCore}
    (hf : q = 0 → ∀ c, (f c).bg = c.bg) : (u.withCore q f).InRepeat := by
  refine ⟨h.level, ?_, h.loaded⟩
  by_cases hq : q = 0
  · subst hq
    rw [State.core_withCore_self, hf rfl]
    exact h.count
  · rw [State.core_withCore_ne _ _ (Ne.symm hq)]
    exact h.count

/-- CORE_STATUS of another core is not read. -/
theorem State.InRepeat.setStatus {u : State} (h : u.InRepeat) {q : Nat} (hq : q ≠ 0) (hi lo n : Nat) :
    (u.setFld (FieldRef.idx ⟨K.CORE_STATUS, hi, lo⟩ q) n).InRepeat := by
  have hfld : ∀ g : FieldRef, g.key = K.CORE_STATUS → (u.setFld (FieldRef.idx ⟨K.CORE_STATUS, hi, lo⟩ q) n).fld g = u.fld g :=
    fun g hg => State.fld_setFld_key _ _ _ _ (by simp only [hg, FieldRef.idx]; omega)
  exact ⟨(hfld _ rfl).trans h.level, h.count, (hfld _ rfl).trans h.loaded⟩

theorem State.InRepeat.startBg {u : State} (h : u.InRepeat) {q : Nat} (hq : q ≠ 0) : (u.startBg q).InRepeat := by
  unfold State.startBg
  split
  · exact h
  · refine State.InRepeat.setStatus ?_ hq _ _ _
    split
    · exact (h.withCore q (absurd · hq)).setStatus hq _ _ _
    · exact h.withCore q (absurd · hq)

theorem State.InRepeat.loadBg {u : State} (h : u.InRepeat) (q : Nat) (y : EvothImage) : (u.loadBg q y).InRepeat := by
  have himg : ({ u with evoth := { u.evoth with bgImages := Map.insert u.evoth.bgImages q y } } : State).InRepeat :=
    ⟨h.level, h.count, h.loaded⟩
  unfold State.loadBg State.bgAsk
  by_cases hq : q = 0
  · subst hq
    rw [if_pos ⟨himg.level, himg.count⟩]
    exact himg.withCore 0 fun _ _ => rfl
  · split
    · exact himg.withCore q (absurd · hq)
    · exact (((himg.withCore q (absurd · hq)).setStatus hq _ _ _).setStatus hq _ _ _).startBg hq

theorem State.InRepeat.loadAll {u : State} (h : u.InRepeat) (l : List Nat) (y : EvothImage) :
    (forEach l (fun q s => s.loadBg q y) u).InRepeat := by
  induction l generalizing u with
  | nil => exact h
  | cons a l ih => exact ih (h.loadBg a y)

/-- O53 fails at a device that takes the last piece of a BACKGROUND image that verifies while core 0, for which it is, runs a repeat:
BG_LOADED stays 0 until the repeat's end (R158), where the statement says 1. -/
theorem not_imageCommands_of_inRepeat {s v : State} {t : Nat} {path : Path} {raw b : List Byte} {p : Piece} {x : Xfer}
    {keys : List Byte × List Byte} (he : s.Executes t path raw 0x8601 v) (hc : (readCommand path raw).Carries p)
    (hx : v.salsol.evoth.take 98304 p = some x) (hw : x.whole = some b) (hh : evothHeaderOk b = true)
    (hk : Map.find? v.nv.imageKeys (natAt b 32 4) = some keys) (hv : EvothVerified keys b) (h2 : natAt b 6 1 = 2)
    (h0 : bitOf (natAt b 20 2) 0 = true) (hr : v.InRepeat) : ¬ Obligations.ImageCommands := by
  rintro ⟨-, -, -, -, -, -, -, hload, -⟩
  obtain ⟨w, y, hu, -, -, -, -, hloaded, -⟩ := hload s v t 0 path raw b p x keys he hc hx hw hh h2 hk hv (by decide) h0
  have hstill := (State.InRepeat.loadAll (u := { v with salsol := { v.salsol with evoth := {} } }) ⟨hr.level, hr.count, hr.loaded⟩
    (maskBits 16 (natAt b 20 2)) (evothImageOf b)).loaded
  rw [exec_evothLoad_background he hc hx hw hh hk hv h2] at hu
  have heq := congrArg (fun z : State => z.fld (P.CORE_STATUS.BG_LOADED.idx 0)) (Host.Outcome.next.inj hu)
  have hkey : (P.CORE_STATUS.BG_LOADED.idx 0).key ≠ K.SALSOL_STATUS := by decide
  simp only [State.commandOver_fld _ hkey, State.answerOk_fld _ _ _ hkey, hloaded, hstill] at heq
  exact absurd heq (by decide)

/-! ### Without a BACKGROUND image that verifies -/

/-- O53 holds if no BACKGROUND image verifies: every clause but the one on these follows from its command's own lemma. -/
theorem imageCommands_of_unverified (hnone : ∀ keys b, natAt b 6 1 = 2 → ¬ EvothVerified keys b) : Obligations.ImageCommands := by
  refine ⟨fun s v t path raw p x he hc hx hw => exec_tackCommit_piece he hc hx hw,
    fun s v t path raw b p x he hc hx hw hb => ⟨_, exec_tackCommit_last he hc hx hw hb, rfl, ?_, rfl, rfl⟩,
    fun s v t path raw p x he hc ht hx hw ho => exec_fwData_piece he hc ht hx hw ho,
    fun s v t path raw p x he hc ht hx hw ho => ⟨_, exec_fwData_first he hc ht hx hw ho, rfl, ?_, ?_⟩,
    fun s v t path raw b p x he hc ht hx hw ho hh hr hv hrb =>
      ⟨_, _, exec_fwData_last he hc ht hx hw ho hh hr hv hrb, rfl, ?_, ?_, ?_⟩,
    fun s v t path raw p x he hc hx hw => exec_evothLoad_piece he hc hx hw,
    fun s v t path raw b p x keys he hc hx hw hh h1 hk hv =>
      ⟨_, evothImageOf b, exec_evothLoad_refine he hc hx hw hh hk hv h1, rfl, rfl, rfl, rfl, rfl, rfl⟩,
    fun s v t q path raw b p x keys _ _ _ _ _ h2 _ hv => absurd hv (hnone keys b h2),
    fun s v t slot path raw b he hb hl h0 h1 hs hz ha => ?_, fun s v t slot path raw b k he hb hl h0 h1 hs hz ha hk => ?_,
    fun s v t slot path raw he hs hb ha hk hl => ?_, fun s v t slot path raw he hs hb ha hk => ?_,
    fun s v t path raw he hb ha hk => exec_keyRetire_team he ha hb hk⟩
  · rw [State.fld_setFld_self _ _ _ (by decide) (by decide)]
    exact Nat.mod_eq_of_lt (natAt_lt b 8 8)
  · rw [State.setOtherBank_eq]
    rfl
  · rw [State.setOtherBank_eq]
  · rw [State.setOtherBank_eq]
    rfl
  · rw [State.setOtherBank_eq]
  · rw [State.setOtherBank_eq]
  · subst hb h1
    exact ⟨_, exec_keyEnroll_image he hz hs hl h0 ha, State.imageKeyGone_nv _ _, State.imageKeyGone_refine _ _,
      State.imageKeyGone_salsol _ _, State.imageKeyGone_sup _ _⟩
  · subst hb h1
    obtain ⟨hcounter, hregs⟩ := State.keyChanged_fields _ (natAt (readCommand path raw).body 1 1)
    exact ⟨_, exec_keyEnroll_command he hz hs hl h0 ha hk, rfl, hcounter, hregs, rfl⟩
  · obtain ⟨hcounter, hregs⟩ := State.keyChanged_fields _ slot
    exact ⟨_, exec_keyRetire_command he ha hb hs hk hl, rfl, hcounter, hregs, rfl⟩
  · exact ⟨_, exec_keyRetire_image he ha hb hs hk, State.imageKeyGone_nv _ _, State.imageKeyGone_refine _ _,
      State.imageKeyGone_salsol _ _, State.imageKeyGone_sup _ _⟩

end Sys2Proof.Machine
end

section
/-! PROOFS. The command rings (R402 to R406, R421, R482): what a fetch takes, what a reply and a notice give to channel 7, and what
RINGS_INIT leaves (O49). -/
namespace Sys2Proof.Machine

/-! ### Numbers in bytes (R8) -/

theorem leBytes_length (n v : Nat) : (leBytes n v).length = n := by
  induction n generalizing v with
  | zero => rfl
  | succ n ih => rw [leBytes, List.length_cons, ih]

/-- `n` bytes hold a number below 256 to the `n`. -/
theorem leNat_leBytes (n v : Nat) : leNat (leBytes n v) = v % 256 ^ n := by
  induction n generalizing v with
  | zero => rw [pow_zero, Nat.mod_one]; rfl
  | succ n ih =>
    have hlow : (BitVec.ofNat 8 v).toNat = v % 256 := BitVec.toNat_ofNat v 8
    rw [leBytes, leNat, ih, hlow, pow_succ', Nat.mod_mul]

/-- A number between other bytes reads as it was written. -/
theorem natAt_leBytes (a b : List Byte) {n v : Nat} (hv : v < 256 ^ n) : natAt (a ++ leBytes n v ++ b) a.length n = v := by
  rw [natAt, bytesAt, List.append_assoc, List.drop_left, List.take_left' (leBytes_length n v), leNat_leBytes, Nat.mod_eq_of_lt hv]

/-- The body of a RINGS_INIT, read back (Table 18.8). -/
theorem ringsBody_read {b : List Byte} {sq cq nt : Nat} (hb : b = leBytes 8 sq ++ leBytes 8 cq ++ leBytes 8 nt)
    (hsq : sq < 2 ^ 64) (hcq : cq < 2 ^ 64) (hnt : nt < 2 ^ 64) :
    b.length = 24 ∧ natAt b 0 8 = sq ∧ natAt b 8 8 = cq ∧ natAt b 16 8 = nt := by
  subst hb
  have h0 := natAt_leBytes [] (leBytes 8 cq ++ leBytes 8 nt) (n := 8) hsq
  have h8 := natAt_leBytes (leBytes 8 sq) (leBytes 8 nt) (n := 8) hcq
  have h16 := natAt_leBytes (leBytes 8 sq ++ leBytes 8 cq) [] (n := 8) hnt
  simp only [List.nil_append, List.append_nil, List.append_assoc, List.length_append, leBytes_length, List.length_nil, true_and] at h0 h8 h16 ⊢
  exact ⟨h0, h8, h16⟩

/-- Bytes of the length they are filled to. -/
theorem padTo_of_length {l : List Byte} {n : Nat} (h : l.length = n) : padTo n l = l := List.take_left' h

/-! ### COMMAND_FETCH (R402, R403) -/

/-- Out of power-on reset a meaning is what its own conditions make of it. -/
theorem awake_runs {s : State} {r : Result} (h : s.Awake) : (if s.ctl.por then (.next s : Result) else r) = r :=
  if_neg (by simp [h])

/-- Where the next entry of the submission ring stands. -/
def State.fetchVa (s : State) : Nat := s.fld P.SQ_CFG.BASE * 4096 + 64 * (s.fld P.SQ_POS.SQ_RD % s.sqEntries)

/-- The first entry of a command has been read, from the host address `pa`. -/
def State.entryRead (s : State) (pa : Nat) (b : List Byte) : State :=
  let u := s.emit (.fetch s.fetchVa pa 64)
  { u with host := { u.host with fetchPart := b } }

/-- The parameters count a command of one entry as fetched. -/
def State.fetchCounted (s : State) : State :=
  let u := s.setFld P.SQ_POS.SQ_RD (wrapAdd 32 (s.fld P.SQ_POS.SQ_RD) 1)
  u.setFld P.SALSOL_STATUS.OUTSTANDING (u.fld P.SALSOL_STATUS.OUTSTANDING + 1)

/-- A command of one entry is fetched whole. -/
def State.entryTaken (s : State) (b : List Byte) : State :=
  let u := s.fetchCounted
  { u with salsol := { u.salsol with fetched := u.salsol.fetched ++ [b] }, host := { u.host with fetchPart := [] } }

section
variable {s : State} {b : List Byte} (hb : b.length = 64)
include hb

theorem State.fetchStep_entryRead {pa : Nat} (hp : s.host.fetchPart = []) (ht : s.translate 6 s.fetchVa false = .ok pa) (n : Nat) :
    State.fetchStep b (n + 1) s = State.fetchStep b n (s.entryRead pa b) := by
  have hneed : s.fetchEntries (natAt [] 4 2) = 1 := if_pos (.inr (.inl (by decide)))
  have hread : [] ++ padTo 64 (bytesAt b 0 64) = b := by
    rw [List.nil_append, bytesAt, List.drop_zero, List.take_of_length_le hb.le, padTo_of_length hb]
  have hva : s.fld P.SQ_CFG.BASE * 4096 + 64 * ((s.fld P.SQ_POS.SQ_RD + 0 / 64) % s.sqEntries) = s.fetchVa := id rfl
  simp only [State.fetchStep, hp, hneed, List.length_nil, hva, ht, hread]
  rw [if_neg (by decide), if_neg fun h => absurd h.1 (by decide)]
  rfl

theorem State.fetchStep_entryTaken (hp : s.host.fetchPart = b) (hn : s.fetchEntries (natAt b 4 2) = 1) (bytes : List Byte) (n : Nat) :
    State.fetchStep bytes (n + 1) s = s.entryTaken b := by
  have hwhole : b.length = 64 * s.fetchEntries (natAt b 4 2) := by rw [hn, hb]
  rw [State.fetchStep, hp]
  refine (if_pos hwhole).trans ?_
  rw [hn]
  rfl

theorem exec_commandFetch {pa : Nat} (ha : s.Awake) (hen : s.bit P.SQ_CFG.EN = true) (hfree : s.chanFree 6 = true)
    (hout : s.fld P.SALSOL_STATUS.OUTSTANDING < 32) (hpost : s.sqPosted ≠ 0) (hrec : s.inRecovery = false)
    (hres : s.ctl.restart = none) (hp : s.host.fetchPart = []) (hn : s.fetchEntries (natAt b 4 2) = 1)
    (ht : s.translate 6 s.fetchVa false = .ok pa) (t : Nat) :
    exec (.commandFetch t b) s = .next (((s.at_ t).entryRead pa b).entryTaken b) := by
  have hgo : ¬((!s.bit P.SQ_CFG.EN) = true ∨ (!s.chanFree 6) = true ∨ 32 ≤ s.fld P.SALSOL_STATUS.OUTSTANDING ∨ s.sqPosted = 0 ∨
      s.inRecovery = true ∨ s.ctl.restart.isSome = true) := by
    simp [hen, hfree, hpost, hrec, hres, hout]
  refine (awake_runs ha).trans ((if_neg hgo).trans (congrArg _ ?_))
  exact (State.fetchStep_entryRead (s := s.at_ t) hb hp ht 65).trans
    (State.fetchStep_entryTaken (s := (s.at_ t).entryRead pa b) hb rfl hn b 64)
end

theorem State.fetchCounted_onlyRegs (s : State) : s.fetchCounted.OnlyRegs s [K.SQ_POS, K.SALSOL_STATUS] :=
  ((State.OnlyRegs.refl s _).setFld _ (by decide)).setFld _ (by decide)

theorem State.entryTaken_sameRegs (s : State) (b : List Byte) : (s.entryTaken b).SameRegs s [K.SQ_POS, K.SALSOL_STATUS] :=
  s.fetchCounted_onlyRegs.regs

theorem State.entryTaken_fld (s : State) (b : List Byte) (g : FieldRef) : (s.entryTaken b).fld g = s.fetchCounted.fld g :=
  State.fld_of_regs rfl g

theorem State.entryTaken_sqRd (s : State) (b : List Byte) :
    (s.entryTaken b).fld P.SQ_POS.SQ_RD = wrapAdd 32 (s.fld P.SQ_POS.SQ_RD) 1 := by
  rw [State.entryTaken_fld, State.fetchCounted, State.fld_setFld_key _ P.SALSOL_STATUS.OUTSTANDING P.SQ_POS.SQ_RD _ (by decide),
    State.fld_setFld_self _ _ _ (by decide) (by decide)]
  exact Nat.mod_mod _ _

theorem State.entryTaken_outstanding {s : State} (h : s.fld P.SALSOL_STATUS.OUTSTANDING < 32) (b : List Byte) :
    (s.entryTaken b).fld P.SALSOL_STATUS.OUTSTANDING = s.fld P.SALSOL_STATUS.OUTSTANDING + 1 := by
  have hw : P.SALSOL_STATUS.OUTSTANDING.width = 6 := rfl
  rw [State.entryTaken_fld, State.fetchCounted, State.fld_setFld_self _ _ _ (by decide) (by decide),
    State.fld_setFld_key _ P.SQ_POS.SQ_RD P.SALSOL_STATUS.OUTSTANDING _ (by decide), hw]
  omega

/-! ### REPLY_WRITE and NOTICE_WRITE (R180, R405, R406, R482) -/

theorem exec_replyWrite {s : State} {r : Reply} {l : List Reply} (ha : s.Awake) (hr : s.salsol.replies = r :: l)
    (hen : s.bit P.CQ_CFG.EN = true) (hroom : s.cqUsed + s.cqQueued + entriesOf r.bytes.length ≤ 2 ^ s.fld P.CQ_CFG.LOG2_ENTRIES)
    (t : Nat) : exec (.replyWrite t) s = .next (({ s.at_ t with salsol := { s.salsol with replies := l } } : State).dmaPush 7
      { payload := padTo (64 * entriesOf r.bytes.length) r.bytes, done := .reply (entriesOf r.bytes.length) (!r.quiet) }) := by
  have hgo : ¬((!s.bit P.CQ_CFG.EN) = true ∨
      2 ^ s.fld P.CQ_CFG.LOG2_ENTRIES < s.cqUsed + s.cqQueued + entriesOf r.bytes.length) := by
    simp [hen, hroom]
  refine (awake_runs ha).trans ?_
  simp only [hr, if_neg hgo]
  rfl

/-- No record is formed of lost notices where there are none (R483). -/
theorem State.flushHeld_of_none {s : State} (h : s.recs.held = 0) : s.flushHeld = s := if_pos (.inl h)

theorem exec_noticeWrite {s : State} {r : Record} {l : List Record} (ha : s.Awake) (hq : s.recs.queue = r :: l)
    (hon : s.ringOn 7 = true) (hroom : 32 ≤ s.ringFree 7) (hfree : s.chanFree 7 = true)
    (hall : (s.chan 7).items.all (fun i => !i.started && i.isReply) = true) (hheld : s.recs.held = 0) (t : Nat) :
    exec (.noticeWrite t) s = .next ((({ s.at_ t with recs := { s.recs with queue := l } } : State).seqFixed.setChan 7
      { s.chan 7 with items := { payload := r.bytes, done := .notice } :: (s.chan 7).items }).pump 7) := by
  have hany : (s.chan 7).items.any (fun i => i.started || !i.isReply) = false := by
    rw [List.any_eq_not_all_not]
    simpa using hall
  have hgo : ¬((!s.ringOn 7) = true ∨ s.ringFree 7 < 32 ∨ (!s.chanFree 7) = true ∨
      (s.chan 7).items.any (fun i => i.started || !i.isReply) = true) := by
    simp only [hon, hfree, hany]
    simpa using hroom
  have hflush := State.flushHeld_of_none (s := ({ s.at_ t with recs := { s.recs with queue := l } } : State).seqFixed) hheld
  refine (awake_runs ha).trans ?_
  simp only [hq, if_neg hgo]
  exact congrArg (fun u : State => Host.Outcome.next ((u.setChan 7 { s.chan 7 with
    items := { payload := r.bytes, done := .notice } :: (s.chan 7).items }).pump 7)) hflush

/-! ### NOP and IDENTIFY -/

/-- Which command row asks does not matter beyond whether the packet is its own. -/
theorem State.command_congr {s : State} {path : Path} {raw : List Byte} {mine mine' : Command → Bool}
    (hn : s.nextPacket path = some raw) (h : mine (readCommand path raw) = mine' (readCommand path raw)) (t : Nat)
    (run : Command → State → Outcome) : s.command t path mine run = s.command t path mine' run := by
  simp only [State.command, hn, h]

/-- An empty body reaches the command (check 7). -/
theorem noBody_ok {c : Command} {k : Outcome} (h : c.body = []) : noBody c k = k := if_pos (by rw [h]; rfl)

section
variable {s v : State} {t : Nat} {path : Path} {raw : List Byte}

theorem exec_nop (he : s.Executes t path raw 1 v) (hb : (readCommand path raw).body = []) :
    exec (.nop t path) s = .next (v.answerOk (readCommand path raw) []).commandOver := by
  obtain ⟨ha, -, -, hn, hop, -⟩ := id he
  have hmine : ((readCommand path raw).opcode == 1 || !opcodes.contains (readCommand path raw).opcode) =
      isOp 1 (readCommand path raw) := by
    rw [isOp, hop]
    rfl
  exact (awake_next ha).trans (congrArg _ ((State.command_congr hn hmine t _).trans (he.command_ok (noBody_ok hb) rfl)))

theorem exec_identify (he : s.Executes t path raw 2 v) (hb : (readCommand path raw).body = []) :
    exec (.identify t path) s = .next (v.answerOk (readCommand path raw)
      (leBytes 8 v.devId ++ leBytes 8 (v.reg K.BOOT_ID).toNat ++ leBytes 8 (v.reg K.FW_VERSION).toNat ++
        leBytes 8 (v.fld P.TACK_LOADED_VER.VERSION) ++ leBytes 2 (v.fld P.ID_INFO.STEP) ++ leBytes 1 (slotBits 4 v.nv.cmdKeys) ++
        leBytes 1 (v.fld P.TACK_STATUS.TACK_DEFAULTED) ++ leBytes 4 0)).commandOver :=
  (awake_next he.1).trans (congrArg _ (he.command_ok (noBody_ok hb) rfl))
end

/-! ### What RINGS_INIT discards (R421) -/

theorem Map.get_erase_self {α : Type} (d : α) (m : SMap α) (n : Nat) : Map.get d (Map.erase m n) n = d := by
  rw [Map.get, Map.find?_erase_self]
  rfl

theorem Map.get_erase_ne {α : Type} (d : α) (m : SMap α) {n j : Nat} (h : j ≠ n) :
    Map.get d (Map.erase m n) j = Map.get d m j := by
  rw [Map.get, Map.find?_erase_ne m h, Map.get]

theorem State.chan_setChan_ne (s : State) {c j : Nat} (d : DmaChan) (h : j ≠ c) : (s.setChan c d).chan j = s.chan j :=
  Map.get_set_ne _ _ _ h

theorem State.chan_of_host {u s : State} (h : u.host = s.host) (c : Nat) : u.chan c = s.chan c := by
  rw [State.chan, h, State.chan]

theorem State.record_host (s : State) (kind cls : Nat) (log notice : Bool) (data : List Byte) :
    (s.record kind cls log notice data).host = s.host := of_frame (s.record_unlogged kind cls log notice data) State.host

theorem State.setFlag_host (s : State) (f : FieldRef) : (s.setFlag f).host = s.host := of_frame (s.setFlag_unlogged f) State.host

theorem State.flushHeld_host (s : State) : s.flushHeld.host = s.host := by
  simp only [State.flushHeld, apply_ite State.host, State.record_host, State.addWrap_host, ite_self]

theorem State.dropNotices_host (s : State) : s.dropNotices.host = s.host := State.flushHeld_host _

theorem State.columnLost_host (s : State) (r frame column : Nat) (stales : Bool) :
    (s.columnLost r frame column stales).host = s.host := by
  simp only [State.columnLost, apply_ite State.host, State.record_host, State.setFlag_host, State.liveWrap_host, ite_self]

/-- The items that take over what a discarded one carried are as many as before. -/
theorem passOn_length (hdrs : List (List Byte)) (lost : Nat) (l : List DmaItem) : (passOn hdrs lost l).1.length = l.length := by
  induction l generalizing hdrs with
  | nil => rfl
  | cons i l ih =>
    simp only [passOn]
    split
    · exact congrArg (· + 1) (ih [])
    · rfl

/-- A discarded column hands on what it carried to items that wait; it takes none of any channel away (Table 17.8). -/
theorem State.discardColumn_items_length (s : State) (r frame : Nat) (i : DmaItem) (c : Nat) :
    ((s.discardColumn r frame i).chan c).items.length = (s.chan c).items.length := by
  have hlost : ∀ u : State, u = (if i.colIndex = 0xFFFF then s else s.columnLost r frame i.colIndex i.stales) →
      u.host = s.host := fun u hu => by
    rw [hu, apply_ite State.host, State.columnLost_host, ite_self]
  unfold State.discardColumn
  extract_lets old u d p g
  have hu := State.chan_of_host (hlost u rfl)
  change ((u.setChan r { d with items := p.1 }).chan c).items.length = _
  by_cases hc : c = r
  · subst hc
    rw [State.chan_setChan_self, ← hu c]
    exact passOn_length _ _ _
  · rw [State.chan_setChan_ne _ _ hc, hu c]

/-- An idle channel holds no items. -/
theorem State.chanIdle_items (s : State) (c : Nat) : ((s.chanIdle c).chan c).items = [] := by
  refine List.length_eq_zero_iff.mp ?_
  unfold State.chanIdle
  refine (forEach_keeps (fun u : State => (u.chan c).items.length) _ _ _ fun i u => ?_).trans ?_
  · have hsame : ∀ w : State, w.host = u.host → (w.chan c).items.length = (u.chan c).items.length := fun w hw => by
      rw [State.chan_of_host hw]
    cases i.done with
    | column r f n => exact u.discardColumn_items_length r f i c
    | columnLine r n f => exact u.discardColumn_items_length r f i c
    | dumpRecord ch buf n => cases u.hist.dump <;> exact hsame _ rfl
    | capture n x => exact hsame _ (u.addWrap_host _ _)
    | reply n x => exact hsame _ rfl
    | notice => exact hsame _ rfl
    | none => exact hsame _ rfl
  · change (Map.get ({} : DmaChan) (Map.erase s.host.chans c) c).items.length = 0
    rw [Map.get_erase_self]
    rfl

theorem State.discardColumn_offStream (s : State) (r frame : Nat) (i : DmaItem) :
    (s.discardColumn r frame i).offStream = s.offStream := by
  simp only [State.discardColumn, State.offStream_mk, State.setChan_offStream, apply_ite State.offStream,
    State.columnLost_offStream, ite_self]

theorem State.chanIdle_offStream (s : State) (c : Nat) : (s.chanIdle c).offStream = s.offStream := by
  unfold State.chanIdle
  refine (forEach_keeps State.offStream _ _ _ fun i u => ?_).trans (s.offStream_mk ..)
  cases i.done with
  | column r f n => exact u.discardColumn_offStream r f i
  | columnLine r n f => exact u.discardColumn_offStream r f i
  | dumpRecord ch buf n => cases u.hist.dump <;> simp only [State.offStream_mk]
  | capture n x => exact u.addWrap_offStream _ _
  | reply n x => rfl
  | notice => rfl
  | none => rfl

theorem State.dropNotices_offStream (s : State) : s.dropNotices.offStream = s.offStream := by
  simp only [State.dropNotices, State.flushHeld, apply_ite State.offStream, State.record_offStream, State.addWrap_offStream,
    State.offStream_mk, ite_self]

/-- What waited on the command rings is gone, before their parameters are written (R421, steps 2 to 5). -/
def State.ringsDropped (s : State) : State :=
  let u := { s with salsol := { s.salsol with fetched := [], replies := [], heldReply := none } }.chanIdle 7
  let u := { u with host := { u.host with chans := Map.erase u.host.chans 6, fetchPart := [] } }
  ((u.setStalled 6 false).setStalled 7 false).dropNotices

/-- The parameters of the command rings as RINGS_INIT writes them (R421, steps 6 and 7). -/
def State.ringsSet (s : State) (sq cq nt : Nat) : State :=
  (((((s.setReg K.SQ_CFG (BitVec.ofNat 64 sq)).setReg K.CQ_CFG (BitVec.ofNat 64 cq)).setReg K.CQ_NOTIFY
    (BitVec.ofNat 64 nt)).setReg K.SQ_POS 0).setReg K.CQ_POS 0).setFld P.SALSOL_STATUS.OUTSTANDING 0

theorem State.ringsInit_eq (s : State) (sq cq nt : Nat) : s.ringsInit sq cq nt = s.ringsDropped.ringsSet sq cq nt := id rfl

theorem State.ringsDropped_offStream (s : State) : s.ringsDropped.offStream =
    ({ s with salsol := { s.salsol with fetched := [], replies := [], heldReply := none } } : State).offStream := by
  simp only [State.ringsDropped, State.setStalled, State.dropNotices_offStream, State.setFld_offStream, State.offStream_mk,
    State.chanIdle_offStream]

theorem State.ringsDropped_items (s : State) : (s.ringsDropped.chan 7).items = [] := by
  have hidle := State.chanIdle_items { s with salsol := { s.salsol with fetched := [], replies := [], heldReply := none } } 7
  rw [State.ringsDropped, State.chan_of_host (State.dropNotices_host _)]
  refine Eq.trans (congrArg DmaChan.items ?_) hidle
  exact Map.get_erase_ne _ _ (by decide)

theorem State.ringsSet_host (s : State) (sq cq nt : Nat) : (s.ringsSet sq cq nt).host = s.host := by
  simp only [State.ringsSet, State.setFld_host, State.setReg_host]

theorem State.ringsSet_regs (s : State) (sq cq nt : Nat) :
    (s.ringsSet sq cq nt).reg K.SQ_CFG = BitVec.ofNat 64 sq ∧ (s.ringsSet sq cq nt).reg K.CQ_CFG = BitVec.ofNat 64 cq ∧
    (s.ringsSet sq cq nt).reg K.CQ_NOTIFY = BitVec.ofNat 64 nt ∧ (s.ringsSet sq cq nt).reg K.SQ_POS = 0 ∧
    (s.ringsSet sq cq nt).reg K.CQ_POS = 0 ∧ (s.ringsSet sq cq nt).fld P.SALSOL_STATUS.OUTSTANDING = 0 := by
  refine ⟨?_, ?_, ?_, ?_, ?_, State.fld_setFld_self _ _ _ (by decide) (by decide)⟩ <;>
    simp (disch := decide) only [State.ringsSet, State.reg_setFld_ne, State.reg_setReg_ne, State.reg_setReg_self]

/-- Channel 7 holds nothing after a RINGS_INIT, whose parameters are no part of it. -/
theorem State.ringsInit_items (s : State) (sq cq nt : Nat) : ((s.ringsInit sq cq nt).chan 7).items = [] := by
  rw [State.ringsInit_eq, State.chan_of_host (s.ringsDropped.ringsSet_host sq cq nt), State.ringsDropped_items]

theorem State.ringsSet_offStream (s : State) (sq cq nt : Nat) : (s.ringsSet sq cq nt).offStream = s.offStream := by
  simp only [State.ringsSet, State.setReg, State.setFld_offStream, State.offStream_mk]

/-- What RINGS_INIT leaves of the device outside its parameters and the DMA channels (R421). -/
theorem State.ringsInit_offStream (s : State) (sq cq nt : Nat) : (s.ringsInit sq cq nt).offStream =
    ({ s with salsol := { s.salsol with fetched := [], replies := [], heldReply := none } } : State).offStream :=
  (s.ringsDropped.ringsSet_offStream sq cq nt).trans s.ringsDropped_offStream

/-! ### RINGS_INIT -/

theorem State.checkHead_unlogged (s : State) (c : Command) (raw : List Byte) : (s.checkHead c raw).2.unlogged = s.unlogged := by
  cases hk : Map.find? s.nv.cmdKeys c.slot <;>
    simp only [State.checkHead, hk, apply_ite Prod.snd, apply_ite State.unlogged, State.setFld_unlogged, ite_self]

theorem State.showRun_unlogged (s : State) (x : Option (Path × Nat × Nat)) : (s.showRun x).unlogged = s.unlogged := by
  simp only [State.showRun, State.setFld_unlogged]

section
variable {s v : State} {t : Nat} {path : Path} {raw : List Byte}

/-- A command that has passed the head checks has changed no more than its path, the status and the counter of its key. -/
theorem State.Executes.unlogged {op : Nat} (he : s.Executes t path raw op v) : v.unlogged = ((s.at_ t).takePacket path).unlogged := by
  obtain ⟨-, -, -, -, -, hcheck⟩ := he
  have h := State.checkHead_unlogged (s.taken t path raw) (readCommand path raw) raw
  rwa [hcheck, State.taken, State.showRun_unlogged] at h

theorem State.Executes.device {op : Nat} (he : s.Executes t path raw op v) :
    v.scan = s.scan ∧ v.mirror = s.mirror ∧ v.sup = s.sup ∧ v.nv = s.nv := by
  have h := he.unlogged
  refine ⟨(of_frame h State.scan).trans ?_, (of_frame h State.mirror).trans ?_, (of_frame h State.sup).trans ?_,
    (of_frame h State.nv).trans ?_⟩ <;> cases path <;> rfl

theorem exec_ringsInit {sq cq nt : Nat} (he : s.Executes t path raw 4 v)
    (hb : (readCommand path raw).body = leBytes 8 sq ++ leBytes 8 cq ++ leBytes 8 nt)
    (hsq : sq < 2 ^ 64) (hcq : cq < 2 ^ 64) (hnt : nt < 2 ^ 64) (hres : ringsReservedOk sq cq nt = true)
    (hs4 : 4 ≤ bitsOf sq 3 0) (hs10 : bitsOf sq 3 0 ≤ 10) (hc6 : 6 ≤ bitsOf cq 3 0) (hc12 : bitsOf cq 3 0 ≤ 12) :
    exec (.ringsInit t path) s = .next ((v.ringsInit sq cq nt).answerOk (readCommand path raw)
      (leBytes 4 v.salsol.fetched.length ++
        leBytes 4 (v.salsol.replies.length + v.salsol.heldReply.toList.length + v.repliesInFlight))).commandOver := by
  obtain ⟨hlen, h0, h8, h16⟩ := ringsBody_read hb hsq hcq hnt
  have hctl : (v.ringsInit sq cq nt).ctl = v.ctl := of_frame (v.ringsInit_offStream sq cq nt) State.ctl
  refine (awake_next he.1).trans (congrArg _ (he.command_ok ?_ hctl))
  simp only [h0, h8, h16]
  rw [bodyOf_ok hlen hres, if_neg (by omega)]
end

/-! ### The statement -/

/-- Settles O49: each command has its own lemma above; what is left is what the state after it holds. -/
theorem commandRings : Obligations.CommandRings := by
  refine ⟨fun s t pa b ha hen hfree hout hpost hrec hres hp hb hn ht =>
      ⟨_, exec_commandFetch hb ha hen hfree hout hpost hrec hres hp hn ht t, rfl, rfl, State.entryTaken_sqRd _ b,
        State.entryTaken_outstanding hout b, rfl, State.entryTaken_sameRegs _ b, rfl⟩,
    fun s t r l ha hr hen hroom => exec_replyWrite ha hr hen hroom t,
    fun s t r l ha hq hon hroom hfree hall hheld => exec_noticeWrite ha hq hon hroom hfree hall hheld t,
    fun s v t path raw he hb => exec_nop he hb, fun s v t path raw he hb => exec_identify he hb,
    fun s v t path raw sq cq nt he hb hsq hcq hnt hres hs4 hs10 hc6 hc12 => ?_⟩
  have hoff := v.ringsInit_offStream sq cq nt
  have hsalsol := of_frame hoff State.salsol
  have hregs := v.ringsDropped.ringsSet_regs sq cq nt
  rw [← State.ringsInit_eq] at hregs
  obtain ⟨hSqCfg, hCqCfg, hNotify, hSqPos, hCqPos, hOut⟩ := hregs
  obtain ⟨hscan, hmirror, hsup, hnv⟩ := he.device
  exact ⟨_, _, exec_ringsInit he hb hsq hcq hnt hres hs4 hs10 hc6 hc12, hSqCfg, hCqCfg, hNotify, hSqPos, hCqPos, hOut,
    congrArg (·.fetched) hsalsol, congrArg (·.replies) hsalsol, v.ringsInit_items sq cq nt, rfl, congrArg (·.heldReply) hsalsol,
    (of_frame hoff State.scan).trans hscan, (of_frame hoff State.mirror).trans hmirror, (of_frame hoff State.sup).trans hsup,
    (of_frame hoff State.nv).trans hnv⟩

end Sys2Proof.Machine
end

section
/-! PROOFS. The event recorder (R193 to R204): O22. -/
namespace Sys2Proof.Machine

/-! ### What the recorder's work touches -/

/-- `u` is `s` but for the parameters listed and the recorder. -/
structure State.OnlyRecorder (u s : State) (keys : List Nat) : Prop where
  regs : u.SameRegs s keys
  rest : { u with regs := s.regs, recorder := s.recorder } = s

theorem State.OnlyRecorder.refl (s : State) (keys : List Nat) : s.OnlyRecorder s keys := ⟨fun _ _ => rfl, rfl⟩

theorem State.OnlyRecorder.mono {u s : State} {keys keys' : List Nat} (h : u.OnlyRecorder s keys) (hk : keys ⊆ keys') :
    u.OnlyRecorder s keys' := ⟨fun k hn => h.regs k fun hm => hn (hk hm), h.rest⟩

theorem State.OnlyRecorder.trans {u v s : State} {keys : List Nat} (h : u.OnlyRecorder v keys) (h' : v.OnlyRecorder s keys) :
    u.OnlyRecorder s keys := by
  refine ⟨fun k hk => (h.regs k hk).trans (h'.regs k hk), Eq.trans ?_ h'.rest⟩
  exact congrArg (fun x : State => { x with regs := s.regs, recorder := s.recorder }) h.rest

theorem State.OnlyRegs.toRecorder {u s : State} {keys : List Nat} (h : u.OnlyRegs s keys) : u.OnlyRecorder s keys := by
  refine ⟨h.regs, ?_⟩
  exact congrArg (fun x : State => { x with recorder := s.recorder }) h.rest

theorem State.OnlyRecorder.setFld {u s : State} {keys : List Nat} (h : u.OnlyRecorder s keys) {f : FieldRef} (v : Nat)
    (hk : f.key ∈ keys) : (u.setFld f v).OnlyRecorder s keys :=
  ((State.OnlyRegs.refl u keys).setFld v hk).toRecorder.trans h

theorem State.OnlyRecorder.withRec {u s : State} {keys : List Nat} (h : u.OnlyRecorder s keys) (f : Recorder → Recorder) :
    (u.withRec f).OnlyRecorder s keys := ⟨h.regs, h.rest⟩

/-- What reads neither the parameters nor the recorder is the same. -/
theorem State.OnlyRecorder.proj {α : Type} {u s : State} {keys : List Nat} (h : u.OnlyRecorder s keys) (g : State → α)
    (hg : g { u with regs := s.regs, recorder := s.recorder } = g u) : g u = g s := hg.symm.trans (congrArg g h.rest)

/-- A field of another parameter is the same. -/
theorem State.OnlyRecorder.fld {u s : State} {keys : List Nat} (h : u.OnlyRecorder s keys) {f : FieldRef} (hf : f.key ∉ keys) :
    u.fld f = s.fld f := congrArg (wordFld · f) (h.regs _ hf)

/-- The levels of the slots and what the pattern and the terms make of them read none of REC_CTRL (R193, Table 8.5). -/
theorem State.OnlyRegs.recorderReads {u s : State} (h : u.OnlyRegs s [K.REC_CTRL]) :
    u.recEnabled = s.recEnabled ∧ u.slotState = s.slotState ∧ u.patOf = s.patOf ∧ u.recTerms = s.recTerms := by
  have hfld : ∀ f : FieldRef, K.REC_CTRL < f.key → u.fld f = s.fld f := fun f hf =>
    congrArg (wordFld · f) (h.regs _ (by simp; omega))
  have hsel : ∀ k, u.fld ((P.REC_SEL.SEL.idx (k / 4)).sub (k % 4) 16) = s.fld ((P.REC_SEL.SEL.idx (k / 4)).sub (k % 4) 16) :=
    fun k => hfld _ (Nat.lt_add_right _ (by decide))
  have hen : ∀ k, u.bit ((P.REC_SEL.EN.idx (k / 4)).sub (k % 4) 16) = s.bit ((P.REC_SEL.EN.idx (k / 4)).sub (k % 4) 16) :=
    fun k => congrArg (· == 1) (hfld _ (Nat.lt_add_right _ (by decide)))
  have hkind : ∀ i, u.fld (P.REC_TERM.KIND.idx i) = s.fld (P.REC_TERM.KIND.idx i) := fun i =>
    hfld _ (Nat.lt_add_right _ (by decide))
  have hslot : ∀ i, u.fld (P.REC_TERM.SLOT.idx i) = s.fld (P.REC_TERM.SLOT.idx i) := fun i =>
    hfld _ (Nat.lt_add_right _ (by decide))
  have hsource : u.sourceLevel = s.sourceLevel := by
    funext sel t
    simp only [State.sourceLevel, hfld P.SAFETY_STATUS.OUT_ON (by decide), h.proj State.emit_ rfl, h.proj State.sup rfl]
  have hpat : u.patOf = s.patOf := by
    funext x
    simp only [State.patOf, hfld P.REC_PATTERN.PAT_MASK (by decide), hfld P.REC_PATTERN.PAT_VALUE (by decide)]
  refine ⟨?_, ?_, hpat, ?_⟩
  · simp only [State.recEnabled, hen]
  · funext given t
    simp only [State.slotState, hen, hsel, hsource]
  · funext old new pulsed pat
    simp only [State.recTerms, hkind, hslot, hpat]

/-! ### Operations of the recorder -/

/-- A field that wraps, after an addition to it. -/
theorem State.fld_addWrap_self (s : State) (f : FieldRef) (n : Nat) (h : f.lo ≤ f.hi) (h64 : f.hi < 64) :
    (s.addWrap f n).fld f = wrapAdd f.width (s.fld f) n := by
  rw [State.addWrap, State.fld_setFld_self _ _ _ h h64, wrapAdd, Nat.mod_mod]

theorem State.recSt_setRecSt (s : State) {v : Nat} (hv : v < 4) : (s.setRecSt v).recSt = v :=
  (State.fld_setFld_self s _ _ (by decide) (by decide)).trans (Nat.mod_eq_of_lt hv)

theorem State.recSt_withRec (s : State) (f : Recorder → Recorder) : (s.withRec f).recSt = s.recSt := id rfl

theorem State.setRecSt_onlyRecorder (s : State) (v : Nat) : (s.setRecSt v).OnlyRecorder s [K.REC_STATUS] :=
  (State.OnlyRecorder.refl s _).setFld v (by decide)

/-- COUNT and HEAD_VALID stand beside STATE. -/
theorem State.recSt_recShow (s : State) : s.recShow.recSt = s.recSt := by
  simp (disch := decide) only [State.recSt, State.recShow, State.fld_setFld_ne]

/-- COUNT shows how many words the FIFO has (R201). -/
theorem State.count_recShow (s : State) :
    s.recShow.fld P.REC_STATUS.COUNT = s.recorder.fifo.length % 2 ^ P.REC_STATUS.COUNT.width := by
  simp (disch := decide) only [State.recShow, State.fld_setFld_ne, State.fld_setFld_self]

theorem State.recArm_onlyRecorder (s : State) (e : Nat) : (s.recArm e).OnlyRecorder s [K.REC_STATUS] :=
  (((State.OnlyRecorder.refl s _).withRec _).withRec _).setFld _ (by decide)

theorem State.recArm_recorder (s : State) (e : Nat) : (s.recArm e).recorder = { s.recorder with
    pre := [⟨s.slotState s.recorder.levels e, 0, e⟩], post := [], tick := none,
    patPrev := s.patOf (s.slotState s.recorder.levels e),
    levels := (s.recorder.levels % 2 ^ 32 &&& (2 ^ 32 - 1 - s.recEnabled)) ||| s.slotState s.recorder.levels e } := id rfl

/-- A trigger tick that is the one in hand acts in it, and not before (R196). -/
theorem State.recTo_of_due_now {s : State} {t m : Nat} (hst : s.recSt ≠ 3) (hd : s.recorder.due = [(t, m)]) :
    s.recTo t t = s := by
  simp [State.recTo, hd, State.recDue, State.recFlow, hst]

/-- The end of a capture in POST (R198, R200). -/
theorem State.recEnd_of_post {s : State} (hst : s.recSt = 2) (e : Nat) (aborted timeEnd : Bool) :
    (s.recEnd e aborted timeEnd).recSt = 3 ∧
    (s.recEnd e aborted timeEnd).recorder = { s.recorder with ends := some (aborted, timeEnd), unloadFrom := e, unload := [] } ∧
    (s.recEnd e aborted timeEnd).fld P.REC_COUNTS.CAPTURES =
      wrapAdd P.REC_COUNTS.CAPTURES.width (s.fld P.REC_COUNTS.CAPTURES) 1 ∧
    (s.recEnd e aborted timeEnd).OnlyRecorder s [K.REC_STATUS, K.REC_COUNTS] := by
  rw [State.recEnd, if_pos hst]
  refine ⟨State.recSt_setRecSt _ (by decide), rfl, ?_, ?_⟩
  · rw [State.setRecSt, State.fld_setFld_key _ _ _ _ (by decide), State.fld_addWrap_self _ _ _ (by decide) (by decide)]
    rfl
  · exact (((State.OnlyRecorder.refl s _).withRec _).setFld _ (by decide)).setFld _ (by decide)

/-- The recorder in POST from a trigger by the sources `terms`, whose record `e` is the first of POST (R195, R196). -/
def State.recPostBegun (s : State) (terms : Nat) (e : RecEntry) : State :=
  ((s.withRec fun r => { r with
    pre := lastN (s.fld P.REC_DEPTH.PRE_DEPTH) r.pre, trigTime := e.time, trigTerms := terms, retrig := 0,
    short := decide (r.pre.length < s.fld P.REC_DEPTH.PRE_DEPTH), post := [] }).setRecSt 2).withRec fun r => { r with
    post := [e] }

theorem State.recPostBegun_onlyRecorder (s : State) (terms : Nat) (e : RecEntry) :
    (s.recPostBegun terms e).OnlyRecorder s [K.REC_STATUS] :=
  ((State.setRecSt_onlyRecorder _ 2).trans ((State.OnlyRecorder.refl s _).withRec _)).withRec _

theorem State.recSt_recPostBegun (s : State) (terms : Nat) (e : RecEntry) : (s.recPostBegun terms e).recSt = 2 :=
  (State.recSt_withRec _ _).trans (State.recSt_setRecSt _ (by decide))

/-- A trigger's own record does not end the capture where POST_DEPTH allows more than one (R196 to R198). -/
theorem State.recTrigger_of_depth {s : State} (hdepth : 1 < s.fld P.REC_DEPTH.POST_DEPTH) (terms : Nat) (e : RecEntry) :
    s.recTrigger terms e = s.recPostBegun terms e := by
  have hkept : ∀ f g, (((s.withRec f).setRecSt 2).withRec g).fld P.REC_DEPTH.POST_DEPTH = s.fld P.REC_DEPTH.POST_DEPTH :=
    fun f g => ((((State.OnlyRecorder.refl s [K.REC_STATUS]).withRec f).setFld 2 (by decide)).withRec g).fld (by decide)
  have hmore : ∀ f g, ¬ (((s.withRec f).setRecSt 2).withRec g).fld P.REC_DEPTH.POST_DEPTH ≤ 1 := fun f g => by
    rw [hkept]
    omega
  exact if_neg (hmore _ _)

/-! ### A happening at a tick -/

theorem State.recTickAt_of_new {s : State} {t : Nat} (h : s.recorder.tick.all (fun k => k.at_ != t) = true) :
    s.recTickAt t = ⟨t, s.recorder.levels &&& s.recEnabled, s.recorder.patPrev, 0, 0, false⟩ := by
  unfold State.recTickAt
  cases hk : s.recorder.tick with
  | none => rfl
  | some k =>
    have hne : k.at_ ≠ t := by simpa [hk] using h
    simp [hne]

theorem State.recTickAt_of_begun {s : State} {k : RecTick} (h : s.recorder.tick = some k) : s.recTickAt k.at_ = k := by
  simp [State.recTickAt, h]

/-- The recorder with a happening noted: the levels `new`, what the pattern finds in them, and its tick `k`. -/
def State.recNoted (s : State) (given new : Nat) (k : RecTick) : State :=
  (s.recLevels given new).withRec fun r => { r with patPrev := s.patOf new, tick := some k }

theorem State.recNoted_onlyRecorder (s : State) (given new : Nat) (k : RecTick) : (s.recNoted given new k).OnlyRecorder s [] :=
  ((State.OnlyRecorder.refl s _).withRec _).withRec _

section
variable {s : State} {t given new pulsed : Nat} (hst : s.recSt = 1)
include hst

/-- A happening in ARMED, in a tick that stood as `k` (R194, R196, R199): the tick's sources start a capture; without one the
tick's record is made, or takes what has happened since, where anything has changed. -/
theorem State.recAct_armed {k : RecTick} {sources terms : Nat} (hk : s.recTickAt t = k)
    (hterms : k.terms ||| s.recTerms k.old new (k.pulsed ||| pulsed) k.pat ||| sources = terms) :
    ∃ x, s.recAct t given new pulsed sources =
      if terms ≠ 0 then
        (if k.recorded then (s.recNoted given new x).withRec fun r => { r with pre := r.pre.dropLast }
          else s.recNoted given new x).recTrigger terms ⟨new, k.pulsed ||| pulsed, t⟩
      else if k.recorded then
        (s.recNoted given new x).withRec fun r => { r with pre := setLast ⟨new, k.pulsed ||| pulsed, t⟩ r.pre }
      else if new ≠ k.old ∨ k.pulsed ||| pulsed ≠ 0 then
        (s.recNoted given new x).withRec fun r => { r with pre := lastN 4097 (r.pre ++ [⟨new, k.pulsed ||| pulsed, t⟩]) }
      else s.recNoted given new x := by
  refine ⟨⟨t, k.old, k.pat, k.pulsed ||| pulsed, terms,
    k.recorded || ((decide (new ≠ k.old) || decide (k.pulsed ||| pulsed ≠ 0)) && decide (s.recSt = 1 ∨ s.recSt = 2)) ||
      decide (terms ≠ 0 ∧ s.recSt = 1)⟩, ?_⟩
  subst hk hterms
  have hst' : ∀ f, ((s.recLevels given new).withRec f).recSt = 1 := fun _ => hst
  unfold State.recAct
  dsimp only
  rw [hst']
  simp only [Bool.or_eq_true, decide_eq_true_eq]
  rfl

/-- Without a source that fires, a tick of its own is recorded where anything changes in it, and 4,097 records are kept (R194,
R199). -/
theorem State.recAct_armed_keeps (htick : s.recorder.tick.all (fun k => k.at_ != t) = true)
    (hterms : s.recTerms (s.recorder.levels &&& s.recEnabled) new pulsed s.recorder.patPrev = 0) :
    ∃ x, s.recAct t given new pulsed 0 = (s.recNoted given new x).withRec fun r => { r with
      pre := if new ≠ s.recorder.levels &&& s.recEnabled ∨ pulsed ≠ 0 then lastN 4097 (r.pre ++ [⟨new, pulsed, t⟩])
        else r.pre } := by
  obtain ⟨x, hx⟩ := State.recAct_armed (given := given) (sources := 0) (terms := 0) hst (State.recTickAt_of_new htick)
    (by simpa using hterms)
  refine ⟨x, hx.trans ?_⟩
  simp only [ne_eq, not_true, if_false, Bool.false_eq_true, Nat.zero_or]
  split <;> rfl

/-- Without a source that fires, a second happening of a recorded tick enters its record (R194). -/
theorem State.recAct_armed_enters {k : RecTick} (htick : s.recorder.tick = some k) (ht : k.at_ = t) (hrec : k.recorded = true)
    (hnone : k.terms = 0) (hterms : s.recTerms k.old new (k.pulsed ||| pulsed) k.pat = 0) :
    ∃ x, s.recAct t given new pulsed 0 = (s.recNoted given new x).withRec fun r => { r with
      pre := setLast ⟨new, k.pulsed ||| pulsed, t⟩ r.pre } := by
  subst ht
  obtain ⟨x, hx⟩ := State.recAct_armed (given := given) (sources := 0) (terms := 0) hst (State.recTickAt_of_begun htick)
    (by rw [hnone, hterms]; rfl)
  refine ⟨x, hx.trans ?_⟩
  simp only [ne_eq, not_true, if_false, hrec, if_true]

/-- A source outside the slots starts a capture at a tick of its own: its record is the first of POST, which goes on where
POST_DEPTH allows more than it (R195, R196, R198). -/
theorem State.recAct_armed_triggers {m : Nat} (htick : s.recorder.tick.all (fun k => k.at_ != t) = true)
    (hterms : s.recTerms (s.recorder.levels &&& s.recEnabled) new 0 s.recorder.patPrev = 0) (hm : 0 < m)
    (hdepth : 1 < s.fld P.REC_DEPTH.POST_DEPTH) :
    ∃ x, s.recAct t given new 0 m = (s.recNoted given new x).recPostBegun m ⟨new, 0, t⟩ := by
  obtain ⟨x, hx⟩ := State.recAct_armed (given := given) (new := new) (pulsed := 0) (sources := m) (terms := m) hst
    (State.recTickAt_of_new htick) (by simp [hterms])
  refine ⟨x, hx.trans ?_⟩
  simp only [ne_eq, hm.ne', not_false_eq_true, if_true, Bool.false_eq_true, if_false, Nat.zero_or]
  exact State.recTrigger_of_depth (s := s.recNoted given new x) hdepth _ _
end

/-! ### RECORDER_CHANGE -/

/-- The trigger sources to come at `t` are taken into its tick (R196). -/
def State.dueTaken (s : State) (t : Nat) : State := s.withRec fun r => { r with due := r.due.filter (fun x => x.1 != t) }

theorem exec_recorderChange {s : State} {t : Nat} (l p : Nat) (ha : s.Awake) (hto : (s.at_ t).recTo t t = s.at_ t) :
    exec (.recorderChange t l p) s = .next (((s.at_ t).dueTaken t).recAct t l (s.slotState l t)
      (p % 2 ^ 32 &&& s.recEnabled) (s.recorder.dueAt t)) := by
  refine (awake_next ha).trans ?_
  rw [hto]
  rfl

/-- Without a trigger to come RECORDER_CHANGE is the slots' own happening. -/
theorem exec_recorderChange_of_slots {s : State} {t : Nat} (l : Nat) {p : Nat} (ha : s.Awake) (hst : s.recSt = 1)
    (hd : s.recorder.due = []) (hp : p < 2 ^ 32) :
    exec (.recorderChange t l p) s = .next (((s.at_ t).dueTaken t).recAct t l (s.slotState l t) (p &&& s.recEnabled) 0) := by
  have hst3 : s.recSt ≠ 3 := by omega
  rw [exec_recorderChange l p ha (State.recTo_of_idle (s := s.at_ t) hst3 hd t t), Nat.mod_eq_of_lt hp,
    show s.recorder.dueAt t = 0 by simp [Recorder.dueAt, hd]]

/-- The tick of a trigger to come takes its sources (R196). -/
theorem exec_recorderChange_of_due {s : State} {t m : Nat} (l : Nat) (ha : s.Awake) (hst : s.recSt = 1)
    (hd : s.recorder.due = [(t, m)]) :
    exec (.recorderChange t l 0) s = .next (((s.at_ t).dueTaken t).recAct t l (s.slotState l t) 0 m) := by
  have hst3 : s.recSt ≠ 3 := by omega
  rw [exec_recorderChange l 0 ha (State.recTo_of_due_now (s := s.at_ t) hst3 hd), Nat.zero_mod, Nat.zero_and,
    show s.recorder.dueAt t = m by simp [Recorder.dueAt, hd]]

/-! ### CAPTURE_END -/

/-- CAPTURE_END once POST_TIME has passed since the trigger (R198). -/
theorem exec_captureEnd {s : State} {t : Nat} (ha : s.Awake) (hst : s.recSt = 2) (hd : s.recorder.due = [])
    (hlim : s.fld P.REC_DEPTH.POST_TIME ≠ 0) (ht : s.recorder.trigTime + s.fld P.REC_DEPTH.POST_TIME ≤ t) :
    exec (.captureEnd t) s =
      .next ((s.at_ t).recEnd (s.recorder.trigTime + s.fld P.REC_DEPTH.POST_TIME) false true) := by
  have hst3 : s.recSt ≠ 3 := by omega
  rw [show exec (.captureEnd t) s = execCaptureEnd t s from rfl, execCaptureEnd, if_neg (Bool.eq_false_iff.mp ha)]
  dsimp only
  rw [State.recTo_of_idle (s := s.at_ t) hst3 hd]
  exact if_pos ⟨hst, hlim, ht⟩

/-! ### RECORDER_REARM -/

/-- Nothing is left to flow of a capture whose last word has entered the FIFO (R200). -/
theorem State.recFlow_of_unloaded {s : State} {t : Nat} (hst : s.recSt = 3) (hu : s.recorder.unload = [])
    (he : s.recorder.ends = none) (ht : s.recorder.unloadFrom + 48 + 7 * s.recorder.unloadRecs ≤ t) :
    s.recFlow t = s.recShow := by
  have hl : s.recLayout = s := by simp [State.recLayout, he]
  have hover : s.recorder.unloadFrom + (16 + 7 * s.recorder.unloadRecs) ≤ t := by omega
  have hmin : ∀ n, Nat.min 0 n = 0 := Nat.zero_min
  rw [State.recFlow, if_pos ⟨hst, by omega⟩]
  simp only [hl, if_pos hover, show s.recorder.unload.length = 0 by rw [hu]; rfl, Nat.sub_zero, Nat.sub_self, hmin,
    List.take_zero, List.drop_zero, List.append_nil, Nat.add_zero, Nat.lt_irrefl, decide_false, Bool.and_false, Bool.false_and,
    Bool.or_false, Bool.false_eq_true, if_false]
  rfl

/-- RECORDER_REARM once unloading is over (R200). -/
theorem exec_recorderRearm {s : State} {t : Nat} (ha : s.Awake) (hst : s.recSt = 3) (hd : s.recorder.due = [])
    (hu : s.recorder.unload = []) (he : s.recorder.ends = none)
    (ht : s.recorder.unloadFrom + 48 + 7 * s.recorder.unloadRecs ≤ t) :
    ∃ v : State, v.OnlyRecorder (s.at_ t) [K.REC_STATUS] ∧ v.recorder.fifo = s.recorder.fifo ∧
      exec (.recorderRearm t) s = .next (if s.bit P.REC_CTRL.EN ∧ s.bit P.REC_CTRL.MODE then
        v.recArm (s.recorder.unloadFrom + 48 + 7 * s.recorder.unloadRecs) else v.setRecSt 0) := by
  have hflow : (s.at_ t).recFlow t = (s.at_ t).recShow := State.recFlow_of_unloaded hst hu he ht
  have hst1 : (s.at_ t).recShow.recSt = 3 := (State.recSt_recShow _).trans hst
  have hto : ∀ e, (s.at_ t).recShow.recTo e t = (s.at_ t).recShow.recShow := fun e => by
    have hd1 : (s.at_ t).recShow.recorder.due = [] := hd
    rw [State.recTo, hd1]
    exact State.recFlow_of_unloaded hst1 hu he ht
  have hshown : (s.at_ t).recShow.recShow.OnlyRecorder (s.at_ t) [K.REC_STATUS] :=
    ((State.recShow_onlyRegs _).trans (State.recShow_onlyRegs _)).toRecorder
  have hover : (s.at_ t).recShow.recSt = 3 ∧ (s.at_ t).recShow.recorder.unload.isEmpty = true ∧
      (s.at_ t).recShow.recorder.unloadFrom + 48 + 7 * (s.at_ t).recShow.recorder.unloadRecs ≤ t :=
    ⟨hst1, List.isEmpty_iff.mpr hu, ht⟩
  have hv := hshown.withRec fun r => { r with prevWaited := r.waited, waited := false, unloadRecs := 0 }
  have hbit : ∀ f : FieldRef, f.key ∉ [K.REC_STATUS] → s.bit f = _ := fun f hf => congrArg (· == 1) (hv.fld hf).symm
  refine ⟨_, hv, rfl, ?_⟩
  rw [show exec (.recorderRearm t) s = execRecorderRearm t s from rfl, execRecorderRearm, if_neg (Bool.eq_false_iff.mp ha)]
  dsimp only
  rw [hflow, if_pos hover, hto, hbit P.REC_CTRL.EN (by decide), hbit P.REC_CTRL.MODE (by decide), apply_ite Host.Outcome.next]
  rfl

/-! ### REC_DRAIN_CAPTURE -/

/-- A capture in the FIFO has a last word. -/
theorem splitCapture_getLast {l ws rest : List FifoWord} (h : splitCapture l = some (ws, rest)) :
    ∃ w, ws.getLast? = some w := by
  suffices hne : ws ≠ [] from ⟨_, List.getLast?_eq_some_getLast hne⟩
  cases l with
  | nil => cases h
  | cons w l =>
    unfold splitCapture at h
    split at h
    · cases h
      exact List.cons_ne_nil _ _
    · split at h <;> cases h
      exact List.cons_ne_nil _ _

/-- The recorder with the capture `ws` taken out of the FIFO, which keeps `rest` (R203). -/
def State.recDrained (s : State) (ws rest : List FifoWord) : State :=
  (s.withRec fun r => { r with fifo := rest, lastWord := (ws.getLast?.map (·.word)).getD r.lastWord }).recShow

theorem State.recDrained_onlyRecorder (s : State) (ws rest : List FifoWord) :
    (s.recDrained ws rest).OnlyRecorder s [K.REC_STATUS] :=
  (State.recShow_onlyRegs _).toRecorder.trans ((State.OnlyRecorder.refl s _).withRec _)

/-- The last word of the capture is the last that left the FIFO. -/
theorem State.recDrained_lastWord (s : State) {l ws rest : List FifoWord} (h : splitCapture l = some (ws, rest)) :
    ws.getLast?.map (·.word) = some (s.recDrained ws rest).recorder.lastWord := by
  obtain ⟨w, hw⟩ := splitCapture_getLast h
  have hl : (s.recDrained ws rest).recorder.lastWord = (ws.getLast?.map (·.word)).getD s.recorder.lastWord := id rfl
  rw [hl, hw]
  rfl

/-- The ring's enable and its room do not depend on the recorder. -/
theorem State.recDrained_ring (s : State) (ws rest : List FifoWord) :
    (s.recDrained ws rest).ringOn 5 = s.ringOn 5 ∧ (s.recDrained ws rest).ringFree 5 = s.ringFree 5 := by
  have ho := s.recDrained_onlyRecorder ws rest
  have hq : (s.recDrained ws rest).queuedBytes 5 = s.queuedBytes 5 := by
    simp only [State.queuedBytes, State.chan, ho.proj State.host rfl]
  have hg : (s.recDrained ws rest).ringGeom 5 = s.ringGeom 5 := by
    simp only [State.ringGeom, ho.fld (f := P.REC_RING.BASE) (by decide), ho.fld (f := P.REC_RING.LOG2_SIZE) (by decide),
      ho.fld (f := P.RING_WR_11.WR_OFF.idx 4) (by decide)]
  refine ⟨by simp only [State.ringOn, State.bit, ho.fld (f := P.REC_RING.EN) (by decide)], ?_⟩
  simp only [State.ringFree, State.wrCount, hq, hg, ho.fld (f := ringRdField 5) (by decide)]

/-- A capture dropped for want of room is counted, and nothing else changes (R203). -/
theorem State.recDropped_onlyRegs (s : State) : (s.addWrap P.REC_COUNTS.REC_DROPPED 1).OnlyRegs s [K.REC_COUNTS] :=
  (State.OnlyRegs.refl s _).setFld _ (by decide)

/-- REC_DRAIN_CAPTURE with a whole capture in the FIFO and channel 5 free (R203). -/
theorem exec_recDrainCapture {s : State} {t : Nat} {ws rest : List FifoWord} (ha : s.Awake) (hst : s.recSt ≠ 3)
    (hd : s.recorder.due = []) (hdrain : s.bit P.REC_CTRL.DRAIN = true) (hstall : s.stalled 5 = false)
    (hitems : (s.chan 5).items = []) (hsplit : splitCapture s.recorder.fifo = some (ws, rest)) :
    exec (.recDrainCapture t) s =
      if s.ringOn 5 ∧ (ws.flatMap fun w => leBytes 8 w.word).length ≤ s.ringFree 5 then
        .next (((s.at_ t).recDrained ws rest).dmaPush 5
          { payload := ws.flatMap fun w => leBytes 8 w.word,
            done := .capture (ws.flatMap fun w => leBytes 8 w.word).length ws.length })
      else .next (((s.at_ t).recDrained ws rest).addWrap P.REC_COUNTS.REC_DROPPED 1) := by
  have hto : (s.at_ t).recTo (t + 1) t = s.at_ t := State.recTo_of_idle (s := s.at_ t) hst hd _ _
  have hready : ¬((!(s.at_ t).bit P.REC_CTRL.DRAIN) = true ∨ (s.at_ t).stalled 5 = true ∨
      (!((s.at_ t).chan 5).items.isEmpty) = true) := by
    have h1 : (s.at_ t).bit P.REC_CTRL.DRAIN = true := hdrain
    have h2 : (s.at_ t).stalled 5 = false := hstall
    have h3 : ((s.at_ t).chan 5).items = [] := hitems
    simp [h1, h2, h3]
  have hs : splitCapture (s.at_ t).recorder.fifo = some (ws, rest) := hsplit
  obtain ⟨hon, hfree⟩ := (s.at_ t).recDrained_ring ws rest
  rw [show exec (.recDrainCapture t) s = execRecDrainCapture t s from rfl, execRecDrainCapture,
    if_neg (Bool.eq_false_iff.mp ha)]
  dsimp only
  rw [hto, if_neg hready, hs, show s.ringOn 5 = (s.at_ t).ringOn 5 from rfl, show s.ringFree 5 = (s.at_ t).ringFree 5 from rfl,
    ← hon, ← hfree, List.flatMap_def]
  rfl

/-! ### EN, STOP and SW_TRIG -/

theorem State.recEnable_of_resting {s : State} (hst : s.recSt = 0) (hd : s.recorder.due = []) :
    s.recEnable true = s.recArm s.now := by
  simp [State.recEnable, State.recTo_of_idle (s := s) (by omega) hd, hst]

/-- EN = 1 is nothing new to a recorder that runs. -/
theorem State.recEnable_of_running {s : State} (hst : s.recSt ≠ 3) (hrun : s.recSt ≠ 0) (hd : s.recorder.due = []) :
    s.recEnable true = s := by
  simp [State.recEnable, State.recTo_of_idle hst hd, hrun]

theorem State.recDisable_of_armed {s : State} (hst : s.recSt = 1) (hd : s.recorder.due = []) :
    s.recEnable false = (s.withRec fun r => { r with pre := [] }).setRecSt 0 := by
  simp [State.recEnable, State.recTo_of_idle (s := s) (by omega) hd, hst]

theorem State.recDisable_of_post {s : State} (hst : s.recSt = 2) (hd : s.recorder.due = []) :
    s.recEnable false = s.recEnd s.now true false := by
  simp [State.recEnable, State.recTo_of_idle (s := s) (by omega) hd, hst]

theorem State.recStop_of_idle {s : State} (hst : s.recSt ≠ 3) (hd : s.recorder.due = []) :
    s.recStop = s.recEnd s.now true false := by
  rw [State.recStop, State.recTo_of_idle hst hd]

/-- A capture that has ended in this instant has neither flowed nor anything left to stop. -/
theorem State.recStop_of_ended {s : State} (hst : s.recSt = 3) (hd : s.recorder.due = [])
    (hfrom : s.recorder.unloadFrom = s.now) : s.recStop = s := by
  simp [State.recStop, State.recTo, hd, State.recDue, State.recFlow, hfrom, State.recEnd, hst]

/-- With or without an EN in the same write, STOP ends a capture in POST (R198, R204). -/
theorem State.recStop_of_post {s : State} (hst : s.recSt = 2) (hd : s.recorder.due = []) (p : Prop) [Decidable p] (en : Bool) :
    (if p then s else s.recEnable en).recStop = s.recEnd s.now true false := by
  have hst3 : s.recSt ≠ 3 := by omega
  by_cases hp : p
  · rw [if_pos hp, State.recStop_of_idle hst3 hd]
  · rw [if_neg hp]
    cases en with
    | true => rw [State.recEnable_of_running hst3 (by omega) hd, State.recStop_of_idle hst3 hd]
    | false =>
      obtain ⟨hended, hrec, -, hframe⟩ := State.recEnd_of_post hst s.now true false
      rw [State.recDisable_of_post hst hd, State.recStop_of_ended hended (by rw [hrec]; exact hd)]
      rw [hrec, hframe.proj State.now rfl]

/-! ### Host writes of REC_CTRL -/

theorem levelEffect_recCtrl (u : State) (old : Word) {cov : Word} (h : cov ≠ 0) :
    u.levelEffect K.REC_CTRL old cov = if wordFld cov P.REC_CTRL.EN = 0 then u else u.recEnable (u.bit P.REC_CTRL.EN) :=
  if_neg h

theorem orderEffect_recCtrl (u : State) {cov : Word} (new co : Word) (h : cov ≠ 0) :
    u.orderEffect K.REC_CTRL cov new co =
      if wordFld new P.REC_CTRL.STOP = 1 then
        (if wordFld new P.REC_CTRL.SW_TRIG = 1 then u.recSwTrig else u).recStop
      else if wordFld new P.REC_CTRL.SW_TRIG = 1 then u.recSwTrig else u :=
  (if_neg h).trans (if_pos (by decide))

/-- Out of power-on reset a write runs that covers what its command names. -/
theorem awake_named_next {s u : State} {named : Bool} (ha : s.Awake) (hn : named = true) :
    (if s.ctl.por then (.next s : Result) else if named then .next u else .next s) = .next u := by
  simp [hn, show s.ctl.por = false from ha]

/-- A write that brings a value to a field covers it. -/
theorem covers_of_brings {h : HostWrite} {f : FieldRef} {v : Nat} (hb : brings h f v) (hf : 0 < f.width) :
    covers h f = true := by
  have hp : 2 ≤ 2 ^ f.width := Nat.le_self_pow hf.ne' 2
  simp only [covers, hb.1, bne_iff_ne]
  omega

/-- A write that brings a value to a field hits it. -/
theorem hits_of_brings {h : HostWrite} {f : FieldRef} {v : Nat} (hb : brings h f v) : hits h f v = true := by
  have hv : wordFld (h.value &&& writeMask h) f = wordFld h.value f := wordFld_congr fun i hi => by
    rw [BitVec.getLsbD_and, getLsbD_of_full hb.1 hi, Bool.and_true]
  simp [hits, hv, hb.2]

section
variable {s : State} {h : HostWrite} (ha : s.Accepts K.REC_CTRL h)
include ha

/-- An accepted write of REC_CTRL: EN acts where it is covered, then SW_TRIG, then STOP (R196 to R198, R204). -/
theorem State.hostWrite_recCtrl {sw stop : Nat} (hsw : brings h P.REC_CTRL.SW_TRIG sw) (hstop : brings h P.REC_CTRL.STOP stop)
    {u v : State} (hu : u = if wordFld (s.merged (entryOf K.REC_CTRL h)).1 P.REC_CTRL.EN = 0 then s.stored K.REC_CTRL h
      else (s.stored K.REC_CTRL h).recEnable ((s.stored K.REC_CTRL h).bit P.REC_CTRL.EN))
    (hv : v = if stop = 1 then (if sw = 1 then u.recSwTrig else u).recStop else if sw = 1 then u.recSwTrig else u)
    (hctl : v.ctl = s.ctl) : s.hostWrite K.REC_CTRL h = v := by
  have hcov := merged_cov_ne_zero (key := K.REC_CTRL) s hsw (by decide +kernel) (by decide)
  have hswn := wordFld_merged (key := K.REC_CTRL) s (by decide) hsw (by decide +kernel) (by decide +kernel)
  have hstopn := wordFld_merged (key := K.REC_CTRL) s (by decide) hstop (by decide +kernel) (by decide +kernel)
  obtain ⟨⟨-, -, -, -, hask⟩, -⟩ := id ha
  rw [State.hostWrite_of_no_flags ha (by decide +kernel), levelEffect_recCtrl _ _ hcov, ← hu, orderEffect_recCtrl _ _ _ hcov,
    hswn, hstopn, ← hv, State.runAsked_of_none (by rw [hctl]; exact hask)]

omit ha in
theorem State.stored_recCtrl_recSt : (s.stored K.REC_CTRL h).recSt = s.recSt :=
  (s.stored_onlyRegs K.REC_CTRL h).toRecorder.fld (by decide)

/-- A write that brings EN and no STOP: EN acts on the device that has stored it, and SW_TRIG after it. -/
theorem State.hostWrite_recEn {en sw : Nat} (hen : brings h P.REC_CTRL.EN en) (hsw : brings h P.REC_CTRL.SW_TRIG sw)
    (hstop : brings h P.REC_CTRL.STOP 0) {u v : State} (hu : u = (s.stored K.REC_CTRL h).recEnable (en == 1))
    (hv : v = if sw = 1 then u.recSwTrig else u) (hctl : v.ctl = s.ctl) : s.hostWrite K.REC_CTRL h = v := by
  have hcov : wordFld (s.merged (entryOf K.REC_CTRL h)).1 P.REC_CTRL.EN ≠ 0 := by
    rw [wordFld_merged_cov s hen (by decide +kernel)]
    decide
  have hbit : (s.stored K.REC_CTRL h).bit P.REC_CTRL.EN = (en == 1) := by
    have hreg : (s.stored K.REC_CTRL h).reg P.REC_CTRL.EN.key = s.mergedWord K.REC_CTRL h :=
      State.reg_setReg_self (s.at_ h.t) K.REC_CTRL _
    rw [State.bit, State.fld, hreg, wordFld_mergedWord s (by decide) hen (by decide +kernel) (by decide +kernel)]
  refine State.hostWrite_recCtrl ha hsw hstop (u := u) ?_ ?_ hctl
  · rw [if_neg hcov, hbit, hu]
  · rw [hv, if_neg (by decide : ¬ (0 : Nat) = 1)]

/-- REC_EN = 1 from IDLE (R197, R199). -/
theorem exec_recEn_arms (hen : brings h P.REC_CTRL.EN 1) (hsw : brings h P.REC_CTRL.SW_TRIG 0)
    (hstop : brings h P.REC_CTRL.STOP 0) (hst : s.recSt = 0) (hd : s.recorder.due = []) :
    exec (.recEn h) s = .next ((s.stored K.REC_CTRL h).recArm (s.at_ h.t).now) := by
  have hw := State.hostWrite_recEn ha hen hsw hstop (State.recEnable_of_resting (State.stored_recCtrl_recSt.trans hst) hd).symm
    rfl rfl
  exact (awake_named_next ha.1.1 (covers_of_brings hen (by decide))).trans (congrArg _ hw)

/-- REC_EN = 0 from ARMED (R204). -/
theorem exec_recEn_rests (hen : brings h P.REC_CTRL.EN 0) (hsw : brings h P.REC_CTRL.SW_TRIG 0)
    (hstop : brings h P.REC_CTRL.STOP 0) (hst : s.recSt = 1) (hd : s.recorder.due = []) :
    exec (.recEn h) s = .next (((s.stored K.REC_CTRL h).withRec fun r => { r with pre := [] }).setRecSt 0) := by
  have hw := State.hostWrite_recEn ha hen hsw hstop (State.recDisable_of_armed (State.stored_recCtrl_recSt.trans hst) hd).symm
    rfl rfl
  exact (awake_named_next ha.1.1 (covers_of_brings hen (by decide))).trans (congrArg _ hw)

/-- REC_STOP in POST (R198). -/
theorem exec_recStop (hsw : brings h P.REC_CTRL.SW_TRIG 0) (hstop : brings h P.REC_CTRL.STOP 1) (hst : s.recSt = 2)
    (hd : s.recorder.due = []) :
    exec (.recStop h) s = .next ((s.stored K.REC_CTRL h).recEnd (s.at_ h.t).now true false) := by
  have hst' : (s.stored K.REC_CTRL h).recSt = 2 := State.stored_recCtrl_recSt.trans hst
  obtain ⟨-, -, -, hframe⟩ := State.recEnd_of_post hst' (s.at_ h.t).now true false
  have hw := State.hostWrite_recCtrl ha hsw hstop rfl (State.recStop_of_post hst' hd _ _).symm (hframe.proj State.ctl rfl)
  exact (awake_named_next ha.1.1 (hits_of_brings hstop)).trans (congrArg _ hw)

/-- REC_SW_TRIG in ARMED, at a tick with no other source: term 4 starts a capture (R196). -/
theorem exec_recSwTrig (hen : brings h P.REC_CTRL.EN 1) (hsw : brings h P.REC_CTRL.SW_TRIG 1)
    (hstop : brings h P.REC_CTRL.STOP 0) (hst : s.recSt = 1) (hd : s.recorder.due = [])
    (htick : s.recorder.tick.all (fun k => k.at_ != (s.at_ h.t).now) = true)
    (hterms : s.recTerms (s.recorder.levels &&& s.recEnabled) (s.slotState s.recorder.levels (s.at_ h.t).now) 0
      s.recorder.patPrev = 0) (hdepth : 1 < s.fld P.REC_DEPTH.POST_DEPTH) :
    ∃ x, exec (.recSwTrig h) s =
      .next (((s.stored K.REC_CTRL h).recNoted s.recorder.levels (s.slotState s.recorder.levels (s.at_ h.t).now) x).recPostBegun 16
        ⟨s.slotState s.recorder.levels (s.at_ h.t).now, 0, (s.at_ h.t).now⟩) := by
  have hst' : (s.stored K.REC_CTRL h).recSt = 1 := State.stored_recCtrl_recSt.trans hst
  have hst3 : (s.stored K.REC_CTRL h).recSt ≠ 3 := by omega
  have hst0 : (s.stored K.REC_CTRL h).recSt ≠ 0 := by omega
  have hstored := s.stored_onlyRegs K.REC_CTRL h
  obtain ⟨hen', hslots, -, hterms'⟩ := hstored.recorderReads
  have hdepth' : 1 < (s.stored K.REC_CTRL h).fld P.REC_DEPTH.POST_DEPTH := by
    rw [hstored.toRecorder.fld (by decide)]
    exact hdepth
  obtain ⟨x, hx⟩ := State.recAct_armed_triggers (s := s.stored K.REC_CTRL h) (t := (s.at_ h.t).now)
    (given := s.recorder.levels) (new := s.slotState s.recorder.levels (s.at_ h.t).now) (m := 16) hst' htick
    (by rw [hen', hterms']; exact hterms) (by decide) hdepth'
  have htrig : (s.stored K.REC_CTRL h).recSwTrig = (s.stored K.REC_CTRL h).recAct (s.at_ h.t).now s.recorder.levels
      (s.slotState s.recorder.levels (s.at_ h.t).now) 0 16 := by
    rw [State.recSwTrig, State.recTo_of_idle hst3 hd, hslots]
    rfl
  have hnoted := (s.stored K.REC_CTRL h).recNoted_onlyRecorder s.recorder.levels
    (s.slotState s.recorder.levels (s.at_ h.t).now) x
  have hframe := (State.recPostBegun_onlyRecorder _ 16
    ⟨s.slotState s.recorder.levels (s.at_ h.t).now, 0, (s.at_ h.t).now⟩).trans (hnoted.mono (List.nil_subset _))
  have hw := State.hostWrite_recEn ha hen hsw hstop (State.recEnable_of_running hst3 hst0 hd).symm (htrig.trans hx).symm
    (hframe.proj State.ctl rfl)
  exact ⟨x, (awake_named_next ha.1.1 (hits_of_brings hsw)).trans (congrArg _ hw)⟩
end

/-! ### The statement -/

/-- Settles O22: each command by its equation above, a happening in ARMED by what becomes of its tick (`State.recAct_armed`), and
the rest of the device by the recorder's frame. -/
theorem eventRecorder : Obligations.EventRecorder := by
  refine ⟨fun s t l p n ha hst hd hp hn htick hterms hchange => ?_, fun s t l ha hst hd htick hsame hterms => ?_,
    fun s t ha hst hd hlim ht => ?_, fun s t ha hst hd hu he ht => ?_,
    fun s t ws rest ha hst hd hdrain hstall hitems hsplit hoff => ?_, fun s h ha hen hsw hstop hst hd => ?_,
    fun s h ha hen hsw hstop hst hd => ?_, fun s h ha hstop hsw hst hd => ?_,
    fun s h ha hen hsw hstop hst hd htick _ hterms hdepth => ?_,
    fun s t l m ha hst hd hm _ _ htick hterms hdepth => ?_,
    fun s t l p n k ha hst hd hp hn htick ht hrec hnone hterms => ?_,
    fun s t ws rest bytes ha hst hd hdrain hstall hitems hsplit hbytes hon hroom => ?_⟩
  -- RECORDER_CHANGE: a tick with a change, and one without
  · subst hn
    obtain ⟨x, hx⟩ := State.recAct_armed_keeps (s := (s.at_ t).dueTaken t) (given := l) hst htick hterms
    exact ⟨_, (exec_recorderChange_of_slots l ha hst hd hp).trans (congrArg _ hx), rfl, if_pos (hchange.imp_left Ne.symm), rfl,
      rfl, rfl⟩
  · obtain ⟨x, hx⟩ := State.recAct_armed_keeps (s := (s.at_ t).dueTaken t) (given := l) (pulsed := 0) hst htick hterms
    have hu := exec_recorderChange_of_slots (t := t) l ha hst hd (show 0 < 2 ^ 32 by decide)
    rw [Nat.zero_and] at hu
    exact ⟨_, hu.trans (congrArg _ hx), if_neg (not_or.mpr ⟨not_not.mpr hsame.symm, not_not.mpr rfl⟩), rfl⟩
  -- CAPTURE_END
  · obtain ⟨hended, hrec, hcaptures, hframe⟩ := State.recEnd_of_post (s := s.at_ t) hst
      (s.recorder.trigTime + s.fld P.REC_DEPTH.POST_TIME) false true
    exact ⟨_, exec_captureEnd ha hst hd hlim ht, hended, hrec, hcaptures, fun k h1 h2 => hframe.regs k (by simp [h1, h2]),
      hframe.rest⟩
  -- RECORDER_REARM
  · obtain ⟨v, hv, hfifo, hexec⟩ := exec_recorderRearm ha hst hd hu he ht
    refine ⟨_, hexec, ?_⟩
    split
    · exact ⟨State.recSt_setRecSt _ (by decide), (congrArg (·.fifo) (v.recArm_recorder _)).trans hfifo,
        ((v.recArm_onlyRecorder _).trans hv).rest⟩
    · exact ⟨State.recSt_setRecSt _ (by decide), (congrArg (·.fifo) (v.setFld_recorder _ 0)).trans hfifo,
        ((v.setRecSt_onlyRecorder _).trans hv).rest⟩
  -- REC_DRAIN_CAPTURE: a capture dropped
  · have hdrained := (s.at_ t).recDrained_onlyRecorder ws rest
    have hcounted := ((s.at_ t).recDrained ws rest).recDropped_onlyRegs
    have hframe : State.OnlyRecorder _ _ [K.REC_STATUS, K.REC_COUNTS] :=
      (hcounted.toRecorder.mono (by simp)).trans (hdrained.mono (by simp))
    have hrec := hcounted.proj State.recorder rfl
    have hcount := ((s.at_ t).recDrained ws rest).fld_addWrap_self P.REC_COUNTS.REC_DROPPED 1 (by decide) (by decide)
    rw [hdrained.fld (by decide)] at hcount
    have hlast := (s.at_ t).recDrained_lastWord hsplit
    rw [← hrec] at hlast
    exact ⟨_, (exec_recDrainCapture ha hst hd hdrain hstall hitems hsplit).trans (if_neg (by simp [hoff])), congrArg (·.fifo) hrec,
      hlast, hcount, fun k h1 h2 => hframe.regs k (by simp [h1, h2]), hframe.rest⟩
  -- REC_EN: arming, and back to IDLE
  · have hstored := s.stored_onlyRegs K.REC_CTRL h
    have hframe : State.OnlyRecorder _ _ [K.REC_CTRL, K.REC_STATUS] :=
      (((s.stored K.REC_CTRL h).recArm_onlyRecorder (s.at_ h.t).now).mono (by simp)).trans (hstored.toRecorder.mono (by simp))
    obtain ⟨hen', hslots, hpat, -⟩ := hstored.recorderReads
    refine ⟨_, exec_recEn_arms ha hen hsw hstop hst hd, State.recSt_setRecSt _ (by decide), ?_, hframe.regs, hframe.rest⟩
    rw [State.recArm_recorder, hen', hslots, hpat]
    rfl
  · have hframe : State.OnlyRecorder _ _ [K.REC_CTRL, K.REC_STATUS] :=
      (((State.OnlyRecorder.refl (s.stored K.REC_CTRL h) _).withRec fun r => { r with pre := [] }).setFld 0
        (by decide : P.REC_STATUS.STATE.key ∈ _)).trans ((s.stored_onlyRegs K.REC_CTRL h).toRecorder.mono (by simp))
    exact ⟨_, exec_recEn_rests ha hen hsw hstop hst hd, State.recSt_setRecSt _ (by decide), rfl, hframe.regs, hframe.rest⟩
  -- REC_STOP
  · obtain ⟨hended, hrec, -, hpost⟩ := State.recEnd_of_post (s := s.stored K.REC_CTRL h)
      (State.stored_recCtrl_recSt.trans hst) (s.at_ h.t).now true false
    have hframe : State.OnlyRecorder _ _ [K.REC_CTRL, K.REC_STATUS, K.REC_COUNTS] :=
      (hpost.mono (by simp)).trans ((s.stored_onlyRegs K.REC_CTRL h).toRecorder.mono (by simp))
    exact ⟨_, exec_recStop ha hsw hstop hst hd, hended, hrec, hframe.regs, hframe.rest⟩
  -- REC_SW_TRIG
  · have hstored := (s.stored_onlyRegs K.REC_CTRL h).toRecorder
    obtain ⟨x, hx⟩ := exec_recSwTrig ha hen hsw hstop hst hd htick hterms hdepth
    have hnoted := (State.recNoted_onlyRecorder (s.stored K.REC_CTRL h) s.recorder.levels
      (s.slotState s.recorder.levels (s.at_ h.t).now) x).mono (List.nil_subset [K.REC_CTRL])
    have hframe : State.OnlyRecorder _ _ [K.REC_CTRL, K.REC_STATUS] :=
      ((State.recPostBegun_onlyRecorder _ 16 ⟨s.slotState s.recorder.levels (s.at_ h.t).now, 0, (s.at_ h.t).now⟩).mono
        (by simp)).trans ((hnoted.trans hstored).mono (by simp))
    exact ⟨_, hx, State.recSt_recPostBegun _ _ _, rfl, rfl, congrArg (lastN · s.recorder.pre) (hstored.fld (by decide)), rfl, rfl,
      hframe.regs, hframe.rest⟩
  -- RECORDER_CHANGE at a trigger's tick
  · obtain ⟨x, hx⟩ := State.recAct_armed_triggers (s := (s.at_ t).dueTaken t) (given := l) hst htick hterms hm hdepth
    have hnoted : (((s.at_ t).dueTaken t).recNoted l (s.slotState l t) x).OnlyRecorder (s.at_ t) [] :=
      (State.recNoted_onlyRecorder _ _ _ _).trans ((State.OnlyRecorder.refl (s.at_ t) _).withRec _)
    have hframe := (State.recPostBegun_onlyRecorder _ m ⟨s.slotState l t, 0, t⟩).trans (hnoted.mono (List.nil_subset _))
    have hnone : s.recorder.due.filter (fun x => x.1 != t) = [] := by simp [hd]
    exact ⟨_, (exec_recorderChange_of_due l ha hst hd).trans (congrArg _ hx), State.recSt_recPostBegun _ _ _, rfl, rfl, hnone, rfl,
      rfl, hframe.regs, hframe.rest⟩
  -- RECORDER_CHANGE again in a recorded tick
  · subst hn
    obtain ⟨x, hx⟩ := State.recAct_armed_enters (s := (s.at_ t).dueTaken t) (given := l) hst htick ht hrec hnone hterms
    exact ⟨_, (exec_recorderChange_of_slots l ha hst hd hp).trans (congrArg _ hx), rfl, rfl, hst, rfl⟩
  -- REC_DRAIN_CAPTURE: a capture with room
  · subst hbytes
    have hframe := (s.at_ t).recDrained_onlyRecorder ws rest
    exact ⟨_, (exec_recDrainCapture ha hst hd hdrain hstall hitems hsplit).trans (if_pos ⟨hon, hroom⟩), rfl,
      (s.at_ t).recDrained_lastWord hsplit, State.count_recShow _, hframe.regs, hframe.rest⟩

end Sys2Proof.Machine
end

section
/-! PROOFS. The chargers (R207 to R222): what the work on one of the four reads, and what it leaves. -/
namespace Sys2Proof.Machine

/-! ### What the work of the emitters touches -/

/-- `u` is `s` but for the parameters listed, the flag counters and the emitters' own record. -/
structure State.OnlyEmitters (u s : State) (keys : List Nat) : Prop where
  regs : u.SameRegs s keys
  rest : { u with regs := s.regs, flagCnt := s.flagCnt, emit_ := s.emit_ } = s

theorem State.OnlyEmitters.refl (s : State) (keys : List Nat) : s.OnlyEmitters s keys := ⟨fun _ _ => rfl, rfl⟩

theorem State.OnlyEmitters.mono {u s : State} {keys keys' : List Nat} (h : u.OnlyEmitters s keys) (hk : keys ⊆ keys') :
    u.OnlyEmitters s keys' := ⟨fun k hn => h.regs k fun hm => hn (hk hm), h.rest⟩

theorem State.OnlyEmitters.trans {u v s : State} {keys : List Nat} (h : u.OnlyEmitters v keys) (h' : v.OnlyEmitters s keys) :
    u.OnlyEmitters s keys := by
  refine ⟨fun k hk => (h.regs k hk).trans (h'.regs k hk), Eq.trans ?_ h'.rest⟩
  exact congrArg (fun x : State => { x with regs := s.regs, flagCnt := s.flagCnt, emit_ := s.emit_ }) h.rest

theorem State.OnlyRegs.toEmitters {u s : State} {keys : List Nat} (h : u.OnlyRegs s keys) : u.OnlyEmitters s keys :=
  ⟨h.regs, congrArg (fun x : State => { x with flagCnt := s.flagCnt, emit_ := s.emit_ }) h.rest⟩

section
variable {u s : State} {keys : List Nat} (h : u.OnlyEmitters s keys)
include h

theorem State.OnlyEmitters.setFld {f : FieldRef} (v : Nat) (hk : f.key ∈ keys) : (u.setFld f v).OnlyEmitters s keys :=
  ((State.OnlyRegs.refl u keys).setFld v hk).toEmitters.trans h

theorem State.OnlyEmitters.setFlag {f : FieldRef} (hk : f.key ∈ keys) : (u.setFlag f).OnlyEmitters s keys :=
  ⟨(h.setFld 1 hk).regs, h.rest⟩

theorem State.OnlyEmitters.setCharger (k : Nat) (c : Charger) : (u.setCharger k c).OnlyEmitters s keys := ⟨h.regs, h.rest⟩

/-- What reads neither the parameters, the flag counters nor the emitters' record is the same. -/
theorem State.OnlyEmitters.proj {α : Type} (g : State → α)
    (hg : g { u with regs := s.regs, flagCnt := s.flagCnt, emit_ := s.emit_ } = g u := by rfl) : g u = g s :=
  hg.symm.trans (congrArg g h.rest)

theorem State.OnlyEmitters.device :
    u.hist = s.hist ∧ u.mirror = s.mirror ∧ u.scan = s.scan ∧ u.sup = s.sup ∧ u.nv = s.nv :=
  ⟨h.proj State.hist rfl, h.proj State.mirror rfl, h.proj State.scan rfl, h.proj State.sup rfl, h.proj State.nv rfl⟩

theorem State.OnlyEmitters.ctl : u.ctl = s.ctl := h.proj State.ctl rfl

/-- A field of another parameter is the same. -/
theorem State.OnlyEmitters.fld {f : FieldRef} (hf : f.key ∉ keys) : u.fld f = s.fld f :=
  congrArg (wordFld · f) (h.regs _ hf)

theorem State.OnlyEmitters.rest_of_flagCnt (hc : u.flagCnt = s.flagCnt) : { u with regs := s.regs, emit_ := s.emit_ } = s :=
  Eq.trans (congrArg (fun c => { u with regs := s.regs, emit_ := s.emit_, flagCnt := c }) hc) h.rest

theorem State.OnlyEmitters.rest_of_emit (he : u.emit_ = s.emit_) : { u with regs := s.regs, flagCnt := s.flagCnt } = s :=
  Eq.trans (congrArg (fun e => { u with regs := s.regs, flagCnt := s.flagCnt, emit_ := e }) he) h.rest
end

/-- A repeated operation stays within the parameters to which each of its rounds keeps. -/
theorem State.OnlyEmitters.forEach {l : List Nat} {f : Nat → State → State} {keys : List Nat}
    (h : ∀ i ∈ l, ∀ u : State, (f i u).OnlyEmitters u keys) (s : State) : (forEach l f s).OnlyEmitters s keys := by
  induction l generalizing s with
  | nil => exact State.OnlyEmitters.refl s keys
  | cons a l ih =>
    obtain ⟨ha, hl⟩ := List.forall_mem_cons.mp h
    exact (ih hl (f a s)).trans (ha s)

/-! ### One charger among the four -/

/-- Rounds that each leave what `g` reads leave it together. -/
theorem forEach_keeps_on {σ ι α : Type} {g : σ → α} {f : ι → σ → σ} {l : List ι} (h : ∀ i ∈ l, ∀ s, g (f i s) = g s) (s : σ) :
    g (forEach l f s) = g s := by
  induction l generalizing s with
  | nil => rfl
  | cons a l ih =>
    obtain ⟨ha, hl⟩ := List.forall_mem_cons.mp h
    exact (ih hl (f a s)).trans (ha s)

/-- Where only the round of `k` changes what `g` reads, that round finds it as it was and leaves it as it will be. -/
theorem forEach_round {σ ι α : Type} {g : σ → α} {f : ι → σ → σ} {l : List ι} {k : ι} (hn : l.Nodup) (hk : k ∈ l)
    (h : ∀ i ∈ l, i ≠ k → ∀ s, g (f i s) = g s) (s : σ) : ∃ u, g u = g s ∧ g (forEach l f s) = g (f k u) := by
  obtain ⟨l₁, l₂, rfl⟩ := List.append_of_mem hk
  obtain ⟨-, h₂, hd⟩ := List.nodup_append.mp hn
  have hk₂ : k ∉ l₂ := (List.nodup_cons.mp h₂).1
  refine ⟨forEach l₁ f s, forEach_keeps_on (fun i hi => h i (by simp [hi]) (hd i hi k (by simp))) s, ?_⟩
  have he : forEach (l₁ ++ k :: l₂) f s = forEach l₂ f (f k (forEach l₁ f s)) := List.foldl_append
  rw [he]
  exact forEach_keeps_on (fun i hi => h i (by simp [hi]) fun e => hk₂ (e ▸ hi)) _

/-- The parameters that decide on charger `k`, and the one that shows it. -/
def chargerKeys (k : Nat) : List Nat := [K.CHG_STATUS + k, K.CHG_SET + k, K.EMIT_CTRL, K.PWR_STATUS]

/-- What the work on charger `k` reads. -/
def State.chargerView (s : State) (k : Nat) : Charger × List Word := (s.charger k, (chargerKeys k).map s.reg)

theorem State.fld_of_chargerView {u s : State} {k : Nat} (h : u.chargerView k = s.chargerView k) {f : FieldRef}
    (hf : f.key ∈ chargerKeys k) : u.fld f = s.fld f :=
  congrArg (wordFld · f) (List.map_inj_left.mp (Prod.ext_iff.mp h).2 _ hf)

theorem State.charger_of_chargerView {u s : State} {k : Nat} (h : u.chargerView k = s.chargerView k) :
    u.charger k = s.charger k := (Prod.ext_iff.mp h).1

theorem status_mem_chargerKeys {f : FieldRef} (k : Nat) (hf : f.key = K.CHG_STATUS) : (f.idx k).key ∈ chargerKeys k := by
  simp [chargerKeys, FieldRef.idx, hf]

theorem set_mem_chargerKeys {f : FieldRef} (k : Nat) (hf : f.key = K.CHG_SET) : (f.idx k).key ∈ chargerKeys k := by
  simp [chargerKeys, FieldRef.idx, hf]

theorem State.bit_of_chargerView {u s : State} {k : Nat} (h : u.chargerView k = s.chargerView k) {f : FieldRef}
    (hf : f.key ∈ chargerKeys k) : u.bit f = s.bit f := congrArg (· == 1) (State.fld_of_chargerView h hf)

theorem emitCtrl_mem_chargerKeys (k : Nat) : K.EMIT_CTRL ∈ chargerKeys k := by simp [chargerKeys]

theorem pwrStatus_mem_chargerKeys (k : Nat) : K.PWR_STATUS ∈ chargerKeys k := by simp [chargerKeys]

theorem State.chgState_of_chargerView {u s : State} {k : Nat} (h : u.chargerView k = s.chargerView k) :
    u.chgState k = s.chgState k := State.fld_of_chargerView h (status_mem_chargerKeys k rfl)

/-- `u` is `s` but for the parameters listed, the flag counters and the record of charger `i`. -/
structure State.OnlyCharger (u s : State) (i : Nat) (keys : List Nat) : Prop where
  frame : u.OnlyEmitters s keys
  others : ∀ j, j ≠ i → u.charger j = s.charger j

theorem State.OnlyCharger.refl (s : State) (i : Nat) (keys : List Nat) : s.OnlyCharger s i keys :=
  ⟨State.OnlyEmitters.refl s keys, fun _ _ => rfl⟩

section
variable {u s : State} {i : Nat} {keys : List Nat} (h : u.OnlyCharger s i keys)
include h

theorem State.OnlyCharger.setFld {f : FieldRef} (v : Nat) (hk : f.key ∈ keys) : (u.setFld f v).OnlyCharger s i keys :=
  ⟨h.frame.setFld v hk, h.others⟩

theorem State.OnlyCharger.setFlag {f : FieldRef} (hk : f.key ∈ keys) : (u.setFlag f).OnlyCharger s i keys :=
  ⟨h.frame.setFlag hk, h.others⟩

theorem State.OnlyCharger.setCharger (c : Charger) : (u.setCharger i c).OnlyCharger s i keys :=
  ⟨h.frame.setCharger i c, fun j hj => (Map.get_set_ne _ _ _ hj).trans (h.others j hj)⟩

theorem State.OnlyCharger.setChgState (v : Nat) (hk : K.CHG_STATUS + i ∈ keys) : (u.setChgState i v).OnlyCharger s i keys :=
  h.setFld (f := P.CHG_STATUS.STATE.idx i) v hk

/-- Another charger does not see it. -/
theorem State.OnlyCharger.chargerView {k : Nat} (hk : k ≠ i) (hkeys : ∀ j ∈ chargerKeys k, j ∉ keys) :
    u.chargerView k = s.chargerView k :=
  Prod.ext (h.others k hk) (List.map_inj_left.mpr fun j hj => h.frame.regs j (hkeys j hj))
end

/-- No charger reads the status of another, or the flags. -/
theorem chargerKeys_disjoint {i k : Nat} (hi : i < 4) (hk : k < 4) (hki : k ≠ i) :
    ∀ j ∈ chargerKeys k, j ∉ [K.CHG_STATUS + i, K.EMIT_FLAGS] := by
  simp only [chargerKeys, K.CHG_STATUS, K.CHG_SET, K.EMIT_CTRL, K.PWR_STATUS, K.EMIT_FLAGS,
    List.mem_cons, List.not_mem_nil, or_false]
  omega

/-- Work on some of the four chargers in turn: charger `k` is worked on as it was found, or left. -/
theorem State.forEach_chargerView {l : List Nat} {f : Nat → State → State} (hl : ∀ i ∈ l, i < 4) (hn : l.Nodup)
    (hf : ∀ i u, (f i u).OnlyCharger u i [K.CHG_STATUS + i, K.EMIT_FLAGS]) {k : Nat} (hk : k < 4) (s : State) :
    (k ∈ l → ∃ u : State, u.chargerView k = s.chargerView k ∧ (forEach l f s).chargerView k = (f k u).chargerView k) ∧
    (k ∉ l → (forEach l f s).chargerView k = s.chargerView k) := by
  have hother : ∀ i ∈ l, i ≠ k → ∀ u, (f i u).chargerView k = u.chargerView k := fun i hi hik u =>
    (hf i u).chargerView hik.symm (chargerKeys_disjoint (hl i hi) hk hik.symm)
  exact ⟨fun hkl => forEach_round (g := fun u => u.chargerView k) hn hkl hother s,
    fun hkl => forEach_keeps_on (g := fun u => u.chargerView k) (fun i hi => hother i hi fun e => hkl (e ▸ hi)) s⟩

/-- The status parameters of the four chargers, and some more. -/
def statusKeys (more : List Nat) : List Nat :=
  [K.CHG_STATUS, K.CHG_STATUS + 1, K.CHG_STATUS + 2, K.CHG_STATUS + 3] ++ more

theorem status_subset_statusKeys {i : Nat} (more : List Nat) (hi : i < 4) : (K.CHG_STATUS + i) :: more ⊆ statusKeys more := by
  intro j hj
  simp only [statusKeys, List.mem_cons, List.mem_append, List.not_mem_nil, or_false] at hj ⊢
  rcases hj with rfl | hj
  · omega
  · simp only [hj, or_true]

/-- Such work writes the status parameters of the chargers, and the flags. -/
theorem State.forEach_onlyEmitters {l : List Nat} {f : Nat → State → State} {more : List Nat} (hl : ∀ i ∈ l, i < 4)
    (hf : ∀ i u, (f i u).OnlyCharger u i ((K.CHG_STATUS + i) :: more)) (s : State) :
    (forEach l f s).OnlyEmitters s (statusKeys more) :=
  State.OnlyEmitters.forEach (fun i hi u => (hf i u).frame.mono (status_subset_statusKeys more (hl i hi))) s

/-- Work on all four. -/
theorem State.forUpto_chargerView {f : Nat → State → State}
    (hf : ∀ i u, (f i u).OnlyCharger u i [K.CHG_STATUS + i, K.EMIT_FLAGS]) {k : Nat} (hk : k < 4) (s : State) :
    ∃ u : State, u.chargerView k = s.chargerView k ∧ (forUpto 4 f s).chargerView k = (f k u).chargerView k :=
  (State.forEach_chargerView (fun _ => List.mem_range.mp) List.nodup_range hf hk s).1 (List.mem_range.mpr hk)

theorem State.forUpto_onlyEmitters {f : Nat → State → State}
    (hf : ∀ i u, (f i u).OnlyCharger u i [K.CHG_STATUS + i, K.EMIT_FLAGS]) (s : State) :
    (forUpto 4 f s).OnlyEmitters s (statusKeys [K.EMIT_FLAGS]) :=
  State.forEach_onlyEmitters (fun _ => List.mem_range.mp) hf s

/-! ### Fields of a charger's status -/

theorem State.charger_setCharger_self (s : State) (k : Nat) (c : Charger) : (s.setCharger k c).charger k = c :=
  Map.get_set_self _ _ _ _

theorem State.charger_setCharger_ne (s : State) {k j : Nat} (c : Charger) (h : j ≠ k) :
    (s.setCharger k c).charger j = s.charger j := Map.get_set_ne _ _ _ h

theorem State.charger_setFld (s : State) (f : FieldRef) (v k : Nat) : (s.setFld f v).charger k = s.charger k := id rfl

theorem State.charger_setFlag (s : State) (f : FieldRef) (k : Nat) : (s.setFlag f).charger k = s.charger k := id rfl

theorem State.setFlag_emit_ (s : State) (f : FieldRef) : (s.setFlag f).emit_ = s.emit_ := id rfl

theorem State.chgCode_setCharger (s : State) (k j : Nat) (c : Charger) : (s.setCharger k c).chgCode j = s.chgCode j := id rfl

theorem State.chgState_setCharger (s : State) (k j : Nat) (c : Charger) : (s.setCharger k c).chgState j = s.chgState j := id rfl

/-- A field of one of like parameters reads what was written to it. -/
theorem State.fld_setFld_idx_self (s : State) {f : FieldRef} (k v : Nat) (h : f.lo ≤ f.hi) (h64 : f.hi < 64)
    (hv : v < 2 ^ f.width) : (s.setFld (f.idx k) v).fld (f.idx k) = v :=
  (s.fld_setFld_self (f.idx k) v h h64).trans (Nat.mod_eq_of_lt hv)

/-- Its other fields stay. -/
theorem State.fld_setFld_idx_ne (s : State) {f g : FieldRef} (i k v : Nat) (h : f.lo ≤ f.hi) (h64 : f.hi < 64)
    (hd : f.hi < g.lo ∨ g.hi < f.lo) : (s.setFld (f.idx i) v).fld (g.idx k) = s.fld (g.idx k) :=
  s.fld_setFld_ne (f.idx i) (g.idx k) v h h64 hd

theorem State.flagCnt_setChgState (s : State) (k v : Nat) : (s.setChgState k v).flagCnt = s.flagCnt :=
  s.setFld_flagCnt _ v

theorem State.charger_setChgState (s : State) (i v k : Nat) : (s.setChgState i v).charger k = s.charger k :=
  s.charger_setFld _ v k

theorem State.chgState_setChgState_self (s : State) (k : Nat) {v : Nat} (hv : v < 8) : (s.setChgState k v).chgState k = v :=
  s.fld_setFld_idx_self k v (by decide) (by decide) hv

/-- STATE stands beside the other fields of CHG_STATUS. -/
theorem State.chgState_setFld_ne (s : State) {f : FieldRef} (i k v : Nat) (h : f.lo ≤ f.hi) (h64 : f.hi < 64)
    (hd : f.hi < P.CHG_STATUS.STATE.lo ∨ P.CHG_STATUS.STATE.hi < f.lo) : (s.setFld (f.idx i) v).chgState k = s.chgState k :=
  s.fld_setFld_idx_ne i k v h h64 hd

theorem State.chgActive_congr {u s : State} {k : Nat} (h : u.chgState k = s.chgState k) : u.chgActive k = s.chgActive k := by
  rw [State.chgActive, State.chgActive, h]

theorem State.chgActive_of_chargerView {u s : State} {k : Nat} (h : u.chargerView k = s.chargerView k) :
    u.chgActive k = s.chgActive k := State.chgActive_congr (State.chgState_of_chargerView h)

theorem State.chgActive_iff {s : State} {k : Nat} : s.chgActive k = true ↔ 1 ≤ s.chgState k ∧ s.chgState k ≤ 3 := by
  simp [State.chgActive]

/-- The status of a charger is none of the parameters before and after those of the four. -/
theorem status_key_ne {f : FieldRef} {k j : Nat} (hf : f.key = K.CHG_STATUS) (hk : k < 4)
    (hj : j < K.CHG_STATUS ∨ K.CHG_STATUS + 4 ≤ j) : j ≠ (f.idx k).key := by
  simp only [FieldRef.idx, hf]
  omega

/-- The set-points come before the status parameters. -/
theorem set_key_lt {f : FieldRef} {k : Nat} (hf : f.key = K.CHG_SET) (hk : k < 4) : (f.idx k).key < K.CHG_STATUS := by
  simp only [FieldRef.idx, hf, K.CHG_SET, K.CHG_STATUS]
  omega

end Sys2Proof.Machine
end

section
/-! PROOFS. A charger's control and its faults (R207, R210, R211, R216, R218): O23. -/
namespace Sys2Proof.Machine

/-! ### A sample (R207, R210) -/

/-- A charger's record as a sample leaves it, before the hysteretic law (R207, Table 9.6). -/
def Charger.sampled (c : Charger) (t code limit : Nat) (low : Bool) : Charger :=
  { c with codes := ((t, code) :: c.codes).take 17, ovRun := if limit < code then c.ovRun + 1 else 0, fltLow := low }

/-- The hysteretic law (R210). -/
def Charger.regulated (c : Charger) (t code ref band : Nat) : Charger :=
  if 2 * code + band < 2 * ref then c.drive true t else if 2 * ref + band < 2 * code then c.drive false t else c

/-- What the law makes of CHG_EN; the pin and the count of excesses stay. -/
theorem Charger.regulated_fields (c : Charger) (t code ref band : Nat) :
    (c.regulated t code ref band).chgEn =
      (if 2 * code + band < 2 * ref then true else if 2 * ref + band < 2 * code then false else c.chgEn) ∧
    (c.regulated t code ref band).fltLow = c.fltLow ∧ (c.regulated t code ref band).ovRun = c.ovRun := by
  unfold Charger.regulated
  split
  · exact ⟨rfl, rfl, rfl⟩
  · split <;> exact ⟨rfl, rfl, rfl⟩

/-- The device with a sample kept, before the overvoltage test and the law. -/
def State.measured (s : State) (t k code : Nat) (c : Charger) : State :=
  ((s.at_ t).setFld (P.CHG_STATUS.MEAS.idx k) code).setCharger k c

theorem State.chgState_measured (s : State) (t k code j : Nat) (c : Charger) :
    (s.measured t k code c).chgState j = s.chgState j :=
  (s.at_ t).chgState_setFld_ne (f := P.CHG_STATUS.MEAS) k j code (by decide) (by decide) (by decide)

theorem State.chgCode_measured (s : State) {t k code : Nat} (c : Charger) (hcode : code < 16384) :
    (s.measured t k code c).chgCode k = code :=
  (s.at_ t).fld_setFld_idx_self (f := P.CHG_STATUS.MEAS) k code (by decide) (by decide) hcode

/-- CHARGER_SAMPLE on an active charger: the third excess in a row is a fault, else the law acts (R210, Table 9.6). -/
theorem exec_chargerSample {s : State} {t k code : Nat} {low : Bool} {c : Charger} (ha : s.Awake) (ht : t % 20 = 0) (hk : k < 4)
    (hcode : code < 16384) (hact : s.chgActive k = true)
    (hc : c = (s.charger k).sampled t code (s.fld P.CHG_LIMITS.OV_LIMIT) low) : exec (.chargerSample t k code low) s =
      if 3 ≤ c.ovRun then .next ((s.measured t k code c).chargerFault k causeOV 0)
      else .next ((s.measured t k code c).setCharger k
        (c.regulated t code (s.fld (P.CHG_STATUS.REF.idx k)) (s.fld (P.CHG_SET.BAND.idx k)))) := by
  have hlim : ((s.at_ t).setFld (P.CHG_STATUS.MEAS.idx k) code).fld P.CHG_LIMITS.OV_LIMIT = s.fld P.CHG_LIMITS.OV_LIMIT :=
    State.fld_setFld_key _ _ _ _ (status_key_ne rfl hk (by decide))
  have hact' : (s.measured t k code c).chgActive k = true :=
    (State.chgActive_congr (s.chgState_measured t k code k c)).trans hact
  have href : (s.measured t k code c).fld (P.CHG_STATUS.REF.idx k) = s.fld (P.CHG_STATUS.REF.idx k) :=
    (s.at_ t).fld_setFld_idx_ne (f := P.CHG_STATUS.MEAS) k k code (by decide) (by decide) (by decide)
  have hband : (s.measured t k code c).fld (P.CHG_SET.BAND.idx k) = s.fld (P.CHG_SET.BAND.idx k) :=
    (s.at_ t).fld_setFld_key _ _ _ (status_key_ne rfl hk (Or.inl (set_key_lt rfl hk)))
  have hg : ¬(t % 20 ≠ 0 ∨ 4 ≤ k ∨ 16384 ≤ code) := by omega
  have hrun : (c.ovRun = 3 ∨ 3 ≤ c.ovRun ∧ (s.measured t k code c).chgActive k = true) ↔ 3 ≤ c.ovRun :=
    ⟨fun h => h.elim Eq.ge And.left, fun h => Or.inr ⟨h, hact'⟩⟩
  have hexec : exec (.chargerSample t k code low) s =
      if c.ovRun = 3 ∨ (3 ≤ c.ovRun ∧ (s.measured t k code c).chgActive k = true) then
        .next ((s.measured t k code c).chargerFault k causeOV 0)
      else if (s.measured t k code c).chgActive k = true then
        .next ((s.measured t k code c).setCharger k (c.regulated t code ((s.measured t k code c).fld (P.CHG_STATUS.REF.idx k))
          ((s.measured t k code c).fld (P.CHG_SET.BAND.idx k))))
      else .next ((s.measured t k code c).setCharger k (c.drive false t)) := by
    rw [hc, ← hlim]
    exact (if_neg (Bool.eq_false_iff.mp ha)).trans (if_neg hg)
  rw [hexec, if_pos hact', href, hband]
  exact if_congr hrun rfl rfl

/-! ### A 1 µs tick (R211) -/

/-- The ramp law moves the reference as `slewTo` does. -/
theorem ramp_eq_slewTo (x target step : Nat) :
    (if x < target then Nat.min target (x + step) else if target < x then Nat.max target (x - step) else x) =
      slewTo x target step := by
  unfold slewTo
  split
  · rfl
  · next hge =>
    split
    · rfl
    · next hle =>
      obtain rfl : x = target := by omega
      exact (Nat.max_eq_left (Nat.sub_le x step)).symm

theorem State.rampOne_of_idle {s : State} {k : Nat} (t : Nat) (h : s.chgActive k = false) : s.rampOne t k = s :=
  if_neg (Bool.eq_false_iff.mp h)

/-- Where a tick takes the reference of a charger: its load, or a step of the ramp (R211, R213). -/
def Charger.nextRef (c : Charger) (t target step : Nat) : Nat :=
  if c.loadDue then 100 * sumN ((c.codes.filter (fun e => decide (e.1 < t) && decide (t ≤ e.1 + 320))).map (·.2)) / 16
  else slewTo c.refF target step

/-- Charger `k` with its reference moved to `ref` (R211, R213). -/
def State.ramped (s : State) (k ref : Nat) : State :=
  (s.setCharger k { s.charger k with refF := ref, loadDue := false }).setFld (P.CHG_STATUS.REF.idx k) (ref / 100)

theorem State.refF_ramped (s : State) (k ref : Nat) : ((s.ramped k ref).charger k).refF = ref :=
  congrArg Charger.refF (s.charger_setCharger_self k _)

theorem State.flagCnt_ramped (s : State) (k ref : Nat) : (s.ramped k ref).flagCnt = s.flagCnt := id rfl

theorem State.chgState_ramped (s : State) (k ref : Nat) : (s.ramped k ref).chgState k = s.chgState k :=
  State.chgState_setFld_ne (f := P.CHG_STATUS.REF) _ k k _ (by decide) (by decide) (by decide)

/-- A tick moves the reference of an active charger, and takes one that is at its target to REGULATE (R211, Table 9.4). -/
theorem State.rampOne_of_active {s : State} {k ref : Nat} (t : Nat) (h : s.chgActive k = true)
    (href : ref = (s.charger k).nextRef t (100 * s.fld (P.CHG_STATUS.TGT.idx k)) (s.fld (P.CHG_SET.SLEW.idx k))) :
    s.rampOne t k = if ref = 100 * s.fld (P.CHG_STATUS.TGT.idx k) ∧ (s.chgState k = 1 ∨ s.chgState k = 2) then
      (s.ramped k ref).setChgState k 3 else s.ramped k ref := by
  rw [Charger.nextRef] at href
  rw [State.rampOne, if_pos h, ← s.chgState_ramped k ref]
  simp only [ramp_eq_slewTo, ← href]
  rfl

/-- A tick works on one charger's record and status. -/
theorem State.rampOne_onlyCharger (s : State) (t k : Nat) :
    (s.rampOne t k).OnlyCharger s k [K.CHG_STATUS + k, K.EMIT_FLAGS] ∧ (s.rampOne t k).flagCnt = s.flagCnt := by
  cases h : s.chgActive k with
  | false =>
    rw [State.rampOne_of_idle t h]
    exact ⟨State.OnlyCharger.refl s k _, rfl⟩
  | true =>
    have hr := State.rampOne_of_active t h rfl
    have hramped : ∀ ref, (s.ramped k ref).OnlyCharger s k [K.CHG_STATUS + k, K.EMIT_FLAGS] := fun _ =>
      ((State.OnlyCharger.refl s k _).setCharger _).setFld _ List.mem_cons_self
    rw [hr]
    split
    · exact ⟨(hramped _).setChgState 3 List.mem_cons_self, (State.flagCnt_setChgState _ _ _).trans (s.flagCnt_ramped k _)⟩
    · exact ⟨hramped _, s.flagCnt_ramped k _⟩

/-- A ramping charger whose reference has been loaded: it moves as SLEW lets it, and at the target REGULATE is reached. -/
theorem State.rampOne_ramps {s : State} {k : Nat} (t : Nat) (hact : s.chgActive k = true)
    (hload : (s.charger k).loadDue = false) :
    ((s.rampOne t k).charger k).refF =
      slewTo (s.charger k).refF (100 * s.fld (P.CHG_STATUS.TGT.idx k)) (s.fld (P.CHG_SET.SLEW.idx k)) ∧
    (((s.rampOne t k).charger k).refF = 100 * s.fld (P.CHG_STATUS.TGT.idx k) → (s.rampOne t k).chgState k = 3) := by
  obtain ⟨h1, h3⟩ := State.chgActive_iff.mp hact
  have href : slewTo (s.charger k).refF (100 * s.fld (P.CHG_STATUS.TGT.idx k)) (s.fld (P.CHG_SET.SLEW.idx k)) =
      (s.charger k).nextRef t (100 * s.fld (P.CHG_STATUS.TGT.idx k)) (s.fld (P.CHG_SET.SLEW.idx k)) := by
    simp [Charger.nextRef, hload]
  rw [State.rampOne_of_active t hact href]
  split
  · rw [State.charger_setChgState]
    exact ⟨s.refF_ramped k _, fun _ => State.chgState_setChgState_self _ k (by decide)⟩
  · next hend =>
    refine ⟨s.refF_ramped k _, fun he => ?_⟩
    rw [s.refF_ramped] at he
    rw [s.chgState_ramped]
    omega

/-- A tick works on the status of the chargers and on their records. -/
theorem State.ramps_onlyEmitters (s : State) (t : Nat) :
    (forUpto 4 (State.rampOne t) s).OnlyEmitters s (statusKeys [K.EMIT_FLAGS]) ∧
    (forUpto 4 (State.rampOne t) s).flagCnt = s.flagCnt :=
  ⟨State.forUpto_onlyEmitters (fun i u => (u.rampOne_onlyCharger t i).1) s,
    forUpto_keeps State.flagCnt _ _ _ fun i u => (u.rampOne_onlyCharger t i).2⟩

/-- Each active charger ramps as it does alone (`State.rampOne_ramps`). -/
theorem State.ramps_of_active {s : State} {k : Nat} (t : Nat) (hk : k < 4) (hact : s.chgActive k = true)
    (hload : (s.charger k).loadDue = false) :
    ((forUpto 4 (State.rampOne t) s).charger k).refF =
      slewTo (s.charger k).refF (100 * s.fld (P.CHG_STATUS.TGT.idx k)) (s.fld (P.CHG_SET.SLEW.idx k)) ∧
    (((forUpto 4 (State.rampOne t) s).charger k).refF = 100 * s.fld (P.CHG_STATUS.TGT.idx k) →
      (forUpto 4 (State.rampOne t) s).chgState k = 3) := by
  obtain ⟨u, hu, hv⟩ := State.forUpto_chargerView (fun i u => (u.rampOne_onlyCharger t i).1) hk s
  obtain ⟨href, hend⟩ := State.rampOne_ramps t ((State.chgActive_of_chargerView hu).trans hact)
    ((congrArg Charger.loadDue (State.charger_of_chargerView hu)).trans hload)
  rw [State.fld_of_chargerView hu (status_mem_chargerKeys k rfl)] at href hend
  rw [State.fld_of_chargerView hu (set_mem_chargerKeys k rfl), State.charger_of_chargerView hu] at href
  rw [State.charger_of_chargerView hv, State.chgState_of_chargerView hv]
  exact ⟨href, hend⟩

/-- And a charger in OFF or FAULT stays as it is. -/
theorem State.ramps_of_idle {s : State} {k : Nat} (t : Nat) (hk : k < 4) (hidle : s.chgActive k = false) :
    (forUpto 4 (State.rampOne t) s).charger k = s.charger k ∧ (forUpto 4 (State.rampOne t) s).chgState k = s.chgState k := by
  obtain ⟨u, hu, hv⟩ := State.forUpto_chargerView (fun i u => (u.rampOne_onlyCharger t i).1) hk s
  rw [State.rampOne_of_idle t ((State.chgActive_of_chargerView hu).trans hidle)] at hv
  exact ⟨State.charger_of_chargerView (hv.trans hu), State.chgState_of_chargerView (hv.trans hu)⟩

/-! ### Faults (R216, Table 9.6) -/

theorem State.logRecord_reg (s : State) (r : Record) (n : Nat) {j : Nat} (hj : j ≠ K.FAULT_LOG_STATUS) :
    (s.logRecord r n).reg j = s.reg j := by
  unfold State.logRecord
  split
  · rfl
  · exact State.reg_setFld_ne _ P.FAULT_LOG_STATUS.OVERWRITTEN _ hj

theorem State.recEvent_reg (s : State) (kind cluster j : Nat) : (s.recEvent kind cluster).reg j = s.reg j := by
  unfold State.recEvent
  dsimp only
  split <;> rfl

theorem State.queueNotice_reg (s : State) (r : Record) (n j : Nat) : (s.queueNotice r n).reg j = s.reg j := by
  unfold State.queueNotice
  split <;> rfl

theorem State.reg_withRecs (s : State) (x : RecUnit) (j : Nat) : State.reg { s with recs := x } j = s.reg j := id rfl

/-- Forming a record writes no parameter but FAULT_LOG_STATUS (R478, R480). -/
theorem State.record_reg (s : State) (kind cls : Nat) (log notice : Bool) (data : List Byte) {j : Nat}
    (hj : j ≠ K.FAULT_LOG_STATUS) : (s.record kind cls log notice data).reg j = s.reg j := by
  have hseq : ∀ v, (s.setFld P.FAULT_LOG_STATUS.NEXT_SEQ v).reg j = s.reg j := fun v => State.reg_setFld_ne s _ v hj
  cases log <;> cases notice <;>
    simp only [State.record, if_true, Bool.false_eq_true, if_false, State.queueNotice_reg, State.recEvent_reg,
      State.logRecord_reg _ _ _ hj, State.reg_withRecs, hseq]

/-- What does not depend on registers, counters and records is as it was before a record was formed. -/
theorem State.record_proj {α : Type} (s : State) (kind cls : Nat) (log notice : Bool) (data : List Byte) (g : State → α)
    (hg : ∀ x : State, g x.unlogged = g x := by exact fun _ => rfl) : g (s.record kind cls log notice data) = g s :=
  of_frame (s.record_unlogged kind cls log notice data) g hg

/-- The times of a charger's faults of the last ten seconds, one of them now (R217). -/
def Charger.timesWith (c : Charger) (now : Nat) : List Int :=
  ((now : Int) :: c.faultTimes).filter (fun t => decide ((now : Int) < t + 10000000000))

/-- The record of a charger that enters FAULT: CHG_EN falls (R216). -/
def Charger.faulted (c : Charger) (now : Nat) (times : List Int) : Charger :=
  { c.drive false now with faultTimes := times, loadDue := false, lastCause := some now, faultSeen := true }

/-- Charger `k` in FAULT, LATCHED at the third fault, before its cause is shown (R216, R217). -/
def State.inFault (s : State) (k : Nat) (times : List Int) : State :=
  let u := (s.setCharger k ((s.charger k).faulted s.now times)).setChgState k 4
  if 3 ≤ times.length then u.setFld (P.CHG_STATUS.LATCHED.idx k) 1 else u

/-- The same with the cause and the flag shown (R216). -/
def State.faultShown (s : State) (k cause : Nat) (times : List Int) : State :=
  ((s.inFault k times).setFld (P.CHG_STATUS.FAULT_CAUSE.idx k) cause).setFlag (P.EMIT_FLAGS.CHG_FAULT.bitAt k)

/-- An active charger's fault enters FAULT, is shown, and is recorded (R216). -/
theorem State.chargerFault_of_active {s : State} {k : Nat} {times : List Int} (cause : Nat) (h : s.chgActive k = true)
    (ht : times = (s.charger k).timesWith s.now) :
    s.chargerFault k cause 0 = (s.faultShown k cause times).record 0x0901 2 true true
      (leBytes 1 k ++ leBytes 1 cause ++ leBytes 2 ((s.faultShown k cause times).chgCode k) ++ leBytes 2 0) := by
  have hbanks : maskBits 16 0 = [] := by decide
  rw [Charger.timesWith] at ht
  simp only [State.chargerFault, if_pos h, ← ht, hbanks, forEach, List.foldl_nil]
  rfl

theorem State.inFault_onlyCharger (s : State) (k : Nat) (times : List Int) :
    (s.inFault k times).OnlyCharger s k [K.CHG_STATUS + k, K.EMIT_FLAGS] := by
  have hin : (((s.setCharger k ((s.charger k).faulted s.now times))).setChgState k 4).OnlyCharger s k
      [K.CHG_STATUS + k, K.EMIT_FLAGS] :=
    ((State.OnlyCharger.refl s k _).setCharger _).setChgState 4 List.mem_cons_self
  unfold State.inFault
  dsimp only
  split
  · exact hin.setFld (f := P.CHG_STATUS.LATCHED.idx k) 1 List.mem_cons_self
  · exact hin

theorem State.inFault_fields (s : State) (k : Nat) (times : List Int) :
    (s.inFault k times).chgState k = 4 ∧ ((s.inFault k times).charger k).chgEn = false := by
  have hst : ((s.setCharger k ((s.charger k).faulted s.now times)).setChgState k 4).chgState k = 4 :=
    State.chgState_setChgState_self _ k (by decide)
  have hen : (((s.setCharger k ((s.charger k).faulted s.now times)).setChgState k 4).charger k).chgEn = false := by
    rw [State.charger_setChgState, State.charger_setCharger_self]
    rfl
  unfold State.inFault
  dsimp only
  split
  · exact ⟨(State.chgState_setFld_ne (f := P.CHG_STATUS.LATCHED) _ k k 1 (by decide) (by decide) (by decide)).trans hst,
      (congrArg Charger.chgEn (State.charger_setFld _ _ _ k)).trans hen⟩
  · exact ⟨hst, hen⟩

/-- What a fault of an active charger leaves: FAULT with its cause, CHG_EN low, and nothing else of the device touched but flags,
records and what hangs on them (R216). -/
theorem State.chargerFault_fields {s : State} {k cause : Nat} (hk : k < 4) (hcause : cause < 16) (h : s.chgActive k = true) :
    (s.chargerFault k cause 0).chgState k = 4 ∧ (s.chargerFault k cause 0).fld (P.CHG_STATUS.FAULT_CAUSE.idx k) = cause ∧
    ((s.chargerFault k cause 0).charger k).chgEn = false ∧ (∀ j, j ≠ k → (s.chargerFault k cause 0).charger j = s.charger j) ∧
    (s.chargerFault k cause 0).hist = s.hist ∧ (s.chargerFault k cause 0).mirror = s.mirror ∧
    (s.chargerFault k cause 0).nv = s.nv := by
  obtain ⟨times, htimes⟩ : ∃ times, times = (s.charger k).timesWith s.now := ⟨_, rfl⟩
  have hf := State.chargerFault_of_active cause h htimes
  obtain ⟨hst, hen⟩ := s.inFault_fields k times
  have hshown : (s.faultShown k cause times).OnlyCharger s k [K.CHG_STATUS + k, K.EMIT_FLAGS] :=
    ((s.inFault_onlyCharger k _).setFld (f := P.CHG_STATUS.FAULT_CAUSE.idx k) cause List.mem_cons_self).setFlag
      (f := P.EMIT_FLAGS.CHG_FAULT.bitAt k) (List.mem_cons_of_mem _ List.mem_cons_self)
  have hfld : ∀ f : FieldRef, f.key = K.CHG_STATUS → (s.chargerFault k cause 0).fld (f.idx k) =
      ((s.inFault k times).setFld (P.CHG_STATUS.FAULT_CAUSE.idx k) cause).fld (f.idx k) := fun f hkey => by
    rw [hf, State.fld, State.record_reg _ _ _ _ _ _ (status_key_ne hkey hk (by decide)).symm]
    exact State.fld_setFlag_key _ _ _ (status_key_ne (j := K.EMIT_FLAGS) hkey hk (by decide)).symm
  have hg : ∀ {α : Type} (g : State → α), (∀ x : State, g x.unlogged = g x) →
      g (s.chargerFault k cause 0) = g (s.faultShown k cause times) := fun g hg => by
    rw [hf]
    exact State.record_proj _ _ _ _ _ _ g hg
  have hch : ∀ j, (s.chargerFault k cause 0).charger j = (s.faultShown k cause times).charger j := fun j =>
    hg (fun x => x.charger j) fun _ => rfl
  have hcharger : (s.faultShown k cause times).charger k = (s.inFault k times).charger k :=
    (State.charger_setFlag _ _ k).trans (State.charger_setFld (s.inFault k times) (P.CHG_STATUS.FAULT_CAUSE.idx k) cause k)
  obtain ⟨hhist, hmirror, -, -, hnv⟩ := hshown.frame.device
  refine ⟨?_, ?_, ?_, fun j hj => (hch j).trans (hshown.others j hj), (hg State.hist fun _ => rfl).trans hhist,
    (hg State.mirror fun _ => rfl).trans hmirror, (hg State.nv fun _ => rfl).trans hnv⟩
  · rw [State.chgState, hfld P.CHG_STATUS.STATE rfl]
    exact (State.chgState_setFld_ne (f := P.CHG_STATUS.FAULT_CAUSE) _ k k cause (by decide) (by decide) (by decide)).trans hst
  · rw [hfld P.CHG_STATUS.FAULT_CAUSE rfl]
    exact State.fld_setFld_idx_self _ k cause (by decide) (by decide) hcause
  · rw [hch, hcharger]
    exact hen

/-! ### The commands -/

/-- CHG_EN has been high for CHG_TIMEOUT µs (Table 9.6). -/
theorem exec_chgTimeout {s : State} {t k t0 : Nat} (ha : s.Awake) (hsince : (s.charger k).enSince = some t0)
    (ht : t0 + 1000 * s.fld P.CHG_LIMITS.CHG_TIMEOUT ≤ t) :
    exec (.chgTimeout t k) s = .next ((s.at_ t).chargerFault k causeTimeout 0) := by
  have hsince' : ((s.at_ t).charger k).enSince = some t0 := hsince
  have hexec : exec (.chgTimeout t k) s = execChgTimeout t k s := rfl
  rw [hexec, execChgTimeout, if_neg (Bool.eq_false_iff.mp ha)]
  simp only [hsince']
  exact if_pos ht

/-- CHG_FLT_N has been low for 100 ns (Table 9.6). -/
theorem exec_chgExtFault {s : State} {k : Nat} (t : Nat) (ha : s.Awake) (hk : k < 4) : exec (.chgExtFault t k) s =
    .next (((s.at_ t).setCharger k { s.charger k with fltLow := true }).chargerFault k causeExt 0) :=
  (if_neg (Bool.eq_false_iff.mp ha)).trans (if_neg (Nat.not_le.mpr hk))

/-- A 1 µs tick (R211). -/
theorem exec_rampTick {s : State} {t : Nat} (ha : s.Awake) (ht : t % 1000 = 0) :
    exec (.rampTick t) s = .next (forUpto 4 (State.rampOne t) (s.at_ t)) :=
  (if_neg (Bool.eq_false_iff.mp ha)).trans (if_neg (not_not.mpr ht))

/-! ### The statement -/

/-- Settles O23: each command by its equation above, a fault by what it leaves (`State.chargerFault_fields`), and a tick of the
four ramps by what it makes of each charger (`State.ramps_of_active`, `State.ramps_of_idle`). -/
theorem chargers : Obligations.Chargers := by
  unfold Obligations.Chargers
  refine ⟨fun s t k code f ha ht hk hcode hlim hact => ?_, fun s t k code f ha ht hk hcode hlim hrun hact => ?_,
    fun s t ha ht => ?_, fun s t k t0 ha hk hsince ht hact => ?_, fun s t k ha hk hact => ?_, fun s t ha ht => ?_⟩
  -- CHARGER_SAMPLE within OV_LIMIT
  · have hrun : ((s.charger k).sampled t code (s.fld P.CHG_LIMITS.OV_LIMIT) f).ovRun = 0 := if_neg (Nat.not_lt.mpr hlim)
    have hexec := (exec_chargerSample (low := f) ha ht hk hcode hact rfl).trans (if_neg (by omega))
    generalize hc : (s.charger k).sampled t code (s.fld P.CHG_LIMITS.OV_LIMIT) f = c at hrun hexec
    have hen : c.chgEn = (s.charger k).chgEn := hc ▸ rfl
    have hlow : c.fltLow = f := hc ▸ rfl
    obtain ⟨hlaw, hpin, hcount⟩ := c.regulated_fields t code (s.fld (P.CHG_STATUS.REF.idx k)) (s.fld (P.CHG_SET.BAND.idx k))
    have hself := (s.measured t k code c).charger_setCharger_self k
      (c.regulated t code (s.fld (P.CHG_STATUS.REF.idx k)) (s.fld (P.CHG_SET.BAND.idx k)))
    refine ⟨_, hexec, ?_, s.chgState_measured t k code k c, ?_, ?_, ?_, fun j hj => ?_, fun j hj => ?_, rfl⟩
    · rw [State.chgCode_setCharger, s.chgCode_measured c hcode]
    · rw [hself, hpin, hlow]
    · rw [hself, hcount, hrun]
    · rw [hself, hlaw, hen]
    · exact (State.charger_setCharger_ne _ _ hj).trans (State.charger_setCharger_ne _ _ hj)
    · exact State.reg_setFld_ne (s.at_ t) (P.CHG_STATUS.MEAS.idx k) code hj
  -- CHARGER_SAMPLE, the third excess
  · have hrun3 : 3 ≤ ((s.charger k).sampled t code (s.fld P.CHG_LIMITS.OV_LIMIT) f).ovRun := by
      rw [Charger.sampled, if_pos hlim]
      exact Nat.succ_le_succ hrun
    have hexec := (exec_chargerSample ha ht hk hcode hact rfl).trans (if_pos hrun3)
    obtain ⟨hst, hcause, -⟩ := State.chargerFault_fields (cause := causeOV) hk (by decide)
      ((State.chgActive_congr (s.chgState_measured t k code k _)).trans hact)
    exact ⟨_, hexec, hst, hcause⟩
  -- RAMP_TICK
  · obtain ⟨hframe, hflagCnt⟩ := (s.at_ t).ramps_onlyEmitters t
    exact ⟨_, exec_rampTick ha ht, hframe.proj State.now rfl, fun k hk hact hload => State.ramps_of_active t hk hact hload,
      fun k hk hidle => State.ramps_of_idle t hk hidle, hframe.rest_of_flagCnt hflagCnt⟩
  -- CHG_TIMEOUT
  · obtain ⟨hst, hcause, hen, hothers, hdev⟩ := State.chargerFault_fields (s := s.at_ t) (cause := causeTimeout) hk
      (by decide) hact
    exact ⟨_, exec_chgTimeout ha hsince ht, hst, hcause, hen, hothers, hdev⟩
  -- CHG_EXT_FAULT
  · obtain ⟨hst, hcause, hen, hothers, hdev⟩ := State.chargerFault_fields (cause := causeExt)
      (s := (s.at_ t).setCharger k { s.charger k with fltLow := true }) hk (by decide) hact
    exact ⟨_, exec_chgExtFault t ha hk, hst, hcause, hen,
      fun j hj => (hothers j hj).trans (State.charger_setCharger_ne _ _ hj), hdev⟩
  -- EXP_SLOT_END
  · exact ⟨_, (if_neg (Bool.eq_false_iff.mp ha)).trans (if_neg (not_not.mpr ht)), rfl, rfl, rfl⟩

end Sys2Proof.Machine
end

section
/-! PROOFS. Accepted writes on the emitters (R208, R214, R217, R220, R222): O24. -/
namespace Sys2Proof.Machine

/-! ### A charger's enables (R208, Table 9.4) -/

theorem State.chargerEnable_onlyCharger (s : State) (k : Nat) :
    (s.chargerEnable k).OnlyCharger s k [K.CHG_STATUS + k, K.EMIT_FLAGS] := by
  have hset : ∀ v, (s.setChgState k v).OnlyCharger s k [K.CHG_STATUS + k, K.EMIT_FLAGS] := fun v =>
    (State.OnlyCharger.refl s k _).setChgState v List.mem_cons_self
  unfold State.chargerEnable
  dsimp only
  split
  · split
    · exact (hset 1).setCharger _
    · exact State.OnlyCharger.refl s k _
  · exact (hset 0).setCharger _

/-- Without EMIT_EN a charger is OFF. -/
theorem State.chargerEnable_off {s : State} {k : Nat} (h : s.bit P.EMIT_CTRL.EMIT_EN = false) :
    (s.chargerEnable k).chgState k = 0 := by
  have hoff : s.chargerEnable k = (s.setChgState k 0).setCharger k ((s.charger k).drive false s.now) :=
    if_neg (by simp [h])
  rw [hoff, State.chgState_setCharger]
  exact State.chgState_setChgState_self s k (by decide)

/-- An enabled charger that is OFF and not LATCHED starts. -/
theorem State.chargerEnable_starts {s : State} {k : Nat} (hen : s.bit P.EMIT_CTRL.EMIT_EN = true)
    (hch : s.bit (P.CHG_SET.CH_EN.idx k) = true) (hdom : s.domOn 33 = true) (hst : s.chgState k = 0)
    (hlatched : s.bit (P.CHG_STATUS.LATCHED.idx k) = false) : (s.chargerEnable k).chgState k = 1 := by
  have hon : s.chargerEnable k = (s.setChgState k 1).setCharger k { s.charger k with loadDue := true } :=
    (if_pos (by simp [hen, hch, hdom])).trans (if_pos (by simp [hst, hlatched]))
  rw [hon, State.chgState_setCharger]
  exact State.chgState_setChgState_self s k (by decide)

/-! ### The effective target (R222) -/

/-- Charger `k` with a target formed and its clamps shown, before a charger in REGULATE moves on to RAMP (R222). -/
def State.targetShown (s : State) (k tgt causes : Nat) (clamped : Bool) : State :=
  let u := (s.setFld (P.CHG_STATUS.TGT.idx k) tgt).setFld (P.CHG_STATUS.CLAMP_CAUSE.idx k) causes
  if clamped then u.setFlag (P.EMIT_FLAGS.POLICY_CLAMPED.bitAt k) else u

/-- A target is formed at SETPOINT or below it, and a new one takes REGULATE to RAMP (R222, Table 9.4). -/
theorem State.targetForm_eq (s : State) (gait k : Nat) : ∃ tgt causes clamped, tgt ≤ s.fld (P.CHG_SET.SETPOINT.idx k) ∧
    s.targetForm gait k =
      if (s.targetShown k tgt causes clamped).chgState k = 3 ∧ tgt ≠ s.fld (P.CHG_STATUS.TGT.idx k) then
        (s.targetShown k tgt causes clamped).setChgState k 2 else s.targetShown k tgt causes clamped :=
  ⟨_, _, _, (Nat.min_le_left _ _).trans (Nat.min_le_left _ _), rfl⟩

theorem State.targetShown_onlyCharger (s : State) (k tgt causes : Nat) (clamped : Bool) :
    (s.targetShown k tgt causes clamped).OnlyCharger s k [K.CHG_STATUS + k, K.EMIT_FLAGS] ∧
    (s.targetShown k tgt causes clamped).emit_ = s.emit_ := by
  have hset := ((State.OnlyCharger.refl s k [K.CHG_STATUS + k, K.EMIT_FLAGS]).setFld (f := P.CHG_STATUS.TGT.idx k) tgt
    List.mem_cons_self).setFld (f := P.CHG_STATUS.CLAMP_CAUSE.idx k) causes List.mem_cons_self
  have hemit : ((s.setFld (P.CHG_STATUS.TGT.idx k) tgt).setFld (P.CHG_STATUS.CLAMP_CAUSE.idx k) causes).emit_ = s.emit_ :=
    (State.setFld_emit_ _ _ _).trans (s.setFld_emit_ _ _)
  cases clamped with
  | true => exact ⟨hset.setFlag (f := P.EMIT_FLAGS.POLICY_CLAMPED.bitAt k) (List.mem_cons_of_mem _ List.mem_cons_self),
      (State.setFlag_emit_ _ _).trans hemit⟩
  | false => exact ⟨hset, hemit⟩

theorem State.targetShown_chgState (s : State) {k : Nat} (tgt causes : Nat) (clamped : Bool) (hk : k < 4) :
    (s.targetShown k tgt causes clamped).chgState k = s.chgState k := by
  have hset : ((s.setFld (P.CHG_STATUS.TGT.idx k) tgt).setFld (P.CHG_STATUS.CLAMP_CAUSE.idx k) causes).chgState k =
      s.chgState k :=
    (State.chgState_setFld_ne (f := P.CHG_STATUS.CLAMP_CAUSE) _ k k causes (by decide) (by decide) (by decide)).trans
      (State.chgState_setFld_ne (f := P.CHG_STATUS.TGT) s k k tgt (by decide) (by decide) (by decide))
  cases clamped with
  | true => exact (State.fld_setFlag_key _ (P.EMIT_FLAGS.POLICY_CLAMPED.bitAt k) (P.CHG_STATUS.STATE.idx k)
      (status_key_ne (j := K.EMIT_FLAGS) rfl hk (by decide)).symm).trans hset
  | false => exact hset

theorem State.targetShown_tgt (s : State) {k : Nat} (tgt causes : Nat) (clamped : Bool) (hk : k < 4) :
    (s.targetShown k tgt causes clamped).fld (P.CHG_STATUS.TGT.idx k) = tgt % 2 ^ P.CHG_STATUS.TGT.width := by
  have hset : ((s.setFld (P.CHG_STATUS.TGT.idx k) tgt).setFld (P.CHG_STATUS.CLAMP_CAUSE.idx k) causes).fld
      (P.CHG_STATUS.TGT.idx k) = tgt % 2 ^ P.CHG_STATUS.TGT.width :=
    (State.fld_setFld_idx_ne (f := P.CHG_STATUS.CLAMP_CAUSE) _ k k causes (by decide) (by decide) (by decide)).trans
      (s.fld_setFld_self (P.CHG_STATUS.TGT.idx k) tgt (by decide : (32 : Nat) ≤ 45) (by decide : 45 < 64))
  cases clamped with
  | true => exact (State.fld_setFlag_key _ (P.EMIT_FLAGS.POLICY_CLAMPED.bitAt k) (P.CHG_STATUS.TGT.idx k)
      (status_key_ne (j := K.EMIT_FLAGS) rfl hk (by decide)).symm).trans hset
  | false => exact hset

/-- Forming a target leaves the emitters' own record, and works on one charger's status and flag. -/
theorem State.targetForm_onlyCharger (s : State) (gait k : Nat) :
    (s.targetForm gait k).OnlyCharger s k [K.CHG_STATUS + k, K.EMIT_FLAGS] ∧ (s.targetForm gait k).emit_ = s.emit_ := by
  obtain ⟨tgt, causes, clamped, -, hform⟩ := s.targetForm_eq gait k
  obtain ⟨hshown, hemit⟩ := s.targetShown_onlyCharger k tgt causes clamped
  rw [hform]
  split
  · exact ⟨hshown.setChgState 2 List.mem_cons_self, (State.setFld_emit_ _ _ _).trans hemit⟩
  · exact ⟨hshown, hemit⟩

/-- A target formed does not exceed SETPOINT (R222). -/
theorem State.targetForm_tgt_le (s : State) (gait : Nat) {k : Nat} (hk : k < 4) :
    (s.targetForm gait k).fld (P.CHG_STATUS.TGT.idx k) ≤ s.fld (P.CHG_SET.SETPOINT.idx k) := by
  obtain ⟨tgt, causes, clamped, hle, hform⟩ := s.targetForm_eq gait k
  have htgt : (s.targetForm gait k).fld (P.CHG_STATUS.TGT.idx k) = tgt % 2 ^ P.CHG_STATUS.TGT.width := by
    rw [hform]
    split
    · exact (State.fld_setFld_idx_ne (f := P.CHG_STATUS.STATE) _ k k 2 (by decide) (by decide) (by decide)).trans
        (s.targetShown_tgt tgt causes clamped hk)
    · exact s.targetShown_tgt tgt causes clamped hk
  rw [htgt]
  exact (Nat.mod_le _ _).trans hle

/-- Only a charger in REGULATE changes its state with its target. -/
theorem State.targetForm_chgState {s : State} {k : Nat} (gait : Nat) (hk : k < 4) (hst : s.chgState k ≠ 3) :
    (s.targetForm gait k).chgState k = s.chgState k := by
  obtain ⟨tgt, causes, clamped, -, hform⟩ := s.targetForm_eq gait k
  have hshown := s.targetShown_chgState tgt causes clamped hk
  rw [hform, if_neg fun h => hst (hshown.symm.trans h.1), hshown]

/-! ### CHG_CLEAR (R214, R217) -/

/-- What lets CHG_CLEAR take a charger out of FAULT: its cause is gone, it is not LATCHED, both enables are set (Table 9.4). -/
abbrev State.Clearable (s : State) (k : Nat) : Prop :=
  s.chgState k = 4 ∧ (s.charger k).fltLow = false ∧ (s.charger k).ovRun < 3 ∧ s.bit (P.CHG_STATUS.LATCHED.idx k) = false ∧
    s.bit P.EMIT_CTRL.EMIT_EN = true ∧ s.bit (P.CHG_SET.CH_EN.idx k) = true

theorem State.clearable_of_chargerView {u s : State} {k : Nat} (h : u.chargerView k = s.chargerView k) :
    u.Clearable k ↔ s.Clearable k := by
  rw [State.Clearable, State.Clearable, State.chgState_of_chargerView h, State.charger_of_chargerView h,
    State.bit_of_chargerView h (status_mem_chargerKeys k rfl), State.bit_of_chargerView h (set_mem_chargerKeys k rfl),
    State.bit_of_chargerView h (f := P.EMIT_CTRL.EMIT_EN) (emitCtrl_mem_chargerKeys k)]

theorem State.chargerClear_of_clearable {s : State} {k : Nat} (h : s.Clearable k) :
    s.chargerClear k = (s.setChgState k 1).setCharger k { s.charger k with loadDue := true } := by
  obtain ⟨hst, hlow, hrun, hlatched, hen, hch⟩ := h
  exact if_pos (by simp [hst, hlow, hrun, hlatched, hen, hch])

theorem State.chargerClear_of_not {s : State} {k : Nat} (h : ¬ s.Clearable k) : s.chargerClear k = s := by
  refine if_neg fun hc => h ?_
  obtain ⟨hst, hpresent, hlatched, hen, hch⟩ := hc
  simp only [Bool.not_or, Bool.and_eq_true, Bool.not_eq_true', decide_eq_false_iff_not, not_le] at hpresent hlatched
  exact ⟨hst, hpresent.1, hpresent.2, hlatched, hen, hch⟩

theorem State.chargerClear_onlyCharger (s : State) (k : Nat) :
    (s.chargerClear k).OnlyCharger s k [K.CHG_STATUS + k] ∧ (s.chargerClear k).flagCnt = s.flagCnt := by
  by_cases h : s.Clearable k
  · rw [State.chargerClear_of_clearable h]
    exact ⟨((State.OnlyCharger.refl s k _).setChgState 1 List.mem_cons_self).setCharger _,
      (State.setCharger_flagCnt _ _ _).trans (s.flagCnt_setChgState k 1)⟩
  · rw [State.chargerClear_of_not h]
    exact ⟨State.OnlyCharger.refl s k _, rfl⟩

theorem State.chargerClear_chgState (s : State) (k : Nat) :
    (s.chargerClear k).chgState k = if s.Clearable k then 1 else s.chgState k := by
  split
  · next h =>
    rw [State.chargerClear_of_clearable h, State.chgState_setCharger]
    exact State.chgState_setChgState_self s k (by decide)
  · next h => rw [State.chargerClear_of_not h]

theorem State.forEach_chargerClear_onlyEmitters (s : State) (m : Nat) :
    (forEach (maskBits 4 m) (fun k s => s.chargerClear k) s).OnlyEmitters s (statusKeys []) ∧
    (forEach (maskBits 4 m) (fun k s => s.chargerClear k) s).flagCnt = s.flagCnt :=
  ⟨State.forEach_onlyEmitters (l := maskBits 4 m) (fun _ hi => (mem_maskBits.mp hi).1)
      (fun i u => (u.chargerClear_onlyCharger i).1) s,
    forEach_keeps State.flagCnt _ _ _ fun i u => (u.chargerClear_onlyCharger i).2⟩

/-- Of the chargers named, those that are clearable start; every other one stays as it is. -/
theorem State.forEach_chargerClear_chgState (s : State) (m : Nat) {k : Nat} (hk : k < 4) :
    (forEach (maskBits 4 m) (fun k s => s.chargerClear k) s).chgState k =
      if bitOf m k ∧ s.Clearable k then 1 else s.chgState k := by
  have hone : ∀ i u, (State.chargerClear u i).OnlyCharger u i [K.CHG_STATUS + i, K.EMIT_FLAGS] := fun i u =>
    ⟨(u.chargerClear_onlyCharger i).1.frame.mono (by simp), (u.chargerClear_onlyCharger i).1.others⟩
  obtain ⟨hin, hout⟩ := State.forEach_chargerView (l := maskBits 4 m) (f := fun k s => s.chargerClear k)
    (fun i hi => (mem_maskBits.mp hi).1) (maskBits_nodup 4 m) hone hk s
  by_cases hb : bitOf m k = true
  · obtain ⟨u, hu, hv⟩ := hin (mem_maskBits.mpr ⟨hk, hb⟩)
    rw [State.chgState_of_chargerView hv, u.chargerClear_chgState]
    exact if_congr ((State.clearable_of_chargerView hu).trans (and_iff_right hb).symm) rfl (State.chgState_of_chargerView hu)
  · rw [State.chgState_of_chargerView (hout fun h => hb (mem_maskBits.mp h).2), if_neg fun h => hb h.1]

/-! ### What the writes do -/

/-- An accepted write of a parameter without W1C bits leaves what its effects make of the stored value. -/
theorem State.hostWrite_effect {s v : State} {key : Nat} {keys : List Nat} {h : HostWrite} (ha : s.Accepts key h)
    (hf : accessMask key .w1c = 0)
    (hv : ((s.stored key h).levelEffect key (s.reg key) (s.merged (entryOf key h)).1).orderEffect key
      (s.merged (entryOf key h)).1 (s.merged (entryOf key h)).2 h.coinc = v)
    (hframe : v.OnlyEmitters (s.stored key h) keys) : s.hostWrite key h = v := by
  obtain ⟨⟨-, -, -, -, hask⟩, -⟩ := id ha
  rw [State.hostWrite_of_no_flags ha hf, hv, State.runAsked_of_none (by rw [hframe.ctl]; exact hask)]

/-- What a write and its effects touch: the parameter, and what its effects touch. -/
theorem State.OnlyEmitters.stored {s v : State} {key : Nat} {keys : List Nat} {h : HostWrite}
    (hv : v.OnlyEmitters (s.stored key h) keys) : v.OnlyEmitters (s.at_ h.t) (key :: keys) :=
  (hv.mono (List.subset_cons_self key keys)).trans ((s.stored_onlyRegs key h).toEmitters.mono (by simp))

/-- The parameter written holds what was merged into it. -/
theorem State.reg_stored (s : State) (key : Nat) (h : HostWrite) : (s.stored key h).reg key = s.mergedWord key h :=
  State.reg_setReg_self (s.at_ h.t) key _

/-- A field that the write brings a value to holds it. -/
theorem State.fld_stored {s : State} {key v : Nat} {h : HostWrite} {f : FieldRef} (hf : f.key = key) (hk : key ≠ K.SPARE_FORCE)
    (hb : brings h f v) (hw : wordFld (writableMask key) f = 2 ^ f.width - 1)
    (hrw : wordFld (accessMask key .rw) f = 2 ^ f.width - 1) : (s.stored key h).fld f = v := by
  rw [State.fld, hf, s.reg_stored, wordFld_mergedWord s hk hb hw hrw]

/-- CHG_CLEAR has no bits that are stored (Table 9.10). -/
theorem State.reg_stored_chgClear (s : State) (h : HostWrite) (j : Nat) : (s.stored K.CHG_CLEAR h).reg j = s.reg j := by
  have hst : (entryOf K.CHG_CLEAR h).stores = 0 := by
    rw [entryOf_stores h (by decide), show accessMask K.CHG_CLEAR .rw = 0 by decide +kernel]
    exact BitVec.and_zero
  by_cases hj : j = K.CHG_CLEAR
  · rw [hj, s.reg_stored, State.mergedWord, hst, merge_none]
  · exact State.reg_setReg_ne (s.at_ h.t) _ hj

/-- What a write of EMIT_CTRL brings about: every charger follows its enables, and the targets are formed (R208, R222). -/
def State.emitFollowed (s : State) : State :=
  (forUpto 4 (fun k s => s.chargerEnable k) s).targetsForm s.gait

theorem State.emitFollowed_onlyEmitters (s : State) : s.emitFollowed.OnlyEmitters s (statusKeys [K.EMIT_FLAGS]) := by
  have henable := State.forUpto_onlyEmitters (f := fun k u => u.chargerEnable k) (fun i u => u.chargerEnable_onlyCharger i) s
  have htargets := State.forUpto_onlyEmitters (f := fun k u => u.targetForm s.gait k)
    (fun i u => (u.targetForm_onlyCharger s.gait i).1) (forUpto 4 (fun k u => u.chargerEnable k) s)
  exact htargets.trans henable

/-- A charger that its enables do not take to REGULATE is left by the forming of its target where they take it. -/
theorem State.emitFollowed_chgState {s : State} {k n : Nat} (hk : k < 4) (hn : n ≠ 3)
    (h : ∀ u : State, u.chargerView k = s.chargerView k → (u.chargerEnable k).chgState k = n) :
    s.emitFollowed.chgState k = n := by
  obtain ⟨u, hu, hv⟩ := State.forUpto_chargerView (f := fun k u => u.chargerEnable k)
    (fun i u => u.chargerEnable_onlyCharger i) hk s
  obtain ⟨w, hw, hz⟩ := State.forUpto_chargerView (f := fun k u => u.targetForm s.gait k)
    (fun i u => (u.targetForm_onlyCharger s.gait i).1) hk
    (forUpto 4 (fun k s => s.chargerEnable k) s)
  have hwn : w.chgState k = n := (State.chgState_of_chargerView (hw.trans hv)).trans (h u hu)
  calc s.emitFollowed.chgState k = (w.targetForm s.gait k).chgState k := State.chgState_of_chargerView hz
    _ = w.chgState k := State.targetForm_chgState _ hk (hwn ▸ hn)
    _ = n := hwn

/-- What a write of CHG_SET brings about (R208, R222, R224). -/
def State.setFollowed (s : State) (k : Nat) : State := ((s.adaptFix k).chargerEnable k).targetForm s.gait k

/-- What comes before the target: A under FIX, and the charger's enables. -/
theorem State.enableFollowed_onlyEmitters (s : State) (k : Nat) :
    ((s.adaptFix k).chargerEnable k).OnlyEmitters s [K.CHG_STATUS + k, K.ADAPT_VIEW, K.EMIT_FLAGS] := by
  have hfix : (s.adaptFix k).OnlyEmitters s [K.CHG_STATUS + k, K.ADAPT_VIEW, K.EMIT_FLAGS] := by
    unfold State.adaptFix
    split
    · exact (State.OnlyEmitters.refl s _).setFld (f := P.ADAPT_VIEW.A.sub k 16) _ (List.mem_cons_of_mem _ List.mem_cons_self)
    · exact State.OnlyEmitters.refl s _
  exact (((s.adaptFix k).chargerEnable_onlyCharger k).frame.mono (by simp)).trans hfix

theorem State.setFollowed_onlyEmitters (s : State) (k : Nat) :
    (s.setFollowed k).OnlyEmitters s [K.CHG_STATUS + k, K.ADAPT_VIEW, K.EMIT_FLAGS] :=
  ((((s.adaptFix k).chargerEnable k).targetForm_onlyCharger s.gait k).1.frame.mono (by simp)).trans
    (s.enableFollowed_onlyEmitters k)

/-- A charger's set-point is none of the parameters that follow it. -/
theorem chgSet_not_mem {k : Nat} (hk : k < 4) : K.CHG_SET + k ∉ [K.CHG_STATUS + k, K.ADAPT_VIEW, K.EMIT_FLAGS] := by
  simp only [K.CHG_SET, K.CHG_STATUS, K.ADAPT_VIEW, K.EMIT_FLAGS, List.mem_cons, List.not_mem_nil, or_false]
  omega

/-- The target formed in the end does not exceed SETPOINT as the write has set it (R222). -/
theorem State.setFollowed_tgt_le (s : State) {k : Nat} (hk : k < 4) :
    (s.setFollowed k).fld (P.CHG_STATUS.TGT.idx k) ≤ s.fld (P.CHG_SET.SETPOINT.idx k) := by
  have hsp := (s.enableFollowed_onlyEmitters k).fld (f := P.CHG_SET.SETPOINT.idx k) (chgSet_not_mem hk)
  exact hsp ▸ State.targetForm_tgt_le _ s.gait hk

/-- EXP_BUDGET is none of the parameters that follow it. -/
theorem expBudget_not_mem {b : Nat} (hb : b < 16) : K.EXP_BUDGET + b ∉ [K.CHG_STATUS + b / 4, K.EMIT_FLAGS] := by
  simp only [K.EXP_BUDGET, K.CHG_STATUS, K.EMIT_FLAGS, List.mem_cons, List.not_mem_nil, or_false]
  omega

/-- The field maps of the parameters written: none has W1C bits, and the fields named are RW (Tables 9.8, 9.13). -/
theorem access_chgSet : ∀ k < 4, accessMask (K.CHG_SET + k) .w1c = 0 ∧
    wordFld (writableMask (K.CHG_SET + k)) (P.CHG_SET.SETPOINT.idx k) = 2 ^ (P.CHG_SET.SETPOINT.idx k).width - 1 ∧
    wordFld (accessMask (K.CHG_SET + k) .rw) (P.CHG_SET.SETPOINT.idx k) = 2 ^ (P.CHG_SET.SETPOINT.idx k).width - 1 := by
  decide +kernel

theorem access_expBudget : ∀ b < 16, accessMask (K.EXP_BUDGET + b) .w1c = 0 ∧
    wordFld (writableMask (K.EXP_BUDGET + b)) (P.EXP_BUDGET.BUDGET.idx b) = 2 ^ (P.EXP_BUDGET.BUDGET.idx b).width - 1 ∧
    wordFld (accessMask (K.EXP_BUDGET + b) .rw) (P.EXP_BUDGET.BUDGET.idx b) = 2 ^ (P.EXP_BUDGET.BUDGET.idx b).width - 1 := by
  decide +kernel

theorem levelEffect_chgSet (u : State) (old : Word) {cov : Word} {k : Nat} (hk : k < 4) (h : cov ≠ 0) :
    u.levelEffect (K.CHG_SET + k) old cov = u.setFollowed k := by
  interval_cases k <;> exact if_neg h

theorem levelEffect_expBudget (u : State) (old : Word) {cov : Word} {b : Nat} (hb : b < 16) (h : cov ≠ 0) :
    u.levelEffect (K.EXP_BUDGET + b) old cov = u.targetForm u.gait (b / 4) := by
  interval_cases b <;> exact if_neg h

theorem orderEffect_chgSet (u : State) (cov new co : Word) {k : Nat} (hk : k < 4) :
    u.orderEffect (K.CHG_SET + k) cov new co = u := by
  interval_cases k <;> exact ite_self _

theorem orderEffect_expBudget (u : State) (cov new co : Word) {b : Nat} (hb : b < 16) :
    u.orderEffect (K.EXP_BUDGET + b) cov new co = u := by
  interval_cases b <;> exact ite_self _

/-! ### The commands -/

/-- EMIT_EN as a write of EMIT_CTRL has stored it. -/
theorem State.bit_stored_emitEn (s : State) {h : HostWrite} {n : Nat} (hb : brings h P.EMIT_CTRL.EMIT_EN n) :
    (s.stored K.EMIT_CTRL h).bit P.EMIT_CTRL.EMIT_EN = (n == 1) := by
  rw [State.bit, State.fld_stored (key := K.EMIT_CTRL) rfl (by decide) hb (by decide +kernel) (by decide +kernel)]

/-- EMIT_CTRL_WRITE, where it brings EMIT_EN (R208). -/
theorem exec_emitCtrlWrite {s : State} {h : HostWrite} {n : Nat} (ha : s.Accepts K.EMIT_CTRL h)
    (hb : brings h P.EMIT_CTRL.EMIT_EN n) : exec (.emitCtrlWrite h) s = .next (s.stored K.EMIT_CTRL h).emitFollowed := by
  have hcov := merged_cov_ne_zero (key := K.EMIT_CTRL) s hb (by decide +kernel) (by decide)
  have hw : s.hostWrite K.EMIT_CTRL h = (s.stored K.EMIT_CTRL h).emitFollowed :=
    State.hostWrite_effect ha (by decide +kernel) ((ite_self _).trans (if_neg hcov)) (State.emitFollowed_onlyEmitters _)
  exact (awake_next ha.1.1).trans (congrArg _ hw)

/-- What a write of EMIT_CTRL leaves, whatever EMIT_EN it brings. -/
theorem State.emitFollowed_stored (s : State) (h : HostWrite) {u : State} (hu : u = (s.stored K.EMIT_CTRL h).emitFollowed) :
    u.reg K.EMIT_CTRL = s.mergedWord K.EMIT_CTRL h ∧
    u.SameRegs s [K.EMIT_CTRL, K.CHG_STATUS, K.CHG_STATUS + 1, K.CHG_STATUS + 2, K.CHG_STATUS + 3, K.EMIT_FLAGS] ∧
    u.mirror = s.mirror ∧ u.scan = s.scan ∧ u.sup = s.sup ∧ u.nv = s.nv := by
  have hfollowed := (s.stored K.EMIT_CTRL h).emitFollowed_onlyEmitters
  rw [← hu] at hfollowed
  obtain ⟨-, hdev⟩ := hfollowed.stored.device
  exact ⟨(hfollowed.regs _ (by decide)).trans (s.reg_stored _ h), hfollowed.stored.regs, hdev⟩

/-- CHG_SET_WRITE, where it brings SETPOINT (R222). -/
theorem exec_chgSetWrite {s : State} {h : HostWrite} {k v : Nat} (hk : k < 4) (ha : s.Accepts (K.CHG_SET + k) h)
    (hb : brings h (P.CHG_SET.SETPOINT.idx k) v) :
    exec (.chgSetWrite k h) s = .next ((s.stored (K.CHG_SET + k) h).setFollowed k) := by
  obtain ⟨hflags, hwritable, -⟩ := access_chgSet k hk
  have hcov := merged_cov_ne_zero (key := K.CHG_SET + k) s hb hwritable (Nat.succ_pos 13)
  have hw : s.hostWrite (K.CHG_SET + k) h = (s.stored (K.CHG_SET + k) h).setFollowed k :=
    State.hostWrite_effect ha hflags ((orderEffect_chgSet _ _ _ _ hk).trans (levelEffect_chgSet _ _ hk hcov))
      (State.setFollowed_onlyEmitters _ k)
  exact (awake_named_next ha.1.1 (decide_eq_true hk)).trans (congrArg _ hw)

/-- CHG_CLEAR without a fault in its own cycle (R214). -/
theorem exec_chgClear {s : State} {h : HostWrite} {m : Nat} (ha : s.Accepts K.CHG_CLEAR h) (hb : brings h P.CHG_CLEAR.CLEAR m)
    (hc : h.coinc = 0) :
    exec (.chgClear h) s = .next (forEach (maskBits 4 m) (fun k s => s.chargerClear k) (s.stored K.CHG_CLEAR h)) := by
  have hcov := merged_cov_ne_zero (key := K.CHG_CLEAR) s hb (by decide +kernel) (by decide)
  have hm := wordFld_merged (key := K.CHG_CLEAR) s (by decide) hb (by decide +kernel) (by decide +kernel)
  have hstill : ∀ w : Word, w &&& ~~~0 = w := fun w => by
    rw [show ~~~(0 : Word) = BitVec.allOnes 64 from rfl, BitVec.and_allOnes]
  have hlevel : ∀ (u : State) (old cov : Word), u.levelEffect K.CHG_CLEAR old cov = u := fun _ _ _ => ite_self _
  have horder : ∀ (u : State) (new : Word), u.orderEffect K.CHG_CLEAR (s.merged (entryOf K.CHG_CLEAR h)).1 new 0 =
      forEach (maskBits 4 (wordFld (new &&& ~~~0) P.CHG_CLEAR.CLEAR)) (fun k s => s.chargerClear k) u := fun _ _ => if_neg hcov
  have hw : s.hostWrite K.CHG_CLEAR h = forEach (maskBits 4 m) (fun k s => s.chargerClear k) (s.stored K.CHG_CLEAR h) :=
    State.hostWrite_effect ha (by decide +kernel) (by rw [hlevel, hc, horder, hstill, hm])
      (State.forEach_chargerClear_onlyEmitters _ m).1
  exact (awake_next ha.1.1).trans (congrArg _ hw)

/-- EXP_CFG_WRITE: the slot waits for the next frame boundary (R220). -/
theorem exec_expCfgWrite {s : State} {h : HostWrite} (ha : s.Accepts K.EXP_CFG h) :
    exec (.expCfgWrite h) s = .next (s.stored K.EXP_CFG h) := by
  have hw : s.hostWrite K.EXP_CFG h = s.stored K.EXP_CFG h :=
    State.hostWrite_effect ha (by decide +kernel) ((ite_self _).trans (ite_self _)) (State.OnlyEmitters.refl _ [])
  exact (awake_next ha.1.1).trans (congrArg _ hw)

/-- A locked EXP_CFG takes no write (R220). -/
theorem not_accepts_expCfg {s : State} {h : HostWrite} (hlock : s.bit P.EXP_CFG.LOCK = true) : ¬ s.Accepts K.EXP_CFG h := by
  rintro ⟨-, -, -, he⟩
  have hlock' : (s.at_ h.t).bit P.EXP_CFG.LOCK = true := hlock
  have hprot : (s.at_ h.t).entryProtected (authOf h) (entryOf K.EXP_CFG h) = true := by
    simp [State.entryProtected, hlock', K.EXP_CFG]
  have hrow := paramRow?_of_entriesFail he
  simp only [State.entriesFail, List.findIdx?_cons, List.findIdx?_nil, hrow, hprot, Bool.false_eq_true, if_false, if_true,
    Option.map_none] at he
  exact absurd he (by simp)

/-- EXP_BUDGET_WRITE: the target of the bank's charger is formed anew (R220, R222). -/
theorem exec_expBudgetWrite {s : State} {h : HostWrite} {b v : Nat} (hb : b < 16) (ha : s.Accepts (K.EXP_BUDGET + b) h)
    (hv : brings h (P.EXP_BUDGET.BUDGET.idx b) v) : exec (.expBudgetWrite b h) s =
      .next ((s.stored (K.EXP_BUDGET + b) h).targetForm (s.stored (K.EXP_BUDGET + b) h).gait (b / 4)) := by
  obtain ⟨hflags, hwritable, -⟩ := access_expBudget b hb
  have hcov := merged_cov_ne_zero (key := K.EXP_BUDGET + b) s hv hwritable (Nat.succ_pos 63)
  have hw : s.hostWrite (K.EXP_BUDGET + b) h =
      (s.stored (K.EXP_BUDGET + b) h).targetForm (s.stored (K.EXP_BUDGET + b) h).gait (b / 4) :=
    State.hostWrite_effect ha hflags ((orderEffect_expBudget _ _ _ _ hb).trans (levelEffect_expBudget _ _ hb hcov))
      (State.targetForm_onlyCharger _ _ _).1.frame
  exact (awake_named_next ha.1.1 (decide_eq_true hb)).trans (congrArg _ hw)

/-! ### The statement -/

/-- Settles O24: each command by its equation above; what it leaves is read off the frame of its effects. -/
theorem emitterWrites : Obligations.EmitterWrites := by
  unfold Obligations.EmitterWrites
  refine ⟨fun s h ha hb => ?_, fun s h k ha hb hk hch hdom hst hlatched => ?_, fun s h k v hk ha hb => ?_,
    fun s h m k ha hb hk hc => ?_, fun s h ha => ?_, fun s h _ hlock => not_accepts_expCfg hlock, fun s b v h hb ha hv => ?_⟩
  -- EMIT_EN = 0
  · have hen := s.bit_stored_emitEn hb
    refine ⟨_, exec_emitCtrlWrite ha hb, fun k hk => State.emitFollowed_chgState hk (by decide) fun u hu => ?_,
      s.emitFollowed_stored h rfl⟩
    exact State.chargerEnable_off ((State.bit_of_chargerView hu (emitCtrl_mem_chargerKeys k)).trans hen)
  -- EMIT_EN = 1
  · have hen := s.bit_stored_emitEn hb
    have hkeep : ∀ f : FieldRef, f.key ≠ K.EMIT_CTRL → (s.stored K.EMIT_CTRL h).fld f = s.fld f := fun f hf =>
      (s.stored_onlyRegs K.EMIT_CTRL h).toEmitters.fld (by simpa using hf)
    refine ⟨_, exec_emitCtrlWrite ha hb, State.emitFollowed_chgState hk (by decide) fun u hu => ?_, s.emitFollowed_stored h rfl⟩
    have hread : ∀ f : FieldRef, f.key ∈ chargerKeys k → f.key ≠ K.EMIT_CTRL → u.fld f = s.fld f := fun f hf hne =>
      (State.fld_of_chargerView hu hf).trans (hkeep f hne)
    have hset : (P.CHG_SET.CH_EN.idx k).key ≠ K.EMIT_CTRL := by
      simp only [FieldRef.idx, P.CHG_SET.CH_EN, K.EMIT_CTRL]
      omega
    exact State.chargerEnable_starts ((State.bit_of_chargerView hu (emitCtrl_mem_chargerKeys k)).trans hen)
      ((congrArg (· == 1) (hread _ (set_mem_chargerKeys k rfl) hset)).trans hch)
      ((congrArg (bitOf · 33) (hread _ (pwrStatus_mem_chargerKeys k) (by decide))).trans hdom)
      ((hread _ (status_mem_chargerKeys k rfl) (status_key_ne rfl hk (by decide)).symm).trans hst)
      ((congrArg (· == 1) (hread _ (status_mem_chargerKeys k rfl) (status_key_ne rfl hk (by decide)).symm)).trans hlatched)
  -- CHG_SET_WRITE
  · obtain ⟨-, hwritable, hrw⟩ := access_chgSet k hk
    have hfollowed := (s.stored (K.CHG_SET + k) h).setFollowed_onlyEmitters k
    have hnotin := chgSet_not_mem hk
    have hsp : (s.stored (K.CHG_SET + k) h).fld (P.CHG_SET.SETPOINT.idx k) = v :=
      State.fld_stored rfl (by simp only [K.CHG_SET, K.SPARE_FORCE]; omega) hb hwritable hrw
    obtain ⟨-, hmirror, hscan, hsup, -⟩ := hfollowed.stored.device
    exact ⟨_, exec_chgSetWrite hk ha hb, (hfollowed.regs _ hnotin).trans (s.reg_stored _ h), (hfollowed.fld hnotin).trans hsp,
      hsp ▸ State.setFollowed_tgt_le _ hk, hfollowed.stored.regs, hmirror, hscan, hsup⟩
  -- CHG_CLEAR
  · obtain ⟨hframe, hflagCnt⟩ := (s.stored K.CHG_CLEAR h).forEach_chargerClear_onlyEmitters m
    have hview : (s.stored K.CHG_CLEAR h).chargerView k = s.chargerView k :=
      Prod.ext rfl (List.map_congr_left fun j _ => s.reg_stored_chgClear h j)
    refine ⟨_, exec_chgClear ha hb hc, ?_, hframe.stored.rest_of_flagCnt hflagCnt,
      fun j hj => (hframe.regs j hj).trans (s.reg_stored_chgClear h j)⟩
    rw [State.forEach_chargerClear_chgState _ m hk]
    exact if_congr (and_congr_right fun _ => State.clearable_of_chargerView hview) rfl (State.chgState_of_chargerView hview)
  -- EXP_CFG_WRITE
  · exact ⟨_, exec_expCfgWrite ha, s.reg_stored _ h, (s.stored_onlyRegs _ h).regs, (s.stored_onlyRegs _ h).rest⟩
  -- EXP_BUDGET_WRITE
  · obtain ⟨-, hwritable, hrw⟩ := access_expBudget b hb
    obtain ⟨hform, hemit⟩ := (s.stored (K.EXP_BUDGET + b) h).targetForm_onlyCharger (s.stored (K.EXP_BUDGET + b) h).gait (b / 4)
    have hbudget : (s.stored (K.EXP_BUDGET + b) h).fld (P.EXP_BUDGET.BUDGET.idx b) = v :=
      State.fld_stored rfl (by simp only [K.EXP_BUDGET, K.SPARE_FORCE]; omega) hv hwritable hrw
    exact ⟨_, exec_expBudgetWrite hb ha hv, (hform.frame.fld (expBudget_not_mem hb)).trans hbudget, hform.frame.stored.regs,
      hform.frame.stored.rest_of_emit hemit⟩

end Sys2Proof.Machine
end

section
/-! PROOFS. The mirror (R226 to R248): what its operations make of its own record and of MIR_STATUS, and what they leave. -/
namespace Sys2Proof.Machine
-- One proof after another, as in the tests: a thread for each takes more memory than the check has.
set_option Elab.async false

/-! ### Frames -/

/-- The mirror's record but for the gate commands (R227). -/
def Mirror.offGates (m : Mirror) : Mirror := { m with hs := 0, ls := 0, onAt := none }

/-- The mirror's record but for what a change of its state touches (R229, R239, R240, Table 10.6). -/
def Mirror.offState (m : Mirror) : Mirror :=
  { m.offGates with
    drive := .off, inhibit := false, left := false, offTrack := false, sum := 0, ePrev := 0, lossRun := 0, recoverFrames := 0,
    frameGood := false, ocRun := 0, overRun := 0 }

/-- The device but for what has left it. -/
def State.unsent (s : State) : State := { s with out := [] }

/-- The device but for the mirror's record and what has left it. -/
def State.offLoops (s : State) : State := { s with out := [], mirror := {} }

/-- The device but for what a change of drive touches (R227). -/
def State.offDrive (s : State) : State := { s with out := [], mirror := { s.mirror.offGates with drive := .off } }

/-- The device but for what a change of the mirror's state touches: parameters, the pairs that the Farrier collects (R302), gates,
and of the mirror's record the rest of `Mirror.offState`. -/
def State.offMirror (s : State) : State := { s with regs := [], out := [], farrier := {}, mirror := s.mirror.offState }

/-- The same but for counters and records as well (R230, R247). -/
def State.offPark (s : State) : State := { s.unlogged with out := [], farrier := {}, mirror := s.mirror.offState }

/-- The device but for what a start of scanning touches as well: the scan clock, and the team that is told the epoch (R57, R375).
Of the mirror's record it keeps the angle samples. -/
def State.offScanning (s : State) : State :=
  { s.unlogged with
    out := [], farrier := {}, scan := {}, hitch := {}, mirror := { ({} : Mirror) with n := s.mirror.n, m := s.mirror.m } }

theorem State.offPark_of_unlogged {u s : State} (h : u.unlogged = s.unlogged) : u.offPark = s.offPark := of_frame h State.offPark

theorem State.setFlag_offPark (s : State) (f : FieldRef) : (s.setFlag f).offPark = s.offPark :=
  State.offPark_of_unlogged (s.setFlag_unlogged f)

theorem State.record_offPark (s : State) (kind cls : Nat) (log notice : Bool) (data : List Byte) :
    (s.record kind cls log notice data).offPark = s.offPark :=
  State.offPark_of_unlogged (s.record_unlogged kind cls log notice data)

theorem State.setFld_offScanning (s : State) (f : FieldRef) (v : Nat) : (s.setFld f v).offScanning = s.offScanning :=
  of_frame (s.setFld_unlogged f v) State.offScanning

/-- An update of the mirror's record beside the angle samples. -/
theorem State.withMir_offScanning (s : State) {f : Mirror → Mirror}
    (h : ((f s.mirror).n, (f s.mirror).m) = (s.mirror.n, s.mirror.m)) : (s.withMir f).offScanning = s.offScanning :=
  congrArg (fun x => { s.offScanning with mirror := { ({} : Mirror) with n := x.1, m := x.2 } }) h

theorem State.offScanning_of_offMirror {u s : State} (h : u.offMirror = s.offMirror) : u.offScanning = s.offScanning :=
  of_frame h State.offScanning

/-- Updates of what the frame of a change of state leaves out. -/
theorem State.offMirror_mk (s : State) (regs out farrier) :
    State.offMirror { s with regs := regs, out := out, farrier := farrier } = s.offMirror := id rfl

theorem State.setFld_offMirror (s : State) (f : FieldRef) (v : Nat) : (s.setFld f v).offMirror = s.offMirror := by
  simp only [State.setFld, State.setReg, State.offMirror_mk]

theorem State.withMir_offMirror (s : State) {f : Mirror → Mirror} (h : (f s.mirror).offState = s.mirror.offState) :
    (s.withMir f).offMirror = s.offMirror := congrArg (fun m => { s.offMirror with mirror := m }) h

theorem State.withMir_offPark (s : State) {f : Mirror → Mirror} (h : (f s.mirror).offState = s.mirror.offState) :
    (s.withMir f).offPark = s.offPark := congrArg (fun m => { s.offPark with mirror := m }) h

/-! ### Fields -/

theorem State.fld_withMir (s : State) (f : Mirror → Mirror) (g : FieldRef) : (s.withMir f).fld g = s.fld g := id rfl

theorem State.bit_withMir (s : State) (f : Mirror → Mirror) (g : FieldRef) : (s.withMir f).bit g = s.bit g := id rfl

theorem State.mirSt_withMir (s : State) (f : Mirror → Mirror) : (s.withMir f).mirSt = s.mirSt := id rfl

/-- Forming a record leaves the fields of other parameters than FAULT_LOG_STATUS. -/
theorem State.fld_record (s : State) (kind cls : Nat) (log notice : Bool) (data : List Byte) {f : FieldRef}
    (hf : f.key ≠ K.FAULT_LOG_STATUS) : (s.record kind cls log notice data).fld f = s.fld f :=
  congrArg (wordFld · f) (s.record_reg kind cls log notice data hf)

/-! ### Gates and drives (R226, R227) -/

/-- The gate commands whose dead time is over by `t` are high. -/
def Mirror.gatesUp (m : Mirror) (t : Nat) : Mirror :=
  match m.onAt with
  | none => m
  | some (x, h, l) => if x ≤ t then { m with hs := m.hs ||| h, ls := m.ls ||| l, onAt := none } else m

/-- Bridge `b` goes to a drive state, its gate commands to be high at `at_`. -/
def Mirror.driven (m : Mirror) (b : Nat) (d : Drive) (at_ : Nat) : Mirror :=
  let g := d.gates b
  { m with
    drive := d, hs := m.hs &&& g.1, ls := m.ls &&& g.2,
    onAt := if g.1 - (g.1 &&& m.hs) + (g.2 - (g.2 &&& m.ls)) = 0 then none
      else some (at_, g.1 - (g.1 &&& m.hs), g.2 - (g.2 &&& m.ls)) }

theorem Mirror.gatesUp_offGates (m : Mirror) (t : Nat) : (m.gatesUp t).offGates = m.offGates := by
  unfold Mirror.gatesUp
  split
  · rfl
  · split <;> rfl

theorem State.emitGates_unsent (s : State) (hs ls t v : Nat) : (s.emitGates hs ls t v).unsent = s.unsent := by
  unfold State.emitGates
  rw [forEach_keeps State.unsent, forEach_keeps State.unsent] <;> exact fun _ _ => rfl

/-- Both devices but for the mirror's record and what has left. -/
theorem State.gatesOn_offLoops (s : State) (t : Nat) : (s.gatesOn t).offLoops = s.offLoops := by
  unfold State.gatesOn
  split
  · rfl
  · split
    · exact of_frame (s.emitGates_unsent _ _ _ _) State.offLoops
    · rfl

theorem State.gatesOn_mirror (s : State) (t : Nat) : (s.gatesOn t).mirror = s.mirror.gatesUp t := by
  unfold State.gatesOn Mirror.gatesUp
  cases s.mirror.onAt with
  | none => rfl
  | some c =>
    obtain ⟨x, h, l⟩ := c
    have hm := of_frame (s.emitGates_unsent h l x 1) State.mirror
    dsimp only
    split
    · rw [State.withMir_mirror, hm]
    · rfl

theorem State.setDrive_offLoops (s : State) (b : Nat) (d : Drive) (t : Nat) : (s.setDrive b d t).offLoops = s.offLoops :=
  (of_frame (State.emitGates_unsent _ _ _ _ _) State.offLoops).trans (s.gatesOn_offLoops t)

/-- A failed bridge never drives (R230). -/
theorem State.setDrive_mirror (s : State) (b : Nat) (d : Drive) (t : Nat) :
    (s.setDrive b d t).mirror =
      (s.mirror.gatesUp t).driven b (if s.bridgeFailed b then .off else d) (t + s.fld P.MIR_CFG.DEAD_NS) := by
  have hfailed : (s.gatesOn t).bridgeFailed b = s.bridgeFailed b := of_frame (s.gatesOn_offLoops t) (State.bridgeFailed · b)
  have hdead : ∀ hs ls, ((s.gatesOn t).emitGates hs ls t 0).fld P.MIR_CFG.DEAD_NS = s.fld P.MIR_CFG.DEAD_NS := fun hs ls =>
    (of_frame (State.emitGates_unsent _ hs ls t 0) (State.fld · P.MIR_CFG.DEAD_NS)).trans
      (of_frame (s.gatesOn_offLoops t) (State.fld · P.MIR_CFG.DEAD_NS))
  have hmirror : ∀ hs ls, ((s.gatesOn t).emitGates hs ls t 0).mirror = s.mirror.gatesUp t := fun hs ls =>
    (of_frame (State.emitGates_unsent _ hs ls t 0) State.mirror).trans (s.gatesOn_mirror t)
  simp only [State.setDrive, State.withMir_mirror, hmirror, hfailed, hdead, s.gatesOn_mirror t]
  rfl

theorem State.setDrive_offDrive (s : State) (b : Nat) (d : Drive) (t : Nat) : (s.setDrive b d t).offDrive = s.offDrive := by
  have hm : (s.setDrive b d t).mirror.offGates = { s.mirror.offGates with drive := (s.setDrive b d t).mirror.drive } := by
    rw [s.setDrive_mirror b d t, ← s.mirror.gatesUp_offGates t]
    rfl
  have hd := congrArg (fun x : State => { x with mirror := { (s.setDrive b d t).mirror.offGates with drive := .off } })
    (s.setDrive_offLoops b d t)
  refine hd.trans ?_
  rw [hm]
  rfl

/-- OFF is OFF, whether the bridge has failed or not. -/
theorem State.drive_setDrive_off (s : State) (b t : Nat) : (s.setDrive b .off t).mirror.drive = .off := by
  rw [State.setDrive_mirror, ite_self]
  rfl

theorem State.drive_setDrive {s : State} {b : Nat} (h : s.bridgeFailed b = false) (d : Drive) (t : Nat) :
    (s.setDrive b d t).mirror.drive = d := by
  rw [State.setDrive_mirror, h]
  rfl

/-- What lies within a mask and what does not make it up. -/
theorem land_add_ldiff (g x : Nat) : (g &&& x) + Nat.ldiff g x = g := by
  induction g using Nat.binaryRec generalizing x with
  | zero => simp [Nat.ldiff]
  | bit b n ih =>
    have hx := ih (x / 2)
    rw [← Nat.bit_bodd_div2 x, Nat.land_bit, Nat.ldiff_bit, Nat.div2_val]
    cases b <;> cases x.bodd <;>
      simp only [Nat.bit_val, Bool.and_true, Bool.and_false, Bool.not_true, Bool.not_false, Bool.toNat_true,
        Bool.toNat_false] <;>
      omega

/-- The commands of a drive that were high, and those that it lacked, are its commands. -/
theorem land_or_sub (x g : Nat) : x &&& g ||| (g - (g &&& x)) = g := by
  have hsub : g - (g &&& x) = Nat.ldiff g x := Nat.sub_eq_of_eq_add ((land_add_ldiff g x).symm.trans (Nat.add_comm _ _))
  refine Nat.eq_of_testBit_eq fun i => ?_
  rw [hsub, Nat.testBit_or, Nat.testBit_and, Nat.testBit_ldiff]
  cases x.testBit i <;> simp

/-- A drive leaves of the gate commands only its own (R227). -/
theorem Mirror.driven_low (m : Mirror) (b : Nat) (d : Drive) (t : Nat) :
    (m.driven b d t).hs &&& (d.gates b).1 = (m.driven b d t).hs ∧ (m.driven b d t).ls &&& (d.gates b).2 = (m.driven b d t).ls := by
  simp only [Mirror.driven, Nat.and_assoc, Nat.and_self, and_self]

/-- Once the dead time is over exactly its own are high (R227, Table 10.2). -/
theorem Mirror.driven_gatesUp (m : Mirror) (b : Nat) (d : Drive) (t : Nat) :
    ((m.driven b d t).gatesUp t).hs = (d.gates b).1 ∧ ((m.driven b d t).gatesUp t).ls = (d.gates b).2 := by
  have hh := land_or_sub m.hs (d.gates b).1
  have hl := land_or_sub m.ls (d.gates b).2
  by_cases h0 : (d.gates b).1 - ((d.gates b).1 &&& m.hs) + ((d.gates b).2 - ((d.gates b).2 &&& m.ls)) = 0
  · obtain ⟨h1, h2⟩ := Nat.add_eq_zero_iff.mp h0
    rw [h1, Nat.or_zero] at hh
    rw [h2, Nat.or_zero] at hl
    simp only [Mirror.driven, Mirror.gatesUp, if_pos h0]
    exact ⟨hh, hl⟩
  · simp only [Mirror.driven, Mirror.gatesUp, if_neg h0, if_pos le_rfl]
    exact ⟨hh, hl⟩

/-- No half-bridge has both its commands high (R227). -/
theorem Drive.gates_disjoint (d : Drive) (b : Nat) : (d.gates b).1 &&& (d.gates b).2 = 0 := by
  have hne : 2 ^ (2 * b) &&& 2 ^ (2 * b + 1) = 0 := by
    rw [Nat.and_two_pow, Nat.testBit_two_pow_of_ne (Nat.ne_of_lt (Nat.lt_succ_self _)), Bool.toNat_false, Nat.zero_mul]
  cases d with
  | pos => exact hne
  | neg => exact (Nat.and_comm _ _).trans hne
  | brake => exact Nat.zero_and _
  | off => exact Nat.zero_and _

/-! ### Changes of state (R229, R237, R238, Table 10.6) -/

/-- A state entered, with the drive that it calls for (R229). -/
def State.stateDriven (s : State) (st : Nat) : State :=
  let u := s.setFld P.MIR_STATUS.STATE st
  if st = 6 then u.setDrive (u.fld P.MIR_STATUS.BRIDGE) .brake u.now
  else if st = 0 ∨ st = 7 then u.setDrive (u.fld P.MIR_STATUS.BRIDGE) .off u.now
  else u

theorem State.stateDriven_offDrive (s : State) (st : Nat) :
    (s.stateDriven st).offDrive = (s.setFld P.MIR_STATUS.STATE st).offDrive := by
  unfold State.stateDriven
  dsimp only
  split
  · exact State.setDrive_offDrive _ _ _ _
  · split
    · exact State.setDrive_offDrive _ _ _ _
    · rfl

/-- What else a change of state does: none of it is a parameter, or drives the coil. -/
theorem State.enterMir_stateDriven (s : State) (st : Nat) :
    (s.enterMir st).offMirror = (s.stateDriven st).offMirror ∧ (s.enterMir st).regs = (s.stateDriven st).regs ∧
    (s.enterMir st).out = (s.stateDriven st).out ∧
    (s.enterMir st).mirror.drive = (s.stateDriven st).mirror.drive ∧
    (s.enterMir st).mirror.overRun = if st = 0 ∨ st = 6 ∨ st = 7 then 0 else (s.stateDriven st).mirror.overRun := by
  simp only [State.enterMir, State.stateDriven]
  generalize (if st = 6 then _ else _ : State) = u
  rw [State.withMir_offMirror _ (by simp only [Mirror.offState, Mirror.offGates]), State.withMir_regs, State.withMir_mirror]
  split <;> exact ⟨State.offMirror_mk u u.regs u.out _, rfl, rfl, rfl, rfl⟩

theorem State.enterMir_offMirror (s : State) (st : Nat) : (s.enterMir st).offMirror = s.offMirror := by
  obtain ⟨hframe, -, -, -, -⟩ := s.enterMir_stateDriven st
  exact (hframe.trans (of_frame (s.stateDriven_offDrive st) State.offMirror)).trans (s.setFld_offMirror _ _)

theorem State.enterMir_regs (s : State) (st : Nat) : (s.enterMir st).regs = (s.setFld P.MIR_STATUS.STATE st).regs := by
  obtain ⟨-, hregs, -, -, -⟩ := s.enterMir_stateDriven st
  exact hregs.trans (of_frame (s.stateDriven_offDrive st) State.regs)

/-- A state that calls for no drive moves no gate. -/
theorem State.enterMir_out (s : State) {st : Nat} (h : 1 ≤ st ∧ st ≤ 5) : (s.enterMir st).out = s.out := by
  have hdriven : s.stateDriven st = s.setFld P.MIR_STATUS.STATE st := by
    rw [State.stateDriven, if_neg (by omega), if_neg (by omega)]
  obtain ⟨-, -, hout, -, -⟩ := s.enterMir_stateDriven st
  rw [hout, hdriven, of_frame (s.setFld_unlogged _ _) State.out]

theorem State.mirSt_enterMir (s : State) {st : Nat} (h : st < 8) : (s.enterMir st).mirSt = st :=
  (State.fld_of_regs (s.enterMir_regs st) _).trans
    ((s.fld_setFld_self P.MIR_STATUS.STATE st (by decide) (by decide)).trans (Nat.mod_eq_of_lt h))

/-- STATE stands above the other fields of MIR_STATUS (Table 10.15). -/
theorem State.fld_enterMir (s : State) (st : Nat) {f : FieldRef} (h : f.hi < P.MIR_STATUS.STATE.lo) :
    (s.enterMir st).fld f = s.fld f :=
  (State.fld_of_regs (s.enterMir_regs st) f).trans (s.fld_setFld_ne _ f st (by decide) (by decide) (Or.inr h))

theorem State.enterMir_sameRegs (s : State) (st : Nat) : (s.enterMir st).SameRegs s [K.MIR_STATUS] := fun j hj =>
  (congrArg (planeGet · j) (s.enterMir_regs st)).trans (s.reg_setFld_ne P.MIR_STATUS.STATE st fun e => hj (e ▸ List.mem_cons_self))

/-- Neither a bridge's failure nor which bridge is active stands in a field that reads `STATE`. -/
theorem State.bridgeFailed_congr {u s : State} (h : ∀ f : FieldRef, f.hi < P.MIR_STATUS.CAUSE.lo → u.fld f = s.fld f) (b : Nat) :
    u.bridgeFailed b = s.bridgeFailed b := by
  simp only [State.bridgeFailed, State.bit]
  rw [h P.MIR_STATUS.B0_FAILED (by decide), h P.MIR_STATUS.B1_FAILED (by decide)]

/-- BLIND_PARK shorts the coil (R229). -/
theorem State.drive_enterMir_blind {s : State} (h : s.bridgeFailed (s.fld P.MIR_STATUS.BRIDGE) = false) :
    (s.enterMir 6).mirror.drive = .brake := by
  have hkeep : ∀ f : FieldRef, f.hi < P.MIR_STATUS.CAUSE.lo → (s.setFld P.MIR_STATUS.STATE 6).fld f = s.fld f := fun f hf =>
    s.fld_setFld_ne _ f 6 (by decide) (by decide) (Or.inr (hf.trans (by decide)))
  obtain ⟨-, -, -, hdrive, -⟩ := s.enterMir_stateDriven 6
  refine hdrive.trans (State.drive_setDrive ?_ .brake _)
  rw [hkeep _ (by decide), State.bridgeFailed_congr hkeep, h]

/-- OFF and FAULT open it (R229). -/
theorem State.drive_enterMir_rest (s : State) {st : Nat} (h : st = 0 ∨ st = 7) : (s.enterMir st).mirror.drive = .off := by
  have hdriven : (s.stateDriven st).mirror.drive = .off := by
    rw [State.stateDriven, if_neg (by omega), if_pos h]
    exact State.drive_setDrive_off _ _ _
  obtain ⟨-, -, -, hdrive, -⟩ := s.enterMir_stateDriven st
  exact hdrive.trans hdriven

/-- Entering a state counts no late tick (R241). -/
theorem State.overRun_enterMir {s : State} (st : Nat) (h : s.mirror.overRun = 0) : (s.enterMir st).mirror.overRun = 0 := by
  obtain ⟨-, -, -, -, hover⟩ := s.enterMir_stateDriven st
  rw [hover, of_frame (s.stateDriven_offDrive st) fun u => u.mirror.overRun, State.setFld_mirror, h, ite_self]

/-! ### Park causes (R238, Table 10.7) -/

theorem State.parkCause_offMirror (s : State) (c : Nat) : (s.parkCause c).offMirror = s.offMirror := by
  simp only [State.parkCause, apply_ite State.offMirror, State.setFld_offMirror, ite_self]

theorem State.parkCause_mirror (s : State) (c : Nat) : (s.parkCause c).mirror = s.mirror := by
  simp only [State.parkCause, apply_ite State.mirror, State.setFld_mirror, ite_self]

/-- Causes 1 and 8 leave RUN. -/
theorem State.parkCause_of_run (s : State) {c : Nat} (h : c = 1 ∨ c = 8) : s.parkCause c = s.setFld P.MIR_STATUS.CAUSE c :=
  if_neg (by omega)

/-- The others clear it, but for a RUN = 1 written in the same tick. -/
theorem State.parkCause_of_fault {s : State} {c : Nat} (h : 2 ≤ c ∧ c ≤ 7) (hr : s.mirror.runAt ≠ some s.now) :
    s.parkCause c = (s.setFld P.MIR_STATUS.CAUSE c).setFld P.MIR_CTRL.RUN 0 :=
  if_pos ⟨h.1, h.2, by simpa using hr⟩

/-- MIR_STATUS after a park cause: CAUSE, and the other fields as they were. -/
theorem State.fld_parkCause (s : State) (c : Nat) (f : FieldRef) (h : f.key ≠ K.MIR_CTRL) :
    (s.parkCause c).fld f = (s.setFld P.MIR_STATUS.CAUSE c).fld f := by
  unfold State.parkCause
  dsimp only
  split
  · exact State.fld_setFld_key _ P.MIR_CTRL.RUN f 0 h
  · rfl

theorem State.mirSt_parkCause (s : State) (c : Nat) : (s.parkCause c).mirSt = s.mirSt :=
  (s.fld_parkCause c _ (by decide)).trans (s.fld_setFld_ne _ _ c (by decide) (by decide) (by decide))

theorem State.cause_parkCause (s : State) {c : Nat} (h : c < 32) : (s.parkCause c).fld P.MIR_STATUS.CAUSE = c :=
  (s.fld_parkCause c _ (by decide)).trans
    ((s.fld_setFld_self P.MIR_STATUS.CAUSE c (by decide) (by decide)).trans (Nat.mod_eq_of_lt h))

theorem State.run_parkCause {s : State} {c : Nat} (h : 2 ≤ c ∧ c ≤ 7) (hr : s.mirror.runAt ≠ some s.now) :
    (s.parkCause c).fld P.MIR_CTRL.RUN = 0 := by
  rw [State.parkCause_of_fault h hr]
  exact State.fld_setFld_self _ P.MIR_CTRL.RUN 0 (by decide) (by decide)

/-- The mirror in a state that it parks in, with the cause shown. -/
theorem State.parked_fields (s : State) {st c : Nat} (hst : st < 8) (hc : c < 32) :
    ((s.enterMir st).parkCause c).mirSt = st ∧ ((s.enterMir st).parkCause c).fld P.MIR_STATUS.CAUSE = c ∧
    ((s.enterMir st).parkCause c).offMirror = s.offMirror :=
  ⟨(State.mirSt_parkCause _ c).trans (s.mirSt_enterMir hst), State.cause_parkCause _ hc,
    (State.parkCause_offMirror _ c).trans (s.enterMir_offMirror st)⟩

/-- RUN is cleared with it (R238). -/
theorem State.parked_run {s : State} (st : Nat) {c : Nat} (hc : 2 ≤ c ∧ c ≤ 7) (hr : s.mirror.runAt ≠ some s.now) :
    ((s.enterMir st).parkCause c).fld P.MIR_CTRL.RUN = 0 := by
  refine State.run_parkCause hc ?_
  rw [of_frame (s.enterMir_offMirror st) fun u => u.mirror.runAt, of_frame (s.enterMir_offMirror st) State.now]
  exact hr

/-! ### Parking blind (R247) -/

/-- A cause recorded in the fault log with a notice, and its flag set (R230, R247). -/
def State.reported (s : State) (kind : Nat) (data : List Byte) (f : FieldRef) : State :=
  (s.record kind 3 true true data).setFlag f

theorem State.reported_offPark (s : State) (kind : Nat) (data : List Byte) (f : FieldRef) :
    (s.reported kind data f).offPark = s.offPark := (State.setFlag_offPark _ f).trans (s.record_offPark _ _ _ _ _)

theorem State.reported_mirror (s : State) (kind : Nat) (data : List Byte) (f : FieldRef) :
    (s.reported kind data f).mirror = s.mirror :=
  (of_frame (State.setFlag_unlogged _ f) State.mirror).trans (s.record_proj kind 3 true true data State.mirror)

theorem State.fld_reported (s : State) (kind : Nat) (data : List Byte) {f g : FieldRef} (hf : g.key ≠ f.key)
    (hlog : g.key ≠ K.FAULT_LOG_STATUS) : (s.reported kind data f).fld g = s.fld g :=
  (State.fld_setFlag_key _ f g hf).trans (s.fld_record kind 3 true true data hlog)

/-- BLIND_PARK, before its record. -/
def State.blinded (s : State) (c : Nat) : State :=
  ((s.enterMir 6).parkCause c).withMir fun m => { m with inhibit := true, sched := none }

/-- A mirror that is neither OFF nor blind nor in FAULT parks blind. -/
theorem State.blindPark_of_active {s : State} (c : Nat) (h : 1 ≤ s.mirSt ∧ s.mirSt ≤ 5) :
    ∃ data, s.blindPark c = (s.blinded c).reported 0x0A02 data P.MIR_FLAGS.PARKED_BY_FAULT := ⟨_, if_pos h⟩

section
variable {s : State} {c : Nat} (hst : 1 ≤ s.mirSt ∧ s.mirSt ≤ 5)
include hst

/-- What BLIND_PARK leaves. -/
theorem State.blindPark_fields (hc : c < 32) :
    (s.blindPark c).mirSt = 6 ∧ (s.blindPark c).fld P.MIR_STATUS.CAUSE = c ∧ (s.blindPark c).mirror.inhibit = true ∧
    (s.blindPark c).mirror.sched = none ∧ (s.blindPark c).fld P.MIR_FLAGS.PARKED_BY_FAULT = 1 := by
  obtain ⟨data, hb⟩ := State.blindPark_of_active c hst
  obtain ⟨hmir, hcause, -⟩ := s.parked_fields (st := 6) (by decide) hc
  rw [hb, State.mirSt, State.fld_reported _ _ _ (by decide) (by decide), State.fld_reported _ _ _ (by decide) (by decide),
    State.reported_mirror]
  exact ⟨hmir, hcause, rfl, rfl, State.fld_setFlag_self _ _ rfl (by decide)⟩

theorem State.blindPark_run (hc : 2 ≤ c ∧ c ≤ 7) (hr : s.mirror.runAt ≠ some s.now) : (s.blindPark c).fld P.MIR_CTRL.RUN = 0 := by
  obtain ⟨data, hb⟩ := State.blindPark_of_active c hst
  rw [hb, State.fld_reported _ _ _ (by decide) (by decide)]
  exact State.parked_run 6 hc hr

theorem State.blindPark_drive (hb : s.bridgeFailed (s.fld P.MIR_STATUS.BRIDGE) = false) :
    (s.blindPark c).mirror.drive = .brake := by
  obtain ⟨data, hp⟩ := State.blindPark_of_active c hst
  rw [hp, State.reported_mirror, State.blinded, State.withMir_mirror, State.parkCause_mirror]
  exact State.drive_enterMir_blind hb

theorem State.blindPark_offPark :
    (s.blindPark c).offPark = (s.withMir fun m => { m with sched := none }).offPark := by
  obtain ⟨data, hb⟩ := State.blindPark_of_active c hst
  have hp : ((s.enterMir 6).parkCause c).offPark = s.offPark :=
    of_frame ((State.parkCause_offMirror _ c).trans (s.enterMir_offMirror 6)) State.offPark
  rw [hb, State.reported_offPark]
  exact congrArg (fun u : State => { u with mirror := { u.mirror with sched := none } }) hp
end

/-! ### The current loop (R229) -/

/-- The mirror's record but for what the current loop decides. -/
def Mirror.offCurrent (m : Mirror) : Mirror :=
  { m.offGates with drive := .off, iRef := 0, driveSince := 0, driveI := 0, driveGone := 0 }

/-- The device but for what the current loop decides. -/
def State.offCurrent (s : State) : State := { s with out := [], mirror := s.mirror.offCurrent }

/-- The drive that the reference asks for (R229). -/
def Drive.chosen (d : Drive) (i iRef iband : Int) : Drive :=
  if 2 * i < 2 * iRef - iband then .pos else if 2 * iRef + iband < 2 * i then .neg else d

/-- The current loop's choice: the drive as it is, or another one. -/
theorem State.chooseDrive_of_active {s : State} (h : 1 ≤ s.mirSt ∧ s.mirSt ≤ 5) (t : Nat) (i : Int) {d : Drive}
    (hd : d = s.mirror.drive.chosen i s.limitIRef.mirror.iRef (s.fld P.MIR_CFG.IBAND)) :
    s.chooseDrive t i =
      if d = s.mirror.drive then s.limitIRef.withMir fun m => { m with driveGone := m.gone i }
      else (s.limitIRef.setDrive (s.fld P.MIR_STATUS.BRIDGE) d t).withMir fun m =>
        { m with driveSince := t, driveI := i, driveGone := 0 } := by
  rw [hd]
  exact if_pos h

theorem State.limitIRef_offCurrent (s : State) : s.limitIRef.offCurrent = s.offCurrent := id rfl

theorem State.chooseDrive_offCurrent (s : State) (t : Nat) (i : Int) : (s.chooseDrive t i).offCurrent = s.offCurrent := by
  by_cases h : 1 ≤ s.mirSt ∧ s.mirSt ≤ 5
  · rw [State.chooseDrive_of_active h t i rfl]
    split
    · exact s.limitIRef_offCurrent
    · exact (of_frame (State.setDrive_offDrive s.limitIRef _ _ t) State.offCurrent).trans s.limitIRef_offCurrent
  · rw [State.chooseDrive, if_neg h]

/-- A bridge that can drive takes the drive chosen, with the reference held within I_LIMIT (R229). -/
theorem State.chooseDrive_drive {s : State} (h : 1 ≤ s.mirSt ∧ s.mirSt ≤ 5)
    (hb : s.bridgeFailed (s.fld P.MIR_STATUS.BRIDGE) = false) (t : Nat) (i : Int) :
    (s.chooseDrive t i).mirror.iRef = s.limitIRef.mirror.iRef ∧
    (s.chooseDrive t i).mirror.drive = s.mirror.drive.chosen i s.limitIRef.mirror.iRef (s.fld P.MIR_CFG.IBAND) := by
  rw [State.chooseDrive_of_active h t i rfl]
  split
  · next hd => exact ⟨rfl, hd.symm⟩
  · exact ⟨of_frame (State.setDrive_offDrive s.limitIRef _ _ t) fun u => u.mirror.iRef,
      State.drive_setDrive (s := s.limitIRef) hb _ t⟩

/-! ### Bridge faults (R230) -/

/-- Bridge 0 has failed, and its commands are low. -/
def State.bridgeLost (s : State) : State :=
  ((s.setFld P.MIR_STATUS.B0_FAILED 1).setDrive 0 .off s.now).withMir fun m => { m with ocRun := 0 }

theorem State.bridgeLost_regs (s : State) : s.bridgeLost.regs = (s.setFld P.MIR_STATUS.B0_FAILED 1).regs :=
  of_frame (State.setDrive_offDrive _ _ _ _) State.regs

/-- The fields of other parameters, and those beside B0_FAILED, are as they were. -/
theorem State.fld_bridgeLost (s : State) {f : FieldRef}
    (h : P.MIR_STATUS.B0_FAILED.hi < f.lo ∨ f.hi < P.MIR_STATUS.B0_FAILED.lo) : s.bridgeLost.fld f = s.fld f :=
  (State.fld_of_regs s.bridgeLost_regs f).trans (s.fld_setFld_ne _ f 1 (by decide) (by decide) h)

theorem State.b0Failed_bridgeLost (s : State) : s.bridgeLost.fld P.MIR_STATUS.B0_FAILED = 1 :=
  (State.fld_of_regs s.bridgeLost_regs _).trans (s.fld_setFld_self P.MIR_STATUS.B0_FAILED 1 (by decide) (by decide))

theorem State.bridgeLost_offMirror (s : State) : s.bridgeLost.offMirror = s.offMirror :=
  (State.withMir_offMirror _ (by simp only [Mirror.offState, Mirror.offGates])).trans
    ((of_frame (State.setDrive_offDrive _ _ _ _) State.offMirror).trans (s.setFld_offMirror _ _))

theorem State.bridgeLost_mirror (s : State) : s.bridgeLost.mirror.drive = .off ∧ s.bridgeLost.mirror.ocRun = 0 :=
  ⟨State.drive_setDrive_off _ 0 _, rfl⟩

/-- The spare is about to take over. -/
def State.spareDue (s : State) : State :=
  (s.bridgeLost.withMir fun m => { m with takeover := some (s.bridgeLost.now + 1000) }).liveWrap P.MIR_COUNTS.FAILOVERS 1

/-- There is no spare: FAULT, before its record. -/
def State.bridgeless (s : State) : State :=
  ((s.bridgeLost.enterMir 7).parkCause 5).withMir fun m => { m with inhibit := true, sched := none }

/-- A fault of bridge 0. -/
theorem State.bridgeFault_of_first {s : State} (hb : s.fld P.MIR_STATUS.BRIDGE = 0) (cause : Nat) (i : Int) :
    ∃ data, s.bridgeFault cause i =
      (if s.bit P.MIR_CTRL.SPARE_EN && !s.bit P.MIR_STATUS.B1_FAILED then s.spareDue else s.bridgeless).reported 0x0A01 data
        P.MIR_FLAGS.BRIDGE_FAULT := by
  have hspare : s.bridgeLost.bit P.MIR_CTRL.SPARE_EN = s.bit P.MIR_CTRL.SPARE_EN :=
    congrArg (· == 1) (s.fld_bridgeLost (by decide))
  have hfailed : s.bridgeLost.bit P.MIR_STATUS.B1_FAILED = s.bit P.MIR_STATUS.B1_FAILED :=
    congrArg (· == 1) (s.fld_bridgeLost (by decide))
  have hlost : ((s.setFld P.MIR_STATUS.B0_FAILED 1).setDrive 0 .off s.now).withMir (fun m => { m with ocRun := 0 }) =
      s.bridgeLost := id rfl
  simp only [State.bridgeFault, hb, if_true, State.setFld_now, hlost, hspare, hfailed]
  exact ⟨_, rfl⟩

section
variable {s : State} (hb : s.fld P.MIR_STATUS.BRIDGE = 0)
include hb

/-- With a spare the mirror's state is unchanged, and the spare takes over 1 µs later. -/
theorem State.bridgeFault_spare (hs : s.bit P.MIR_CTRL.SPARE_EN = true) (h1 : s.bit P.MIR_STATUS.B1_FAILED = false)
    (cause : Nat) (i : Int) :
    (s.bridgeFault cause i).fld P.MIR_STATUS.B0_FAILED = 1 ∧ (s.bridgeFault cause i).mirSt = s.mirSt ∧
    (s.bridgeFault cause i).fld P.MIR_FLAGS.BRIDGE_FAULT = 1 ∧ (s.bridgeFault cause i).mirror.drive = .off ∧
    (s.bridgeFault cause i).mirror.ocRun = 0 ∧
    (s.bridgeFault cause i).offPark = (s.withMir fun m => { m with takeover := some (s.now + 1000) }).offPark := by
  obtain ⟨data, hf⟩ := State.bridgeFault_of_first hb cause i
  obtain ⟨hdrive, hoc⟩ := s.bridgeLost_mirror
  have hp : s.spareDue.offPark = (s.withMir fun m => { m with takeover := some (s.now + 1000) }).offPark := by
    have hl : s.bridgeLost.offPark = s.offPark := of_frame s.bridgeLost_offMirror State.offPark
    rw [State.spareDue, of_frame s.bridgeLost_offMirror State.now]
    exact (State.offPark_of_unlogged (State.liveWrap_unlogged _ _ _)).trans
      (congrArg (fun u : State => { u with mirror := { u.mirror with takeover := some (s.now + 1000) } }) hl)
  have hfld : ∀ f, s.spareDue.fld f = s.bridgeLost.fld f := State.fld_of_regs <| by
    simp only [State.spareDue, State.liveWrap_regs, State.withMir_regs]
  have hm : s.spareDue.mirror = { s.bridgeLost.mirror with takeover := some (s.bridgeLost.now + 1000) } := by
    simp only [State.spareDue, State.liveWrap_mirror, State.withMir_mirror]
  rw [hs, h1, Bool.not_false, Bool.true_and, if_pos rfl] at hf
  rw [hf, State.mirSt, State.fld_reported _ _ _ (by decide) (by decide), State.fld_reported _ _ _ (by decide) (by decide),
    State.reported_mirror, State.reported_offPark, hfld, hfld, hm]
  exact ⟨s.b0Failed_bridgeLost, s.fld_bridgeLost (by decide), State.fld_setFlag_self _ _ rfl (by decide), hdrive, hoc, hp⟩

/-- Without one it stands in FAULT. -/
theorem State.bridgeFault_alone (hs : s.bit P.MIR_CTRL.SPARE_EN = false) (hr : s.mirror.runAt ≠ some s.now) (cause : Nat) (i : Int) :
    (s.bridgeFault cause i).fld P.MIR_STATUS.B0_FAILED = 1 ∧ (s.bridgeFault cause i).mirSt = 7 ∧
    (s.bridgeFault cause i).fld P.MIR_STATUS.CAUSE = 5 ∧ (s.bridgeFault cause i).fld P.MIR_CTRL.RUN = 0 ∧
    (s.bridgeFault cause i).mirror.drive = .off ∧ (s.bridgeFault cause i).mirror.inhibit = true ∧
    (s.bridgeFault cause i).mirror.runDue = s.mirror.runDue := by
  obtain ⟨data, hf⟩ := State.bridgeFault_of_first hb cause i
  obtain ⟨hmir, hcause, hframe⟩ := s.bridgeLost.parked_fields (st := 7) (c := 5) (by decide) (by decide)
  have hfailed : ((s.bridgeLost.enterMir 7).parkCause 5).fld P.MIR_STATUS.B0_FAILED = 1 := by
    rw [State.fld_parkCause _ _ _ (by decide), State.fld_setFld_ne _ _ _ _ (by decide) (by decide) (by decide),
      State.fld_enterMir _ _ (by decide), s.b0Failed_bridgeLost]
  have hrun : ((s.bridgeLost.enterMir 7).parkCause 5).fld P.MIR_CTRL.RUN = 0 := by
    refine State.parked_run 7 (by decide) ?_
    rw [of_frame s.bridgeLost_offMirror fun u => u.mirror.runAt, of_frame s.bridgeLost_offMirror State.now]
    exact hr
  have hdrive : ((s.bridgeLost.enterMir 7).parkCause 5).mirror.drive = .off := by
    rw [State.parkCause_mirror, State.drive_enterMir_rest _ (Or.inr rfl)]
  rw [hs, Bool.false_and, if_neg Bool.false_ne_true] at hf
  rw [hf, State.mirSt, State.fld_reported _ _ _ (by decide) (by decide), State.fld_reported _ _ _ (by decide) (by decide),
    State.fld_reported _ _ _ (by decide) (by decide), State.fld_reported _ _ _ (by decide) (by decide), State.reported_mirror]
  exact ⟨hfailed, hmir, hcause, hrun, hdrive, rfl,
    of_frame (hframe.trans s.bridgeLost_offMirror) fun u => u.mirror.runDue⟩
end

end Sys2Proof.Machine
end

section
/-! PROOFS. The mirror's states and its two loops (R237 to R248, Table 10.6): what RUN and DRV_EN bring about, what a start of
scanning leaves, and what a tick does. -/
namespace Sys2Proof.Machine
-- One proof after another, as in the tests: a thread for each takes more memory than the check has.
set_option Elab.async false

/-! ### A start of scanning (R57, R375) -/

/-- The device but for the links of the team, what leaves by them, and the free values drawn on the way. -/
def State.offHitch (s : State) : State := { s with fresh := 0, out := [], hitch := {} }

theorem State.offHitch_mk (s : State) (fresh out hitch) :
    State.offHitch { s with fresh := fresh, out := out, hitch := hitch } = s.offHitch := id rfl

theorem State.emit_offHitch (s : State) (o : Out) : (s.emit o).offHitch = s.offHitch := id rfl

theorem State.withLane_offHitch (s : State) (l : Nat) (f : LanePhy → LanePhy) : (s.withLane l f).offHitch = s.offHitch := id rfl

theorem State.skipsTo_offHitch (s : State) (l time : Nat) : (s.skipsTo l time).offHitch = s.offHitch := by
  simp only [State.skipsTo, apply_ite State.offHitch, State.emit_offHitch, State.withLane_offHitch, ite_self]

theorem State.laneSend_offHitch (s : State) (l d : Nat) (words : List LaneWord) :
    (s.laneSend l d words).offHitch = s.offHitch := by
  simp only [State.laneSend, State.skipAt, State.emit_offHitch, State.withLane_offHitch, apply_ite State.offHitch,
    State.skipsTo_offHitch, ite_self]

theorem State.linkFrame_offHitch (s : State) (k len : Nat) (data : List Byte) :
    (s.linkFrame k len data).offHitch = s.offHitch := by
  unfold State.linkFrame
  split <;> simp only [State.laneSend_offHitch]

theorem State.hitchFrame_offHitch (s : State) (k : Nat) (m : List Byte) : (s.hitchFrame k m).offHitch = s.offHitch := by
  simp only [State.hitchFrame, State.draw, apply_ite State.offHitch, State.linkFrame_offHitch, State.offHitch_mk, ite_self]

theorem State.nextCtr_offHitch (s : State) (k : Nat) : (s.nextCtr k).2.offHitch = s.offHitch := by
  unfold State.nextCtr
  split <;> rfl

theorem State.hitchSend_offHitch (s : State) (k type : Nat) (body : List Byte) : (s.hitchSend k type body).offHitch = s.offHitch := by
  unfold State.hitchSend
  split
  · exact s.hitchFrame_offHitch _ _
  · dsimp only
    split
    · exact s.nextCtr_offHitch k
    · exact (State.hitchFrame_offHitch _ _ _).trans (s.nextCtr_offHitch k)

/-- Telling the epoch to the members below changes nothing else. -/
theorem State.epochDraw_offHitch (s : State) : s.epochDraw.offHitch = (s.epochDrawAfter s.epochTop).offHitch :=
  forEach_keeps State.offHitch _ _ _ fun k u => u.hitchSend_offHitch k _ _

/-- A start of scanning writes CODE_EPOCH alone of the parameters, and of the rest what `State.offScanning` leaves out. -/
theorem State.startScanning_reg (s : State) {j : Nat} (hj : j ≠ K.CODE_EPOCH) : s.startScanning.reg j = s.reg j := by
  unfold State.startScanning
  split
  · rfl
  · rw [of_frame s.epochDraw_offHitch (State.reg · j), State.epochDrawAfter]
    exact State.reg_setFld_ne _ P.CODE_EPOCH.E_PENDING _ hj

theorem State.startScanning_offScanning (s : State) : s.startScanning.offScanning = s.offScanning := by
  unfold State.startScanning
  split
  · rfl
  · rw [of_frame s.epochDraw_offHitch State.offScanning, State.epochDrawAfter]
    exact State.setFld_offScanning _ _ _

/-! ### What the mirror's operations leave, a start of scanning among them -/

theorem State.enterMir_offScanning (s : State) (st : Nat) : (s.enterMir st).offScanning = s.offScanning :=
  State.offScanning_of_offMirror (s.enterMir_offMirror st)

theorem State.parkCause_offScanning (s : State) (c : Nat) : (s.parkCause c).offScanning = s.offScanning :=
  State.offScanning_of_offMirror (s.parkCause_offMirror c)

theorem State.setAmpl_offScanning (s : State) (h : Nat) : (s.setAmpl h).offScanning = s.offScanning :=
  (State.setFld_offScanning _ _ _).trans (s.withMir_offScanning rfl)

theorem State.tryRamp_offScanning (s : State) : s.tryRamp.offScanning = s.offScanning := by
  simp only [State.tryRamp, apply_ite State.offScanning, State.startScanning_offScanning, State.setAmpl_offScanning,
    State.enterMir_offScanning, ite_self]

theorem State.spinDown_offScanning (s : State) (cause : Nat) : (s.spinDown cause).offScanning = s.offScanning := by
  simp (disch := rfl) only [State.spinDown, apply_ite State.offScanning, State.tryRamp_offScanning, State.parkCause_offScanning,
    State.enterMir_offScanning, State.withMir_offScanning, ite_self]

theorem State.parkFromRest_offScanning (s : State) : s.parkFromRest.offScanning = s.offScanning := by
  simp (disch := rfl) only [State.parkFromRest, State.tryRamp_offScanning, State.setAmpl_offScanning,
    State.withMir_offScanning, State.enterMir_offScanning]

theorem State.tryPark_offScanning (s : State) : s.tryPark.offScanning = s.offScanning := by
  unfold State.tryPark
  split
  · split
    · rw [apply_ite State.offScanning, State.parkFromRest_offScanning, ite_self]
    · rfl
  · rfl

theorem State.mirrorOff_offScanning (s : State) : s.mirrorOff.offScanning = s.offScanning := by
  simp (disch := rfl) only [State.mirrorOff, apply_ite State.offScanning, State.withMir_offScanning, State.parkCause_offScanning,
    State.enterMir_offScanning, ite_self]

theorem State.mirDrv_offScanning (s : State) : s.mirDrv.offScanning = s.offScanning := by
  simp (disch := rfl) only [State.mirDrv, apply_ite State.offScanning, State.tryPark_offScanning, State.mirrorOff_offScanning,
    State.withMir_offScanning, ite_self]

theorem State.mirRun_offScanning (s : State) : s.mirRun.offScanning = s.offScanning := by
  simp (disch := rfl) only [State.mirRun, apply_ite State.offScanning, State.tryRamp_offScanning, State.spinDown_offScanning,
    State.withMir_offScanning, ite_self]

theorem State.mirRestart_offScanning (s : State) : s.mirRestart.offScanning = s.offScanning := by
  simp only [State.mirRestart, State.parkFromRest_offScanning, apply_ite State.offScanning, State.setFld_offScanning, ite_self]

/-! ### RUN (R237, R238) -/

/-- The device but for what spinning the mirror down, or turning it OFF, touches. -/
def State.unmirrored (s : State) : State := { s with regs := [], out := [], farrier := {}, mirror := {} }

theorem State.withMir_unmirrored (s : State) (f : Mirror → Mirror) : (s.withMir f).unmirrored = s.unmirrored := id rfl

theorem State.tryRamp_of_stopped {s : State} (h : s.bit P.MIR_CTRL.RUN = false) : s.tryRamp = s := by
  rw [State.tryRamp, if_neg (by simp [h])]

theorem State.tryRamp_of_other {s : State} (h1 : s.mirSt ≠ 1) (h5 : s.mirSt ≠ 5) : s.tryRamp = s := by
  simp only [State.tryRamp, h1, h5, false_and, if_false, ite_self]

/-- The amplitude that a scan begins with (Table 10.6). -/
def State.rampAmpl (s : State) : Nat := Nat.min ((s.est s.now).num.natAbs / (s.est s.now).den) s.ampl

theorem State.tryRamp_of_parked {s : State} (hr : s.bit P.MIR_CTRL.RUN = true) (h1 : s.mirSt = 1) (hp : s.mirror.p = 0) :
    s.tryRamp = ((s.enterMir 2).setAmpl s.rampAmpl).startScanning := by
  rw [State.tryRamp, if_pos hr, if_pos ⟨h1, hp⟩]
  rfl

/-- Of MIR_STATUS only H changes with the amplitude. -/
theorem State.fld_setAmpl_ne (s : State) (h : Nat) {f : FieldRef} (hf : P.MIR_STATUS.H.hi < f.lo ∨ f.hi < P.MIR_STATUS.H.lo) :
    (s.setAmpl h).fld f = s.fld f := State.fld_setFld_ne _ P.MIR_STATUS.H f _ (by decide) (by decide) hf

theorem State.mirSt_setAmpl (s : State) (h : Nat) : (s.setAmpl h).mirSt = s.mirSt := s.fld_setAmpl_ne h (by decide)

theorem State.fld_setAmpl (s : State) (h : Nat) {f : FieldRef} (hf : f.key ≠ K.MIR_STATUS) : (s.setAmpl h).fld f = s.fld f :=
  State.fld_setFld_key _ P.MIR_STATUS.H f _ hf

theorem State.fld_startScanning (s : State) {f : FieldRef} (hf : f.key ≠ K.CODE_EPOCH) : s.startScanning.fld f = s.fld f :=
  congrArg (wordFld · f) (s.startScanning_reg hf)

/-- A scan that begins is in RAMP. -/
theorem State.mirSt_ramping (s : State) (h : Nat) : ((s.enterMir 2).setAmpl h).startScanning.mirSt = 2 :=
  (State.fld_startScanning _ (by decide)).trans ((State.mirSt_setAmpl _ h).trans (s.mirSt_enterMir (by decide)))

theorem State.mirSt_tryRamp (s : State) : s.tryRamp.mirSt = s.mirSt ∨ s.tryRamp.mirSt = 2 := by
  unfold State.tryRamp
  split
  · dsimp only
    split
    · exact Or.inr (s.mirSt_ramping _)
    · split
      · exact Or.inr ((State.fld_startScanning _ (by decide)).trans (s.mirSt_enterMir (by decide)))
      · exact Or.inl rfl
  · exact Or.inl rfl

/-- RUN = 0 spins a moving mirror down, which shows cause 1 and no more (R238). -/
def State.stopped (s : State) : State :=
  ((s.withMir fun m => { m with downAt := some s.now }).enterMir 5).setFld P.MIR_STATUS.CAUSE 1

theorem State.run_stopped (s : State) : s.stopped.fld P.MIR_CTRL.RUN = s.fld P.MIR_CTRL.RUN :=
  (State.fld_setFld_key _ P.MIR_STATUS.CAUSE _ 1 (by decide)).trans (State.fld_enterMir _ 5 (by decide))

theorem State.mirSt_stopped (s : State) : s.stopped.mirSt = 5 :=
  (State.fld_setFld_ne _ P.MIR_STATUS.CAUSE _ 1 (by decide) (by decide) (by decide)).trans (State.mirSt_enterMir _ (by decide))

theorem State.cause_stopped (s : State) : s.stopped.fld P.MIR_STATUS.CAUSE = 1 :=
  State.fld_setFld_self _ P.MIR_STATUS.CAUSE 1 (by decide) (by decide)

theorem State.stopped_offMirror (s : State) : s.stopped.offMirror = (s.withMir fun m => { m with downAt := some s.now }).offMirror :=
  (State.setFld_offMirror _ _ _).trans (State.enterMir_offMirror _ 5)

theorem State.stopped_unmirrored (s : State) : s.stopped.unmirrored = s.unmirrored := by
  rw [of_frame s.stopped_offMirror State.unmirrored, State.withMir_unmirrored]

theorem State.stopped_out (s : State) : s.stopped.out = s.out :=
  (of_frame (State.setFld_unlogged _ _ _) State.out).trans (State.enterMir_out _ (by decide))

theorem State.stopped_sameRegs (s : State) : s.stopped.SameRegs s [K.MIR_STATUS] := fun j hj =>
  (State.reg_setFld_ne _ P.MIR_STATUS.CAUSE 1 fun e : j = K.MIR_STATUS => hj (e ▸ List.mem_cons_self)).trans
    (State.enterMir_sameRegs _ 5 j hj)

theorem State.spinDown_of_moving {s : State} (hr : s.bit P.MIR_CTRL.RUN = false) (h : 2 ≤ s.mirSt ∧ s.mirSt ≤ 4) :
    s.spinDown 1 = s.stopped := by
  have hs : s.spinDown 1 = s.stopped.tryRamp := by
    simp only [State.spinDown, if_pos h, if_true, State.parkCause_of_run _ (Or.inl rfl), State.stopped]
  rw [hs]
  refine State.tryRamp_of_stopped ?_
  rw [State.bit, s.run_stopped]
  exact hr

theorem State.spinDown_of_still {s : State} (h : s.mirSt < 2 ∨ 5 ≤ s.mirSt) : s.spinDown 1 = s := by
  rw [State.spinDown, if_neg (by omega), if_neg (fun x => x.2.1 rfl)]

/-- A RUN that waits for this tick has acted by its end. -/
def State.runTaken (s : State) : State := s.withMir fun m => { m with runDue := false }

theorem State.mirRun_of_idle {s : State} (h : s.mirror.runDue = false) : s.mirRun = s := by
  have hm : s.runTaken = s := by
    rw [State.runTaken, State.withMir, ← h]
  simp only [State.mirRun, h, Bool.not_false, if_true]
  exact hm

theorem State.mirRun_of_due {s : State} (h : s.mirror.runDue = true) :
    s.mirRun = if s.bit P.MIR_CTRL.RUN then s.runTaken.tryRamp else s.runTaken.spinDown 1 := by
  simp only [State.mirRun, h, Bool.not_true, Bool.false_eq_true, if_false]
  rfl

/-- A mirror that is OFF takes no RUN. -/
theorem State.mirRun_of_off {s : State} (h : s.mirSt = 0) : s.mirRun = s.runTaken := by
  have hr : s.runTaken.tryRamp = s.runTaken := State.tryRamp_of_other (by rw [State.runTaken, State.mirSt_withMir]; omega)
    (by rw [State.runTaken, State.mirSt_withMir]; omega)
  have hd : s.runTaken.spinDown 1 = s.runTaken := State.spinDown_of_still (by rw [State.runTaken, State.mirSt_withMir]; omega)
  have hite : s.mirRun = if !s.mirror.runDue then s.runTaken else
      if s.bit P.MIR_CTRL.RUN then s.runTaken.tryRamp else s.runTaken.spinDown 1 := id rfl
  rw [hite, hr, hd, ite_self, ite_self]

/-! ### DRV_EN (R231, R238) -/

/-- A tick at which the fields of MIR_CTRL act. -/
def State.ticked (s : State) : State := s.withMir fun m => { m with drvDue := false, tickAt := some s.now }

theorem State.mirDrv_of_idle {s : State} (h : s.mirror.drvDue = false) : s.mirDrv = s.ticked := by
  simp only [State.mirDrv, h, Bool.not_false, if_true]
  rfl

theorem State.mirDrv_of_due {s : State} (h : s.mirror.drvDue = true) :
    s.mirDrv = if s.bit P.MIR_CTRL.DRV_EN then s.ticked.tryPark else s.ticked.mirrorOff := by
  simp only [State.mirDrv, h, Bool.not_true, Bool.false_eq_true, if_false]
  rfl

theorem State.tryPark_of_on {s : State} (h : s.mirSt ≠ 0) : s.tryPark = s := if_neg fun x => h x.1

theorem State.tryPark_of_fresh {s : State} {n : AngSample} (h0 : s.mirSt = 0) (hd : s.bit P.MIR_CTRL.DRV_EN = true)
    (hn : s.mirror.n = some n) (ht : s.now ≤ n.arrived + 1000 * s.fld P.MIR_TOL.STALE_US) : s.tryPark = s.parkFromRest := by
  rw [State.tryPark, if_pos ⟨h0, hd⟩, hn]
  exact if_pos ht

/-- OFF, with the drive open (R229, Table 10.7). -/
def State.shut (s : State) : State :=
  ((s.enterMir 0).setFld P.MIR_STATUS.CAUSE 8).withMir fun m => { m with sched := none, iRef := 0, inhibit := true }

theorem State.mirrorOff_of_on {s : State} (h : s.mirSt ≠ 0) : s.mirrorOff = s.shut := by
  rw [State.mirrorOff, if_neg h, State.parkCause_of_run _ (Or.inr rfl)]
  rfl

theorem State.shut_regs (s : State) : s.shut.regs = ((s.enterMir 0).setFld P.MIR_STATUS.CAUSE 8).regs := by
  rw [State.shut, State.withMir_regs]

theorem State.shut_mirror (s : State) :
    s.shut.mirror = { (s.enterMir 0).mirror with sched := none, iRef := 0, inhibit := true } := by
  rw [State.shut, State.withMir_mirror, State.setFld_mirror]

theorem State.shut_unmirrored (s : State) : s.shut.unmirrored = s.unmirrored := by
  rw [State.shut, State.withMir_unmirrored, of_frame (State.setFld_offMirror _ _ _) State.unmirrored,
    of_frame (State.enterMir_offMirror _ _) State.unmirrored]

theorem State.mirSt_shut (s : State) : s.shut.mirSt = 0 := by
  rw [State.mirSt, State.fld_of_regs s.shut_regs, State.fld_setFld_ne _ _ _ _ (by decide) (by decide) (by decide)]
  exact s.mirSt_enterMir (by decide)

theorem State.cause_shut (s : State) : s.shut.fld P.MIR_STATUS.CAUSE = 8 :=
  (State.fld_of_regs s.shut_regs _).trans (State.fld_setFld_self _ P.MIR_STATUS.CAUSE 8 (by decide) (by decide))

theorem State.drive_shut (s : State) : s.shut.mirror.drive = .off := by
  rw [s.shut_mirror]
  exact s.drive_enterMir_rest (Or.inl rfl)

theorem State.shut_sameRegs (s : State) : s.shut.SameRegs s [K.MIR_STATUS] := fun j hj => by
  have hset : ((s.enterMir 0).setFld P.MIR_STATUS.CAUSE 8).reg j = (s.enterMir 0).reg j :=
    State.reg_setFld_ne _ P.MIR_STATUS.CAUSE 8 fun e => hj (e ▸ List.mem_cons_self)
  exact ((congrArg (planeGet · j) s.shut_regs).trans hset).trans (s.enterMir_sameRegs 0 j hj)

/-! ### PARKED (R237) -/

/-- PARKED, its reference loaded, before RUN may lead on. -/
def State.rested (s : State) : State :=
  ((s.enterMir 1).withMir fun m => { m with p := s.estRound s.now }).setAmpl 0

theorem State.mirSt_rested (s : State) : s.rested.mirSt = 1 := by
  rw [State.rested, State.mirSt_setAmpl, State.mirSt_withMir, s.mirSt_enterMir (by decide)]

/-- From rest the mirror is PARKED, or in RAMP already where RUN stands. -/
theorem State.mirSt_parkFromRest (s : State) : s.parkFromRest.mirSt = 1 ∨ s.parkFromRest.mirSt = 2 :=
  (State.mirSt_tryRamp _).imp_left fun h => h.trans s.mirSt_rested

theorem State.run_tryRamp (s : State) : s.tryRamp.fld P.MIR_CTRL.RUN = s.fld P.MIR_CTRL.RUN := by
  unfold State.tryRamp
  split
  · dsimp only
    split
    · rw [State.fld_startScanning _ (by decide), State.fld_setAmpl _ _ (by decide), State.fld_enterMir _ 2 (by decide)]
    · split
      · rw [State.fld_startScanning _ (by decide), State.fld_enterMir _ 2 (by decide)]
      · rfl
  · rfl

/-- A RUN that acts then changes no more: RUN = 0 finds the mirror PARKED. -/
theorem State.mirSt_mirRun_parkFromRest (s : State) : s.parkFromRest.mirRun.mirSt = 1 ∨ s.parkFromRest.mirRun.mirSt = 2 := by
  cases hdue : s.parkFromRest.mirror.runDue with
  | false =>
    rw [State.mirRun_of_idle hdue]
    exact s.mirSt_parkFromRest
  | true =>
    rw [State.mirRun_of_due hdue]
    have hrest : s.parkFromRest = s.rested.tryRamp := id rfl
    have hrun : s.parkFromRest.bit P.MIR_CTRL.RUN = s.rested.bit P.MIR_CTRL.RUN := by
      rw [hrest, State.bit, s.rested.run_tryRamp, State.bit]
    cases hr : s.rested.bit P.MIR_CTRL.RUN with
    | true =>
      rw [hrun, hr, if_pos rfl]
      obtain h | h := s.parkFromRest.runTaken.mirSt_tryRamp
      · rw [h, State.runTaken, State.mirSt_withMir]
        exact s.mirSt_parkFromRest
      · exact Or.inr h
    | false =>
      have hst : s.parkFromRest.runTaken.mirSt = 1 := by
        rw [State.runTaken, State.mirSt_withMir, hrest, State.tryRamp_of_stopped hr, s.mirSt_rested]
      rw [hrun, hr, if_neg Bool.false_ne_true, State.spinDown_of_still (by rw [hst]; decide)]
      exact Or.inl hst

end Sys2Proof.Machine
end

section
/-! PROOFS. The mirror's bridge, its angle samples and its two loops (R228 to R248): O25. -/
namespace Sys2Proof.Machine
-- One proof after another, as in the tests: a thread for each takes more memory than the check has.
set_option Elab.async false

/-! ### The amplitude at a tick (R237) -/

theorem State.setAmpl_mirror (s : State) (h : Nat) : (s.setAmpl h).mirror = { s.mirror with h := h } := by
  rw [State.setAmpl, State.setFld_mirror, State.withMir_mirror]

theorem State.ampSlew_of_moving {s : State} (h : 2 ≤ s.mirSt ∧ s.mirSt ≤ 4) :
    s.ampSlew = s.setAmpl (slewTo s.mirror.h s.ampl (10 * s.fld P.MIR_TRAJ.AMP_SLEW)) := by
  have h1 : s.mirSt ≠ 1 := by omega
  have h5 : s.mirSt ≠ 5 := by omega
  simp only [State.ampSlew, State.setAmpl, State.withMir, if_pos h, h1, h5, if_false, false_and]

theorem State.ampSlew_of_off {s : State} (h : s.mirSt = 0) : s.ampSlew = s.setAmpl s.mirror.h := by
  simp [State.ampSlew, State.setAmpl, State.withMir, h]

/-! ### The position loop (R240 to R243) -/

/-- The mirror's record but for what a tick of the position loop touches. -/
def Mirror.offLoop (m : Mirror) : Mirror := { m.offState with iRef := 0, table := [], freshSample := false }

/-- The device but for what a tick of the position loop touches. -/
def State.offLoop (s : State) : State := { s.unlogged with out := [], farrier := {}, mirror := s.mirror.offLoop }

theorem State.offLoop_of_offPark {u s : State} (h : u.offPark = s.offPark) : u.offLoop = s.offLoop := of_frame h State.offLoop

theorem State.withMir_offLoop (s : State) {f : Mirror → Mirror} (h : (f s.mirror).offLoop = s.mirror.offLoop) :
    (s.withMir f).offLoop = s.offLoop := congrArg (fun m => { s.offLoop with mirror := m }) h

theorem State.mirMax_unlogged (s : State) (f : FieldRef) (v : Nat) : (s.mirMax f v).unlogged = s.unlogged := by
  simp only [State.mirMax, State.setLive, State.unlogged_mk]

/-- Learning touches the tables, and a flag (R243). -/
theorem State.learn_offLoop (s : State) (t e : Int) : (s.learn t e).offLoop = s.offLoop := by
  have hm : ∀ x : Mirror → SMap Int, (s.withMir fun m => { m with table := x m }).offLoop = s.offLoop := fun x =>
    s.withMir_offLoop (by simp only [Mirror.offLoop, Mirror.offState, Mirror.offGates])
  unfold State.learn
  split
  · dsimp only
    split
    · exact hm _
    · exact (State.offLoop_of_offPark (State.setFlag_offPark _ _)).trans (hm _)
  · rfl

theorem State.fld_learn (s : State) (t e : Int) {f : FieldRef} (hf : f.key ≠ K.MIR_FLAGS) : (s.learn t e).fld f = s.fld f := by
  unfold State.learn
  split
  · dsimp only
    split
    · exact s.fld_withMir _ f
    · exact (State.fld_setFlag_key _ _ f hf).trans (s.fld_withMir _ f)
  · rfl

/-- The errors of the frame are counted. -/
def State.errorsNoted (s : State) (f : FieldRef) (e : Int) (run : Nat) (good : Bool) : State :=
  (s.mirMax f e.natAbs).withMir fun m => { m with lossRun := run, frameGood := m.frameGood && good }

theorem State.errorsNoted_offPark (s : State) (f : FieldRef) (e : Int) (run : Nat) (good : Bool) :
    (s.errorsNoted f e run good).offPark = s.offPark :=
  (State.withMir_offPark _ (by simp only [Mirror.offState, Mirror.offGates])).trans
    (State.offPark_of_unlogged (s.mirMax_unlogged f _))

/-- TRACK is kept, or lost (Table 10.6). -/
theorem State.trackError_cases (s : State) (t e : Int) : ∃ f run good,
    s.trackError t e = s.errorsNoted f e run good ∨ s.trackError t e = (s.errorsNoted f e run good).enterMir 4 := by
  obtain ⟨f, run, good, h⟩ : ∃ f run good, s.trackError t e =
      if (s.errorsNoted f e run good).mirSt = 3 ∧ 3 ≤ run then (s.errorsNoted f e run good).enterMir 4
      else s.errorsNoted f e run good := ⟨_, _, _, rfl⟩
  refine ⟨f, run, good, ?_⟩
  rw [h]
  split
  · exact Or.inr rfl
  · exact Or.inl rfl

theorem State.trackError_offPark (s : State) (t e : Int) : (s.trackError t e).offPark = s.offPark := by
  obtain ⟨f, run, good, h | h⟩ := s.trackError_cases t e
  · rw [h, s.errorsNoted_offPark]
  · rw [h, of_frame (State.enterMir_offMirror _ 4) State.offPark, s.errorsNoted_offPark]

theorem State.trackError_fields {s : State} (t e : Int) (h : 2 ≤ s.mirSt ∧ s.mirSt ≤ 4) (ho : s.mirror.overRun = 0) :
    (2 ≤ (s.trackError t e).mirSt ∧ (s.trackError t e).mirSt ≤ 4) ∧
    (s.trackError t e).fld P.MIR_CTRL.RUN = s.fld P.MIR_CTRL.RUN ∧ (s.trackError t e).mirror.overRun = 0 := by
  obtain ⟨f, run, good, ht | ht⟩ := s.trackError_cases t e
  · rw [ht]
    exact ⟨h, rfl, ho⟩
  · rw [ht, State.mirSt_enterMir _ (by decide), State.fld_enterMir _ 4 (by decide)]
    exact ⟨by decide, rfl, State.overRun_enterMir 4 ho⟩

/-- The outer loop's result comes into force (R240). -/
def State.looped (s : State) (e iRef sum : Int) : State :=
  (s.withMir fun m => { m with iRef := iRef, sum := sum, ePrev := e, overRun := 0, freshSample := false }).mirMax
    P.MIR_FRAME.PEAK_IREF iRef.natAbs

theorem State.looped_offLoop (s : State) (e iRef sum : Int) : (s.looped e iRef sum).offLoop = s.offLoop :=
  (of_frame (State.mirMax_unlogged _ _ _) State.offLoop).trans
    (s.withMir_offLoop (by simp only [Mirror.offLoop, Mirror.offState, Mirror.offGates]))

theorem State.fld_looped (s : State) (e iRef sum : Int) (f : FieldRef) : (s.looped e iRef sum).fld f = s.fld f :=
  State.fld_of_regs (by simp only [State.looped, State.mirMax, State.setLive_regs, State.withMir_regs]) f

theorem State.looped_mirror (s : State) (e iRef sum : Int) : (s.looped e iRef sum).mirror =
    { s.mirror with iRef := iRef, sum := sum, ePrev := e, overRun := 0, freshSample := false } := by
  simp only [State.looped, State.mirMax, State.setLive_mirror, State.withMir_mirror]

theorem clampI_mem {lo hi : Int} (h : lo ≤ hi) (n : Int) : lo ≤ clampI lo hi n ∧ clampI lo hi n ≤ hi := by
  unfold clampI
  split
  · exact ⟨le_rfl, h⟩
  · split <;> omega

/-- A tick gives a current reference within I_LIMIT, learns, and judges the error. -/
theorem State.positionLoop_of_active {s : State} (h : 1 ≤ s.mirSt ∧ s.mirSt ≤ 5) (t : Nat) : ∃ e iRef sum,
    (-(s.fld P.MIR_CFG.I_LIMIT : Int) ≤ iRef ∧ iRef ≤ (s.fld P.MIR_CFG.I_LIMIT : Int)) ∧
    s.positionLoop t = ((s.learn t e).looped e iRef sum).trackError t e :=
  ⟨_, _, _, clampI_mem (by omega) _, if_pos h⟩

theorem State.positionLoop_of_off {s : State} (h : s.mirSt = 0) (t : Nat) : s.positionLoop t = s := if_neg (by omega)

/-- A tick of a mirror that scans. -/
theorem State.positionLoop_fields {s : State} (h : 2 ≤ s.mirSt ∧ s.mirSt ≤ 4) (t : Nat) :
    (-(s.fld P.MIR_CFG.I_LIMIT : Int) ≤ (s.positionLoop t).mirror.iRef ∧
      (s.positionLoop t).mirror.iRef ≤ (s.fld P.MIR_CFG.I_LIMIT : Int)) ∧
    (2 ≤ (s.positionLoop t).mirSt ∧ (s.positionLoop t).mirSt ≤ 4) ∧
    (s.positionLoop t).fld P.MIR_CTRL.RUN = s.fld P.MIR_CTRL.RUN ∧ (s.positionLoop t).mirror.overRun = 0 ∧
    (s.positionLoop t).offLoop = s.offLoop := by
  obtain ⟨e, iRef, sum, hi, hp⟩ := State.positionLoop_of_active (s := s) (by omega) t
  have hlearn : ∀ f : FieldRef, f.key ≠ K.MIR_FLAGS → ((s.learn t e).looped e iRef sum).fld f = s.fld f := fun f hf =>
    (State.fld_looped _ e iRef sum f).trans (s.fld_learn t e hf)
  have hst : ((s.learn t e).looped e iRef sum).mirSt = s.mirSt := hlearn _ (by decide)
  have hmirror := State.looped_mirror (s.learn t e) e iRef sum
  obtain ⟨hmir, hrun, hover⟩ := State.trackError_fields (s := (s.learn t e).looped e iRef sum) t e (by rw [hst]; exact h)
    (congrArg Mirror.overRun hmirror)
  have hframe := State.trackError_offPark ((s.learn t e).looped e iRef sum) t e
  have hiRef : (((s.learn t e).looped e iRef sum).trackError t e).mirror.iRef = iRef :=
    (of_frame hframe fun u => u.mirror.iRef).trans (congrArg Mirror.iRef hmirror)
  rw [hp, hiRef]
  exact ⟨hi, hmir, hrun.trans (hlearn _ (by decide)), hover,
    (State.offLoop_of_offPark hframe).trans ((State.looped_offLoop _ e iRef sum).trans (s.learn_offLoop t e))⟩

/-- A late tick, counted (R241). -/
def State.lateNoted (s : State) : State :=
  ((s.liveWrap P.MIR_COUNTS.OVERRUNS 1).setFlag P.MIR_FLAGS.OVERRUN_SEEN).withMir fun m =>
    { m with overRun := s.mirror.overRun + 1, freshSample := false }

theorem State.lateNoted_unlogged (s : State) :
    ((s.liveWrap P.MIR_COUNTS.OVERRUNS 1).setFlag P.MIR_FLAGS.OVERRUN_SEEN).unlogged = s.unlogged :=
  (State.setFlag_unlogged _ _).trans (s.liveWrap_unlogged _ _)

theorem State.overrun_of_active {s : State} (h : 1 ≤ s.mirSt ∧ s.mirSt ≤ 5) :
    s.overrun = if 3 ≤ s.mirror.overRun + 1 then s.lateNoted.blindPark 4 else s.lateNoted := by
  have hm := of_frame s.lateNoted_unlogged State.mirror
  simp only [State.overrun, if_pos h, hm, State.lateNoted]

theorem State.fld_lateNoted (s : State) {f : FieldRef} (hf : f.key ≠ K.MIR_FLAGS) : s.lateNoted.fld f = s.fld f := by
  rw [State.lateNoted, State.fld_withMir, State.fld_setFlag_key _ _ _ hf]
  exact State.fld_of_regs (s.liveWrap_regs _ _) f

theorem State.seen_lateNoted (s : State) : s.lateNoted.fld P.MIR_FLAGS.OVERRUN_SEEN = 1 := by
  rw [State.lateNoted, State.fld_withMir]
  exact State.fld_setFlag_self _ _ rfl (by decide)

theorem State.lateNoted_mirror (s : State) :
    s.lateNoted.mirror = { s.mirror with overRun := s.mirror.overRun + 1, freshSample := false } := by
  rw [State.lateNoted, State.withMir_mirror, of_frame s.lateNoted_unlogged State.mirror]

/-! ### The end of a tick (R238) -/

theorem State.tickEnd_of_idle {s : State} (h : s.mirror.runDue = false) (h1 : s.mirSt ≠ 1) : s.tickEnd = s := by
  rw [State.tickEnd, State.mirRun_of_idle h]
  exact if_neg h1

theorem State.tickEnd_of_off {s : State} (h : s.mirSt = 0) : s.tickEnd = s.runTaken := by
  have h1 : s.runTaken.mirSt ≠ 1 := by
    rw [State.runTaken, State.mirSt_withMir, h]
    decide
  rw [State.tickEnd, State.mirRun_of_off h]
  exact if_neg h1

theorem State.tickEnd_of_stopped {s : State} (hdue : s.mirror.runDue = true) (hr : s.bit P.MIR_CTRL.RUN = false)
    (h : 2 ≤ s.mirSt ∧ s.mirSt ≤ 4) : s.tickEnd = s.runTaken.stopped := by
  have hrun : s.mirRun = s.runTaken.stopped := by
    rw [State.mirRun_of_due hdue, hr, if_neg Bool.false_ne_true]
    exact State.spinDown_of_moving hr h
  have h1 : s.runTaken.stopped.mirSt ≠ 1 := by
    rw [State.mirSt_stopped]
    decide
  rw [State.tickEnd, hrun]
  exact if_neg h1

/-! ### An angle sample (R231, R232) -/

/-- A valid sample is the latest one; `base` is its angle before the correction (R301). -/
def State.sampled (s : State) (x : AngSample) (base : Int) : State :=
  s.withMir fun m => { m with
    raw := ((base, x.t) :: m.raw).take 2, n := some x, m := m.n, freshSample := true,
    validSince := if m.validSince.isSome then m.validSince else some s.now }

/-- It may schedule a trigger, and bring the mirror out of OFF. -/
theorem State.angleTaken_cases (s : State) (q : Frac) (tn g : Nat) : ∃ (x : AngSample) (base : Int) (u : State),
    x.t = tn ∧ x.arrived = s.now ∧ s.angleTaken q tn g false false = (u.setFldI P.MIR_STATUS.ANGLE x.theta).tryPark ∧
    (u = s.sampled x base ∨ ∃ c, u = (s.sampled x base).withMir fun m => { m with sched := c }) := by
  refine ⟨⟨_, tn, s.now⟩, roundHalfEven (q.num * 1000000) q.den, _, rfl, rfl, rfl, ?_⟩
  cases s.mirror.n with
  | none => exact Or.inl rfl
  | some p => exact (Classical.em _).elim (fun h => Or.inr ⟨_, if_pos h⟩) fun h => Or.inl (if_neg h)

theorem State.angleTaken_offScanning (s : State) (q : Frac) (tn g : Nat) : ∃ x : AngSample, x.t = tn ∧ x.arrived = s.now ∧
    (s.angleTaken q tn g false false).offScanning =
      (s.withMir fun m => { m with n := some x, m := m.n }).offScanning := by
  obtain ⟨x, base, u, ht, ha, htaken, hu⟩ := s.angleTaken_cases q tn g
  have hs : (s.sampled x base).offScanning = (s.withMir fun m => { m with n := some x, m := m.n }).offScanning := rfl
  have hframe : u.offScanning = (s.sampled x base).offScanning := by
    obtain rfl | ⟨c, rfl⟩ := hu
    · rfl
    · exact State.withMir_offScanning _ rfl
  refine ⟨x, ht, ha, ?_⟩
  rw [htaken, State.tryPark_offScanning, State.setFldI, State.setFld_offScanning, hframe, hs]

end Sys2Proof.Machine
end

section
/-! PROOFS. The commands of the mirror's bridge, angle and loops (R228 to R248): O25. -/
namespace Sys2Proof.Machine
-- One proof after another, as in the tests: a thread for each takes more memory than the check has.
set_option Elab.async false

/-- Apart from the mirror's record and what has left, two devices with the same frame are the same. -/
theorem State.rest_of_offLoops {u s : State} (h : u.offLoops = s.offLoops) : { u with mirror := s.mirror, out := s.out } = s :=
  congrArg (fun x : State => { x with mirror := s.mirror, out := s.out }) h

/-! ### A current sample (R228 to R230) -/

/-- The device at a current sample: the gates whose dead time is over are high, and no field of MIR_CTRL waits. -/
def State.atSample (s : State) (t : Nat) : State := ((s.at_ t).gatesOn t).ticked

theorem State.atSample_offLoops (s : State) (t : Nat) : (s.atSample t).offLoops = (s.at_ t).offLoops :=
  (s.at_ t).gatesOn_offLoops t

theorem State.atSample_mirror (s : State) (t : Nat) :
    (s.atSample t).mirror.offGates = { s.mirror.offGates with drvDue := false, tickAt := (s.atSample t).mirror.tickAt } := by
  have hm : (s.atSample t).mirror = { ((s.at_ t).gatesOn t).mirror with drvDue := false, tickAt := (s.atSample t).mirror.tickAt } := rfl
  rw [hm, State.gatesOn_mirror, ← s.mirror.gatesUp_offGates t]
  rfl

section
variable {s : State} {t : Nat} {i : Int}

/-- A current inside I_TRIP: the current loop decides. -/
theorem State.currentAt_of_inside (hst : 1 ≤ s.mirSt ∧ s.mirSt ≤ 5) (ht : s.mirror.takeover = none)
    (hi : i.natAbs ≤ s.fld P.MIR_CFG.I_TRIP) :
    s.currentAt t i = (s.withMir fun m => { m with ocRun := 0 }).chooseDrive t i := by
  have hoc : decide ((s.fld P.MIR_CFG.I_TRIP : Int) < i.natAbs) = false := decide_eq_false (by omega)
  have hact : 1 ≤ s.mirSt ∧ s.mirSt ≤ 6 ∧ s.mirror.takeover.isNone = true := ⟨hst.1, by omega, by rw [ht]; rfl⟩
  simp only [State.currentAt, if_pos hact, hoc, Bool.false_eq_true, false_and, if_false]

/-- The second in a row above it: a bridge fault. -/
theorem State.currentAt_of_second (hst : 1 ≤ s.mirSt ∧ s.mirSt ≤ 5) (ht : s.mirror.takeover = none)
    (hi : s.fld P.MIR_CFG.I_TRIP < i.natAbs) (hoc : 1 ≤ s.mirror.ocRun) : s.currentAt t i = s.bridgeFault 0 i := by
  have hact : 1 ≤ s.mirSt ∧ s.mirSt ≤ 6 ∧ s.mirror.takeover.isNone = true := ⟨hst.1, by omega, by rw [ht]; rfl⟩
  have hgt : decide ((s.fld P.MIR_CFG.I_TRIP : Int) < i.natAbs) = true ∧ 1 ≤ s.mirror.ocRun := ⟨decide_eq_true (by omega), hoc⟩
  simp only [State.currentAt, if_pos hact, if_pos hgt]

/-- CURRENT_SAMPLE with no DRV_EN waiting. -/
theorem exec_currentSample (ha : s.Awake) (ht : t % 20 = 0) (hi : currentCode i = true) (hd : s.mirror.drvDue = false) :
    exec (.currentSample t i) s = .next ((s.atSample t).currentAt t i).mirRun := by
  have hexec : exec (.currentSample t i) s = .next ((((s.at_ t).gatesOn t).mirDrv).currentAt t i).mirRun :=
    (if_neg (by simp [show s.ctl.por = false from ha])).trans (if_neg (by simp [ht, hi]))
  have hd' : ((s.at_ t).gatesOn t).mirror.drvDue = false := by
    rw [State.gatesOn_mirror]
    exact (congrArg Mirror.drvDue (s.mirror.gatesUp_offGates t)).trans hd
  rw [hexec, State.mirDrv_of_idle hd']
  rfl

/-- A current inside I_TRIP (R229). -/
theorem currentSample_inside (ha : s.Awake) (ht : t % 20 = 0) (hst : 1 ≤ s.mirSt ∧ s.mirSt ≤ 5) (htake : s.mirror.takeover = none)
    (hi : currentCode i = true) (hb : s.bridgeFailed (s.fld P.MIR_STATUS.BRIDGE) = false)
    (htrip : i.natAbs ≤ s.fld P.MIR_CFG.I_TRIP) (hd : s.mirror.drvDue = false) (hr : s.mirror.runDue = false) :
    ∃ u, exec (.currentSample t i) s = .next u ∧ u.mirror.ocRun = 0 ∧ u.mirror.iRef = s.limitIRef.mirror.iRef ∧
      u.mirror.drive = s.mirror.drive.chosen i s.limitIRef.mirror.iRef (s.fld P.MIR_CFG.IBAND) ∧
      { u with mirror := s.mirror, out := s.out } = s.at_ t := by
  have hx := s.atSample_offLoops t
  have hm := s.atSample_mirror t
  have hfld : ∀ f, (s.atSample t).fld f = s.fld f := fun f => of_frame hx (State.fld · f)
  have hmir : (s.atSample t).mirSt = s.mirSt := hfld _
  have hbf : (s.atSample t).bridgeFailed ((s.atSample t).fld P.MIR_STATUS.BRIDGE) = false :=
    (of_frame hx fun x => x.bridgeFailed (x.fld P.MIR_STATUS.BRIDGE)).trans hb
  have hin := State.currentAt_of_inside (s := s.atSample t) (t := t) (i := i) (by rw [hmir]; exact hst)
    ((congrArg Mirror.takeover hm).trans htake) (by rw [hfld]; exact htrip)
  obtain ⟨hiRef, hdrive⟩ := State.chooseDrive_drive (s := (s.atSample t).withMir fun m => { m with ocRun := 0 })
    (by rw [State.mirSt_withMir, hmir]; exact hst) hbf t i
  have hlim : ((s.atSample t).withMir fun m => { m with ocRun := 0 }).limitIRef.mirror.iRef = s.limitIRef.mirror.iRef := by
    have h1 : (s.atSample t).mirror.iRef = s.mirror.iRef := by have hk := congrArg Mirror.iRef hm; exact hk
    simp only [State.limitIRef, State.withMir_mirror, State.fld_withMir, hfld, h1]
  have hframe := State.chooseDrive_offCurrent ((s.atSample t).withMir fun m => { m with ocRun := 0 }) t i
  have hrun : (((s.atSample t).withMir fun m => { m with ocRun := 0 }).chooseDrive t i).mirror.runDue = false :=
    (of_frame hframe fun u => u.mirror.runDue).trans ((congrArg Mirror.runDue hm).trans hr)
  refine ⟨_, exec_currentSample ha ht hi hd, ?_⟩
  rw [hin, State.mirRun_of_idle hrun, hiRef, hlim, hdrive, hlim]
  refine ⟨of_frame hframe fun u => u.mirror.ocRun, rfl, ?_,
    State.rest_of_offLoops (s := s.at_ t) ((of_frame hframe State.offLoops).trans hx)⟩
  rw [State.fld_withMir, hfld]
  have h1 : (s.atSample t).mirror.drive = s.mirror.drive := by have hk := congrArg Mirror.drive hm; exact hk
  exact congrArg (fun d : Drive => d.chosen i s.limitIRef.mirror.iRef (s.fld P.MIR_CFG.IBAND)) h1

/-- The second in a row above it, on bridge 0 (R230). -/
theorem exec_currentSample_second (ha : s.Awake) (ht : t % 20 = 0) (hst : 1 ≤ s.mirSt ∧ s.mirSt ≤ 5)
    (htake : s.mirror.takeover = none) (hi : currentCode i = true) (htrip : s.fld P.MIR_CFG.I_TRIP < i.natAbs)
    (hoc : 1 ≤ s.mirror.ocRun) (hd : s.mirror.drvDue = false) :
    exec (.currentSample t i) s = .next ((s.atSample t).bridgeFault 0 i).mirRun := by
  have hx := s.atSample_offLoops t
  have hm := s.atSample_mirror t
  have hfld : ∀ f, (s.atSample t).fld f = s.fld f := fun f => of_frame hx (State.fld · f)
  have hmir : (s.atSample t).mirSt = s.mirSt := hfld _
  rw [exec_currentSample ha ht hi hd, State.currentAt_of_second (by rw [hmir]; exact hst)
    ((congrArg Mirror.takeover hm).trans htake) (by rw [hfld]; exact htrip) (hoc.trans_eq (congrArg Mirror.ocRun hm).symm)]

/-! ### BRIDGE_STUCK and BRIDGE_TAKEOVER (R230, Table 10.4) -/

theorem exec_bridgeStuck (ha : s.Awake) (hi : currentCode i = true) (hpos : s.mirror.drive = .pos)
    (hsince : s.mirror.driveSince + 1000 * s.fld P.MIR_CFG.STUCK_US ≤ t)
    (hgone : max s.mirror.driveGone (i - s.mirror.driveI) < (s.fld P.MIR_CFG.IBAND : Int)) :
    exec (.bridgeStuck t i) s = .next ((s.at_ t).bridgeFault 1 i) := by
  have hg : (s.at_ t).mirror.gone i < ((s.at_ t).fld P.MIR_CFG.IBAND : Int) := by
    have hgo : s.mirror.gone i = max s.mirror.driveGone (i - s.mirror.driveI) := by
      rw [Mirror.gone, hpos]
    exact hgo.trans_lt hgone
  have hawake : ¬(s.ctl.por = true ∨ (!currentCode i) = true) := by
    simp [show s.ctl.por = false from ha, hi]
  exact (if_neg hawake).trans (if_pos ⟨Or.inl hpos, hsince, hg⟩)

/-- The spare is the active bridge. -/
def State.bridgeTaken (s : State) (t : Nat) : State :=
  ((s.at_ t).setFld P.MIR_STATUS.BRIDGE 1).withMir fun m => { m with takeover := none }

theorem exec_bridgeTakeover (ha : s.Awake) (hi : currentCode i = true) (ht : s.mirror.takeover = some t) :
    exec (.bridgeTakeover i) s = .next (if (s.bridgeTaken t).mirSt = 6 then (s.bridgeTaken t).setDrive 1 .brake (s.bridgeTaken t).now
      else (s.bridgeTaken t).chooseDrive t i) := by
  have hexec : exec (.bridgeTakeover i) s = execBridgeTakeover i s := rfl
  rw [hexec, execBridgeTakeover, if_neg (by simp [show s.ctl.por = false from ha]), ht]
  exact if_neg (by simp [hi])

theorem State.bridgeTaken_regs (s : State) (t : Nat) : (s.bridgeTaken t).regs = ((s.at_ t).setFld P.MIR_STATUS.BRIDGE 1).regs := by
  rw [State.bridgeTaken, State.withMir_regs]

theorem State.fld_bridgeTaken (s : State) (t : Nat) {f : FieldRef}
    (h : P.MIR_STATUS.BRIDGE.hi < f.lo ∨ f.hi < P.MIR_STATUS.BRIDGE.lo) : (s.bridgeTaken t).fld f = s.fld f :=
  (State.fld_of_regs (s.bridgeTaken_regs t) f).trans ((s.at_ t).fld_setFld_ne _ f 1 (by decide) (by decide) h)

theorem State.bridge_bridgeTaken (s : State) (t : Nat) : (s.bridgeTaken t).fld P.MIR_STATUS.BRIDGE = 1 :=
  (State.fld_of_regs (s.bridgeTaken_regs t) _).trans
    ((s.at_ t).fld_setFld_self P.MIR_STATUS.BRIDGE 1 (by decide) (by decide))

theorem State.bridgeTaken_rest (s : State) (t : Nat) :
    { s.bridgeTaken t with mirror := s.mirror, regs := s.regs, out := s.out } = s.at_ t := rfl

end

/-! ### Angle samples (R231, R232) -/

theorem exec_angleSample {s : State} {a : AngIn} {l : List AngIn} (ha : s.Awake) (hdue : s.fe.angDue = a :: l)
    (hv : a.invalid = false) (hs : a.skipped = false) : exec .angleSample s =
      .next (((s.withFe fun x => { x with angDue := l }).mirDrv.angleTaken (ofF32 a.q) a.tn a.g false false).mirRun) := by
  have hexec : exec .angleSample s = execAngleSample s := rfl
  rw [hexec, execAngleSample, if_neg (by simp [show s.ctl.por = false from ha]), hdue]
  simp only [hv, hs]
  rfl

theorem exec_angleStale {s : State} {t : Nat} {n : AngSample} (ha : s.Awake) (hst : s.mirSt ≠ 0) (hn : s.mirror.n = some n)
    (ht : n.arrived + 1000 * s.fld P.MIR_TOL.STALE_US ≤ t) :
    exec (.angleStale t) s = .next (((s.at_ t).withMir fun m => { m with validSince := none }).blindPark 3) := by
  have hn' : (s.at_ t).mirror.n = some n := hn
  have hexec : exec (.angleStale t) s = execAngleStale t s := rfl
  rw [hexec, execAngleStale, if_neg (by simp [show s.ctl.por = false from ha])]
  simp only [hn']
  exact if_pos ⟨hst, ht⟩

/-! ### Ticks (R237 to R241, R248) -/

theorem exec_positionLoopTick {s : State} {t : Nat} (ha : s.Awake) (ht : t % 10000 = 0) :
    exec (.positionLoopTick t) s = .next ((((s.at_ t).mirDrv).ampSlew.positionLoop t).tickEnd) :=
  (if_neg (by simp [show s.ctl.por = false from ha])).trans (if_neg (by simp [ht]))

theorem exec_outerLoopOverrun {s : State} {t : Nat} (ha : s.Awake) (ht : t % 10000 = 0) :
    exec (.outerLoopOverrun t) s = .next (((s.at_ t).mirDrv).ampSlew.overrun.tickEnd) :=
  (if_neg (by simp [show s.ctl.por = false from ha])).trans (if_neg (by simp [ht]))

end Sys2Proof.Machine
end

section
/-! PROOFS. The mirror's bridge, its angle and its loops, settled (R226 to R248): O25. -/
namespace Sys2Proof.Machine
-- One proof after another, as in the tests: a thread for each takes more memory than the check has.
set_option Elab.async false

section
variable {s : State} {t : Nat} {i : Int}

/-! ### A second current above I_TRIP (R230) -/

/-- With a spare that has not failed. -/
theorem currentSample_spare (ha : s.Awake) (ht : t % 20 = 0) (hst : 1 ≤ s.mirSt ∧ s.mirSt ≤ 5)
    (htake : s.mirror.takeover = none) (hi : currentCode i = true) (htrip : s.fld P.MIR_CFG.I_TRIP < i.natAbs)
    (hoc : 1 ≤ s.mirror.ocRun) (hb : s.fld P.MIR_STATUS.BRIDGE = 0) (hs : s.bit P.MIR_CTRL.SPARE_EN = true)
    (h1 : s.bit P.MIR_STATUS.B1_FAILED = false) (hd : s.mirror.drvDue = false) (hr : s.mirror.runDue = false) :
    ∃ u, exec (.currentSample t i) s = .next u ∧ u.fld P.MIR_STATUS.B0_FAILED = 1 ∧
      u.mirror.takeover = some ((s.at_ t).now + 1000) ∧ u.mirror.drive = .off ∧ u.mirror.ocRun = 0 ∧ u.mirSt = s.mirSt ∧
      u.fld P.MIR_FLAGS.BRIDGE_FAULT = 1 ∧ u.emit_ = s.emit_ ∧ u.scan = s.scan ∧ u.nv = s.nv := by
  have hx := s.atSample_offLoops t
  have hm := s.atSample_mirror t
  have hbit : ∀ f, (s.atSample t).bit f = s.bit f := fun f => of_frame hx (State.bit · f)
  obtain ⟨hb0, hmir, hflag, hdrive, hocRun, hframe⟩ := State.bridgeFault_spare (s := s.atSample t)
    ((of_frame hx (State.fld · P.MIR_STATUS.BRIDGE)).trans hb) ((hbit _).trans hs) ((hbit _).trans h1) 0 i
  have hrun : ((s.atSample t).bridgeFault 0 i).mirror.runDue = false :=
    (of_frame hframe fun u => u.mirror.runDue).trans ((congrArg Mirror.runDue hm).trans hr)
  have hnow : (s.atSample t).now = (s.at_ t).now := of_frame hx State.now
  refine ⟨_, exec_currentSample_second ha ht hst htake hi htrip hoc hd, ?_⟩
  rw [State.mirRun_of_idle hrun, ← hnow]
  exact ⟨hb0, of_frame hframe fun u => u.mirror.takeover, hdrive, hocRun, hmir.trans (of_frame hx State.mirSt), hflag,
    (of_frame hframe State.emit_).trans (of_frame hx State.emit_), (of_frame hframe State.scan).trans (of_frame hx State.scan),
    (of_frame hframe State.nv).trans (of_frame hx State.nv)⟩

/-- Without one. -/
theorem currentSample_alone (ha : s.Awake) (ht : t % 20 = 0) (hst : 1 ≤ s.mirSt ∧ s.mirSt ≤ 5)
    (htake : s.mirror.takeover = none) (hi : currentCode i = true) (htrip : s.fld P.MIR_CFG.I_TRIP < i.natAbs)
    (hoc : 1 ≤ s.mirror.ocRun) (hb : s.fld P.MIR_STATUS.BRIDGE = 0) (hs : s.bit P.MIR_CTRL.SPARE_EN = false)
    (hd : s.mirror.drvDue = false) (hr : s.mirror.runDue = false) (hat : s.mirror.runAt ≠ some (s.at_ t).now) :
    ∃ u, exec (.currentSample t i) s = .next u ∧ u.fld P.MIR_STATUS.B0_FAILED = 1 ∧ u.mirSt = 7 ∧
      u.fld P.MIR_STATUS.CAUSE = 5 ∧ u.fld P.MIR_CTRL.RUN = 0 ∧ u.mirror.drive = .off ∧ u.mirror.inhibit = true := by
  have hx := s.atSample_offLoops t
  have hm := s.atSample_mirror t
  have hat' : (s.atSample t).mirror.runAt ≠ some (s.atSample t).now := by
    rw [of_frame hx State.now]
    exact fun h => hat ((congrArg Mirror.runAt hm).symm.trans h)
  obtain ⟨hb0, hmir, hcause, hrun, hdrive, hinh, hdue⟩ := State.bridgeFault_alone (s := s.atSample t)
    ((of_frame hx (State.fld · P.MIR_STATUS.BRIDGE)).trans hb) ((of_frame hx (State.bit · P.MIR_CTRL.SPARE_EN)).trans hs) hat' 0 i
  refine ⟨_, exec_currentSample_second ha ht hst htake hi htrip hoc hd, ?_⟩
  rw [State.mirRun_of_idle (hdue.trans ((congrArg Mirror.runDue hm).trans hr))]
  exact ⟨hb0, hmir, hcause, hrun, hdrive, hinh⟩

/-! ### A drive that moves no current (R230, Table 10.4) -/

theorem bridgeStuck_spare (ha : s.Awake) (hi : currentCode i = true) (hb : s.fld P.MIR_STATUS.BRIDGE = 0)
    (hpos : s.mirror.drive = .pos) (hsince : s.mirror.driveSince + 1000 * s.fld P.MIR_CFG.STUCK_US ≤ t)
    (hgone : max s.mirror.driveGone (i - s.mirror.driveI) < (s.fld P.MIR_CFG.IBAND : Int))
    (hs : s.bit P.MIR_CTRL.SPARE_EN = true) (h1 : s.bit P.MIR_STATUS.B1_FAILED = false) :
    ∃ u, exec (.bridgeStuck t i) s = .next u ∧ u.fld P.MIR_STATUS.B0_FAILED = 1 ∧
      u.mirror.takeover = some ((s.at_ t).now + 1000) ∧ u.mirror.drive = .off ∧ u.mirSt = s.mirSt ∧
      u.fld P.MIR_FLAGS.BRIDGE_FAULT = 1 ∧ u.emit_ = s.emit_ ∧ u.scan = s.scan ∧ u.nv = s.nv := by
  obtain ⟨hb0, hmir, hflag, hdrive, -, hframe⟩ := State.bridgeFault_spare (s := s.at_ t) hb hs h1 1 i
  exact ⟨_, exec_bridgeStuck ha hi hpos hsince hgone, hb0, of_frame hframe fun u => u.mirror.takeover, hdrive, hmir, hflag,
    of_frame hframe State.emit_, of_frame hframe State.scan, of_frame hframe State.nv⟩

theorem bridgeStuck_alone (ha : s.Awake) (hi : currentCode i = true) (hb : s.fld P.MIR_STATUS.BRIDGE = 0)
    (hpos : s.mirror.drive = .pos) (hsince : s.mirror.driveSince + 1000 * s.fld P.MIR_CFG.STUCK_US ≤ t)
    (hgone : max s.mirror.driveGone (i - s.mirror.driveI) < (s.fld P.MIR_CFG.IBAND : Int))
    (hs : s.bit P.MIR_CTRL.SPARE_EN = false) (hat : s.mirror.runAt ≠ some (s.at_ t).now) :
    ∃ u, exec (.bridgeStuck t i) s = .next u ∧ u.fld P.MIR_STATUS.B0_FAILED = 1 ∧ u.mirSt = 7 ∧
      u.fld P.MIR_STATUS.CAUSE = 5 ∧ u.fld P.MIR_CTRL.RUN = 0 ∧ u.mirror.drive = .off ∧ u.mirror.inhibit = true := by
  obtain ⟨hb0, hmir, hcause, hrun, hdrive, hinh, -⟩ := State.bridgeFault_alone (s := s.at_ t) hb hs hat 1 i
  exact ⟨_, exec_bridgeStuck ha hi hpos hsince hgone, hb0, hmir, hcause, hrun, hdrive, hinh⟩

/-! ### The spare takes over (R230) -/

theorem bridgeTakeover_done (ha : s.Awake) (hi : currentCode i = true) (ht : s.mirror.takeover = some t) :
    ∃ u, exec (.bridgeTakeover i) s = .next u ∧ u.fld P.MIR_STATUS.BRIDGE = 1 ∧ u.mirror.takeover = none ∧ u.mirSt = s.mirSt ∧
      (s.mirSt = 6 → s.bridgeFailed 1 = false → u.mirror.drive = .brake) ∧
      { u with mirror := s.mirror, regs := s.regs, out := s.out } = s.at_ t := by
  have hmir : (s.bridgeTaken t).mirSt = s.mirSt := s.fld_bridgeTaken t (by decide)
  have hfailed : (s.bridgeTaken t).bridgeFailed 1 = s.bridgeFailed 1 := by
    simp only [State.bridgeFailed, State.bit]
    rw [s.fld_bridgeTaken t (f := P.MIR_STATUS.B0_FAILED) (by decide), s.fld_bridgeTaken t (f := P.MIR_STATUS.B1_FAILED) (by decide)]
  have hframe : ∀ {u : State}, u.offCurrent = (s.bridgeTaken t).offCurrent →
      u.fld P.MIR_STATUS.BRIDGE = 1 ∧ u.mirror.takeover = none ∧ u.mirSt = s.mirSt ∧
      { u with mirror := s.mirror, regs := s.regs, out := s.out } = s.at_ t := fun {u} hu =>
    ⟨(of_frame hu (State.fld · P.MIR_STATUS.BRIDGE)).trans (s.bridge_bridgeTaken t), of_frame hu fun u => u.mirror.takeover,
      (of_frame hu State.mirSt).trans hmir,
      (of_frame hu fun u => { u with mirror := s.mirror, regs := s.regs, out := s.out }).trans (s.bridgeTaken_rest t)⟩
  rw [exec_bridgeTakeover ha hi ht, hmir]
  by_cases h6 : s.mirSt = 6
  · rw [if_pos h6]
    obtain ⟨hb, htake, hst, hrest⟩ := hframe (of_frame (State.setDrive_offDrive (s.bridgeTaken t) 1 .brake _) State.offCurrent)
    exact ⟨_, rfl, hb, htake, hst, fun _ h1 => State.drive_setDrive (hfailed.trans h1) _ _, hrest⟩
  · rw [if_neg h6]
    obtain ⟨hb, htake, hst, hrest⟩ := hframe ((s.bridgeTaken t).chooseDrive_offCurrent t i)
    exact ⟨_, rfl, hb, htake, hst, fun h => absurd h h6, hrest⟩

/-! ### Angle samples (R231, R232, R247) -/

theorem angleSample_taken {a : AngIn} {l : List AngIn} (ha : s.Awake) (hdue : s.fe.angDue = a :: l) (hv : a.invalid = false)
    (hs : a.skipped = false) : ∃ u x, exec .angleSample s = .next u ∧ u.mirror.n = some x ∧ x.t = a.tn ∧ x.arrived = s.now ∧
      u.mirror.m = s.mirror.n ∧ u.fe.angDue = l ∧ u.now = s.now ∧ u.nv = s.nv ∧ u.emit_ = s.emit_ := by
  have hdrv := State.mirDrv_offScanning (s.withFe fun x => { x with angDue := l })
  obtain ⟨x, hx, harr, hframe⟩ := State.angleTaken_offScanning (s.withFe fun x => { x with angDue := l }).mirDrv (ofF32 a.q) a.tn a.g
  have htaken : ((s.withFe fun x => { x with angDue := l }).mirDrv.withMir fun m => { m with n := some x, m := m.n }).offScanning =
      ((s.withFe fun x => { x with angDue := l }).withMir fun m => { m with n := some x, m := m.n }).offScanning :=
    of_frame hdrv fun u => (u.withMir fun m => { m with n := some x, m := m.n }).offScanning
  have hend := (State.mirRun_offScanning _).trans (hframe.trans htaken)
  exact ⟨_, x, exec_angleSample ha hdue hv hs, of_frame hend fun u => u.mirror.n, hx, harr.trans (of_frame hdrv State.now),
    of_frame hend fun u => u.mirror.m, of_frame hend fun u => u.fe.angDue, of_frame hend State.now, of_frame hend State.nv,
    of_frame hend State.emit_⟩

theorem angleStale_blind {n : AngSample} (ha : s.Awake) (hst : 1 ≤ s.mirSt ∧ s.mirSt ≤ 5) (hn : s.mirror.n = some n)
    (ht : n.arrived + 1000 * s.fld P.MIR_TOL.STALE_US ≤ t) (hb : s.bridgeFailed (s.fld P.MIR_STATUS.BRIDGE) = false)
    (hat : s.mirror.runAt ≠ some (s.at_ t).now) : ∃ u, exec (.angleStale t) s = .next u ∧ u.mirSt = 6 ∧
      u.fld P.MIR_STATUS.CAUSE = 3 ∧ u.fld P.MIR_CTRL.RUN = 0 ∧ u.mirror.drive = .brake ∧ u.mirror.inhibit = true ∧
      u.mirror.sched = none ∧ u.fld P.MIR_FLAGS.PARKED_BY_FAULT = 1 ∧ u.emit_ = s.emit_ ∧ u.scan = s.scan ∧ u.nv = s.nv := by
  have hst' : 1 ≤ ((s.at_ t).withMir fun m => { m with validSince := none }).mirSt ∧
      ((s.at_ t).withMir fun m => { m with validSince := none }).mirSt ≤ 5 := hst
  obtain ⟨hmir, hcause, hinh, hsched, hflag⟩ := State.blindPark_fields (c := 3) hst' (by decide)
  have hframe := State.blindPark_offPark (c := 3) hst'
  exact ⟨_, exec_angleStale ha (by omega) hn ht, hmir, hcause, State.blindPark_run hst' (by decide) hat,
    State.blindPark_drive hst' hb, hinh, hsched, hflag, of_frame hframe State.emit_, of_frame hframe State.scan,
    of_frame hframe State.nv⟩

/-! ### Ticks of the loops (R237 to R241, R248) -/

/-- A tick before its loop, with no DRV_EN waiting, of a mirror that scans. -/
def State.slewed (s : State) (t : Nat) : State :=
  (s.at_ t).ticked.setAmpl (slewTo s.mirror.h s.ampl (10 * s.fld P.MIR_TRAJ.AMP_SLEW))

theorem State.slewed_of_moving (hst : 2 ≤ s.mirSt ∧ s.mirSt ≤ 4) (hd : s.mirror.drvDue = false) :
    (s.at_ t).mirDrv.ampSlew = s.slewed t := by
  rw [State.mirDrv_of_idle (s := s.at_ t) hd]
  exact State.ampSlew_of_moving (s := (s.at_ t).ticked) hst

/-- The device but for what a tick touches, the mirror's record among it. -/
def State.offTick (s : State) : State := { s.unlogged with out := [], farrier := {}, mirror := {} }

theorem State.slewed_offTick (s : State) (t : Nat) : (s.slewed t).offTick = (s.at_ t).offTick :=
  of_frame (State.setFld_unlogged _ P.MIR_STATUS.H _) State.offTick

theorem State.slewed_mirror (s : State) (t : Nat) : (s.slewed t).mirror =
    { s.mirror with drvDue := false, tickAt := some (s.at_ t).now, h := slewTo s.mirror.h s.ampl (10 * s.fld P.MIR_TRAJ.AMP_SLEW) } :=
  State.setAmpl_mirror _ _

/-- H alone of the fields is written. -/
theorem State.fld_slewed (s : State) (t : Nat) {f : FieldRef} (h : P.MIR_STATUS.H.hi < f.lo ∨ f.hi < P.MIR_STATUS.H.lo) :
    (s.slewed t).fld f = s.fld f := State.fld_setAmpl_ne _ _ h

/-- A tick leaves what it does not name of the mirror's record. -/
theorem State.iRef_slewed (s : State) (t : Nat) : (s.slewed t).mirror.iRef = s.mirror.iRef := by
  rw [s.slewed_mirror t]

theorem State.overRun_slewed (s : State) (t : Nat) : (s.slewed t).mirror.overRun = s.mirror.overRun :=
  by
  rw [s.slewed_mirror t]

theorem State.runDue_slewed (s : State) (t : Nat) : (s.slewed t).mirror.runDue = s.mirror.runDue :=
  by
  rw [s.slewed_mirror t]

theorem State.mirSt_slewed (s : State) (t : Nat) : (s.slewed t).mirSt = s.mirSt := s.fld_slewed t (by decide)

/-- A tick in time. -/
theorem exec_positionLoopTick_slewed (ha : s.Awake) (ht : t % 10000 = 0) (hst : 2 ≤ s.mirSt ∧ s.mirSt ≤ 4)
    (hd : s.mirror.drvDue = false) : exec (.positionLoopTick t) s = .next ((s.slewed t).positionLoop t).tickEnd := by
  rw [exec_positionLoopTick ha ht, State.slewed_of_moving hst hd]

theorem positionLoopTick_idle (ha : s.Awake) (ht : t % 10000 = 0) (hst : 2 ≤ s.mirSt ∧ s.mirSt ≤ 4)
    (hd : s.mirror.drvDue = false) (hr : s.mirror.runDue = false) : ∃ u, exec (.positionLoopTick t) s = .next u ∧
      - (s.fld P.MIR_CFG.I_LIMIT : Int) ≤ u.mirror.iRef ∧ u.mirror.iRef ≤ (s.fld P.MIR_CFG.I_LIMIT : Int) ∧
      u.mirror.overRun = 0 ∧ u.mirror.h = slewTo s.mirror.h s.ampl (10 * s.fld P.MIR_TRAJ.AMP_SLEW) ∧ u.now = (s.at_ t).now ∧
      u.emit_ = s.emit_ ∧ u.nv = s.nv ∧ u.scan = s.scan := by
  obtain ⟨⟨hlo, hhi⟩, hmir, -, hover, hframe⟩ := State.positionLoop_fields (s := s.slewed t) (by rw [s.mirSt_slewed]; exact hst) t
  have hm := s.slewed_mirror t
  have htick : ((s.slewed t).positionLoop t).offTick = (s.at_ t).offTick :=
    (of_frame hframe State.offTick).trans (s.slewed_offTick t)
  rw [s.fld_slewed t (by decide)] at hlo hhi
  refine ⟨_, exec_positionLoopTick_slewed ha ht hst hd, ?_⟩
  rw [State.tickEnd_of_idle ((of_frame hframe fun u => u.mirror.runDue).trans ((s.runDue_slewed t).trans hr)) (by omega)]
  exact ⟨hlo, hhi, hover, (of_frame hframe fun u => u.mirror.h).trans (congrArg Mirror.h hm), of_frame htick State.now,
    of_frame htick State.emit_, of_frame htick State.nv, of_frame htick State.scan⟩

/-- A RUN = 0 that has acted waits no more. -/
theorem State.runTaken_stopped_fields (s : State) : s.runTaken.stopped.mirror.runDue = false ∧ s.runTaken.stopped.nv = s.nv :=
  ⟨of_frame s.runTaken.stopped_offMirror fun u => u.mirror.runDue, of_frame s.runTaken.stopped_offMirror State.nv⟩

/-- RUN = 0 acts after all else (R248). -/
theorem positionLoopTick_stopped (ha : s.Awake) (ht : t % 10000 = 0) (hst : 2 ≤ s.mirSt ∧ s.mirSt ≤ 4)
    (hd : s.mirror.drvDue = false) (hdue : s.mirror.runDue = true) (hr : s.bit P.MIR_CTRL.RUN = false) :
    ∃ u, exec (.positionLoopTick t) s = .next u ∧ u.mirSt = 5 ∧ u.fld P.MIR_STATUS.CAUSE = 1 ∧ u.mirror.runDue = false ∧
      u.nv = s.nv := by
  obtain ⟨-, hmir, hrun, -, hframe⟩ := State.positionLoop_fields (s := s.slewed t) (by rw [s.mirSt_slewed]; exact hst) t
  have hbit : ((s.slewed t).positionLoop t).bit P.MIR_CTRL.RUN = false := by
    rw [State.bit, hrun, s.fld_slewed t (by decide)]
    exact hr
  obtain ⟨hdone, hnv⟩ := ((s.slewed t).positionLoop t).runTaken_stopped_fields
  refine ⟨_, exec_positionLoopTick_slewed ha ht hst hd, ?_⟩
  rw [State.tickEnd_of_stopped ((of_frame hframe fun u => u.mirror.runDue).trans ((s.runDue_slewed t).trans hdue)) hbit hmir]
  exact ⟨State.mirSt_stopped _, State.cause_stopped _, hdone,
    hnv.trans ((of_frame hframe State.nv).trans (of_frame (s.slewed_offTick t) State.nv))⟩

/-- What a tick leaves that turned the mirror OFF. -/
theorem State.shutTick_fields (s : State) : let u := (s.ticked.shut.setAmpl s.ticked.shut.mirror.h).runTaken
    u.fld P.MIR_STATUS.CAUSE = 8 ∧ u.mirror.drive = .off ∧ u.mirror.iRef = 0 ∧ u.mirror.drvDue = false ∧
      u.mirror.runDue = false ∧ u.nv = s.nv := by
  have hm : (s.ticked.shut.setAmpl s.ticked.shut.mirror.h).mirror = s.ticked.shut.mirror := State.setAmpl_mirror _ _
  have hcause : (s.ticked.shut.setAmpl s.ticked.shut.mirror.h).fld P.MIR_STATUS.CAUSE = 8 :=
    (State.fld_setAmpl_ne _ _ (by decide)).trans s.ticked.cause_shut
  have hdue : s.ticked.shut.mirror.drvDue = false := by
    rw [s.ticked.shut_mirror]
    exact of_frame (s.ticked.enterMir_offMirror 0) fun u => u.mirror.drvDue
  have hnv : (s.ticked.shut.setAmpl s.ticked.shut.mirror.h).nv = s.nv :=
    (of_frame (State.setAmpl_offScanning _ _) State.nv).trans (of_frame s.ticked.shut_unmirrored State.nv)
  have hiRef : s.ticked.shut.mirror.iRef = 0 := by rw [s.ticked.shut_mirror]
  generalize s.ticked.shut.setAmpl s.ticked.shut.mirror.h = v at hm hcause hnv
  rw [← hm] at hdue hiRef
  exact ⟨hcause, (congrArg Mirror.drive hm).trans s.ticked.drive_shut, hiRef, hdue, rfl, hnv⟩

/-- DRV_EN = 0 acts before all else (R248): the amplitude, the loop and RUN meet a mirror that is OFF. -/
theorem positionLoopTick_off (ha : s.Awake) (ht : t % 10000 = 0) (hst : 1 ≤ s.mirSt) (hdue : s.mirror.drvDue = true)
    (hd : s.bit P.MIR_CTRL.DRV_EN = false) : ∃ u, exec (.positionLoopTick t) s = .next u ∧ u.mirSt = 0 ∧
      u.fld P.MIR_STATUS.CAUSE = 8 ∧ u.mirror.drive = .off ∧ u.mirror.iRef = 0 ∧ u.mirror.drvDue = false ∧
      u.mirror.runDue = false ∧ u.nv = s.nv := by
  have hdrv : (s.at_ t).mirDrv = (s.at_ t).ticked.shut := by
    rw [State.mirDrv_of_due (s := s.at_ t) hdue, if_neg (by rw [show (s.at_ t).bit P.MIR_CTRL.DRV_EN = _ from hd]; decide)]
    exact State.mirrorOff_of_on (Nat.ne_of_gt hst)
  have hoff : ((s.at_ t).ticked.shut.setAmpl (s.at_ t).ticked.shut.mirror.h).mirSt = 0 := by
    rw [State.mirSt_setAmpl, State.mirSt_shut]
  have hu := (s.at_ t).shutTick_fields
  refine ⟨_, exec_positionLoopTick ha ht, ?_⟩
  rw [hdrv, State.ampSlew_of_off (State.mirSt_shut _), State.positionLoop_of_off hoff, State.tickEnd_of_off hoff]
  exact ⟨(State.mirSt_withMir _ _).trans hoff, hu⟩

/-- A late tick of a mirror that scans (R241). -/
theorem exec_outerLoopOverrun_slewed (ha : s.Awake) (ht : t % 10000 = 0) (hst : 2 ≤ s.mirSt ∧ s.mirSt ≤ 4)
    (hd : s.mirror.drvDue = false) : exec (.outerLoopOverrun t) s = .next
      (if 3 ≤ s.mirror.overRun + 1 then (s.slewed t).lateNoted.blindPark 4 else (s.slewed t).lateNoted).tickEnd := by
  have hmir := s.mirSt_slewed t
  rw [exec_outerLoopOverrun ha ht, State.slewed_of_moving hst hd, State.overrun_of_active (by omega), s.overRun_slewed t]

theorem outerLoopOverrun_noted (ha : s.Awake) (ht : t % 10000 = 0) (hst : 2 ≤ s.mirSt ∧ s.mirSt ≤ 4) (hover : s.mirror.overRun < 2)
    (hd : s.mirror.drvDue = false) (hr : s.mirror.runDue = false) : ∃ u, exec (.outerLoopOverrun t) s = .next u ∧
      u.mirror.overRun = s.mirror.overRun + 1 ∧ u.mirror.iRef = s.mirror.iRef ∧ u.mirSt = s.mirSt ∧
      u.fld P.MIR_FLAGS.OVERRUN_SEEN = 1 := by
  have hmir : (s.slewed t).lateNoted.mirSt = s.mirSt := (State.fld_lateNoted _ (by decide)).trans (s.mirSt_slewed t)
  have hm := (s.slewed t).lateNoted_mirror
  refine ⟨_, exec_outerLoopOverrun_slewed ha ht hst hd, ?_⟩
  rw [if_neg (by omega), State.tickEnd_of_idle ((congrArg Mirror.runDue hm).trans ((s.runDue_slewed t).trans hr)) (by omega)]
  exact ⟨(congrArg Mirror.overRun hm).trans (congrArg Nat.succ (s.overRun_slewed t)),
    (congrArg Mirror.iRef hm).trans (s.iRef_slewed t), hmir, State.seen_lateNoted _⟩

theorem outerLoopOverrun_blind (ha : s.Awake) (ht : t % 10000 = 0) (hst : 2 ≤ s.mirSt ∧ s.mirSt ≤ 4) (hover : 2 ≤ s.mirror.overRun)
    (hd : s.mirror.drvDue = false) (hr : s.mirror.runDue = false) (hb : s.bridgeFailed (s.fld P.MIR_STATUS.BRIDGE) = false) :
    ∃ u, exec (.outerLoopOverrun t) s = .next u ∧ u.mirSt = 6 ∧ u.fld P.MIR_STATUS.CAUSE = 4 ∧ u.mirror.drive = .brake := by
  have hfld : ∀ f : FieldRef, f.key ≠ K.MIR_FLAGS → (P.MIR_STATUS.H.hi < f.lo ∨ f.hi < P.MIR_STATUS.H.lo) →
      (s.slewed t).lateNoted.fld f = s.fld f := fun f hk hf => (State.fld_lateNoted _ hk).trans (s.fld_slewed t hf)
  have hst' : 1 ≤ (s.slewed t).lateNoted.mirSt ∧ (s.slewed t).lateNoted.mirSt ≤ 5 := by
    have hmir : (s.slewed t).lateNoted.mirSt = s.mirSt := hfld _ (by decide) (by decide)
    omega
  have hb' : (s.slewed t).lateNoted.bridgeFailed ((s.slewed t).lateNoted.fld P.MIR_STATUS.BRIDGE) = false := by
    simp only [State.bridgeFailed, State.bit, hfld P.MIR_STATUS.B0_FAILED (by decide) (by decide),
      hfld P.MIR_STATUS.B1_FAILED (by decide) (by decide), hfld P.MIR_STATUS.BRIDGE (by decide) (by decide)]
    exact hb
  have hm := (s.slewed t).lateNoted_mirror
  obtain ⟨hmir, hcause, -⟩ := State.blindPark_fields (c := 4) hst' (by decide)
  have hframe := State.blindPark_offPark (c := 4) hst'
  refine ⟨_, exec_outerLoopOverrun_slewed ha ht hst hd, ?_⟩
  rw [if_pos (by omega), State.tickEnd_of_idle
    ((of_frame hframe fun u => u.mirror.runDue).trans ((congrArg Mirror.runDue hm).trans ((s.runDue_slewed t).trans hr)))
    (by rw [hmir]; decide)]
  exact ⟨hmir, hcause, State.blindPark_drive hst' hb'⟩

/-! ### Gate commands (R226, R227) -/

theorem setDrive_gates {b : Nat} (hb : s.bridgeFailed b = false) (hn : s.mirror.onAt = none) (d : Drive) (t : Nat) :
    (s.setDrive b d t).mirror.drive = d ∧
    (s.setDrive b d t).mirror.hs &&& (d.gates b).1 = (s.setDrive b d t).mirror.hs ∧
    (s.setDrive b d t).mirror.ls &&& (d.gates b).2 = (s.setDrive b d t).mirror.ls ∧
    ((s.setDrive b d t).gatesOn (t + s.fld P.MIR_CFG.DEAD_NS)).mirror.hs = (d.gates b).1 ∧
    ((s.setDrive b d t).gatesOn (t + s.fld P.MIR_CFG.DEAD_NS)).mirror.ls = (d.gates b).2 := by
  have hup : s.mirror.gatesUp t = s.mirror := by rw [Mirror.gatesUp, hn]
  have hm := s.setDrive_mirror b d t
  rw [hup, hb, if_neg Bool.false_ne_true] at hm
  rw [State.gatesOn_mirror, hm]
  obtain ⟨hhs, hls⟩ := s.mirror.driven_low b d (t + s.fld P.MIR_CFG.DEAD_NS)
  obtain ⟨hhi, hli⟩ := s.mirror.driven_gatesUp b d (t + s.fld P.MIR_CFG.DEAD_NS)
  exact ⟨rfl, hhs, hls, hhi, hli⟩

end

/-- Settles O25: each command is first brought to what its instant is about — the current loop, a bridge fault, the outer loop, a
late tick — by its `exec_` lemma, and the effect read off the frame of that operation. -/
theorem mirrorControl : Obligations.MirrorControl := by
  unfold Obligations.MirrorControl
  refine ⟨?_, ?_, ?_, ?_, ?_, ?_, ?_, ?_, ?_, ?_, ?_, ?_, ?_, ?_, ?_⟩
  · intro s t i ha ht h1 h5 htake hi hb htrip hd hr
    obtain ⟨u, hu, hoc, hiRef, hdrive, hrest⟩ := currentSample_inside ha ht ⟨h1, h5⟩ htake hi hb htrip hd hr
    rw [← hiRef] at hdrive
    exact ⟨u, hu, hoc, hiRef, hdrive, hrest⟩
  · intro s t i ha hi _ _ hb hpos hsince hgone hs h1
    exact bridgeStuck_spare ha hi hb hpos hsince hgone hs h1
  · intro s t i ha hi _ _ hb hpos hsince hgone hs hat
    exact bridgeStuck_alone ha hi hb hpos hsince hgone hs hat
  · intro s t i ha hi ht
    exact bridgeTakeover_done ha hi ht
  · intro s a l ha hdue hv hs
    exact angleSample_taken ha hdue hv hs
  · intro s t n ha h1 h5 hn ht hb hat
    exact angleStale_blind ha ⟨h1, h5⟩ hn ht hb hat
  · intro s t ha ht h2 h4 hd hr
    exact positionLoopTick_idle ha ht ⟨h2, h4⟩ hd hr
  · intro s t ha ht h2 h4 hover hd hr
    exact outerLoopOverrun_noted ha ht ⟨h2, h4⟩ hover hd hr
  · intro s t ha ht h2 h4 hover hd hr hb
    exact outerLoopOverrun_blind ha ht ⟨h2, h4⟩ hover hd hr hb
  · intro s b t d _ hb hn
    exact setDrive_gates hb hn d t
  · exact fun b d => d.gates_disjoint b
  · intro s t i ha ht h1 h5 htake hi htrip hoc hb hs hb1 hd hr
    exact currentSample_spare ha ht ⟨h1, h5⟩ htake hi htrip hoc hb hs hb1 hd hr
  · intro s t i ha ht h1 h5 htake hi htrip hoc hb hs hd hr hat
    exact currentSample_alone ha ht ⟨h1, h5⟩ htake hi htrip hoc hb hs hd hr hat
  · intro s t ha ht h1 hdue hd
    exact positionLoopTick_off ha ht h1 hdue hd
  · intro s t ha ht h2 h4 hd hdue hr
    exact positionLoopTick_stopped ha ht ⟨h2, h4⟩ hd hdue hr

end Sys2Proof.Machine
end

section
/-! PROOFS. Accepted writes on the mirror (Table 10.6): O26. -/
namespace Sys2Proof.Machine
-- One proof after another, as in the tests: a thread for each takes more memory than the check has.
set_option Elab.async false

/-! ### What a write of MIR_CTRL and of MIR_RC does (R244, R248) -/

/-- RUN and DRV_EN wait for the next sample or tick, where the write covers them. -/
def State.ctrlKept (s : State) (cov : Word) : State :=
  let drv := decide (wordFld cov P.MIR_CTRL.DRV_EN ≠ 0)
  let run := decide (wordFld cov P.MIR_CTRL.RUN ≠ 0)
  s.withMir fun m => { m with
    runAt := if run ∧ s.bit P.MIR_CTRL.RUN then some s.now else m.runAt
    drvDue := m.drvDue || drv, runDue := m.runDue || run }

/-- In the instant of one they act at once. -/
theorem State.mirCtrl_eq (s : State) (cov : Word) :
    s.mirCtrl cov = if s.mirror.tickAt = some s.now then (s.ctrlKept cov).mirDrv.mirRun else s.ctrlKept cov := rfl

theorem State.ctrlKept_offScanning (s : State) (cov : Word) : (s.ctrlKept cov).offScanning = s.offScanning :=
  s.withMir_offScanning rfl

theorem State.mirCtrl_offScanning (s : State) (cov : Word) : (s.mirCtrl cov).offScanning = s.offScanning := by
  simp only [State.mirCtrl_eq, apply_ite State.offScanning, State.mirRun_offScanning, State.mirDrv_offScanning,
    State.ctrlKept_offScanning, ite_self]

theorem State.ctrlKept_regs (s : State) (cov : Word) : (s.ctrlKept cov).regs = s.regs := s.withMir_regs _

theorem State.ctrlKept_unmirrored (s : State) (cov : Word) : (s.ctrlKept cov).unmirrored = s.unmirrored :=
  s.withMir_unmirrored _

/-- DRV_EN acts at the next sample or tick. -/
theorem State.drvDue_ctrlKept (s : State) {cov : Word} (hd : wordFld cov P.MIR_CTRL.DRV_EN ≠ 0) :
    (s.ctrlKept cov).mirror.drvDue = true := by
  rw [State.ctrlKept, State.withMir_mirror, decide_eq_true hd]
  exact Bool.or_true _

/-- A write of both is kept for it whole; RUN = 1 shows when it came (R238). -/
theorem State.ctrlKept_mirror (s : State) {cov : Word} (hd : wordFld cov P.MIR_CTRL.DRV_EN ≠ 0)
    (hr : wordFld cov P.MIR_CTRL.RUN ≠ 0) : (s.ctrlKept cov).mirror =
      { s.mirror with
        runAt := if s.bit P.MIR_CTRL.RUN then some s.now else s.mirror.runAt, drvDue := true, runDue := true } := by
  rw [State.ctrlKept, State.withMir_mirror, decide_eq_true hd, decide_eq_true hr, Bool.or_true, Bool.or_true]
  simp only [true_and]

theorem levelEffect_mirCtrl (s : State) (old : Word) {cov : Word} (h : cov ≠ 0) :
    s.levelEffect K.MIR_CTRL old cov = s.mirCtrl cov := if_neg h

theorem orderEffect_mirCtrl (s : State) {cov : Word} (new co : Word) (h : cov ≠ 0) :
    s.orderEffect K.MIR_CTRL cov new co = if wordFld new P.MIR_CTRL.RESTART = 1 then s.mirRestart else s := by
  rw [State.orderEffect, if_neg h, if_pos (by decide)]
  simp only [State.order03, K.MIR_CTRL]

theorem levelEffect_mirRc (s : State) (old : Word) {cov : Word} (h : cov ≠ 0) : s.levelEffect K.MIR_RC old cov = s.rcLimit :=
  if_neg h

theorem orderEffect_mirRc (s : State) {cov : Word} (new co : Word) (h : cov ≠ 0) :
    s.orderEffect K.MIR_RC cov new co = if wordFld new P.MIR_RC.RC_CLEAR = 1 then s.rcClear else s := by
  rw [State.orderEffect, if_neg h, if_pos (by decide)]
  simp only [State.order03, K.MIR_RC]

/-- The fields of MIR_CTRL that a program writes are RW, but for RESTART, which is WO (Table 10.9). -/
theorem access_mirCtrl : accessMask K.MIR_CTRL .w1c = 0 ∧
    (∀ f ∈ [P.MIR_CTRL.RUN, P.MIR_CTRL.DRV_EN], wordFld (writableMask K.MIR_CTRL) f = 2 ^ f.width - 1 ∧
      wordFld (accessMask K.MIR_CTRL .rw) f = 2 ^ f.width - 1) ∧
    wordFld (writableMask K.MIR_CTRL) P.MIR_CTRL.RESTART = 2 ^ P.MIR_CTRL.RESTART.width - 1 ∧
    wordFld (accessMask K.MIR_CTRL .rw ||| accessMask K.MIR_CTRL .wo) P.MIR_CTRL.RESTART = 2 ^ P.MIR_CTRL.RESTART.width - 1 := by
  decide +kernel

section
variable {s : State} {h : HostWrite}

/-- MIR_CTRL as written, its fields kept or acting. -/
def State.ctrlWritten (s : State) (h : HostWrite) : State := (s.stored K.MIR_CTRL h).mirCtrl (s.merged (entryOf K.MIR_CTRL h)).1

theorem State.stored_offScanning (s : State) (key : Nat) (h : HostWrite) : (s.stored key h).offScanning = (s.at_ h.t).offScanning :=
  id rfl

theorem State.ctrlWritten_offScanning (s : State) (h : HostWrite) : (s.ctrlWritten h).offScanning = (s.at_ h.t).offScanning :=
  ((s.stored K.MIR_CTRL h).mirCtrl_offScanning _).trans (s.stored_offScanning K.MIR_CTRL h)

/-- An accepted write of MIR_CTRL. -/
theorem State.hostWrite_mirCtrl {d r : Nat} (ha : s.Accepts K.MIR_CTRL h) (hd : brings h P.MIR_CTRL.DRV_EN d)
    (hr : brings h P.MIR_CTRL.RESTART r) :
    s.hostWrite K.MIR_CTRL h = if r = 1 then (s.ctrlWritten h).mirRestart else s.ctrlWritten h := by
  obtain ⟨hw1c, hrw, hres, hwo⟩ := access_mirCtrl
  obtain ⟨⟨-, -, -, -, hask⟩, -⟩ := id ha
  have hcov := merged_cov_ne_zero s hd (hrw _ (by simp)).1 (by decide)
  have hctl : (if r = 1 then (s.ctrlWritten h).mirRestart else s.ctrlWritten h).offScanning = (s.at_ h.t).offScanning := by
    rw [apply_ite State.offScanning, State.mirRestart_offScanning, ite_self, s.ctrlWritten_offScanning]
  rw [State.hostWrite_of_no_flags ha hw1c, levelEffect_mirCtrl _ _ hcov, orderEffect_mirCtrl _ _ _ hcov,
    wordFld_merged s (by decide) hr hres hwo]
  exact State.runAsked_of_none ((of_frame hctl fun u => u.ctl.asked).trans hask)

/-- A field of MIR_CTRL holds what the write brings. -/
theorem State.fld_stored_mirCtrl {f : FieldRef} {v : Nat} (hf : f ∈ [P.MIR_CTRL.RUN, P.MIR_CTRL.DRV_EN]) (hb : brings h f v) :
    (s.stored K.MIR_CTRL h).fld f = v ∧ (wordFld (s.merged (entryOf K.MIR_CTRL h)).1 f ≠ 0) := by
  obtain ⟨-, hrw, -⟩ := access_mirCtrl
  obtain ⟨hw, hrw⟩ := hrw f hf
  have hkey : f.key = K.MIR_CTRL ∧ 2 ^ f.width - 1 ≠ 0 := by
    have hall : ∀ g ∈ [P.MIR_CTRL.RUN, P.MIR_CTRL.DRV_EN], g.key = K.MIR_CTRL ∧ 2 ^ g.width - 1 ≠ 0 := by decide
    exact hall f hf
  refine ⟨State.fld_stored hkey.1 (by decide) hb hw hrw, ?_⟩
  rw [wordFld_merged_cov s hb hw]
  exact hkey.2

/-- Before its fields act: MIR_CTRL is stored, and they wait. -/
def State.ctrlPend (s : State) (h : HostWrite) : State :=
  (s.stored K.MIR_CTRL h).ctrlKept (s.merged (entryOf K.MIR_CTRL h)).1

theorem State.ctrlWritten_of_tick (ht : s.mirror.tickAt = some (s.at_ h.t).now) :
    s.ctrlWritten h = (s.ctrlPend h).mirDrv.mirRun := if_pos ht

theorem State.ctrlWritten_of_between (ht : s.mirror.tickAt ≠ some (s.at_ h.t).now) : s.ctrlWritten h = s.ctrlPend h := if_neg ht

theorem State.ctrlPend_unmirrored (s : State) (h : HostWrite) : (s.ctrlPend h).unmirrored = (s.at_ h.t).unmirrored :=
  (State.ctrlKept_unmirrored _ _).trans (id rfl)

theorem State.fld_ctrlPend (s : State) (h : HostWrite) (f : FieldRef) : (s.ctrlPend h).fld f = (s.stored K.MIR_CTRL h).fld f :=
  State.fld_of_regs (State.ctrlKept_regs _ _) f

/-- The other parameters are as they were. -/
theorem State.ctrlPend_sameRegs (s : State) (h : HostWrite) : (s.ctrlPend h).SameRegs s [K.MIR_CTRL] := fun j hj =>
  (congrArg (planeGet · j) (State.ctrlKept_regs _ _)).trans ((s.stored_onlyRegs K.MIR_CTRL h).regs j hj)

theorem State.fld_ctrlPend_ne (s : State) (h : HostWrite) {f : FieldRef} (hf : f.key ∉ [K.MIR_CTRL]) :
    (s.ctrlPend h).fld f = s.fld f := congrArg (wordFld · f) (s.ctrlPend_sameRegs h _ hf)

theorem State.reg_ctrlPend (s : State) (h : HostWrite) : (s.ctrlPend h).reg K.MIR_CTRL = s.mergedWord K.MIR_CTRL h :=
  (congrArg (planeGet · K.MIR_CTRL) (State.ctrlKept_regs _ _)).trans (s.reg_stored K.MIR_CTRL h)

theorem State.mirSt_ctrlPend (s : State) (h : HostWrite) : (s.ctrlPend h).mirSt = s.mirSt := s.fld_ctrlPend_ne h (by decide)

/-- What waits after a write of both. -/
theorem State.ctrlPend_mirror {d r : Nat} (hd : brings h P.MIR_CTRL.DRV_EN d) (hr : brings h P.MIR_CTRL.RUN r) :
    (s.ctrlPend h).mirror =
      { s.mirror with runAt := if r = 1 then some (s.at_ h.t).now else s.mirror.runAt, drvDue := true, runDue := true } := by
  obtain ⟨-, hcd⟩ := State.fld_stored_mirCtrl (s := s) (by simp) hd
  obtain ⟨hrun, hcr⟩ := State.fld_stored_mirCtrl (s := s) (by simp) hr
  rw [State.ctrlPend, State.ctrlKept_mirror _ hcd hcr, State.bit, hrun]
  simp only [beq_iff_eq]
  rfl

theorem State.drvDue_ctrlPend {d : Nat} (hd : brings h P.MIR_CTRL.DRV_EN d) : (s.ctrlPend h).mirror.drvDue = true :=
  State.drvDue_ctrlKept _ (State.fld_stored_mirCtrl (by simp) hd).2

/-- What the write brings, as a flag. -/
theorem State.bit_ctrlPend {f : FieldRef} {v : Nat} (hf : f ∈ [P.MIR_CTRL.RUN, P.MIR_CTRL.DRV_EN]) (hb : brings h f v) :
    (s.ctrlPend h).bit f = (v == 1) := by
  rw [State.bit, s.fld_ctrlPend h f, (State.fld_stored_mirCtrl hf hb).1]

/-- DRV_EN = 1 leaves a mirror that is not OFF as it is. -/
theorem State.mirDrv_ctrlPend (hd : brings h P.MIR_CTRL.DRV_EN 1) (h0 : s.mirSt ≠ 0) :
    (s.ctrlPend h).mirDrv = (s.ctrlPend h).ticked := by
  rw [State.mirDrv_of_due (State.drvDue_ctrlPend hd), State.bit_ctrlPend (by simp) hd, if_pos (beq_self_eq_true 1)]
  exact State.tryPark_of_on ((s.mirSt_ctrlPend h).trans_ne h0)

/-- A device whose frame is another's, with the parts that the frame leaves out put back. -/
theorem State.rest_of_unmirrored {u s v : State} (hu : u.unmirrored = v.unmirrored)
    (hv : { v with regs := s.regs, mirror := s.mirror, farrier := s.farrier, out := s.out } = v := by rfl) :
    { u with regs := s.regs, mirror := s.mirror, farrier := s.farrier, out := s.out } = v :=
  (congrArg (fun x : State => { x with regs := s.regs, mirror := s.mirror, farrier := s.farrier, out := s.out }) hu).trans hv

/-- What a tick has taken reads and writes no parameter, and stands in the mirror's record. -/
theorem State.fld_runTaken (s : State) (f : FieldRef) : s.runTaken.fld f = s.fld f := s.fld_withMir _ f

theorem State.runTaken_unmirrored (s : State) : s.runTaken.unmirrored = s.unmirrored := s.withMir_unmirrored _

theorem State.ticked_unmirrored (s : State) : s.ticked.unmirrored = s.unmirrored := s.withMir_unmirrored _

/-- A RUN = 0 that has acted: the position stands, nothing has left, and MIR_STATUS alone is written. -/
theorem State.takenStopped_fields (s : State) : s.ticked.runTaken.stopped.mirror.p = s.mirror.p ∧
    s.ticked.runTaken.stopped.unmirrored = s.unmirrored ∧ s.ticked.runTaken.stopped.out = s.out ∧
    s.ticked.runTaken.stopped.SameRegs s [K.MIR_STATUS] := by
  refine ⟨?_, ?_, s.ticked.runTaken.stopped_out, fun j hj => s.ticked.runTaken.stopped_sameRegs j hj⟩
  · exact of_frame s.ticked.runTaken.stopped_offMirror fun u => u.mirror.p
  · rw [State.stopped_unmirrored, State.runTaken_unmirrored, State.ticked_unmirrored]

/-- DRV_EN = 0 that has acted, RUN after it. -/
theorem State.shutTaken_fields (s : State) : s.ticked.shut.runTaken.mirSt = 0 ∧
    s.ticked.shut.runTaken.fld P.MIR_STATUS.CAUSE = 8 ∧ s.ticked.shut.runTaken.mirror.iRef = 0 ∧
    s.ticked.shut.runTaken.mirror.drive = .off ∧ s.ticked.shut.runTaken.unmirrored = s.unmirrored ∧
    s.ticked.shut.runTaken.SameRegs s [K.MIR_STATUS] := by
  have hiRef : s.ticked.shut.mirror.iRef = 0 := by rw [s.ticked.shut_mirror]
  have hm : s.ticked.shut.runTaken.mirror = { s.ticked.shut.mirror with runDue := false } := State.withMir_mirror _ _
  have hregs : s.ticked.shut.runTaken.regs = s.ticked.shut.regs := State.withMir_regs _ _
  refine ⟨(State.fld_runTaken _ _).trans s.ticked.mirSt_shut, (State.fld_runTaken _ _).trans s.ticked.cause_shut, ?_, ?_, ?_,
    fun j hj => (congrArg (planeGet · j) hregs).trans (s.ticked.shut_sameRegs j hj)⟩
  · rw [hm, hiRef]
  · rw [hm, s.ticked.drive_shut]
  · rw [State.runTaken_unmirrored, State.shut_unmirrored, State.ticked_unmirrored]

/-- Two operations in turn leave the parameters that both leave. -/
theorem State.SameRegs.after {u v s : State} {keys keys' : List Nat} (h : u.SameRegs v keys) (h' : v.SameRegs s keys') :
    u.SameRegs s (keys' ++ keys) := fun j hj =>
  (h j fun hm => hj (List.mem_append_right _ hm)).trans (h' j fun hm => hj (List.mem_append_left _ hm))

/-! ### In the instant of a sample or tick (R231, R237, R238) -/

section
variable (ha : s.Accepts K.MIR_CTRL h) (hres : brings h P.MIR_CTRL.RESTART 0)
include ha hres

/-- A write of RUN that covers DRV_EN too. -/
theorem exec_mirrorRun {d r : Nat} (hd : brings h P.MIR_CTRL.DRV_EN d) (hr : brings h P.MIR_CTRL.RUN r) :
    exec (.mirrorRun h) s = .next (s.ctrlWritten h) := by
  obtain ⟨⟨hawake, -⟩, -⟩ := id ha
  have hw : s.hostWrite K.MIR_CTRL h = s.ctrlWritten h := (State.hostWrite_mirCtrl ha hd hres).trans (if_neg (by decide))
  rw [← hw]
  exact awake_named_next hawake (covers_of_brings hr (by decide))

theorem exec_mirrorDrvEn {d : Nat} (hd : brings h P.MIR_CTRL.DRV_EN d) :
    exec (.mirrorDrvEn h) s = .next (s.ctrlWritten h) := by
  obtain ⟨⟨hawake, -⟩, -⟩ := id ha
  have hw : s.hostWrite K.MIR_CTRL h = s.ctrlWritten h := (State.hostWrite_mirCtrl ha hd hres).trans (if_neg (by decide))
  rw [← hw]
  exact awake_named_next hawake (covers_of_brings hd (by decide))

/-- RUN = 0 spins a moving mirror down. -/
theorem mirrorRun_stopped (hr : brings h P.MIR_CTRL.RUN 0) (hd : brings h P.MIR_CTRL.DRV_EN 1)
    (ht : s.mirror.tickAt = some (s.at_ h.t).now) (hst : 2 ≤ s.mirSt ∧ s.mirSt ≤ 4) :
    ∃ u, exec (.mirrorRun h) s = .next u ∧ u.mirSt = 5 ∧ u.fld P.MIR_STATUS.CAUSE = 1 ∧ u.fld P.MIR_CTRL.RUN = 0 ∧
      u.mirror.p = s.mirror.p ∧ u.SameRegs s [K.MIR_CTRL, K.MIR_STATUS] ∧
      { u with regs := s.regs, mirror := s.mirror, farrier := s.farrier } = s.at_ h.t := by
  have hm := State.ctrlPend_mirror (s := s) hd hr
  have hbit : (s.ctrlPend h).bit P.MIR_CTRL.RUN = false := (State.bit_ctrlPend (by simp) hr).trans (by decide)
  have hrun : (s.ctrlPend h).ticked.mirRun = (s.ctrlPend h).ticked.runTaken.stopped := by
    have hoff : ¬(s.ctrlPend h).ticked.bit P.MIR_CTRL.RUN = true := Bool.eq_false_iff.mp hbit
    rw [State.mirRun_of_due (s := (s.ctrlPend h).ticked) (congrArg Mirror.runDue hm), if_neg hoff]
    exact State.spinDown_of_moving hbit ((s.mirSt_ctrlPend h).symm ▸ hst)
  have hx := exec_mirrorRun ha hres hd hr
  rw [State.ctrlWritten_of_tick ht, State.mirDrv_ctrlPend hd (by omega), hrun] at hx
  obtain ⟨hp, hframe, hout, hregs⟩ := (s.ctrlPend h).takenStopped_fields
  have hrest := State.rest_of_unmirrored (s := s) (hframe.trans (s.ctrlPend_unmirrored h))
  rw [show s.out = (s.ctrlPend h).ticked.runTaken.stopped.out from hout.symm] at hrest
  refine ⟨_, hx, State.mirSt_stopped _, State.cause_stopped _, ?_, hp.trans (by rw [hm]), hregs.after (s.ctrlPend_sameRegs h), hrest⟩
  exact (State.run_stopped _).trans ((s.fld_ctrlPend h _).trans (State.fld_stored_mirCtrl (by simp) hr).1)

/-- RUN = 1 starts a parked one. -/
theorem mirrorRun_ramping (hr : brings h P.MIR_CTRL.RUN 1) (hd : brings h P.MIR_CTRL.DRV_EN 1)
    (ht : s.mirror.tickAt = some (s.at_ h.t).now) (hst : s.mirSt = 1) (hp : s.mirror.p = 0) :
    ∃ u, exec (.mirrorRun h) s = .next u ∧ u.mirSt = 2 ∧ u.fld P.MIR_CTRL.RUN = 1 ∧ u.emit_ = s.emit_ ∧ u.sup = s.sup ∧
      u.nv = s.nv := by
  have hm := State.ctrlPend_mirror (s := s) hd hr
  have hbit : (s.ctrlPend h).bit P.MIR_CTRL.RUN = true := (State.bit_ctrlPend (by simp) hr).trans (by decide)
  have hrun : (s.ctrlPend h).ticked.mirRun = (s.ctrlPend h).ticked.runTaken.tryRamp := by
    have hon : (s.ctrlPend h).ticked.bit P.MIR_CTRL.RUN = true := hbit
    rw [State.mirRun_of_due (s := (s.ctrlPend h).ticked) (congrArg Mirror.runDue hm), if_pos hon]
  have hramp := State.tryRamp_of_parked (s := (s.ctrlPend h).ticked.runTaken) hbit ((s.mirSt_ctrlPend h).trans hst)
    ((congrArg Mirror.p hm).trans hp)
  have hfld : (s.ctrlPend h).ticked.runTaken.tryRamp.fld P.MIR_CTRL.RUN = 1 :=
    (State.run_tryRamp _).trans ((s.fld_ctrlPend h _).trans (State.fld_stored_mirCtrl (by simp) hr).1)
  have hframe := s.ctrlWritten_offScanning h
  have hx := exec_mirrorRun ha hres hd hr
  refine ⟨_, hx, ?_, ?_, of_frame hframe State.emit_, of_frame hframe State.sup, of_frame hframe State.nv⟩
  · rw [State.ctrlWritten_of_tick ht, State.mirDrv_ctrlPend hd (by omega), hrun, hramp]
    exact State.mirSt_ramping _ _
  · rw [State.ctrlWritten_of_tick ht, State.mirDrv_ctrlPend hd (by omega), hrun]
    exact hfld

/-- DRV_EN = 0 turns it OFF. -/
theorem mirrorDrvEn_off (hd : brings h P.MIR_CTRL.DRV_EN 0) (ht : s.mirror.tickAt = some (s.at_ h.t).now) (hst : s.mirSt ≠ 0) :
    ∃ u, exec (.mirrorDrvEn h) s = .next u ∧ u.mirSt = 0 ∧ u.fld P.MIR_STATUS.CAUSE = 8 ∧ u.mirror.iRef = 0 ∧
      u.mirror.drive = .off ∧ u.SameRegs s [K.MIR_CTRL, K.MIR_STATUS] ∧
      { u with regs := s.regs, mirror := s.mirror, farrier := s.farrier, out := s.out } = s.at_ h.t := by
  have hdrv : (s.ctrlPend h).mirDrv = (s.ctrlPend h).ticked.shut := by
    rw [State.mirDrv_of_due (State.drvDue_ctrlPend hd), State.bit_ctrlPend (by simp) hd, if_neg (by decide)]
    exact State.mirrorOff_of_on ((s.mirSt_ctrlPend h).trans_ne hst)
  have hx := exec_mirrorDrvEn ha hres hd
  rw [State.ctrlWritten_of_tick ht, hdrv, State.mirRun_of_off (State.mirSt_shut _)] at hx
  obtain ⟨hmir, hcause, hiRef, hdrive, hframe, hregs⟩ := (s.ctrlPend h).shutTaken_fields
  exact ⟨_, hx, hmir, hcause, hiRef, hdrive, hregs.after (s.ctrlPend_sameRegs h),
    State.rest_of_unmirrored (hframe.trans (s.ctrlPend_unmirrored h))⟩

/-- DRV_EN = 1 with a fresh sample parks it. -/
theorem mirrorDrvEn_parked {n : AngSample} (hd : brings h P.MIR_CTRL.DRV_EN 1) (ht : s.mirror.tickAt = some (s.at_ h.t).now)
    (hst : s.mirSt = 0) (hn : s.mirror.n = some n) (hfresh : (s.at_ h.t).now ≤ n.arrived + 1000 * s.fld P.MIR_TOL.STALE_US) :
    ∃ u, exec (.mirrorDrvEn h) s = .next u ∧ (u.mirSt = 1 ∨ u.mirSt = 2) ∧ u.emit_ = s.emit_ ∧ u.sup = s.sup ∧ u.nv = s.nv := by
  have hbit := State.bit_ctrlPend (s := s) (by simp) hd
  have hstale : (s.ctrlPend h).fld P.MIR_TOL.STALE_US = s.fld P.MIR_TOL.STALE_US := s.fld_ctrlPend_ne h (by decide)
  have hpark : (s.ctrlPend h).ticked.tryPark = (s.ctrlPend h).ticked.parkFromRest :=
    State.tryPark_of_fresh (s := (s.ctrlPend h).ticked) ((s.mirSt_ctrlPend h).trans hst) (hbit.trans (beq_self_eq_true 1)) hn
      (by rw [State.ticked, State.fld_withMir, hstale]; exact hfresh)
  have hdrv : (s.ctrlPend h).mirDrv = (s.ctrlPend h).ticked.parkFromRest := by
    rw [State.mirDrv_of_due (State.drvDue_ctrlPend hd), hbit, if_pos (beq_self_eq_true 1), hpark]
  have hframe := s.ctrlWritten_offScanning h
  refine ⟨_, exec_mirrorDrvEn ha hres hd, ?_, of_frame hframe State.emit_, of_frame hframe State.sup, of_frame hframe State.nv⟩
  rw [State.ctrlWritten_of_tick ht, hdrv]
  exact State.mirSt_mirRun_parkFromRest _

end

/-! ### Outside such an instant (R248) -/

/-- A write of both is stored, and kept for the next one. -/
theorem ctrlWritten_kept {d r : Nat} (hr : brings h P.MIR_CTRL.RUN r) (hd : brings h P.MIR_CTRL.DRV_EN d)
    (ht : s.mirror.tickAt ≠ some (s.at_ h.t).now) :
    (s.ctrlWritten h).mirror =
      { s.mirror with runAt := if r = 1 then some (s.at_ h.t).now else s.mirror.runAt, drvDue := true, runDue := true } ∧
    (s.ctrlWritten h).reg K.MIR_CTRL = s.mergedWord K.MIR_CTRL h ∧ (s.ctrlWritten h).SameRegs s [K.MIR_CTRL] ∧
    { s.ctrlWritten h with regs := s.regs, mirror := s.mirror } = s.at_ h.t := by
  rw [State.ctrlWritten_of_between ht]
  exact ⟨State.ctrlPend_mirror hd hr, s.reg_ctrlPend h, s.ctrlPend_sameRegs h, id rfl⟩

/-! ### RESTART (R237) and RC_CLEAR (R244) -/

/-- What passes check 10 is refused by no rule. -/
theorem State.ruleRefuses_of_entryStatus {e : Entry} (he : s.entryStatus e = none) (hc : (s.merged e).1 ≠ 0) :
    s.ruleRefuses e.key (s.merged e).1 (s.merged e).2 = false := by
  have hrange := State.rangeStatus_of_entryStatus he
  simp only [State.entryStatus, hrange] at he
  split at he
  · cases he
  · next hn =>
    simp only [Bool.or_eq_true, Bool.and_eq_true, not_or, not_and] at hn
    exact Bool.eq_false_iff.mpr (hn.1 (decide_eq_true hc))

/-- A RESTART that no rule refuses finds the mirror in BLIND_PARK or FAULT. -/
theorem State.mirSt_of_rule {cov new : Word} (hrule : s.ruleRefuses K.MIR_CTRL cov new = false)
    (hnew : wordFld new P.MIR_CTRL.RESTART = 1) : s.mirSt = 6 ∨ s.mirSt = 7 := by
  have hok : (wordFld new P.MIR_CTRL.RESTART == 1 && !(s.setReg K.MIR_CTRL new).mirRestartOk) = false :=
    (Bool.or_eq_false_iff.mp hrule).2
  have hst : (s.setReg K.MIR_CTRL new).mirSt = s.mirSt :=
    congrArg (wordFld · P.MIR_STATUS.STATE) (State.reg_setReg_ne s new (by decide))
  rw [hnew, beq_self_eq_true, Bool.true_and, Bool.not_eq_false'] at hok
  simp only [State.mirRestartOk, Bool.and_eq_true, Bool.or_eq_true, beq_iff_eq, hst] at hok
  exact hok.1.1.1

/-- The checks pass a RESTART only there. -/
theorem State.mirSt_of_restart (ha : s.Accepts K.MIR_CTRL h) (hres : brings h P.MIR_CTRL.RESTART 1) : s.mirSt = 6 ∨ s.mirSt = 7 := by
  obtain ⟨-, -, hw, hwo⟩ := access_mirCtrl
  obtain ⟨-, -, -, hpass⟩ := ha
  have hcov := merged_cov_ne_zero (s.at_ h.t) hres hw (by decide)
  have hnew := wordFld_merged (s.at_ h.t) (by decide) hres hw hwo
  have hrule := State.ruleRefuses_of_entryStatus (State.entryStatus_of_entriesFail hpass) hcov
  rw [entryOf_key] at hrule
  exact State.mirSt_of_rule (s := s.at_ h.t) hrule hnew

theorem State.mirSt_mirRestart (s : State) : s.mirRestart.mirSt = 1 ∨ s.mirRestart.mirSt = 2 := State.mirSt_parkFromRest _

theorem mirrorRestart_parked (ha : s.Accepts K.MIR_CTRL h) (hd : brings h P.MIR_CTRL.DRV_EN 1)
    (hres : brings h P.MIR_CTRL.RESTART 1) : ∃ u, exec (.mirrorRestart h) s = .next u ∧ (s.mirSt = 6 ∨ s.mirSt = 7) ∧
      (u.mirSt = 1 ∨ u.mirSt = 2) ∧ u.emit_ = s.emit_ ∧ u.sup = s.sup ∧ u.nv = s.nv := by
  obtain ⟨⟨hawake, -⟩, -⟩ := id ha
  have hw : s.hostWrite K.MIR_CTRL h = (s.ctrlWritten h).mirRestart := (State.hostWrite_mirCtrl ha hd hres).trans (if_pos rfl)
  have hframe : (s.ctrlWritten h).mirRestart.offScanning = (s.at_ h.t).offScanning :=
    (State.mirRestart_offScanning _).trans (s.ctrlWritten_offScanning h)
  refine ⟨_, awake_named_next hawake (hits_of_brings hres), State.mirSt_of_restart ha hres, ?_, ?_⟩
  · rw [hw]
    exact State.mirSt_mirRestart _
  · rw [hw]
    exact ⟨of_frame hframe State.emit_, of_frame hframe State.sup, of_frame hframe State.nv⟩

theorem rcClear_cleared (ha : s.Accepts K.MIR_RC h) (hc : brings h P.MIR_RC.RC_CLEAR 1) : ∃ u, exec (.rcClear h) s = .next u ∧
    u.mirror = { s.mirror with table := [] } ∧ u.reg K.MIR_RC = s.mergedWord K.MIR_RC h ∧ u.SameRegs s [K.MIR_RC] ∧
    { u with regs := s.regs, mirror := s.mirror } = s.at_ h.t := by
  obtain ⟨⟨hawake, -, -, -, hask⟩, -⟩ := id ha
  have hcov := merged_cov_ne_zero (key := K.MIR_RC) s hc (by decide +kernel) (by decide)
  have hw : s.hostWrite K.MIR_RC h = (s.stored K.MIR_RC h).rcLimit.rcClear := by
    rw [State.hostWrite_of_no_flags ha (by decide +kernel), levelEffect_mirRc _ _ hcov, orderEffect_mirRc _ _ _ hcov,
      wordFld_merged s (by decide) hc (by decide +kernel) (by decide +kernel), if_pos rfl]
    exact State.runAsked_of_none hask
  have hregs : (s.stored K.MIR_RC h).rcLimit.rcClear.regs = (s.stored K.MIR_RC h).regs := by
    rw [State.rcClear, State.withMir_regs, State.rcLimit, State.withMir_regs]
  have hreg : ∀ j, (s.stored K.MIR_RC h).rcLimit.rcClear.reg j = (s.stored K.MIR_RC h).reg j := fun j =>
    congrArg (planeGet · j) hregs
  refine ⟨_, awake_named_next hawake (hits_of_brings hc), ?_⟩
  rw [hw, hreg]
  exact ⟨id rfl, s.reg_stored K.MIR_RC h, fun j hj => (hreg j).trans ((s.stored_onlyRegs K.MIR_RC h).regs j hj), id rfl⟩

end

/-- Settles O26: a write of MIR_CTRL leaves `State.ctrlWritten`; in the instant of a sample or tick its fields have acted there, and
outside one they wait. -/
theorem mirrorWrites : Obligations.MirrorWrites := by
  unfold Obligations.MirrorWrites
  refine ⟨?_, ?_, ?_, ?_, ?_, ?_, ?_, ?_⟩
  · intro s h ha hr hd hres ht h2 h4
    exact mirrorRun_stopped ha hres hr hd ht ⟨h2, h4⟩
  · intro s h ha hr hd hres ht hst hp
    exact mirrorRun_ramping ha hres hr hd ht hst hp
  · intro s h ha hd hres ht hst
    exact mirrorDrvEn_off ha hres hd ht hst
  · intro s h n ha hd hres ht hst hn hfresh
    exact mirrorDrvEn_parked ha hres hd ht hst hn hfresh
  · intro s h ha hd hres
    exact mirrorRestart_parked ha hd hres
  · intro s h ha hc
    exact rcClear_cleared ha hc
  · intro s h ha hr hd hres ht
    exact ⟨_, exec_mirrorRun ha hres hd hr, ctrlWritten_kept hr hd ht⟩
  · intro s h ha hd hr hres ht
    exact ⟨_, exec_mirrorDrvEn ha hres hd, ctrlWritten_kept hr hd ht⟩

end Sys2Proof.Machine
end
